-- ==== Sys2Proof/Word.lean ====
section
/-! DEFINITION. The word types of the package: what its rules treat as words of bits. -/
namespace Sys2Proof

/-- One byte of memory, of a frame or of a payload. -/
abbrev Byte := BitVec 8

/-- One 32-bit lane of a vector register or one element of a tile (R292). -/
abbrev Lane := BitVec 32

/-- An address-scalar register A0-A15: 48 bits (R322). -/
abbrev AWord := BitVec 48

/-- A predicate register P0-P7: one bit a lane (R322). -/
abbrev Pred := BitVec 64

/-- The bits of `v` from `lo` upwards, `w` of them, as a number. -/
def bitsOf (v lo w : Nat) : Nat := v / 2 ^ lo % 2 ^ w

/-- One bit of `v`. -/
def bitOf (v i : Nat) : Bool := v / 2 ^ i % 2 == 1

/-- The signed value of the low `w` bits of `v` (two's complement). -/
def signedOf (w v : Nat) : Int :=
  if v % 2 ^ w < 2 ^ (w - 1) then (v % 2 ^ w : Nat) else (v % 2 ^ w : Nat) - (2 ^ w : Nat)

/-- The two's complement of an integer in `w` bits. -/
def toBits (w : Nat) (x : Int) : Nat := (x % (2 ^ w : Nat)).toNat

/-- An integer held between two bounds. -/
def clampInt (lo hi x : Int) : Int := if x < lo then lo else if hi < x then hi else x

/-- A bit as a number. -/
def bit (b : Bool) : Nat := if b then 1 else 0

end Sys2Proof
end

