-- ==== Sys2Proof/Syntax.lean ====
section
/-! DEFINITION. The commands and events of the package, one constructor for each row of the table of
operations and events, with their operands. -/
namespace Sys2Proof

/-- The two reference domains. -/
inductive Dom
  | a | b
  deriving DecidableEq, Repr

/-- The bit that names a domain: 0 A, 1 B. -/
def Dom.num : Dom → Nat
  | .a => 0
  | .b => 1

/-- The other domain. -/
def Dom.other : Dom → Dom
  | .a => .b
  | .b => .a

/-- The two requesters of the CSR window and their banks (R459, R467): the management core (bank 0) and the
companion over the Urdal link (bank 1). -/
inductive Bank
  | mgmt | link
  deriving DecidableEq, Repr

/-- A requester's bank number (R467). -/
def Bank.num : Bank → Nat
  | .mgmt => 0
  | .link => 1

/-- What the port takes from a PTP Announce message (R81): the sender, its message interval as log2 s, and the data
set that the best master comparison ranks, with the UTC report. -/
structure AnnounceMsg where
  sender    : Nat
  logPeriod : Int
  priority1 : Nat
  clkClass  : Nat
  accuracy  : Nat
  variance  : Nat
  priority2 : Nat
  gm        : Nat
  steps     : Nat
  utcOffset : Int
  utcValid  : Bool
  leap61    : Bool
  leap59    : Bool
  deriving DecidableEq, Repr

/-- The registers of a pulse output that hold its mode, width and period (R72). -/
inductive TpoReg
  | ctrl | frac | period
  deriving DecidableEq, Repr

/-- A radiation upset that an access finds in a memory's check bits (R300, R353): a byte address in the block or the
word, and whether it is uncorrectable. -/
structure Upset where
  addr : Nat
  hard : Bool
  deriving DecidableEq, Repr

/-- The registers of a receive ring that configure it (R367). -/
inductive RingReg
  | baseLo | baseHi | cfg
  deriving DecidableEq, Repr

/-- The registers of a fell stream (R368, R369). -/
inductive FellReg
  | baseLo | baseHi | len | cfg | cur | stripe
  deriving DecidableEq, Repr

/-- Who waits for a slot buffer (R115): a cluster's QGET, or an engine's QUEUE copy. -/
inductive Waiter
  | cluster (c : Fin 2048)
  | engine (e : Fin 80)
  deriving DecidableEq, Repr

/-- An upset that a read of a leaf entry finds (R130): in the worn leaf or the table leaf, the entry, and whether it is
uncorrectable. -/
structure LeafUpset where
  worn  : Bool
  index : Nat
  hard  : Bool
  deriving DecidableEq, Repr

/-- The table leaf's cycle, align and maintenance registers (R106). -/
inductive LeafReg
  | cycle | maint | alignLo | alignHi
  deriving DecidableEq, Repr

/-- What a cycle's conversions give the Jig of a drop-port monitor (R172, R177): for the ON and the OFF bin the in-phase
lock-in amplitude, the charge, and the integration time in ns. -/
structure LoopMeas where
  loop : Nat
  xOn  : Int
  qOn  : Nat
  tOn  : Nat
  xOff : Int
  qOff : Nat
  tOff : Nat
  deriving DecidableEq, Repr

/-- One result of a conversion (R171): the channel as ED<d>.CH_SEL numbers it, its value in full scale / 2^23, and
whether it reached full scale. -/
structure ChannelResult where
  channel : Nat
  value   : BitVec 24
  full    : Bool
  deriving DecidableEq, Repr

/-- A lane block as received (R268): the sender's physical lane, the logical lane carried, REQ, ACK, BACK, QLANE. -/
structure LaneBlock where
  plane : Nat
  llane : Nat
  req   : Nat
  ack   : Bool
  back  : Bool
  qlane : Nat
  deriving DecidableEq, Repr

/-- What a receiver finds where a slot may arrive (R152, R271): nothing; on an optical port a slot marker in the
window, with the phase and gain found at it; on a copper link a framed slot or filler that has passed `hops` TRANSIT
hops, with its lane blocks. -/
inductive Arrival
  | dark
  | optical (phase : BitVec 6) (gain : BitVec 4)
  | copper (hops : BitVec 2) (filler : Bool) (blocks : List LaneBlock)
  deriving DecidableEq, Repr

/-- A codeword as the decoder gives it (R144): its 320 bytes, the symbols and the bits that correction changed; or
reported uncorrectable. -/
inductive Codeword
  | good (bytes : List Byte) (symbols bits : Nat)
  | bad
  deriving DecidableEq, Repr

/-- What befalls a codeword's payload words in the packing FIFO (R155-R157), by their number in it: those that find it
full, those whose check is uncorrectable, and how many were corrected. -/
structure FifoFault where
  lost   : List Nat := []
  spoilt : List Nat := []
  fixed  : Nat := 0
  deriving DecidableEq, Repr

/-- The powers of a port, measured over the last frame (R158): in 0.01 dB relative to its calibration reference. -/
structure PortPower where
  port : Nat
  tx   : Int
  rx   : Int
  deriving DecidableEq, Repr

/-- An identity block as received (R274): the sender's node and link, the logical lane that its spare carries
permanently, its versions, its serial, and the first 16 bytes of its cutting list's digest. -/
structure IdBlock where
  node     : Nat
  link     : Nat
  spare    : Nat
  verMinor : Nat
  verMajor : Nat
  fw       : Nat
  serial   : Nat
  digest   : Nat
  deriving DecidableEq, Repr

/-- A receive lane on which valid identity blocks arrive (R274, R277): its number, the peer's physical lane, and whether
its polarity is inverted. -/
structure LaneId where
  rx     : Nat
  plane  : Nat
  invert : Bool
  deriving DecidableEq, Repr

/-- A drop peak of a calibration sweep (R244, R245): the demand recorded, and CM_e and f_trk in its cycle; powers in units
of 2^-20 uW, the track in 2^-10 MHz. -/
structure PeakMeas where
  demand : Int
  cm     : Int
  trk    : Int
  deriving DecidableEq, Repr

/-- What a calibration run measured (R238, R244-R250). Efficiency and resistance in hundredths, dark offset in 0.1 nA,
eye in mUI and 0.1 mV, latencies and residuals in ps, the rms and the asymmetry in 0.1 ps, code widths in 0.01 step. -/
inductive CalResult
  | ring (peaks : List PeakMeas) (dark rh : Nat) (slope gOn gOff : Int) (peak phi : Nat) (column : List (Nat × Int))
  | locked (resid : Nat)
  | lane (width height : Nat) (tx rx : Int) (trims : List Int)
  | tdc (largest smallest : Nat) (table : List Int)
  | link (tx rx : Int) (rms : Nat) (ft asym : Int) (pairs : Nat)
  | offsets (values : List Int)
  | done
  deriving DecidableEq, Repr

/-- The companion's parameter block (R405): its major version, the widths accepted and the credits offered. -/
structure UlParams where
  major  : Nat
  wide   : Bool
  narrow : Bool
  req    : Nat
  snp    : Nat
  rsp    : Nat
  dat    : Nat
  deriving DecidableEq, Repr

/-- Why the Urdal link recovers (R405). -/
inductive UlCause
  | naks | lane | protocol
  deriving DecidableEq, Repr

/-- What the board's programmer puts into the firmware and cutting-list slots of NVM, as their first bytes (R439). -/
structure NvmSlots where
  fw0 : List Byte
  fw1 : List Byte
  cl0 : List Byte
  cl1 : List Byte
  deriving DecidableEq, Repr

/-- A radiation upset of one bit of a register (R479, R482): its offset, the instance that a selector or a bank shows, and
the bit. -/
structure RegUpset where
  off  : Nat
  inst : Nat
  bit  : Nat
  deriving DecidableEq, Repr


/-- The commands: one constructor for each row of the table of operations and events, in its order. -/
inductive Instr
  /-- FRAME_BOUNDARY (R60): At each frame boundary the Gauge updates its estimated error, gates, domain switch, correction slew and state transitions. -/
  | frameBoundary (frame : Nat) (powers : List PortPower)
  /-- SLOT_GATE_RISE (R62): A slot gate rises after EST_ERR has stayed below its rise threshold for 4 consecutive frame boundaries. -/
  | slotGateRise (copper : Bool)
  /-- REFPLS_EDGE (R42): A frame pulse edge on REFPLS_A or REFPLS_B is captured and judged against the capture window. -/
  | refplsEdge (d : Dom) (t : Nat)
  /-- PULSE_WINDOW_CLOSE (R41): A domain's capture window closes without an in-window edge and the frame counts as a miss. -/
  | pulseWindowClose (d : Dom) (frame : Nat)
  /-- DOMAIN_QUALIFY (R40): A domain becomes valid after PLS_GOOD consecutive in-window pulses with its other conditions met. -/
  | domainQualify (d : Dom) (ppm : Bool)
  /-- DOMAIN_DISQUALIFY (R41): A domain becomes invalid after PLS_MISS consecutive misses or a failed validity condition. -/
  | domainDisqualify (d : Dom) (ppm : Bool)
  /-- GEAR_COMPLETE (R46): After GEAR.FRAMES frames in SETTLE with the domain valid the Gauge enters LOCKED in tracking gear. -/
  | gearComplete
  /-- DISAGREEMENT (R47): After 8 frames of e_ref beyond 2 ns the package disqualifies the domain or enters RESEAT. -/
  | disagreement
  /-- REVERT (R57): With REVERT set, the preferred domain valid for REVERT.FRAMES frames causes a switch back to it. -/
  | revert
  /-- REFCLK_GAP (R39): A reference gap of 100 ns or more moves the DCO to the other domain's REFCLK or holds its control word. -/
  | refclkGap (d : Dom) (t : Nat)
  /-- DCO_LOCK (R39): The DCO completes lock to the active domain's REFCLK. -/
  | dcoLock (d : Dom) (t : Nat)
  /-- SETTLE_ENTRY (R46): With ENABLE set, REFCLK present and a PTP offset within 1 us, the Gauge leaves FREE, loads SEC and NS and enters SETTLE. -/
  | settleEntry (t : Nat)
  /-- RESEAT (R48): GAUGE.CMD.RESEAT puts the Gauge into RESEAT or is refused. -/
  | reseat
  /-- TO_A (R57): GAUGE.CMD.TO_A requests a switch to domain A or is refused. -/
  | toA
  /-- TO_B (R57): GAUGE.CMD.TO_B requests a switch to domain B or is refused. -/
  | toB
  /-- LOOP_HOLD (R46): A write of GAUGE.CTRL.LOOP_HOLD opens or closes the discipline loop and moves the Gauge into or out of HOLDOVER. -/
  | loopHold (hold : Bool)
  /-- GAUGE_COEF_WRITE (R45): A write to GAUGE.LOOP_ACQ or LOOP_TRK takes effect only in FREE or with LOOP_HOLD set, and is otherwise refused. -/
  | gaugeCoefWrite (trk : Bool) (value : BitVec 32)
  /-- SYNC (R81): A received PTP Sync message is stamped and acted on or ignored. -/
  | sync (p : Dom) (t : Nat) (twoStep : Bool) (domain : Nat) (sender : Nat) (seqId : Nat)
  /-- FOLLOW_UP (R83): A received Follow_Up completes a PTP sample and its servo offset is formed. -/
  | followUp (p : Dom) (t : Nat) (domain : Nat) (sender : Nat) (seqId : Nat) (origin : Nat)
  /-- DELAY_REQ (R84): The time port sends a Delay_Req and queues its transmit stamp. -/
  | delayReq (p : Dom) (t : Nat) (seqId : Nat)
  /-- DELAY_RESP (R81): A received Delay_Resp completes a delay exchange and updates meanPathDelay. -/
  | delayResp (p : Dom) (t : Nat) (domain : Nat) (seqId : Nat) (receive : Nat)
  /-- ANNOUNCE (R81): A received Announce message feeds best master selection and UTC reporting. -/
  | announce (p : Dom) (t : Nat) (domain : Nat) (m : AnnounceMsg)
  /-- ANNOUNCE_RECEIPT_TIMEOUT (R527): No Announce for 3 intervals deselects the grandmaster and the port returns to LISTENING. -/
  | announceReceiptTimeout (p : Dom) (t : Nat)
  /-- PTP_SAMPLE_TIMEOUT (R83): No completed pair in 2 s records a void sample. -/
  | ptpSampleTimeout (p : Dom) (t : Nat)
  /-- TPO_ARM (R68): TIO.TPO<n>_CTRL.ARM arms a pulse output in its mode or is refused. -/
  | tpoArm (n : Fin 8)
  /-- TPO_DISARM (R68): TIO.TPO<n>_CTRL.DISARM cancels the output's uncommitted edges. -/
  | tpoDisarm (n : Fin 8)
  /-- TPO_CONFIG_WRITE (R72): A write to a pulse output's mode, period or width is checked and refused if it breaks the period and width rules, and a mode change disarms. -/
  | tpoConfigWrite (n : Fin 8) (reg : TpoReg) (value : BitVec 32)
  /-- TPO_START_WRITE (R70): A write to START of an armed once-mode output moves its edge or disarms it as late. -/
  | tpoStartWrite (n : Fin 8) (hi : Bool) (value : BitVec 32)
  /-- TPO_EDGE_COMMIT (R69): An edge is committed 1,000 ns before its instant under the registers then held. -/
  | tpoEdgeCommit (n : Fin 8) (t : Nat)
  /-- TPO_EDGE (R71): A committed edge is placed on TPOn or skipped if too close to the previous pulse. -/
  | tpoEdge (n : Fin 8) (t : Nat)
  /-- TPO_IDLE_RETURN (R68): WIDTH ns after an edge the output returns to its idle level. -/
  | tpoIdleReturn (n : Fin 8) (t : Nat)
  /-- TCI_EDGE (R74): A qualifying edge on an enabled TCIn is stamped into its FIFO or lost. -/
  | tciEdge (n : Fin 4) (t : Nat) (rising : Bool)
  /-- TCI_CAP_SELECT (R76): A mailbox selection of TIO.CAP<n> removes and presents the oldest stamp and updates CAP_LAST. -/
  | tciCapSelect (n : Fin 4) (b : Bank)
  /-- TXQ_SELECT (R84): A mailbox selection of TIO.TP<p>_TXQ removes the oldest transmit stamp. -/
  | txqSelect (p : Dom) (b : Bank)
  /-- JOB_START_TRIGGER (R78): A job-start trigger reaches its start hall time and fires to the compute dies, or is missed. -/
  | jobStartTrigger (j : Fin 8) (t : Nat)
  /-- JIG_CYCLE_BOUNDARY (R175): At each 10 us Jig cycle boundary heater codes are applied and computed ring state changes take effect, or an overrun is counted. -/
  | jigCycleBoundary (k : Nat)
  /-- CONVERSION_START (R80): An integrating-amplifier conversion start is placed at its assigned hall time. -/
  | conversionStart (c j : Nat)
  /-- CONVERSION_RESULT (R174): Conversion results arrive at the Jig from the edge dies. -/
  | conversionResult (die : Fin 2) (rs : List ChannelResult)
  /-- JIG_COMPUTE (R174): After the last conversion of a cycle arrives, the Jig computes discipline, track filters, common mode, ring loops, crosstalk and codes. -/
  | jigCompute (c : Nat) (ms : List LoopMeas) (voltA voltB : BitVec 16)
  /-- RING_JUMP_DONE (R187): After JUMP_CYC cycles in JUMP the ring's loop closes in CAPTURE. -/
  | ringJumpDone (l : Fin 176)
  /-- RING_LOCK (R187): Error within LOCK_WIN for LOCK_CNT cycles moves a capturing ring to LOCKED or MISLOCK by the window test. -/
  | ringLock (l : Fin 176)
  /-- RING_CAPTURE_LIMIT (R187): CAP_LIM cycles in CAPTURE send the ring to SWEEP. -/
  | ringCaptureLimit (l : Fin 176)
  /-- RING_UNLOCK (R187): Error beyond UNLOCK_WIN for UNLOCK_CNT cycles returns a locked ring to CAPTURE. -/
  | ringUnlock (l : Fin 176)
  /-- RING_WINDOW_FAIL (R189): A window test failing for WIN_CNT cycles sends a locked ring to MISLOCK. -/
  | ringWindowFail (l : Fin 176)
  /-- RING_CLAMP_FAULT (R187): An output clamped for 100 consecutive cycles sends the ring to FAULT. -/
  | ringClampFault (l : Fin 176)
  /-- HEATER_COMPLIANCE (R168): A heater channel at compliance for 3 consecutive cycles is reported as a DAC fault. -/
  | heaterCompliance (l : Fin 176)
  /-- TAKEOVER_RELEASE (R192): At the second cycle boundary after the covered ring locks the Jig sets B_FOR to 15 and parks B. -/
  | takeoverRelease (p : Fin 16)
  /-- MISLOCK_COUNT_RESET (R193): A ring's MISLOCKS count returns to zero after 10 s continuously LOCKED. -/
  | mislockCountReset (l : Fin 176) (t : Nat)
  /-- VERIFY_PROBE_SEND (R190): The port engine sends a verification probe from an unverified locked ring in a qualifying probe slot. -/
  | verifyProbeSend (p : Fin 16) (n : Nat)
  /-- VERIFY_TIMEOUT (R190): A ring not verified within TRIES probes or LIMIT us stays LOCKED unverified. -/
  | verifyTimeout (l : Fin 176) (t : Nat)
  /-- L_CMD_HOLD (R187): JIG.L_CMD.HOLD freezes the selected ring's demand in HOLD. -/
  | lCmdHold (b : Bank)
  /-- L_CMD_RELEASE (R187): JIG.L_CMD.RELEASE returns a held ring to CAPTURE with continuous demand. -/
  | lCmdRelease (b : Bank)
  /-- L_CMD_JUMP (R187): JIG.L_CMD.JUMP sends the ring to JUMP at its feed-forward. -/
  | lCmdJump (b : Bank)
  /-- L_CMD_SWEEP (R187): JIG.L_CMD.SWEEP sends the ring to SWEEP from its park value. -/
  | lCmdSweep (b : Bank)
  /-- L_CMD_RESET (R187): JIG.L_CMD.RESET returns a ring from FAULT to PARKED. -/
  | lCmdReset (b : Bank)
  /-- JIG_COEF_WRITE (R185): A write to JIG.L_GAIN or L_DITH takes effect only while the loop is PARKED, HOLD or FAULT. -/
  | jigCoefWrite (b : Bank) (dith : Bool) (value : BitVec 32)
  /-- CMAT_COMMIT (R184): JIG.CMAT_CMD.COMMIT makes an engine's shadow crosstalk bank active. -/
  | cmatCommit (engines : BitVec 4)
  /-- CMAT_COPY (R184): JIG.CMAT_CMD.COPY copies an engine's active bank into the shadow. -/
  | cmatCopy (engines : BitVec 4)
  /-- POSTED_WRITE_DONE (R472): A posted write takes effect and the block's BUSY bit falls. -/
  | postedWriteDone (d : Fin 2)
  /-- SLOT_CUTOFF (R87): At S minus 512 ns the slot's action on every link is fixed from the worn leaf, queues, gates and ring states. -/
  | slotCutoff (n : Nat)
  /-- SLOT_START (R135): At slot start each optical port drives its OSEL code and each link begins sending the slot, idle slot or filler. -/
  | slotStart (n : Nat) (res : List (Nat × Int))
  /-- SLOT_END (R117): At S plus 256 ns the bound payload's buffer or pockets are freed. -/
  | slotEnd (n : Nat)
  /-- SLOT_ARRIVAL (R152): A receive claim's framing window is searched for the slot marker and the slot is framed or counted dark. -/
  | slotArrival (l : Fin 22) (n : Nat) (a : Arrival)
  /-- PHASE_CACHE_INVALID (R153): A sender failing framing in 4 consecutive claims invalidates its cache entry. -/
  | phaseCacheInvalid (p : Fin 16) (j : Fin 32)
  /-- HEADER_DECODE (R150): The slot header codeword decodes and the slot is checked, dropped or accepted for delivery. -/
  | headerDecode (l : Fin 22) (n : Nat) (w : Codeword) (delay : Int) (f : FifoFault) (ups : List Upset)
  /-- CODEWORD_DECODE (R144): A data codeword decodes 64 ns after its last symbol and its bytes are written, added, forwarded or marked failed. -/
  | codewordDecode (l : Fin 22) (n word : Nat) (w : Codeword) (f : FifoFault) (ups : List Upset)
  /-- RELAY_COMMIT (R127): A relayed payload is committed to its target send queue at the slot's delivery time. -/
  | relayCommit (l : Fin 22) (n : Nat)
  /-- TBL_HI_WRITE (R104): A write of PB.TBL_HI stores a table-leaf entry and advances the index. -/
  | tblHiWrite (value : BitVec 32)
  /-- LEAF_REGISTER_WRITE (R106): A write to a table-leaf cycle, align or maintenance register is a change that returns the leaf to LOADING. -/
  | leafRegisterWrite (reg : LeafReg) (value : BitVec 32)
  /-- PB_LOAD (R105): PB.CMD.LOAD starts loading table-leaf entries from memory or is refused. -/
  | pbLoad
  /-- LEAF_LOAD_DONE (R105): A leaf load from memory completes, or stops at a failing entry and marks the leaf. -/
  | leafLoadDone (ups : List Upset)
  /-- PB_CLEAR (R105): PB.CMD.CLEAR zeroes the table leaf, cancels a load and removes a failed-load mark. -/
  | pbClear
  /-- PB_CHECK (R101): PB.CMD.CHECK starts the leaf checker on the table leaf. -/
  | pbCheck
  /-- CHECK_COMPLETE (R101): The leaf checker ends, setting the leaf READY or REJECTED with a reason. -/
  | checkComplete (ups : List LeafUpset)
  /-- PB_ARM (R108): PB.CMD.ARM arms a leaf switch at slot N or is refused. -/
  | pbArm
  /-- PB_CANCEL (R113): PB.CMD.CANCEL disarms an armed switch or clears MISSED. -/
  | pbCancel
  /-- SWITCH_DECISION (R109): At slot N minus 4,096 an armed switch commits if the table leaf is READY, else is missed. -/
  | switchDecision (slot : Nat)
  /-- LEAF_SWITCH (R110): At slot N the table leaf becomes worn and the old worn leaf goes to the table. -/
  | leafSwitch (slot : Nat)
  /-- PB_SCRUB (R130): The Pattern Book scrubber reads every word of both leaves and corrects or faults. -/
  | pbScrub (ups : List LeafUpset)
  /-- WARDROBE_WRITE (R138): A write to a port's wardrobe registers relocks or parks rings, or is refused for duplicate colours. -/
  | wardrobeWrite (p : Fin 16) (hi : Bool) (value : BitVec 32)
  /-- SPARE_WRITE (R139): A write to P<q>_SPARE assigns B or S to a wardrobe index, or is refused. -/
  | spareWrite (p : Fin 16) (value : BitVec 32)
  /-- PROBE_GO (R160): OPE<e>.PROBE_CMD.GO requests a colour probe from a named ring or is refused while pending. -/
  | probeGo (e : Fin 4) (value : BitVec 32)
  /-- PROBE_SEND (R161): A probe slot is sent in the router index's probe slot when its conditions hold. -/
  | probeSend (p : Fin 16) (n : Nat)
  /-- PROBE_RX (R162): A port framing a probe in a QUIET slot sends a reply in the reply slot. -/
  | probeRx (p : Fin 16) (n : Nat) (phase : BitVec 6) (gain : BitVec 4) (w : Codeword)
  /-- PROBE_REPLY_RX (R163): A reply or own loopback probe sets the probe's outcome LOOP, MATCH or MISMATCH. -/
  | probeReplyRx (p : Fin 16) (n : Nat) (w : Codeword)
  /-- PROBE_NO_REPLY (R163): The reply slot ends without a framed reply and the outcome is NO_REPLY. -/
  | probeNoReply (p : Fin 16) (n : Nat)
  /-- PROBE_NOT_SENT (R163): 64 probe slots pass without the probe conditions and the outcome is NOT_SENT. -/
  | probeNotSent (e : Fin 4) (t : Nat)
  /-- RCB_STAGE_WRITE (R200): A write to CAL.RCB_WARD stages a wardrobe, or is refused or frozen. -/
  | rcbStageWrite (p : Fin 16) (hi : Bool) (value : BitVec 32)
  /-- RCB_ARM (R201): CAL.RCB_CMD.ARM arms a re-cable at the PB switch slot or is refused. -/
  | rcbArm
  /-- RCB_CANCEL (R202): CAL.RCB_CMD.CANCEL disarms an uncommitted re-cable. -/
  | rcbCancel
  /-- RECABLE_START (R206): At slot R the staged wardrobes are copied, basting rings freed and changed rings jump or sweep. -/
  | recableStart
  /-- RECABLE_PHASE (R204): The re-cable moves between its LOCK, VERIFY, LEARN and MARGIN phases at fixed slots. -/
  | recablePhase
  /-- LEARNING_SLOT (R208): In a learning slot every port with a locked ring of the colour sends an idle slot and every port learns its sender's phase. -/
  | learningSlot (n : Nat) (found : List (Nat × Nat × Nat))
  /-- RECABLE_END (R210): At E the re-cable ends DONE and records its result counts. -/
  | recableEnd
  /-- RING_REPLACE (R214): MC0 replaces a worn W ring with its spare S through a basting-ring handover. -/
  | ringReplace (p : Fin 16) (n : Fin 8)
  /-- CHANNEL_FAULT_SPARE (R217): MC0 maps a spare heater or monitor channel over a faulted one and relocks the ring. -/
  | channelFaultSpare (monitor : Bool) (l : Fin 176)
  /-- PORT_FAILED (R218): MC0 declares an optical port failed and clears its PORT_EN bit. -/
  | portFailed (p : Fin 16)
  /-- LASER_LEVEL_UP (R220): A laser source enters WARN, SPARE-IN or LOST when its test holds for the required frames. -/
  | laserLevelUp (src : Fin 2)
  /-- LASER_LEVEL_DOWN (R220): A source falls one level after 1,024 frames without its level's test holding. -/
  | laserLevelDown (src : Fin 2)
  /-- SPARE_READY (R222): The module reports the spare READY and measurement of its offset begins. -/
  | spareReady (src : Fin 2) (ready fault : Bool)
  /-- SPARE_WARM_TIMEOUT (R222): The spare is not READY within its reported warm time and MEAS_FAIL is set. -/
  | spareWarmTimeout (src : Fin 2) (warm : BitVec 8)
  /-- SPARE_MEASURE_PORT (R223): The 8 ms pilot measurement on one port completes and the next port begins. -/
  | spareMeasurePort (src : Fin 2) (offset : Int)
  /-- SPARE_IN_RETRY (R222): Every 10 s after MEAS_FAIL, MC0 retries the spare-in sequence. -/
  | spareInRetry (src : Fin 2)
  /-- LASER_FLIP (R224): At the chosen maintenance window LSR_SEL is driven high to select the spare. -/
  | laserFlip (src : Fin 2) (n : Nat)
  /-- FLIP_TRACK_STEP (R224): At the first cycle boundary 5 us after the flip f_trk steps by the measured offset. -/
  | flipTrackStep (src : Fin 2)
  /-- LOST_TRACK_RESTART (R226): 100 us after a LOST flip f_trk restarts from LSR_TRK and rings jump. -/
  | lostTrackRestart (src : Fin 2) (volt : BitVec 16)
  /-- LSR_FORCE (R222): CAL.LSR<s>_CMD.FORCE starts the spare-in sequence at any level, or is refused. -/
  | lsrForce (src : Fin 2)
  /-- LSR_ABORT (R222): CAL.LSR<s>_CMD.ABORT ends a spare-in sequence before its flip and clears PILOT. -/
  | lsrAbort (src : Fin 2)
  /-- FABRIC_STOP (R228): A FATAL event that stops the fabric darkens all ports and copper lanes within 10 us. -/
  | fabricStop (t : Nat)
  /-- NEIGHBOUR_LOST (R230): A copper link leaving training or an optical sender dark for 16 claims is reported as a lost neighbour. -/
  | neighbourLost (l : Fin 22) (j : Fin 32)
  /-- CAL_TEMP_TRIGGER (R239): A temperature change beyond its threshold queues an ENGINE or PORT_CU run. -/
  | calTempTrigger (copper : Bool) (u : Fin 6) (temp : Int)
  /-- CAL_INTERVAL_TRIGGER (R239): CAL.INTERVAL seconds since a unit's last accepted run queue it again. -/
  | calIntervalTrigger (kind : BitVec 4) (unit : BitVec 12) (t : Nat)
  /-- CAL_RUN (R239): CAL.CMD.RUN queues the named kind and unit or is refused. -/
  | calRun (kind : BitVec 4) (unit : BitVec 12)
  /-- CAL_UNIT_START (R243): A sequencer starts its next queued unit once the stand-in is free, or defers it. -/
  | calUnitStart (cu : Bool)
  /-- CAL_RUN_COMPLETE (R252): A calibration run ends and its results are accepted and applied, or rejected as a whole. -/
  | calRunComplete (cu : Bool) (r : CalResult)
  /-- CAL_LOCK_TIMEOUT (R251): A calibrated ring not LOCKED within 5 ms of its jump fails the run with LOCK and restores old values. -/
  | calLockTimeout
  /-- CAL_SAVE (R259): CAL.CMD.SAVE saves the calibration image. -/
  | calSave
  /-- CAL_AUTO_SAVE (R259): A sequencer queue emptying with unsaved results triggers a save, at most once per 60 s. -/
  | calAutoSave (t : Nat)
  /-- CAL_SAVE_COMPLETE (R259): A save completes and is read back, or sets STORE_ERR. -/
  | calSaveComplete (good : Bool)
  /-- CAL_RESTORE (R261): CAL.CMD.RESTORE checks and applies a companion-supplied calibration image. -/
  | calRestore
  /-- CAL_ABORT (R257): CAL.CMD.ABORT aborts both running units keeping old values. -/
  | calAbort
  /-- RESTORE_WAIT_EXPIRY (R262): After RESTORE_WAIT MC0 issues the relock jumps of every ring with a target. -/
  | restoreWaitExpiry
  /-- CU_DOWN_DELAY (R273): A copper link enabled and cabled for 1 ms in DOWN enters DETECT and sends PRBS31. -/
  | cuDownDelay (k : Fin 6)
  /-- CU_SIGNAL_DETECT (R273): Signal on at least 8 lanes moves a copper link from DETECT to TRAIN. -/
  | cuSignalDetect (k : Fin 6) (lanes : BitVec 9)
  /-- CU_DETECT_TIMEOUT (R273): 100 ms in DETECT without signal returns the link to DOWN. -/
  | cuDetectTimeout (k : Fin 6)
  /-- CU_TRAIN_ADAPTED (R273): At least 8 adapted lanes move the link to IDENT. -/
  | cuTrainAdapted (k : Fin 6) (lanes : BitVec 9)
  /-- CU_TRAIN_TIMEOUT (R273): 150 ms in TRAIN returns the link to DOWN or QUARANTINE. -/
  | cuTrainTimeout (k : Fin 6)
  /-- CU_IDENT_RX (R275): Valid identity blocks are checked, leading to ALIGN or QUARANTINE. -/
  | cuIdentRx (k : Fin 6) (b : IdBlock) (ls : List LaneId)
  /-- CU_IDENT_TIMEOUT (R273): 10 ms in IDENT without valid blocks returns the link to DOWN. -/
  | cuIdentTimeout (k : Fin 6)
  /-- CU_ALIGN_DONE (R273): Scrambler in step and 16 framed filler slots bring the link UP. -/
  | cuAlignDone (k : Fin 6) (lock : BitVec 9)
  /-- CU_ALIGN_TIMEOUT (R273): 20 ms in ALIGN returns the link to DOWN. -/
  | cuAlignTimeout (k : Fin 6)
  /-- CU_FRAMING_LOSS (R271): Failure to frame the peer in 4 consecutive slots takes the link out of UP. -/
  | cuFramingLoss (k : Fin 6)
  /-- CU_QUARANTINE_EXIT (R273): A change of peer identity or 1 ms without signal returns a quarantined link to DOWN. -/
  | cuQuarantineExit (k : Fin 6) (b : Option IdBlock)
  /-- CU_RETRAIN (R273): CU_<link>.CMD.RETRAIN returns the link to DOWN from any state. -/
  | cuRetrain (k : Fin 6)
  /-- CU_SPARE (R279): CU_<link>.CMD.SPARE starts a handover of a logical lane onto the spare, or is refused. -/
  | cuSpare (k : Fin 6) (lane : BitVec 4) (perm : Bool)
  /-- CU_BACK (R279): CU_<link>.CMD.BACK starts the return of a lane from the spare, or is refused. -/
  | cuBack (k : Fin 6) (lane : BitVec 4)
  /-- HANDOVER_PEER_COPY (R279): A peer seeing REQ for 2 consecutive slots copies the lane onto its spare. -/
  | handoverPeerCopy (k : Fin 6) (lane : Fin 8) (back : Bool)
  /-- HANDOVER_RX_SWITCH (R279): After 64 clean slots the receiver takes the lane from the spare and sets ACK. -/
  | handoverRxSwitch (k : Fin 6)
  /-- LANE_LOCK_LOSS (R280): A logical lane losing lock in UP is moved onto the idle spare at once or the link leaves UP. -/
  | laneLockLoss (k : Fin 6) (lane : Fin 8)
  /-- LANE_WORN (R281): MC0 moves a worn lane onto the spare permanently and records it. -/
  | laneWorn (k : Fin 6) (lane : Fin 8)
  /-- CL_STOP (R314): CD<d>.CL<c>_CMD.STOP ends the running program with code STOPPED. -/
  | clStop (c : Fin 2048)
  /-- CL_UNGATE (R314): CD<d>.CL<c>_CMD.UNGATE restores a gated cluster's power. -/
  | clUngate (c : Fin 2048)
  /-- CL_GATE (R314): CD<d>.CL<c>_CMD.GATE power-gates an idle, done or faulted cluster. -/
  | clGate (c : Fin 2048)
  /-- CL_QUARANTINE (R318): CD<d>.CL<c>_CMD.QUARANTINE removes a cluster from service. -/
  | clQuarantine (c : Fin 2048)
  /-- WATCHDOG (R316): A running non-waiting cluster with no handshake for WDOG us faults and is quarantined. -/
  | watchdog (c : Fin 2048) (t : Nat)
  /-- RAMP_STAGE (R317): The wake ramp advances one stage of issue rate. -/
  | rampStage (c : Fin 2048) (t : Nat)
  /-- CLUSTER_SPARE_ASSIGN (R319): MC0 gives a quarantined cluster's logical number to a reserve. -/
  | clusterSpareAssign (n : Fin 2000) (passed : Bool)
  /-- NOP (R326): Does nothing. -/
  | nop (c : Fin 2048) (upset : Bool)
  /-- END (R314): Waits for every copy tag to drain, then ends the program with token OK. -/
  | endProg (c : Fin 2048)
  /-- BR (R331): Branches to TARGET if the condition holds over a predicate. -/
  | br (c : Fin 2048)
  /-- JAL (R331): Saves PC + 1 and jumps to TARGET. -/
  | jal (c : Fin 2048)
  /-- JR (R331): Jumps to the address in a register or faults PC_END. -/
  | jr (c : Fin 2048)
  /-- BRK (R347): Faults with code USER. -/
  | brk (c : Fin 2048)
  /-- RDFL (R312): Reads the sticky flags into an A register. -/
  | rdfl (c : Fin 2048)
  /-- CLRFL (R312): Clears the six sticky flags. -/
  | clrfl (c : Fin 2048)
  /-- AADD (R326): Adds two A registers modulo 2^48. -/
  | aadd (c : Fin 2048)
  /-- AADDI (R326): Adds a signed immediate to an A register. -/
  | aaddi (c : Fin 2048)
  /-- ASUB (R326): Subtracts two A registers. -/
  | asub (c : Fin 2048)
  /-- AMUL (R326): Multiplies two A registers keeping the low 48 bits. -/
  | amul (c : Fin 2048)
  /-- AAND (R326): Bitwise AND of two A registers. -/
  | aand (c : Fin 2048)
  /-- AOR (R326): Bitwise OR of two A registers. -/
  | aor (c : Fin 2048)
  /-- AXOR (R326): Bitwise XOR of two A registers. -/
  | axor (c : Fin 2048)
  /-- ASHLI (R326): Shifts an A register left by an immediate. -/
  | ashli (c : Fin 2048)
  /-- ASHRI (R326): Shifts an A register right logically by an immediate. -/
  | ashri (c : Fin 2048)
  /-- AMOVI (R326): Loads a 48-bit immediate into an A register. -/
  | amovi (c : Fin 2048)
  /-- ACMP (R326): Sets a predicate from a comparison of two A registers. -/
  | acmp (c : Fin 2048)
  /-- ACMPI (R326): Sets a predicate from a comparison of an A register with an immediate. -/
  | acmpi (c : Fin 2048)
  /-- PAND (R326): AND of two predicates. -/
  | pand (c : Fin 2048)
  /-- POR (R326): OR of two predicates. -/
  | por (c : Fin 2048)
  /-- PXOR (R326): XOR of two predicates. -/
  | pxor (c : Fin 2048)
  /-- PNOT (R326): Inverts a predicate. -/
  | pnot (c : Fin 2048)
  /-- PCNT (R326): Counts the set bits of a predicate. -/
  | pcnt (c : Fin 2048)
  /-- PFROMA (R326): Loads a predicate from an A register. -/
  | pfroma (c : Fin 2048)
  /-- VADD (R296): FP32 lane-wise addition. -/
  | vadd (c : Fin 2048)
  /-- VSUB (R296): FP32 lane-wise subtraction. -/
  | vsub (c : Fin 2048)
  /-- VMUL (R296): FP32 lane-wise multiplication. -/
  | vmul (c : Fin 2048)
  /-- VFMA (R296): FP32 fused multiply-add with one rounding. -/
  | vfma (c : Fin 2048)
  /-- VMIN (R303): Lane-wise minimum. -/
  | vmin (c : Fin 2048)
  /-- VMAX (R303): Lane-wise maximum. -/
  | vmax (c : Fin 2048)
  /-- VABS (R326): Clears the sign of each lane. -/
  | vabs (c : Fin 2048)
  /-- VNEG (R326): Inverts the sign of each lane. -/
  | vneg (c : Fin 2048)
  /-- VEXP2 (R297): Lane-wise exp2 approximation. -/
  | vexp2 (c : Fin 2048)
  /-- VLOG2 (R297): Lane-wise log2 approximation. -/
  | vlog2 (c : Fin 2048)
  /-- VRCP (R297): Lane-wise reciprocal approximation. -/
  | vrcp (c : Fin 2048)
  /-- VRSQ (R297): Lane-wise reciprocal square root approximation. -/
  | vrsq (c : Fin 2048)
  /-- VCMP (R303): Quiet FP32 comparison into a predicate. -/
  | vcmp (c : Fin 2048)
  /-- VRSUM (R332): Sums enabled lanes by a fixed tree into lane 0. -/
  | vrsum (c : Fin 2048)
  /-- VRMAX (R332): Maximum of enabled lanes by a fixed tree into lane 0. -/
  | vrmax (c : Fin 2048)
  /-- VSEL (R326): Selects lanes of two vectors by a predicate. -/
  | vsel (c : Fin 2048)
  /-- VIADD (R326): Integer lane-wise addition. -/
  | viadd (c : Fin 2048)
  /-- VISUB (R326): Integer lane-wise subtraction. -/
  | visub (c : Fin 2048)
  /-- VIMUL (R326): Integer lane-wise multiplication, low 32 bits. -/
  | vimul (c : Fin 2048)
  /-- VAND (R326): Lane-wise AND. -/
  | vand (c : Fin 2048)
  /-- VOR (R326): Lane-wise OR. -/
  | vor (c : Fin 2048)
  /-- VXOR (R326): Lane-wise XOR. -/
  | vxor (c : Fin 2048)
  /-- VSHL (R326): Lane-wise shift left. -/
  | vshl (c : Fin 2048)
  /-- VSHR (R326): Lane-wise logical shift right. -/
  | vshr (c : Fin 2048)
  /-- VSRA (R326): Lane-wise arithmetic shift right. -/
  | vsra (c : Fin 2048)
  /-- VICMP (R326): Integer lane-wise comparison into a predicate. -/
  | vicmp (c : Fin 2048)
  /-- VPERM (R326): Permutes lanes of a vector by an index vector. -/
  | vperm (c : Fin 2048)
  /-- VLANE (R326): Writes each lane's index. -/
  | vlane (c : Fin 2048)
  /-- PFROMV (R326): Sets predicate bits from non-zero lanes. -/
  | pfromv (c : Fin 2048)
  /-- VLD (R333): Loads enabled lanes from local SRAM. -/
  | vld (c : Fin 2048) (ups : List Upset)
  /-- VST (R333): Stores enabled lanes to local SRAM. -/
  | vst (c : Fin 2048)
  /-- VBCI (R326): Broadcasts an immediate into enabled lanes. -/
  | vbci (c : Fin 2048)
  /-- VBCA (R326): Broadcasts an A register into enabled lanes. -/
  | vbca (c : Fin 2048)
  /-- VTOA (R326): Moves one lane into an A register. -/
  | vtoa (c : Fin 2048)
  /-- CVT (R308): Converts lanes between formats under a rounding mode. -/
  | cvt (c : Fin 2048)
  /-- CVTMX (R334): Converts FP32 lanes to MX elements and block scales. -/
  | cvtmx (c : Fin 2048)
  /-- CVTXF (R334): Converts MX elements to FP32. -/
  | cvtxf (c : Fin 2048)
  /-- MMA (R336): Matrix multiply-accumulate into a tile over K. -/
  | mma (c : Fin 2048) (ups : List Upset)
  /-- TZERO (R330): Zeroes enabled columns of a tile. -/
  | tzero (c : Fin 2048)
  /-- TLD (R326): Loads a tile from local SRAM. -/
  | tld (c : Fin 2048) (ups : List Upset)
  /-- TST (R326): Stores a tile to local SRAM. -/
  | tst (c : Fin 2048)
  /-- TRV (R326): Moves a tile row into a vector register. -/
  | trv (c : Fin 2048)
  /-- VTR (R326): Moves a vector register into a tile row. -/
  | vtr (c : Fin 2048)
  /-- PUT (R339): Starts a copy from local SRAM to a device address under a tag. -/
  | put (c : Fin 2048)
  /-- GET (R339): Starts a copy from a device address to local SRAM under a tag. -/
  | get (c : Fin 2048)
  /-- CPY (R339): Issues a copy descriptor to a die copy engine under a tag. -/
  | cpy (c : Fin 2048)
  /-- CWAIT (R340): Waits for a tag to drain or a timeout and reports failures. -/
  | cwait (c : Fin 2048)
  /-- QGET (R341): Reserves a free slot buffer of a send queue, waiting if none. -/
  | qget (c : Fin 2048)
  /-- QCMT (R341): Drains a tag and commits a held buffer with a length. -/
  | qcmt (c : Fin 2048)
  /-- RWAIT (R366): Claims the oldest unclaimed entry of a receive ring, waiting up to a timeout. -/
  | rwait (c : Fin 2048)
  /-- RDONE (R366): Releases a claimed ring entry and reports if it was overwritten. -/
  | rdone (c : Fin 2048)
  /-- FWAIT (R371): Waits for a fell stream's completed-slot count and reports failed slots. -/
  | fwait (c : Fin 2048)
  /-- TWAIT (R344): Waits until hall time reaches t0 plus an offset. -/
  | twait (c : Fin 2048)
  /-- TNOW (R326): Reads hall time relative to the job start. -/
  | tnow (c : Fin 2048)
  /-- GBAR (R342): Arrives at a job barrier. -/
  | gbar (c : Fin 2048)
  /-- GRED (R342): Arrives at a job barrier combining an integer by an operation. -/
  | gred (c : Fin 2048)
  /-- TAG_DRAIN (R340): A tag's outstanding operations drain, waking a waiting CWAIT, QCMT or END. -/
  | tagDrain (c : Fin 2048) (tag : Fin 8) (ups : List Upset)
  /-- EXTERNAL_WAIT_TIMEOUT (R340): The timeout of a CWAIT, RWAIT or FWAIT expires and the instruction completes with a timeout mark. -/
  | externalWaitTimeout (c : Fin 2048) (t : Nat)
  /-- QGET_WAKE (R115): A freed slot buffer lets a waiting QGET or QUEUE copy reserve it. -/
  | qgetWake (who : Waiter)
  /-- RWAIT_WAKE (R366): A written ring entry is claimed by a waiting RWAIT. -/
  | rwaitWake (c : Fin 2048)
  /-- FWAIT_WAKE (R371): A fell stream's count reaching the target ends a waiting FWAIT. -/
  | fwaitWake (c : Fin 2048)
  /-- TWAIT_WAKE (R344): Hall time reaches a TWAIT's instant and the next instruction issues. -/
  | twaitWake (c : Fin 2048) (t : Nat)
  /-- BARRIER_RELEASE (R342): Once every mask cluster has arrived or cannot arrive the barrier releases with its result. -/
  | barrierRelease (j : Fin 8)
  /-- TAG_STALL_WAKE (R339): A completion under a full tag lets a stalled 64th issue proceed. -/
  | tagStallWake (c : Fin 2048) (ups : List Upset)
  /-- CPY_QUEUE_WAKE (R364): Room in a die engine queue lets a stalled CPY issue. -/
  | cpyQueueWake (c : Fin 2048)
  /-- PROGRAM_LOAD_DONE (R345): The program image reaches every named cluster or fails, and the job-start trigger is armed or not. -/
  | programLoadDone (j : Fin 8) (ups : List Upset) (t : Nat)
  /-- COPY_COMPLETE (R362): A copy ends with a result code and writes its status word. -/
  | copyComplete (e : Fin 80) (ups : List Upset)
  /-- CPY_PROD_WRITE (R364): A write of CPY.E<n>_PROD lets an FTD engine run descriptors up to PROD. -/
  | cpyProdWrite (n : Fin 12) (value : BitVec 16)
  /-- RING_CONFIG_WRITE (R367): A write to a receive ring's base or configuration resets the ring or is refused. -/
  | ringConfigWrite (b : Bank) (reg : RingReg) (value : BitVec 32)
  /-- RING_CLAIM (R366): A read of MEM.RING_CLAIM claims the oldest written entry. -/
  | ringClaim (b : Bank)
  /-- RING_RELEASE (R366): A write of MEM.RING_RELEASE frees a claimed entry. -/
  | ringRelease (b : Bank) (index : BitVec 11)
  /-- FELL_REGISTER_WRITE (R368): A write to a fell stream's cursor, length or configuration takes effect from the next slot or resets the cursor. -/
  | fellRegisterWrite (b : Bank) (reg : FellReg) (value : BitVec 32)
  /-- MEM_SCRUB (R355): The patrol scrubber reads a block, writes corrections back and marks uncorrectable rows. -/
  | memScrub (ups : List Upset)
  /-- COMPLETION_RECORD (R372): The gather tree delivers a job's completion record to MC0 after the last token. -/
  | completionRecord (j : Fin 8) (t : Nat)
  /-- GTH_REC_SELECT (R375): A mailbox selection of GTH.REC removes the oldest record. -/
  | gthRecSelect (b : Bank)
  /-- FLIT_RX (R385): A received flit is accepted, or triggers a NAK, and its ACK and credits are taken. -/
  | flitRx (bytes : List Byte) (decoded : Bool)
  /-- RD_S (R391): A companion request to cache a line shared. -/
  | rdS (tag : BitVec 12) (line : BitVec 42) (ups : List Upset)
  /-- RD_O (R391): A companion request to cache a line owned. -/
  | rdO (tag : BitVec 12) (line : BitVec 42) (ups : List Upset)
  /-- RD_NC (R388): A companion request to read a line uncached. -/
  | rdNc (tag : BitVec 12) (line : BitVec 42) (ups : List Upset)
  /-- EVICT (R393): The companion drops a clean line. -/
  | evict (tag : BitVec 12) (line : BitVec 42)
  /-- WB (R393): The companion writes back and drops an owned line. -/
  | wb (tag : BitVec 12) (line : BitVec 42) (data : List Byte)
  /-- WR_NC (R388): A companion write under byte mask. -/
  | wrNc (tag : BitVec 12) (line : BitVec 42) (mask : BitVec 64) (data : List Byte) (ups : List Upset)
  /-- CSR_RD (R388): A companion register read over the link. -/
  | csrRd (tag : BitVec 12) (off : BitVec 26) (size : BitVec 2) (ups : List RegUpset)
  /-- CSR_WR (R388): A companion register write over the link. -/
  | csrWr (tag : BitVec 12) (off : BitVec 26) (size : BitVec 2) (value : BitVec 64)
  /-- DATA (R389): Companion data answering a package PRD completes that read. -/
  | data (tag : BitVec 12) (data : List Byte)
  /-- ACK (R389): A companion ACK completes a package PWR. -/
  | ack (tag : BitVec 12)
  /-- ERR (R389): A companion ERR fails the package's PRD or PWR with LINK. -/
  | err (tag : BitVec 12)
  /-- SNP_I (R393): Companion reports the snooped line not held. -/
  | snpI (tag : BitVec 12) (ups : List Upset)
  /-- SNP_S (R393): Companion reports the snooped line held shared and clean. -/
  | snpS (tag : BitVec 12) (ups : List Upset)
  /-- SNP_DI (R393): Companion returns dirty data and no longer holds the line. -/
  | snpDi (tag : BitVec 12) (data : List Byte) (ups : List Upset)
  /-- SNP_DS (R393): Companion returns dirty data and keeps the line shared. -/
  | snpDs (tag : BitVec 12) (data : List Byte) (ups : List Upset)
  /-- SNP_TIMEOUT (R394): An unanswered snoop times out and the waiting access uses LPDDR5 contents. -/
  | snpTimeout (line : BitVec 42) (ups : List Upset) (t : Nat)
  /-- COH_WIN_WRITE (R391): A write of ULK.COH_WIN sets the window and snoops out entries outside it. -/
  | cohWinWrite (base size : BitVec 16)
  /-- CALENDAR_EXAMINE (R399): MC0 examines a calendar entry after its first line arrives and accepts, cancels or rejects it. -/
  | calendarExamine (entry : Fin 255) (ups : List Upset) (t : Nat)
  /-- NOTICE_WRITE (R403): A held notice is written to its companion notice line when the link is UP and notices enabled. -/
  | noticeWrite (c : Fin 64)
  /-- ULK_SIGNAL_DETECT (R405): With EN set and signal on 8 lanes the Urdal link enters TRAIN. -/
  | ulkSignalDetect (t : Nat)
  /-- ULK_TRAIN_DONE (R405): Agreed parameter blocks bring the link UP with a new EPOCH. -/
  | ulkTrainDone (lanes : BitVec 16) (x : UlParams) (t : Nat)
  /-- ULK_TRAIN_TIMEOUT (R405): 50 ms in TRAIN returns the link to DOWN. -/
  | ulkTrainTimeout (t : Nat)
  /-- ULK_RECOVER_ENTRY (R405): Repeated NAKs, a lost lane or a protocol error put the link into RECOVER. -/
  | ulkRecoverEntry (cause : UlCause) (t : Nat)
  /-- ULK_RECOVER_DONE (R405): A retrain completes and the link returns UP with replay. -/
  | ulkRecoverDone (lanes : BitVec 16) (t : Nat)
  /-- ULK_FAILED (R406): Recovery fails and the link enters FAILED, failing outstanding transfers and clearing the directory. -/
  | ulkFailed (three : Bool) (t : Nat)
  /-- ULK_FAILED_TIMEOUT (R405): 1 s in FAILED returns the link to DOWN. -/
  | ulkFailedTimeout (t : Nat)
  /-- ULK_RETRAIN (R405): ULK.CMD.RETRAIN moves a FAILED link to DOWN. -/
  | ulkRetrain
  /-- VAUX_POWER_ON (R454): VAUX entering range brings the always-on domain out of COLD reset and starts boot. -/
  | vauxPowerOn (head : Bool) (bench : BitVec 5) (slots : Option NvmSlots)
  /-- VAUX_LOW (R421): VAUX below 3.0 V for 10 us causes a COLD when it returns. -/
  | vauxLow (t : Nat)
  /-- PWR_OK_RISE (R417): A rising PWR_OK releases the main domain if every rail is in range, or logs a sequencing error. -/
  | pwrOkRise (rails : BitVec 20) (memHeld : Bool) (t : Nat)
  /-- PWR_OK_LOW (R421): PWR_OK low for 2 us enters DARK unplanned. -/
  | pwrOkLow (t : Nat)
  /-- PKG_RESET_N_LOW (R454): PKG_RESET_N low for 1 us causes a WARM reset. -/
  | pkgResetNLow (t : Nat)
  /-- RAIL_FAULT (R422): A main rail out of range for 2 us is a FATAL rail fault entering DARK. -/
  | railFault (rail : Fin 20) (t : Nat)
  /-- VHTR_OUT_OF_RANGE (R423): VHTR out of range sets RAIL_FAULT and logs an ERROR without stopping the package. -/
  | vhtrOutOfRange (t : Nat)
  /-- THERMAL_SAMPLE (R425): Every 100 us the junction sensors are sampled and alert and trip are judged. -/
  | thermalSample (readings : List Int) (t : Nat)
  /-- THERM_PORT_READ (R427): A two-wire read of the thermal port returns its four status bytes. -/
  | thermPortRead
  /-- PWR_HUSH (R421): PWR.CMD.HUSH gates every cluster or is refused. -/
  | pwrHush
  /-- PWR_ACTIVE (R421): PWR.CMD.ACTIVE leaves HUSH and ungates the clusters. -/
  | pwrActive
  /-- PWR_DARK (R421): PWR.CMD.DARK starts a planned entry to DARK. -/
  | pwrDark (t : Nat)
  /-- DARK_REACHED (R422): The DARK entry sequence completes and PWR.STATE becomes DARK. -/
  | darkReached (t : Nat)
  /-- BEACON_RX (R434): A beacon on CHAIN_IN gives the package its position and chain count. -/
  | beaconRx (bytes : List Byte) (t : Nat)
  /-- BEACON_SEND (R434): Every 100 us a package with a position sends its beacon. -/
  | beaconSend (t : Nat)
  /-- POSITION_TIMEOUT (R435): No position 2 s after the straps logs FATAL and sets STUCK NO_POSITION. -/
  | positionTimeout (t : Nat)
  /-- CHAIN_SWITCH (R436): A SWITCH frame is forwarded and applied as a leaf-switch and re-cable arm. -/
  | chainSwitch (bytes : List Byte) (t : Nat)
  /-- CHAIN_RESET (R437): A RESET frame is forwarded and requests the named reset. -/
  | chainReset (bytes : List Byte) (t : Nat)
  /-- CHAIN_MSG (R433): A MSG frame is placed in BOOT.CHN_RX. -/
  | chainMsg (bytes : List Byte) (t : Nat)
  /-- CHAIN_IMAGE (R520): An IMAGE frame requests, carries or declines recovery image data. -/
  | chainImage (bytes : List Byte) (t : Nat)
  /-- CHAIN_SEND (R433): BOOT.CHN_CMD.SEND originates a SWITCH, RESET or MSG frame. -/
  | chainSend (type len : BitVec 8)
  /-- CHAIN_TX_TIMEOUT (R432): A sent frame not returned within 10 ms sets TX_LOST. -/
  | chainTxTimeout (t : Nat)
  /-- CUTLIST_READ (R447): A cutting-list slot is read and checked, falling back or sticking if invalid. -/
  | cutlistRead (t : Nat)
  /-- FIRMWARE_VERIFY (R511): A firmware slot is read and verified, falling back or entering recovery on failure. -/
  | firmwareVerify (t : Nat)
  /-- BRINGUP (R451): The main domain leaves reset and records, patch map, memory, clusters and calibration are brought up. -/
  | bringup (fails : List (Fin 2048)) (noPpr : List (Nat × Nat)) (t : Nat)
  /-- LOCK_SET (R452): BOOT.LOCK.SET sets the lock during LOCK_WAIT and ends boot. -/
  | lockSet
  /-- LOCK_WAIT_TIMEOUT (R452): 60 s in LOCK_WAIT sets the lock. -/
  | lockWaitTimeout (t : Nat)
  /-- BOOT_RESET_COLD (R455): BOOT.RESET KIND 0 with the key flushes staging and requests COLD. -/
  | bootResetCold (key : BitVec 16)
  /-- BOOT_RESET_WARM (R455): BOOT.RESET KIND 1 requests WARM. -/
  | bootResetWarm (key : BitVec 16)
  /-- BOOT_RESET_FABRIC (R455): BOOT.RESET KIND 2 requests FABRIC. -/
  | bootResetFabric (key : BitVec 16)
  /-- BOOT_RESET_COMPUTE (R455): BOOT.RESET KIND 3 requests COMPUTE. -/
  | bootResetCompute (key : BitVec 16)
  /-- RESET_COMPLETE (R456): A reset completes and software settings return to their cutting-list values. -/
  | resetComplete (head : Bool) (bench : BitVec 5) (t : Nat)
  /-- OPKEY_FUSE (R449): BOOT.OPKEY.FUSE blows the operator key digest or is refused. -/
  | opkeyFuse
  /-- CSR_WRITE (R474): A write to a register without its own row is applied, refused or partly ignored as a whole. -/
  | csrWrite (b : Bank) (off : BitVec 26) (size : BitVec 2) (value : BitVec 64)
  /-- MBX_SELECT (R469): A write of GLB.MBX_SEL starts a mailbox sample of a wide register. -/
  | mbxSelect (b : Bank) (off : BitVec 26)
  /-- MBX_SAMPLE_DONE (R469): The mailbox sample completes and VALID is set, or ends ERR. -/
  | mbxSampleDone (b : Bank)
  /-- SQ_CLEAR (R476): Writing back an SQ register's sequence number clears its flags if no event intervened. -/
  | sqClear (b : Bank) (off : BitVec 26) (seq : BitVec 8)
  /-- CSR_PARITY_SCRUB (R479): Every 1 ms the scrubber checks register parity. -/
  | csrParityScrub (ups : List RegUpset)
  /-- FAULT_CLR (R481): GLB.FAULT_CLR names a block to re-check its configuration. -/
  | faultClr (block : BitVec 6)
  /-- FAULT_RECHECK_DONE (R481): The block's re-check ends and it resumes or stays safe. -/
  | faultRecheckDone (block : BitVec 6)
  /-- CRC_RECOMPUTE (R482): In compatibility mode the register CRC is recomputed and compared every 1 ms. -/
  | crcRecompute (ups : List RegUpset)
  /-- CRC_COMMIT (R483): GLB.CRC_CTRL.COMMIT copies CRC_NOW into CRC_REF and clears STALE. -/
  | crcCommit
  /-- CTR_CFG_WRITE (R487): A write to a counter's configuration clears it or is refused. -/
  | ctrCfgWrite (n : Fin 112) (value : BitVec 32)
  /-- SNAP (R489): HLT.CTR_CMD.SNAP requests a counter snapshot or is refused while pending. -/
  | snap
  /-- SNAPSHOT_TAKE (R489): At the chosen Jig cycle every counter is copied into its snapshot. -/
  | snapshotTake (t : Nat)
  /-- CLEAR_ALL (R486): HLT.CTR_CMD.CLEAR_ALL zeroes every counter. -/
  | clearAll
  /-- LOG_FLUSH (R494): Staged records are written to NVM when fill or interval demands. -/
  | logFlush (n t : Nat)
  /-- FLUSH (R494): HLT.LOG_CMD.FLUSH requests a flush. -/
  | flush
  /-- FATAL_FLUSH (R494): The NVM controller flushes a staged FATAL record within 100 ms. -/
  | fatalFlush (t : Nat)
  /-- DUMP (R497): HLT.LOG_CMD.DUMP starts writing every record to memory, or is refused. -/
  | dump
  /-- DUMP_COMPLETE (R497): The log dump ends or fails. -/
  | dumpComplete
  /-- OPTIME_TICK (R496): Each minute with VAUX in range advances the operating-minute count. -/
  | optimeTick (t : Nat)
  /-- MC_LOAD_WINDOW (R500): At the end of each 10 ms window MC0 updates its load and sheds or restores classes. -/
  | mcLoadWindow (load aToC : BitVec 8) (t : Nat)
  /-- MC_SELF_CHECK (R501): Every 1 ms MC0 checkpoints and checks its code and memory. -/
  | mcSelfCheck (t : Nat)
  /-- MC0_FAILURE (R501): A failed self-check, memory error or 5 ms watchdog marks MC0 failed and starts takeover. -/
  | mc0Failure (watchdog : Bool) (t : Nat)
  /-- MC_TAKEOVER_DONE (R501): MC1 resumes from the checkpoint and serves held work. -/
  | mcTakeoverDone (t : Nat)
  /-- MC1_FAILURE (R502): Failure of MC1 after takeover is FATAL and stops the fabric. -/
  | mc1Failure (t : Nat)
  /-- PATCH_WRITE (R505): A spare change is written into the patch map, or flagged full. -/
  | patchWrite (t : Nat)
  /-- PATCH_NOTE_ADD (R504): HLT.PATCH_NOTE.ADD records a package replacement entry. -/
  | patchNoteAdd
  /-- TELEMETRY_TICK (R506): Every PERIOD ms MC0 writes the telemetry notice lines. -/
  | telemetryTick (t : Nat)
  /-- SERVICE_POLL (R513): Every 10 ms MC0 reads the service request line and acts on a new SEQ. -/
  | servicePoll (t : Nat)
  /-- ALTER (R516): An ALTER request is checked and starts writing a new image into the inactive slot. -/
  | alter (ups : List Upset) (t : Nat)
  /-- ALTER_COMPLETE (R517): An alteration's result is fully written and the request ends OK, NVM or STALE. -/
  | alterComplete (good : Bool) (t : Nat)
  /-- ATTEST (R523): An ATTEST request writes a signed measurement report. -/
  | attest (t : Nat)
  /-- CERT (R523): A CERT request copies the identity certificate. -/
  | cert (t : Nat)
  /-- FW_SLOT_ERASE (R512): After bring-up the first sector of a failed firmware slot is erased. -/
  | fwSlotErase (t : Nat)
  /-- RECOVERY_HEADER (R519): A recovery header written by the companion makes the package check a recovery image. -/
  | recoveryHeader (t : Nat)
  /-- IMAGE_REQ_RETRY (R520): An image request unanswered for 10 ms is repeated. -/
  | imageReqRetry (t : Nat)
  /-- RECOVERY_INSTALL (R521): A recovery image that passes its checks is written into both slots and a COLD follows. -/
  | recoveryInstall (t : Nat)
  /-- PKG_RESET_N_RELEASE (R454): PKG_RESET_N rises, ending a held WARM reset so boot restarts from PHASE 2, or letting a waiting PWR_OK release the main domain. -/
  | pkgResetNRelease (rails : BitVec 20) (t : Nat)
  /-- NVM_DISCOVERY (R438): The SFDP read of boot PHASE 2 completes, choosing octal DDR or quad SPI, or stops boot with STUCK reason NVM. -/
  | nvmDiscovery (readable sfdp octal : Bool) (mbit : Nat) (t : Nat)
  /-- TPORT_BLOCK_LOCK (R527): A time port's 10GBASE-R block lock is gained or lost, moving PSTATE between FAULTY and LISTENING. -/
  | tportBlockLock (p : Dom) (locked : Bool)
  /-- MONITOR_CHANNEL_FAULT (R187): A monitor channel fails its self-test, setting ED<d>.STATUS.AMP_FAULT and sending its ring to FAULT. -/
  | monitorChannelFault (l : Fin 176)
  /-- HANDOVER_COMPLETE (R279): A side that has sent ACK receives the peer's ACK, so its former lane goes to PRBS31 or idle, or the spare returns to idle, and HOV_DONE is set. -/
  | handoverComplete (k : Fin 6)
  deriving DecidableEq, Repr

end Sys2Proof
end

