-- ==== Sys2Proof/Config.lean ====
section
/-! DEFINITION. What a package or an implementation fixes, and the free values: constants without a body, which
no proof can see. -/
namespace Sys2Proof

/-- A free value: what the `draw`-th value that the spec leaves open reads as, for the place `key` (a register, a
byte, a lane). Nothing constrains it. Log entry 2. Log: DESIGN CHOICE 2. -/
opaque Config.freeNat : Nat → Nat → Nat

/-- What the package's fixed function returns for an approximated function (0 exp2, 1 log2, 2 reciprocal, 3 reciprocal
square root) of an input (R297). Only the bound of R297 is known of it. Log entry 14. Log: DESIGN CHOICE 14. -/
opaque Config.approx : Nat → Nat → Nat

/-- The row of a device's memory that a 64-byte block, or an SRAM word, lies in (R301, R356): its geometry is not
given. Log entry 15. Log: DESIGN CHOICE 15. -/
opaque Config.rowOf : Nat → Nat

/-- The fused random state of a physical cluster after COLD (R311): unique to each cluster and not zero. Log
entry 16. Log: DESIGN CHOICE 16. -/
opaque Config.fusedRandom : Nat → Nat

/-- The code of an event that has no flag and that R499 does not list (R490): not given. The argument names the event.
Log: DESIGN CHOICE 72. -/
opaque Config.eventNo : Nat → Nat

/-- The data of a calibration record (R258) that holds some values of a kind, and the values that data holds: the layout of
the data is not given. Log: DESIGN CHOICE 74. -/
opaque Config.calData : Nat → List Int → List (BitVec 8)
opaque Config.calValues : Nat → List (BitVec 8) → List Int

/-- The efficiency of a loop's ring as the patch map has it (R213): no rule says where it stands there.
Log: DESIGN CHOICE 75. -/
opaque Config.patchEta : Nat → Nat

/-- The body of a class 2 notice (R402) for a link state, a width and a count of lost lines: its layout is not given.
Log: DESIGN CHOICE 88. -/
opaque Config.linkBody : Nat → Nat → Nat → List (BitVec 8)

/-- The logical cluster numbers' physical clusters at shipment, and the clusters disabled then, not 0 (R291): not given.
Log: DESIGN CHOICE 27. -/
opaque Config.homeOf : Nat → Nat
opaque Config.fusedOff : Nat → Nat

/-- What is fused or written at manufacture (R510, R522, R523): the variant (R1), the package serial, the ROM version, the
SHA-384 digest of the firmware key, that of the boot ROM, and the certificate. Log: DESIGN CHOICE 27. -/
opaque Config.variant : Nat
opaque Config.serial : Nat
opaque Config.romVer : Nat
opaque Config.fwKey : List (BitVec 8)
opaque Config.romDigest : List (BitVec 8)
opaque Config.certificate : List (BitVec 8)

/-- The 96 bytes of the identity engine's signature of bytes (R523), by draw: its key is secret and its nonce fresh.
Log: DESIGN CHOICE 27. -/
opaque Config.identitySig : Nat → List (BitVec 8) → List (BitVec 8)

/-- Nanoseconds in units of 2^-16 ns, the unit of the time registers (R33). -/
def Config.ns (n : Nat) : Nat := n * 65536

/-- One frame, 1,048,576 ns (R36), in units of 2^-16 ns. -/
def Config.frameTime : Nat := 1048576 * 65536

/-- One slot, 256 ns (R9), in units of 2^-16 ns. -/
def Config.slotTime : Nat := 256 * 65536

/-- One Jig cycle, 10 us (R174), in units of 2^-16 ns. -/
def Config.cycleTime : Nat := 10000 * 65536

end Sys2Proof
end

