-- ==== Sys2Proof/Machine/Fp.lean ====
section
/-! DEFINITION. Numbers of the clusters and fells: formats (R302), exact values, rounding and flags (R296, R303,
R308-R312). Every operation computes exactly and rounds once. -/
namespace Sys2Proof.Machine
open Sys2Proof

/-- The six exception flags (R312). -/
structure Flags where
  nv  : Bool := false
  dz  : Bool := false
  ovf : Bool := false
  uf  : Bool := false
  nx  : Bool := false
  sat : Bool := false
  deriving DecidableEq, Repr

/-- Flags of two operations together. -/
def Flags.or (a b : Flags) : Flags :=
  ⟨a.nv || b.nv, a.dz || b.dz, a.ovf || b.ovf, a.uf || b.uf, a.nx || b.nx, a.sat || b.sat⟩

/-- Is any flag set? -/
def Flags.any (a : Flags) : Bool := a.nv || a.dz || a.ovf || a.uf || a.nx || a.sat

/-- How a format spells infinity and NaN (R302): as IEEE, only the NaN S.1111.111, or neither. -/
inductive Special
  | ieee | nanOnly | none
  deriving DecidableEq, Repr

/-- A number format: bits of exponent and fraction, bias, specials, and the magnitude code of its largest finite
value. -/
structure Fmt where
  eb   : Nat
  mb   : Nat
  bias : Int
  spec : Special
  top  : Nat
  deriving DecidableEq, Repr

def fp32 : Fmt := ⟨8, 23, 127, .ieee, 0x7F7FFFFF⟩
def fp16 : Fmt := ⟨5, 10, 15, .ieee, 0x7BFF⟩
def bf16 : Fmt := ⟨8, 7, 127, .ieee, 0x7F7F⟩
def e4m3 : Fmt := ⟨4, 3, 7, .nanOnly, 0x7E⟩
def e5m2 : Fmt := ⟨5, 2, 15, .ieee, 0x7B⟩
def e3m2 : Fmt := ⟨3, 2, 3, .none, 0x1F⟩
def e2m1 : Fmt := ⟨2, 1, 1, .none, 0x7⟩

/-- An exact value: a NaN, an infinity, or a sign, a magnitude and a power of two. -/
inductive FpVal
  | nan
  | inf (neg : Bool)
  | fin (neg : Bool) (m : Nat) (e : Int)
  deriving DecidableEq, Repr

/-- The canonical NaN of a format (R302, R303). -/
def Fmt.nan (f : Fmt) : Nat :=
  match f.spec with
  | .ieee => (2 ^ f.eb - 1) * 2 ^ f.mb + 2 ^ (f.mb - 1)
  | .nanOnly => 2 ^ (f.eb + f.mb) - 1
  | .none => 0

/-- The code of a sign and a magnitude code. -/
def Fmt.code (f : Fmt) (neg : Bool) (mag : Nat) : Nat := bit neg * 2 ^ (f.eb + f.mb) + mag

/-- The magnitude code of infinity, in a format that has it. -/
def Fmt.infMag (f : Fmt) : Nat := (2 ^ f.eb - 1) * 2 ^ f.mb

/-- The value of a code (R302, R303). -/
def Fmt.decode (f : Fmt) (x : Nat) : FpVal :=
  let neg := bitOf x (f.eb + f.mb)
  let ex := bitsOf x f.mb f.eb
  let mn := bitsOf x 0 f.mb
  let last := ex == 2 ^ f.eb - 1
  if f.spec == .ieee && last then (if mn = 0 then .inf neg else .nan)
  else if f.spec == .nanOnly && last && mn == 2 ^ f.mb - 1 then .nan
  else if ex = 0 then .fin neg mn (1 - f.bias - f.mb)
  else .fin neg (2 ^ f.mb + mn) ((ex : Int) - f.bias - f.mb)

/-- The rounding modes of R308; SR carries its 16 random bits (R310). -/
inductive Rnd
  | rne | rtz | sr (r : Nat)
  deriving DecidableEq, Repr

/-- Does a magnitude `k` and a fraction `rem / 2^d` of the next step round up? -/
def Rnd.up (md : Rnd) (k rem d : Nat) : Bool :=
  match md with
  | .rne => decide (2 ^ d < 2 * rem) || (decide (2 ^ d = 2 * rem) && k % 2 == 1)
  | .rtz => false
  | .sr r => decide (65536 ≤ rem * 65536 / 2 ^ d + r)

/-- A magnitude `m * 2^e` in steps of `2^q`: whole steps, and the rest as `rem / 2^d` of a step. -/
def inSteps (m : Nat) (e q : Int) : Nat × Nat × Nat :=
  if q ≤ e then (m * 2 ^ (e - q).toNat, 0, 0)
  else
    let d := (q - e).toNat
    (m / 2 ^ d, m % 2 ^ d, d)

/-- What rounding a magnitude gives: its code on the format's grid without an upper limit, whether it was inexact,
tiny before rounding (R312), and beyond the largest finite value (R308). -/
structure Rounded where
  mag     : Nat
  inexact : Bool
  tiny    : Bool
  big    : Bool
  deriving DecidableEq, Repr

/-- Round the magnitude `m * 2^e` to a format. -/
def Fmt.round (f : Fmt) (md : Rnd) (m : Nat) (e : Int) : Rounded :=
  if m = 0 then ⟨0, false, false, false⟩
  else
    let l : Int := (Nat.log2 m : Int) + e
    let emin : Int := 1 - f.bias
    let base := if l < emin then emin else l
    let s := inSteps m e (base - f.mb)
    let code := if s.1 < 2 ^ f.mb then s.1 else (base - emin + 1).toNat * 2 ^ f.mb + (s.1 - 2 ^ f.mb)
    let up := md.up s.1 s.2.1 s.2.2 && s.2.1 != 0
    let mag := if up then code + 1 else code
    let big := match md with
      | .sr _ => decide (f.top < code) || (decide (f.top = code) && s.2.1 != 0)
      | _ => decide (f.top < mag)
    ⟨mag, s.2.1 != 0, decide (l < emin), big⟩

/-- A value as FP32, rounded to nearest even, with the flags of R312. -/
def toF32 (v : FpVal) : Lane × Flags :=
  match v with
  | .nan => (BitVec.ofNat 32 fp32.nan, {})
  | .inf n => (BitVec.ofNat 32 (fp32.code n fp32.infMag), {})
  | .fin n m e =>
    let r := fp32.round .rne m e
    if r.big then (BitVec.ofNat 32 (fp32.code n fp32.infMag), { ovf := true, nx := true })
    else (BitVec.ofNat 32 (fp32.code n r.mag), { uf := r.tiny && r.inexact, nx := r.inexact })

/-- An FP32 lane's value. -/
def ofF32 (x : Lane) : FpVal := fp32.decode x.toNat

/-- A magnitude with its sign, in steps of `2^q`, where `q` is at most its exponent. -/
def signedSteps (neg : Bool) (m : Nat) (e q : Int) : Int :=
  let k : Int := (m * 2 ^ (e - q).toNat : Nat)
  if neg then -k else k

/-- The exact sum, and whether it is invalid (∞ - ∞). An exact zero is -0 only where both terms are negative. -/
def FpVal.add : FpVal → FpVal → FpVal × Bool
  | .nan, _ => (.nan, false)
  | _, .nan => (.nan, false)
  | .inf a, .inf b => if a = b then (.inf a, false) else (.nan, true)
  | .inf a, .fin _ _ _ => (.inf a, false)
  | .fin _ _ _, .inf b => (.inf b, false)
  | .fin na ma ea, .fin nb mb eb =>
    let q := if ea ≤ eb then ea else eb
    let s := signedSteps na ma ea q + signedSteps nb mb eb q
    (if s = 0 then .fin (na && nb) 0 q else .fin (decide (s < 0)) s.natAbs q, false)

/-- The exact product, and whether it is invalid (∞ × 0). -/
def FpVal.mul : FpVal → FpVal → FpVal × Bool
  | .nan, _ => (.nan, false)
  | _, .nan => (.nan, false)
  | .inf a, .inf b => (.inf (a != b), false)
  | .inf a, .fin b m _ => if m = 0 then (.nan, true) else (.inf (a != b), false)
  | .fin a m _, .inf b => if m = 0 then (.nan, true) else (.inf (a != b), false)
  | .fin a m e, .fin b n d => (.fin (a != b) (m * n) (e + d), false)

/-- The value with its sign inverted. -/
def FpVal.neg : FpVal → FpVal
  | .nan => .nan
  | .inf a => .inf (!a)
  | .fin a m e => .fin (!a) m e

/-- The value times a power of two. -/
def FpVal.scale (k : Int) : FpVal → FpVal
  | .nan => .nan
  | .inf a => .inf a
  | .fin a m e => .fin a m (e + k)

/-- A value rounded to FP32, with NV added. -/
def f32Of (v : FpVal × Bool) : Lane × Flags :=
  let r := toF32 v.1
  (r.1, { r.2 with nv := v.2 })

/-- FP32 addition (R296). -/
def f32Add (a b : Lane) : Lane × Flags := f32Of ((ofF32 a).add (ofF32 b))

/-- FP32 subtraction (R296). -/
def f32Sub (a b : Lane) : Lane × Flags := f32Of ((ofF32 a).add (ofF32 b).neg)

/-- FP32 multiplication (R296). -/
def f32Mul (a b : Lane) : Lane × Flags := f32Of ((ofF32 a).mul (ofF32 b))

/-- FP32 fused multiply-add with one rounding (R296). -/
def f32Fma (a b c : Lane) : Lane × Flags :=
  let p := (ofF32 a).mul (ofF32 b)
  let s := p.1.add (ofF32 c)
  f32Of (s.1, p.2 || s.2)

/-- Is an FP32 lane a NaN? -/
def f32IsNan (a : Lane) : Bool := ofF32 a == .nan

/-- A key that orders the FP32 values that are no NaN, -0 below +0. -/
def f32Key (a : Lane) : Int :=
  let n := a.toNat
  if bitOf n 31 then -((n % 2 ^ 31 : Nat) : Int) - 1 else (n : Int)

/-- The canonical FP32 NaN (R302). -/
def f32Nan : Lane := 0x7FC00000

/-- The lesser, -0 below +0; a NaN operand gives the canonical NaN (R303). -/
def f32Min (a b : Lane) : Lane :=
  if f32IsNan a || f32IsNan b then f32Nan else if f32Key a ≤ f32Key b then a else b

/-- The greater, as `f32Min`. -/
def f32Max (a b : Lane) : Lane :=
  if f32IsNan a || f32IsNan b then f32Nan else if f32Key b ≤ f32Key a then a else b

/-- A key that orders FP32 values as numbers, +0 and -0 alike. -/
def f32NumKey (a : Lane) : Int :=
  let n := a.toNat
  if bitOf n 31 then -((n % 2 ^ 31 : Nat) : Int) else (n : Int)

/-- VCMP's quiet comparisons: codes 0-5 of the scalar table, 6 UNORD, 7 ORD. -/
def f32Cmp (cond : Nat) (a b : Lane) : Bool :=
  let un := f32IsNan a || f32IsNan b
  let x := f32NumKey a
  let y := f32NumKey b
  match cond with
  | 0 => !un && decide (x = y)
  | 1 => un || decide (x ≠ y)
  | 2 => !un && decide (x < y)
  | 3 => !un && decide (x ≤ y)
  | 4 => !un && decide (y < x)
  | 5 => !un && decide (y ≤ x)
  | 6 => un
  | _ => !un

/-! ### Conversions (R308-R310, R334) -/

/-- What a conversion does with an overflow (R308). -/
inductive OvfMode
  | inf | sat | nan
  deriving DecidableEq, Repr

/-- A value converted to a narrower format that has infinities or a NaN (R308). -/
def cvtTo (f : Fmt) (md : Rnd) (om : OvfMode) (v : FpVal) : Nat × Flags :=
  match v with
  | .nan => (f.nan, {})
  | .inf n =>
    match om with
    | .inf => (f.code n f.infMag, {})
    | .sat => (f.code n f.top, { nx := true, sat := true })
    | .nan => (f.nan, {})
  | .fin n m e =>
    let r := f.round md m e
    if r.big then
      match om with
      | .inf =>
        if md = .rtz then (f.code n f.top, { ovf := true, nx := true })
        else (f.code n f.infMag, { ovf := true, nx := true })
      | .sat => (f.code n f.top, { ovf := true, nx := true, sat := true })
      | .nan => (f.nan, { ovf := true, nx := true })
    else (f.code n r.mag, { uf := r.tiny && r.inexact, nx := r.inexact })

/-- A value converted to a two's complement integer between -2^(w-1) and 2^(w-1) - 1 (R308; the CVT table). For
INT32 every saturation sets OF; for INT8 that of a finite value (log entry 13). Log: DEDUCED 13, 44. -/
def cvtInt (w : Nat) (md : Rnd) (v : FpVal) : Nat × Flags :=
  let lim (n : Bool) : Nat := if n then 2 ^ (w - 1) else 2 ^ (w - 1) - 1
  let out (n : Bool) (k : Nat) : Nat := if n then toBits w (-(k : Int)) else k
  match v with
  | .nan => (0, { nv := true })
  | .inf n => (out n (lim n), { nx := true, sat := true, ovf := w == 32 })
  | .fin n m e =>
    let s := inSteps m e 0
    let k := if md.up s.1 s.2.1 s.2.2 && s.2.1 != 0 then s.1 + 1 else s.1
    let big := match md with
      | .sr _ => decide (lim n < s.1) || (decide (lim n = s.1) && s.2.1 != 0)
      | _ => decide (lim n < k)
    if big then (out n (lim n), { ovf := true, nx := true, sat := true })
    else (out n k, { nx := s.2.1 != 0 })

/-- The value of an element of an MX block under its scale byte (R304). -/
def mxVal (f : Fmt) (x s : Nat) : FpVal :=
  if s = 0xFF then .nan else (f.decode x).scale ((s : Int) - 127)

/-- floor(log2) of a magnitude. -/
def magLog (m : Nat) (e : Int) : Int := (Nat.log2 m : Int) + e

/-- The scale byte of a block of 32 values (R309), 0xFF where one is a NaN or an infinity (R308). -/
def mxScale (emax : Int) (l : List FpVal) : Nat :=
  if l.any (fun v => match v with | .fin _ _ _ => false | _ => true) then 0xFF
  else
    let logs := l.filterMap fun v => match v with
      | .fin _ m e => if m = 0 then none else some (magLog m e)
      | _ => none
    match logs.max? with
    | none => 0x7F
    | some x => (clampInt (-127) 128 (x - emax) + 127).toNat

/-- A value as an element of a block with a scale byte (R308, R309). -/
def mxElem (f : Fmt) (md : Rnd) (s : Nat) (v : FpVal) : Nat × Flags :=
  if s = 0xFF then (0, {})
  else
    match v with
    | .fin n m e => cvtTo f md .sat (.fin n m (e - ((s : Int) - 127)))
    | _ => (0, {})

/-! ### The approximations (R297) -/

/-- The largest `r ≤ hi` with `r * r ≤ n`, found bit by bit. -/
def sqrtBits (n : Nat) : Nat → Nat → Nat
  | 0, r => r
  | b + 1, r =>
    let t := r + 2 ^ b
    if t * t ≤ n then sqrtBits n b t else sqrtBits n b r

/-- The square root of a number, rounded down. -/
def natSqrt (n : Nat) : Nat := sqrtBits n (Nat.log2 n / 2 + 1) 0

/-- Fraction bits of the fixed-point numbers below. -/
def apBits : Nat := 96

/-- log2 of `x / 2^apBits`, for a value from 1 up to 2, to `k` fraction bits, rounded down. -/
def log2Bits (x : Nat) : Nat → Nat
  | 0 => 0
  | k + 1 =>
    let y := x * x / 2 ^ apBits
    if 2 ^ (apBits + 1) ≤ y then 2 ^ k + log2Bits (y / 2) k else log2Bits y k

/-- 2 to the power of the `k` fraction bits `f`, times `acc`: `root` is 2^(1/2), 2^(1/4), ... in turn. -/
def exp2Bits (f acc root : Nat) : Nat → Nat
  | 0 => acc
  | k + 1 =>
    let acc' := if bitOf f k then acc * root / 2 ^ apBits else acc
    exp2Bits f acc' (natSqrt (root * 2 ^ apBits)) k

/-- The result of an approximation whose exact value is normal: the code `lo` is at most the code of the exact
value rounded down, by at most one; `exact` says it is representable and equals `lo`. The result is the package's
fixed function of the input, anywhere within 1 ulp (R297): `Config.approx`, of which only this bound is known.
`n` is how many codes from `lo` up can lie within the bound. Log entry 14. Log: DESIGN CHOICE 14. -/
def approxPick (fn : Nat) (x : Lane) (neg : Bool) (lo n : Nat) (exact : Bool) : Lane × Flags :=
  let p := Config.approx fn x.toNat
  let mag := if exact then lo - 1 + p % 3 else lo + p % n
  (BitVec.ofNat 32 (fp32.code neg mag), { nx := !(exact && mag == lo), ovf := decide (fp32.top < mag) })

/-- The result where the exact value is not a normal number: R297 states no bound, so it is free. Log entry 14.
Log: DESIGN CHOICE 14. -/
def approxFree (fn : Nat) (x : Lane) (exactBits : Option Lane) : Lane × Flags :=
  let r := BitVec.ofNat 32 (Config.approx fn x.toNat)
  let inexact := decide (exactBits ≠ some r)
  (r, { nx := inexact, uf := inexact && exactBits != some 0 })

/-- 1 / x (R297). -/
def f32Rcp (x : Lane) : Lane × Flags :=
  match ofF32 x with
  | .nan => (f32Nan, {})
  | .inf n => (BitVec.ofNat 32 (fp32.code n 0), {})
  | .fin n m e =>
    if m = 0 then (BitVec.ofNat 32 (fp32.code n fp32.infMag), { dz := true })
    else
      -- 1 / (m * 2^e) = (2^120 / m) * 2^(-120 - e)
      let q := 2 ^ 120 / m
      let exact := 2 ^ 120 % m == 0
      let r := fp32.round .rtz q (-120 - e)
      if r.big then ((approxFree 2 x none).1, { ovf := true, nx := true })
      else if r.tiny then
        approxFree 2 x (if exact && !r.inexact then some (BitVec.ofNat 32 (fp32.code n r.mag)) else none)
      else approxPick 2 x n r.mag 2 (exact && !r.inexact)

/-- 1 / sqrt x (R297). -/
def f32Rsq (x : Lane) : Lane × Flags :=
  match ofF32 x with
  | .nan => (f32Nan, {})
  | .inf n => if n then (f32Nan, { nv := true }) else (0, {})
  | .fin n m e =>
    if m = 0 then (BitVec.ofNat 32 (fp32.code n fp32.infMag), { dz := true })
    else if n then (f32Nan, { nv := true })
    else
      -- an even exponent: m * 2^e = m' * 2^(2h)
      let odd := e % 2 == 1
      let m' := if odd then 2 * m else m
      let h := (if odd then e - 1 else e) / 2
      let q := natSqrt (2 ^ 160 / m')
      let exact := 2 ^ 160 % m' == 0 && q * q == 2 ^ 160 / m'
      let r := fp32.round .rtz q (-80 - h)
      approxPick 3 x false r.mag 2 (exact && !r.inexact)

/-- log2 x (R297). -/
def f32Log2 (x : Lane) : Lane × Flags :=
  match ofF32 x with
  | .nan => (f32Nan, {})
  | .inf n => if n then (f32Nan, { nv := true }) else (BitVec.ofNat 32 (fp32.code false fp32.infMag), {})
  | .fin n m e =>
    if m = 0 then (BitVec.ofNat 32 (fp32.code true fp32.infMag), { dz := true })
    else if n then (f32Nan, { nv := true })
    else
      let l := Nat.log2 m
      let whole : Int := (l : Int) + e
      let frac := log2Bits (m * 2 ^ apBits / 2 ^ l) 64
      let v : Int := whole * 2 ^ 64 + frac
      let power := m == 2 ^ l
      if v = 0 ∧ power then approxFree 1 x (some 0)
      else
        let neg := decide (v < 0)
        let r := fp32.round .rtz (if neg ∧ ¬ power then v.natAbs - 2 else v.natAbs) (-64)
        approxPick 1 x neg r.mag 3 (power && !r.inexact)

/-- 2^x (R297). -/
def f32Exp2 (x : Lane) : Lane × Flags :=
  match ofF32 x with
  | .nan => (f32Nan, {})
  | .inf n => (if n then 0 else BitVec.ofNat 32 (fp32.code false fp32.infMag), {})
  | .fin n m e =>
    -- the exact value is 2^(v / 2^149)
    let v := signedSteps n m e (-149)
    let whole := v / 2 ^ 149
    let frac := (v % 2 ^ 149).toNat
    if 128 ≤ whole then (BitVec.ofNat 32 (fp32.code false fp32.infMag), { ovf := true, nx := true })
    else if whole < -149 then (0, { uf := true, nx := true })
    else
      let p := exp2Bits (frac / 2 ^ 85) (2 ^ apBits) (natSqrt (2 ^ (2 * apBits + 1))) 64
      let r := fp32.round .rtz p (whole - apBits)
      if whole < -126 then approxFree 0 x (if frac = 0 then some (BitVec.ofNat 32 (fp32.code false r.mag)) else none)
      else approxPick 0 x false r.mag 3 (decide (frac = 0))

end Sys2Proof.Machine
end

