-- ==== Sys2Proof/Machine/Tbl.lean ====
section
/-! DEFINITION. Sparse tables: a list of (key, value) rows with the keys strictly rising. A key that no row
names holds the table's default, which the reader supplies; writing the default removes the row. -/
namespace Sys2Proof

/-- A sparse table. -/
abbrev Tbl (β : Type) := List (Nat × β)

/-- The row of a key, if one is listed. -/
def Tbl.look {β : Type} : Tbl β → Nat → Option β
  | [], _ => none
  | (a, b) :: r, k => if a = k then some b else Tbl.look r k

/-- The value of a key, `d` where no row names it. -/
def Tbl.lookD {β : Type} (t : Tbl β) (d : β) (k : Nat) : β := (Tbl.look t k).getD d

/-- The table without a key. -/
def Tbl.del {β : Type} : Tbl β → Nat → Tbl β
  | [], _ => []
  | (a, b) :: r, k => if a = k then Tbl.del r k else (a, b) :: Tbl.del r k

/-- The table with a key's row set, in its place. -/
def Tbl.set {β : Type} : Tbl β → Nat → β → Tbl β
  | [], k, v => [(k, v)]
  | (a, b) :: r, k, v =>
    if k < a then (k, v) :: (a, b) :: r
    else if a = k then (k, v) :: r
    else (a, b) :: Tbl.set r k v

/-- Write a value: the default removes the row. -/
def Tbl.put {β : Type} [DecidableEq β] (t : Tbl β) (d : β) (k : Nat) (v : β) : Tbl β :=
  if v = d then Tbl.del t k else Tbl.set t k v

/-- The keys rise strictly. -/
def Tbl.rising {β : Type} : Tbl β → Bool
  | [] => true
  | [_] => true
  | (a, _) :: (b, y) :: r => decide (a < b) && Tbl.rising ((b, y) :: r)

/-- Canonical: keys strictly rising, and no row holds what an unlisted key reads as. -/
def Tbl.canon {β : Type} [DecidableEq β] (t : Tbl β) (d : Nat → β) : Bool :=
  Tbl.rising t && t.all (fun r => decide (r.2 ≠ d r.1))

end Sys2Proof
end

