-- ==== Sys2Proof/Machine/MemTypes.lean ====
section
/-! DEFINITION. The plain data of byte memories (R298, R349, R353). -/
namespace Sys2Proof.Machine

/-- A byte memory: its cells in rising order of address, none equal to what an unlisted address reads as; what that
is (epoch 0: zero; epoch n + 1: the free value of draw n); and the check-bit blocks that read uncorrectable. -/
structure Mem where
  cells : List Host.Cell := []
  epoch : Nat := 0
  bad   : Tbl Nat := []
  deriving DecidableEq, Repr

/-- A slot buffer of the slot store (R114, R528): free; held by a cluster; held by a QUEUE copy of an engine
(CPY.SEL's number); committed or bound and waiting for its slot's end. -/
inductive BufUse
  | free
  | cluster (p : Nat)
  | engine (e : Nat)
  | full
  deriving DecidableEq, Repr

/-- One slot buffer and its bytes. -/
structure Buf where
  held : BufUse := .free
  mem  : Mem := {}
  deriving DecidableEq, Repr

/-- The requesters of LPDDR5, by MEM.ERR_ADDR.REQ's encoding. -/
inductive Req
  | cluster | dieEngine | ftdEngine | fellUnit | aggregator | scrubber | companion
  deriving DecidableEq, Repr

/-- A requester's number. Log: DEDUCED 82. -/
def Req.num : Req → Nat
  | .cluster => 0
  | .dieEngine => 1
  | .ftdEngine => 2
  | .fellUnit => 3
  | .aggregator => 4
  | .scrubber => 5
  | .companion => 6

end Sys2Proof.Machine
end

