-- ==== Sys2Proof/Machine/Mem.lean ====
section
/-! DEFINITION. Reading and writing a byte memory in its one canonical form. -/
namespace Sys2Proof.Machine
open Sys2Proof

/-- What an unlisted address reads as (R377; log entries 2 and 12). Log: DEDUCED 12. -/
def Mem.unread (m : Mem) (a : Nat) : Byte :=
  if m.epoch = 0 then 0 else BitVec.ofNat 8 (Config.freeNat (m.epoch - 1) a)

/-- The canonical form: addresses strictly rising, and no cell holds what its address reads as unlisted. -/
abbrev Mem.wf (m : Mem) : Bool := Tbl.canon m.cells m.unread

/-- One byte. Log: DEDUCED 12. -/
def Mem.get (m : Mem) (a : Nat) : Byte := Tbl.lookD m.cells (m.unread a) a

/-- One byte written. -/
def Mem.put (m : Mem) (a : Nat) (b : Byte) : Mem := { m with cells := Tbl.put m.cells (m.unread a) a b }

/-- `n` bytes from an address. -/
def Mem.read (m : Mem) (a : Nat) : Nat → List Byte
  | 0 => []
  | n + 1 => m.get a :: m.read (a + 1) n

/-- A list of bytes written from an address. -/
def Mem.write (m : Mem) (a : Nat) : List Byte → Mem
  | [] => m
  | b :: r => (m.put a b).write (a + 1) r

/-- The memory with all its contents lost: every byte a free value of draw `d`. Log: DEDUCED 12. -/
def Mem.lost (d : Nat) : Mem := { cells := [], epoch := d + 1, bad := [] }

/-- Is a check-bit block uncorrectable? -/
def Mem.isBad (m : Mem) (blk : Nat) : Bool := (Tbl.look m.bad blk).isSome

/-- A check-bit block made uncorrectable. -/
def Mem.setBad (m : Mem) (blk : Nat) : Mem := { m with bad := Tbl.set m.bad blk 1 }

/-- A check-bit block with fresh check bits. -/
def Mem.clearBad (m : Mem) (blk : Nat) : Mem := { m with bad := Tbl.del m.bad blk }

/-- The pieces of `n` bytes from `a`, cut at multiples of `u`; `fuel` bounds their number. -/
def pieces (u a n : Nat) : Nat → List (Nat × Nat)
  | 0 => []
  | fuel + 1 =>
    if n = 0 then []
    else
      let k := min n (u - a % u)
      (a, k) :: pieces u (a + k) (n - k) fuel

/-- The check-bit blocks of `u` bytes that `n` bytes from `a` touch. -/
def blocksOf (u a n : Nat) : List Nat := (pieces u a n (n / u + 2)).map fun p => p.1 / u

/-- The first uncorrectable block among those touched. -/
def Mem.firstBad (m : Mem) (u a n : Nat) : Option Nat := (blocksOf u a n).find? m.isBad

/-- One piece written (R353, R354): a whole block stores fresh check bits; a part of an uncorrectable block fails
and changes nothing. Log: DEDUCED 43. -/
def Mem.writePiece (m : Mem) (u a : Nat) (l : List Byte) : Mem × Bool :=
  if a % u = 0 ∧ l.length = u then ((m.clearBad (a / u)).write a l, true)
  else if m.isBad (a / u) then (m, false)
  else (m.write a l, true)

/-- Bytes written piece by piece: the memory, and the blocks whose write failed. -/
def Mem.writePieces (m : Mem) (u : Nat) (l : List Byte) : List (Nat × Nat) → Mem × List Nat
  | [] => (m, [])
  | (a, k) :: r =>
    let w := m.writePiece u a (l.take k)
    let rest := w.1.writePieces u (l.drop k) r
    (rest.1, if w.2 then rest.2 else a / u :: rest.2)

/-- Bytes written from an address; the blocks whose write failed stay as they were. -/
def Mem.store (m : Mem) (u a : Nat) (l : List Byte) : Mem × List Nat :=
  m.writePieces u l (pieces u a l.length (l.length / u + 2))

end Sys2Proof.Machine
end

