-- ==== Sys2Proof/Machine/Field.lean ====
section
/-! DEFINITION. Register fields, and the rows of the address map (R12, R16, R460, R467). -/
namespace Sys2Proof

/-- One field of one register: the register's offset (R12), the field's lowest bit and width, the instance of
a register that a selector or a bank shows (0 otherwise), and the value the register's header gives it (R13). -/
structure Field where
  off   : Nat
  lo    : Nat
  width : Nat
  inst  : Nat
  reset : Nat
  deriving DecidableEq, Repr

/-- The field's key in the store of registers: instance, offset, lowest bit. -/
def Field.key (f : Field) : Nat := (f.inst * 2 ^ 26 + f.off) * 128 + f.lo

/-- The access codes of R16. -/
inductive Acc
  | rw | ro | lk | w1 | wp | sq | mb | ws
  deriving DecidableEq, Repr

/-- Which selector names the instance a register shows. -/
inductive Win
  | none | seam | queue | link | pcache | pqual | calRes | lane | channel | path | engine | vec
  | sensor | rail | edCh | cmat | loop | ring | fell
  deriving DecidableEq, Repr

/-- A field in a row of the address map. `cl`: its After COLD column reads CL (R14). -/
structure FieldRow where
  lo    : Nat
  width : Nat
  acc   : Acc
  cl    : Bool
  deriving DecidableEq, Repr

/-- A register table as the address map holds it: offset, repeats as (count, stride), the selector of its
instance, whether it is banked (R467), its block number (R460; the first of OPE, CU, ED and CD), the reset value
of its header, whether it is read through the mailbox (MB), and its fields from the lowest bit. -/
structure RegRow where
  base   : Nat
  dims   : List (Nat × Nat)
  win    : Win
  banked : Bool
  block  : Nat
  reset  : Nat
  wide   : Bool
  fields : List FieldRow
  deriving DecidableEq, Repr

end Sys2Proof
end

