-- ==== Sys2Proof/Machine/Regs.lean ====
section
/-! DEFINITION. The fields of every register table of spec/, one constant each, made from the tables'
own offset, bit range and reset value (R12, R13). `p` is an optical port 0-15 (4e + q), `c` a physical
cluster 0-2,047 (256d + c), `i` the instance a selector names, `b` the bank of a banked register (R467). -/
namespace Sys2Proof

/-! GAUGE.CTRL, 02_hall_time.md, line 329. -/
def GAUGE.CTRL.REVERT : Field := ⟨0x10000, 4, 1, 0, 0⟩
def GAUGE.CTRL.SEAM_EN : Field := ⟨0x10000, 3, 1, 0, 0⟩
def GAUGE.CTRL.PREF : Field := ⟨0x10000, 2, 1, 0, 0⟩
def GAUGE.CTRL.LOOP_HOLD : Field := ⟨0x10000, 1, 1, 0, 0⟩
def GAUGE.CTRL.ENABLE : Field := ⟨0x10000, 0, 1, 0, 0⟩
def GAUGE.CTRL.base : Nat := 0x10000

/-! GAUGE.CMD, 02_hall_time.md, line 340. -/
def GAUGE.CMD.RESEAT : Field := ⟨0x10004, 2, 1, 0, 0⟩
def GAUGE.CMD.TO_A : Field := ⟨0x10004, 1, 1, 0, 0⟩
def GAUGE.CMD.TO_B : Field := ⟨0x10004, 0, 1, 0, 0⟩
def GAUGE.CMD.base : Nat := 0x10004

/-! GAUGE.STATUS, 02_hall_time.md, line 349. -/
def GAUGE.STATUS.STATE : Field := ⟨0x10008, 28, 4, 0, 0⟩
def GAUGE.STATUS.ACTIVE : Field := ⟨0x10008, 27, 1, 0, 0⟩
def GAUGE.STATUS.A_VALID : Field := ⟨0x10008, 26, 1, 0, 0⟩
def GAUGE.STATUS.B_VALID : Field := ⟨0x10008, 25, 1, 0, 0⟩
def GAUGE.STATUS.OPT_OK : Field := ⟨0x10008, 24, 1, 0, 0⟩
def GAUGE.STATUS.CU_OK : Field := ⟨0x10008, 23, 1, 0, 0⟩
def GAUGE.STATUS.GEAR : Field := ⟨0x10008, 22, 1, 0, 0⟩
def GAUGE.STATUS.SLEWING : Field := ⟨0x10008, 21, 1, 0, 0⟩
def GAUGE.STATUS.CLAMPED : Field := ⟨0x10008, 20, 1, 0, 0⟩
def GAUGE.STATUS.SEAM_USED : Field := ⟨0x10008, 8, 6, 0, 0⟩
def GAUGE.STATUS.base : Nat := 0x10008

/-! GAUGE.EVENT, 02_hall_time.md, line 366. -/
def GAUGE.EVENT.SEQ : Field := ⟨0x1000c, 24, 8, 0, 0⟩
def GAUGE.EVENT.CFG_ERR : Field := ⟨0x1000c, 9, 1, 0, 0⟩
def GAUGE.EVENT.CMD_REFUSED : Field := ⟨0x1000c, 8, 1, 0, 0⟩
def GAUGE.EVENT.COEF_REFUSED : Field := ⟨0x1000c, 7, 1, 0, 0⟩
def GAUGE.EVENT.RESEAT : Field := ⟨0x1000c, 6, 1, 0, 0⟩
def GAUGE.EVENT.CLAMP : Field := ⟨0x1000c, 5, 1, 0, 0⟩
def GAUGE.EVENT.HOLDOVER : Field := ⟨0x1000c, 4, 1, 0, 0⟩
def GAUGE.EVENT.SWITCH : Field := ⟨0x1000c, 3, 1, 0, 0⟩
def GAUGE.EVENT.B_DISQ : Field := ⟨0x1000c, 2, 1, 0, 0⟩
def GAUGE.EVENT.A_DISQ : Field := ⟨0x1000c, 1, 1, 0, 0⟩
def GAUGE.EVENT.OPT_GATE : Field := ⟨0x1000c, 0, 1, 0, 0⟩
def GAUGE.EVENT.base : Nat := 0x1000c

/-! GAUGE.EST_ERR, 02_hall_time.md, line 383. -/
def GAUGE.EST_ERR.PS : Field := ⟨0x10010, 0, 32, 0, 0xffffffff⟩
def GAUGE.EST_ERR.base : Nat := 0x10010

/-! GAUGE.EST_CFG, 02_hall_time.md, line 389. -/
def GAUGE.EST_CFG.HOLD_RATE : Field := ⟨0x10014, 16, 16, 0, 0x64⟩
def GAUGE.EST_CFG.FLOOR : Field := ⟨0x10014, 0, 16, 0, 0x19⟩
def GAUGE.EST_CFG.base : Nat := 0x10014

/-! GAUGE.DELAY_A, 02_hall_time.md, line 396. -/
def GAUGE.DELAY_A.DELAY : Field := ⟨0x10018, 0, 32, 0, 0⟩
def GAUGE.DELAY_A.base : Nat := 0x10018

/-! GAUGE.DELAY_B, 02_hall_time.md, line 402. -/
def GAUGE.DELAY_B.DELAY : Field := ⟨0x1001c, 0, 32, 0, 0⟩
def GAUGE.DELAY_B.base : Nat := 0x1001c

/-! GAUGE.OFFS_BA, 02_hall_time.md, line 408. -/
def GAUGE.OFFS_BA.OFFS : Field := ⟨0x10020, 0, 32, 0, 0⟩
def GAUGE.OFFS_BA.base : Nat := 0x10020

/-! GAUGE.SEAM_CFG, 02_hall_time.md, line 414. -/
def GAUGE.SEAM_CFG.BLEND : Field := ⟨0x10024, 24, 8, 0, 0x80⟩
def GAUGE.SEAM_CFG.OPT_WEIGHT : Field := ⟨0x10024, 16, 8, 0, 0x80⟩
def GAUGE.SEAM_CFG.OUTLIER : Field := ⟨0x10024, 8, 8, 0, 0x3f⟩
def GAUGE.SEAM_CFG.FLOOR : Field := ⟨0x10024, 0, 8, 0, 8⟩
def GAUGE.SEAM_CFG.base : Nat := 0x10024

/-! GAUGE.LOOP_ACQ, 02_hall_time.md, line 423. -/
def GAUGE.LOOP_ACQ.KP : Field := ⟨0x10028, 16, 16, 0, 0x87⟩
def GAUGE.LOOP_ACQ.KI : Field := ⟨0x10028, 0, 16, 0, 9⟩
def GAUGE.LOOP_ACQ.base : Nat := 0x10028

/-! GAUGE.LOOP_TRK, 02_hall_time.md, line 430. -/
def GAUGE.LOOP_TRK.KP : Field := ⟨0x1002c, 16, 16, 0, 0xe⟩
def GAUGE.LOOP_TRK.KI : Field := ⟨0x1002c, 0, 16, 0, 1⟩
def GAUGE.LOOP_TRK.base : Nat := 0x1002c

/-! GAUGE.QUAL, 02_hall_time.md, line 437. -/
def GAUGE.QUAL.PLS_GOOD : Field := ⟨0x10030, 8, 8, 0, 8⟩
def GAUGE.QUAL.PLS_MISS : Field := ⟨0x10030, 0, 8, 0, 3⟩
def GAUGE.QUAL.base : Nat := 0x10030

/-! GAUGE.GEAR, 02_hall_time.md, line 445. -/
def GAUGE.GEAR.FRAMES : Field := ⟨0x10034, 0, 16, 0, 0x12a0⟩
def GAUGE.GEAR.base : Nat := 0x10034

/-! GAUGE.REVERT, 02_hall_time.md, line 452. -/
def GAUGE.REVERT.FRAMES : Field := ⟨0x10038, 0, 32, 0, 0xdf85⟩
def GAUGE.REVERT.base : Nat := 0x10038

/-! GAUGE.RATE, 02_hall_time.md, line 458. -/
def GAUGE.RATE.Y : Field := ⟨0x1003c, 0, 32, 0, 0⟩
def GAUGE.RATE.base : Nat := 0x1003c

/-! GAUGE.CORR, 02_hall_time.md, line 464. -/
def GAUGE.CORR.C : Field := ⟨0x10040, 0, 32, 0, 0⟩
def GAUGE.CORR.base : Nat := 0x10040

/-! GAUGE.COUNTS, 02_hall_time.md, line 470. -/
def GAUGE.COUNTS.COEF_REFUSED : Field := ⟨0x10044, 24, 8, 0, 0⟩
def GAUGE.COUNTS.MISS_A : Field := ⟨0x10044, 16, 8, 0, 0⟩
def GAUGE.COUNTS.MISS_B : Field := ⟨0x10044, 8, 8, 0, 0⟩
def GAUGE.COUNTS.SEAM_DISCARD : Field := ⟨0x10044, 0, 8, 0, 0⟩
def GAUGE.COUNTS.base : Nat := 0x10044

/-! GAUGE.COUNTS2, 02_hall_time.md, line 479. -/
def GAUGE.COUNTS2.OUTLIER : Field := ⟨0x10048, 24, 8, 0, 0⟩
def GAUGE.COUNTS2.base : Nat := 0x10048

/-! GAUGE.SEAM_IDX, 02_hall_time.md, line 486. -/
def GAUGE.SEAM_IDX.IDX (b : Nat) : Field := ⟨0x10050, 0, 10, b, 0⟩
def GAUGE.SEAM_IDX.base : Nat := 0x10050

/-! GAUGE.SEAM_THETA, 02_hall_time.md, line 493. -/
def GAUGE.SEAM_THETA.THETA (i : Nat) : Field := ⟨0x10054, 0, 32, i, 0⟩
def GAUGE.SEAM_THETA.base : Nat := 0x10054

/-! GAUGE.SEAM_DELAY, 02_hall_time.md, line 499. -/
def GAUGE.SEAM_DELAY.DELAY (i : Nat) : Field := ⟨0x10058, 0, 32, i, 0⟩
def GAUGE.SEAM_DELAY.base : Nat := 0x10058

/-! GAUGE.SEAM_STAT, 02_hall_time.md, line 505. -/
def GAUGE.SEAM_STAT.SIGMA (i : Nat) : Field := ⟨0x1005c, 16, 16, i, 0⟩
def GAUGE.SEAM_STAT.SHARE (i : Nat) : Field := ⟨0x1005c, 8, 8, i, 0⟩
def GAUGE.SEAM_STAT.OUTLIER (i : Nat) : Field := ⟨0x1005c, 3, 1, i, 0⟩
def GAUGE.SEAM_STAT.USED (i : Nat) : Field := ⟨0x1005c, 2, 1, i, 0⟩
def GAUGE.SEAM_STAT.TWO_WAY (i : Nat) : Field := ⟨0x1005c, 1, 1, i, 0⟩
def GAUGE.SEAM_STAT.VALID (i : Nat) : Field := ⟨0x1005c, 0, 1, i, 0⟩
def GAUGE.SEAM_STAT.base : Nat := 0x1005c

/-! GAUGE.NOW, 02_hall_time.md, line 517. -/
def GAUGE.NOW.TIME : Field := ⟨0x10080, 0, 128, 0, 0⟩
def GAUGE.NOW.base : Nat := 0x10080

/-! GAUGE.SLOT, 02_hall_time.md, line 523. -/
def GAUGE.SLOT.SLOT : Field := ⟨0x10090, 0, 64, 0, 0⟩
def GAUGE.SLOT.base : Nat := 0x10090

/-! GAUGE.CAP_A, 02_hall_time.md, line 529. -/
def GAUGE.CAP_A.TIME : Field := ⟨0x100a0, 0, 128, 0, 0⟩
def GAUGE.CAP_A.base : Nat := 0x100a0

/-! GAUGE.CAP_B, 02_hall_time.md, line 535. -/
def GAUGE.CAP_B.TIME : Field := ⟨0x100b0, 0, 128, 0, 0⟩
def GAUGE.CAP_B.base : Nat := 0x100b0

/-! TIO.TPO<n>_CTRL, 03_time_edges.md, line 116. -/
def TIO.TPO_CTRL.WIDTH (n : Nat) : Field := ⟨0x20000 + 0x20 * n, 16, 16, 0, 0⟩
def TIO.TPO_CTRL.ARMED (n : Nat) : Field := ⟨0x20000 + 0x20 * n, 7, 1, 0, 0⟩
def TIO.TPO_CTRL.POL (n : Nat) : Field := ⟨0x20000 + 0x20 * n, 4, 1, 0, 0⟩
def TIO.TPO_CTRL.MODE (n : Nat) : Field := ⟨0x20000 + 0x20 * n, 2, 2, 0, 0⟩
def TIO.TPO_CTRL.ARM (n : Nat) : Field := ⟨0x20000 + 0x20 * n, 1, 1, 0, 0⟩
def TIO.TPO_CTRL.DISARM (n : Nat) : Field := ⟨0x20000 + 0x20 * n, 0, 1, 0, 0⟩
def TIO.TPO_CTRL.base : Nat := 0x20000

/-! TIO.TPO<n>_START_LO, 03_time_edges.md, line 129. -/
def TIO.TPO_START_LO.TNS_LO (n : Nat) : Field := ⟨0x20004 + 0x20 * n, 0, 32, 0, 0⟩
def TIO.TPO_START_LO.base : Nat := 0x20004

/-! TIO.TPO<n>_START_HI, 03_time_edges.md, line 135. -/
def TIO.TPO_START_HI.TNS_HI (n : Nat) : Field := ⟨0x20008 + 0x20 * n, 0, 32, 0, 0⟩
def TIO.TPO_START_HI.base : Nat := 0x20008

/-! TIO.TPO<n>_FRAC, 03_time_edges.md, line 141. -/
def TIO.TPO_FRAC.START_FRAC (n : Nat) : Field := ⟨0x2000c + 0x20 * n, 16, 16, 0, 0⟩
def TIO.TPO_FRAC.PERIOD_FRAC (n : Nat) : Field := ⟨0x2000c + 0x20 * n, 0, 16, 0, 0⟩
def TIO.TPO_FRAC.base : Nat := 0x2000c

/-! TIO.TPO<n>_PERIOD, 03_time_edges.md, line 148. -/
def TIO.TPO_PERIOD.PERIOD (n : Nat) : Field := ⟨0x20010 + 0x20 * n, 0, 32, 0, 0⟩
def TIO.TPO_PERIOD.base : Nat := 0x20010

/-! TIO.TCI_CTRL, 03_time_edges.md, line 154. -/
def TIO.TCI_CTRL.IN (j : Nat) : Field := ⟨0x20100, 3 * j, 3, 0, 0⟩
def TIO.TCI_CTRL.base : Nat := 0x20100

/-! TIO.TCI_STAT, 03_time_edges.md, line 161. -/
def TIO.TCI_STAT.FILL (j : Nat) : Field := ⟨0x20104, 4 * j, 4, 0, 0⟩
def TIO.TCI_STAT.base : Nat := 0x20104

/-! TIO.CAP_LAST, 03_time_edges.md, line 168. -/
def TIO.CAP_LAST.EMPTY : Field := ⟨0x20108, 7, 1, 0, 0⟩
def TIO.CAP_LAST.STATE : Field := ⟨0x20108, 4, 3, 0, 0⟩
def TIO.CAP_LAST.INPUT : Field := ⟨0x20108, 0, 2, 0, 0⟩
def TIO.CAP_LAST.base : Nat := 0x20108

/-! TIO.CAP<n>, 03_time_edges.md, line 178. -/
def TIO.CAP.TIME (n : Nat) : Field := ⟨0x20110 + 0x10 * n, 0, 128, 0, 0⟩
def TIO.CAP.base : Nat := 0x20110

/-! TIO.TP<p>_CFG, 03_time_edges.md, line 184. -/
def TIO.TP_CFG.DOMAIN (p : Nat) : Field := ⟨0x20200 + 0x40 * p, 24, 8, 0, 0⟩
def TIO.TP_CFG.LOG_DREQ (p : Nat) : Field := ⟨0x20200 + 0x40 * p, 16, 8, 0, 0⟩
def TIO.TP_CFG.UDP (p : Nat) : Field := ⟨0x20200 + 0x40 * p, 1, 1, 0, 0⟩
def TIO.TP_CFG.EN (p : Nat) : Field := ⟨0x20200 + 0x40 * p, 0, 1, 0, 0⟩
def TIO.TP_CFG.base : Nat := 0x20200

/-! TIO.TP<p>_ASYM, 03_time_edges.md, line 194. -/
def TIO.TP_ASYM.ASYM (p : Nat) : Field := ⟨0x20204 + 0x40 * p, 0, 32, 0, 0⟩
def TIO.TP_ASYM.base : Nat := 0x20204

/-! TIO.TP<p>_OFFSET, 03_time_edges.md, line 200. -/
def TIO.TP_OFFSET.OFFSET (p : Nat) : Field := ⟨0x20208 + 0x40 * p, 0, 32, 0, 0⟩
def TIO.TP_OFFSET.base : Nat := 0x20208

/-! TIO.TP<p>_MPD, 03_time_edges.md, line 206. -/
def TIO.TP_MPD.MPD (p : Nat) : Field := ⟨0x2020c + 0x40 * p, 0, 32, 0, 0⟩
def TIO.TP_MPD.base : Nat := 0x2020c

/-! TIO.TP<p>_STAT, 03_time_edges.md, line 212. -/
def TIO.TP_STAT.LINK (p : Nat) : Field := ⟨0x20210 + 0x40 * p, 31, 1, 0, 0⟩
def TIO.TP_STAT.GOOD8 (p : Nat) : Field := ⟨0x20210 + 0x40 * p, 8, 4, 0, 0⟩
def TIO.TP_STAT.PSTATE (p : Nat) : Field := ⟨0x20210 + 0x40 * p, 0, 3, 0, 0⟩
def TIO.TP_STAT.base : Nat := 0x20210

/-! TIO.TP<p>_GM, 03_time_edges.md, line 222. -/
def TIO.TP_GM.CLOCK_ID (p : Nat) : Field := ⟨0x20220 + 0x40 * p, 0, 64, 0, 0⟩
def TIO.TP_GM.base : Nat := 0x20220

/-! TIO.TP<p>_TXQ, 03_time_edges.md, line 228. -/
def TIO.TP_TXQ.SEC (p : Nat) : Field := ⟨0x20230 + 0x40 * p, 80, 48, 0, 0⟩
def TIO.TP_TXQ.NS (p : Nat) : Field := ⟨0x20230 + 0x40 * p, 50, 30, 0, 0⟩
def TIO.TP_TXQ.FRAC (p : Nat) : Field := ⟨0x20230 + 0x40 * p, 34, 16, 0, 0⟩
def TIO.TP_TXQ.MSGTYPE (p : Nat) : Field := ⟨0x20230 + 0x40 * p, 30, 4, 0, 0⟩
def TIO.TP_TXQ.SEQID (p : Nat) : Field := ⟨0x20230 + 0x40 * p, 14, 16, 0, 0⟩
def TIO.TP_TXQ.VALID (p : Nat) : Field := ⟨0x20230 + 0x40 * p, 0, 1, 0, 0⟩
def TIO.TP_TXQ.base : Nat := 0x20230

/-! TIO.UTC, 03_time_edges.md, line 240. -/
def TIO.UTC.OFFSET : Field := ⟨0x20300, 16, 16, 0, 0⟩
def TIO.UTC.LI_61 : Field := ⟨0x20300, 2, 1, 0, 0⟩
def TIO.UTC.LI_59 : Field := ⟨0x20300, 1, 1, 0, 0⟩
def TIO.UTC.VALID : Field := ⟨0x20300, 0, 1, 0, 0⟩
def TIO.UTC.base : Nat := 0x20300

/-! TIO.EVENT, 03_time_edges.md, line 250. -/
def TIO.EVENT.SEQ : Field := ⟨0x20304, 24, 8, 0, 0⟩
def TIO.EVENT.PTRIG_MISSED : Field := ⟨0x20304, 6, 1, 0, 0⟩
def TIO.EVENT.PTRIG_LATE : Field := ⟨0x20304, 5, 1, 0, 0⟩
def TIO.EVENT.GM_CHANGE : Field := ⟨0x20304, 4, 1, 0, 0⟩
def TIO.EVENT.TXQ_LOST : Field := ⟨0x20304, 3, 1, 0, 0⟩
def TIO.EVENT.TCI_OVF : Field := ⟨0x20304, 2, 1, 0, 0⟩
def TIO.EVENT.TPO_LATE : Field := ⟨0x20304, 1, 1, 0, 0⟩
def TIO.EVENT.CFG_ERR : Field := ⟨0x20304, 0, 1, 0, 0⟩
def TIO.EVENT.base : Nat := 0x20304

/-! TIO.COUNTS, 03_time_edges.md, line 264. -/
def TIO.COUNTS.TXQ_LOST_A : Field := ⟨0x20308, 24, 8, 0, 0⟩
def TIO.COUNTS.TXQ_LOST_B : Field := ⟨0x20308, 16, 8, 0, 0⟩
def TIO.COUNTS.TCI_OVF : Field := ⟨0x20308, 8, 8, 0, 0⟩
def TIO.COUNTS.TPO_SKIP : Field := ⟨0x20308, 0, 8, 0, 0⟩
def TIO.COUNTS.base : Nat := 0x20308

/-! TIO.PTRIG_STAT, 03_time_edges.md, line 273. -/
def TIO.PTRIG_STAT.JOB_ARMED : Field := ⟨0x2030c, 28, 4, 0, 0⟩
def TIO.PTRIG_STAT.JOB_MISSED : Field := ⟨0x2030c, 20, 8, 0, 0⟩
def TIO.PTRIG_STAT.JIG_CYCLES : Field := ⟨0x2030c, 0, 20, 0, 0⟩
def TIO.PTRIG_STAT.base : Nat := 0x2030c

/-! PB.CTRL, 04_pattern_book.md, line 352. -/
def PB.CTRL.CHAIN_SW : Field := ⟨0x30000, 1, 1, 0, 0⟩
def PB.CTRL.SCRUB_EN : Field := ⟨0x30000, 0, 1, 0, 1⟩
def PB.CTRL.base : Nat := 0x30000

/-! PB.STATUS, 04_pattern_book.md, line 360. -/
def PB.STATUS.WORN_VALID : Field := ⟨0x30004, 31, 1, 0, 0⟩
def PB.STATUS.WORN_LEAF : Field := ⟨0x30004, 30, 1, 0, 0⟩
def PB.STATUS.TBL_STATE : Field := ⟨0x30004, 27, 3, 0, 0⟩
def PB.STATUS.SW_STATE : Field := ⟨0x30004, 24, 3, 0, 0⟩
def PB.STATUS.LEAF_FAULT : Field := ⟨0x30004, 23, 1, 0, 0⟩
def PB.STATUS.LOAD_BUSY : Field := ⟨0x30004, 22, 1, 0, 0⟩
def PB.STATUS.POS : Field := ⟨0x30004, 0, 16, 0, 0⟩
def PB.STATUS.base : Nat := 0x30004

/-! PB.EVENT, 04_pattern_book.md, line 373. -/
def PB.EVENT.SEQ : Field := ⟨0x30008, 24, 8, 0, 0⟩
def PB.EVENT.LEAF_FAULT : Field := ⟨0x30008, 7, 1, 0, 0⟩
def PB.EVENT.RELAY_DROP : Field := ⟨0x30008, 6, 1, 0, 0⟩
def PB.EVENT.ARM_REFUSED : Field := ⟨0x30008, 5, 1, 0, 0⟩
def PB.EVENT.SW_MISSED : Field := ⟨0x30008, 4, 1, 0, 0⟩
def PB.EVENT.SWITCHED : Field := ⟨0x30008, 3, 1, 0, 0⟩
def PB.EVENT.REJECTED : Field := ⟨0x30008, 2, 1, 0, 0⟩
def PB.EVENT.CHECK_DONE : Field := ⟨0x30008, 1, 1, 0, 0⟩
def PB.EVENT.CFG_ERR : Field := ⟨0x30008, 0, 1, 0, 0⟩
def PB.EVENT.base : Nat := 0x30008

/-! PB.TBL_INDEX, 04_pattern_book.md, line 388. -/
def PB.TBL_INDEX.INDEX : Field := ⟨0x30010, 0, 11, 0, 0⟩
def PB.TBL_INDEX.base : Nat := 0x30010

/-! PB.TBL_LO, 04_pattern_book.md, line 395. -/
def PB.TBL_LO.LO : Field := ⟨0x30014, 0, 32, 0, 0⟩
def PB.TBL_LO.base : Nat := 0x30014

/-! PB.TBL_HI, 04_pattern_book.md, line 401. -/
def PB.TBL_HI.HI : Field := ⟨0x30018, 0, 32, 0, 0⟩
def PB.TBL_HI.base : Nat := 0x30018

/-! PB.LOAD_ADDR_LO, 04_pattern_book.md, line 407. -/
def PB.LOAD_ADDR_LO.ADDR : Field := ⟨0x3001c, 0, 32, 0, 0⟩
def PB.LOAD_ADDR_LO.base : Nat := 0x3001c

/-! PB.LOAD_ADDR_HI, 04_pattern_book.md, line 413. -/
def PB.LOAD_ADDR_HI.ADDR : Field := ⟨0x30020, 0, 16, 0, 0⟩
def PB.LOAD_ADDR_HI.base : Nat := 0x30020

/-! PB.LOAD_CNT, 04_pattern_book.md, line 420. -/
def PB.LOAD_CNT.COUNT : Field := ⟨0x30024, 0, 12, 0, 0⟩
def PB.LOAD_CNT.base : Nat := 0x30024

/-! PB.CMD, 04_pattern_book.md, line 427. -/
def PB.CMD.CANCEL : Field := ⟨0x30028, 4, 1, 0, 0⟩
def PB.CMD.ARM : Field := ⟨0x30028, 3, 1, 0, 0⟩
def PB.CMD.CLEAR : Field := ⟨0x30028, 2, 1, 0, 0⟩
def PB.CMD.CHECK : Field := ⟨0x30028, 1, 1, 0, 0⟩
def PB.CMD.LOAD : Field := ⟨0x30028, 0, 1, 0, 0⟩
def PB.CMD.base : Nat := 0x30028

/-! PB.TBL_CYCLE, 04_pattern_book.md, line 438. -/
def PB.TBL_CYCLE.LEN : Field := ⟨0x3002c, 0, 17, 0, 0⟩
def PB.TBL_CYCLE.base : Nat := 0x3002c

/-! PB.TBL_MAINT, 04_pattern_book.md, line 445. -/
def PB.TBL_MAINT.OFF : Field := ⟨0x30030, 0, 16, 0, 0⟩
def PB.TBL_MAINT.base : Nat := 0x30030

/-! PB.TBL_ALIGN_LO, 04_pattern_book.md, line 452. -/
def PB.TBL_ALIGN_LO.ALIGN : Field := ⟨0x30034, 0, 32, 0, 0⟩
def PB.TBL_ALIGN_LO.base : Nat := 0x30034

/-! PB.TBL_ALIGN_HI, 04_pattern_book.md, line 458. -/
def PB.TBL_ALIGN_HI.ALIGN : Field := ⟨0x30038, 0, 32, 0, 0⟩
def PB.TBL_ALIGN_HI.base : Nat := 0x30038

/-! PB.WORN_CYCLE, 04_pattern_book.md, line 464. -/
def PB.WORN_CYCLE.LEN : Field := ⟨0x3003c, 0, 17, 0, 0⟩
def PB.WORN_CYCLE.base : Nat := 0x3003c

/-! PB.WORN_MAINT, 04_pattern_book.md, line 471. -/
def PB.WORN_MAINT.OFF : Field := ⟨0x30040, 0, 16, 0, 0⟩
def PB.WORN_MAINT.base : Nat := 0x30040

/-! PB.SWITCH_LO, 04_pattern_book.md, line 478. -/
def PB.SWITCH_LO.SLOT : Field := ⟨0x30044, 0, 32, 0, 0⟩
def PB.SWITCH_LO.base : Nat := 0x30044

/-! PB.SWITCH_HI, 04_pattern_book.md, line 484. -/
def PB.SWITCH_HI.SLOT : Field := ⟨0x30048, 0, 32, 0, 0⟩
def PB.SWITCH_HI.base : Nat := 0x30048

/-! PB.CHK_RESULT, 04_pattern_book.md, line 490. -/
def PB.CHK_RESULT.REASON : Field := ⟨0x3004c, 27, 5, 0, 0⟩
def PB.CHK_RESULT.ENTRY : Field := ⟨0x3004c, 16, 11, 0, 0⟩
def PB.CHK_RESULT.SLOT : Field := ⟨0x3004c, 0, 16, 0, 0⟩
def PB.CHK_RESULT.base : Nat := 0x3004c

/-! PB.WORN_ALIGN, 04_pattern_book.md, line 498. -/
def PB.WORN_ALIGN.ALIGN : Field := ⟨0x30050, 0, 64, 0, 0⟩
def PB.WORN_ALIGN.base : Nat := 0x30050

/-! PB.COUNTS, 04_pattern_book.md, line 504. -/
def PB.COUNTS.ECC_CORR : Field := ⟨0x30060, 24, 8, 0, 0⟩
def PB.COUNTS.ECC_UNCORR : Field := ⟨0x30060, 16, 8, 0, 0⟩
def PB.COUNTS.SW_MISSED : Field := ⟨0x30060, 8, 8, 0, 0⟩
def PB.COUNTS.FROZEN_WR : Field := ⟨0x30060, 0, 8, 0, 0⟩
def PB.COUNTS.base : Nat := 0x30060

/-! PB.Q_SEL, 04_pattern_book.md, line 513. -/
def PB.Q_SEL.QUEUE (b : Nat) : Field := ⟨0x30064, 0, 6, b, 0⟩
def PB.Q_SEL.base : Nat := 0x30064

/-! PB.Q_STAT, 04_pattern_book.md, line 520. -/
def PB.Q_STAT.BUFS (i : Nat) : Field := ⟨0x30068, 28, 4, i, 0⟩
def PB.Q_STAT.POCKETS (i : Nat) : Field := ⟨0x30068, 20, 8, i, 0⟩
def PB.Q_STAT.LAST_REFUSE (i : Nat) : Field := ⟨0x30068, 16, 4, i, 0⟩
def PB.Q_STAT.base : Nat := 0x30068

/-! PB.Q_COUNTS, 04_pattern_book.md, line 529. -/
def PB.Q_COUNTS.ACCEPTED (i : Nat) : Field := ⟨0x30070, 96, 32, i, 0⟩
def PB.Q_COUNTS.REFUSED (i : Nat) : Field := ⟨0x30070, 48, 48, i, 0⟩
def PB.Q_COUNTS.MISSED (i : Nat) : Field := ⟨0x30070, 0, 48, i, 0⟩
def PB.Q_COUNTS.base : Nat := 0x30070

/-! PB.L_SEL, 04_pattern_book.md, line 537. -/
def PB.L_SEL.LINK (b : Nat) : Field := ⟨0x30080, 0, 5, b, 0⟩
def PB.L_SEL.base : Nat := 0x30080

/-! PB.POCKET_STAT, 04_pattern_book.md, line 544. -/
def PB.POCKET_STAT.RELAY_DROP : Field := ⟨0x30084, 24, 8, 0, 0⟩
def PB.POCKET_STAT.FREE : Field := ⟨0x30084, 0, 7, 0, 0x40⟩
def PB.POCKET_STAT.base : Nat := 0x30084

/-! PB.ZERO_COMMIT, 04_pattern_book.md, line 552. -/
def PB.ZERO_COMMIT.COUNT : Field := ⟨0x30088, 0, 32, 0, 0⟩
def PB.ZERO_COMMIT.base : Nat := 0x30088

/-! PB.L_COUNTS, 04_pattern_book.md, line 558. -/
def PB.L_COUNTS.RX_IDLE (i : Nat) : Field := ⟨0x30090, 96, 32, i, 0⟩
def PB.L_COUNTS.RX_DARK (i : Nat) : Field := ⟨0x30090, 64, 32, i, 0⟩
def PB.L_COUNTS.RX_DROP (i : Nat) : Field := ⟨0x30090, 32, 32, i, 0⟩
def PB.L_COUNTS.RX_UNCORR (i : Nat) : Field := ⟨0x30090, 0, 32, i, 0⟩
def PB.L_COUNTS.base : Nat := 0x30090

/-! PB.L_COUNTS2, 04_pattern_book.md, line 567. -/
def PB.L_COUNTS2.RX_QUIETED (i : Nat) : Field := ⟨0x300a0, 96, 32, i, 0⟩
def PB.L_COUNTS2.RX_UNSCHED (i : Nat) : Field := ⟨0x300a0, 64, 32, i, 0⟩
def PB.L_COUNTS2.TX_ABORT (i : Nat) : Field := ⟨0x300a0, 32, 32, i, 0⟩
def PB.L_COUNTS2.base : Nat := 0x300a0

/-! PB.NEXT_MAINT, 04_pattern_book.md, line 576. -/
def PB.NEXT_MAINT.SLOT : Field := ⟨0x300b0, 0, 64, 0, 0⟩
def PB.NEXT_MAINT.base : Nat := 0x300b0

/-! OPE<e>.CTRL, 05_colour_ports.md, line 281. -/
def OPE.CTRL.PORT_EN (e : Nat) : Field := ⟨0x40000 + 0x10000 * e, 0, 4, 0, 0⟩
def OPE.CTRL.base : Nat := 0x40000

/-! OPE<e>.EVENT, 05_colour_ports.md, line 288. -/
def OPE.EVENT.SEQ (e : Nat) : Field := ⟨0x40004 + 0x10000 * e, 24, 8, 0, 0⟩
def OPE.EVENT.CFG_ERR (e : Nat) : Field := ⟨0x40004 + 0x10000 * e, 5, 1, 0, 0⟩
def OPE.EVENT.FIFO_OVF (e : Nat) : Field := ⟨0x40004 + 0x10000 * e, 4, 1, 0, 0⟩
def OPE.EVENT.PC_INVALID (e : Nat) : Field := ⟨0x40004 + 0x10000 * e, 3, 1, 0, 0⟩
def OPE.EVENT.PROBE_DONE (e : Nat) : Field := ⟨0x40004 + 0x10000 * e, 2, 1, 0, 0⟩
def OPE.EVENT.TX_ABORT (e : Nat) : Field := ⟨0x40004 + 0x10000 * e, 1, 1, 0, 0⟩
def OPE.EVENT.UNCORR (e : Nat) : Field := ⟨0x40004 + 0x10000 * e, 0, 1, 0, 0⟩
def OPE.EVENT.base : Nat := 0x40004

/-! OPE<e>.PROBE_CMD, 05_colour_ports.md, line 301. -/
def OPE.PROBE_CMD.NONCE (e : Nat) : Field := ⟨0x40010 + 0x10000 * e, 16, 16, 0, 0⟩
def OPE.PROBE_CMD.RING (e : Nat) : Field := ⟨0x40010 + 0x10000 * e, 8, 4, 0, 0⟩
def OPE.PROBE_CMD.PORT (e : Nat) : Field := ⟨0x40010 + 0x10000 * e, 4, 2, 0, 0⟩
def OPE.PROBE_CMD.GO (e : Nat) : Field := ⟨0x40010 + 0x10000 * e, 0, 1, 0, 0⟩
def OPE.PROBE_CMD.base : Nat := 0x40010

/-! OPE<e>.PROBE_RES, 05_colour_ports.md, line 313. -/
def OPE.PROBE_RES.SEQ (e : Nat) : Field := ⟨0x40014 + 0x10000 * e, 24, 8, 0, 0⟩
def OPE.PROBE_RES.RESULT (e : Nat) : Field := ⟨0x40014 + 0x10000 * e, 20, 4, 0, 0⟩
def OPE.PROBE_RES.PORT (e : Nat) : Field := ⟨0x40014 + 0x10000 * e, 16, 4, 0, 0⟩
def OPE.PROBE_RES.NODE (e : Nat) : Field := ⟨0x40014 + 0x10000 * e, 0, 12, 0, 0⟩
def OPE.PROBE_RES.base : Nat := 0x40014

/-! OPE<e>.P<q>_WARD0, 05_colour_ports.md, line 323. -/
def OPE.P_WARD0.V3 (p : Nat) : Field := ⟨0x40100 + 0x10000 * (p / 4) + 0x80 * (p % 4), 31, 1, 0, 0⟩
def OPE.P_WARD0.COL3 (p : Nat) : Field := ⟨0x40100 + 0x10000 * (p / 4) + 0x80 * (p % 4), 24, 5, 0, 0⟩
def OPE.P_WARD0.V2 (p : Nat) : Field := ⟨0x40100 + 0x10000 * (p / 4) + 0x80 * (p % 4), 23, 1, 0, 0⟩
def OPE.P_WARD0.COL2 (p : Nat) : Field := ⟨0x40100 + 0x10000 * (p / 4) + 0x80 * (p % 4), 16, 5, 0, 0⟩
def OPE.P_WARD0.V1 (p : Nat) : Field := ⟨0x40100 + 0x10000 * (p / 4) + 0x80 * (p % 4), 15, 1, 0, 0⟩
def OPE.P_WARD0.COL1 (p : Nat) : Field := ⟨0x40100 + 0x10000 * (p / 4) + 0x80 * (p % 4), 8, 5, 0, 0⟩
def OPE.P_WARD0.V0 (p : Nat) : Field := ⟨0x40100 + 0x10000 * (p / 4) + 0x80 * (p % 4), 7, 1, 0, 0⟩
def OPE.P_WARD0.COL0 (p : Nat) : Field := ⟨0x40100 + 0x10000 * (p / 4) + 0x80 * (p % 4), 0, 5, 0, 0⟩
def OPE.P_WARD0.base : Nat := 0x40100

/-! OPE<e>.P<q>_WARD1, 05_colour_ports.md, line 340. -/
def OPE.P_WARD1.V7 (p : Nat) : Field := ⟨0x40104 + 0x10000 * (p / 4) + 0x80 * (p % 4), 31, 1, 0, 0⟩
def OPE.P_WARD1.COL7 (p : Nat) : Field := ⟨0x40104 + 0x10000 * (p / 4) + 0x80 * (p % 4), 24, 5, 0, 0⟩
def OPE.P_WARD1.V6 (p : Nat) : Field := ⟨0x40104 + 0x10000 * (p / 4) + 0x80 * (p % 4), 23, 1, 0, 0⟩
def OPE.P_WARD1.COL6 (p : Nat) : Field := ⟨0x40104 + 0x10000 * (p / 4) + 0x80 * (p % 4), 16, 5, 0, 0⟩
def OPE.P_WARD1.V5 (p : Nat) : Field := ⟨0x40104 + 0x10000 * (p / 4) + 0x80 * (p % 4), 15, 1, 0, 0⟩
def OPE.P_WARD1.COL5 (p : Nat) : Field := ⟨0x40104 + 0x10000 * (p / 4) + 0x80 * (p % 4), 8, 5, 0, 0⟩
def OPE.P_WARD1.V4 (p : Nat) : Field := ⟨0x40104 + 0x10000 * (p / 4) + 0x80 * (p % 4), 7, 1, 0, 0⟩
def OPE.P_WARD1.COL4 (p : Nat) : Field := ⟨0x40104 + 0x10000 * (p / 4) + 0x80 * (p % 4), 0, 5, 0, 0⟩
def OPE.P_WARD1.base : Nat := 0x40104

/-! OPE<e>.P<q>_SPARE, 05_colour_ports.md, line 357. -/
def OPE.P_SPARE.S_FOR (p : Nat) : Field := ⟨0x40108 + 0x10000 * (p / 4) + 0x80 * (p % 4), 8, 4, 0, 0xf⟩
def OPE.P_SPARE.B_FOR (p : Nat) : Field := ⟨0x40108 + 0x10000 * (p / 4) + 0x80 * (p % 4), 0, 4, 0, 0xf⟩
def OPE.P_SPARE.base : Nat := 0x40108

/-! OPE<e>.P<q>_ROUTE, 05_colour_ports.md, line 366. -/
def OPE.P_ROUTE.ROUTER (p : Nat) : Field := ⟨0x4010c + 0x10000 * (p / 4) + 0x80 * (p % 4), 16, 11, 0, 0⟩
def OPE.P_ROUTE.INDEX (p : Nat) : Field := ⟨0x4010c + 0x10000 * (p / 4) + 0x80 * (p % 4), 0, 5, 0, 0⟩
def OPE.P_ROUTE.base : Nat := 0x4010c

/-! OPE<e>.P<q>_TX, 05_colour_ports.md, line 375. -/
def OPE.P_TX.OSEL_TRIM (p : Nat) : Field := ⟨0x40110 + 0x10000 * (p / 4) + 0x80 * (p % 4), 24, 8, 0, 0⟩
def OPE.P_TX.DEEMPH (p : Nat) : Field := ⟨0x40110 + 0x10000 * (p / 4) + 0x80 * (p % 4), 8, 8, 0, 0⟩
def OPE.P_TX.SWING (p : Nat) : Field := ⟨0x40110 + 0x10000 * (p / 4) + 0x80 * (p % 4), 0, 8, 0, 0⟩
def OPE.P_TX.base : Nat := 0x40110

/-! OPE<e>.P<q>_RX, 05_colour_ports.md, line 384. -/
def OPE.P_RX.CTLE (p : Nat) : Field := ⟨0x40114 + 0x10000 * (p / 4) + 0x80 * (p % 4), 8, 8, 0, 0⟩
def OPE.P_RX.ADAPT (p : Nat) : Field := ⟨0x40114 + 0x10000 * (p / 4) + 0x80 * (p % 4), 0, 1, 0, 0⟩
def OPE.P_RX.base : Nat := 0x40114

/-! OPE<e>.P<q>_STAT, 05_colour_ports.md, line 393. -/
def OPE.P_STAT.OSEL (p : Nat) : Field := ⟨0x40118 + 0x10000 * (p / 4) + 0x80 * (p % 4), 28, 4, 0, 0xf⟩
def OPE.P_STAT.TX_ACTIVE (p : Nat) : Field := ⟨0x40118 + 0x10000 * (p / 4) + 0x80 * (p % 4), 27, 1, 0, 0⟩
def OPE.P_STAT.RX_FRAMED (p : Nat) : Field := ⟨0x40118 + 0x10000 * (p / 4) + 0x80 * (p % 4), 26, 1, 0, 0⟩
def OPE.P_STAT.LAST_PEER (p : Nat) : Field := ⟨0x40118 + 0x10000 * (p / 4) + 0x80 * (p % 4), 21, 5, 0, 0⟩
def OPE.P_STAT.base : Nat := 0x40118

/-! OPE<e>.P<q>_PC_SEL, 05_colour_ports.md, line 403. -/
def OPE.P_PC_SEL.INDEX (p b : Nat) : Field := ⟨0x40120 + 0x10000 * (p / 4) + 0x80 * (p % 4), 0, 5, b, 0⟩
def OPE.P_PC_SEL.base : Nat := 0x40120

/-! OPE<e>.P<q>_PC, 05_colour_ports.md, line 410. -/
def OPE.P_PC.VALID (p i : Nat) : Field := ⟨0x40124 + 0x10000 * (p / 4) + 0x80 * (p % 4), 31, 1, i, 0⟩
def OPE.P_PC.GAIN (p i : Nat) : Field := ⟨0x40124 + 0x10000 * (p / 4) + 0x80 * (p % 4), 24, 4, i, 0⟩
def OPE.P_PC.PHASE (p i : Nat) : Field := ⟨0x40124 + 0x10000 * (p / 4) + 0x80 * (p % 4), 16, 6, i, 0⟩
def OPE.P_PC.AGE (p i : Nat) : Field := ⟨0x40124 + 0x10000 * (p / 4) + 0x80 * (p % 4), 0, 16, i, 0⟩
def OPE.P_PC.base : Nat := 0x40124

/-! OPE<e>.P<q>_POWER, 05_colour_ports.md, line 421. -/
def OPE.P_POWER.RX_AVG (p : Nat) : Field := ⟨0x40128 + 0x10000 * (p / 4) + 0x80 * (p % 4), 16, 16, 0, 0⟩
def OPE.P_POWER.TX_TAP (p : Nat) : Field := ⟨0x40128 + 0x10000 * (p / 4) + 0x80 * (p % 4), 0, 16, 0, 0⟩
def OPE.P_POWER.base : Nat := 0x40128

/-! OPE<e>.P<q>_Q_SEL, 05_colour_ports.md, line 428. -/
def OPE.P_Q_SEL.INDEX (p b : Nat) : Field := ⟨0x4012c + 0x10000 * (p / 4) + 0x80 * (p % 4), 0, 5, b, 0⟩
def OPE.P_Q_SEL.base : Nat := 0x4012c

/-! OPE<e>.P<q>_QUAL, 05_colour_ports.md, line 435. -/
def OPE.P_QUAL.QRX (p i : Nat) : Field := ⟨0x40130 + 0x10000 * (p / 4) + 0x80 * (p % 4), 24, 8, i, 0⟩
def OPE.P_QUAL.QTX (p i : Nat) : Field := ⟨0x40130 + 0x10000 * (p / 4) + 0x80 * (p % 4), 16, 8, i, 0⟩
def OPE.P_QUAL.TX_VALID (p i : Nat) : Field := ⟨0x40130 + 0x10000 * (p / 4) + 0x80 * (p % 4), 1, 1, i, 0⟩
def OPE.P_QUAL.RX_VALID (p i : Nat) : Field := ⟨0x40130 + 0x10000 * (p / 4) + 0x80 * (p % 4), 0, 1, i, 0⟩
def OPE.P_QUAL.base : Nat := 0x40130

/-! OPE<e>.P<q>_FIFO, 05_colour_ports.md, line 445. -/
def OPE.P_FIFO.OVF (p : Nat) : Field := ⟨0x40134 + 0x10000 * (p / 4) + 0x80 * (p % 4), 24, 8, 0, 0⟩
def OPE.P_FIFO.ECC_CORR (p : Nat) : Field := ⟨0x40134 + 0x10000 * (p / 4) + 0x80 * (p % 4), 16, 8, 0, 0⟩
def OPE.P_FIFO.FILL (p : Nat) : Field := ⟨0x40134 + 0x10000 * (p / 4) + 0x80 * (p % 4), 0, 10, 0, 0⟩
def OPE.P_FIFO.base : Nat := 0x40134

/-! OPE<e>.P<q>_COUNTS, 05_colour_ports.md, line 454. -/
def OPE.P_COUNTS.CORR_SYM (p : Nat) : Field := ⟨0x40140 + 0x10000 * (p / 4) + 0x80 * (p % 4), 80, 48, 0, 0⟩
def OPE.P_COUNTS.CORR_CW (p : Nat) : Field := ⟨0x40140 + 0x10000 * (p / 4) + 0x80 * (p % 4), 32, 48, 0, 0⟩
def OPE.P_COUNTS.UNCORR_CW (p : Nat) : Field := ⟨0x40140 + 0x10000 * (p / 4) + 0x80 * (p % 4), 0, 32, 0, 0⟩
def OPE.P_COUNTS.base : Nat := 0x40140

/-! JIG.CTRL, 06_ring_locking.md, line 251. -/
def JIG.CTRL.TRK_B_EN : Field := ⟨0x80000, 9, 1, 0, 0⟩
def JIG.CTRL.TRK_A_EN : Field := ⟨0x80000, 8, 1, 0, 0⟩
def JIG.CTRL.NSUB : Field := ⟨0x80000, 4, 2, 0, 0⟩
def JIG.CTRL.ENG_EN : Field := ⟨0x80000, 0, 4, 0, 0⟩
def JIG.CTRL.base : Nat := 0x80000

/-! JIG.EVENT, 06_ring_locking.md, line 262. -/
def JIG.EVENT.SEQ : Field := ⟨0x80004, 24, 8, 0, 0⟩
def JIG.EVENT.CMAT_DONE : Field := ⟨0x80004, 7, 1, 0, 0⟩
def JIG.EVENT.TRK_RANGE : Field := ⟨0x80004, 6, 1, 0, 0⟩
def JIG.EVENT.OVERRUN : Field := ⟨0x80004, 5, 1, 0, 0⟩
def JIG.EVENT.UNVERIFIED : Field := ⟨0x80004, 4, 1, 0, 0⟩
def JIG.EVENT.FAULT : Field := ⟨0x80004, 3, 1, 0, 0⟩
def JIG.EVENT.MISLOCK : Field := ⟨0x80004, 2, 1, 0, 0⟩
def JIG.EVENT.COEF_REFUSED : Field := ⟨0x80004, 1, 1, 0, 0⟩
def JIG.EVENT.CFG_ERR : Field := ⟨0x80004, 0, 1, 0, 0⟩
def JIG.EVENT.base : Nat := 0x80004

/-! JIG.STATUS, 06_ring_locking.md, line 277. -/
def JIG.STATUS.LOAD_MAX : Field := ⟨0x80008, 24, 8, 0, 0⟩
def JIG.STATUS.N_LOCKED : Field := ⟨0x80008, 16, 8, 0, 0⟩
def JIG.STATUS.N_FAULT : Field := ⟨0x80008, 8, 8, 0, 0⟩
def JIG.STATUS.N_UNVER : Field := ⟨0x80008, 0, 8, 0, 0⟩
def JIG.STATUS.base : Nat := 0x80008

/-! JIG.COUNTS, 06_ring_locking.md, line 286. -/
def JIG.COUNTS.COEF_REFUSED : Field := ⟨0x8000c, 24, 8, 0, 0⟩
def JIG.COUNTS.OVERRUN : Field := ⟨0x8000c, 16, 8, 0, 0⟩
def JIG.COUNTS.HTR_CLAMP : Field := ⟨0x8000c, 8, 8, 0, 0⟩
def JIG.COUNTS.BAST_BUSY : Field := ⟨0x8000c, 0, 8, 0, 0⟩
def JIG.COUNTS.base : Nat := 0x8000c

/-! JIG.LOCK_CFG, 06_ring_locking.md, line 295. -/
def JIG.LOCK_CFG.LOCK_WIN : Field := ⟨0x80010, 24, 8, 0, 0x32⟩
def JIG.LOCK_CFG.UNLOCK_WIN : Field := ⟨0x80010, 16, 8, 0, 0xc8⟩
def JIG.LOCK_CFG.LOCK_CNT : Field := ⟨0x80010, 8, 8, 0, 0xa⟩
def JIG.LOCK_CFG.UNLOCK_CNT : Field := ⟨0x80010, 0, 8, 0, 3⟩
def JIG.LOCK_CFG.base : Nat := 0x80010

/-! JIG.TIME_CFG, 06_ring_locking.md, line 304. -/
def JIG.TIME_CFG.JUMP_CYC : Field := ⟨0x80014, 24, 8, 0, 5⟩
def JIG.TIME_CFG.PARK_CYC : Field := ⟨0x80014, 16, 8, 0, 5⟩
def JIG.TIME_CFG.CAP_LIM : Field := ⟨0x80014, 0, 16, 0, 0x32⟩
def JIG.TIME_CFG.base : Nat := 0x80014

/-! JIG.WIN_CFG, 06_ring_locking.md, line 312. -/
def JIG.WIN_CFG.WIN_PCT : Field := ⟨0x80018, 24, 8, 0, 0xf⟩
def JIG.WIN_CFG.WIN_CNT : Field := ⟨0x80018, 16, 8, 0, 3⟩
def JIG.WIN_CFG.WIN_MIN : Field := ⟨0x80018, 0, 16, 0, 0xc8⟩
def JIG.WIN_CFG.base : Nat := 0x80018

/-! JIG.SWEEP_CFG, 06_ring_locking.md, line 320. -/
def JIG.SWEEP_CFG.RATE : Field := ⟨0x8001c, 16, 16, 0, 0x28⟩
def JIG.SWEEP_CFG.PMAX : Field := ⟨0x8001c, 0, 16, 0, 0x9c40⟩
def JIG.SWEEP_CFG.base : Nat := 0x8001c

/-! JIG.VER_CFG, 06_ring_locking.md, line 327. -/
def JIG.VER_CFG.MIS_MAX : Field := ⟨0x80020, 24, 8, 0, 3⟩
def JIG.VER_CFG.TRIES : Field := ⟨0x80020, 16, 8, 0, 4⟩
def JIG.VER_CFG.LIMIT : Field := ⟨0x80020, 0, 16, 0, 0x190⟩
def JIG.VER_CFG.base : Nat := 0x80020

/-! JIG.TRK_CFG, 06_ring_locking.md, line 335. -/
def JIG.TRK_CFG.TAU_A : Field := ⟨0x80024, 16, 16, 0, 0xa⟩
def JIG.TRK_CFG.TAU_B : Field := ⟨0x80024, 0, 16, 0, 0xa⟩
def JIG.TRK_CFG.base : Nat := 0x80024

/-! JIG.TRK, 06_ring_locking.md, line 342. -/
def JIG.TRK.F_A : Field := ⟨0x80028, 16, 16, 0, 0⟩
def JIG.TRK.F_B : Field := ⟨0x80028, 0, 16, 0, 0⟩
def JIG.TRK.base : Nat := 0x80028

/-! JIG.CM<e>, 06_ring_locking.md, line 349. -/
def JIG.CM.N_USED (e : Nat) : Field := ⟨0x80030 + 0x4 * e, 16, 8, 0, 0⟩
def JIG.CM.CM (e : Nat) : Field := ⟨0x80030 + 0x4 * e, 0, 16, 0, 0⟩
def JIG.CM.base : Nat := 0x80030

/-! JIG.L_SEL, 06_ring_locking.md, line 357. -/
def JIG.L_SEL.LOOP (b : Nat) : Field := ⟨0x80040, 0, 8, b, 0⟩
def JIG.L_SEL.base : Nat := 0x80040

/-! JIG.L_CMD, 06_ring_locking.md, line 364. -/
def JIG.L_CMD.JUMP (i : Nat) : Field := ⟨0x80044, 4, 1, i, 0⟩
def JIG.L_CMD.SWEEP (i : Nat) : Field := ⟨0x80044, 3, 1, i, 0⟩
def JIG.L_CMD.RESET (i : Nat) : Field := ⟨0x80044, 2, 1, i, 0⟩
def JIG.L_CMD.RELEASE (i : Nat) : Field := ⟨0x80044, 1, 1, i, 0⟩
def JIG.L_CMD.HOLD (i : Nat) : Field := ⟨0x80044, 0, 1, i, 0⟩
def JIG.L_CMD.base : Nat := 0x80044

/-! JIG.L_STAT, 06_ring_locking.md, line 375. -/
def JIG.L_STAT.STATE (i : Nat) : Field := ⟨0x80048, 29, 3, i, 0⟩
def JIG.L_STAT.VERIFIED (i : Nat) : Field := ⟨0x80048, 28, 1, i, 0⟩
def JIG.L_STAT.WIN_OK (i : Nat) : Field := ⟨0x80048, 27, 1, i, 0⟩
def JIG.L_STAT.CLAMPED (i : Nat) : Field := ⟨0x80048, 26, 1, i, 0⟩
def JIG.L_STAT.TARGET (i : Nat) : Field := ⟨0x80048, 21, 5, i, 0⟩
def JIG.L_STAT.TGT_VALID (i : Nat) : Field := ⟨0x80048, 20, 1, i, 0⟩
def JIG.L_STAT.MISLOCKS (i : Nat) : Field := ⟨0x80048, 16, 4, i, 0⟩
def JIG.L_STAT.ERR (i : Nat) : Field := ⟨0x80048, 0, 16, i, 0⟩
def JIG.L_STAT.base : Nat := 0x80048

/-! JIG.L_GAIN, 06_ring_locking.md, line 388. -/
def JIG.L_GAIN.KP (i : Nat) : Field := ⟨0x8004c, 16, 16, i, 0⟩
def JIG.L_GAIN.KI (i : Nat) : Field := ⟨0x8004c, 0, 16, i, 0⟩
def JIG.L_GAIN.base : Nat := 0x8004c

/-! JIG.L_DITH, 06_ring_locking.md, line 395. -/
def JIG.L_DITH.PHI (i : Nat) : Field := ⟨0x80050, 16, 8, i, 0⟩
def JIG.L_DITH.AMP (i : Nat) : Field := ⟨0x80050, 0, 16, i, 0x3c⟩
def JIG.L_DITH.base : Nat := 0x80050

/-! JIG.L_HEAT, 06_ring_locking.md, line 403. -/
def JIG.L_HEAT.DEMAND (i : Nat) : Field := ⟨0x80054, 16, 16, i, 0⟩
def JIG.L_HEAT.OUT (i : Nat) : Field := ⟨0x80054, 0, 16, i, 0⟩
def JIG.L_HEAT.base : Nat := 0x80054

/-! JIG.L_CAL, 06_ring_locking.md, line 410. -/
def JIG.L_CAL.P_CAL (i : Nat) : Field := ⟨0x80058, 16, 16, i, 0⟩
def JIG.L_CAL.ETA (i : Nat) : Field := ⟨0x80058, 0, 16, i, 0⟩
def JIG.L_CAL.base : Nat := 0x80058

/-! JIG.L_COUNTS, 06_ring_locking.md, line 417. -/
def JIG.L_COUNTS.MISLOCKS (i : Nat) : Field := ⟨0x80060, 96, 32, i, 0⟩
def JIG.L_COUNTS.UNLOCKS (i : Nat) : Field := ⟨0x80060, 64, 32, i, 0⟩
def JIG.L_COUNTS.VPROBES (i : Nat) : Field := ⟨0x80060, 32, 32, i, 0⟩
def JIG.L_COUNTS.SWEEPS (i : Nat) : Field := ⟨0x80060, 0, 32, i, 0⟩
def JIG.L_COUNTS.base : Nat := 0x80060

/-! JIG.CMAT_SEL, 06_ring_locking.md, line 426. -/
def JIG.CMAT_SEL.ENG (b : Nat) : Field := ⟨0x80070, 24, 2, b, 0⟩
def JIG.CMAT_SEL.ROW (b : Nat) : Field := ⟨0x80070, 16, 6, b, 0⟩
def JIG.CMAT_SEL.COL (b : Nat) : Field := ⟨0x80070, 0, 6, b, 0⟩
def JIG.CMAT_SEL.base : Nat := 0x80070

/-! JIG.CMAT_DATA, 06_ring_locking.md, line 437. -/
def JIG.CMAT_DATA.ACTIVE (i : Nat) : Field := ⟨0x80074, 16, 16, i, 0⟩
def JIG.CMAT_DATA.SHADOW (i : Nat) : Field := ⟨0x80074, 0, 16, i, 0⟩
def JIG.CMAT_DATA.base : Nat := 0x80074

/-! JIG.CMAT_CMD, 06_ring_locking.md, line 444. -/
def JIG.CMAT_CMD.COMMIT : Field := ⟨0x80078, 4, 4, 0, 0⟩
def JIG.CMAT_CMD.COPY : Field := ⟨0x80078, 0, 4, 0, 0⟩
def JIG.CMAT_CMD.base : Nat := 0x80078

/-! ED<d>.STATUS, 06_ring_locking.md, line 458. -/
def ED.STATUS.BUSY (d : Nat) : Field := ⟨0xc00000 + 0x10000 * d, 31, 1, 0, 0⟩
def ED.STATUS.AMP_FAULT (d : Nat) : Field := ⟨0xc00000 + 0x10000 * d, 1, 1, 0, 0⟩
def ED.STATUS.DAC_FAULT (d : Nat) : Field := ⟨0xc00000 + 0x10000 * d, 0, 1, 0, 0⟩
def ED.STATUS.base : Nat := 0xc00000

/-! ED<d>.EVENT, 06_ring_locking.md, line 467. -/
def ED.EVENT.SEQ (d : Nat) : Field := ⟨0xc00004 + 0x10000 * d, 24, 8, 0, 0⟩
def ED.EVENT.SAT (d : Nat) : Field := ⟨0xc00004 + 0x10000 * d, 4, 1, 0, 0⟩
def ED.EVENT.DAC_FAULT (d : Nat) : Field := ⟨0xc00004 + 0x10000 * d, 3, 1, 0, 0⟩
def ED.EVENT.AMP_FAULT (d : Nat) : Field := ⟨0xc00004 + 0x10000 * d, 2, 1, 0, 0⟩
def ED.EVENT.DROPPED (d : Nat) : Field := ⟨0xc00004 + 0x10000 * d, 1, 1, 0, 0⟩
def ED.EVENT.CFG_ERR (d : Nat) : Field := ⟨0xc00004 + 0x10000 * d, 0, 1, 0, 0⟩
def ED.EVENT.base : Nat := 0xc00004

/-! ED<d>.COUNTS, 06_ring_locking.md, line 479. -/
def ED.COUNTS.DROPPED (d : Nat) : Field := ⟨0xc00008 + 0x10000 * d, 24, 8, 0, 0⟩
def ED.COUNTS.SAT (d : Nat) : Field := ⟨0xc00008 + 0x10000 * d, 16, 8, 0, 0⟩
def ED.COUNTS.COMPLIANCE (d : Nat) : Field := ⟨0xc00008 + 0x10000 * d, 8, 8, 0, 0⟩
def ED.COUNTS.CFG_ERR (d : Nat) : Field := ⟨0xc00008 + 0x10000 * d, 0, 8, 0, 0⟩
def ED.COUNTS.base : Nat := 0xc00008

/-! ED<d>.CH_SEL, 06_ring_locking.md, line 488. -/
def ED.CH_SEL.KIND (d : Nat) : Field := ⟨0xc0000c + 0x10000 * d, 8, 1, 0, 0⟩
def ED.CH_SEL.ENG (d : Nat) : Field := ⟨0xc0000c + 0x10000 * d, 7, 1, 0, 0⟩
def ED.CH_SEL.CH (d : Nat) : Field := ⟨0xc0000c + 0x10000 * d, 0, 6, 0, 0⟩
def ED.CH_SEL.base : Nat := 0xc0000c

/-! ED<d>.AMP_CFG, 06_ring_locking.md, line 498. -/
def ED.AMP_CFG.TINT (d i : Nat) : Field := ⟨0xc00010 + 0x10000 * d, 4, 3, i, 2⟩
def ED.AMP_CFG.FS (d i : Nat) : Field := ⟨0xc00010 + 0x10000 * d, 0, 2, i, 1⟩
def ED.AMP_CFG.base : Nat := 0xc00010

/-! ED<d>.CH_READ, 06_ring_locking.md, line 507. -/
def ED.CH_READ.VALUE (d i : Nat) : Field := ⟨0xc00014 + 0x10000 * d, 0, 24, i, 0⟩
def ED.CH_READ.base : Nat := 0xc00014

/-! ED<d>.SPARE_MAP, 06_ring_locking.md, line 514. -/
def ED.SPARE_MAP.EN (d i : Nat) : Field := ⟨0xc00018 + 0x10000 * d, 31, 1, i, 0⟩
def ED.SPARE_MAP.SPARE (d i : Nat) : Field := ⟨0xc00018 + 0x10000 * d, 0, 6, i, 0⟩
def ED.SPARE_MAP.base : Nat := 0xc00018

/-! ED<d>.TRK_RAW, 06_ring_locking.md, line 522. -/
def ED.TRK_RAW.VOLT (d : Nat) : Field := ⟨0xc0001c + 0x10000 * d, 0, 16, 0, 0⟩
def ED.TRK_RAW.base : Nat := 0xc0001c

/-! ED<d>.DAC_RH, 06_ring_locking.md, line 529. -/
def ED.DAC_RH.RH (d i : Nat) : Field := ⟨0xc00020 + 0x10000 * d, 0, 16, i, 0⟩
def ED.DAC_RH.base : Nat := 0xc00020

/-! CAL.RCB_CMD, 07_recabling.md, line 324. -/
def CAL.RCB_CMD.CANCEL : Field := ⟨0x98000, 1, 1, 0, 0⟩
def CAL.RCB_CMD.ARM : Field := ⟨0x98000, 0, 1, 0, 0⟩
def CAL.RCB_CMD.base : Nat := 0x98000

/-! CAL.RCB_STAT, 07_recabling.md, line 332. -/
def CAL.RCB_STAT.STATE : Field := ⟨0x98004, 29, 3, 0, 0⟩
def CAL.RCB_STAT.PHASE : Field := ⟨0x98004, 26, 3, 0, 0⟩
def CAL.RCB_STAT.POS : Field := ⟨0x98004, 0, 14, 0, 0⟩
def CAL.RCB_STAT.base : Nat := 0x98004

/-! CAL.RCB_EVENT, 07_recabling.md, line 341. -/
def CAL.RCB_EVENT.SEQ : Field := ⟨0x98008, 24, 8, 0, 0⟩
def CAL.RCB_EVENT.INCOMPLETE : Field := ⟨0x98008, 4, 1, 0, 0⟩
def CAL.RCB_EVENT.DONE : Field := ⟨0x98008, 3, 1, 0, 0⟩
def CAL.RCB_EVENT.COMMITTED : Field := ⟨0x98008, 2, 1, 0, 0⟩
def CAL.RCB_EVENT.ARM_REFUSED : Field := ⟨0x98008, 1, 1, 0, 0⟩
def CAL.RCB_EVENT.CFG_ERR : Field := ⟨0x98008, 0, 1, 0, 0⟩
def CAL.RCB_EVENT.base : Nat := 0x98008

/-! CAL.RCB_COUNTS, 07_recabling.md, line 353. -/
def CAL.RCB_COUNTS.DONE : Field := ⟨0x9800c, 24, 8, 0, 0⟩
def CAL.RCB_COUNTS.REFUSED : Field := ⟨0x9800c, 16, 8, 0, 0⟩
def CAL.RCB_COUNTS.FROZEN_WR : Field := ⟨0x9800c, 8, 8, 0, 0⟩
def CAL.RCB_COUNTS.base : Nat := 0x9800c

/-! CAL.RCB_SLOT, 07_recabling.md, line 362. -/
def CAL.RCB_SLOT.R : Field := ⟨0x98010, 0, 64, 0, 0⟩
def CAL.RCB_SLOT.base : Nat := 0x98010

/-! CAL.RCB_RESULT, 07_recabling.md, line 368. -/
def CAL.RCB_RESULT.NOT_LOCKED : Field := ⟨0x98020, 24, 8, 0, 0⟩
def CAL.RCB_RESULT.UNVERIFIED : Field := ⟨0x98020, 16, 8, 0, 0⟩
def CAL.RCB_RESULT.MISLOCK : Field := ⟨0x98020, 8, 8, 0, 0⟩
def CAL.RCB_RESULT.PC_INVALID : Field := ⟨0x98020, 0, 8, 0, 0⟩
def CAL.RCB_RESULT.base : Nat := 0x98020

/-! CAL.RCB_WARD<p>_0, 07_recabling.md, line 377. -/
def CAL.RCB_WARD_0.W3_W0 (p : Nat) : Field := ⟨0x98100 + 0x8 * p, 0, 32, 0, 0⟩
def CAL.RCB_WARD_0.base : Nat := 0x98100

/-! CAL.RCB_WARD<p>_1, 07_recabling.md, line 383. -/
def CAL.RCB_WARD_1.W7_W4 (p : Nat) : Field := ⟨0x98104 + 0x8 * p, 0, 32, 0, 0⟩
def CAL.RCB_WARD_1.base : Nat := 0x98104

/-! CAL.LSR<s>_CFG, 07_recabling.md, line 389. -/
def CAL.LSR_CFG.WARN_DB (s : Nat) : Field := ⟨0x98200 + 0x20 * s, 24, 8, 0, 0xf⟩
def CAL.LSR_CFG.SPARE_DB (s : Nat) : Field := ⟨0x98200 + 0x20 * s, 16, 8, 0, 0x1e⟩
def CAL.LSR_CFG.LOST_DB (s : Nat) : Field := ⟨0x98200 + 0x20 * s, 8, 8, 0, 0x3c⟩
def CAL.LSR_CFG.base : Nat := 0x98200

/-! CAL.LSR<s>_STAT, 07_recabling.md, line 398. -/
def CAL.LSR_STAT.LEVEL (s : Nat) : Field := ⟨0x98204 + 0x20 * s, 30, 2, 0, 0⟩
def CAL.LSR_STAT.ON_SPARE (s : Nat) : Field := ⟨0x98204 + 0x20 * s, 29, 1, 0, 0⟩
def CAL.LSR_STAT.SPARE_AVAIL (s : Nat) : Field := ⟨0x98204 + 0x20 * s, 28, 1, 0, 0⟩
def CAL.LSR_STAT.STEP (s : Nat) : Field := ⟨0x98204 + 0x20 * s, 25, 3, 0, 0⟩
def CAL.LSR_STAT.TAP (s : Nat) : Field := ⟨0x98204 + 0x20 * s, 0, 16, 0, 0⟩
def CAL.LSR_STAT.base : Nat := 0x98204

/-! CAL.LSR<s>_OFFS, 07_recabling.md, line 409. -/
def CAL.LSR_OFFS.MEAN (s : Nat) : Field := ⟨0x98208 + 0x20 * s, 16, 16, 0, 0⟩
def CAL.LSR_OFFS.SPREAD (s : Nat) : Field := ⟨0x98208 + 0x20 * s, 0, 16, 0, 0⟩
def CAL.LSR_OFFS.base : Nat := 0x98208

/-! CAL.LSR<s>_CMD, 07_recabling.md, line 416. -/
def CAL.LSR_CMD.FORCE (s : Nat) : Field := ⟨0x9820c + 0x20 * s, 1, 1, 0, 0⟩
def CAL.LSR_CMD.ABORT (s : Nat) : Field := ⟨0x9820c + 0x20 * s, 0, 1, 0, 0⟩
def CAL.LSR_CMD.base : Nat := 0x9820c

/-! CAL.LSR<s>_Q, 07_recabling.md, line 424. -/
def CAL.LSR_Q.PAIRS (s : Nat) : Field := ⟨0x98210 + 0x20 * s, 16, 16, 0, 0⟩
def CAL.LSR_Q.BELOW_WARN (s : Nat) : Field := ⟨0x98210 + 0x20 * s, 8, 8, 0, 0⟩
def CAL.LSR_Q.BELOW_SPARE (s : Nat) : Field := ⟨0x98210 + 0x20 * s, 0, 8, 0, 0⟩
def CAL.LSR_Q.base : Nat := 0x98210

/-! CAL.LSR<s>_QCFG, 07_recabling.md, line 432. -/
def CAL.LSR_QCFG.Q_LOST (s : Nat) : Field := ⟨0x98214 + 0x20 * s, 16, 8, 0, 0x1f⟩
def CAL.LSR_QCFG.Q_WARN (s : Nat) : Field := ⟨0x98214 + 0x20 * s, 8, 8, 0, 0x3c⟩
def CAL.LSR_QCFG.Q_SPARE (s : Nat) : Field := ⟨0x98214 + 0x20 * s, 0, 8, 0, 0x32⟩
def CAL.LSR_QCFG.base : Nat := 0x98214

/-! CAL.LSR_EVENT, 07_recabling.md, line 441. -/
def CAL.LSR_EVENT.SEQ : Field := ⟨0x98280, 24, 8, 0, 0⟩
def CAL.LSR_EVENT.SRC : Field := ⟨0x98280, 7, 1, 0, 0⟩
def CAL.LSR_EVENT.CFG_ERR : Field := ⟨0x98280, 6, 1, 0, 0⟩
def CAL.LSR_EVENT.NO_SPARE : Field := ⟨0x98280, 5, 1, 0, 0⟩
def CAL.LSR_EVENT.MEAS_FAIL : Field := ⟨0x98280, 4, 1, 0, 0⟩
def CAL.LSR_EVENT.FLIP : Field := ⟨0x98280, 3, 1, 0, 0⟩
def CAL.LSR_EVENT.LOST : Field := ⟨0x98280, 2, 1, 0, 0⟩
def CAL.LSR_EVENT.SPARE_IN : Field := ⟨0x98280, 1, 1, 0, 0⟩
def CAL.LSR_EVENT.WARN : Field := ⟨0x98280, 0, 1, 0, 0⟩
def CAL.LSR_EVENT.base : Nat := 0x98280

/-! CAL.CTRL, 08_calibration.md, line 204. -/
def CAL.CTRL.RESTORE_WAIT : Field := ⟨0x90000, 8, 8, 0, 0⟩
def CAL.CTRL.MODE : Field := ⟨0x90000, 4, 1, 0, 0⟩
def CAL.CTRL.CU_EN : Field := ⟨0x90000, 3, 1, 0, 0⟩
def CAL.CTRL.OPT_EN : Field := ⟨0x90000, 2, 1, 0, 0⟩
def CAL.CTRL.INT_EN : Field := ⟨0x90000, 1, 1, 0, 0⟩
def CAL.CTRL.TEMP_EN : Field := ⟨0x90000, 0, 1, 0, 0⟩
def CAL.CTRL.base : Nat := 0x90000

/-! CAL.CMD, 08_calibration.md, line 217. -/
def CAL.CMD.KIND : Field := ⟨0x90004, 28, 4, 0, 0⟩
def CAL.CMD.UNIT : Field := ⟨0x90004, 16, 12, 0, 0⟩
def CAL.CMD.ABORT : Field := ⟨0x90004, 3, 1, 0, 0⟩
def CAL.CMD.RESTORE : Field := ⟨0x90004, 2, 1, 0, 0⟩
def CAL.CMD.SAVE : Field := ⟨0x90004, 1, 1, 0, 0⟩
def CAL.CMD.RUN : Field := ⟨0x90004, 0, 1, 0, 0⟩
def CAL.CMD.base : Nat := 0x90004

/-! CAL.STAT, 08_calibration.md, line 229. -/
def CAL.STAT.OPT_BUSY : Field := ⟨0x90008, 31, 1, 0, 0⟩
def CAL.STAT.CU_BUSY : Field := ⟨0x90008, 30, 1, 0, 0⟩
def CAL.STAT.PAUSED : Field := ⟨0x90008, 29, 1, 0, 0⟩
def CAL.STAT.QUEUED : Field := ⟨0x90008, 16, 8, 0, 0⟩
def CAL.STAT.OPT_UNIT : Field := ⟨0x90008, 8, 8, 0, 0⟩
def CAL.STAT.CU_UNIT : Field := ⟨0x90008, 0, 8, 0, 0⟩
def CAL.STAT.base : Nat := 0x90008

/-! CAL.EVENT, 08_calibration.md, line 241. -/
def CAL.EVENT.SEQ : Field := ⟨0x9000c, 24, 8, 0, 0⟩
def CAL.EVENT.CFG_ERR : Field := ⟨0x9000c, 8, 1, 0, 0⟩
def CAL.EVENT.RESTORE_BAD : Field := ⟨0x9000c, 7, 1, 0, 0⟩
def CAL.EVENT.RESTORE_OK : Field := ⟨0x9000c, 6, 1, 0, 0⟩
def CAL.EVENT.STORE_ERR : Field := ⟨0x9000c, 5, 1, 0, 0⟩
def CAL.EVENT.SAVED : Field := ⟨0x9000c, 4, 1, 0, 0⟩
def CAL.EVENT.SKIPPED : Field := ⟨0x9000c, 3, 1, 0, 0⟩
def CAL.EVENT.ABORTED : Field := ⟨0x9000c, 2, 1, 0, 0⟩
def CAL.EVENT.REJECTED : Field := ⟨0x9000c, 1, 1, 0, 0⟩
def CAL.EVENT.DONE : Field := ⟨0x9000c, 0, 1, 0, 0⟩
def CAL.EVENT.base : Nat := 0x9000c

/-! CAL.COUNTS, 08_calibration.md, line 257. -/
def CAL.COUNTS.ACCEPTED : Field := ⟨0x90010, 24, 8, 0, 0⟩
def CAL.COUNTS.REJECTED : Field := ⟨0x90010, 16, 8, 0, 0⟩
def CAL.COUNTS.ABORTED : Field := ⟨0x90010, 8, 8, 0, 0⟩
def CAL.COUNTS.SKIPPED : Field := ⟨0x90010, 0, 8, 0, 0⟩
def CAL.COUNTS.base : Nat := 0x90010

/-! CAL.TRIG_CFG, 08_calibration.md, line 266. -/
def CAL.TRIG_CFG.ENG_DT : Field := ⟨0x90014, 16, 16, 0, 0x28⟩
def CAL.TRIG_CFG.CU_DT : Field := ⟨0x90014, 0, 16, 0, 0x3c⟩
def CAL.TRIG_CFG.base : Nat := 0x90014

/-! CAL.INTERVAL, 08_calibration.md, line 273. -/
def CAL.INTERVAL.SECONDS : Field := ⟨0x90018, 0, 32, 0, 0xe10⟩
def CAL.INTERVAL.base : Nat := 0x90018

/-! CAL.CM_PER_C, 08_calibration.md, line 279. -/
def CAL.CM_PER_C.UW : Field := ⟨0x9001c, 0, 16, 0, 0x6f⟩
def CAL.CM_PER_C.base : Nat := 0x9001c

/-! CAL.ENG_T<e>, 08_calibration.md, line 286. -/
def CAL.ENG_T.DT (e : Nat) : Field := ⟨0x90020 + 0x4 * e, 0, 16, 0, 0⟩
def CAL.ENG_T.base : Nat := 0x90020

/-! CAL.CU_T<k>, 08_calibration.md, line 293. -/
def CAL.CU_T.NOW (k : Nat) : Field := ⟨0x90030 + 0x4 * k, 16, 16, 0, 0⟩
def CAL.CU_T.AT_RUN (k : Nat) : Field := ⟨0x90030 + 0x4 * k, 0, 16, 0, 0⟩
def CAL.CU_T.base : Nat := 0x90030

/-! CAL.RES_SEL, 08_calibration.md, line 300. -/
def CAL.RES_SEL.KIND (b : Nat) : Field := ⟨0x90050, 28, 4, b, 0⟩
def CAL.RES_SEL.UNIT (b : Nat) : Field := ⟨0x90050, 0, 12, b, 0⟩
def CAL.RES_SEL.base : Nat := 0x90050

/-! CAL.RES, 08_calibration.md, line 308. -/
def CAL.RES.OUTCOME (i : Nat) : Field := ⟨0x90054, 28, 4, i, 0⟩
def CAL.RES.REASON (i : Nat) : Field := ⟨0x90054, 24, 4, i, 0⟩
def CAL.RES.AGE (i : Nat) : Field := ⟨0x90054, 0, 24, i, 0⟩
def CAL.RES.base : Nat := 0x90054

/-! CAL.Q, 08_calibration.md, line 316. -/
def CAL.Q.Q_HI (i : Nat) : Field := ⟨0x90058, 16, 16, i, 0⟩
def CAL.Q.Q_LO (i : Nat) : Field := ⟨0x90058, 0, 16, i, 0⟩
def CAL.Q.base : Nat := 0x90058

/-! CAL.Q2, 08_calibration.md, line 323. -/
def CAL.Q2.Q2_HI (i : Nat) : Field := ⟨0x9005c, 16, 16, i, 0⟩
def CAL.Q2.Q2_LO (i : Nat) : Field := ⟨0x9005c, 0, 16, i, 0⟩
def CAL.Q2.base : Nat := 0x9005c

/-! CAL.LIM_RING, 08_calibration.md, line 330. -/
def CAL.LIM_RING.ETA_MIN : Field := ⟨0x90060, 24, 8, 0, 0x32⟩
def CAL.LIM_RING.ETA_MAX : Field := ⟨0x90060, 16, 8, 0, 0x96⟩
def CAL.LIM_RING.ETA_DRIFT : Field := ⟨0x90060, 8, 8, 0, 0x14⟩
def CAL.LIM_RING.DARK_MAX : Field := ⟨0x90060, 0, 8, 0, 0x32⟩
def CAL.LIM_RING.base : Nat := 0x90060

/-! CAL.LIM_XT, 08_calibration.md, line 339. -/
def CAL.LIM_XT.STEP_MAX : Field := ⟨0x90064, 16, 16, 0, 0x148⟩
def CAL.LIM_XT.ABS_MAX : Field := ⟨0x90064, 0, 16, 0, 0x2000⟩
def CAL.LIM_XT.base : Nat := 0x90064

/-! CAL.LIM_LANE, 08_calibration.md, line 346. -/
def CAL.LIM_LANE.EYE_W_MIN : Field := ⟨0x90068, 16, 16, 0, 0xb4⟩
def CAL.LIM_LANE.EYE_H_MIN : Field := ⟨0x90068, 0, 16, 0, 0x96⟩
def CAL.LIM_LANE.base : Nat := 0x90068

/-! CAL.LIM_TIME, 08_calibration.md, line 353. -/
def CAL.LIM_TIME.LAT_MAX : Field := ⟨0x9006c, 24, 8, 0, 0x14⟩
def CAL.LIM_TIME.FT_OPT : Field := ⟨0x9006c, 16, 8, 0, 0x1e⟩
def CAL.LIM_TIME.FT_CU : Field := ⟨0x9006c, 8, 8, 0, 0xa⟩
def CAL.LIM_TIME.REF_MAX : Field := ⟨0x9006c, 0, 8, 0, 0xa⟩
def CAL.LIM_TIME.base : Nat := 0x9006c

/-! CAL.XT_CFG, 08_calibration.md, line 362. -/
def CAL.XT_CFG.STEP : Field := ⟨0x90070, 16, 16, 0, 0x7d0⟩
def CAL.XT_CFG.RATE_CAL : Field := ⟨0x90070, 0, 16, 0, 0x14⟩
def CAL.XT_CFG.base : Nat := 0x90070

/-! CAL.IMG_ADDR_LO, 08_calibration.md, line 369. -/
def CAL.IMG_ADDR_LO.ADDR : Field := ⟨0x90080, 0, 32, 0, 0⟩
def CAL.IMG_ADDR_LO.base : Nat := 0x90080

/-! CAL.IMG_ADDR_HI, 08_calibration.md, line 375. -/
def CAL.IMG_ADDR_HI.ADDR : Field := ⟨0x90084, 0, 16, 0, 0⟩
def CAL.IMG_ADDR_HI.base : Nat := 0x90084

/-! CAL.STORE_STAT, 08_calibration.md, line 382. -/
def CAL.STORE_STAT.GEN : Field := ⟨0x90088, 16, 16, 0, 0⟩
def CAL.STORE_STAT.DIRTY : Field := ⟨0x90088, 3, 1, 0, 0⟩
def CAL.STORE_STAT.IMG_VALID : Field := ⟨0x90088, 2, 1, 0, 0⟩
def CAL.STORE_STAT.COPY1_OK : Field := ⟨0x90088, 1, 1, 0, 0⟩
def CAL.STORE_STAT.COPY0_OK : Field := ⟨0x90088, 0, 1, 0, 0⟩
def CAL.STORE_STAT.base : Nat := 0x90088

/-! CU_<link>.CTRL, 09_copper_bench.md, line 226. -/
def CU.CTRL.EXPECT (k : Nat) : Field := ⟨0xa0000 + 0x10000 * k, 8, 12, 0, 0⟩
def CU.CTRL.DIGEST_LAX (k : Nat) : Field := ⟨0xa0000 + 0x10000 * k, 3, 1, 0, 0⟩
def CU.CTRL.CABLED (k : Nat) : Field := ⟨0xa0000 + 0x10000 * k, 2, 1, 0, 0⟩
def CU.CTRL.EN (k : Nat) : Field := ⟨0xa0000 + 0x10000 * k, 0, 1, 0, 0⟩
def CU.CTRL.base : Nat := 0xa0000

/-! CU_<link>.STAT, 09_copper_bench.md, line 238. -/
def CU.STAT.STATE (k : Nat) : Field := ⟨0xa0004 + 0x10000 * k, 28, 4, 0, 0⟩
def CU.STAT.Q_REASON (k : Nat) : Field := ⟨0xa0004 + 0x10000 * k, 24, 4, 0, 0⟩
def CU.STAT.SPARE_FOR (k : Nat) : Field := ⟨0xa0004 + 0x10000 * k, 20, 4, 0, 0xf⟩
def CU.STAT.HOV (k : Nat) : Field := ⟨0xa0004 + 0x10000 * k, 16, 4, 0, 0xf⟩
def CU.STAT.LANE_LOCK (k : Nat) : Field := ⟨0xa0004 + 0x10000 * k, 0, 9, 0, 0⟩
def CU.STAT.base : Nat := 0xa0004

/-! CU_<link>.EVENT, 09_copper_bench.md, line 249. -/
def CU.EVENT.SEQ (k : Nat) : Field := ⟨0xa0008 + 0x10000 * k, 24, 8, 0, 0⟩
def CU.EVENT.DIGEST (k : Nat) : Field := ⟨0xa0008 + 0x10000 * k, 8, 1, 0, 0⟩
def CU.EVENT.TAIL_CLASH (k : Nat) : Field := ⟨0xa0008 + 0x10000 * k, 7, 1, 0, 0⟩
def CU.EVENT.MISROUTE (k : Nat) : Field := ⟨0xa0008 + 0x10000 * k, 6, 1, 0, 0⟩
def CU.EVENT.LANE_WORN (k : Nat) : Field := ⟨0xa0008 + 0x10000 * k, 5, 1, 0, 0⟩
def CU.EVENT.HOV_DONE (k : Nat) : Field := ⟨0xa0008 + 0x10000 * k, 4, 1, 0, 0⟩
def CU.EVENT.QUARANTINE (k : Nat) : Field := ⟨0xa0008 + 0x10000 * k, 3, 1, 0, 0⟩
def CU.EVENT.DOWN (k : Nat) : Field := ⟨0xa0008 + 0x10000 * k, 2, 1, 0, 0⟩
def CU.EVENT.UP (k : Nat) : Field := ⟨0xa0008 + 0x10000 * k, 1, 1, 0, 0⟩
def CU.EVENT.CFG_ERR (k : Nat) : Field := ⟨0xa0008 + 0x10000 * k, 0, 1, 0, 0⟩
def CU.EVENT.base : Nat := 0xa0008

/-! CU_<link>.CMD, 09_copper_bench.md, line 265. -/
def CU.CMD.PERM (k : Nat) : Field := ⟨0xa000c + 0x10000 * k, 8, 1, 0, 0⟩
def CU.CMD.LANE (k : Nat) : Field := ⟨0xa000c + 0x10000 * k, 4, 4, 0, 0⟩
def CU.CMD.RETRAIN (k : Nat) : Field := ⟨0xa000c + 0x10000 * k, 2, 1, 0, 0⟩
def CU.CMD.BACK (k : Nat) : Field := ⟨0xa000c + 0x10000 * k, 1, 1, 0, 0⟩
def CU.CMD.SPARE (k : Nat) : Field := ⟨0xa000c + 0x10000 * k, 0, 1, 0, 0⟩
def CU.CMD.base : Nat := 0xa000c

/-! CU_<link>.PEER_ID, 09_copper_bench.md, line 277. -/
def CU.PEER_ID.DIGEST (k : Nat) : Field := ⟨0xa0010 + 0x10000 * k, 96, 32, 0, 0⟩
def CU.PEER_ID.FW (k : Nat) : Field := ⟨0xa0010 + 0x10000 * k, 64, 32, 0, 0⟩
def CU.PEER_ID.VER_MAJOR (k : Nat) : Field := ⟨0xa0010 + 0x10000 * k, 56, 8, 0, 0⟩
def CU.PEER_ID.VER_MINOR (k : Nat) : Field := ⟨0xa0010 + 0x10000 * k, 48, 8, 0, 0⟩
def CU.PEER_ID.SPARE_FOR (k : Nat) : Field := ⟨0xa0010 + 0x10000 * k, 16, 4, 0, 0⟩
def CU.PEER_ID.LINK (k : Nat) : Field := ⟨0xa0010 + 0x10000 * k, 12, 3, 0, 0⟩
def CU.PEER_ID.NODE (k : Nat) : Field := ⟨0xa0010 + 0x10000 * k, 0, 12, 0, 0⟩
def CU.PEER_ID.base : Nat := 0xa0010

/-! CU_<link>.PEER_SER, 09_copper_bench.md, line 291. -/
def CU.PEER_SER.SERIAL (k : Nat) : Field := ⟨0xa0020 + 0x10000 * k, 0, 128, 0, 0⟩
def CU.PEER_SER.base : Nat := 0xa0020

/-! CU_<link>.LANE_SEL, 09_copper_bench.md, line 297. -/
def CU.LANE_SEL.PLANE (k b : Nat) : Field := ⟨0xa0030 + 0x10000 * k, 0, 4, b, 0⟩
def CU.LANE_SEL.base : Nat := 0xa0030

/-! CU_<link>.LANE_STAT, 09_copper_bench.md, line 304. -/
def CU.LANE_STAT.LOGICAL (k i : Nat) : Field := ⟨0xa0034 + 0x10000 * k, 28, 4, i, 0⟩
def CU.LANE_STAT.PEER_LANE (k i : Nat) : Field := ⟨0xa0034 + 0x10000 * k, 24, 4, i, 0⟩
def CU.LANE_STAT.INVERT (k i : Nat) : Field := ⟨0xa0034 + 0x10000 * k, 23, 1, i, 0⟩
def CU.LANE_STAT.WORN (k i : Nat) : Field := ⟨0xa0034 + 0x10000 * k, 22, 1, i, 0⟩
def CU.LANE_STAT.QRX (k i : Nat) : Field := ⟨0xa0034 + 0x10000 * k, 8, 8, i, 0⟩
def CU.LANE_STAT.QTX (k i : Nat) : Field := ⟨0xa0034 + 0x10000 * k, 0, 8, i, 0⟩
def CU.LANE_STAT.base : Nat := 0xa0034

/-! CU_<link>.COUNTS, 09_copper_bench.md, line 316. -/
def CU.COUNTS.TRANSIT_FWD (k : Nat) : Field := ⟨0xa0040 + 0x10000 * k, 96, 32, 0, 0⟩
def CU.COUNTS.MISROUTE (k : Nat) : Field := ⟨0xa0040 + 0x10000 * k, 64, 32, 0, 0⟩
def CU.COUNTS.TAIL_CLASH (k : Nat) : Field := ⟨0xa0040 + 0x10000 * k, 48, 16, 0, 0⟩
def CU.COUNTS.FWD_LOST (k : Nat) : Field := ⟨0xa0040 + 0x10000 * k, 32, 16, 0, 0⟩
def CU.COUNTS.NOT_MINE (k : Nat) : Field := ⟨0xa0040 + 0x10000 * k, 16, 16, 0, 0⟩
def CU.COUNTS.TRAINS (k : Nat) : Field := ⟨0xa0040 + 0x10000 * k, 8, 8, 0, 0⟩
def CU.COUNTS.HANDOVERS (k : Nat) : Field := ⟨0xa0040 + 0x10000 * k, 0, 8, 0, 0⟩
def CU.COUNTS.base : Nat := 0xa0040

/-! CU.ROUTE<r>, 09_copper_bench.md, line 328. -/
def CU.ROUTE.E (r j : Nat) : Field := ⟨0xa8000 + 0x4 * r, 4 * j, 4, 0, 0xf⟩
def CU.ROUTE.base : Nat := 0xa8000

/-! CU.ROUTE8, 09_copper_bench.md, line 334. -/
def CU.ROUTE8.E (j : Nat) : Field := ⟨0xa8020, 4 * j, 4, 0, 0xf⟩
def CU.ROUTE8.base : Nat := 0xa8020

/-! CU.QDST<r>, 09_copper_bench.md, line 341. -/
def CU.QDST.V (r j : Nat) : Field := ⟨0xa8040 + 0x4 * r, 8 * j + 7, 1, 0, 0⟩
def CU.QDST.POS (r j : Nat) : Field := ⟨0xa8040 + 0x4 * r, 8 * j, 7, 0, 0⟩
def CU.QDST.base : Nat := 0xa8040

/-! CD<d>.CL<c>_ID, 10_clusters.md, line 261. -/
def CL.ID.ROLE (c : Nat) : Field := ⟨0x200000 + 0x100000 * (c / 256) + 0x1000 * (c % 256), 30, 2, 0, 0⟩
def CL.ID.CROSS (c : Nat) : Field := ⟨0x200000 + 0x100000 * (c / 256) + 0x1000 * (c % 256), 29, 1, 0, 0⟩
def CL.ID.PHYS (c : Nat) : Field := ⟨0x200000 + 0x100000 * (c / 256) + 0x1000 * (c % 256), 16, 11, 0, 0⟩
def CL.ID.LOGICAL (c : Nat) : Field := ⟨0x200000 + 0x100000 * (c / 256) + 0x1000 * (c % 256), 0, 11, 0, 0x7ff⟩
def CL.ID.base : Nat := 0x200000

/-! CD<d>.CL<c>_CMD, 10_clusters.md, line 272. -/
def CL.CMD.STOP (c : Nat) : Field := ⟨0x200004 + 0x100000 * (c / 256) + 0x1000 * (c % 256), 3, 1, 0, 0⟩
def CL.CMD.UNGATE (c : Nat) : Field := ⟨0x200004 + 0x100000 * (c / 256) + 0x1000 * (c % 256), 2, 1, 0, 0⟩
def CL.CMD.GATE (c : Nat) : Field := ⟨0x200004 + 0x100000 * (c / 256) + 0x1000 * (c % 256), 1, 1, 0, 0⟩
def CL.CMD.QUARANTINE (c : Nat) : Field := ⟨0x200004 + 0x100000 * (c / 256) + 0x1000 * (c % 256), 0, 1, 0, 0⟩
def CL.CMD.base : Nat := 0x200004

/-! CD<d>.CL<c>_STATE, 10_clusters.md, line 282. -/
def CL.STATE.STATE (c : Nat) : Field := ⟨0x200008 + 0x100000 * (c / 256) + 0x1000 * (c % 256), 29, 3, 0, 0⟩
def CL.STATE.WAITING (c : Nat) : Field := ⟨0x200008 + 0x100000 * (c / 256) + 0x1000 * (c % 256), 28, 1, 0, 0⟩
def CL.STATE.RAMPING (c : Nat) : Field := ⟨0x200008 + 0x100000 * (c / 256) + 0x1000 * (c % 256), 27, 1, 0, 0⟩
def CL.STATE.JOB (c : Nat) : Field := ⟨0x200008 + 0x100000 * (c / 256) + 0x1000 * (c % 256), 16, 3, 0, 0⟩
def CL.STATE.PC (c : Nat) : Field := ⟨0x200008 + 0x100000 * (c / 256) + 0x1000 * (c % 256), 0, 13, 0, 0⟩
def CL.STATE.base : Nat := 0x200008

/-! CD<d>.CL<c>_EVENT, 10_clusters.md, line 294. -/
def CL.EVENT.SEQ (c : Nat) : Field := ⟨0x20000c + 0x100000 * (c / 256) + 0x1000 * (c % 256), 24, 8, 0, 0⟩
def CL.EVENT.SRAM_UNCORR (c : Nat) : Field := ⟨0x20000c + 0x100000 * (c / 256) + 0x1000 * (c % 256), 6, 1, 0, 0⟩
def CL.EVENT.WDOG (c : Nat) : Field := ⟨0x20000c + 0x100000 * (c / 256) + 0x1000 * (c % 256), 5, 1, 0, 0⟩
def CL.EVENT.FAULT (c : Nat) : Field := ⟨0x20000c + 0x100000 * (c / 256) + 0x1000 * (c % 256), 4, 1, 0, 0⟩
def CL.EVENT.DONE (c : Nat) : Field := ⟨0x20000c + 0x100000 * (c / 256) + 0x1000 * (c % 256), 3, 1, 0, 0⟩
def CL.EVENT.BUSY_START (c : Nat) : Field := ⟨0x20000c + 0x100000 * (c / 256) + 0x1000 * (c % 256), 2, 1, 0, 0⟩
def CL.EVENT.GATED_START (c : Nat) : Field := ⟨0x20000c + 0x100000 * (c / 256) + 0x1000 * (c % 256), 1, 1, 0, 0⟩
def CL.EVENT.CFG_ERR (c : Nat) : Field := ⟨0x20000c + 0x100000 * (c / 256) + 0x1000 * (c % 256), 0, 1, 0, 0⟩
def CL.EVENT.base : Nat := 0x20000c

/-! CD<d>.CL<c>_FAULT, 10_clusters.md, line 308. -/
def CL.FAULT.CODE (c : Nat) : Field := ⟨0x200010 + 0x100000 * (c / 256) + 0x1000 * (c % 256), 24, 8, 0, 0⟩
def CL.FAULT.PC (c : Nat) : Field := ⟨0x200010 + 0x100000 * (c / 256) + 0x1000 * (c % 256), 0, 13, 0, 0⟩
def CL.FAULT.base : Nat := 0x200010

/-! CD<d>.CL<c>_FLAGS, 10_clusters.md, line 316. -/
def CL.FLAGS.SEQ (c : Nat) : Field := ⟨0x200014 + 0x100000 * (c / 256) + 0x1000 * (c % 256), 24, 8, 0, 0⟩
def CL.FLAGS.SAT (c : Nat) : Field := ⟨0x200014 + 0x100000 * (c / 256) + 0x1000 * (c % 256), 5, 1, 0, 0⟩
def CL.FLAGS.NX (c : Nat) : Field := ⟨0x200014 + 0x100000 * (c / 256) + 0x1000 * (c % 256), 4, 1, 0, 0⟩
def CL.FLAGS.UF (c : Nat) : Field := ⟨0x200014 + 0x100000 * (c / 256) + 0x1000 * (c % 256), 3, 1, 0, 0⟩
def CL.FLAGS.OF (c : Nat) : Field := ⟨0x200014 + 0x100000 * (c / 256) + 0x1000 * (c % 256), 2, 1, 0, 0⟩
def CL.FLAGS.DZ (c : Nat) : Field := ⟨0x200014 + 0x100000 * (c / 256) + 0x1000 * (c % 256), 1, 1, 0, 0⟩
def CL.FLAGS.NV (c : Nat) : Field := ⟨0x200014 + 0x100000 * (c / 256) + 0x1000 * (c % 256), 0, 1, 0, 0⟩
def CL.FLAGS.base : Nat := 0x200014

/-! CD<d>.CL<c>_RNG_LO, 10_clusters.md, line 329. -/
def CL.RNG_LO.STATE (c : Nat) : Field := ⟨0x200018 + 0x100000 * (c / 256) + 0x1000 * (c % 256), 0, 32, 0, 0⟩
def CL.RNG_LO.base : Nat := 0x200018

/-! CD<d>.CL<c>_RNG_HI, 10_clusters.md, line 335. -/
def CL.RNG_HI.STATE (c : Nat) : Field := ⟨0x20001c + 0x100000 * (c / 256) + 0x1000 * (c % 256), 0, 32, 0, 0⟩
def CL.RNG_HI.base : Nat := 0x20001c

/-! CD<d>.CL<c>_WDOG, 10_clusters.md, line 341. -/
def CL.WDOG.US (c : Nat) : Field := ⟨0x200020 + 0x100000 * (c / 256) + 0x1000 * (c % 256), 0, 16, 0, 0x64⟩
def CL.WDOG.base : Nat := 0x200020

/-! CD<d>.CL<c>_STEPS, 10_clusters.md, line 348. -/
def CL.STEPS.VOPS (c : Nat) : Field := ⟨0x200030 + 0x100000 * (c / 256) + 0x1000 * (c % 256), 64, 48, 0, 0⟩
def CL.STEPS.MSTEPS (c : Nat) : Field := ⟨0x200030 + 0x100000 * (c / 256) + 0x1000 * (c % 256), 0, 48, 0, 0⟩
def CL.STEPS.base : Nat := 0x200030

/-! CD<d>.CL<c>_SRAM, 10_clusters.md, line 357. -/
def CL.SRAM.CORR (c : Nat) : Field := ⟨0x200040 + 0x100000 * (c / 256) + 0x1000 * (c % 256), 24, 8, 0, 0⟩
def CL.SRAM.UNCORR (c : Nat) : Field := ⟨0x200040 + 0x100000 * (c / 256) + 0x1000 * (c % 256), 16, 8, 0, 0⟩
def CL.SRAM.SPARED (c : Nat) : Field := ⟨0x200040 + 0x100000 * (c / 256) + 0x1000 * (c % 256), 8, 8, 0, 0⟩
def CL.SRAM.MARKED (c : Nat) : Field := ⟨0x200040 + 0x100000 * (c / 256) + 0x1000 * (c % 256), 0, 8, 0, 0⟩
def CL.SRAM.base : Nat := 0x200040

/-! CD<d>.CL<c>_RATE, 10_clusters.md, line 366. -/
def CL.RATE.MSPS (c : Nat) : Field := ⟨0x200044 + 0x100000 * (c / 256) + 0x1000 * (c % 256), 0, 16, 0, 0⟩
def CL.RATE.base : Nat := 0x200044

/-! CD<d>.CL<c>_WAIT, 11_cluster_instructions.md, line 417. -/
def CL.WAIT.KIND (c : Nat) : Field := ⟨0x200080 + 0x100000 * (c / 256) + 0x1000 * (c % 256), 28, 4, 0, 0⟩
def CL.WAIT.NUM (c : Nat) : Field := ⟨0x200080 + 0x100000 * (c / 256) + 0x1000 * (c % 256), 22, 6, 0, 0⟩
def CL.WAIT.HELD (c : Nat) : Field := ⟨0x200080 + 0x100000 * (c / 256) + 0x1000 * (c % 256), 18, 4, 0, 0⟩
def CL.WAIT.base : Nat := 0x200080

/-! CD<d>.CL<c>_TAGS_LO, 11_cluster_instructions.md, line 426. -/
def CL.TAGS_LO.TAG3 (c : Nat) : Field := ⟨0x200084 + 0x100000 * (c / 256) + 0x1000 * (c % 256), 24, 6, 0, 0⟩
def CL.TAGS_LO.TAG2 (c : Nat) : Field := ⟨0x200084 + 0x100000 * (c / 256) + 0x1000 * (c % 256), 16, 6, 0, 0⟩
def CL.TAGS_LO.TAG1 (c : Nat) : Field := ⟨0x200084 + 0x100000 * (c / 256) + 0x1000 * (c % 256), 8, 6, 0, 0⟩
def CL.TAGS_LO.TAG0 (c : Nat) : Field := ⟨0x200084 + 0x100000 * (c / 256) + 0x1000 * (c % 256), 0, 6, 0, 0⟩
def CL.TAGS_LO.base : Nat := 0x200084

/-! CD<d>.CL<c>_TAGS_HI, 11_cluster_instructions.md, line 439. -/
def CL.TAGS_HI.TAG7 (c : Nat) : Field := ⟨0x200088 + 0x100000 * (c / 256) + 0x1000 * (c % 256), 24, 6, 0, 0⟩
def CL.TAGS_HI.TAG6 (c : Nat) : Field := ⟨0x200088 + 0x100000 * (c / 256) + 0x1000 * (c % 256), 16, 6, 0, 0⟩
def CL.TAGS_HI.TAG5 (c : Nat) : Field := ⟨0x200088 + 0x100000 * (c / 256) + 0x1000 * (c % 256), 8, 6, 0, 0⟩
def CL.TAGS_HI.TAG4 (c : Nat) : Field := ⟨0x200088 + 0x100000 * (c / 256) + 0x1000 * (c % 256), 0, 6, 0, 0⟩
def CL.TAGS_HI.base : Nat := 0x200088

/-! CD<d>.CL<c>_PROG, 11_cluster_instructions.md, line 452. -/
def CL.PROG.LOADED (c : Nat) : Field := ⟨0x20008c + 0x100000 * (c / 256) + 0x1000 * (c % 256), 31, 1, 0, 0⟩
def CL.PROG.COUNT (c : Nat) : Field := ⟨0x20008c + 0x100000 * (c / 256) + 0x1000 * (c % 256), 16, 14, 0, 0⟩
def CL.PROG.JOB (c : Nat) : Field := ⟨0x20008c + 0x100000 * (c / 256) + 0x1000 * (c % 256), 13, 3, 0, 0⟩
def CL.PROG.ENTRY (c : Nat) : Field := ⟨0x20008c + 0x100000 * (c / 256) + 0x1000 * (c % 256), 0, 13, 0, 0⟩
def CL.PROG.base : Nat := 0x20008c

/-! MEM.CTRL, 12_memory_movement.md, line 245. -/
def MEM.CTRL.CORR_MARK : Field := ⟨0xa00000, 8, 8, 0, 8⟩
def MEM.CTRL.SCRUB_EN : Field := ⟨0xa00000, 0, 1, 0, 1⟩
def MEM.CTRL.base : Nat := 0xa00000

/-! MEM.EVENT, 12_memory_movement.md, line 254. -/
def MEM.EVENT.SEQ : Field := ⟨0xa00004, 24, 8, 0, 0⟩
def MEM.EVENT.FELL_FAIL : Field := ⟨0xa00004, 5, 1, 0, 0⟩
def MEM.EVENT.RING_OVR : Field := ⟨0xa00004, 4, 1, 0, 0⟩
def MEM.EVENT.PPR_OUT : Field := ⟨0xa00004, 3, 1, 0, 0⟩
def MEM.EVENT.MARKED : Field := ⟨0xa00004, 2, 1, 0, 0⟩
def MEM.EVENT.UNCORR : Field := ⟨0xa00004, 1, 1, 0, 0⟩
def MEM.EVENT.CFG_ERR : Field := ⟨0xa00004, 0, 1, 0, 0⟩
def MEM.EVENT.base : Nat := 0xa00004

/-! MEM.CH_SEL, 12_memory_movement.md, line 267. -/
def MEM.CH_SEL.CH (b : Nat) : Field := ⟨0xa00010, 0, 7, b, 0⟩
def MEM.CH_SEL.base : Nat := 0xa00010

/-! MEM.CH_STAT, 12_memory_movement.md, line 274. -/
def MEM.CH_STAT.CORR (i : Nat) : Field := ⟨0xa00014, 24, 8, i, 0⟩
def MEM.CH_STAT.UNCORR (i : Nat) : Field := ⟨0xa00014, 16, 8, i, 0⟩
def MEM.CH_STAT.MARKED (i : Nat) : Field := ⟨0xa00014, 8, 8, i, 0⟩
def MEM.CH_STAT.PPR_LEFT (i : Nat) : Field := ⟨0xa00014, 5, 3, i, 0⟩
def MEM.CH_STAT.REF_RATE (i : Nat) : Field := ⟨0xa00014, 3, 2, i, 0⟩
def MEM.CH_STAT.SR (i : Nat) : Field := ⟨0xa00014, 2, 1, i, 0⟩
def MEM.CH_STAT.base : Nat := 0xa00014

/-! MEM.ERR_ADDR, 12_memory_movement.md, line 286. -/
def MEM.ERR_ADDR.CH : Field := ⟨0xa00020, 88, 8, 0, 0⟩
def MEM.ERR_ADDR.REQ : Field := ⟨0xa00020, 80, 8, 0, 0⟩
def MEM.ERR_ADDR.ADDR : Field := ⟨0xa00020, 0, 48, 0, 0⟩
def MEM.ERR_ADDR.base : Nat := 0xa00020

/-! MEM.RING_SEL, 12_memory_movement.md, line 296. -/
def MEM.RING_SEL.RING (b : Nat) : Field := ⟨0xa40000, 0, 6, b, 0⟩
def MEM.RING_SEL.base : Nat := 0xa40000

/-! MEM.RING_BASE_LO, 12_memory_movement.md, line 303. -/
def MEM.RING_BASE_LO.ADDR (i : Nat) : Field := ⟨0xa40004, 0, 32, i, 0⟩
def MEM.RING_BASE_LO.base : Nat := 0xa40004

/-! MEM.RING_BASE_HI, 12_memory_movement.md, line 309. -/
def MEM.RING_BASE_HI.ADDR (i : Nat) : Field := ⟨0xa40008, 0, 16, i, 0⟩
def MEM.RING_BASE_HI.base : Nat := 0xa40008

/-! MEM.RING_CFG, 12_memory_movement.md, line 316. -/
def MEM.RING_CFG.JOB_EN (i : Nat) : Field := ⟨0xa4000c, 31, 1, i, 0⟩
def MEM.RING_CFG.JOB (i : Nat) : Field := ⟨0xa4000c, 28, 3, i, 0⟩
def MEM.RING_CFG.ENTRIES (i : Nat) : Field := ⟨0xa4000c, 16, 11, i, 0⟩
def MEM.RING_CFG.SLOT64 (i : Nat) : Field := ⟨0xa4000c, 0, 9, i, 0⟩
def MEM.RING_CFG.base : Nat := 0xa4000c

/-! MEM.RING_STAT, 12_memory_movement.md, line 327. -/
def MEM.RING_STAT.SEQ (i : Nat) : Field := ⟨0xa40010, 24, 8, i, 0⟩
def MEM.RING_STAT.OVR (i : Nat) : Field := ⟨0xa40010, 23, 1, i, 0⟩
def MEM.RING_STAT.WRITTEN (i : Nat) : Field := ⟨0xa40010, 12, 11, i, 0⟩
def MEM.RING_STAT.CLAIMED (i : Nat) : Field := ⟨0xa40010, 1, 11, i, 0⟩
def MEM.RING_STAT.base : Nat := 0xa40010

/-! MEM.RING_CLAIM, 12_memory_movement.md, line 337. -/
def MEM.RING_CLAIM.VALID (i : Nat) : Field := ⟨0xa40014, 31, 1, i, 0⟩
def MEM.RING_CLAIM.INDEX (i : Nat) : Field := ⟨0xa40014, 0, 11, i, 0⟩
def MEM.RING_CLAIM.base : Nat := 0xa40014

/-! MEM.RING_RELEASE, 12_memory_movement.md, line 345. -/
def MEM.RING_RELEASE.INDEX (i : Nat) : Field := ⟨0xa40018, 0, 11, i, 0⟩
def MEM.RING_RELEASE.base : Nat := 0xa40018

/-! MEM.RING_COUNTS, 12_memory_movement.md, line 352. -/
def MEM.RING_COUNTS.WRITES (i : Nat) : Field := ⟨0xa40020, 96, 32, i, 0⟩
def MEM.RING_COUNTS.OVERRUNS (i : Nat) : Field := ⟨0xa40020, 64, 32, i, 0⟩
def MEM.RING_COUNTS.FAILED (i : Nat) : Field := ⟨0xa40020, 32, 32, i, 0⟩
def MEM.RING_COUNTS.DROPPED (i : Nat) : Field := ⟨0xa40020, 0, 32, i, 0⟩
def MEM.RING_COUNTS.base : Nat := 0xa40020

/-! MEM.FELL_SEL, 12_memory_movement.md, line 361. -/
def MEM.FELL_SEL.STREAM (b : Nat) : Field := ⟨0xa60000, 0, 6, b, 0⟩
def MEM.FELL_SEL.base : Nat := 0xa60000

/-! MEM.FELL_BASE_LO, 12_memory_movement.md, line 368. -/
def MEM.FELL_BASE_LO.ADDR (i : Nat) : Field := ⟨0xa60004, 0, 32, i, 0⟩
def MEM.FELL_BASE_LO.base : Nat := 0xa60004

/-! MEM.FELL_BASE_HI, 12_memory_movement.md, line 374. -/
def MEM.FELL_BASE_HI.ADDR (i : Nat) : Field := ⟨0xa60008, 0, 16, i, 0⟩
def MEM.FELL_BASE_HI.base : Nat := 0xa60008

/-! MEM.FELL_LEN, 12_memory_movement.md, line 381. -/
def MEM.FELL_LEN.LENGTH (i : Nat) : Field := ⟨0xa6000c, 0, 32, i, 0⟩
def MEM.FELL_LEN.base : Nat := 0xa6000c

/-! MEM.FELL_CFG, 12_memory_movement.md, line 387. -/
def MEM.FELL_CFG.JOB_EN (i : Nat) : Field := ⟨0xa60010, 31, 1, i, 0⟩
def MEM.FELL_CFG.JOB (i : Nat) : Field := ⟨0xa60010, 28, 3, i, 0⟩
def MEM.FELL_CFG.FMT (i : Nat) : Field := ⟨0xa60010, 14, 1, i, 0⟩
def MEM.FELL_CFG.ADV (i : Nat) : Field := ⟨0xa60010, 0, 14, i, 0⟩
def MEM.FELL_CFG.base : Nat := 0xa60010

/-! MEM.FELL_CUR, 12_memory_movement.md, line 397. -/
def MEM.FELL_CUR.CURSOR (i : Nat) : Field := ⟨0xa60014, 0, 32, i, 0⟩
def MEM.FELL_CUR.base : Nat := 0xa60014

/-! MEM.FELL_FLAGS, 12_memory_movement.md, line 403. -/
def MEM.FELL_FLAGS.SEQ (i : Nat) : Field := ⟨0xa60018, 24, 8, i, 0⟩
def MEM.FELL_FLAGS.NX (i : Nat) : Field := ⟨0xa60018, 4, 1, i, 0⟩
def MEM.FELL_FLAGS.UF (i : Nat) : Field := ⟨0xa60018, 3, 1, i, 0⟩
def MEM.FELL_FLAGS.OF (i : Nat) : Field := ⟨0xa60018, 2, 1, i, 0⟩
def MEM.FELL_FLAGS.NV (i : Nat) : Field := ⟨0xa60018, 0, 1, i, 0⟩
def MEM.FELL_FLAGS.base : Nat := 0xa60018

/-! MEM.FELL_STRIPE, 12_memory_movement.md, line 415. -/
def MEM.FELL_STRIPE.PER (i : Nat) : Field := ⟨0xa6001c, 0, 19, i, 0⟩
def MEM.FELL_STRIPE.base : Nat := 0xa6001c

/-! MEM.FELL_COUNTS, 12_memory_movement.md, line 422. -/
def MEM.FELL_COUNTS.COMPLETED (i : Nat) : Field := ⟨0xa60020, 96, 32, i, 0⟩
def MEM.FELL_COUNTS.FAILED (i : Nat) : Field := ⟨0xa60020, 64, 32, i, 0⟩
def MEM.FELL_COUNTS.WRAPS (i : Nat) : Field := ⟨0xa60020, 32, 32, i, 0⟩
def MEM.FELL_COUNTS.base : Nat := 0xa60020

/-! OPN.EVENT, 12_memory_movement.md, line 435. -/
def OPN.EVENT.SEQ : Field := ⟨0x100000, 24, 8, 0, 0⟩
def OPN.EVENT.UNCORR : Field := ⟨0x100000, 1, 1, 0, 0⟩
def OPN.EVENT.RANGE : Field := ⟨0x100000, 0, 1, 0, 0⟩
def OPN.EVENT.base : Nat := 0x100000

/-! OPN.PATH_SEL, 12_memory_movement.md, line 444. -/
def OPN.PATH_SEL.PATH (b : Nat) : Field := ⟨0x100004, 0, 4, b, 0⟩
def OPN.PATH_SEL.base : Nat := 0x100004

/-! OPN.PATH_COUNTS, 12_memory_movement.md, line 451. -/
def OPN.PATH_COUNTS.SCHED (i : Nat) : Field := ⟨0x100010, 80, 48, i, 0⟩
def OPN.PATH_COUNTS.GEN (i : Nat) : Field := ⟨0x100010, 32, 48, i, 0⟩
def OPN.PATH_COUNTS.CORR (i : Nat) : Field := ⟨0x100010, 16, 16, i, 0⟩
def OPN.PATH_COUNTS.UNCORR (i : Nat) : Field := ⟨0x100010, 0, 16, i, 0⟩
def OPN.PATH_COUNTS.base : Nat := 0x100010

/-! CPY.E<n>_RING_LO, 12_memory_movement.md, line 464. -/
def CPY.E_RING_LO.ADDR (n : Nat) : Field := ⟨0x110000 + 0x10 * n, 0, 32, 0, 0⟩
def CPY.E_RING_LO.base : Nat := 0x110000

/-! CPY.E<n>_RING_HI, 12_memory_movement.md, line 470. -/
def CPY.E_RING_HI.LOG2N (n : Nat) : Field := ⟨0x110004 + 0x10 * n, 28, 4, 0, 0⟩
def CPY.E_RING_HI.ADDR (n : Nat) : Field := ⟨0x110004 + 0x10 * n, 0, 16, 0, 0⟩
def CPY.E_RING_HI.base : Nat := 0x110004

/-! CPY.E<n>_PROD, 12_memory_movement.md, line 478. -/
def CPY.E_PROD.PROD (n : Nat) : Field := ⟨0x110008 + 0x10 * n, 0, 16, 0, 0⟩
def CPY.E_PROD.base : Nat := 0x110008

/-! CPY.E<n>_CONS, 12_memory_movement.md, line 485. -/
def CPY.E_CONS.LAST_CODE (n : Nat) : Field := ⟨0x11000c + 0x10 * n, 24, 8, 0, 0⟩
def CPY.E_CONS.CONS (n : Nat) : Field := ⟨0x11000c + 0x10 * n, 0, 16, 0, 0⟩
def CPY.E_CONS.base : Nat := 0x11000c

/-! CPY.EVENT, 12_memory_movement.md, line 493. -/
def CPY.EVENT.SEQ : Field := ⟨0x110200, 24, 8, 0, 0⟩
def CPY.EVENT.INVALID : Field := ⟨0x110200, 2, 1, 0, 0⟩
def CPY.EVENT.FAIL : Field := ⟨0x110200, 1, 1, 0, 0⟩
def CPY.EVENT.CFG_ERR : Field := ⟨0x110200, 0, 1, 0, 0⟩
def CPY.EVENT.base : Nat := 0x110200

/-! CPY.SEL, 12_memory_movement.md, line 503. -/
def CPY.SEL.ENGINE (b : Nat) : Field := ⟨0x110208, 0, 7, b, 0⟩
def CPY.SEL.base : Nat := 0x110208

/-! CPY.SEL_STAT, 12_memory_movement.md, line 510. -/
def CPY.SEL_STAT.QUEUED (i : Nat) : Field := ⟨0x11020c, 24, 8, i, 0⟩
def CPY.SEL_STAT.LAST_CODE (i : Nat) : Field := ⟨0x11020c, 16, 8, i, 0⟩
def CPY.SEL_STAT.FAILED (i : Nat) : Field := ⟨0x11020c, 0, 16, i, 0⟩
def CPY.SEL_STAT.base : Nat := 0x11020c

/-! GTH.STAT, 12_memory_movement.md, line 522. -/
def GTH.STAT.REC_WAIT : Field := ⟨0x120000, 24, 8, 0, 0⟩
def GTH.STAT.OPEN : Field := ⟨0x120000, 16, 8, 0, 0⟩
def GTH.STAT.STALLS : Field := ⟨0x120000, 0, 16, 0, 0⟩
def GTH.STAT.base : Nat := 0x120000

/-! GTH.REC, 12_memory_movement.md, line 530. -/
def GTH.REC.RECORD : Field := ⟨0x120010, 0, 128, 0, 0⟩
def GTH.REC.base : Nat := 0x120010

/-! GTH.VEC_SEL, 12_memory_movement.md, line 536. -/
def GTH.VEC_SEL.KIND (b : Nat) : Field := ⟨0x120020, 7, 1, b, 0⟩
def GTH.VEC_SEL.JOB (b : Nat) : Field := ⟨0x120020, 4, 3, b, 0⟩
def GTH.VEC_SEL.CHUNK (b : Nat) : Field := ⟨0x120020, 0, 4, b, 0⟩
def GTH.VEC_SEL.base : Nat := 0x120020

/-! GTH.VEC, 12_memory_movement.md, line 545. -/
def GTH.VEC.BITS (i : Nat) : Field := ⟨0x120030, 0, 128, i, 0⟩
def GTH.VEC.base : Nat := 0x120030

/-! ULK.CTRL, 13_urdal_link.md, line 270. -/
def ULK.CTRL.RECOVER_LIM : Field := ⟨0xb00000, 16, 16, 0, 0x64⟩
def ULK.CTRL.W8_OK : Field := ⟨0xb00000, 1, 1, 0, 1⟩
def ULK.CTRL.EN : Field := ⟨0xb00000, 0, 1, 0, 1⟩
def ULK.CTRL.base : Nat := 0xb00000

/-! ULK.STAT, 13_urdal_link.md, line 279. -/
def ULK.STAT.STATE : Field := ⟨0xb00004, 29, 3, 0, 0⟩
def ULK.STAT.WIDTH : Field := ⟨0xb00004, 28, 1, 0, 0⟩
def ULK.STAT.EPOCH : Field := ⟨0xb00004, 16, 8, 0, 0⟩
def ULK.STAT.LANE_OK : Field := ⟨0xb00004, 0, 16, 0, 0⟩
def ULK.STAT.base : Nat := 0xb00004

/-! ULK.EVENT, 13_urdal_link.md, line 289. -/
def ULK.EVENT.SEQ : Field := ⟨0xb00008, 24, 8, 0, 0⟩
def ULK.EVENT.CANCEL_LATE : Field := ⟨0xb00008, 7, 1, 0, 0⟩
def ULK.EVENT.JOB_REJECT : Field := ⟨0xb00008, 6, 1, 0, 0⟩
def ULK.EVENT.LOST : Field := ⟨0xb00008, 5, 1, 0, 0⟩
def ULK.EVENT.SNP_TIMEOUT : Field := ⟨0xb00008, 4, 1, 0, 0⟩
def ULK.EVENT.FAILED : Field := ⟨0xb00008, 3, 1, 0, 0⟩
def ULK.EVENT.RECOVER : Field := ⟨0xb00008, 2, 1, 0, 0⟩
def ULK.EVENT.UP : Field := ⟨0xb00008, 1, 1, 0, 0⟩
def ULK.EVENT.CFG_ERR : Field := ⟨0xb00008, 0, 1, 0, 0⟩
def ULK.EVENT.base : Nat := 0xb00008

/-! ULK.CMD, 13_urdal_link.md, line 304. -/
def ULK.CMD.RETRAIN : Field := ⟨0xb0000c, 0, 1, 0, 0⟩
def ULK.CMD.base : Nat := 0xb0000c

/-! ULK.COUNTS, 13_urdal_link.md, line 311. -/
def ULK.COUNTS.REPLAYS : Field := ⟨0xb00010, 24, 8, 0, 0⟩
def ULK.COUNTS.RECOVERS : Field := ⟨0xb00010, 16, 8, 0, 0⟩
def ULK.COUNTS.SNP_TIMEOUT : Field := ⟨0xb00010, 8, 8, 0, 0⟩
def ULK.COUNTS.ERR_SENT : Field := ⟨0xb00010, 0, 8, 0, 0⟩
def ULK.COUNTS.base : Nat := 0xb00010

/-! ULK.COH_WIN, 13_urdal_link.md, line 320. -/
def ULK.COH_WIN.BASE : Field := ⟨0xb00014, 16, 16, 0, 0⟩
def ULK.COH_WIN.SIZE : Field := ⟨0xb00014, 0, 16, 0, 0⟩
def ULK.COH_WIN.base : Nat := 0xb00014

/-! ULK.DIR_STAT, 13_urdal_link.md, line 327. -/
def ULK.DIR_STAT.USED : Field := ⟨0xb00018, 11, 21, 0, 0⟩
def ULK.DIR_STAT.RECALLS : Field := ⟨0xb00018, 0, 8, 0, 0⟩
def ULK.DIR_STAT.base : Nat := 0xb00018

/-! ULK.SNP_CFG, 13_urdal_link.md, line 335. -/
def ULK.SNP_CFG.TIMEOUT : Field := ⟨0xb0001c, 0, 16, 0, 0xa⟩
def ULK.SNP_CFG.base : Nat := 0xb0001c

/-! ULK.CAL_LO, 13_urdal_link.md, line 342. -/
def ULK.CAL_LO.ADDR : Field := ⟨0xb00020, 0, 32, 0, 0⟩
def ULK.CAL_LO.base : Nat := 0xb00020

/-! ULK.CAL_HI, 13_urdal_link.md, line 348. -/
def ULK.CAL_HI.ADDR : Field := ⟨0xb00024, 0, 16, 0, 0⟩
def ULK.CAL_HI.base : Nat := 0xb00024

/-! ULK.CAL_CFG, 13_urdal_link.md, line 355. -/
def ULK.CAL_CFG.LEAD : Field := ⟨0xb00028, 16, 16, 0, 0xfa⟩
def ULK.CAL_CFG.ENTRIES : Field := ⟨0xb00028, 0, 8, 0, 0⟩
def ULK.CAL_CFG.base : Nat := 0xb00028

/-! ULK.JOB_STAT, 13_urdal_link.md, line 363. -/
def ULK.JOB_STAT.ACCEPTED : Field := ⟨0xb0002c, 24, 8, 0, 0⟩
def ULK.JOB_STAT.REJECTED : Field := ⟨0xb0002c, 16, 8, 0, 0⟩
def ULK.JOB_STAT.CANCELLED : Field := ⟨0xb0002c, 8, 8, 0, 0⟩
def ULK.JOB_STAT.LAST_REASON : Field := ⟨0xb0002c, 4, 4, 0, 0⟩
def ULK.JOB_STAT.base : Nat := 0xb0002c

/-! ULK.NOTICE_LO, 13_urdal_link.md, line 373. -/
def ULK.NOTICE_LO.ADDR : Field := ⟨0xb00030, 0, 32, 0, 0⟩
def ULK.NOTICE_LO.base : Nat := 0xb00030

/-! ULK.NOTICE_HI, 13_urdal_link.md, line 379. -/
def ULK.NOTICE_HI.EN : Field := ⟨0xb00034, 31, 1, 0, 0⟩
def ULK.NOTICE_HI.ADDR : Field := ⟨0xb00034, 0, 15, 0, 0⟩
def ULK.NOTICE_HI.base : Nat := 0xb00034

/-! ULK.NOTICE_STAT, 13_urdal_link.md, line 387. -/
def ULK.NOTICE_STAT.PENDING : Field := ⟨0xb00038, 24, 8, 0, 0⟩
def ULK.NOTICE_STAT.WRITTEN : Field := ⟨0xb00038, 0, 24, 0, 0⟩
def ULK.NOTICE_STAT.base : Nat := 0xb00038

/-! ULK.LOST, 13_urdal_link.md, line 394. -/
def ULK.LOST.COUNT : Field := ⟨0xb00040, 96, 32, 0, 0⟩
def ULK.LOST.FIRST : Field := ⟨0xb00040, 0, 48, 0, 0⟩
def ULK.LOST.base : Nat := 0xb00040

/-! PWR.CTRL, 14_package_power.md, line 233. -/
def PWR.CTRL.MEM_KEEP : Field := ⟨0xf00000, 0, 1, 0, 0⟩
def PWR.CTRL.base : Nat := 0xf00000

/-! PWR.CMD, 14_package_power.md, line 240. -/
def PWR.CMD.DARK : Field := ⟨0xf00004, 2, 1, 0, 0⟩
def PWR.CMD.HUSH : Field := ⟨0xf00004, 1, 1, 0, 0⟩
def PWR.CMD.ACTIVE : Field := ⟨0xf00004, 0, 1, 0, 0⟩
def PWR.CMD.base : Nat := 0xf00004

/-! PWR.STATE, 14_package_power.md, line 249. -/
def PWR.STATE.STATE : Field := ⟨0xf00008, 29, 3, 0, 3⟩
def PWR.STATE.CHANGING : Field := ⟨0xf00008, 28, 1, 0, 0⟩
def PWR.STATE.RAIL_GOOD : Field := ⟨0xf00008, 0, 20, 0, 0⟩
def PWR.STATE.base : Nat := 0xf00008

/-! PWR.EVENT, 14_package_power.md, line 258. -/
def PWR.EVENT.SEQ : Field := ⟨0xf0000c, 24, 8, 0, 0⟩
def PWR.EVENT.UNPLANNED : Field := ⟨0xf0000c, 5, 1, 0, 0⟩
def PWR.EVENT.TRIP : Field := ⟨0xf0000c, 4, 1, 0, 0⟩
def PWR.EVENT.ALERT : Field := ⟨0xf0000c, 3, 1, 0, 0⟩
def PWR.EVENT.SEQ_ERR : Field := ⟨0xf0000c, 2, 1, 0, 0⟩
def PWR.EVENT.RAIL_FAULT : Field := ⟨0xf0000c, 1, 1, 0, 0⟩
def PWR.EVENT.CFG_ERR : Field := ⟨0xf0000c, 0, 1, 0, 0⟩
def PWR.EVENT.base : Nat := 0xf0000c

/-! PWR.COUNTS, 14_package_power.md, line 271. -/
def PWR.COUNTS.RAIL_FAULTS : Field := ⟨0xf00010, 24, 8, 0, 0⟩
def PWR.COUNTS.ALERTS : Field := ⟨0xf00010, 16, 8, 0, 0⟩
def PWR.COUNTS.UNPLANNED : Field := ⟨0xf00010, 8, 8, 0, 0⟩
def PWR.COUNTS.REFUSED : Field := ⟨0xf00010, 0, 8, 0, 0⟩
def PWR.COUNTS.base : Nat := 0xf00010

/-! PWR.THERM_CFG, 14_package_power.md, line 280. -/
def PWR.THERM_CFG.ALERT_T : Field := ⟨0xf00014, 8, 8, 0, 0x69⟩
def PWR.THERM_CFG.TRIP_T : Field := ⟨0xf00014, 0, 8, 0, 0x73⟩
def PWR.THERM_CFG.base : Nat := 0xf00014

/-! PWR.TEMP_MAX, 14_package_power.md, line 288. -/
def PWR.TEMP_MAX.SENSOR : Field := ⟨0xf00018, 24, 8, 0, 0⟩
def PWR.TEMP_MAX.TEMP : Field := ⟨0xf00018, 0, 16, 0, 0⟩
def PWR.TEMP_MAX.base : Nat := 0xf00018

/-! PWR.TEMP_SEL, 14_package_power.md, line 296. -/
def PWR.TEMP_SEL.SENSOR (b : Nat) : Field := ⟨0xf0001c, 0, 8, b, 0⟩
def PWR.TEMP_SEL.base : Nat := 0xf0001c

/-! PWR.TEMP, 14_package_power.md, line 303. -/
def PWR.TEMP.PEAK (i : Nat) : Field := ⟨0xf00020, 16, 16, i, 0⟩
def PWR.TEMP.NOW (i : Nat) : Field := ⟨0xf00020, 0, 16, i, 0⟩
def PWR.TEMP.base : Nat := 0xf00020

/-! PWR.RAIL_SEL, 14_package_power.md, line 310. -/
def PWR.RAIL_SEL.RAIL (b : Nat) : Field := ⟨0xf00024, 0, 5, b, 0⟩
def PWR.RAIL_SEL.base : Nat := 0xf00024

/-! PWR.RAIL_STAT, 14_package_power.md, line 317. -/
def PWR.RAIL_STAT.GOOD (i : Nat) : Field := ⟨0xf00028, 31, 1, i, 0⟩
def PWR.RAIL_STAT.AMPS (i : Nat) : Field := ⟨0xf00028, 16, 15, i, 0⟩
def PWR.RAIL_STAT.MV (i : Nat) : Field := ⟨0xf00028, 0, 16, i, 0⟩
def PWR.RAIL_STAT.base : Nat := 0xf00028

/-! BOOT.STATUS, 15_boot_cutting_list.md, line 277. -/
def BOOT.STATUS.PHASE : Field := ⟨0xe00000, 28, 4, 0, 0⟩
def BOOT.STATUS.LOCKED : Field := ⟨0xe00000, 27, 1, 0, 0⟩
def BOOT.STATUS.CL_SLOT : Field := ⟨0xe00000, 26, 1, 0, 0⟩
def BOOT.STATUS.FW_SLOT : Field := ⟨0xe00000, 25, 1, 0, 0⟩
def BOOT.STATUS.NVM_OCTAL : Field := ⟨0xe00000, 24, 1, 0, 0⟩
def BOOT.STATUS.COMPAT : Field := ⟨0xe00000, 23, 1, 0, 0⟩
def BOOT.STATUS.CAUSE : Field := ⟨0xe00000, 19, 4, 0, 0⟩
def BOOT.STATUS.STUCK : Field := ⟨0xe00000, 15, 4, 0, 0⟩
def BOOT.STATUS.base : Nat := 0xe00000

/-! BOOT.EVENT, 15_boot_cutting_list.md, line 291. -/
def BOOT.EVENT.SEQ : Field := ⟨0xe00004, 24, 8, 0, 0⟩
def BOOT.EVENT.STUCK : Field := ⟨0xe00004, 8, 1, 0, 0⟩
def BOOT.EVENT.POS_CHANGED : Field := ⟨0xe00004, 7, 1, 0, 0⟩
def BOOT.EVENT.BENCH_MISMATCH : Field := ⟨0xe00004, 6, 1, 0, 0⟩
def BOOT.EVENT.LEN_MISMATCH : Field := ⟨0xe00004, 5, 1, 0, 0⟩
def BOOT.EVENT.CL_FALLBACK : Field := ⟨0xe00004, 4, 1, 0, 0⟩
def BOOT.EVENT.RX_MSG : Field := ⟨0xe00004, 3, 1, 0, 0⟩
def BOOT.EVENT.TX_LOST : Field := ⟨0xe00004, 2, 1, 0, 0⟩
def BOOT.EVENT.RST_REFUSED : Field := ⟨0xe00004, 1, 1, 0, 0⟩
def BOOT.EVENT.CFG_ERR : Field := ⟨0xe00004, 0, 1, 0, 0⟩
def BOOT.EVENT.base : Nat := 0xe00004

/-! BOOT.COUNTS, 15_boot_cutting_list.md, line 307. -/
def BOOT.COUNTS.BOOTS : Field := ⟨0xe00008, 24, 8, 0, 0⟩
def BOOT.COUNTS.RST_MERGED : Field := ⟨0xe00008, 16, 8, 0, 0⟩
def BOOT.COUNTS.RST_REFUSED : Field := ⟨0xe00008, 8, 8, 0, 0⟩
def BOOT.COUNTS.CL_FALLBACK : Field := ⟨0xe00008, 0, 8, 0, 0⟩
def BOOT.COUNTS.base : Nat := 0xe00008

/-! BOOT.CTRL, 15_boot_cutting_list.md, line 316. -/
def BOOT.CTRL.CHAIN_RST : Field := ⟨0xe0000c, 0, 1, 0, 0⟩
def BOOT.CTRL.base : Nat := 0xe0000c

/-! BOOT.LOCK, 15_boot_cutting_list.md, line 323. -/
def BOOT.LOCK.SET : Field := ⟨0xe00010, 0, 1, 0, 0⟩
def BOOT.LOCK.base : Nat := 0xe00010

/-! BOOT.RESET, 15_boot_cutting_list.md, line 330. -/
def BOOT.RESET.KEY : Field := ⟨0xe00014, 16, 16, 0, 0⟩
def BOOT.RESET.KIND : Field := ⟨0xe00014, 0, 2, 0, 0⟩
def BOOT.RESET.base : Nat := 0xe00014

/-! BOOT.STRAPS, 15_boot_cutting_list.md, line 338. -/
def BOOT.STRAPS.CHAIN_HEAD : Field := ⟨0xe00018, 5, 1, 0, 0⟩
def BOOT.STRAPS.BENCH_ID : Field := ⟨0xe00018, 0, 5, 0, 0⟩
def BOOT.STRAPS.base : Nat := 0xe00018

/-! BOOT.CHAIN, 15_boot_cutting_list.md, line 346. -/
def BOOT.CHAIN.POSITION : Field := ⟨0xe0001c, 24, 8, 0, 0xff⟩
def BOOT.CHAIN.COUNT : Field := ⟨0xe0001c, 16, 8, 0, 0⟩
def BOOT.CHAIN.UP_BENCH : Field := ⟨0xe0001c, 8, 8, 0, 0⟩
def BOOT.CHAIN.LINK : Field := ⟨0xe0001c, 0, 1, 0, 0⟩
def BOOT.CHAIN.base : Nat := 0xe0001c

/-! BOOT.NODE, 15_boot_cutting_list.md, line 356. -/
def BOOT.NODE.NODE_ID : Field := ⟨0xe00020, 16, 12, 0, 0⟩
def BOOT.NODE.BENCH_POS : Field := ⟨0xe00020, 0, 7, 0, 0⟩
def BOOT.NODE.base : Nat := 0xe00020

/-! BOOT.TIMES, 15_boot_cutting_list.md, line 365. -/
def BOOT.TIMES.NVM_MS : Field := ⟨0xe00024, 16, 16, 0, 0⟩
def BOOT.TIMES.BRINGUP_MS : Field := ⟨0xe00024, 0, 16, 0, 0⟩
def BOOT.TIMES.base : Nat := 0xe00024

/-! BOOT.CL_INFO, 15_boot_cutting_list.md, line 372. -/
def BOOT.CL_INFO.GEN : Field := ⟨0xe00030, 64, 64, 0, 0⟩
def BOOT.CL_INFO.DIGEST : Field := ⟨0xe00030, 32, 32, 0, 0⟩
def BOOT.CL_INFO.FLAGS : Field := ⟨0xe00030, 24, 8, 0, 0⟩
def BOOT.CL_INFO.LENGTH : Field := ⟨0xe00030, 0, 24, 0, 0⟩
def BOOT.CL_INFO.base : Nat := 0xe00030

/-! BOOT.CHN_CMD, 15_boot_cutting_list.md, line 381. -/
def BOOT.CHN_CMD.TYPE : Field := ⟨0xe00040, 24, 8, 0, 0⟩
def BOOT.CHN_CMD.LEN : Field := ⟨0xe00040, 8, 8, 0, 0⟩
def BOOT.CHN_CMD.BUSY : Field := ⟨0xe00040, 1, 1, 0, 0⟩
def BOOT.CHN_CMD.SEND : Field := ⟨0xe00040, 0, 1, 0, 0⟩
def BOOT.CHN_CMD.base : Nat := 0xe00040

/-! BOOT.CHN_TXD<i>, 15_boot_cutting_list.md, line 392. -/
def BOOT.CHN_TXD.DATA (i : Nat) : Field := ⟨0xe00044 + 0x4 * i, 0, 32, 0, 0⟩
def BOOT.CHN_TXD.base : Nat := 0xe00044

/-! BOOT.CHN_RXH, 15_boot_cutting_list.md, line 398. -/
def BOOT.CHN_RXH.SEQ : Field := ⟨0xe00054, 24, 8, 0, 0⟩
def BOOT.CHN_RXH.VALID : Field := ⟨0xe00054, 23, 1, 0, 0⟩
def BOOT.CHN_RXH.SRC : Field := ⟨0xe00054, 8, 8, 0, 0⟩
def BOOT.CHN_RXH.LEN : Field := ⟨0xe00054, 0, 8, 0, 0⟩
def BOOT.CHN_RXH.base : Nat := 0xe00054

/-! BOOT.CHN_RX, 15_boot_cutting_list.md, line 408. -/
def BOOT.CHN_RX.DATA : Field := ⟨0xe00060, 0, 128, 0, 0⟩
def BOOT.CHN_RX.base : Nat := 0xe00060

/-! BOOT.CHN_COUNTS, 15_boot_cutting_list.md, line 414. -/
def BOOT.CHN_COUNTS.CRC_DROP : Field := ⟨0xe00070, 24, 8, 0, 0⟩
def BOOT.CHN_COUNTS.LOST : Field := ⟨0xe00070, 16, 8, 0, 0⟩
def BOOT.CHN_COUNTS.DUP : Field := ⟨0xe00070, 8, 8, 0, 0⟩
def BOOT.CHN_COUNTS.UNKNOWN : Field := ⟨0xe00070, 0, 8, 0, 0⟩
def BOOT.CHN_COUNTS.base : Nat := 0xe00070

/-! BOOT.OPKEY, 15_boot_cutting_list.md, line 423. -/
def BOOT.OPKEY.CONFIRM : Field := ⟨0xe00080, 16, 16, 0, 0⟩
def BOOT.OPKEY.FUSED : Field := ⟨0xe00080, 1, 1, 0, 0⟩
def BOOT.OPKEY.FUSE : Field := ⟨0xe00080, 0, 1, 0, 0⟩
def BOOT.OPKEY.base : Nat := 0xe00080

/-! GLB.ID, 16_register_interface.md, line 245. -/
def GLB.ID.PART : Field := ⟨0x0, 20, 12, 0, 0⟩
def GLB.ID.REV_MAJOR : Field := ⟨0x0, 16, 4, 0, 0⟩
def GLB.ID.REV_MINOR : Field := ⟨0x0, 12, 4, 0, 0⟩
def GLB.ID.VARIANT : Field := ⟨0x0, 8, 4, 0, 0⟩
def GLB.ID.VENDOR : Field := ⟨0x0, 0, 8, 0, 0⟩
def GLB.ID.base : Nat := 0x0

/-! GLB.SERIAL, 16_register_interface.md, line 255. -/
def GLB.SERIAL.SERIAL : Field := ⟨0x10, 0, 128, 0, 0⟩
def GLB.SERIAL.base : Nat := 0x10

/-! GLB.MBX_SEL, 16_register_interface.md, line 261. -/
def GLB.MBX_SEL.OFFSET (b : Nat) : Field := ⟨0x20, 4, 22, b, 0⟩
def GLB.MBX_SEL.base : Nat := 0x20

/-! GLB.MBX_VALID, 16_register_interface.md, line 269. -/
def GLB.MBX_VALID.VALID (b : Nat) : Field := ⟨0x24, 31, 1, b, 0⟩
def GLB.MBX_VALID.ERR (b : Nat) : Field := ⟨0x24, 30, 1, b, 0⟩
def GLB.MBX_VALID.OFFSET (b : Nat) : Field := ⟨0x24, 4, 22, b, 0⟩
def GLB.MBX_VALID.base : Nat := 0x24

/-! GLB.MBX_D<i>, 16_register_interface.md, line 279. -/
def GLB.MBX_D.DATA (i b : Nat) : Field := ⟨0x28 + 0x4 * i, 0, 32, b, 0⟩
def GLB.MBX_D.base : Nat := 0x28

/-! GLB.ACC_ERR, 16_register_interface.md, line 285. -/
def GLB.ACC_ERR.NARROW_WR : Field := ⟨0x40, 26, 6, 0, 0⟩
def GLB.ACC_ERR.UNALIGNED : Field := ⟨0x40, 20, 6, 0, 0⟩
def GLB.ACC_ERR.UNMAPPED : Field := ⟨0x40, 14, 6, 0, 0⟩
def GLB.ACC_ERR.BUSY_RESET : Field := ⟨0x40, 8, 6, 0, 0⟩
def GLB.ACC_ERR.DROPPED : Field := ⟨0x40, 0, 8, 0, 0⟩
def GLB.ACC_ERR.base : Nat := 0x40

/-! GLB.LOCK_VIOL, 16_register_interface.md, line 295. -/
def GLB.LOCK_VIOL.COUNT : Field := ⟨0x44, 24, 8, 0, 0⟩
def GLB.LOCK_VIOL.LAST : Field := ⟨0x44, 0, 24, 0, 0⟩
def GLB.LOCK_VIOL.base : Nat := 0x44

/-! GLB.EVENT, 16_register_interface.md, line 302. -/
def GLB.EVENT.SEQ : Field := ⟨0x50, 24, 8, 0, 0⟩
def GLB.EVENT.CRC_MISMATCH : Field := ⟨0x50, 7, 1, 0, 0⟩
def GLB.EVENT.CSR_FAULT : Field := ⟨0x50, 6, 1, 0, 0⟩
def GLB.EVENT.LOCK_VIOL : Field := ⟨0x50, 5, 1, 0, 0⟩
def GLB.EVENT.DROPPED : Field := ⟨0x50, 4, 1, 0, 0⟩
def GLB.EVENT.UNMAPPED : Field := ⟨0x50, 3, 1, 0, 0⟩
def GLB.EVENT.UNALIGNED : Field := ⟨0x50, 2, 1, 0, 0⟩
def GLB.EVENT.NARROW_WR : Field := ⟨0x50, 1, 1, 0, 0⟩
def GLB.EVENT.CFG_ERR : Field := ⟨0x50, 0, 1, 0, 0⟩
def GLB.EVENT.base : Nat := 0x50

/-! GLB.FAULT_LO, 16_register_interface.md, line 317. -/
def GLB.FAULT_LO.BLOCKS : Field := ⟨0x58, 0, 26, 0, 0⟩
def GLB.FAULT_LO.base : Nat := 0x58

/-! GLB.FAULT_HI, 16_register_interface.md, line 324. -/
def GLB.FAULT_HI.DIES : Field := ⟨0x5c, 0, 8, 0, 0⟩
def GLB.FAULT_HI.base : Nat := 0x5c

/-! GLB.FAULT_CLR, 16_register_interface.md, line 331. -/
def GLB.FAULT_CLR.BLOCK : Field := ⟨0x60, 0, 6, 0, 0⟩
def GLB.FAULT_CLR.base : Nat := 0x60

/-! GLB.FAULT_LAST, 16_register_interface.md, line 338. -/
def GLB.FAULT_LAST.COUNT : Field := ⟨0x64, 24, 8, 0, 0⟩
def GLB.FAULT_LAST.OFFSET : Field := ⟨0x64, 0, 24, 0, 0⟩
def GLB.FAULT_LAST.base : Nat := 0x64

/-! GLB.CRC_CTRL, 16_register_interface.md, line 345. -/
def GLB.CRC_CTRL.STALE : Field := ⟨0x70, 2, 1, 0, 0⟩
def GLB.CRC_CTRL.ACTIVE : Field := ⟨0x70, 1, 1, 0, 0⟩
def GLB.CRC_CTRL.COMMIT : Field := ⟨0x70, 0, 1, 0, 0⟩
def GLB.CRC_CTRL.base : Nat := 0x70

/-! GLB.CRC_NOW, 16_register_interface.md, line 354. -/
def GLB.CRC_NOW.CRC : Field := ⟨0x74, 0, 32, 0, 0⟩
def GLB.CRC_NOW.base : Nat := 0x74

/-! GLB.CRC_REF, 16_register_interface.md, line 360. -/
def GLB.CRC_REF.CRC : Field := ⟨0x78, 0, 32, 0, 0⟩
def GLB.CRC_REF.base : Nat := 0x78

/-! GLB.SCRUB, 16_register_interface.md, line 366. -/
def GLB.SCRUB.PASSES : Field := ⟨0x80, 16, 16, 0, 0⟩
def GLB.SCRUB.base : Nat := 0x80

/-! HLT.EVENT, 17_health_log.md, line 262. -/
def HLT.EVENT.SEQ : Field := ⟨0xd00000, 24, 8, 0, 0⟩
def HLT.EVENT.SNAP_DONE : Field := ⟨0xd00000, 8, 1, 0, 0⟩
def HLT.EVENT.CTR_OVF : Field := ⟨0xd00000, 7, 1, 0, 0⟩
def HLT.EVENT.PATCH_FULL : Field := ⟨0xd00000, 6, 1, 0, 0⟩
def HLT.EVENT.FATAL_DROP : Field := ⟨0xd00000, 5, 1, 0, 0⟩
def HLT.EVENT.LOG_FULL : Field := ⟨0xd00000, 4, 1, 0, 0⟩
def HLT.EVENT.SHED : Field := ⟨0xd00000, 3, 1, 0, 0⟩
def HLT.EVENT.MC_LOST : Field := ⟨0xd00000, 2, 1, 0, 0⟩
def HLT.EVENT.TAKEOVER : Field := ⟨0xd00000, 1, 1, 0, 0⟩
def HLT.EVENT.CFG_ERR : Field := ⟨0xd00000, 0, 1, 0, 0⟩
def HLT.EVENT.base : Nat := 0xd00000

/-! HLT.CTR_CMD, 17_health_log.md, line 278. -/
def HLT.CTR_CMD.CLEAR_ALL : Field := ⟨0xd00004, 1, 1, 0, 0⟩
def HLT.CTR_CMD.SNAP : Field := ⟨0xd00004, 0, 1, 0, 0⟩
def HLT.CTR_CMD.base : Nat := 0xd00004

/-! HLT.CTR_STAT, 17_health_log.md, line 286. -/
def HLT.CTR_STAT.SNAP_PEND : Field := ⟨0xd00008, 31, 1, 0, 0⟩
def HLT.CTR_STAT.WRAPS : Field := ⟨0xd00008, 0, 8, 0, 0⟩
def HLT.CTR_STAT.base : Nat := 0xd00008

/-! HLT.LOG_CFG, 17_health_log.md, line 294. -/
def HLT.LOG_CFG.FLUSH_S : Field := ⟨0xd00010, 16, 16, 0, 0x3c⟩
def HLT.LOG_CFG.FILL_PCT : Field := ⟨0xd00010, 8, 8, 0, 0x50⟩
def HLT.LOG_CFG.MIN_SEV : Field := ⟨0xd00010, 0, 2, 0, 0⟩
def HLT.LOG_CFG.base : Nat := 0xd00010

/-! HLT.LOG_CMD, 17_health_log.md, line 303. -/
def HLT.LOG_CMD.DUMP : Field := ⟨0xd00014, 1, 1, 0, 0⟩
def HLT.LOG_CMD.FLUSH : Field := ⟨0xd00014, 0, 1, 0, 0⟩
def HLT.LOG_CMD.base : Nat := 0xd00014

/-! HLT.LOG_STAT, 17_health_log.md, line 311. -/
def HLT.LOG_STAT.STAGE_PCT : Field := ⟨0xd00018, 24, 8, 0, 0⟩
def HLT.LOG_STAT.DUMP_BUSY : Field := ⟨0xd00018, 23, 1, 0, 0⟩
def HLT.LOG_STAT.FLUSH_BUSY : Field := ⟨0xd00018, 22, 1, 0, 0⟩
def HLT.LOG_STAT.FULL : Field := ⟨0xd00018, 21, 1, 0, 0⟩
def HLT.LOG_STAT.NVM_RECORDS : Field := ⟨0xd00018, 0, 17, 0, 0⟩
def HLT.LOG_STAT.base : Nat := 0xd00018

/-! HLT.LOG_COUNTS, 17_health_log.md, line 322. -/
def HLT.LOG_COUNTS.MERGED : Field := ⟨0xd00020, 96, 32, 0, 0⟩
def HLT.LOG_COUNTS.OVERWRITTEN : Field := ⟨0xd00020, 64, 32, 0, 0⟩
def HLT.LOG_COUNTS.DROPPED : Field := ⟨0xd00020, 32, 32, 0, 0⟩
def HLT.LOG_COUNTS.FATAL_DROP : Field := ⟨0xd00020, 0, 32, 0, 0⟩
def HLT.LOG_COUNTS.base : Nat := 0xd00020

/-! HLT.DUMP_LO, 17_health_log.md, line 331. -/
def HLT.DUMP_LO.ADDR : Field := ⟨0xd00030, 0, 32, 0, 0⟩
def HLT.DUMP_LO.base : Nat := 0xd00030

/-! HLT.DUMP_HI, 17_health_log.md, line 337. -/
def HLT.DUMP_HI.ADDR : Field := ⟨0xd00034, 0, 16, 0, 0⟩
def HLT.DUMP_HI.base : Nat := 0xd00034

/-! HLT.DUMP_STAT, 17_health_log.md, line 344. -/
def HLT.DUMP_STAT.BYTES : Field := ⟨0xd00038, 0, 32, 0, 0⟩
def HLT.DUMP_STAT.base : Nat := 0xd00038

/-! HLT.OPTIME, 17_health_log.md, line 350. -/
def HLT.OPTIME.MINUTES : Field := ⟨0xd00040, 0, 32, 0, 0⟩
def HLT.OPTIME.base : Nat := 0xd00040

/-! HLT.PWR_CYC, 17_health_log.md, line 356. -/
def HLT.PWR_CYC.COUNT : Field := ⟨0xd00044, 0, 24, 0, 0⟩
def HLT.PWR_CYC.base : Nat := 0xd00044

/-! HLT.MC_CFG, 17_health_log.md, line 363. -/
def HLT.MC_CFG.SHED_ON : Field := ⟨0xd00050, 8, 8, 0, 0x5a⟩
def HLT.MC_CFG.SHED_OFF : Field := ⟨0xd00050, 0, 8, 0, 0x46⟩
def HLT.MC_CFG.base : Nat := 0xd00050

/-! HLT.MC_LOAD, 17_health_log.md, line 371. -/
def HLT.MC_LOAD.ACTIVE : Field := ⟨0xd00054, 31, 1, 0, 0⟩
def HLT.MC_LOAD.MC1_AVAIL : Field := ⟨0xd00054, 30, 1, 0, 0⟩
def HLT.MC_LOAD.SHED_E : Field := ⟨0xd00054, 29, 1, 0, 0⟩
def HLT.MC_LOAD.SHED_D : Field := ⟨0xd00054, 28, 1, 0, 0⟩
def HLT.MC_LOAD.PEAK : Field := ⟨0xd00054, 16, 8, 0, 0⟩
def HLT.MC_LOAD.A_TO_C : Field := ⟨0xd00054, 8, 8, 0, 0⟩
def HLT.MC_LOAD.LOAD : Field := ⟨0xd00054, 0, 8, 0, 0⟩
def HLT.MC_LOAD.base : Nat := 0xd00054

/-! HLT.MC_SHED, 17_health_log.md, line 384. -/
def HLT.MC_SHED.D_DEFERRED : Field := ⟨0xd00060, 32, 32, 0, 0⟩
def HLT.MC_SHED.E_DEFERRED : Field := ⟨0xd00060, 0, 32, 0, 0⟩
def HLT.MC_SHED.base : Nat := 0xd00060

/-! HLT.TEL_CFG, 17_health_log.md, line 392. -/
def HLT.TEL_CFG.EN : Field := ⟨0xd00070, 31, 1, 0, 0⟩
def HLT.TEL_CFG.PERIOD : Field := ⟨0xd00070, 0, 16, 0, 0x3e8⟩
def HLT.TEL_CFG.base : Nat := 0xd00070

/-! HLT.PATCH_STAT, 17_health_log.md, line 400. -/
def HLT.PATCH_STAT.GEN : Field := ⟨0xd00080, 16, 16, 0, 0⟩
def HLT.PATCH_STAT.FULL : Field := ⟨0xd00080, 15, 1, 0, 0⟩
def HLT.PATCH_STAT.ENTRIES : Field := ⟨0xd00080, 0, 14, 0, 0⟩
def HLT.PATCH_STAT.base : Nat := 0xd00080

/-! HLT.PATCH_NOTE, 17_health_log.md, line 409. -/
def HLT.PATCH_NOTE.NODE : Field := ⟨0xd00084, 16, 12, 0, 0⟩
def HLT.PATCH_NOTE.ADD : Field := ⟨0xd00084, 0, 1, 0, 0⟩
def HLT.PATCH_NOTE.base : Nat := 0xd00084

/-! HLT.CTR<n>_CFG, 17_health_log.md, line 418. -/
def HLT.CTR_CFG.EN (n : Nat) : Field := ⟨0xd00100 + 0x4 * n, 31, 1, 0, 0⟩
def HLT.CTR_CFG.SRC (n : Nat) : Field := ⟨0xd00100 + 0x4 * n, 16, 12, 0, 0⟩
def HLT.CTR_CFG.INST (n : Nat) : Field := ⟨0xd00100 + 0x4 * n, 0, 16, 0, 0⟩
def HLT.CTR_CFG.base : Nat := 0xd00100

/-! HLT.CTR<n>, 17_health_log.md, line 427. -/
def HLT.CTR.OVF (n : Nat) : Field := ⟨0xd01000 + 0x10 * n, 63, 1, 0, 0⟩
def HLT.CTR.COUNT (n : Nat) : Field := ⟨0xd01000 + 0x10 * n, 0, 48, 0, 0⟩
def HLT.CTR.base : Nat := 0xd01000

/-! HLT.SNAP<n>, 17_health_log.md, line 436. -/
def HLT.SNAP.OVF (n : Nat) : Field := ⟨0xd02000 + 0x10 * n, 63, 1, 0, 0⟩
def HLT.SNAP.COUNT (n : Nat) : Field := ⟨0xd02000 + 0x10 * n, 0, 48, 0, 0⟩
def HLT.SNAP.base : Nat := 0xd02000

end Sys2Proof
end

