-- ==== Sys2Proof/Machine/BookTypes.lean ====
section
/-! DEFINITION. The plain data of the Pattern Book, the slot store, and the slots on their way in and out
(04_pattern_book.md, 05_colour_ports.md). -/
namespace Sys2Proof.Machine
open Sys2Proof

/-- One leaf of the Pattern Book (R91): its entries, and those whose check byte is wrong beyond correction. -/
structure Leaf where
  entries  : Tbl Nat := []
  bad      : Tbl Nat := []
  loadFail : Bool := false
  deriving DecidableEq, Repr

/-- A payload in a queue's list (R114): a slot buffer, or relay pockets with the payload's bytes; its length and
its commit instant. -/
inductive Payload
  | buffer (b len time : Nat)
  | relay (pockets : List Nat) (bytes : List Byte) (time : Nat)
  deriving DecidableEq, Repr

/-- A load from memory in progress (R104): the next entry, how many are left, the device address. -/
structure LeafLoad where
  index : Nat
  left  : Nat
  addr  : Nat
  deriving DecidableEq, Repr

/-- The outcome fixed for a link's transmit half at cut-off (R87, R118): nothing; a payload of a queue, on a ring
(OSEL's code; 15 on copper) and its colour; an idle slot; a forwarded stream of another link. -/
inductive TxAct
  | quiet
  | send (q ring colour : Nat) (p : Payload)
  | idle (q ring colour : Nat)
  | forward (src : Nat)
  deriving DecidableEq, Repr

/-- The action fixed for a link's receive half at cut-off: no claim; a claim executed as QUIET; a claim and the
sender it expects. -/
inductive RxAct
  | none
  | quiet
  | take (r : Nat) (peer : Nat)
  | fell (f : Nat) (peer : Nat)
  | relay (q : Nat) (peer : Nat)
  | transit (out : Nat)
  deriving DecidableEq, Repr

/-- A resolved slot (R87): what each link sends and receives in it, the links whose slot was ended early (R126), and
those whose receive claim has arrived, or has not, for good; of a fell claim, with its place in its stream fixed. -/
structure Plan where
  tx   : Tbl TxAct := []
  rx   : Tbl RxAct := []
  cut  : List Nat := []
  closed : List Nat := []
  deriving DecidableEq, Repr

/-- The slot header (R147, R270), its fields as numbers. -/
structure Header where
  ver     : Nat := 1
  src     : Nat := 0
  slot    : Nat := 0
  seam    : Nat := 0
  len     : Nat := 0
  queue   : Nat := 0
  loop    : Bool := false
  reply   : Bool := false
  probe   : Bool := false
  relayed : Bool := false
  idle    : Bool := false
  colour  : Nat := 0
  port    : Nat := 0
  qvalid  : Bool := false
  qecho   : Nat := 0
  deriving DecidableEq, Repr

/-- What a link sends in the slot that it has begun: the slot's number, OSEL's code (15 on copper), its header, its
payload, and the TRANSIT hops of a forwarded stream. A header or a byte that is none is of a codeword forwarded as it was
received, uncorrectable (R129). -/
structure Sent where
  slot    : Nat
  ring    : Nat
  head    : Option Header
  payload : List (Option Byte)
  hops    : Nat := 0
  deriving DecidableEq, Repr

/-- A slot being received under a claim: TRANSIT hops passed, its header, the next codeword, the place of its payload (a
ring entry, or the first element of a fell), the ring entry's write number, relay pockets, the payload bytes that wait
(none for those of an uncorrectable codeword), whether its operation has failed, whether it is dropped or has nothing
to deliver (`ended`), and whether an addition has set a flag (`flagged`). -/
structure Incoming where
  act     : RxAct
  hops    : Nat := 0
  head    : Option Header := none
  next    : Nat := 0
  target  : Nat := 0
  gen     : Nat := 0
  pocket  : List Nat := []
  bytes   : List (Option Byte) := []
  failed  : Bool := false
  ended   : Bool := false
  flagged : Bool := false
  deriving DecidableEq, Repr

/-- A fell slot whose header has been decoded (R368): the stream's base, length, format and stripe as it found them,
the elements by which it moves the cursor, and whether it adds its payload. -/
structure FellShot where
  base : Nat
  len  : Nat
  fmt  : Nat
  per  : Nat
  adv  : Nat
  adds : Bool
  deriving DecidableEq, Repr

/-- The Pattern Book's and the slot store's state. -/
structure Book where
  worn    : Leaf := {}
  table   : Leaf := {}
  load    : Option LeafLoad := none
  swAt    : Nat := 0                     -- N of the last arm
  missed  : Option Nat := none           -- R111 applies from this slot on
  bufs    : Tbl Buf := []                -- by 8·queue + buffer
  queues  : Tbl (List Payload) := []     -- by queue, oldest first
  pockets : List Nat := []               -- pockets in use
  plans   : Tbl Plan := []               -- resolved slots that have not ended, by number
  sent    : Tbl Sent := []               -- by link
  rx      : Tbl Incoming := []           -- by 32·slot + link
  shots   : Tbl FellShot := []           -- of fell claims, by 32·slot + link
  deriving DecidableEq, Repr

end Sys2Proof.Machine
end

