-- ==== Sys2Proof/Machine/ComputeTypes.lean ====
section
/-! DEFINITION. The plain data of the clusters, of jobs and the gather tree, and of copies, receive rings and fell
streams (10_clusters.md, 11_cluster_instructions.md, 12_memory_movement.md). -/
namespace Sys2Proof.Machine
open Sys2Proof

/-- What a program waits for (R315, R339-R344, R364). -/
inductive WaitKind
  | hallTime | barrier | buffer | ring | tag | fell | commit | ended | tagFull | engines
  deriving DecidableEq, Repr

/-- A wait: its kind, the instruction that waits, its own instant to end at, and when it began. -/
structure Wait where
  kind  : WaitKind
  word  : BitVec 64
  until_ : Option Nat
  since : Nat
  deriving DecidableEq, Repr

/-- A PUT or a GET on its way (R324, R339). `counted`: it still counts under its tag (R347). `pos`: bytes moved so
far, where it goes over the Urdal link; `failed`: it has failed. -/
structure Xfer where
  id      : Nat
  tag     : Nat
  put     : Bool
  loc     : Nat
  dev     : Nat
  len     : Nat
  counted : Bool
  pos     : Nat := 0
  failed  : Bool := false
  deriving DecidableEq, Repr

/-- A claim of a receive-ring entry (R366): its device address, ring, entry, and the entry's write number when it was
claimed. -/
structure Claim where
  addr : Nat
  ring : Nat
  idx  : Nat
  gen  : Nat
  deriving DecidableEq, Repr

/-- One physical cluster. Register files are sparse tables: V by 64·r + lane, T by 2,048·t + 64·m + n, A and P by
number; what an entry that is not listed holds, `epoch` says as in `Mem`. -/
structure Cluster where
  epoch   : Nat := 0
  v       : Tbl Lane := []
  t       : Tbl Lane := []
  a       : Tbl AWord := []
  p       : Tbl Pred := []
  sram    : Mem := {}
  store   : Tbl (BitVec 64) := []     -- instruction store
  filled  : Bool := false             -- the loader has written every index of it (R345)
  pc      : Nat := 0                  -- the next instruction
  wait    : Option Wait := none
  fails   : Tbl Nat := []             -- failed operations by tag since the last drain (R340)
  xfers   : List Xfer := []           -- oldest first
  serial  : Nat := 0                  -- the next one's number
  handles : List (Nat × Nat) := []    -- send queue and buffer
  lostHnd : List (Nat × Nat) := []    -- handles that a FABRIC reset freed (R348)
  claims  : List Claim := []
  shake   : Nat := 0                  -- the last handshake (R316)
  stage   : Nat := 0                  -- ramp stage, 0 none (R317)
  t0      : Nat := 0                  -- start hall time of its job, ns
  rowHits : Tbl Nat := []             -- corrected reads by SRAM row (R301)
  rowMark : List Nat := []            -- marked rows, not yet repaired
  spared  : Tbl Nat := []             -- repairs by bank
  deriving DecidableEq, Repr

/-- A job barrier (R342): its number, GRED's operation, and the arrivals by physical cluster. -/
structure Barrier where
  num  : Nat
  op   : Option Nat
  came : Tbl Nat := []
  deriving DecidableEq, Repr

/-- Where a submission on a trigger stands (R400): its image loading, armed, running. -/
inductive JobStage
  | free | loading | armed | running
  deriving DecidableEq, Repr

/-- One job-start trigger and its job. Masks and vectors are 2,048-bit words by logical number (R375, R398). -/
structure Job where
  stage   : JobStage := .free
  mask    : Nat := 0
  start   : Nat := 0                  -- t0, T_ns
  image   : Nat := 0
  group   : Nat := 0
  entry   : Nat := 0                  -- calendar index
  eaddr   : Nat := 0
  eseq    : Nat := 0
  skipped : List Nat := []            -- logical clusters not loaded (R346)
  done    : Nat := 0
  bad     : Nat := 0
  codes   : Tbl Nat := []             -- token codes that are not OK, by logical number
  opfail  : Bool := false             -- R374
  barrier : Option Barrier := none
  deriving DecidableEq, Repr

/-- A CPY descriptor queued at a die engine: the cluster, the tag, its 64 bytes. -/
structure DieCopy where
  cluster : Nat
  tag     : Nat
  counted : Bool
  desc    : List Byte
  deriving DecidableEq, Repr

/-- The result codes of a copy (R362). -/
inductive CopyCode
  | ok | invalid | range | uncorr | link | aborted
  deriving DecidableEq, Repr

/-- A code's number. -/
def CopyCode.num : CopyCode → Nat
  | .ok => 0
  | .invalid => 1
  | .range => 2
  | .uncorr => 3
  | .link => 4
  | .aborted => 5

/-- One copy engine (R364), by CPY.SEL's number: a die engine's queue, whose first descriptor runs; and of the copy
that runs: its descriptor's bytes, whether its read failed, its buffer (QUEUE), the bytes moved over the Urdal link
so far and a code it is bound to end with. -/
structure Engine where
  queue : List DieCopy := []
  cur   : Option (List Byte) := none
  held  : Option (Nat × Nat) := none
  pos   : Nat := 0
  code  : Option CopyCode := none
  deriving DecidableEq, Repr

/-- The state of a ring entry (R366). -/
inductive EntryUse
  | written | claimed
  deriving DecidableEq, Repr

/-- A ring entry that is not FREE, with its write number. -/
structure RingEntry where
  use : EntryUse
  gen : Nat
  deriving DecidableEq, Repr

/-- A receive ring's hidden part: its entries, the position of the next write, and the write number. -/
structure Ring where
  entries : Tbl RingEntry := []
  pos     : Nat := 0
  gen     : Nat := 0
  deriving DecidableEq, Repr

/-- A completion record (R373), as its 128 bits. -/
abbrev Record := Nat

/-- The compute side's state. -/
structure Compute where
  clusters : Tbl Cluster := []        -- by physical number
  jobs     : Tbl Job := []            -- by trigger
  engines  : Tbl Engine := []
  rings    : Tbl Ring := []
  records  : List Record := []        -- GTH's FIFO, oldest first
  stalled  : List Record := []        -- records waiting in the tree
  lpddr    : Mem := {}
  rowHits  : Tbl Nat := []            -- corrected reads by LPDDR5 row since COLD (R356)
  rowMark  : List (Nat × Nat) := []   -- marked rows not yet repaired, with their channel
  vacant   : Tbl Nat := []            -- logical numbers without a cluster, and the physical one that left (R319)
  scrub    : Nat := 0                 -- the patrol scrubber's next block (R355)
  deriving DecidableEq, Repr

end Sys2Proof.Machine
end

