-- ==== Sys2Proof/Machine/BootTypes.lean ====
section
/-! DEFINITION. The plain data of power, boot, the bench chain, resets and the management cores (14_package_power.md,
15_boot_cutting_list.md, 17_health_log.md, 18_firmware_identity.md). -/
namespace Sys2Proof.Machine
open Sys2Proof

/-- A transfer between a management core and a device address: whether it writes, the address, its length, the bytes to
write or read so far, and how far it has come where it goes over the Urdal link. -/
structure Move where
  write  : Bool
  addr   : Nat
  len    : Nat
  data   : List Byte := []
  pos    : Nat := 0
  failed : Bool := false
  deriving DecidableEq, Repr

/-- What NVM and the fuses hold beside the calibration copies, the event log and the patch map (R439, R449): the firmware
and cutting-list slots, as their first bytes (what lies beyond reads erased), and the fused operator key digest. -/
structure Nvm where
  fw0   : List Byte := []
  fw1   : List Byte := []
  cl0   : List Byte := []
  cl1   : List Byte := []
  opKey : Option (List Byte) := none
  deriving DecidableEq, Repr

/-- Power and boot (R417, R430-R453). -/
structure Boot where
  pwrOk   : Bool := false             -- PWR_OK is high
  waits   : Bool := false             -- its rise waits for PKG_RESET_N (R417)
  good    : Bool := false             -- it has released the main domain
  rstLow  : Bool := false             -- PKG_RESET_N is low
  strapAt : Nat := 0                  -- when the straps were sampled (R435)
  nvmOk   : Bool := false             -- NVM has been discovered in this boot (R438)
  clBad   : Option Nat := none        -- the cutting-list slot found invalid in this boot
  fwBad   : Option (Nat × Nat) := none  -- the firmware slot refused in this boot, and the check it failed
  erase   : Option Nat := none        -- the firmware slot marked for erasure (R512)
  list    : List Byte := []           -- the cutting list of this boot, accepted in PHASE 3
  memOk   : Bool := false             -- LPDDR5 has been initialised since COLD
  nvmFrom : Nat := 0                  -- when PHASE 2 and PHASE 6 began (BOOT.TIMES)
  upFrom  : Nat := 0
  lockAt  : Nat := 0                  -- when BRINGUP completed (R452)
  cold    : Bool := false             -- the boot in progress follows COLD
  missed  : List (Nat × Job) := []    -- jobs to report MISSED, RESET after boot (R407)
  deriving DecidableEq, Repr

/-- Power and heat (R421-R427). -/
structure Power where
  toDark  : Option Bool := none       -- DARK is being entered: planned, or not
  seqErr  : Bool := false             -- R427's bits since COLD
  railErr : Bool := false
  trip    : Bool := false
  alert   : Bool := false             -- THERM_ALERT_N is asserted
  hot     : List Nat := []            -- sensors at 115 degrees or more at the last sample (R425)
  sampled : Bool := false             -- a sample has been taken since COLD
  port    : List Byte := []           -- what the last read of the thermal port returned
  deriving DecidableEq, Repr

/-- The bench chain (R431-R437). -/
structure Chain where
  applied : Tbl Nat := []             -- the last SEQ applied, by SRC
  seq     : Nat := 0                  -- SEQ of the next frame of its own
  mine    : Option (Nat × Nat) := none  -- its frame that is out: SEQ and when it was sent
  sent    : List (List Byte) := []    -- the frames that the last command to send any put on CHAIN_OUT
  deriving DecidableEq, Repr

/-- An alteration being written (R516, R517): the request's SEQ, whether it makes a cutting list, and the result. -/
structure Alter where
  seq  : Nat
  list : Bool
  out  : List Byte
  deriving DecidableEq, Repr

/-- The service lines (R513). -/
structure Svc where
  last   : Option Nat := none         -- the last SEQ handled; none: the next one read is taken as handled
  due    : Option (List Byte) := none -- a new request, not yet handled
  fetch  : Option (List Byte) := none -- the ALTER request whose alteration is being read
  alter  : Option Alter := none
  result : Option (Nat × Nat × Nat) := none  -- SEQ, CMD and LEN of an ATTEST or CERT being written
  deriving DecidableEq, Repr

/-- Recovery (R519-R521): SEQ of the last header handled, whether the chain path has stopped, the chain's image by
offset, its GEN, when each request outstanding was sent, and an image to be installed with the path it came by. -/
structure Recov where
  seq    : Option Nat := none
  urdal  : Bool := false
  gen    : Option Nat := none
  got    : Tbl (List Byte) := []
  asked  : Tbl Nat := []
  image  : Option (List Byte) := none
  deriving DecidableEq, Repr

/-- The package's system state that no register shows. -/
structure Sys where
  vaux   : Bool := false              -- VAUX is in range
  reset  : Option Nat := none         -- the reset in progress: 0 COLD, 1 WARM, 2 FABRIC, 3 COMPUTE
  bad    : List (Nat × Nat) := []     -- bytes of registers whose parity is wrong (R479): offset and instance
  found  : List (Nat × Nat) := []     -- registers whose mismatch has been found, until a write restores their parity
  held   : List (Nat × Nat) := []     -- registers whose fault holds their block in its safe state (R480, R481)
  recheck : List Nat := []            -- blocks whose re-check is under way (R481)
  crcSoft : Nat := 0                  -- what software writes have changed in the CRC since CRC_NOW was computed (R483)
  posted : Tbl (Nat × Nat) := []      -- posted writes on their way, by edge die: offset and value (R472)
  moves  : Tbl Move := []             -- the management cores' transfers, by purpose
  mc0    : Bool := false              -- the firmware runs (R526)
  mcFail : Option Nat := none         -- when MC0 failed, until MC1 has taken over (R501)
  mcLost : Bool := false              -- both management cores have failed (R502)
  recUl  : Bool := false              -- the Urdal link is up for recovery (R519)
  checked : Nat := 0                  -- the last completed self-check (R501)
  calm   : Nat := 0                   -- windows in a row below SHED_OFF (R500)
  snapAt : Nat := 0                   -- when the pending snapshot was written (R489)
  telAt  : Nat := 0                   -- the last telemetry tick (R506)
  fatal  : Bool := false              -- a FATAL event has been logged since COLD (R427)
  nvm    : Nvm := {}
  boot   : Boot := {}
  power  : Power := {}
  chain  : Chain := {}
  svc    : Svc := {}
  recov  : Recov := {}
  deriving DecidableEq, Repr

end Sys2Proof.Machine
end

