-- ==== Sys2Proof/Machine/FabricTypes.lean ====
section
/-! DEFINITION. The plain data of the optical ports, the Jig, re-cabling and the laser sources, calibration and the
copper links (05_colour_ports.md to 09_copper_bench.md), and of what the cutting list holds for them (R442). Heater
powers are in units of 2^-20 uW, frequencies in units of 2^-10 MHz. -/
namespace Sys2Proof.Machine
open Sys2Proof

/-- Who sits at a router index (R442): the port and its node. -/
structure Site where
  port : Nat
  node : Nat
  deriving DecidableEq, Repr

/-- The cutting list's entries that no register holds (R442, R448): sites by 32·router + index, flight times by
1,024·router + 32·sender + receiver, copper flight times by link; both in 2^-16 ns. -/
structure CutList where
  sites    : Tbl Site := []
  flight   : Tbl Nat := []
  cuFlight : Tbl Nat := []
  digest   : Nat := 0               -- the cutting list's SHA-384 digest, its first byte lowest
  mac      : Nat := 0               -- the node head's MAC and IPv4 addresses of the time ports (R81, R442)
  ip       : Nat := 0
  deriving DecidableEq, Repr

/-! ### Optical ports -/

/-- What a port knows of one sender index (R145, R153, R159, R230). -/
structure Pair where
  fails    : Nat := 0                   -- claims in a row without framing
  dark     : Nat := 0                   -- claims in a row without a framed slot
  bits     : List (Nat × Nat × Nat) := []  -- frame, bits received, bits changed; newest first, at most 16
  framedAt : Option Nat := none         -- frame of the last framed slot
  echoAt   : Option Nat := none         -- frame of the last echo
  told     : Bool := false              -- its loss has been reported (R230)
  deriving DecidableEq, Repr

/-- A colour probe (R160, R161): the port and ring it leaves from, its nonce, the slot in which it was asked for, the
slot it was sent in, and the index its colour reaches. -/
structure Probe where
  port  : Nat
  ring  : Nat
  nonce : Nat
  since : Nat
  sent  : Option Nat := none
  dest  : Nat := 0
  loop  : Bool := false
  deriving DecidableEq, Repr

/-! ### The Jig -/

/-- A decision of the ring table (R187) that takes effect at the next cycle boundary. -/
inductive Due
  | jumpDone | lock | capLimit | unlock | winFail | clampFault | sweepPeak | sweepMax | mislockNext
  deriving DecidableEq, Repr

/-- The commands of JIG.L_CMD, MC0's own relock jump (R187, R196), and a probe's MISMATCH (R190). -/
inductive RingCmd
  | hold | release | jump | sweep | reset | relock | mislock
  deriving DecidableEq, Repr

/-- A ring's calibration (R238, R245): P_CAL by colour where valid, eta in 0.01 MHz per uW, P_PARK, the slope at the
park detuning and the two gains in units of 2^-10, and the peak charge. -/
structure LoopCal where
  pcal  : Tbl Nat := []
  eta   : Nat := 0
  park  : Nat := 0
  slope : Int := 0
  gOn   : Int := 0
  gOff  : Int := 0
  peak  : Nat := 0
  eta0  : Nat := 0
  deriving DecidableEq, Repr

/-- One ring loop (R179-R193). -/
structure Loop where
  cal     : LoopCal := {}
  d       : Int := 0              -- own demand
  integ   : Int := 0              -- I
  err     : Int := 0              -- e
  out     : Nat := 0              -- output after the matrix and the clamp
  cyc     : Nat := 0              -- cycles in the present state
  lockRun : Nat := 0
  outRun  : Nat := 0              -- cycles beyond UNLOCK_WIN
  winRun  : Nat := 0              -- cycles with the window test failing
  clampRun : Nat := 0
  peaks   : Nat := 0              -- drop peaks passed
  charge  : Nat := 0              -- the OFF bin's charge of the last cycle
  hist    : List LoopMeas := []   -- what the last cycles measured, newest first, at most 100 (R177)
  past    : List Int := []        -- the demands of the last three computations, newest first
  rising  : Bool := false         -- it was rising
  code    : Nat := 0              -- the DAC code applied
  mis     : Nat := 0              -- MISLOCKS, not saturated
  lockedAt : Nat := 0
  tries   : Nat := 0              -- verification probes sent since it locked
  asked   : Bool := false         -- verification has ended without success
  due     : Option Due := none
  cmd     : Option RingCmd := none -- a command that waits for the next cycle boundary
  deriving DecidableEq, Repr

/-- The Jig's state that no register shows. -/
structure Jig where
  loops   : Tbl Loop := []
  since   : Option Nat := none    -- the first cycle boundary since it began to run
  edge    : Option Nat := none    -- the last one
  started : Nat × Nat := (0, 0)   -- the last conversion started: its cycle and its number in it, from 1
  arrived : Nat × Nat := (0, 0)   -- the last whose results have arrived
  done    : Option Nat := none    -- the boundary for which a computation is ready
  fA      : Int := 0              -- f_trk of source A
  fB      : Int := 0
  cm      : Tbl Int := []         -- CM_e by engine
  cmat    : Nat := 0              -- engines with a commit waiting (R184)
  takeovers : List Nat := []      -- ports whose B covers a ring by the Jig's own takeover
  release : Tbl Nat := []         -- ports whose covered ring is LOCKED: the boundary at which it locked
  verify  : Tbl Probe := []       -- verification probes under way, by port
  faulty  : List (Bool × Nat) := []  -- channels that faulted and are not yet replaced: monitor, loop
  deriving DecidableEq, Repr

/-! ### Re-cabling and the laser sources -/

/-- One laser source (R219-R227). -/
structure Laser where
  warnRun  : Nat := 0               -- frame boundaries in a row at which either test of a level held
  spareRun : Nat := 0
  lostRun  : Nat := 0
  calmRun  : Nat := 0               -- frames with neither test of the level holding
  ready    : Bool := false          -- the module reports READY
  prewarm  : Bool := false          -- written over CMIS (R234)
  pilot    : Bool := false
  t0       : Nat := 0               -- when PREWARM was last written
  retryAt  : Option Nat := none
  ports    : List Nat := []         -- ports still to be measured, the one under way first
  begun    : Option Nat := none     -- when the measurement under way began
  offs     : List Int := []         -- offsets measured, MHz
  mean     : Int := 0               -- their mean, in units of 2^-10 MHz
  after    : Nat := 0               -- earliest start of the flip's window
  stepAt   : Option Nat := none     -- W of a flip whose f_trk step is due (R224)
  restart  : Option Nat := none     -- when f_trk restarts after a LOST flip (R226)
  lost     : List Nat := []         -- 8·port + index still refused FAULT (R226)
  jumped   : Bool := false          -- its rings have been told to jump after a LOST flip (R226)
  refRun   : Nat := 0               -- frames that the new tap references still average (R220)
  taps     : Tbl (Int × Nat) := []  -- by port: the sum of TX_TAP since the flip, and of how many frames
  deriving DecidableEq, Repr

/-- The re-cable's state that no register shows. -/
structure Recable where
  mislocks : Nat := 0               -- MISLOCK entries since R
  repl     : Tbl Nat := []          -- by port: the W ring whose replacement by S is in progress (R213-R215)
  marked   : List Nat := []         -- 8·port + ring that calibration has marked for replacement (R213, R253)
  deriving DecidableEq, Repr

/-! ### Calibration -/

/-- Who queued a unit (R241). -/
inductive Asker
  | command | temperature | interval
  deriving DecidableEq, Repr

/-- The group of a queued unit, in the order of R241. -/
def Asker.rank : Asker → Nat
  | .command => 0
  | .temperature => 1
  | .interval => 2

/-- A queued unit. -/
structure CalUnit where
  kind  : Nat
  unit  : Nat
  who   : Asker
  defer : Nat := 0
  deriving DecidableEq, Repr

/-- A unit that runs: the part of it that runs now (a loop of an ENGINE run, a lane of a PORT_CU run), whether that part
has begun, the first failing reason, and what a REFDLY run has averaged. -/
structure CalRun where
  item  : CalUnit
  part  : Nat := 0
  begun : Bool := false
  bad   : Nat := 0                  -- the first failing REASON; 0 none
  locking : Option Nat := none      -- when the calibrated ring jumped (R251, reason 11)
  old   : Option LoopCal := none    -- the values that a LOCK failure restores
  oldRh : Nat := 0
  oldPhi : Nat := 0
  oldCol : List (Nat × Nat) := []   -- by row
  held  : Bool := false             -- its ring is in HOLD for the run
  sum   : Rat := 0                  -- of e_ref,d + mean seam error over the usable frames (R249), 2^-16 ns
  used  : Nat := 0
  seen  : Nat := 0
  deriving DecidableEq, Repr

/-- A calibration image (R258): its generation, the cutting list's digest, and the accepted values of each unit by
4,096·kind + unit. -/
structure CalImage where
  gen    : Nat
  digest : Nat
  recs   : Tbl (List Int)
  deriving DecidableEq, Repr

/-- Calibration's state that no register shows (R238-R262). -/
structure Calib where
  queue   : List CalUnit := []
  opt     : Option CalRun := none
  cu      : Option CalRun := none
  lastAt  : Tbl Nat := []           -- last accepted run, by 4,096·kind + unit
  outAt   : Tbl Nat := []           -- last outcome, by 4,096·kind + unit
  cmAt    : Tbl Int := []           -- CM_e at the last accepted ENGINE run
  rejects : Tbl Nat := []           -- rejections in a row, by 4,096·kind + unit
  values  : Tbl (List Int) := []    -- accepted values, by 4,096·kind + unit
  copy0   : Option CalImage := none -- the copies in NVM (R259)
  copy1   : Option CalImage := none
  gen     : Nat := 0                -- GEN of the image in use
  image   : Option CalImage := none -- the image in use, as last loaded, restored or saved (R523)
  saveAt  : Option Nat := none      -- when the last save began
  saving  : Option CalImage := none -- the image being saved
  tdcDue  : Bool := false           -- the next copper trigger queues a TDC run
  waitTo  : Option Nat := none      -- when RESTORE_WAIT ends (R262)
  refs    : List Nat := []          -- ports whose power references this cutting list has set (R255)
  deriving DecidableEq, Repr

/-! ### Copper links -/

/-- A handover or a return of a logical lane (R279, R280). -/
structure Handover where
  lane  : Nat
  back  : Bool := false
  perm  : Bool := false
  mine  : Bool := false             -- this side asked
  moved : Bool := false             -- this side's receiver has switched, and ACK is sent
  deriving DecidableEq, Repr

/-- A copper link's state that no register shows. -/
structure CuLink where
  entered  : Nat := 0               -- when the present state was entered
  peer     : Option IdBlock := none -- the last valid identity block received
  fails    : Nat := 0               -- slots in a row that were not framed
  hov      : Option Handover := none
  loan     : Option Nat := none     -- the logical lane the spare carries for a run, or for the peer's
  lost     : List Nat := []         -- logical lanes that have lost lock in UP (R280)
  wornRun  : Tbl Nat := []          -- frames in a row with QRX or QLANE below 50, by physical lane
  told     : Bool := true           -- its loss has been reported, or it has not been UP (R230)
  bits     : Tbl (List (Nat × Nat × Nat)) := []  -- by physical lane: frame, bits received, bits changed
  deriving DecidableEq, Repr

/-- The fabric's state beside the Pattern Book's. -/
structure Fabric where
  cut     : CutList := {}
  dark    : Bool := false           -- the fabric is stopped (R228)
  pairs   : Tbl Pair := []          -- by 32·port + sender index
  probes  : Tbl Probe := []         -- software probes pending, by engine
  jig     : Jig := {}
  lasers  : Tbl Laser := []         -- 0 A, 1 B
  recable : Recable := {}
  cal     : Calib := {}
  cu      : Tbl CuLink := []
  noLoop  : List Nat := []          -- ports whose last colour-0 probe did not return LOOP (R218)
  claimed : List Nat := []          -- ports with a receive claim in this frame
  lit     : List Nat := []          -- ports that framed a slot in this frame
  sending : List Nat := []          -- ports that sent in this frame
  dead    : Tbl Nat := []           -- by port: frames in a row with claims and no framed slot
  failed  : List Nat := []          -- ports declared failed
  tapRef  : Tbl Int := []           -- by port: how far the transmit-tap reference has been moved (R220, R255), 0.01 dB
  rxRef   : Tbl Int := []           -- by port: how far the receive reference has been moved
  stopAt  : Option Nat := none      -- when a FATAL event that stops the fabric was logged (R228)
  deriving DecidableEq, Repr

end Sys2Proof.Machine
end

