-- ==== Sys2Proof/Machine/SystemTypes.lean ====
section
/-! DEFINITION. The plain data of the event recorder and of the notice lines (17_health_log.md, 13_urdal_link.md). -/
namespace Sys2Proof.Machine

/-- An event record (R491). Times in ns as T_ns; `detail` holds the DETAIL bytes. -/
structure LogRec where
  code    : Nat
  sev     : Nat
  notime  : Bool
  seq     : Nat
  opMin   : Nat
  pwrCyc  : Nat
  tFirst  : Nat
  tLast   : Nat
  repeats : Nat
  subject : Nat
  detail  : List Byte
  deriving DecidableEq, Repr

/-- The event recorder (R490-R497): staged records and those in NVM, oldest first. -/
structure Recorder where
  staging   : List LogRec := []
  nvm       : List LogRec := []
  nextSeq   : Nat := 0
  lastFlush : Nat := 0
  minutes   : Nat := 0                -- the operating minutes in NVM (R496)
  cycles    : Nat := 0                -- the power cycles in NVM
  deriving DecidableEq, Repr

/-- An entry of the patch map (R503, R504). -/
structure PatchEntry where
  kind   : Nat
  action : Nat
  unit   : Nat
  spare  : Nat
  opMin  : Nat
  deriving DecidableEq, Repr

/-- The patch map (R503-R505): the copy in NVM that boot would use, and changes on their way into it. -/
structure PatchMap where
  entries : List PatchEntry := []     -- oldest first
  gen     : Nat := 0
  waiting : List PatchEntry := []     -- oldest first
  deriving DecidableEq, Repr

/-- A notice (R402): the class's count of composed notices in the epoch, its body, the time it was composed, and
whether it still waits to be written (R403). -/
structure Notice where
  seq  : Nat := 0
  body : List Byte := []
  time : Nat := 0
  held : Bool := false
  deriving DecidableEq, Repr

/-- A mailbox sample on its way (R469): the register's offset, its value, and whether it is to end ERR (R470). -/
structure Sample where
  off  : Nat
  data : Nat
  err  : Bool
  deriving DecidableEq, Repr

end Sys2Proof.Machine
end

