-- ==== Sys2Proof/Machine/TimeTypes.lean ====
section
/-! DEFINITION. The plain data of hall time: the Gauge, its two domains, and the seam pairs (02_hall_time.md),
and time at the edges: pulse outputs, capture inputs and time ports (03_time_edges.md). -/
namespace Sys2Proof.Machine

/-- How the current frame of a domain has been judged so far (R41, R42). -/
inductive Verdict
  | none | good | miss
  deriving DecidableEq, Repr

/-- One reference domain (R40-R42). `goodRun` and `missRun` are the runs up to the frame before `frame`; `verdict`
judges `frame` itself. Times are in units of 2^-16 ns. -/
structure Domain where
  clk      : Bool := false        -- its REFCLK is present
  gap      : Bool := false        -- a gap of 100 ns or more since it last qualified
  ppmOk    : Bool := false        -- within 20 ppm, as last measured
  frame    : Nat := 0             -- the frame its edges are counted for
  edges    : Nat := 0             -- edges in that frame
  inWin    : List Nat := []       -- edges inside the capture window of that frame
  verdict  : Verdict := .none
  goodRun  : Nat := 0
  missRun  : Nat := 0
  lastEdge : Option Nat := none   -- the last edge of any kind
  residual : Option Int := none   -- last frame's captured time less boundary and delay, in window
  validRun : Nat := 0             -- frames valid without a break (R57)
  deriving DecidableEq, Repr

/-- What the DCO follows (R39). -/
inductive DcoSource
  | a | b | hold
  deriving DecidableEq, Repr

/-- One first seam word of a frame, as received (R49, R51): its frame, arrival less nominal departure and TX_RES,
both in units of 2^-12 ns. -/
structure SeamRx where
  frame : Nat
  delay : Int
  txRes : Int
  deriving DecidableEq, Repr

/-- One link pair (R51): own first words (frame, TX_RES), the peer's first words, the statistics of R52-R54. -/
structure Seam where
  tx       : List (Nat × Int) := []    -- newest first, at most 3
  rx       : List SeamRx := []         -- newest first, at most 3
  unsure   : Bool := false             -- UNSURE of the peer's last word
  held     : Bool := false             -- HELD of the peer's last word
  theta    : Int := 0                  -- units of 2^-16 ns
  hist     : List Int := []            -- D of the last 16 exchanges, newest first, 2^-16 ns
  exFrame  : Option Nat := none        -- frame in which the last exchange completed
  exRun    : Nat := 0                  -- frames in a row with an exchange (R53)
  rxFrame  : Option Nat := none        -- frame of the last word received
  used     : Bool := false             -- in use (R53) at the last frame boundary
  deriving DecidableEq, Repr

/-- The Gauge's state that no register shows (R38-R62). Errors are in units of 2^-16 ns. -/
structure Gauge where
  errSum   : Rat := 0                  -- the sum of e since entry to the gear (R44)
  eHist    : List Rat := []            -- e of the last 16 frames, newest first (R60)
  thHist   : List Rat := []            -- consensus of the last 16 frames, newest first (R60)
  yNext    : Option Int := none        -- computed y, waiting for its cycle boundary (R195)
  doneFor  : Option Nat := none        -- the frame the discipline was last computed for
  gearRun  : Nat := 0                  -- frames since entry to SETTLE (R46)
  stepOk   : Bool := false             -- a phase step is permitted at the next in-window pulse (R46)
  marked   : Bool := false             -- HOLDOVER marked as acquisition (R46)
  holdEst  : Nat := 0                  -- EST_ERR at entry to HOLDOVER, ps (R60)
  holdFrom : Nat := 0                  -- the instant of that entry (R60)
  optRun   : Nat := 0                  -- boundaries in a row at or below 150 ps (R62)
  cuRun    : Nat := 0                  -- boundaries in a row at or below 1,500 ps (R62)
  disRun   : Nat := 0                  -- frames in a row with e_ref beyond 2 ns (R47)
  disSeam  : Bool := true              -- and in all of them the seams agree with own time (R47)
  switchTo : Option Bool := none       -- domain switch waiting for the next frame boundary: true is B (R56)
  offs     : List Int := []            -- A's residual less B's, last 16 frames, newest first (R56)
  eRef     : Option Int := none        -- e_ref of the last frame that was computed
  theta    : Option Rat := none        -- the consensus at the last frame boundary
  links    : Nat := 0                  -- seam links in use
  linksOk  : Nat := 0                  -- those whose words have HELD = 0
  dco      : DcoSource := .hold
  domA     : Domain := {}
  domB     : Domain := {}
  seams    : Tbl Seam := []            -- by GAUGE.SEAM_IDX's encoding
  deriving DecidableEq, Repr

/-- A committed edge of a pulse output (R69): its instant, width in ns and polarity. -/
structure PulseEdge where
  time  : Nat
  width : Nat
  low   : Bool
  deriving DecidableEq, Repr

/-- One pulse output (R68-R73). -/
structure Pulse where
  committed : List PulseEdge := []     -- oldest first
  last      : Option Nat := none       -- the last grid point committed
  active    : Bool := false            -- the pin is at its active level
  low       : Bool := false            -- the polarity of the pulse in progress
  idleAt    : Nat := 0                 -- when the pulse in progress, or the last one, ends
  deriving DecidableEq, Repr

/-- A capture stamp (R74, R76). -/
structure Stamp where
  time  : Nat
  state : Nat
  deriving DecidableEq, Repr

/-- One capture input. -/
structure Capture where
  fifo : List Stamp := []              -- oldest first, at most 4
  last : Option Nat := none            -- the last stamped edge
  deriving DecidableEq, Repr

/-- A transmit stamp (R84). -/
structure TxStamp where
  time    : Nat
  msgType : Nat
  seqId   : Nat
  deriving DecidableEq, Repr

/-- One time port (R81-R84, R527). Master times are in units of 2^-16 ns. -/
structure TimePort where
  txq       : List TxStamp := []             -- oldest first, at most 8
  masters   : List (AnnounceMsg × Nat) := [] -- the last Announce of each sender, and its arrival
  parent    : Option Nat := none             -- the sender that was selected
  gm        : Option Nat := none             -- its grandmaster
  lastGm    : Option Nat := none             -- the last grandmaster that was selected
  sync      : Option (Nat × Nat) := none     -- a Sync waiting for its Follow_Up: sequenceId, receive stamp
  pair      : Option Int := none             -- receive stamp less origin, of the last completed pair
  dreq      : Option (Nat × Nat) := none     -- a Delay_Req waiting for its answer: sequenceId, stamp
  hasMpd    : Bool := false                  -- a meanPathDelay since the grandmaster was selected
  prov      : Option (Nat × Nat) := none     -- provisional time: master time and counter at the last sample
  lastOff   : Option Int := none             -- offset of the latest sample, none if it was void
  results   : List Bool := []                -- last 8 samples within 1 us, newest first
  lastPair  : Nat := 0                       -- when a pair or a void sample was last recorded
  ignored   : Nat := 0                       -- one-step Syncs ignored (R81)
  deriving DecidableEq, Repr

/-- The TIO block's state that no register shows. -/
structure Tio where
  pulses : Tbl Pulse := []
  caps   : Tbl Capture := []
  portA  : TimePort := {}
  portB  : TimePort := {}
  deriving DecidableEq, Repr

end Sys2Proof.Machine
end

