-- ==== Sys2Proof/Machine/UlkTypes.lean ====
section
/-! DEFINITION. The plain data of the Urdal link (13_urdal_link.md). -/
namespace Sys2Proof.Machine
open Sys2Proof

/-- A message (R387): OP, TAG, line address, ERR's reason, the byte mask of a write, and the bytes it carries. -/
structure Msg where
  op     : Nat
  tag    : Nat := 0
  addr   : Nat := 0
  reason : Nat := 0
  mask   : Nat := 0
  data   : List Byte := []
  deriving DecidableEq, Repr

/-- A directory entry (R391): OWNED or SHARED, and when it was allocated (R392). -/
structure DirEntry where
  owned : Bool
  order : Nat
  deriving DecidableEq, Repr

/-- A grant that waits for the recall of another line (R392). -/
structure Grant where
  line  : Nat
  tag   : Nat
  owned : Bool
  deriving DecidableEq, Repr

/-- An outstanding snoop of a line: SNP_INV or SNP_SH, its TAG, when it was sent, and the grants that wait for it. -/
structure Snoop where
  inv    : Bool
  tag    : Nat
  since  : Nat
  grants : List Grant := []
  taken  : Bool := false              -- a WB or EVICT of the line has crossed it (R393)
  deriving DecidableEq, Repr

/-- Who made a request to companion memory (R389). -/
inductive Owner
  | xfer (cluster : Nat) (id : Nat)    -- a PUT or GET, by its number
  | posted                            -- a write nothing waits for
  | engine (e : Nat)                  -- the copy an engine runs
  | load (index : Nat)                -- a leaf load; the entry
  | notice (cls : Nat)
  | service (id : Nat)                -- a management core's own transfer, by its purpose
  deriving DecidableEq, Repr

/-- An outstanding PRD or PWR, or one that waits for a tag. -/
structure PReq where
  write : Bool
  addr  : Nat
  len   : Nat
  who   : Owner
  data  : List Byte := []
  deriving DecidableEq, Repr

/-- An access of a scheduled slot that waits for a snoop (R393): bytes to write, or FP32 terms to add. -/
inductive Deferred
  | write (addr : Nat) (bytes : List Byte)
  | add (stream : Nat) (addr : Nat) (x : Lane)
  deriving DecidableEq, Repr

/-- A number for each of the four credit classes (R386). -/
structure Credits where
  req : Nat := 0
  snp : Nat := 0
  rsp : Nat := 0
  dat : Nat := 0
  deriving DecidableEq, Repr

/-- The link's state that no register shows. -/
structure Ulk where
  dir      : Tbl DirEntry := []       -- by line number
  grants   : Nat := 0                 -- allocations made, for their order
  snoops   : Tbl Snoop := []          -- by line number
  deferred : List Deferred := []      -- oldest first
  reqs     : Tbl PReq := []           -- outstanding, by tag
  waiting  : List PReq := []          -- waiting for a tag
  out      : List Msg := []           -- messages waiting for a credit or for room to replay
  replay   : List (Nat × Msg) := []   -- sent and not yet covered by an ACK, with their SEQ
  hand     : Credits := {}            -- credits in hand
  rxSeq    : Nat := 4095              -- SEQ of the last MSG flit accepted
  txSeq    : Nat := 4095              -- SEQ of the last MSG flit sent
  nakOut   : Bool := false            -- a NAK has been sent and the replay has not arrived
  nakRun   : Nat := 0                 -- NAKs without an ACK advancing
  entered  : Nat := 0                 -- when the present state was entered
  calSeq   : Tbl Nat := []            -- last SEQ handled, by calendar entry
  calWait  : List Nat := []           -- entries whose first line has arrived and waits for MC0
  deriving DecidableEq, Repr

end Sys2Proof.Machine
end

