-- ==== Sys2Proof/Machine/State.lean ====
section
/-! DEFINITION. The state of the package: plain data. Every register field has its one home in `regs`; what no
register shows stands in the parts beside it. INVENTORY.md lists each piece with its rule and reset value. -/
namespace Sys2Proof.Machine
open Sys2Proof

/-- Reasons for a stop with a fault. The spec gives every step of the block a state it leads to, so no meaning
answers one. -/
inductive Fault
  /-- Raised by nothing: kept so that a stop of the machine has a name. Safe. -/
  | stuck
  deriving DecidableEq, Repr

/-- Reasons for a refusal. -/
inductive Refusal
  /-- Raised by the dispatch for a command that has no meaning yet. Safe. -/
  | notModelled (mnemonic : String)
  deriving DecidableEq, Repr

/-- The state. -/
structure State where
  pending   : List Instr               -- the commands waiting, first in first out
  now       : Nat                      -- hall time, 2^-16 ns (R33); the free-running counter in FREE
  freeCount : Nat                      -- the model's own: how many free values have been drawn
  regs      : Tbl Nat                  -- register fields by key; one that is not listed holds its reset value (R13)
  shadow    : Tbl Nat                  -- the cutting-list shadow (R448), by the same keys
  wrote     : Tbl Nat                  -- W1 fields written since they were reopened (R477)
  asym      : Tbl Int                  -- the cutting list's path asymmetries by seam pair (R442), 2^-16 ns
  gauge     : Gauge
  tio       : Tio
  book      : Book
  fab       : Fabric
  sys       : Sys
  comp      : Compute
  ulk       : Ulk
  mbx       : Tbl Sample               -- mailbox samples on their way, by bank (R469)
  log       : Recorder
  notices   : Tbl Notice               -- by class (R402)
  patch     : PatchMap
  deriving DecidableEq, Repr

/-- The machine with COLD reset asserted (R13): every register at its header's value, hall time not set, every
buffer and queue empty. Log entries 1 to 4. Log: DESIGN CHOICE 1, 3, 4; DEDUCED 28. -/
def State.reset : State :=
  { pending := [], now := 0, freeCount := 0, regs := [], shadow := [], wrote := [],
    asym := [], gauge := {}, tio := {}, book := {}, fab := {}, sys := {}, comp := {}, ulk := {}, mbx := [], log := {}, notices := [], patch := {} }

end Sys2Proof.Machine
end

