-- ==== Sys2Proof/Machine/Ops.lean ====
section
/-! DEFINITION. The operations every chapter shares: reading and writing register fields, counting, time, raising
an event flag (R476), the event recorder (R490-R495) and composing a notice (R402). -/
namespace Sys2Proof.Machine
open Sys2Proof

/-! ### Register fields -/

/-- The value of a register field. -/
def State.rd (s : State) (f : Field) : Nat := Tbl.lookD s.regs f.reset f.key

/-- A register field written, cut to its width. -/
def State.wr (s : State) (f : Field) (v : Nat) : State :=
  { s with regs := Tbl.put s.regs f.reset f.key (v % 2 ^ f.width) }

/-- The signed value of a field. -/
def State.rdI (s : State) (f : Field) : Int := signedOf f.width (s.rd f)

/-- A field written with a signed value in two's complement. -/
def State.wrI (s : State) (f : Field) (v : Int) : State := s.wr f (toBits f.width v)

/-- A one-bit field as a truth value. -/
def State.on (s : State) (f : Field) : Bool := s.rd f != 0

/-- A one-bit field set or cleared. -/
def State.wrB (s : State) (f : Field) (b : Bool) : State := s.wr f (bit b)

/-- A counter advanced by one, modulo its width. -/
def State.bump (s : State) (f : Field) : State := s.wr f (s.rd f + 1)

/-- A counter advanced by `n`, modulo its width. -/
def State.bumpBy (s : State) (f : Field) (n : Nat) : State := s.wr f (s.rd f + n)

/-- A field written with a value that saturates at the largest it can hold. -/
def State.wrSat (s : State) (f : Field) (v : Nat) : State := s.wr f (min v (2 ^ f.width - 1))

/-- A field decreased by one, not below zero. -/
def State.dec (s : State) (f : Field) : State := s.wr f (s.rd f - 1)

/-! ### Free values -/

/-- The free value of the next draw, for the place `key`, and the state that has drawn it. Log entry 2.
Log: DESIGN CHOICE 2, 116. -/
def State.draw (s : State) (key : Nat) : Nat × State :=
  (Config.freeNat s.freeCount key, { s with freeCount := s.freeCount + 1 })

/-- The number of a fresh draw from which many places take a free value at once. -/
def State.drawMany (s : State) : Nat × State :=
  (s.freeCount, { s with freeCount := s.freeCount + 1 })

/-- A free integer: each is the value of some draw. -/
def anyInt (n : Nat) : Int := if n % 2 = 0 then n / 2 else -(n / 2) - 1

/-- An unsigned field that shows a number. What it shows of a number outside its range is not stated: a free value. -/
def State.showNum (s : State) (f : Field) (v : Int) : State :=
  if 0 ≤ v ∧ v < 2 ^ f.width then s.wr f v.toNat
  else let d := s.draw f.key; d.2.wr f d.1

/-- A signed field that shows a number, in the same way. -/
def State.showInt (s : State) (f : Field) (v : Int) : State :=
  if -(2 ^ (f.width - 1)) ≤ v ∧ v < 2 ^ (f.width - 1) then s.wrI f v
  else let d := s.draw f.key; d.2.wr f d.1

/-! ### Time (R33, R36) -/

/-- Time moved on to an instant; a command never moves it back. Log: DESIGN CHOICE 1, 121. -/
def State.advance (s : State) (t : Nat) : State := { s with now := max s.now t }

/-- Whole nanoseconds of a time. -/
def tns (t : Nat) : Nat := t / 65536

/-- The hall slot number of a time. -/
def slotOf (t : Nat) : Nat := t / Config.slotTime

/-- The hall frame number of a time. -/
def frameOf (t : Nat) : Nat := t / Config.frameTime

/-- The 128-bit layout of a hall time (R33). -/
def hallTime (t : Nat) : Nat :=
  tns t / 1000000000 * 2 ^ 64 + tns t % 1000000000 * 2 ^ 34 + t % 65536 * 2 ^ 18

/-- Hall time is set: the state is not FREE. -/
def State.timed (s : State) : Bool := s.rd GAUGE.STATUS.STATE != 0

/-! ### Bytes (R8) -/

/-- The `n` little-endian bytes of a number. -/
def leBytes : Nat → Nat → List Byte
  | 0, _ => []
  | n + 1, v => BitVec.ofNat 8 v :: leBytes n (v / 256)

/-- The number that little-endian bytes spell. -/
def ofLeBytes : List Byte → Nat
  | [] => 0
  | b :: r => b.toNat + 256 * ofLeBytes r

/-- The little-endian number of `n` bytes from an offset in a list of bytes; bytes past the end read zero. -/
def bytesAt (l : List Byte) (off n : Nat) : Nat := ofLeBytes ((l.drop off).take n)

/-- A list of bytes cut or extended with zeros to `n`. -/
def padTo (n : Nat) (l : List Byte) : List Byte := l.take n ++ List.replicate (n - l.length) 0

/-! ### Notices (R402, R403) -/

/-- The notice of a class. -/
def State.notice (s : State) (c : Nat) : Notice := Tbl.lookD s.notices {} c

/-- Classes that hold an unwritten notice. -/
def State.heldNotices (s : State) : Nat := (s.notices.filter (fun r => r.2.held)).length

/-- Compose a notice: the class's newest, held until it is written. -/
def State.compose (s : State) (c : Nat) (body : List Byte) : State :=
  let n : Notice := { seq := (s.notice c).seq + 1, body := padTo 48 body, time := tns s.now, held := true }
  let s := { s with notices := Tbl.put s.notices {} c n }
  s.wr ULK.NOTICE_STAT.PENDING s.heldNotices

/-! ### The event recorder (R490-R495) -/

/-- The block number of a CSR offset (R460). -/
def blockOf (off : Nat) : Nat :=
  if off < 0x200000 then off / 0x10000
  else if off < 0xA00000 then 32 + (off - 0x200000) / 0x100000
  else if off < 0xB00000 then 19
  else if off < 0xC00000 then 20
  else if off < 0xC10000 then 21
  else if off < 0xD00000 then 22
  else if off < 0xE00000 then 23
  else if off < 0xF00000 then 24
  else 25

/-- Bytes a record takes: 16 of header, 24 of fixed body, its DETAIL, 4 of trailer (R491). -/
def LogRec.size (r : LogRec) : Nat := 44 + r.detail.length

/-- Bytes a list of records takes. -/
def recBytes (l : List LogRec) : Nat := (l.map LogRec.size).sum

/-- The staging RAM, in bytes (R490). -/
def stagingBytes : Nat := 65536

/-- The event log's room in NVM: 1,023 sectors of 4 KiB, each less its 8-byte header (R494). Log entry 6.
Log: DEDUCED 6, 96. -/
def nvmLogBytes : Nat := 1023 * 4088

/-- Without the oldest record whose severity is at most `sev`; none where there is no such record, and never a
FATAL record (R495). -/
def dropOldest (sev : Nat) : List LogRec → Option (List LogRec)
  | [] => none
  | r :: l => if r.sev ≤ sev ∧ r.sev < 3 then some l else (dropOldest sev l).map (r :: ·)

/-- Room made for `need` bytes: the records left and how many were removed; none where the record still does not
fit (R495). Log: DEDUCED 6. -/
def makeRoom (cap need sev : Nat) : Nat → List LogRec → Option (List LogRec × Nat)
  | 0, l => if recBytes l + need ≤ cap then some (l, 0) else none
  | fuel + 1, l =>
    if recBytes l + need ≤ cap then some (l, 0)
    else (dropOldest sev l).bind fun l' => (makeRoom cap need sev fuel l').map fun p => (p.1, p.2 + 1)

/-- Records kept with lower-severity ones removed as far as they go, when no room can be made. -/
def purge (sev : Nat) (l : List LogRec) : List LogRec := l.filter (fun r => ¬ (r.sev ≤ sev ∧ r.sev < 3))

/-- The staging fill in per cent (HLT.LOG_STAT.STAGE_PCT). -/
def State.stageFill (s : State) : State :=
  s.wr HLT.LOG_STAT.STAGE_PCT (recBytes s.log.staging * 100 / stagingBytes)

/-- The body of a class 0 notice (R498). -/
def faultBody (r : LogRec) : List Byte :=
  leBytes 2 r.code ++ leBytes 1 (r.sev + 4 * bit r.notime) ++ leBytes 1 0 ++ leBytes 4 r.subject ++
  leBytes 8 r.tLast ++ leBytes 4 r.repeats ++ leBytes 4 r.seq ++ padTo 24 r.detail

/-- A flag of an SQ register set: SEQ advances by one, modulo 256, and the flag reads 1 (R476). Log: DEDUCED 45. -/
def State.setFlag (s : State) (f : Field) : State :=
  (s.wr f 1).bump ⟨f.off, 24, 8, f.inst, 0⟩

/-- A record that found no room: counted, flagged, and still sent as a notice (R495, R498). Log: DEDUCED 38. -/
def State.dropRecord (s : State) (r : LogRec) : State :=
  let s := if r.sev = 3 then (s.bump HLT.LOG_COUNTS.FATAL_DROP).setFlag HLT.EVENT.FATAL_DROP
           else s.bump HLT.LOG_COUNTS.DROPPED
  s.setFlag HLT.EVENT.LOG_FULL

/-- The severities of R491. -/
def sevInfo : Nat := 0
def sevWarning : Nat := 1
def sevError : Nat := 2
def sevFatal : Nat := 3

/-- Does an event merge into a record (R492)? -/
def LogRec.matches (r : LogRec) (code sev subject : Nat) (detail : List Byte) : Bool :=
  r.code == code && r.sev == sev && r.subject == subject && decide (r.detail = detail)

/-- A new record (R491). Log: DEDUCED 38. -/
def State.newRecord (s : State) (code sev subject : Nat) (detail : List Byte) : LogRec :=
  let st := s.rd GAUGE.STATUS.STATE
  { code := code, sev := sev, notime := st == 0 || st == 5, seq := s.log.nextSeq,
    opMin := s.rd HLT.OPTIME.MINUTES, pwrCyc := s.rd HLT.PWR_CYC.COUNT, tFirst := tns s.now,
    tLast := tns s.now, repeats := 0, subject := subject, detail := detail }

/-- The next record's SEQ, and the mark that a FATAL event leaves. -/
def State.numbered (s : State) (sev : Nat) : State :=
  let s := { s with log := { s.log with nextSeq := (s.log.nextSeq + 1) % 2 ^ 32 } }
  if sev = 3 then { s with sys := { s.sys with fatal := true } } else s

/-- The staging RAM's records replaced. -/
def State.setStaging (s : State) (l : List LogRec) : State := { s with log := { s.log with staging := l } }

/-- A record put into the staging RAM, where room is or can be made for it (R495). -/
def State.place (s : State) (r : LogRec) : State :=
  let old := s.log.staging
  match makeRoom stagingBytes r.size r.sev old.length old with
  | some (l, n) => (s.setStaging (l ++ [r])).bumpBy HLT.LOG_COUNTS.OVERWRITTEN n
  | none =>
    let l := purge r.sev old
    ((s.setStaging l).bumpBy HLT.LOG_COUNTS.OVERWRITTEN (old.length - l.length)).dropRecord r

/-- A new record staged, and the fault notice of an ERROR, a FATAL or a `told` event (R498). -/
def State.stageNew (s : State) (code sev subject : Nat) (detail : List Byte) (told : Bool) : State :=
  let r := s.newRecord code sev subject detail
  let s := ((s.numbered sev).place r).stageFill
  if 2 ≤ sev ∨ told then s.compose 0 (faultBody r) else s

/-- The event merged into the newest record, `r` (R492). -/
def State.merge (s : State) (r : LogRec) : State :=
  let r' := { r with repeats := min (r.repeats + 1) 0xFFFFFFFF, tLast := tns s.now }
  (s.setStaging (s.log.staging.dropLast ++ [r'])).bump HLT.LOG_COUNTS.MERGED

/-- DETAIL: a multiple of 4 bytes, at most 24 (R491). -/
def detailBytes (l : List Byte) : List Byte := padTo (min 24 ((l.length + 3) / 4 * 4)) l

/-- Stage an event: merged into the newest record, or a new record, or dropped (R492, R493, R495), and the fault
notice of an ERROR, a FATAL or a `told` event (R498). DETAIL is a multiple of 4 bytes, at most 24 (R491). -/
def State.logEvent (s : State) (code sev subject : Nat) (detail : List Byte) (told : Bool := false) : State :=
  let detail := detailBytes detail
  if sev < 3 ∧ sev < s.rd HLT.LOG_CFG.MIN_SEV then s
  else
    match s.log.staging.getLast? with
    | some r =>
      if r.matches code sev subject detail then s.merge r
      else s.stageNew code sev subject detail told
    | none => s.stageNew code sev subject detail told

/-- An event that sets flag `f` of its block's EVENT register: the flag and SEQ (R476), and the event logged with
code, severity and subject (R490, R491). -/
def State.raise (s : State) (f : Field) (sev : Nat := 0) (detail : List Byte := []) : State :=
  (s.setFlag f).logEvent (blockOf f.off * 1024 + f.lo) sev (blockOf f.off * 2 ^ 26 + f.off) detail

/-- An event that sets a flag and is reported on the fault notice line whatever its severity (R498). -/
def State.report (s : State) (f : Field) (sev : Nat := 0) (detail : List Byte := []) : State :=
  (s.setFlag f).logEvent (blockOf f.off * 1024 + f.lo) sev (blockOf f.off * 2 ^ 26 + f.off) detail true

/-- A FATAL event of R499 that has no flag of its own. -/
def State.logFatal (s : State) (block number off : Nat) (detail : List Byte := []) : State :=
  s.logEvent (block * 1024 + number) sevFatal (block * 2 ^ 26 + off) detail

/-- Any other event with no flag, number `k` of this model's: the code that it has from 32 on is not given (R490).
Log: DESIGN CHOICE 72; DEDUCED 117. -/
def State.logOpen (s : State) (block k sev off : Nat) (detail : List Byte := []) (told : Bool := false) : State :=
  s.logEvent (block * 1024 + 32 + Config.eventNo k % 992) sev (block * 2 ^ 26 + off) detail told

/-! ### The mailbox (R469, R470) -/

/-- A selection: VALID cleared, the data registers read zero, and the sample is on its way. Log: DEDUCED 114. -/
def State.mbxStart (s : State) (b : Bank) (off data : Nat) (err : Bool) : State :=
  let k := b.num
  let s := (s.wr (GLB.MBX_SEL.OFFSET k) (off / 16)).wr (GLB.MBX_VALID.VALID k) 0
  let s := (s.wr (GLB.MBX_VALID.ERR k) 0).wr (GLB.MBX_VALID.OFFSET k) (off / 16)
  let s := (s.wr (GLB.MBX_D.DATA 0 k) 0).wr (GLB.MBX_D.DATA 1 k) 0
  let s := (s.wr (GLB.MBX_D.DATA 2 k) 0).wr (GLB.MBX_D.DATA 3 k) 0
  { s with mbx := Tbl.set s.mbx k ⟨off, data, err⟩ }

/-! ### Safe states (R480) -/

/-- Is a block, by its number of R460, in its safe state? -/
def State.unsafeBlock (s : State) (b : Nat) : Bool :=
  if b < 32 then bitOf (s.rd GLB.FAULT_LO.BLOCKS) b else bitOf (s.rd GLB.FAULT_HI.DIES) (b - 32)

/-- Does a register that satisfies a test, by offset and instance, hold its block in its safe state? -/
def State.heldBy (s : State) (p : Nat → Nat → Bool) : Bool := s.sys.held.any fun r => p r.1 r.2

/-- The loop is held open: LOOP_HOLD, or the Gauge's safe state (R480). -/
def State.loopOpen (s : State) : Bool := s.on GAUGE.CTRL.LOOP_HOLD || s.unsafeBlock 1

/-! ### Counters and spares -/

/-- The counters of the FTD, of a compute die and of an edge die (R486): first number and count. -/
def ctrFtd : Nat × Nat := (0, 32)
def ctrDie (d : Nat) : Nat × Nat := (32 + 8 * d, 8)
def ctrEdge (d : Nat) : Nat × Nat := (96 + 8 * d, 8)

/-- A counter advanced by `w`: modulo 2^48, each wrap setting OVF (R486). -/
def State.ctrAdd (s : State) (n w : Nat) : State :=
  let v := s.rd (HLT.CTR.COUNT n) + w
  let s := s.wr (HLT.CTR.COUNT n) v
  if v < 2 ^ 48 then s else ((s.wr (HLT.CTR.OVF n) 1).bump HLT.CTR_STAT.WRAPS).raise HLT.EVENT.CTR_OVF

/-- Does the register row of a key configure counter `n` with source `src`? -/
def ctrIs (r : Nat × Nat) (src n : Nat) : Bool := r.1 == (HLT.CTR_CFG.SRC n).key && r.2 == src

/-- An event of source `src` and instance `inst`, of weight `w`, in the counters of one domain (R486-R488). -/
def State.count (s : State) (dom : Nat × Nat) (src inst : Nat) (w : Nat := 1) : State :=
  if s.unsafeBlock 23 then s
  else (List.range dom.2).foldl (fun s i =>
    let n := dom.1 + i
    if s.regs.any (fun r => ctrIs r src n) && s.on (HLT.CTR_CFG.EN n) &&
        (s.rd (HLT.CTR_CFG.INST n) == inst || (s.rd (HLT.CTR_CFG.INST n) == 0xFFFF && (src == 0x101 || src == 0x102)))
    then s.ctrAdd n w else s) s

/-- A spare change on its way into the patch map (R503). Log: DEDUCED 98. -/
def State.patchNote (s : State) (kind action unit spare : Nat) : State :=
  let e : PatchEntry := ⟨kind, action, unit, spare, s.rd HLT.OPTIME.MINUTES⟩
  { s with patch := { s.patch with waiting := s.patch.waiting ++ [e] } }

/-- A meaning that answers its next state. -/
abbrev Result := Host.Outcome State Fault Refusal

end Sys2Proof.Machine
end

