-- ==== Sys2Proof/Machine/UlkOps.lean ====
section
/-! DEFINITION. Sending over the Urdal link (R385-R387, R389) and snooping lines that the companion holds (R393). -/
namespace Sys2Proof.Machine
open Sys2Proof

/-- The states of R405. -/
def ulDown : Nat := 0
def ulTrain : Nat := 1
def ulUp : Nat := 2
def ulRecover : Nat := 3
def ulFailed : Nat := 4

/-- The link's state. -/
def State.ulState (s : State) : Nat := s.rd ULK.STAT.STATE

/-- The credit class of an OP (R387): 0 REQ, 1 SNP, 2 RSP, 3 DAT. -/
def msgClass (op : Nat) : Nat :=
  if op = 0x13 ∨ op = 0x14 then 1
  else if op = 0x23 ∨ op = 0x24 ∨ op = 0x26 ∨ op = 0x27 then 2
  else if op ≤ 0x04 ∨ op = 0x07 ∨ op = 0x11 then 0
  else 3

/-- Credits of a class. -/
def Credits.of (c : Credits) (k : Nat) : Nat :=
  match k with
  | 0 => c.req
  | 1 => c.snp
  | 2 => c.rsp
  | _ => c.dat

/-- Credits of a class changed to `n`. -/
def Credits.setOf (c : Credits) (k n : Nat) : Credits :=
  match k with
  | 0 => { c with req := n }
  | 1 => { c with snp := n }
  | 2 => { c with rsp := n }
  | _ => { c with dat := n }

/-- The first message that has a credit of its class in hand, and the rest. -/
def takeSendable (hand : Credits) : List Msg → Option (Msg × List Msg)
  | [] => none
  | m :: r =>
    if 0 < hand.of (msgClass m.op) then some (m, r)
    else (takeSendable hand r).map fun p => (p.1, m :: p.2)

/-- Messages sent while the link is UP, a credit is in hand and the replay buffer of 1,024 flits has room (R385,
R386). Each message rides in a MSG flit of its own (log entry 17). Log: DESIGN CHOICE 17. -/
def Ulk.pump (u : Ulk) : Nat → Ulk
  | 0 => u
  | fuel + 1 =>
    if 1024 ≤ u.replay.length then u
    else
      match takeSendable u.hand u.out with
      | none => u
      | some (m, r) =>
        let seq := (u.txSeq + 1) % 4096
        let k := msgClass m.op
        Ulk.pump { u with out := r, txSeq := seq, replay := u.replay ++ [(seq, m)],
                          hand := u.hand.setOf k (u.hand.of k - 1) } fuel

/-- Send what can be sent; the MSG flits are counted (R488). -/
def State.ulPump (s : State) : State :=
  if s.ulState = ulUp then
    let n := s.ulk.out.length
    let s := { s with ulk := s.ulk.pump n }
    if s.ulk.out.length < n then s.count ctrFtd 0x061 0 (n - s.ulk.out.length) else s
  else s

/-- A message to send. -/
def State.sendMsg (s : State) (m : Msg) : State :=
  ({ s with ulk := { s.ulk with out := s.ulk.out ++ [m] } }).ulPump

/-- The lowest free tag of the package's 1,024 (R386). -/
def State.freeTag (s : State) : Option Nat :=
  (List.range 1024).find? fun t => (Tbl.look s.ulk.reqs t).isNone

/-- The message of a package request: PRD, or PWR under the mask of its bytes. -/
def PReq.msg (r : PReq) (tag : Nat) : Msg :=
  let line := r.addr / 64 * 64
  let off := r.addr % 64
  if r.write then
    { op := 0x12, tag := tag, addr := line, mask := (2 ^ r.len - 1) * 2 ^ off,
      data := padTo 64 (List.replicate off 0 ++ r.data) }
  else { op := 0x11, tag := tag, addr := line }

/-- A package request to companion memory: it takes a tag and is sent, or waits for a tag. Log: DEDUCED 18, 89. -/
def State.request (s : State) (r : PReq) : State :=
  match s.freeTag with
  | some t => ({ s with ulk := { s.ulk with reqs := Tbl.set s.ulk.reqs t r } }).sendMsg (r.msg t)
  | none => { s with ulk := { s.ulk with waiting := s.ulk.waiting ++ [r] } }

/-- Can a package access to companion memory be carried at all? In DOWN, TRAIN and FAILED it fails at once (log
entry 18); in RECOVER it waits (R405). Log: DEDUCED 18. -/
def State.linkServes (s : State) : Bool := s.ulState == ulUp || s.ulState == ulRecover

/-! ### Snoops (R391-R394) -/

/-- The lowest TAG that no outstanding snoop carries. Log: DEDUCED 89. -/
def State.snoopTag (s : State) : Nat :=
  ((List.range 4096).find? fun t => s.ulk.snoops.all fun r => r.2.tag != t).getD 0

/-- A snoop sent, unless one of the line is outstanding; `grants` wait for its end. -/
def State.snoop (s : State) (inv : Bool) (line : Nat) (grants : List Grant := []) : State :=
  match Tbl.look s.ulk.snoops line with
  | some x => { s with ulk := { s.ulk with snoops := Tbl.set s.ulk.snoops line { x with grants := x.grants ++ grants } } }
  | none =>
    let t := s.snoopTag
    let s := { s with ulk := { s.ulk with
      snoops := Tbl.set s.ulk.snoops line { inv := inv, tag := t, since := s.now, grants := grants } } }
    (s.count ctrFtd 0x062 0).sendMsg { op := if inv then 0x13 else 0x14, tag := t, addr := line * 64 }

/-- The lines of an access that the companion must be asked for first: OWNED ones before a read, every one that it
holds before a write, and those whose snoop a WB or an EVICT has crossed and which is not answered. -/
def State.heldLines (s : State) (write : Bool) (a n : Nat) : List Nat :=
  (s.ulk.dir.filter fun r => decide (a < 64 * r.1 + 64) && decide (64 * r.1 < a + n) && (write || r.2.owned)).map (·.1) ++
  (s.ulk.snoops.filter fun r => decide (a < 64 * r.1 + 64) && decide (64 * r.1 < a + n) && r.2.taken).map (·.1)

/-- The snoops of an access sent (R393). -/
def State.snoopFor (s : State) (write : Bool) (a n : Nat) : State :=
  (s.heldLines write a n).foldl (fun s l => s.snoop write l) s

end Sys2Proof.Machine
end

