-- ==== Sys2Proof/Machine/Access.lean ====
section
/-! DEFINITION. Device addresses (R349-R351), reading and writing LPDDR5 and local SRAM with their errors (R300,
R301, R353-R356), and the transfers that OPN counts. -/
namespace Sys2Proof.Machine
open Sys2Proof

/-! ### Clusters by number -/

/-- A physical cluster's record. -/
def State.cl (s : State) (p : Nat) : Cluster := Tbl.lookD s.comp.clusters {} p

/-- A physical cluster's record replaced. -/
def State.setCl (s : State) (p : Nat) (c : Cluster) : State :=
  { s with comp := { s.comp with clusters := Tbl.put s.comp.clusters {} p c } }

/-- The physical cluster in service under a logical number (R290, R291). -/
def State.physOf (s : State) (n : Nat) : Option Nat :=
  if 2000 ≤ n then none
  else (List.range 2048).find? fun p => s.rd (CL.ID.LOGICAL p) == n && s.rd (CL.ID.ROLE p) == 0

/-- The job-start trigger that a cluster's program runs under. -/
def State.clJob (s : State) (p : Nat) : Nat := s.rd (CL.STATE.JOB p)

/-! ### The address map (R349-R351) -/

/-- The end of usable LPDDR5. -/
def State.lpEnd (s : State) : Nat := if s.rd GLB.ID.VARIANT = 1 then 0x7C00000000 else 0xF800000000

/-- Where a device address lies. -/
inductive Region
  | lpddr
  | buffer (q b off : Nat)
  | sram (n off : Nat)
  | companion (addr : Nat)
  | unmapped
  deriving DecidableEq, Repr

/-- Bytes of a slot buffer (R114). -/
def bufBytes : Nat := 25088

/-- Bytes of local SRAM (R298). -/
def sramBytes : Nat := 0x180000

/-- The region of an address. Log: DEDUCED 51. -/
def State.region (s : State) (a : Nat) : Region :=
  if a < s.lpEnd then .lpddr
  else if 0x10000000000 ≤ a ∧ a < 0x10001000000 then
    let x := a - 0x10000000000
    .buffer (x / 0x8000 / 8) (x / 0x8000 % 8) (x % 0x8000)
  else if 0x20000000000 ≤ a ∧ a < 0x20000000000 + 2000 * 0x200000 then
    let x := a - 0x20000000000
    .sram (x / 0x200000) (x % 0x200000)
  else if 0x800000000000 ≤ a ∧ a < 0x1000000000000 then .companion (a - 0x800000000000)
  else .unmapped

/-- Do `n ≥ 1` bytes from `a` lie wholly in one region, in bytes that exist (R350)? Log: DEDUCED 51. -/
def State.inRegion (s : State) (a n : Nat) : Bool :=
  match s.region a with
  | .lpddr => decide (a + n ≤ s.lpEnd)
  | .buffer _ _ off => decide (off + n ≤ bufBytes)
  | .sram c off => decide (off + n ≤ sramBytes) && (s.physOf c).isSome
  | .companion _ => decide (a + n ≤ 0x1000000000000)
  | .unmapped => false

/-- The die region of an LPDDR5 address (R351). -/
def State.lpDie (s : State) (a : Nat) : Nat := a / (s.lpEnd / 8)

/-- The channel of an LPDDR5 address (R351). -/
def State.lpChannel (s : State) (a : Nat) : Nat := 16 * s.lpDie a + a % (s.lpEnd / 8) / 256 % 16

/-! ### Transfers over the OPN (R357, R358) -/

/-- An end of a transfer: a compute die, or the FTD. -/
inductive Node
  | die (d : Nat)
  | ftd
  deriving DecidableEq, Repr

/-- The end at which a device address lies. -/
def State.nodeOf (s : State) (a : Nat) : Node :=
  match s.region a with
  | .lpddr => .die (s.lpDie a)
  | .sram n _ => match s.physOf n with
    | some p => .die (p / 256)
    | none => .ftd
  | _ => .ftd

/-- The paths between two ends: a die's own to the FTD, or those of the ring the shorter way round, upwards where
both are as long (log entry 19). Log: DEDUCED 19. -/
def opnPaths (x y : Node) : List Nat :=
  match x, y with
  | .ftd, .ftd => []
  | .die d, .ftd => [d]
  | .ftd, .die d => [d]
  | .die a, .die b =>
    let up := (b + 8 - a) % 8
    if up ≤ 4 then (List.range up).map fun i => 8 + (a + i) % 8
    else (List.range (8 - up)).map fun i => 8 + (b + i) % 8

/-- Does a transfer between two dies run upwards round the ring, towards CD(d + 1)? -/
def opnUp (x y : Node) : Bool :=
  match x, y with
  | .die a, .die b => decide ((b + 8 - a) % 8 ≤ 4)
  | _, _ => false

/-- Bytes counted on every path between two ends, in the scheduled or the general class, and those leaving a die
(R488). -/
def State.opnCount (s : State) (x y : Node) (sched : Bool) (n : Nat) : State :=
  let s := (opnPaths x y).foldl (fun s p =>
    s.bumpBy (if sched then OPN.PATH_COUNTS.SCHED p else OPN.PATH_COUNTS.GEN p) n) s
  match x, y with
  | .die d, .ftd => s.count (ctrDie d) 0x130 0 n
  | .die _, .die _ =>
    (opnPaths x y).foldl (fun s p => if opnUp x y then s.count (ctrDie (p - 8)) 0x130 1 n else s) s
  | _, _ => s

/-! ### LPDDR5 (R353-R356) -/

/-- Replace LPDDR5's contents. -/
def State.setLp (s : State) (m : Mem) : State := { s with comp := { s.comp with lpddr := m } }

/-- A row marked for repair (R356), unless it is marked. Log: DESIGN CHOICE 15; DEDUCED 98. -/
def State.markRow (s : State) (a : Nat) : State :=
  let row := Config.rowOf (a / 64)
  let ch := s.lpChannel a
  if s.comp.rowMark.contains (row, ch) then s
  else
    let s := { s with comp := { s.comp with rowMark := s.comp.rowMark ++ [(row, ch)] } }
    ((s.bump (MEM.CH_STAT.MARKED ch)).raise MEM.EVENT.MARKED).patchNote 4 1 (ch * 2 ^ 24 + row % 2 ^ 24) 0

/-- An uncorrectable block was read (R353, R356): counted, its address kept, its row marked. Log: DEDUCED 82. -/
def State.reportUncorr (s : State) (req : Req) (blk : Nat) : State :=
  let a := 64 * blk
  let ch := s.lpChannel a
  let s := s.bump (MEM.CH_STAT.UNCORR ch)
  let s := ((s.wr MEM.ERR_ADDR.CH ch).wr MEM.ERR_ADDR.REQ req.num).wr MEM.ERR_ADDR.ADDR a
  let s := s.raise MEM.EVENT.UNCORR (if req = .scrubber then sevWarning else sevInfo)
  s.markRow a

/-- A corrected error of a block: counted, and its row marked at the CORR_MARK-th since COLD (R356). -/
def State.reportCorr (s : State) (blk : Nat) : State :=
  let a := 64 * blk
  let row := Config.rowOf blk
  let n := Tbl.lookD s.comp.rowHits 0 row + 1
  let s := { s with comp := { s.comp with rowHits := Tbl.put s.comp.rowHits 0 row n } }
  let s := (s.bump (MEM.CH_STAT.CORR (s.lpChannel a))).count (ctrDie (s.lpDie a)) 0x122 (s.lpChannel a % 16)
  if n = s.rd MEM.CTRL.CORR_MARK then s.markRow a else s

/-- Upsets that an access of `n` bytes from `a` finds, in check-bit blocks of `u` bytes. -/
def upsetsIn (u a n : Nat) (ups : List Upset) : List Upset :=
  ups.filter fun x => decide (a / u ≤ x.addr / u) && decide (x.addr / u * u < a + n)

/-- Upsets in LPDDR5 that an access finds: a single error is corrected and written back, a double one makes the
block uncorrectable (R353). -/
def State.strikeLp (s : State) (a n : Nat) (ups : List Upset) : State :=
  (upsetsIn 64 a n ups).foldl (fun s x =>
    if x.hard then s.setLp (s.comp.lpddr.setBad (x.addr / 64))
    else if s.comp.lpddr.isBad (x.addr / 64) then s
    else s.reportCorr (x.addr / 64)) s

/-- Is a requester of the scheduled class (R358)? -/
def Req.sched : Req → Bool
  | .fellUnit => true
  | .aggregator => true
  | _ => false

/-- Bytes of channel traffic counted (R358, R488). -/
def State.lpCount (s : State) (req : Req) (a n : Nat) : State :=
  (pieces 256 a n (n / 256 + 2)).foldl (fun s p =>
    s.count (ctrDie (s.lpDie p.1)) (if req.sched then 0x120 else 0x121) (s.lpChannel p.1 % 16) p.2) s

/-- Bytes read from LPDDR5: none where a block of them is uncorrectable, which is reported.
Log: DESIGN CHOICE 122. -/
def State.lpRead (s : State) (req : Req) (a n : Nat) : State × Option (List Byte) :=
  let s := s.lpCount req a n
  match s.comp.lpddr.firstBad 64 a n with
  | some b => (s.reportUncorr req b, none)
  | none => (s, some (s.comp.lpddr.read a n))

/-- Bytes written to LPDDR5: a part of an uncorrectable block fails and is reported (R354).
Log: DESIGN CHOICE 122. -/
def State.lpWrite (s : State) (req : Req) (a : Nat) (l : List Byte) : State × Bool :=
  let s := s.lpCount req a l.length
  let w := s.comp.lpddr.store 64 a l
  match w.2 with
  | [] => (s.setLp w.1, true)
  | b :: _ => ((s.setLp w.1).reportUncorr req b, false)

/-! ### Local SRAM (R298-R301) -/

/-- The bank of a local address (R298). -/
def sramBank (a : Nat) : Nat := a / 64 % 16

/-- A row of a cluster's SRAM marked for repair (R301), unless it is marked. A row is named by its bank and the
package's own geometry. Log: DESIGN CHOICE 15; DEDUCED 98. -/
def State.markSram (s : State) (p a : Nat) : State :=
  let row := Config.rowOf (a / 8) * 16 + sramBank a
  let c := s.cl p
  if c.rowMark.contains row then s
  else
    let n := Tbl.lookD c.spared 0 (sramBank a) + (c.rowMark.filter fun r => r % 16 == sramBank a).length
    let s := (s.setCl p { c with rowMark := c.rowMark ++ [row] }).bump (CL.SRAM.MARKED p)
    if n < 4 then s.patchNote 3 1 (16 * p + sramBank a) n else s.patchNote 3 2 (16 * p + sramBank a) 0

/-- A corrected word: counted, and its row marked at the 16th since COLD (R300, R301). -/
def State.sramCorr (s : State) (p a : Nat) : State :=
  let row := Config.rowOf (a / 8) * 16 + sramBank a
  let c := s.cl p
  let n := Tbl.lookD c.rowHits 0 row + 1
  let s := (s.setCl p { c with rowHits := Tbl.put c.rowHits 0 row n }).bump (CL.SRAM.CORR p)
  if n = 16 then s.markSram p a else s

/-- An uncorrectable word read by any requester (R300, R301). -/
def State.sramUncorr (s : State) (p a : Nat) : State :=
  ((s.bump (CL.SRAM.UNCORR p)).raise (CL.EVENT.SRAM_UNCORR p)).markSram p a

/-- Upsets in a cluster's SRAM that an access finds. -/
def State.strikeSram (s : State) (p a n : Nat) (ups : List Upset) : State :=
  (upsetsIn 8 a n ups).foldl (fun s x =>
    if x.hard then s.setCl p { s.cl p with sram := (s.cl p).sram.setBad (x.addr / 8) }
    else if (s.cl p).sram.isBad (x.addr / 8) then s
    else s.sramCorr p x.addr) s

/-- Bytes read from a cluster's SRAM: none where a word of them is uncorrectable, which is reported. -/
def State.sramRead (s : State) (p a n : Nat) : State × Option (List Byte) :=
  match (s.cl p).sram.firstBad 8 a n with
  | some w => (s.sramUncorr p (8 * w), none)
  | none => (s, some ((s.cl p).sram.read a n))

/-- Bytes written to a cluster's SRAM; a word that is written whole has fresh check bits. Log: DEDUCED 43. -/
def State.sramWrite (s : State) (p a : Nat) (l : List Byte) : State :=
  let c := s.cl p
  let m := (pieces 8 a l.length (l.length / 8 + 2)).foldl
    (fun m x => if x.1 % 8 = 0 ∧ x.2 = 8 then m.clearBad (x.1 / 8) else m) c.sram
  s.setCl p { c with sram := m.write a l }

/-! ### The slot store's buffers (R114, R528) -/

/-- A slot buffer. -/
def State.buf (s : State) (q b : Nat) : Buf := Tbl.lookD s.book.bufs {} (8 * q + b)

/-- A slot buffer replaced. -/
def State.setBuf (s : State) (q b : Nat) (x : Buf) : State :=
  { s with book := { s.book with bufs := Tbl.put s.book.bufs {} (8 * q + b) x } }

/-- Who writes: the holder that R528 asks a slot buffer's writer to be. -/
def State.holds (s : State) (u : BufUse) (q b : Nat) : Bool := decide ((s.buf q b).held = u)

/-! ### A whole operation's bytes -/

/-- Read `n` bytes from a device address other than companion memory: none where a block of them is uncorrectable.
Log: DESIGN CHOICE 122. -/
def State.devRead (s : State) (req : Req) (a n : Nat) (ups : List Upset) : State × Option (List Byte) :=
  match s.region a with
  | .lpddr => (s.strikeLp a n ups).lpRead req a n
  | .sram c off =>
    match s.physOf c with
    | some p => (s.strikeSram p off n (ups.map fun x => { x with addr := x.addr % 0x200000 })).sramRead p off n
    | none => (s, none)
  | _ => (s, none)

/-- Write bytes to a device address other than companion memory, as the holder `u` of slot buffers.
Log: DESIGN CHOICE 122. -/
def State.devWrite (s : State) (req : Req) (u : BufUse) (a : Nat) (l : List Byte) : State × Bool :=
  match s.region a with
  | .lpddr => s.lpWrite req a l
  | .sram c off =>
    match s.physOf c with
    | some p => (s.sramWrite p off l, true)
    | none => (s, false)
  | .buffer q b off =>
    if s.holds u q b then
      let x := s.buf q b
      (s.setBuf q b { x with mem := x.mem.write off l }, true)
    else (s, false)
  | _ => (s, false)

end Sys2Proof.Machine
end

