-- ==== Sys2Proof/Machine/SlotStore.lean ====
section
/-! DEFINITION. The slot store's send queues (R114-R117, R127, R528): reserving, committing and freeing. -/
namespace Sys2Proof.Machine
open Sys2Proof

/-- A queue's committed payloads, oldest first (R114). -/
def State.queue (s : State) (q : Nat) : List Payload := Tbl.lookD s.book.queues [] q

/-- A queue's list replaced, and the pockets it shows (PB.Q_STAT). -/
def State.setQueue (s : State) (q : Nat) (l : List Payload) : State :=
  let n := (l.map fun p => match p with | .relay k _ _ => k.length | _ => 0).sum
  ({ s with book := { s.book with queues := Tbl.put s.book.queues [] q l } }).wr (PB.Q_STAT.POCKETS q) n

/-- The slot buffers of a queue in use (PB.Q_STAT). -/
def State.countBufs (s : State) (q : Nat) : State :=
  s.wr (PB.Q_STAT.BUFS q) (((List.range 8).filter fun b => (s.buf q b).held != .free).length)

/-- The lowest free buffer of a queue. -/
def State.freeBuf (s : State) (q : Nat) : Option Nat :=
  (List.range 8).find? fun b => (s.buf q b).held == .free

/-- A buffer of a queue reserved for a writer: its bytes are not known until they are written. -/
def State.reserve (s : State) (q : Nat) (u : BufUse) : Option (Nat × State) :=
  (s.freeBuf q).map fun b =>
    let d := s.drawMany
    (b, (d.2.setBuf q b { held := u, mem := Mem.lost d.1 }).countBufs q)

/-- A buffer freed. -/
def State.release (s : State) (q b : Nat) : State := (s.setBuf q b {}).countBufs q

/-- A buffer committed with a length (R114, R115): length 0 adds nothing and frees the buffer. -/
def State.commit (s : State) (q b len : Nat) : State :=
  if len = 0 then (s.release q b).bump PB.ZERO_COMMIT.COUNT
  else
    let x := s.buf q b
    (s.setBuf q b { x with held := .full }).setQueue q (s.queue q ++ [.buffer b len s.now])

/-- A payload's length. -/
def Payload.len : Payload → Nat
  | .buffer _ n _ => n
  | .relay _ l _ => l.length

/-- When a payload was committed. -/
def Payload.time : Payload → Nat
  | .buffer _ _ t => t
  | .relay _ _ t => t

/-- A payload's bytes. -/
def State.payloadBytes (s : State) (q : Nat) : Payload → List Byte
  | .buffer b n _ => (s.buf q b).mem.read 0 n
  | .relay _ l _ => l

/-- Pockets in use, and the free ones that PB.POCKET_STAT shows. -/
def State.setPockets (s : State) (l : List Nat) : State :=
  ({ s with book := { s.book with pockets := l } }).wr PB.POCKET_STAT.FREE (64 - l.length)

/-- The `n` lowest-numbered free pockets, none where fewer are free (R127, R128). -/
def State.takePockets (s : State) (n : Nat) : Option (List Nat × State) :=
  let free := (List.range 64).filter fun k => !s.book.pockets.contains k
  if free.length < n then none
  else some (free.take n, s.setPockets (s.book.pockets ++ free.take n))

/-- Pockets freed. -/
def State.freePockets (s : State) (l : List Nat) : State :=
  s.setPockets (s.book.pockets.filter fun k => !l.contains k)

/-- A payload's buffer or pockets freed (R117). -/
def State.freePayload (s : State) (q : Nat) : Payload → State
  | .buffer b _ _ => s.release q b
  | .relay l _ _ => s.freePockets l

end Sys2Proof.Machine
end

