-- ==== Sys2Proof/Machine/Cluster.lean ====
section
/-! DEFINITION. A cluster's register files and its shell (R290-R325): states, tokens, faults, job starts, gating,
quarantine and spares. -/
namespace Sys2Proof.Machine
open Sys2Proof

/-! ### Register files (R320, R322) -/

/-- What an entry that is not listed holds (log entries 2 and 4). Log: DESIGN CHOICE 4. -/
def Cluster.unread (c : Cluster) (key : Nat) : Nat :=
  if c.epoch = 0 then 0 else Config.freeNat (c.epoch - 1) key

/-- Lane `i` of vector register `r`. -/
def Cluster.lane (c : Cluster) (r i : Nat) : Lane :=
  Tbl.lookD c.v (BitVec.ofNat 32 (c.unread (64 * r + i))) (64 * r + i)

/-- Lane `i` of vector register `r` written. -/
def Cluster.setLane (c : Cluster) (r i : Nat) (x : Lane) : Cluster :=
  { c with v := Tbl.put c.v (BitVec.ofNat 32 (c.unread (64 * r + i))) (64 * r + i) x }

/-- Element (`m`, `n`) of tile `t`. -/
def Cluster.elem (c : Cluster) (t m n : Nat) : Lane :=
  let k := 2048 * t + 64 * m + n
  Tbl.lookD c.t (BitVec.ofNat 32 (c.unread (2 ^ 20 + k))) k

/-- Element (`m`, `n`) of tile `t` written. -/
def Cluster.setElem (c : Cluster) (t m n : Nat) (x : Lane) : Cluster :=
  let k := 2048 * t + 64 * m + n
  { c with t := Tbl.put c.t (BitVec.ofNat 32 (c.unread (2 ^ 20 + k))) k x }

/-- An A register. -/
def Cluster.areg (c : Cluster) (r : Nat) : AWord :=
  Tbl.lookD c.a (BitVec.ofNat 48 (c.unread (2 ^ 24 + r))) r

/-- An A register written. -/
def Cluster.setA (c : Cluster) (r : Nat) (x : AWord) : Cluster :=
  { c with a := Tbl.put c.a (BitVec.ofNat 48 (c.unread (2 ^ 24 + r))) r x }

/-- A predicate register: P0 reads as all ones (R322). -/
def Cluster.preg (c : Cluster) (r : Nat) : Pred :=
  if r = 0 then BitVec.allOnes 64 else Tbl.lookD c.p (BitVec.ofNat 64 (c.unread (2 ^ 25 + r))) r

/-- A predicate register written: a write to P0 is ignored (R322). -/
def Cluster.setP (c : Cluster) (r : Nat) (x : Pred) : Cluster :=
  if r = 0 then c else { c with p := Tbl.put c.p (BitVec.ofNat 64 (c.unread (2 ^ 25 + r))) r x }

/-- An instruction of the store (R345). -/
def Cluster.instr (c : Cluster) (i : Nat) : BitVec 64 :=
  let d := if c.filled then BitVec.allOnes 64 else BitVec.ofNat 64 (c.unread (2 ^ 26 + i))
  Tbl.lookD c.store d i

/-- The cluster with SRAM, instruction store and registers undefined (R314, R320): free values of two draws.
Log: DESIGN CHOICE 4. -/
def Cluster.contentsLost (c : Cluster) (d : Nat) : Cluster :=
  { c with epoch := d + 1, v := [], t := [], a := [], p := [], sram := Mem.lost (d + 1), store := [], filled := false }

/-- A cluster's contents become undefined; its image is lost. -/
def State.loseContents (s : State) (p : Nat) : State :=
  let d := s.drawMany
  let s := d.2.drawMany.2
  (s.setCl p ((s.cl p).contentsLost d.1)).wr (CL.PROG.LOADED p) 0

/-! ### States and flags -/

/-- The states of R314. -/
def clGated : Nat := 0
def clIdle : Nat := 1
def clRun : Nat := 2
def clDone : Nat := 3
def clFaulted : Nat := 4

/-- A cluster's state. -/
def State.clState (s : State) (p : Nat) : Nat := s.rd (CL.STATE.STATE p)

/-- The event flags of R312 set: one event for the register's SEQ where any is (R476). Log: DEDUCED 45. -/
def State.addFlags (s : State) (p : Nat) (f : Flags) : State :=
  if f.any then
    let set (s : State) (b : Bool) (x : Field) : State := if b then s.wr x 1 else s
    let s := set (set (set s f.nv (CL.FLAGS.NV p)) f.dz (CL.FLAGS.DZ p)) f.ovf (CL.FLAGS.OF p)
    let s := set (set (set s f.uf (CL.FLAGS.UF p)) f.nx (CL.FLAGS.NX p)) f.sat (CL.FLAGS.SAT p)
    s.bump (CL.FLAGS.SEQ p)
  else s

/-- All six flags cleared. -/
def State.clearFlags (s : State) (p : Nat) : State :=
  (((((s.wr (CL.FLAGS.NV p) 0).wr (CL.FLAGS.DZ p) 0).wr (CL.FLAGS.OF p) 0).wr (CL.FLAGS.UF p) 0).wr
    (CL.FLAGS.NX p) 0).wr (CL.FLAGS.SAT p) 0

/-- The register field that counts a tag's outstanding operations. -/
def tagField (p t : Nat) : Field :=
  match t with
  | 0 => CL.TAGS_LO.TAG0 p
  | 1 => CL.TAGS_LO.TAG1 p
  | 2 => CL.TAGS_LO.TAG2 p
  | 3 => CL.TAGS_LO.TAG3 p
  | 4 => CL.TAGS_HI.TAG4 p
  | 5 => CL.TAGS_HI.TAG5 p
  | 6 => CL.TAGS_HI.TAG6 p
  | _ => CL.TAGS_HI.TAG7 p

/-- Every tag's count zero, and what is outstanding counted no more (R325, R347). -/
def State.clearTags (s : State) (p : Nat) : State :=
  let s := (List.range 8).foldl (fun s t => s.wr (tagField p t) 0) s
  let c := s.cl p
  let s := s.setCl p { c with fails := [], xfers := c.xfers.map fun x => { x with counted := false } }
  { s with comp := { s.comp with engines := s.comp.engines.map fun e =>
      (e.1, { e.2 with queue := e.2.queue.map fun d =>
        if d.cluster = p then { d with counted := false } else d }) } }

/-- The handles a cluster holds, shown in CL_WAIT.HELD. -/
def State.setHandles (s : State) (p : Nat) (l : List (Nat × Nat)) : State :=
  (s.setCl p { s.cl p with handles := l }).wr (CL.WAIT.HELD p) l.length

/-- Held buffers freed without commit (R347). -/
def State.dropHandles (s : State) (p : Nat) : State :=
  ((s.cl p).handles.foldl (fun s h => s.release h.1 h.2) s).setHandles p []

/-- CL_WAIT.KIND's code of a wait. -/
def WaitKind.code : WaitKind → Nat
  | .hallTime => 1
  | .barrier => 2
  | .buffer => 3
  | .ring => 4
  | .tag => 5
  | .fell => 6
  | .commit => 7
  | .ended => 8
  | .tagFull => 0
  | .engines => 0

/-- Is a cluster with this wait WAITING (R315, R343)? -/
def WaitKind.waiting : WaitKind → Bool
  | .hallTime => true
  | .barrier => true
  | .buffer => true
  | .ring => true
  | _ => false

/-- A ramp begins (R317). -/
def State.beginRamp (s : State) (p : Nat) : State :=
  (s.setCl p { s.cl p with stage := 1 }).wr (CL.STATE.RAMPING p) 1

/-- A wait begins. -/
def State.beginWait (s : State) (p : Nat) (w : Wait) (num : Nat) : State :=
  let s := s.setCl p { s.cl p with wait := some w }
  ((s.wr (CL.WAIT.KIND p) w.kind.code).wr (CL.WAIT.NUM p) num).wrB (CL.STATE.WAITING p) w.kind.waiting

/-- A wait ends; a WAITING period of 2 us or more is followed by a ramp (R317). -/
def State.endWait (s : State) (p : Nat) : State :=
  match (s.cl p).wait with
  | none => s
  | some w =>
    let s := s.setCl p { s.cl p with wait := none, shake := s.now }
    let s := ((s.wr (CL.WAIT.KIND p) 0).wr (CL.WAIT.NUM p) 0).wr (CL.STATE.WAITING p) 0
    if w.kind.waiting && decide (w.since + Config.ns 2000 ≤ s.now) then s.beginRamp p else s

/-- The program stops running: no wait, no ramp. -/
def State.halt (s : State) (p : Nat) (st : Nat) : State :=
  let s := s.setCl p { s.cl p with wait := none, stage := 0 }
  let s := ((s.wr (CL.WAIT.KIND p) 0).wr (CL.WAIT.NUM p) 0).wr (CL.STATE.WAITING p) 0
  (s.wr (CL.STATE.RAMPING p) 0).wr (CL.STATE.STATE p) st

/-! ### Jobs and tokens (R372-R375) -/

/-- The job of a trigger. -/
def State.job (s : State) (j : Nat) : Job := Tbl.lookD s.comp.jobs {} j

/-- The job of a trigger replaced. -/
def State.setJob (s : State) (j : Nat) (x : Job) : State :=
  { s with comp := { s.comp with jobs := Tbl.put s.comp.jobs {} j x } }

/-- A bit of a 2,048-bit vector set. -/
def setBit (v i : Nat) : Nat := if bitOf v i then v else v + 2 ^ i

/-- The token codes of CL_FAULT.CODE (R314, R347). -/
def tokStopped : Nat := 1
def tokWdog : Nat := 2
def tokSram : Nat := 3
def tokIstore : Nat := 4
def tokBusy : Nat := 5
def tokGated : Nat := 6
def tokQuarantined : Nat := 7
def tokAbsent : Nat := 8

/-- A completion token of logical cluster `n` for the job of trigger `j` (R372, R375); code 0 is OK. -/
def State.token (s : State) (j n code : Nat) : State :=
  let x := s.job j
  if x.stage = .running ∧ bitOf x.mask n ∧ ¬ bitOf x.done n then
    s.setJob j { x with
      done := setBit x.done n
      bad := if code = 0 then x.bad else setBit x.bad n
      codes := Tbl.put x.codes 0 n code }
  else s

/-- A token of the job whose program a physical cluster runs. Log: DEDUCED 50. -/
def State.clToken (s : State) (p code : Nat) : State := s.token (s.clJob p) (s.rd (CL.ID.LOGICAL p)) code

/-- An operation attributed to a job has failed (R374). Log: DEDUCED 50. -/
def State.jobFail (s : State) (j : Nat) : State :=
  let x := s.job j
  if x.stage = .running then s.setJob j { x with opfail := true } else s

/-- A program's fault (R314, R347): FAULT with its code and instruction, held buffers freed, the counts of
outstanding operations discarded, the token sent. -/
def State.clFault (s : State) (p code : Nat) : State :=
  let pc := s.rd (CL.STATE.PC p)
  let s := (s.halt p clFaulted).clToken p code
  let s := ((s.wr (CL.FAULT.CODE p) code).wr (CL.FAULT.PC p) pc).raise (CL.EVENT.FAULT p)
  (s.dropHandles p).clearTags p

/-- A cluster removed from service (R318): GATED, its logical number without a cluster until a reserve takes it. -/
def State.quarantine (s : State) (p : Nat) : State :=
  let n := s.rd (CL.ID.LOGICAL p)
  let s := if n = 2047 then s else
    { s with comp := { s.comp with vacant := Tbl.set s.comp.vacant n p } }
  let s := ((s.wr (CL.ID.LOGICAL p) 2047).wr (CL.ID.CROSS p) 0).wr (CL.ID.ROLE p) 2
  s.halt p clGated

/-- A command that the shell refuses (R314). -/
def State.clRefuse (s : State) (p : Nat) : State := s.raise (CL.EVENT.CFG_ERR p)

/-! ### Commands of the shell (R314) -/

/-- STOP. -/
def State.clStopCmd (s : State) (c : Nat) : State := if s.clState c = clRun then s.clFault c tokStopped else s.clRefuse c

/-- CL_STOP. -/
def execClStop (c : Fin 2048) (s : State) : Result := .next (s.clStopCmd c)

/-- UNGATE's transition: power restored, contents undefined. Log: DEDUCED 52. -/
def State.ungate (s : State) (p : Nat) : State := (s.loseContents p).halt p clIdle

/-- UNGATE. -/
def State.clUngateCmd (s : State) (c : Nat) : State := if s.clState c = clGated then s.ungate c else s.clRefuse c

/-- CL_UNGATE. -/
def execClUngate (c : Fin 2048) (s : State) : Result := .next (s.clUngateCmd c)

/-- GATE. -/
def State.clGateCmd (s : State) (c : Nat) : State :=
  if s.clState c = clIdle ∨ s.clState c = clDone ∨ s.clState c = clFaulted then s.halt c clGated else s.clRefuse c

/-- CL_GATE. -/
def execClGate (c : Fin 2048) (s : State) : Result := .next (s.clGateCmd c)

/-- A RUN cluster quarantined: its token goes first, and its program's buffers and counts go as in a fault. -/
def State.stopQuarantine (s : State) (p code : Nat) : State :=
  ((s.clToken p code).dropHandles p).clearTags p

/-- QUARANTINE. -/
def State.clQuarantineCmd (s : State) (c : Nat) : State :=
  (if s.clState c = clRun then s.stopQuarantine c tokQuarantined else s).quarantine c

/-- CL_QUARANTINE. -/
def execClQuarantine (c : Fin 2048) (s : State) : Result := .next (s.clQuarantineCmd c)

/-- WATCHDOG (R316): a RUN cluster that is not WAITING and has completed no handshake for CL_WDOG us. -/
def execWatchdog (c : Fin 2048) (t : Nat) (s : State) : Result :=
  let s := s.advance t
  if s.clState c = clRun ∧ ¬ s.on (CL.STATE.WAITING c) ∧
      (s.cl c).shake + Config.ns (1000 * s.rd (CL.WDOG.US c)) ≤ s.now then
    .next (((s.clFault c tokWdog).raise (CL.EVENT.WDOG c)).quarantine c)
  else .next s

/-- RAMP_STAGE (R317): after the 16th stage the ramp is over. -/
def execRampStage (c : Fin 2048) (t : Nat) (s : State) : Result :=
  let s := s.advance t
  let x := s.cl c
  if x.stage = 0 then .next s
  else if x.stage < 16 then .next (s.setCl c { x with stage := x.stage + 1 })
  else .next ((s.setCl c { x with stage := 0 }).wr (CL.STATE.RAMPING c) 0)

/-- Does an armed or running job name a logical cluster (R319)? -/
def State.jobNames (s : State) (n : Nat) : Bool :=
  s.comp.jobs.any fun r => (r.2.stage == .armed || r.2.stage == .running) && bitOf r.2.mask n

/-- The reserve that R319 chooses for a cluster of die `d`. Log: DEDUCED 53. -/
def State.reserveFor (s : State) (d : Nat) : Option Nat :=
  match (List.range 256).find? fun k => s.rd (CL.ID.ROLE (256 * d + k)) == 1 with
  | some k => some (256 * d + k)
  | none => (List.range 2048).find? fun k => s.rd (CL.ID.ROLE k) == 1

/-- A logical number given to a reserve (R319). Log: DEDUCED 53. -/
def State.assignSpare (s : State) (n p : Nat) : State :=
  let s := ((s.wr (CL.ID.ROLE p) 0).wr (CL.ID.LOGICAL p) n).wrB (CL.ID.CROSS p) (decide (p / 256 ≠ n / 250))
  let s := { s with comp := { s.comp with vacant := Tbl.del s.comp.vacant n } }
  s.patchNote 1 1 n p

/-- CLUSTER_SPARE_ASSIGN: `passed` is the chosen reserve's self-test. A reserve that fails it is quarantined and the
number stays without a cluster; with no reserve left that is recorded (R504). Log: DEDUCED 53. -/
def execClusterSpareAssign (n : Fin 2000) (passed : Bool) (s : State) : Result :=
  match Tbl.look s.comp.vacant n with
  | none => .next s
  | some old =>
    if s.jobNames n then .next s
    else
      match s.reserveFor (old / 256) with
      | none => .next (s.patchNote 1 2 n 0)
      | some p =>
        if passed then .next ((s.loseContents p).assignSpare n p)
        else .next (s.quarantine p)

/-! ### Job starts (R78, R314, R325) -/

/-- The bits set in a 2,048-bit vector below `n`. -/
def bitsBelow (v n : Nat) : Nat := ((List.range n).filter (bitOf v)).length

/-- The program's state at entry to RUN (R325). -/
def Cluster.entry (c : Cluster) (n pc t0 now : Nat) (x : Job) (j : Nat) : Cluster :=
  let c := (List.range 10).foldl (fun c i => c.setA (6 + i) 0) c
  let c := (List.range 7).foldl (fun c i => c.setP (1 + i) 0) c
  let c := (c.setA 0 (BitVec.ofNat 48 n)).setA 1 (BitVec.ofNat 48 (bitsBelow x.mask n))
  let c := (c.setA 2 (BitVec.ofNat 48 (bitsBelow x.mask 2048))).setA 3 (BitVec.ofNat 48 x.group)
  let c := (c.setA 4 (BitVec.ofNat 48 x.eaddr)).setA 5 (BitVec.ofNat 48 j)
  { c with pc := pc, t0 := t0, shake := now, wait := none }

/-- Entry to RUN (R314, R317, R325). -/
def State.startProgram (s : State) (p n j : Nat) : State :=
  let x := s.job j
  let pc := s.rd (CL.PROG.ENTRY p)
  let s := (s.clearTags p).clearFlags p
  let s := s.setCl p ((s.cl p).entry n pc x.start s.now x j)
  let s := ((s.wr (CL.STATE.STATE p) clRun).wr (CL.STATE.JOB p) j).wr (CL.STATE.PC p) pc
  s.beginRamp p

/-- A cluster's safe state (R480): a register of its window is at fault. -/
def State.clSafe (s : State) (p : Nat) : Bool :=
  s.heldBy fun o _ => decide (0x200000 ≤ o) && decide (o < 0xA00000) && (o - 0x200000) / 0x1000 == p

/-- A job start at one logical cluster (R314, R346, R372). Log: DEDUCED 52. -/
def State.clusterStart (s : State) (j n : Nat) : State :=
  match s.physOf n with
  | none => s.token j n tokAbsent
  | some p =>
    if s.clState p = clRun then (s.token j n tokBusy).raise (CL.EVENT.BUSY_START p)
    else if (s.job j).skipped.contains n then s.token j n tokBusy
    else if s.clSafe p then s.token j n tokStopped
    else if s.clState p = clGated then (s.token j n tokGated).raise (CL.EVENT.GATED_START p)
    else s.startProgram p n j

/-- The logical clusters that a mask names, in ascending order. -/
def maskList (m : Nat) : List Nat := (List.range 2000).filter (bitOf m)

/-- The job notice of a trigger (R404): 1 ARMED, 2 DONE, 3 MISSED, 4 CANCELLED. -/
def State.jobNotice (s : State) (j stage reason rec : Nat) : State :=
  let x := s.job j
  s.compose (8 + j) (leBytes 2 x.entry ++ leBytes 1 stage ++ leBytes 1 reason ++ leBytes 4 x.eseq ++
    leBytes 8 x.start ++ leBytes 16 rec)

/-- The number of armed triggers (TIO.PTRIG_STAT). -/
def State.countArmed (s : State) : State :=
  s.wr TIO.PTRIG_STAT.JOB_ARMED ((s.comp.jobs.filter fun r => r.2.stage == .armed).length)

/-- The triggers whose job awaits tokens (GTH.STAT.OPEN). -/
def State.countOpen (s : State) : State :=
  s.wr GTH.STAT.OPEN ((s.comp.jobs.map fun r => if r.2.stage == .running then 2 ^ r.1 else 0).sum)

/-- A trigger freed (R400). Its vectors stay until the next job start (R375). -/
def State.freeTrigger (s : State) (j : Nat) : State :=
  let x := s.job j
  ((s.setJob j { done := x.done, bad := x.bad }).countArmed).countOpen

/-- A trigger fires: its vectors are cleared and every named cluster is started (R78, R314, R375). -/
def State.fireJob (s : State) (j : Nat) : State :=
  let x := s.job j
  let s := s.setJob j { x with stage := .running, done := 0, bad := 0, codes := [], opfail := false, barrier := none }
  let s := s.countArmed.countOpen
  (maskList x.mask).foldl (fun s n => s.clusterStart j n) s

/-- JOB_START_TRIGGER (R78): the start hall time of an armed trigger is reached at `t`. -/
def execJobStartTrigger (j : Fin 8) (t : Nat) (s : State) : Result :=
  let s := s.advance t
  let x := s.job j
  let g := s.rd GAUGE.STATUS.STATE
  if x.stage = .armed ∧ x.start * 65536 ≤ s.now then
    if g = 2 ∨ g = 3 ∨ g = 4 then .next (s.fireJob j)
    else
      let s := ((s.bump TIO.PTRIG_STAT.JOB_MISSED).raise TIO.EVENT.PTRIG_MISSED).jobNotice j 3 1 0
      .next (s.freeTrigger j)
  else .next s

end Sys2Proof.Machine
end

