-- ==== Sys2Proof/Machine/Issue.lean ====
section
/-! DEFINITION. Issuing an instruction of a cluster's program (R322-R331, R347): fetch, legality, predication, the
program counter and program faults. -/
namespace Sys2Proof.Machine
open Sys2Proof

/-- What an instruction's own effect answers: done, a jump, a program fault (with what the fault reports on the
way), a wait, or the end of the program. -/
inductive Effect
  | done (s : State)
  | jump (s : State) (pc : Nat)
  | fault (s : State) (code : Nat)
  | wait (s : State) (kind : WaitKind) (num : Nat) (until_ : Option Nat)
  | ended (s : State)

/-- The program-fault codes of R347. -/
def pfIllegal : Nat := 0x10
def pfAlign : Nat := 0x11
def pfRange : Nat := 0x12
def pfDevAddr : Nat := 0x13
def pfMxk : Nat := 0x14
def pfFormat : Nat := 0x15
def pfPcEnd : Nat := 0x16
def pfHandle : Nat := 0x17
def pfLength : Nat := 0x18
def pfHeld : Nat := 0x19
def pfBarrier : Nat := 0x1A
def pfUser : Nat := 0x1B

/-- Are all bits of an instruction below its OPCODE zero outside the fields named as (lowest bit, width) (R327)? -/
def onlyFields (w : Nat) (fs : List (Nat × Nat)) : Bool :=
  w % 2 ^ 56 == (fs.map fun f => bitsOf w f.1 f.2 * 2 ^ f.1).sum

/-- PRED and PNEG. -/
def predField : Nat × Nat := (52, 4)

/-- The effective predicate (R330). -/
def Cluster.pred (c : Cluster) (w : Nat) : Pred :=
  let p := c.preg (bitsOf w 53 3)
  if bitOf w 52 then ~~~p else p

/-- Is a lane or a column enabled? -/
def enabled (p : Pred) (i : Nat) : Bool := p.getLsbD i

/-- The next instruction of a cluster. -/
def State.setPc (s : State) (p pc : Nat) : State := s.setCl p { s.cl p with pc := pc }

/-- An instruction issues (R323, R327, R330, R331, R347). `gated`: it executes only under bit 0 of its effective
predicate. Faults are found before any state changes; log entry 20 says in which order. Log: DEDUCED 20. -/
def State.execute (s : State) (p w : Nat) (legal gated : Bool) (f : State → Cluster → Effect) : State :=
  let c := s.cl p
  let s0 := (s.setCl p { c with shake := s.now }).wr (CL.STATE.PC p) c.pc
  if !legal then s0.clFault p pfIllegal
  else
    match (if gated && !enabled (c.pred w) 0 then Effect.done s0 else f s0 (s0.cl p)) with
    | .jump s pc => s.setPc p pc
    | .fault s code => s.clFault p code
    | .done s1 => if c.pc = 8191 then s0.clFault p pfPcEnd else s1.setPc p (c.pc + 1)
    | .wait s1 kind num u =>
      if c.pc = 8191 then s0.clFault p pfPcEnd
      else s1.beginWait p ⟨kind, BitVec.ofNat 64 w, u, s1.now⟩ num
    | .ended s1 => if c.pc = 8191 then s0.clFault p pfPcEnd else s1

/-- The instruction that a cluster is about to issue: none where it is not in RUN or waits.
Log: DESIGN CHOICE 42. -/
def State.fetch (s : State) (p : Nat) : Option Nat :=
  let c := s.cl p
  if s.clState p = clRun ∧ c.wait = none then some (c.instr c.pc).toNat else none

/-- A cluster issues an instruction of OPCODE `op`; where its next instruction is another, nothing happens.
Log: DEDUCED 20; DESIGN CHOICE 42. -/
def State.issue (s : State) (p op : Nat) (legal : Nat → Bool) (gated : Bool)
    (f : Nat → State → Cluster → Effect) : State :=
  match s.fetch p with
  | none => s
  | some w => if w / 2 ^ 56 = op then s.execute p w (legal w) gated (f w) else s

/-- A wait ends with the instruction's result: the next instruction follows. -/
def State.completeWait (s : State) (p : Nat) : State := (s.endWait p).setPc p ((s.cl p).pc + 1)

/-- The OPCODEs that the instruction set lists. Log: DESIGN CHOICE 42. -/
def opListed (op : Nat) : Bool :=
  decide (op ≤ 0x07) || (decide (0x20 ≤ op) && decide (op ≤ 0x31)) || (decide (0x40 ≤ op) && decide (op ≤ 0x5C)) ||
  (decide (0x60 ≤ op) && decide (op ≤ 0x64)) || (decide (0x80 ≤ op) && decide (op ≤ 0x82)) ||
  (decide (0xA0 ≤ op) && decide (op ≤ 0xA5)) || (decide (0xC0 ≤ op) && decide (op ≤ 0xCC))

/-- A program ends (R314): DONE, token OK. -/
def State.finish (s : State) (p : Nat) : State :=
  (((s.halt p clDone).clToken p 0).raise (CL.EVENT.DONE p))

/-- Operations outstanding under a tag. -/
def State.tagCount (s : State) (p t : Nat) : Nat := s.rd (tagField p t)

/-- Has every tag drained? -/
def State.allDrained (s : State) (p : Nat) : Bool := (List.range 8).all fun t => s.tagCount p t == 0

end Sys2Proof.Machine
end

