-- ==== Sys2Proof/Machine/Moves.lean ====
section
/-! DEFINITION. Moving bytes between a cluster's SRAM, device memory and companion memory, block by block (R350,
R354, R359, R362, R389, R393). -/
namespace Sys2Proof.Machine
open Sys2Proof

/-- One end of a transfer: a physical cluster's own SRAM, or a device address. -/
inductive Place
  | loc (p a : Nat)
  | dev (a : Nat)
  deriving DecidableEq, Repr

/-- The place `n` bytes further on. -/
def Place.add (x : Place) (n : Nat) : Place :=
  match x with
  | .loc p a => .loc p (a + n)
  | .dev a => .dev (a + n)

/-- The place's address. -/
def Place.addr : Place → Nat
  | .loc _ a => a
  | .dev a => a

/-- The end of the OPN that a place is at. -/
def State.placeNode (s : State) : Place → Node
  | .loc p _ => .die (p / 256)
  | .dev a => s.nodeOf a

/-- Does a place lie in companion memory? -/
def State.isLink (s : State) : Place → Bool
  | .loc _ _ => false
  | .dev a => match s.region a with | .companion _ => true | _ => false

/-- Read bytes at a place that is not in companion memory. -/
def State.readPlace (s : State) (req : Req) (x : Place) (n : Nat) (ups : List Upset) : State × Option (List Byte) :=
  match x with
  | .loc p a => (s.strikeSram p a n ups).sramRead p a n
  | .dev a => s.devRead req a n ups

/-- Write bytes at a place that is not in companion memory, as the holder `u` of slot buffers. -/
def State.writePlace (s : State) (req : Req) (u : BufUse) (x : Place) (l : List Byte) : State × Bool :=
  match x with
  | .loc p a => (s.sramWrite p a l, true)
  | .dev a => s.devWrite req u a l

/-- The lines of LPDDR5 at a place that the companion must be asked for first (R393). -/
def State.placeHeld (s : State) (write : Bool) (x : Place) (n : Nat) : List Nat :=
  match x with
  | .loc _ _ => []
  | .dev a => if a < s.lpEnd then s.heldLines write a n else []

/-- Their snoops sent. -/
def State.placeSnoop (s : State) (write : Bool) (x : Place) (n : Nat) : State :=
  (s.placeHeld write x n).foldl (fun s l => s.snoop write l) s

/-- Bytes from one place to the next 64-byte block boundary of either end. -/
def pieceLen (src dst : Place) (n : Nat) : Nat :=
  min n (min (64 - src.addr % 64) (64 - dst.addr % 64))

/-- `n` bytes moved block by block: it stops at the first block that cannot be read or written (R362). The state,
the bytes moved, and whether all were. -/
def State.moveBytes (s : State) (req : Req) (u : BufUse) (src dst : Place) (n : Nat) (ups : List Upset) :
    Nat → State × Nat × Bool
  | 0 => (s, 0, true)
  | fuel + 1 =>
    if n = 0 then (s, 0, true)
    else
      let k := pieceLen src dst n
      let r := s.readPlace req src k ups
      match r.2 with
      | none => (r.1, 0, false)
      | some l =>
        let w := r.1.writePlace req u dst l
        if w.2 then
          let s := w.1.opnCount (w.1.placeNode src) (w.1.placeNode dst) false k
          let m := s.moveBytes req u (src.add k) (dst.add k) (n - k) ups fuel
          (m.1, k + m.2.1, m.2.2)
        else (w.1, 0, false)

/-- Enough steps for `moveBytes`. -/
def moveFuel (n : Nat) : Nat := n / 32 + 4

/-! ### PUT and GET (R324, R339, R340) -/

/-- The tag count of a cluster changed. -/
def State.setTag (s : State) (p t n : Nat) : State := s.wr (tagField p t) n

/-- One operation under a tag fails (R340, R374). -/
def State.tagFail (s : State) (p t : Nat) : State :=
  let c := s.cl p
  (s.setCl p { c with fails := Tbl.put c.fails 0 t (Tbl.lookD c.fails 0 t + 1) }).jobFail (s.clJob p)

/-- An operation under a tag completes. -/
def State.tagDone (s : State) (p t : Nat) (counted ok : Bool) : State :=
  let s := if ok then s else if counted then s.tagFail p t else s.jobFail (s.clJob p)
  if counted then s.setTag p t (s.tagCount p t - 1) else s

/-- A transfer taken from its cluster's list and completed. -/
def State.xferDone (s : State) (p : Nat) (x : Xfer) (ok : Bool) : State :=
  let c := s.cl p
  (s.setCl p { c with xfers := c.xfers.filter fun y => y.id != x.id }).tagDone p x.tag x.counted ok

/-- The ends of a transfer: from and to. -/
def Xfer.ends (x : Xfer) (p : Nat) : Place × Place :=
  if x.put then (.loc p x.loc, .dev x.dev) else (.dev x.dev, .loc p x.loc)

/-- Does a transfer go over the Urdal link? -/
def State.xferLink (s : State) (x : Xfer) : Bool := s.isLink (.dev x.dev)

/-- A transfer that stays in the package: it waits for the lines that the companion holds, or moves its bytes and
completes. -/
def State.moveXfer (s : State) (p : Nat) (x : Xfer) (ups : List Upset) : State × Bool :=
  let e := x.ends p
  let held := s.placeHeld false e.1 x.len ++ s.placeHeld true e.2 x.len
  if held ≠ [] then ((s.placeSnoop false e.1 x.len).placeSnoop true e.2 x.len, false)
  else
    let r := s.moveBytes .cluster (.cluster p) e.1 e.2 x.len ups (moveFuel x.len)
    (r.1.xferDone p x r.2.2, true)

/-- The transfers under a tag that stay in the package, moved oldest first until one must wait. -/
def State.moveAll (s : State) (p : Nat) (ups : List Upset) : List Xfer → State
  | [] => s
  | x :: r =>
    let m := s.moveXfer p x ups
    if m.2 then m.1.moveAll p ups r else m.1

/-- A transfer's record replaced. -/
def State.setXfer (s : State) (p : Nat) (x : Xfer) : State :=
  let c := s.cl p
  s.setCl p { c with xfers := c.xfers.map fun y => if y.id = x.id then x else y }

/-- The next line of a transfer over the link requested, its completion where no byte is left, or its failure (R389). -/
def State.xferNext (s : State) (p : Nat) (x : Xfer) : State :=
  if x.len ≤ x.pos then s.xferDone p x true
  else if !s.linkServes then s.xferDone p x false
  else
    let a := x.dev + x.pos - 0x800000000000
    let k := min (x.len - x.pos) (64 - a % 64)
    if x.put then
      let r := s.sramRead p (x.loc + x.pos) k
      match r.2 with
      | some l => r.1.request { write := true, addr := a, len := k, who := .xfer p x.id, data := l }
      | none => r.1.xferDone p x false
    else s.request { write := false, addr := a, len := k, who := .xfer p x.id }

/-- A line of a transfer over the link is done: its bytes, for a GET, are stored, and the next is requested. -/
def State.xferStep (s : State) (p id : Nat) (l : List Byte) (ok : Bool) : State :=
  match (s.cl p).xfers.find? fun y => y.id == id with
  | none => s
  | some x =>
    if !ok then s.xferDone p x false
    else
      let a := x.dev + x.pos - 0x800000000000
      let k := min (x.len - x.pos) (64 - a % 64)
      let s := if x.put then s else s.sramWrite p (x.loc + x.pos) ((l.drop (a % 64)).take k)
      let s := s.opnCount (.die (p / 256)) .ftd false k
      let x := { x with pos := x.pos + k }
      (s.setXfer p x).xferNext p x

end Sys2Proof.Machine
end

