-- ==== Sys2Proof/Machine/Copies.lean ====
section
/-! DEFINITION. Copy descriptors and copy engines (R350, R361-R364, R389). -/
namespace Sys2Proof.Machine
open Sys2Proof

/-! ### Descriptors (R361, R362) -/

/-- A copy descriptor. -/
structure Desc where
  src    : Nat
  dst    : Nat
  len    : Nat
  rows   : Nat
  spitch : Nat
  dpitch : Nat
  op     : Nat
  qnum   : Nat
  pad    : Nat        -- the fields that are to be zero, together
  pat    : Nat
  status : Nat
  cookie : Nat
  deriving DecidableEq, Repr

/-- The fields of 64 bytes. Log: DEDUCED 48. -/
def Desc.ofBytes (l : List Byte) : Desc :=
  { src := bytesAt l 0 8, dst := bytesAt l 8 8, len := bytesAt l 16 4, rows := bytesAt l 20 4,
    spitch := bytesAt l 24 4, dpitch := bytesAt l 28 4, op := bytesAt l 32 1, qnum := bytesAt l 33 1,
    pad := bytesAt l 34 6 + bytesAt l 60 4, pat := bytesAt l 40 8, status := bytesAt l 48 8, cookie := bytesAt l 56 4 }

/-- Does a descriptor read memory? Log: DEDUCED 48. -/
def Desc.reads (d : Desc) : Bool := d.op != 1

/-- Bytes from row to row at the destination: a QUEUE copy packs its rows. -/
def Desc.step (d : Desc) : Nat := if d.op = 2 then d.len else d.dpitch

/-- The extent of a side (R362). -/
def extent (rows pitch len : Nat) : Nat := (rows - 1) * pitch + len

/-- Is a descriptor INVALID (R362)? Log: DEDUCED 48. -/
def Desc.invalid (d : Desc) : Bool :=
  d.pad != 0 || decide (2 < d.op) || decide (63 < d.qnum) || (d.op != 2 && d.qnum != 0) || (d.op != 1 && d.pat != 0) ||
  decide (2 ^ 48 ≤ d.status) || d.status % 8 != 0 || d.len % 8 != 0 ||
  (d.reads && (decide (2 ^ 48 ≤ d.src) || d.src % 8 != 0 || d.spitch % 8 != 0 ||
    (decide (1 < d.rows) && decide (d.spitch < d.len)))) ||
  (if d.op = 2 then d.dst != 0 || decide (bufBytes < d.len * d.rows)
   else decide (2 ^ 48 ≤ d.dst) || d.dst % 8 != 0 || d.dpitch % 8 != 0 ||
     (decide (1 < d.rows) && decide (d.dpitch < d.len))) ||
  (d.op == 0 && d.len != 0 && d.rows != 0 &&
    decide (d.src < d.dst + extent d.rows d.dpitch d.len) && decide (d.dst < d.src + extent d.rows d.spitch d.len))

/-- Does a descriptor move nothing (R363)? -/
def Desc.empty (d : Desc) : Bool := d.len == 0 || d.rows == 0

/-- The regions of R349, by number. -/
def Region.kind : Region → Nat
  | .lpddr => 0
  | .buffer q b _ => 16 + 8 * q + b
  | .sram _ _ => 1
  | .companion _ => 2
  | .unmapped => 3

/-- Do all rows of a side lie in one region, in bytes that exist (R350)? -/
def State.rowsOk (s : State) (a rows pitch len : Nat) : Bool :=
  (List.range rows).all fun r =>
    s.inRegion (a + r * pitch) len && (s.region (a + r * pitch)).kind == (s.region a).kind

/-- A descriptor whose addresses R350 and R528 refuse, for the writer `u`. -/
def State.descRange (s : State) (d : Desc) (u : BufUse) : Bool :=
  (d.reads && (!s.rowsOk d.src d.rows d.spitch d.len ||
    (match s.region d.src with | .buffer _ _ _ => true | _ => false))) ||
  (d.op != 2 && (!s.rowsOk d.dst d.rows d.dpitch d.len ||
    (match s.region d.dst with | .buffer q b _ => !s.holds u q b | _ => false)))

/-! ### Engines (R364) -/

/-- The 16 FTD engines are 64-79 of CPY.SEL; the die engines 8d + i. Log: DEDUCED 82. -/
def ftdEngine (n : Nat) : Nat := 64 + n

/-- An engine's record. -/
def State.engine (s : State) (e : Nat) : Engine := Tbl.lookD s.comp.engines {} e

/-- An engine's record replaced. -/
def State.setEngine (s : State) (e : Nat) (x : Engine) : State :=
  { s with comp := { s.comp with engines := Tbl.put s.comp.engines {} e x } }

/-- The base of an FTD engine's ring. -/
def State.ringBase (s : State) (n : Nat) : Nat := s.rd (CPY.E_RING_LO.ADDR n) + 2 ^ 32 * s.rd (CPY.E_RING_HI.ADDR n)

/-- Descriptors queued or running on an engine. -/
def State.queued (s : State) (e : Nat) : Nat :=
  if e < 64 then (s.engine e).queue.length
  else if s.rd (CPY.E_RING_HI.LOG2N (e - 64)) = 0 then 0
  else (s.rd (CPY.E_PROD.PROD (e - 64)) + 65536 - s.rd (CPY.E_CONS.CONS (e - 64))) % 65536

/-- CPY.SEL_STAT.QUEUED of an engine, which saturates. -/
def State.showQueued (s : State) (e : Nat) : State := s.wrSat (CPY.SEL_STAT.QUEUED e) (s.queued e)

/-- The requester an engine is. -/
def engineReq (e : Nat) : Req := if e < 64 then .dieEngine else .ftdEngine

/-- The descriptor an engine runs. Log: DEDUCED 48. -/
def State.curDesc (s : State) (e : Nat) : Option Desc :=
  if e < 64 then (s.engine e).queue.head?.map fun q => Desc.ofBytes q.desc
  else (s.engine e).cur.map Desc.ofBytes

/-- The holder of slot buffers that the current copy is (R528): the cluster that issued it, or the QUEUE copy. -/
def State.engineUse (s : State) (e : Nat) (d : Desc) : BufUse :=
  if d.op = 2 then .engine e
  else match (s.engine e).queue.head? with
    | some q => .cluster q.cluster
    | none => .engine e

/-- Where row `r`, offset `o` of a copy comes from and goes to. -/
def State.rowEnds (s : State) (e : Nat) (d : Desc) (r o : Nat) : Place × Place :=
  let base := match (s.engine e).held with
    | some h => 0x10000000000 + 0x8000 * (8 * h.1 + h.2)
    | none => d.dst
  (.dev (d.src + r * d.spitch + o), .dev ((if d.op = 2 then base else d.dst) + r * d.step + o))

/-- Does either end of a copy lie in companion memory? -/
def State.copyLink (s : State) (d : Desc) : Bool :=
  (d.reads && s.isLink (.dev d.src)) || (d.op != 2 && s.isLink (.dev d.dst))

/-- The fill pattern's bytes from a byte of the row. -/
def fillBytes (pat o n : Nat) : List Byte := (List.range n).map fun i => BitVec.ofNat 8 (bitsOf pat (8 * ((o + i) % 8)) 8)

/-- A code that the current copy is bound to end with. -/
def State.setCode (s : State) (e : Nat) (c : CopyCode) : State := s.setEngine e { s.engine e with code := some c }

/-- The next line of a copy over the link (R389): read or requested, written or requested. -/
def State.copyNext (s : State) (e : Nat) (d : Desc) : State :=
  let x := s.engine e
  if x.code ≠ none ∨ d.len * d.rows ≤ x.pos then s
  else if !s.linkServes then s.setCode e .link
  else
    let o := x.pos % d.len
    let p := s.rowEnds e d (x.pos / d.len) o
    let k := if d.reads then pieceLen p.1 p.2 (d.len - o) else min (d.len - o) (64 - p.2.addr % 64)
    if d.reads && s.isLink p.1 then
      s.request { write := false, addr := p.1.addr - 0x800000000000, len := k, who := .engine e }
    else
      let r := if d.reads then s.readPlace (engineReq e) p.1 k [] else (s, some (fillBytes d.pat o k))
      match r.2 with
      | none => r.1.setCode e .uncorr
      | some l => r.1.request { write := true, addr := p.2.addr - 0x800000000000, len := k, who := .engine e, data := l }

/-- Is an engine of the FTD stopped by a fault in its registers (R480)? -/
def State.copyStopped (s : State) (e : Nat) : Bool :=
  decide (64 ≤ e) && s.heldBy fun o _ => decide (0x110000 + 16 * (e - 64) ≤ o) && decide (o < 0x110010 + 16 * (e - 64))

/-- A descriptor begins (R361, R364): read from the ring, tested, its buffer reserved or waited for, its first line
over the link requested. -/
def State.engineBegin (s : State) (e : Nat) : State :=
  if s.queued e = 0 ∨ s.copyStopped e then s.setEngine e { s.engine e with cur := none, held := none, pos := 0, code := none }
  else
    let n := e - 64
    let s := s.setEngine e { s.engine e with cur := none, held := none, pos := 0, code := none }
    let s := if e < 64 then s else
      let a := s.ringBase n + 64 * (s.rd (CPY.E_CONS.CONS n) % 2 ^ s.rd (CPY.E_RING_HI.LOG2N n))
      if !s.inRegion a 64 then s.setCode e .range
      else
        let r := s.devRead .ftdEngine a 64 []
        match r.2 with
        | some l => r.1.setEngine e { r.1.engine e with cur := some l }
        | none => r.1.setCode e .uncorr
    match s.curDesc e with
    | none => s
    | some d =>
      if e < 64 ∧ ((s.engine e).queue.head?.map fun q => q.desc.length) ≠ some 64 then s.setCode e .uncorr
      else if d.invalid then s.setCode e .invalid
      else if d.empty then s
      else if s.descRange d (s.engineUse e d) then s.setCode e .range
      else
        let s := if d.op = 2 then
            match s.reserve d.qnum (.engine e) with
            | some r => r.2.setEngine e { r.2.engine e with held := some (d.qnum, r.1) }
            | none => s
          else s
        if d.op = 2 ∧ (s.engine e).held = none then s
        else if s.copyLink d then s.copyNext e d else s

/-- A line of a copy over the link is done, with the bytes of a read. Log: DEDUCED 49. -/
def State.copyStep (s : State) (e : Nat) (read : Bool) (l : List Byte) (ok : Bool) : State :=
  match s.curDesc e with
  | none => s
  | some d =>
    if !ok then s.setCode e .link
    else
      let x := s.engine e
      let o := x.pos % d.len
      let p := s.rowEnds e d (x.pos / d.len) o
      let k := if d.reads then pieceLen p.1 p.2 (d.len - o) else min (d.len - o) (64 - p.2.addr % 64)
      let data := (l.drop (p.1.addr % 64)).take k
      if read && s.isLink p.2 then
        s.request { write := true, addr := p.2.addr - 0x800000000000, len := k, who := .engine e, data := data }
      else
        let w := if read then s.writePlace (engineReq e) (s.engineUse e d) p.2 data else (s, true)
        let s := w.1.opnCount (w.1.placeNode p.1) (w.1.placeNode p.2) false k
        if w.2 then (s.setEngine e { s.engine e with pos := x.pos + k }).copyNext e d else s.setCode e .uncorr

/-- The rows of a copy that stays in the package, from row `r`: the state, the rows completed, and whether all were.
Log: DEDUCED 49. -/
def State.copyRows (s : State) (e : Nat) (d : Desc) (ups : List Upset) (r : Nat) : Nat → State × Nat × Bool
  | 0 => (s, r, true)
  | n + 1 =>
    let p := s.rowEnds e d r 0
    let m := if d.reads then s.moveBytes (engineReq e) (s.engineUse e d) p.1 p.2 d.len ups (moveFuel d.len)
      else
        let w := s.writePlace (engineReq e) (s.engineUse e d) p.2 (fillBytes d.pat 0 d.len)
        (w.1, d.len, w.2)
    if m.2.2 then m.1.copyRows e d ups (r + 1) n else (m.1, r, false)

/-- The lines that the companion must give up before a copy can be done (R393). Log: DEDUCED 49. -/
def State.copyHeld (s : State) (d : Desc) : Bool :=
  (d.reads && (s.placeHeld false (.dev d.src) (extent d.rows d.spitch d.len)) != []) ||
  (d.op != 2 && (s.placeHeld true (.dev d.dst) (extent d.rows d.dpitch d.len)) != [])

/-- The status word written last (R362). A write that fails leaves the code as it is. Log: DEDUCED 48. -/
def State.writeStatus (s : State) (e : Nat) (d : Desc) (code rows : Nat) : State :=
  if d.status = 0 ∨ 2 ^ 48 ≤ d.status ∨ d.status % 8 ≠ 0 then s
  else
    let l := leBytes 1 code ++ leBytes 3 (min rows 0xFFFFFF) ++ leBytes 4 d.cookie
    match s.region d.status with
    | .companion a => if s.linkServes then
        s.request { write := true, addr := a, len := 8, who := .posted, data := l } else s
    | .buffer _ _ _ => s
    | _ => if s.inRegion d.status 8 then (s.devWrite (engineReq e) .free d.status l).1 else s

/-- A copy ends (R362-R364): its status, its buffer, its counts, its tag, and the next descriptor begins.
Log: DEDUCED 48. -/
def State.copyEnd (s : State) (e : Nat) (d : Option Desc) (code : CopyCode) (rows : Nat) : State :=
  let x := s.engine e
  let s := match d with
    | some d =>
      let s := match x.held with
        | some h => if code = CopyCode.ok then s.commit h.1 h.2 (d.len * d.rows) else s.release h.1 h.2
        | none => s
      if code ≠ CopyCode.invalid ∧ d.empty then s else s.writeStatus e d code.num rows
    | none => s
  let s := s.wr (CPY.SEL_STAT.LAST_CODE e) code.num
  let s := if code = CopyCode.ok then s else s.bump (CPY.SEL_STAT.FAILED e)
  let s := match code with
    | .invalid => s.raise CPY.EVENT.INVALID
    | .range => (s.raise CPY.EVENT.FAIL).raise OPN.EVENT.RANGE
    | .uncorr => s.raise CPY.EVENT.FAIL
    | .link => s.raise CPY.EVENT.FAIL
    | _ => s
  let bytes := match d with | some d => if code = CopyCode.ok then d.len * d.rows else rows * d.len | none => 0
  if e < 64 then
    let s := (s.count (ctrDie (e / 8)) 0x110 (e % 8) bytes)
    let s := if code = CopyCode.ok then s else s.count (ctrDie (e / 8)) 0x111 (e % 8)
    match x.queue with
    | [] => s
    | q :: r =>
      let s := s.setEngine e { x with queue := r, held := none }
      ((s.tagDone q.cluster q.tag q.counted (code == CopyCode.ok)).engineBegin e).showQueued e
  else
    let s := (s.bump (CPY.E_CONS.CONS (e - 64))).wr (CPY.E_CONS.LAST_CODE (e - 64)) code.num
    ((s.setEngine e { x with held := none }).engineBegin e).showQueued e

/-- The copy that engine `e` runs ends; `ups` are the upsets its reads find. A copy that still waits for
a buffer, for the link or for a snoop does not end. -/
def State.copyTick (s : State) (e : Nat) (ups : List Upset) : State :=
  if s.queued e = 0 then s
  else
    let x := s.engine e
    match s.curDesc e, x.code with
    | d, some code =>
      s.copyEnd e d code (match d with | some d => if d.len = 0 then 0 else x.pos / d.len | none => 0)
    | none, none => s
    | some d, none =>
      if d.empty then s.copyEnd e (some d) .ok 0
      else if d.op = 2 ∧ x.held = none then s
      else if s.copyLink d then
        if x.pos < d.len * d.rows then s else s.copyEnd e (some d) .ok d.rows
      else if s.copyHeld d then
        (if d.reads then s.placeSnoop false (.dev d.src) (extent d.rows d.spitch d.len) else s).placeSnoop true
          (.dev d.dst) (if d.op = 2 then 0 else extent d.rows d.dpitch d.len)
      else
        let m := s.copyRows e d ups 0 d.rows
        m.1.copyEnd e (some d) (if m.2.2 then .ok else .uncorr) m.2.1

/-- Engines of the FTD that a fault had stopped begin again (R481). -/
def State.restartCopies (s : State) : State :=
  (List.range 12).foldl (fun s n =>
    let e := ftdEngine n
    let x := s.engine e
    if s.queued e = 0 ∨ s.copyStopped e ∨ x.cur.isSome ∨ x.code.isSome then s else (s.engineBegin e).showQueued e) s

/-- COPY_COMPLETE. Log: DESIGN CHOICE 7. -/
def execCopyComplete (e : Fin 80) (ups : List Upset) (s : State) : Result := .next (s.copyTick e ups)

/-- A write of CPY.E<n>_PROD: an idle engine begins the descriptor at CONS. -/
def State.prodWrite (s : State) (n v : Nat) : State :=
  let idle := s.queued (ftdEngine n) == 0
  let s := s.wr (CPY.E_PROD.PROD n) v
  (if idle then s.engineBegin (ftdEngine n) else s).showQueued (ftdEngine n)

/-- The die engine that a CPY goes to: the fewest queued, lowest number first; none while all 8 queues of 16 are full. -/
def State.pickEngine (s : State) (die : Nat) : Option Nat :=
  let l := (List.range 8).map fun i => 8 * die + i
  let m := (l.map s.queued).foldl min 16
  if 16 ≤ m then none else l.find? fun e => s.queued e == m

/-- A descriptor queued at a die engine. -/
def State.enqueue (s : State) (e : Nat) (q : DieCopy) : State :=
  let idle := s.queued e == 0
  let s := s.setEngine e { s.engine e with queue := (s.engine e).queue ++ [q] }
  (if idle then s.engineBegin e else s).showQueued e

end Sys2Proof.Machine
end

