-- ==== Sys2Proof/Machine/Rings.lean ====
section
/-! DEFINITION. Receive rings, fell registers, the gather tree's records and the patrol scrubber (R355, R365-R375). -/
namespace Sys2Proof.Machine
open Sys2Proof

/-! ### Receive rings (R365-R367) -/

/-- A ring's hidden part. -/
def State.ring (s : State) (r : Nat) : Ring := Tbl.lookD s.comp.rings {} r

/-- Entries in a given use. -/
def Ring.countUse (x : Ring) (u : EntryUse) : Nat := (x.entries.filter fun e => e.2.use == u).length

/-- A ring's hidden part replaced, and the counts that RING_STAT shows. -/
def State.setRing (s : State) (r : Nat) (x : Ring) : State :=
  let s := { s with comp := { s.comp with rings := Tbl.put s.comp.rings {} r x } }
  (s.wr (MEM.RING_STAT.WRITTEN r) (x.countUse .written)).wr (MEM.RING_STAT.CLAIMED r) (x.countUse .claimed)

/-- A ring's base. -/
def State.rxBase (s : State) (r : Nat) : Nat := s.rd (MEM.RING_BASE_LO.ADDR r) + 2 ^ 32 * s.rd (MEM.RING_BASE_HI.ADDR r)

/-- Bytes of an entry (R365). -/
def State.rxStride (s : State) (r : Nat) : Nat := 64 * (1 + s.rd (MEM.RING_CFG.SLOT64 r))

/-- A ring's configuration that R367 refuses. -/
def State.ringRefused (s : State) (base entries slot64 : Nat) : Bool :=
  base % 64 != 0 || decide (s.lpEnd ≤ base) || slot64 == 0 || decide (392 < slot64) ||
  (entries != 0 && decide (s.lpEnd < base + entries * 64 * (1 + slot64)))

/-- A ring reset (R367): every entry FREE; claims of it are overwritten ones. -/
def State.resetRing (s : State) (r : Nat) : State :=
  s.setRing r { s.ring r with entries := [], pos := 0 }

/-- A write of a ring's base or configuration. -/
def State.ringWrite (s : State) (r : Nat) (reg : RingReg) (v : Nat) : State :=
  let lo := s.rd (MEM.RING_BASE_LO.ADDR r)
  let hi := s.rd (MEM.RING_BASE_HI.ADDR r)
  let en := s.rd (MEM.RING_CFG.ENTRIES r)
  let sl := s.rd (MEM.RING_CFG.SLOT64 r)
  match reg with
  | .baseLo =>
    if s.ringRefused (v + 2 ^ 32 * hi) en sl then s.raise MEM.EVENT.CFG_ERR
    else (s.wr (MEM.RING_BASE_LO.ADDR r) v).resetRing r
  | .baseHi =>
    if s.ringRefused (lo + 2 ^ 32 * (v % 65536)) en sl then s.raise MEM.EVENT.CFG_ERR
    else (s.wr (MEM.RING_BASE_HI.ADDR r) v).resetRing r
  | .cfg =>
    if s.ringRefused (lo + 2 ^ 32 * hi) (bitsOf v 16 11) (bitsOf v 0 9) then s.raise MEM.EVENT.CFG_ERR
    else
      let s := (s.wr (MEM.RING_CFG.JOB_EN r) (bitsOf v 31 1)).wr (MEM.RING_CFG.JOB r) (bitsOf v 28 3)
      ((s.wr (MEM.RING_CFG.ENTRIES r) (bitsOf v 16 11)).wr (MEM.RING_CFG.SLOT64 r) (bitsOf v 0 9)).resetRing r

/-- The oldest WRITTEN entry of a ring: its index and its record. -/
def Ring.oldest (x : Ring) : Option (Nat × RingEntry) :=
  x.entries.foldl (fun best e =>
    if e.2.use == .written then
      match best with
      | some b => if e.2.gen < b.2.gen then some e else best
      | none => some e
    else best) none

/-- The oldest WRITTEN entry claimed (R366). -/
def State.claim (s : State) (r : Nat) : Option (Claim × State) :=
  (s.ring r).oldest.map fun e =>
    let x := s.ring r
    (⟨s.rxBase r + e.1 * s.rxStride r, r, e.1, e.2.gen⟩,
      s.setRing r { x with entries := Tbl.set x.entries e.1 { e.2 with use := .claimed } })

/-- Has an entry been overwritten since it was claimed (R366)? -/
def State.overwritten (s : State) (c : Claim) : Bool :=
  Tbl.look (s.ring c.ring).entries c.idx != some { use := .claimed, gen := c.gen }

/-- An entry freed. -/
def State.freeEntry (s : State) (r i : Nat) : State :=
  let x := s.ring r
  s.setRing r { x with entries := Tbl.del x.entries i }

/-- A read of MEM.RING_CLAIM. -/
def State.claimRead (s : State) (r : Nat) : State :=
  match s.claim r with
  | some c => (c.2.wr (MEM.RING_CLAIM.VALID r) 1).wr (MEM.RING_CLAIM.INDEX r) c.1.idx
  | none => (s.wr (MEM.RING_CLAIM.VALID r) 0).wr (MEM.RING_CLAIM.INDEX r) 0

/-- RING_CLAIM: of the ring that the requester's bank selects. -/
def execRingClaim (b : Bank) (s : State) : Result := .next (s.claimRead (s.rd (MEM.RING_SEL.RING b.num)))

/-- A write of MEM.RING_RELEASE: an entry that is not CLAIMED is ignored. -/
def State.ringRelease (s : State) (r i : Nat) : State :=
  match Tbl.look (s.ring r).entries i with
  | some e => if e.use = .claimed then s.freeEntry r i else s
  | none => s

/-- RING_RELEASE: of the ring that the requester's bank selects. -/
def execRingRelease (b : Bank) (index : BitVec 11) (s : State) : Result :=
  .next (s.ringRelease (s.rd (MEM.RING_SEL.RING b.num)) index.toNat)

/-! ### Fell streams (R368, R369) -/

/-- A stream's base. -/
def State.fellBase (s : State) (f : Nat) : Nat :=
  s.rd (MEM.FELL_BASE_LO.ADDR f) + 2 ^ 32 * s.rd (MEM.FELL_BASE_HI.ADDR f)

/-- A base that the register refuses: not a multiple of 4, or outside LPDDR5 and local SRAM. -/
def State.fellBaseBad (s : State) (a : Nat) : Bool :=
  a % 4 != 0 || (match s.region a with
    | .lpddr => false
    | .sram _ off => decide (sramBytes ≤ off)
    | _ => true)

/-- A write of a stream's register. -/
def State.fellWrite (s : State) (f : Nat) (reg : FellReg) (v : Nat) : State :=
  let refuse := s.raise MEM.EVENT.CFG_ERR
  match reg with
  | .baseLo =>
    if s.fellBaseBad (v + 2 ^ 32 * s.rd (MEM.FELL_BASE_HI.ADDR f)) then refuse else s.wr (MEM.FELL_BASE_LO.ADDR f) v
  | .baseHi =>
    if s.fellBaseBad (s.rd (MEM.FELL_BASE_LO.ADDR f) + 2 ^ 32 * (v % 65536)) then refuse
    else s.wr (MEM.FELL_BASE_HI.ADDR f) v
  | .len =>
    let s := s.wr (MEM.FELL_LEN.LENGTH f) v
    if v ≤ s.rd (MEM.FELL_CUR.CURSOR f) then s.wr (MEM.FELL_CUR.CURSOR f) 0 else s
  | .cfg =>
    if bitsOf v 0 14 = 0 then refuse
    else
      let s := (s.wr (MEM.FELL_CFG.JOB_EN f) (bitsOf v 31 1)).wr (MEM.FELL_CFG.JOB f) (bitsOf v 28 3)
      (s.wr (MEM.FELL_CFG.FMT f) (bitsOf v 14 1)).wr (MEM.FELL_CFG.ADV f) (bitsOf v 0 14)
  | .cur => if s.rd (MEM.FELL_LEN.LENGTH f) ≤ v then refuse else s.wr (MEM.FELL_CUR.CURSOR f) v
  | .stripe => if 393216 < bitsOf v 0 19 then refuse else s.wr (MEM.FELL_STRIPE.PER f) v

/-! ### The patrol scrubber (R355) -/

/-- MEM_SCRUB: the next block is read; a corrected error is written back, an uncorrectable block logged and marked. -/
def execMemScrub (ups : List Upset) (s : State) : Result :=
  if ¬ s.on MEM.CTRL.SCRUB_EN ∨ s.heldBy (fun o _ => o == MEM.CTRL.base) then .next s
  else
    let b := s.comp.scrub
    let s := { s with comp := { s.comp with scrub := (b + 1) % (s.lpEnd / 64) } }
    let s := s.strikeLp (64 * b) 64 ups
    .next (if s.comp.lpddr.isBad b then s.reportUncorr .scrubber b else s)

/-! ### The gather tree (R372, R373, R375) -/

/-- The bits set in a 2,048-bit vector. -/
def vecCount (v : Nat) : Nat := ((List.range 2048).filter (bitOf v)).length

/-- The completion record of a job (R373). -/
def Job.record (x : Job) (j : Nat) : Record :=
  let first := (List.range 2048).find? (bitOf x.bad)
  let code := match first with | some n => Tbl.lookD x.codes 0 n | none => 0
  x.start % 2 ^ 64 * 2 ^ 64 + code * 2 ^ 56 + first.getD 2047 * 2 ^ 45 +
    (vecCount x.done - vecCount x.bad) * 2 ^ 34 + vecCount x.bad * 2 ^ 23 + bit x.opfail * 2 ^ 22 + j * 2 ^ 19

/-- Records in the FIFO (GTH.STAT.REC_WAIT). -/
def State.setRecords (s : State) (l : List Record) : State :=
  ({ s with comp := { s.comp with records := l } }).wr GTH.STAT.REC_WAIT l.length

/-- A record enters the FIFO: MC0 reports it, and its trigger is free again (R375, R400, R404). -/
def State.deliver (s : State) (r : Record) : State :=
  let j := bitsOf r 19 3
  ((s.setRecords (s.comp.records ++ [r])).jobNotice j 2 0 r).freeTrigger j

/-- COMPLETION_RECORD: the last token of a job has arrived. A record that finds the FIFO full waits in the tree. -/
def execCompletionRecord (j : Fin 8) (t : Nat) (s : State) : Result :=
  let s := s.advance t
  let x := s.job j
  if x.stage = .running ∧ (maskList x.mask).all (fun n => bitOf x.done n) then
    let r := x.record j
    if s.comp.stalled.any fun q => bitsOf q 19 3 == j.val then .next s
    else if s.comp.records.length < 16 then .next (s.deliver r)
    else .next (({ s with comp := { s.comp with stalled := s.comp.stalled ++ [r] } }).bump GTH.STAT.STALLS)
  else .next s

/-- A mailbox selection of GTH.REC: the oldest record is removed and presented; a record that waits in the tree takes its
room. -/
def State.selectRec (s : State) (b : Bank) : State :=
  match s.comp.records with
  | [] => s.mbxStart b GTH.REC.base 0 false
  | r :: l =>
    let s := (s.setRecords l).mbxStart b GTH.REC.base r false
    match s.comp.stalled with
    | [] => s
    | q :: k => ({ s with comp := { s.comp with stalled := k } }).deliver q

/-- GTH_REC_SELECT. -/
def execGthRecSelect (b : Bank) (s : State) : Result := .next (s.selectRec b)

end Sys2Proof.Machine
end

