-- ==== Sys2Proof/Machine/FabricOps.lean ====
section
/-! DEFINITION. Operations that the fabric's chapters share: whether its blocks run, links and ports, slots ended early
(R120, R126), entries of the Pattern Book and the slots that they claim (R89, R92-R97). -/
namespace Sys2Proof.Machine
open Sys2Proof

/-! ### Which blocks run (R415, R450, R454) -/

/-- PWR.STATE's codes (R421). -/
def pwActive : Nat := 0
def pwHush : Nat := 1
def pwDark : Nat := 2
def pwBoot : Nat := 3

/-- BOOT.STATUS.PHASE's codes (R450). -/
def phBringup : Nat := 6
def phLockWait : Nat := 7
def phDone : Nat := 8
def phStuck : Nat := 15

/-- The main domain is out of reset. -/
def State.mainUp (s : State) : Bool :=
  let p := s.rd BOOT.STATUS.PHASE
  (p == phBringup || p == phLockWait || p == phDone) && s.rd PWR.STATE.STATE != pwDark && s.sys.reset != some 1

/-- The fabric's blocks run: the main domain is up, no FABRIC reset is in progress, and no FATAL event has stopped them
(R228). -/
def State.fabUp (s : State) : Bool := s.mainUp && s.sys.reset != some 2 && !s.fab.dark

/-- A cluster of some die can run: no COMPUTE reset is in progress. -/
def State.compUp (s : State) : Bool := s.mainUp && s.sys.reset != some 3

/-! ### Links and ports (R133) -/

/-- Links 0-15 are optical. -/
def optical (l : Nat) : Bool := l < 16

/-- Bytes a slot of a link carries (R88). -/
def slotCap (l : Nat) : Nat := if optical l then 2848 else 25088

/-- A port's engine, and its bit in PORT_EN. -/
def State.portEn (s : State) (p : Nat) : Bool := bitOf (s.rd (OPE.CTRL.PORT_EN (p / 4))) (p % 4)

/-- A port's block is in its safe state, or the port is disabled (R218, R480). Log: DEDUCED 86. -/
def State.portOff (s : State) (p : Nat) : Bool := !s.portEn p || s.unsafeBlock (4 + p / 4)

/-- A copper link's safe state: its own, or that of the shared registers, which report as CU_XP (R480). -/
def State.cuOff (s : State) (k : Nat) : Bool :=
  s.unsafeBlock (10 + k) || s.heldBy fun o _ => decide (0xA8000 ≤ o) && decide (o < 0xB0000)

/-- The Pattern Book's safe state. -/
def State.pbOff (s : State) : Bool := s.unsafeBlock 3

/-- The start of a slot. -/
def slotStart (n : Nat) : Nat := n * Config.slotTime

/-- The cut-off of a slot comes 512 ns before it; of slots 0 and 1, with the counter at zero. -/
def cutoffOf (n : Nat) : Nat := slotStart n - Config.ns 512

/-- A router index's neighbours: colour from `i` to `j` (R29). -/
def colourTo (i j : Nat) : Nat := (j + 32 - i % 32) % 32

/-- A port's router index. -/
def State.portIndex (s : State) (p : Nat) : Nat := s.rd (OPE.P_ROUTE.INDEX p)

/-- The site at an index of a port's router (R442). -/
def State.site (s : State) (p j : Nat) : Option Site :=
  Tbl.look s.fab.cut.sites (32 * s.rd (OPE.P_ROUTE.ROUTER p) + j % 32)

/-- The recorded flight time from sender index `j` to a port (R151). -/
def State.flight (s : State) (p j : Nat) : Option Nat :=
  Tbl.look s.fab.cut.flight (1024 * s.rd (OPE.P_ROUTE.ROUTER p) + 32 * j + s.portIndex p)

/-! ### Resolved slots -/

/-- The plan of a slot. -/
def State.plan (s : State) (n : Nat) : Plan := Tbl.lookD s.book.plans {} n

/-- The plan of a slot replaced. -/
def State.setPlan (s : State) (n : Nat) (x : Plan) : State :=
  { s with book := { s.book with plans := Tbl.put s.book.plans {} n x } }

/-- What a link sends in a slot. -/
def Plan.txOf (x : Plan) (l : Nat) : TxAct := Tbl.lookD x.tx .quiet l

/-- What a link receives in a slot. -/
def Plan.rxOf (x : Plan) (l : Nat) : RxAct := Tbl.lookD x.rx .none l

/-- An accepted slot that was cut short or silenced (R120, R126): counted against its link. Log: DEDUCED 64. -/
def State.txAbort (s : State) (l : Nat) : State :=
  let s := s.bump (PB.L_COUNTS2.TX_ABORT l)
  if optical l then s.raise (OPE.EVENT.TX_ABORT (l / 4)) else s

/-- A link's slot of a plan ended early: an accepted one is counted. -/
def State.cutLink (s : State) (n l : Nat) : State :=
  let x := s.plan n
  if x.cut.contains l then s
  else
    match x.txOf l with
    | .quiet => s
    | .send _ _ _ _ => (s.setPlan n { x with cut := x.cut ++ [l] }).txAbort l
    | _ => s.setPlan n { x with cut := x.cut ++ [l] }

/-- A link stops sending. -/
def State.silence (s : State) (l : Nat) : State :=
  let s := { s with book := { s.book with sent := Tbl.del s.book.sent l } }
  if optical l then (s.wr (OPE.P_STAT.OSEL l) 15).wr (OPE.P_STAT.TX_ACTIVE l) 0 else s

/-- Every slot of some links that has not ended, ended early (R126). Log: DEDUCED 64. -/
def State.cutLinks (s : State) (which : Nat → Bool) : State :=
  let live := s.book.plans.filter fun r => decide (s.now < slotStart (r.1 + 1))
  let s := live.foldl (fun s r => (r.2.tx.filter fun a => which a.1).foldl (fun s a => s.cutLink r.1 a.1) s) s
  ((List.range 22).filter which).foldl (fun s l => s.silence l) s

/-- A receive entry executed as QUIET (R121). -/
def State.rxQuieted (s : State) (l : Nat) : State :=
  (s.bump (PB.L_COUNTS2.RX_QUIETED l)).count ctrFtd 0x025 l

/-- The receive entries of some links in resolved slots that have not begun, executed as QUIET. -/
def State.quietRx (s : State) (which : Nat → Bool) : State :=
  let later := s.book.plans.filter fun r => decide (s.now < slotStart r.1)
  later.foldl (fun s r =>
    (r.2.rx.filter fun a => which a.1 && a.2 != .quiet && a.2 != .none).foldl (fun s a =>
      let x := s.plan r.1
      (s.setPlan r.1 { x with rx := Tbl.set x.rx a.1 .quiet }).rxQuieted a.1) s) s

/-! ### Entries of a leaf (R92-R97) -/

/-- A leaf entry. -/
structure Entry where
  op     : Nat
  link   : Nat
  peer   : Nat
  queue  : Nat
  offset : Nat
  run    : Nat
  stride : Nat
  times  : Nat
  deriving DecidableEq, Repr

/-- The fields of an entry's 64 bits (R92). -/
def Entry.ofBits (w : Nat) : Entry :=
  { op := bitsOf w 61 3, link := bitsOf w 56 5, peer := bitsOf w 51 5, queue := bitsOf w 45 6,
    offset := bitsOf w 29 16, run := bitsOf w 17 12, stride := bitsOf w 5 12, times := bitsOf w 0 5 }

/-- The operations of R92. -/
def opStitch : Nat := 0
def opTake : Nat := 1
def opFell : Nat := 2
def opRelay : Nat := 3
def opTransit : Nat := 4
def opQuiet : Nat := 5
def opLeafEnd : Nat := 6

/-- The entries up to LEAF_END, in index order (R96). An entry that is not listed is zero, and so disabled. -/
def liveEntries : Tbl Nat → List (Nat × Entry)
  | [] => []
  | (i, w) :: r => if bitsOf w 61 3 = opLeafEnd then [] else (i, Entry.ofBits w) :: liveEntries r

/-- The cycle slot of hall slot `n` (R89). -/
def cycleSlot (len align n : Nat) : Nat := if len = 0 then 0 else (((n : Int) - align) % (len : Int)).toNat

/-- Does an entry claim a cycle slot (R94, R95)? -/
def Entry.claims (e : Entry) (len c : Nat) : Bool :=
  if e.run = 0 ∨ c < e.offset then false
  else
    let d := c - e.offset
    let m := if e.times = 1 ∨ e.stride = 0 then 0 else d / e.stride
    let r := d - m * e.stride * bit (e.times != 1)
    decide (r < e.run) &&
      (if e.times = 0 then decide (e.offset + m * e.stride + e.run ≤ len) else decide (m < e.times))

/-- Is a claim one of transmit on a link (R93)? -/
def Entry.txOn (e : Entry) (l : Nat) : Bool :=
  if e.op = opStitch ∨ e.op = opQuiet then e.link == l
  else if e.op = opTransit then 16 + e.peer == l
  else false

/-- Is a claim one of receive on a link? -/
def Entry.rxOn (e : Entry) (l : Nat) : Bool := e.op != opStitch && e.link == l

/-- Do two entries claim a link in one direction together? -/
def Entry.meets (x y : Entry) : Bool :=
  (x.txOn y.link && y.txOn y.link) || (x.rxOn y.link && y.rxOn y.link) ||
    (x.txOn (16 + y.peer) && y.op == opTransit)

/-- Is a cycle slot in the maintenance window (R100)? -/
def inMaint (len off c : Nat) : Bool :=
  decide (len ≤ 64) || decide ((c + len - off % len) % len < 64)

end Sys2Proof.Machine
end

