-- ==== Sys2Proof/Machine/Book.lean ====
section
/-! DEFINITION. The Pattern Book: loading and checking the table leaf, switching leaves, the scrubber (R89-R113,
R130). -/
namespace Sys2Proof.Machine
open Sys2Proof

/-! ### The table leaf (R104-R107) -/

/-- The states of the table leaf. -/
def tbEmpty : Nat := 0
def tbLoading : Nat := 1
def tbChecking : Nat := 2
def tbReady : Nat := 3
def tbRejected : Nat := 4
def tbCommitted : Nat := 5

/-- The table leaf's state. -/
def State.tblState (s : State) : Nat := s.rd PB.STATUS.TBL_STATE

/-- A refused write or command of the Pattern Book. -/
def State.pbRefuse (s : State) : State := s.raise PB.EVENT.CFG_ERR

/-- A write ignored while COMMITTED (R107). -/
def State.frozen (s : State) : State := s.bump PB.COUNTS.FROZEN_WR

/-- A change of the table leaf (R106). -/
def State.tblChange (s : State) : State := s.wr PB.STATUS.TBL_STATE tbLoading

/-- One entry stored. -/
def State.storeEntry (s : State) (i w : Nat) : State :=
  let t := s.book.table
  ({ s with book := { s.book with table :=
      { t with entries := Tbl.put t.entries 0 i w, bad := Tbl.del t.bad i } } }).tblChange

/-- A write of PB.TBL_HI. -/
def State.writeTblHi (s : State) (v : Nat) : State :=
  if s.tblState = tbCommitted then s.frozen
  else if s.on PB.STATUS.LOAD_BUSY then s.pbRefuse
  else
    let i := s.rd PB.TBL_INDEX.INDEX
    let s := s.wr PB.TBL_HI.HI v
    (s.storeEntry i (v * 2 ^ 32 + s.rd PB.TBL_LO.LO)).wr PB.TBL_INDEX.INDEX (i + 1)

/-- A write of one of the four leaf registers (R90, R106, R107). -/
def State.writeLeafReg (s : State) (reg : LeafReg) (v : Nat) : State :=
  if s.tblState = tbCommitted then s.frozen
  else
    match reg with
    | .cycle =>
      let n := bitsOf v 0 17
      if n = 0 ∨ 65536 < n then s.pbRefuse else (s.wr PB.TBL_CYCLE.LEN n).tblChange
    | .maint => (s.wr PB.TBL_MAINT.OFF v).tblChange
    | .alignLo => (s.wr PB.TBL_ALIGN_LO.ALIGN v).tblChange
    | .alignHi => (s.wr PB.TBL_ALIGN_HI.ALIGN v).tblChange

/-- PB.CMD.LOAD (R104, R105). Log: DEDUCED 56. -/
def State.pbLoad (s : State) : State :=
  let i := s.rd PB.TBL_INDEX.INDEX
  let n := s.rd PB.LOAD_CNT.COUNT
  let a := s.rd PB.LOAD_ADDR_LO.ADDR + 2 ^ 32 * s.rd PB.LOAD_ADDR_HI.ADDR
  if s.tblState = tbCommitted then s.frozen
  else if s.on PB.STATUS.LOAD_BUSY ∨ 2048 < i + n ∨ a % 64 ≠ 0 then s.pbRefuse
  else if n = 0 then s
  else if !s.inRegion a (8 * n) || (match s.region a with | .buffer _ _ _ => true | _ => false) then s.pbRefuse
  else
    let s := { s with book := { s.book with load := some ⟨i, n, a⟩ } }
    let s := s.wr PB.STATUS.LOAD_BUSY 1
    match s.region a with
    | .companion c => if s.linkServes then s.request { write := false, addr := c, len := 64, who := .load i } else s
    | _ => s

/-- PB_LOAD. -/
def execPbLoad (s : State) : Result := .next s.pbLoad

/-- A load ends. Log: DEDUCED 56. -/
def State.loadEnd (s : State) (failed : Bool) : State :=
  let t := s.book.table
  ({ s with book := { s.book with load := none, table := { t with loadFail := t.loadFail || failed } } }).wr
    PB.STATUS.LOAD_BUSY 0

/-- Entries of a load stored, while they can be read; in a COMMITTED leaf nothing is stored. -/
def State.loadEntries (s : State) (ups : List Upset) (i a : Nat) : Nat → State
  | 0 => s.loadEnd false
  | n + 1 =>
    match s.devRead .ftdEngine a 8 ups with
    | (s, none) => s.loadEnd true
    | (s, some l) =>
      let s := if s.tblState = tbCommitted then s else s.storeEntry i (ofLeBytes l)
      s.loadEntries ups (i + 1) (a + 8) n

/-- LEAF_LOAD_DONE: the load in progress ends, or stops at an entry that cannot be read. A load from companion memory
ends with its last DATA (R389); where the link cannot carry it, it fails. -/
def execLeafLoadDone (ups : List Upset) (s : State) : Result :=
  match s.book.load with
  | none => .next s
  | some x =>
    match s.region x.addr with
    | .companion _ => .next (if s.linkServes then s else s.loadEnd true)
    | .lpddr =>
      if s.heldLines false x.addr (8 * x.left) ≠ [] then .next (s.snoopFor false x.addr (8 * x.left))
      else .next (s.loadEntries ups x.index x.addr x.left)
    | _ => .next (s.loadEntries ups x.index x.addr x.left)

/-- The answer to a leaf load's read of companion memory: eight entries, or a failure (R105, R389).
Log: DEDUCED 56. -/
def State.loadStep (s : State) (data : List Byte) (ok : Bool) : State :=
  match s.book.load with
  | none => s
  | some x =>
    if ok then
      let k := min 8 x.left
      let s := if s.tblState = tbCommitted then s
        else (List.range k).foldl (fun s j => s.storeEntry (x.index + j) (bytesAt data (8 * j) 8)) s
      if x.left ≤ 8 then s.loadEnd false
      else
        let y : LeafLoad := ⟨x.index + 8, x.left - 8, x.addr + 64⟩
        let s := { s with book := { s.book with load := some y } }
        s.request { write := false, addr := y.addr - 0x800000000000, len := 64, who := .load y.index }
    else s.loadEnd true

/-- PB.CMD.CLEAR (R105). -/
def State.pbClear (s : State) : State :=
  if s.tblState = tbCommitted then s.frozen
  else
    let s := { s with book := { s.book with load := none, table := {} } }
    (s.wr PB.STATUS.LOAD_BUSY 0).wr PB.STATUS.TBL_STATE tbEmpty

/-- PB_CLEAR. -/
def execPbClear (s : State) : Result := .next s.pbClear

/-- PB.CMD.CHECK (R101, R105, R107). -/
def State.pbCheck (s : State) : State :=
  if s.tblState = tbCommitted then s.frozen
  else if s.on PB.STATUS.LOAD_BUSY then s.pbRefuse
  else s.wr PB.STATUS.TBL_STATE tbChecking

/-- PB_CHECK. -/
def execPbCheck (s : State) : Result := .next s.pbCheck

/-! ### Upsets in the leaves (R130) -/

/-- A leaf fault: every link QUIET, in resolved slots too (R126, R130). Log: DEDUCED 60, 61. -/
def State.leafFault (s : State) : State :=
  let s := (s.wr PB.STATUS.LEAF_FAULT 1).raise PB.EVENT.LEAF_FAULT sevError
  (s.cutLinks fun _ => true).quietRx fun _ => true

/-- One upset found by a read of a leaf entry. Log: DEDUCED 60. -/
def State.leafUpset (s : State) (x : LeafUpset) : State :=
  let leaf := if x.worn then s.book.worn else s.book.table
  if (Tbl.look leaf.bad x.index).isSome ∨ 2048 ≤ x.index then s
  else if x.hard then
    let leaf := { leaf with bad := Tbl.set leaf.bad x.index 1 }
    let s := if x.worn then { s with book := { s.book with worn := leaf } }
      else { s with book := { s.book with table := leaf } }
    let s := s.bump PB.COUNTS.ECC_UNCORR
    if x.worn ∧ s.on PB.STATUS.WORN_VALID then s.leafFault else s
  else s.bump PB.COUNTS.ECC_CORR

/-- PB_SCRUB. Log: DEDUCED 60. -/
def execPbScrub (ups : List LeafUpset) (s : State) : Result :=
  .next (if s.mainUp && s.on PB.CTRL.SCRUB_EN then ups.foldl State.leafUpset s else s)

/-! ### The checker (R99-R101) -/

/-- Code 1 of R99. -/
def Entry.reserved (e : Entry) : Bool :=
  let opt := decide (e.link < 16)
  e.op == 7 || decide (21 < e.link) ||
  (if e.op = opStitch then (if opt then decide (7 < e.peer) else e.peer != 0)
   else if e.op = opTake ∨ e.op = opFell ∨ e.op = opRelay then !opt && e.peer != 0
   else if e.op = opTransit then decide (5 < e.peer) || e.queue != 0 || opt || 16 + e.peer == e.link
   else e.peer != 0 || e.queue != 0)

/-- Codes 1, 2 and 3 of one entry. Log: DEDUCED 59. -/
def Entry.fault (e : Entry) (len : Nat) : Nat :=
  if e.reserved then 1
  else if e.run = 0 then 0
  else if e.times ≠ 1 ∧ (e.stride < e.run ∨ e.stride = 0) then 2
  else if len ≤ e.offset ∨ (1 ≤ e.times ∧ len < e.offset + (e.times - 1) * e.stride + e.run) then 3
  else 0

/-- The second pass: the first entry that fails, its index and code. Log: DEDUCED 59. -/
def passEntries (bad : Tbl Nat) (len : Nat) : Nat → Tbl Nat → Option (Nat × Nat)
  | 0, _ => none
  | fuel + 1, l =>
    let nextBad := (bad.head?).map (·.1)
    match l, nextBad with
    | [], none => none
    | [], some b => some (b, 9)
    | (i, w) :: r, some b =>
      if b ≤ i then some (b, 9)
      else if bitsOf w 61 3 = opLeafEnd then none
      else if (Entry.ofBits w).fault len ≠ 0 then some (i, (Entry.ofBits w).fault len)
      else passEntries bad len fuel r
    | (i, w) :: r, none =>
      if bitsOf w 61 3 = opLeafEnd then none
      else if (Entry.ofBits w).fault len ≠ 0 then some (i, (Entry.ofBits w).fault len)
      else passEntries bad len fuel r

/-- The lowest-indexed entry of a list that shares a link and direction with an earlier one. Log: DEDUCED 59. -/
def firstClash : List (Nat × Entry) → List Entry → Option Nat
  | [], _ => none
  | (i, e) :: r, seen => if seen.any e.meets then some i else firstClash r (seen ++ [e])

/-- Which kinds of link each send queue has been claimed on so far: bit 0 optical, bit 1 copper. -/
def noteKinds (l : List (Nat × Entry)) (seen : Tbl Nat) : Tbl Nat :=
  (l.filter fun x => x.2.op == opStitch).foldl (fun t x =>
    let k := if x.2.link < 16 then 1 else 2
    let v := Tbl.lookD t 0 x.2.queue
    if v / k % 2 = 1 then t else Tbl.set t x.2.queue (v + k)) seen

/-- Code 7 at a cycle slot whose claimants are `l`: the entry, where a queue has now been claimed on both kinds.
Log: DEDUCED 59. -/
def kindClash (l : List (Nat × Entry)) (seen : Tbl Nat) : Option Nat :=
  let now := noteKinds l seen
  (now.find? fun r => r.2 == 3).map fun r =>
    let mine := l.filter fun x => x.2.op == opStitch && x.2.queue == r.1
    let first := fun (opt : Bool) => ((mine.find? fun x => decide (x.2.link < 16) == opt).map (·.1)).getD 0
    match Tbl.lookD seen 0 r.1 with
    | 1 => first false
    | 2 => first true
    | _ => max (first true) (first false)

/-- The third pass over cycle slots `c` onwards: code, entry, slot. -/
def passSlots (es : List (Nat × Entry)) (len maint : Nat) (seen : Tbl Nat) (c : Nat) : Nat → Option (Nat × Nat × Nat)
  | 0 => none
  | fuel + 1 =>
    let l := es.filter fun x => x.2.claims len c
    match firstClash l [] with
    | some i => some (4, i, c)
    | none =>
      match (l.filter fun x => x.2.op == opFell).drop 4 with
      | x :: _ => some (5, x.1, c)
      | [] =>
        match (if inMaint len maint c then l.find? (fun x => x.2.op != opQuiet) else none) with
        | some x => some (6, x.1, c)
        | none =>
          match kindClash l seen with
          | some i => some (7, i, c)
          | none => passSlots es len maint (noteKinds l seen) (c + 1) fuel

/-- The checker's verdict on the table leaf: reason, entry, slot; reason 0 where it passes. Log: DEDUCED 56, 59. -/
def State.checkLeaf (s : State) : Nat × Nat × Nat :=
  let t := s.book.table
  let len := s.rd PB.TBL_CYCLE.LEN
  let maint := s.rd PB.TBL_MAINT.OFF
  if t.loadFail then (10, 0, 0)
  else if len = 0 ∨ len ≤ maint then (8, 0, 0)
  else
    match passEntries t.bad len 2049 t.entries with
    | some (i, code) => (code, i, 0)
    | none => (passSlots (liveEntries t.entries) len maint [] 0 len).getD (0, 0, 0)

/-- CHECK_COMPLETE: the check in progress ends. `ups` are the upsets its reads find. Log: DESIGN CHOICE 23. -/
def execCheckComplete (ups : List LeafUpset) (s : State) : Result :=
  if s.tblState ≠ tbChecking then .next s
  else
    let s := (ups.filter fun u => !u.worn).foldl State.leafUpset s
    let v := s.checkLeaf
    let s := ((s.wr PB.CHK_RESULT.REASON v.1).wr PB.CHK_RESULT.ENTRY v.2.1).wr PB.CHK_RESULT.SLOT v.2.2
    if v.1 = 0 then .next ((s.wr PB.STATUS.TBL_STATE tbReady).raise PB.EVENT.CHECK_DONE)
    else .next ((s.wr PB.STATUS.TBL_STATE tbRejected).raise PB.EVENT.REJECTED)

/-! ### Switching (R108-R113, R201, R202) -/

/-- The states of a switch. -/
def swIdle : Nat := 0
def swArmed : Nat := 1
def swCommitted : Nat := 2
def swMissed : Nat := 3

/-- The switch's state. -/
def State.swState (s : State) : Nat := s.rd PB.STATUS.SW_STATE

/-- The states of a re-cable. -/
def rcIdle : Nat := 0
def rcArmed : Nat := 1
def rcCommitted : Nat := 2
def rcRunning : Nat := 3
def rcDone : Nat := 4

/-- The re-cable's state. -/
def State.rcState (s : State) : Nat := s.rd CAL.RCB_STAT.STATE

/-- N, from PB.SWITCH_LO and _HI. -/
def State.swSlot (s : State) : Nat := s.rd PB.SWITCH_LO.SLOT + 2 ^ 32 * s.rd PB.SWITCH_HI.SLOT

/-- The table leaf's ALIGN. -/
def State.tblAlign (s : State) : Nat := s.rd PB.TBL_ALIGN_LO.ALIGN + 2 ^ 32 * s.rd PB.TBL_ALIGN_HI.ALIGN

/-- Is a slot a cycle boundary? No leaf of length 0 has one. -/
def boundary (len align n : Nat) : Bool := len != 0 && cycleSlot len align n == 0

/-- A switch is missed from slot `n` on (R109, R112); what an earlier one began goes on (R111). Log: DEDUCED 58. -/
def State.swMiss (s : State) (n : Nat) : State :=
  let s := (s.wr PB.STATUS.SW_STATE swMissed).bump PB.COUNTS.SW_MISSED
  let m := match s.book.missed with | some m => min m n | none => n
  ({ s with book := { s.book with missed := some m } }).raise PB.EVENT.SW_MISSED sevError

/-- PB.CMD.ARM. Log: DEDUCED 127. -/
def State.pbArm (s : State) : State :=
  let n := s.swSlot
  if s.swState = swCommitted ∨ ¬ boundary (s.rd PB.TBL_CYCLE.LEN) s.tblAlign n ∨
      (s.on PB.STATUS.WORN_VALID ∧ ¬ boundary (s.rd PB.WORN_CYCLE.LEN) (s.rd PB.WORN_ALIGN.ALIGN) n) then
    s.raise PB.EVENT.ARM_REFUSED
  else
    let s := { s with book := { s.book with swAt := n } }
    if slotStart n ≤ s.now then s.swMiss ((s.now + Config.ns 512) / Config.slotTime + 1)
    else if slotStart n < s.now + slotStart 4096 then s.swMiss n
    else s.wr PB.STATUS.SW_STATE swArmed

/-- PB_ARM. Log: DESIGN CHOICE 24. -/
def execPbArm (s : State) : Result := .next s.pbArm

/-- PB.CMD.CANCEL: an armed re-cable is disarmed with the switch (R202). -/
def State.pbCancel (s : State) : State :=
  if s.swState = swCommitted then s.raise PB.EVENT.ARM_REFUSED
  else if s.swState = swArmed then
    let s := s.wr PB.STATUS.SW_STATE swIdle
    if s.rcState = rcArmed then s.wr CAL.RCB_STAT.STATE rcIdle else s
  else s.wr PB.STATUS.SW_STATE swIdle

/-- PB_CANCEL. -/
def execPbCancel (s : State) : Result := .next s.pbCancel

/-- SWITCH_DECISION: the start of slot N - 4,096, `slot` being N (R109); an armed re-cable of that slot is committed
whatever becomes of the switch (R202). -/
def execSwitchDecision (slot : Nat) (s : State) : Result :=
  if ¬ s.fabUp then .next s
  else
    let s := s.advance (slotStart (slot - 4096))
    let s :=
      if s.swState = swArmed ∧ s.book.swAt = slot then
        if s.tblState = tbReady then (s.wr PB.STATUS.TBL_STATE tbCommitted).wr PB.STATUS.SW_STATE swCommitted
        else s.swMiss slot
      else s
    if s.rcState = rcArmed ∧ s.rd CAL.RCB_SLOT.R = slot then
      .next ((s.wr CAL.RCB_STAT.STATE rcCommitted).raise CAL.RCB_EVENT.COMMITTED)
    else .next s

/-- The leaves' roles change (R110). Before the first switch no leaf is worn, and the cleared one comes to the table;
which number the first worn leaf has is not stated. Log: DEDUCED 57. -/
def State.swapLeaves (s : State) : State :=
  let first := !s.on PB.STATUS.WORN_VALID
  let d := s.draw PB.STATUS.WORN_LEAF.key
  let s := if first then d.2.wr PB.STATUS.WORN_LEAF d.1 else s.wr PB.STATUS.WORN_LEAF (s.rd PB.STATUS.WORN_LEAF + 1)
  let len := s.rd PB.WORN_CYCLE.LEN
  let maint := s.rd PB.WORN_MAINT.OFF
  let align := s.rd PB.WORN_ALIGN.ALIGN
  let s := (s.wr PB.WORN_CYCLE.LEN (s.rd PB.TBL_CYCLE.LEN)).wr PB.WORN_MAINT.OFF (s.rd PB.TBL_MAINT.OFF)
  let s := s.wr PB.WORN_ALIGN.ALIGN s.tblAlign
  let s := (s.wr PB.TBL_CYCLE.LEN len).wr PB.TBL_MAINT.OFF maint
  let s := (s.wr PB.TBL_ALIGN_LO.ALIGN align).wr PB.TBL_ALIGN_HI.ALIGN (align / 2 ^ 32)
  let b := s.book
  let s := { s with book := { b with worn := b.table, table := b.worn } }
  (s.wr PB.STATUS.TBL_STATE (if first then tbEmpty else tbLoading)).wr PB.STATUS.WORN_VALID 1

/-- LEAF_SWITCH at slot N. Log: DEDUCED 57, 58. -/
def execLeafSwitch (slot : Nat) (s : State) : Result :=
  if ¬ s.fabUp ∨ s.swState ≠ swCommitted ∨ s.book.swAt ≠ slot then .next s
  else
    let s := (s.advance (slotStart slot)).swapLeaves
    let s := { s with book := { s.book with missed := none } }
    .next (((s.wr PB.STATUS.LEAF_FAULT 0).wr PB.STATUS.SW_STATE swIdle).raise PB.EVENT.SWITCHED)

/-! ### The leaf of a slot -/

/-- The leaf, length, align, and maintenance offset that resolve a slot: the committed one from its slot on (R110);
none where no leaf is worn. -/
def State.leafFor (s : State) (n : Nat) : Option (Leaf × Nat × Nat × Nat) :=
  if s.swState = swCommitted ∧ s.book.swAt ≤ n then
    some (s.book.table, s.rd PB.TBL_CYCLE.LEN, s.tblAlign, s.rd PB.TBL_MAINT.OFF)
  else if s.on PB.STATUS.WORN_VALID then
    some (s.book.worn, s.rd PB.WORN_CYCLE.LEN, s.rd PB.WORN_ALIGN.ALIGN, s.rd PB.WORN_MAINT.OFF)
  else none

/-- Is a slot resolved by the worn leaf's fault (R130)? A committed leaf ends it. -/
def State.faultFor (s : State) (n : Nat) : Bool :=
  s.on PB.STATUS.LEAF_FAULT && !(s.swState == swCommitted && decide (s.book.swAt ≤ n))

/-- Does R111 apply to a slot? A committed leaf ends it. -/
def State.staleFor (s : State) (n : Nat) : Bool :=
  (match s.book.missed with | some m => decide (m ≤ n) | none => false) &&
    !(s.swState == swCommitted && decide (s.book.swAt ≤ n))

/-- The entries that claim hall slot `n`, in index order. -/
def State.claimants (s : State) (n : Nat) : List (Nat × Entry) :=
  match s.leafFor n with
  | none => []
  | some (leaf, len, align, _) => (liveEntries leaf.entries).filter fun x => x.2.claims len (cycleSlot len align n)

/-- Does the leaf leave a link QUIET in both directions in a slot (R160)? -/
def State.quietBoth (s : State) (l n : Nat) : Bool :=
  (s.claimants n).all fun x => x.2.op == opQuiet || !(x.2.txOn l || x.2.rxOn l)

/-- Is a slot in a maintenance window of the leaf that resolves it? -/
def State.maintSlot (s : State) (n : Nat) : Bool :=
  match s.leafFor n with
  | none => false
  | some (_, len, align, off) => len != 0 && inMaint len off (cycleSlot len align n)

/-- The slot at which the worn leaf's next maintenance window starts, at or after slot `n` (PB.NEXT_MAINT); 0 with no
leaf worn. -/
def State.nextMaint (s : State) (n : Nat) : Nat :=
  let len := s.rd PB.WORN_CYCLE.LEN
  if ¬ s.on PB.STATUS.WORN_VALID ∨ len = 0 then 0
  else n + cycleSlot len (cycleSlot len (s.rd PB.WORN_ALIGN.ALIGN) n) (s.rd PB.WORN_MAINT.OFF)

end Sys2Proof.Machine
end

