-- ==== Sys2Proof/Machine/RingOps.lean ====
section
/-! DEFINITION. Rings: their targets, states and transitions, takeovers by the basting ring, and which ring serves a
wardrobe index (R119, R120, R138, R139, R170, R179, R186-R193, R215, R257). -/
namespace Sys2Proof.Machine
open Sys2Proof

/-! ### Loops, ports and rings (R165) -/

/-- The loop of ring `r` of port `p`. -/
def loopOf (p r : Nat) : Nat := 44 * (p / 4) + 10 * (p % 4) + r

/-- The port and ring of a loop: none for a spare's. -/
def ringOf (l : Nat) : Option (Nat × Nat) :=
  if l % 44 < 40 then some (4 * (l / 44) + l % 44 / 10, l % 44 % 10) else none

/-- Units of heater power in a microwatt, and of frequency in a megahertz. -/
def uW : Nat := 2 ^ 20
def mhz : Nat := 2 ^ 10

/-- A loop's record. -/
def State.loop (s : State) (l : Nat) : Loop := Tbl.lookD s.fab.jig.loops {} l

/-- A loop's record replaced. -/
def State.setLoop (s : State) (l : Nat) (x : Loop) : State :=
  { s with fab := { s.fab with jig := { s.fab.jig with loops := Tbl.put s.fab.jig.loops {} l x } } }

/-- The Jig's record replaced. -/
def State.setJig (s : State) (j : Jig) : State := { s with fab := { s.fab with jig := j } }

/-- The states of R187. -/
def rgParked : Nat := 0
def rgSweep : Nat := 1
def rgJump : Nat := 2
def rgCapture : Nat := 3
def rgLocked : Nat := 4
def rgHold : Nat := 5
def rgMislock : Nat := 6
def rgFault : Nat := 7

/-- A ring's state. -/
def State.ringSt (s : State) (l : Nat) : Nat := s.rd (JIG.L_STAT.STATE l)

/-- A wardrobe ring's valid bit and colour. -/
def wardField (p n : Nat) : Field × Field :=
  match n with
  | 0 => (OPE.P_WARD0.V0 p, OPE.P_WARD0.COL0 p)
  | 1 => (OPE.P_WARD0.V1 p, OPE.P_WARD0.COL1 p)
  | 2 => (OPE.P_WARD0.V2 p, OPE.P_WARD0.COL2 p)
  | 3 => (OPE.P_WARD0.V3 p, OPE.P_WARD0.COL3 p)
  | 4 => (OPE.P_WARD1.V4 p, OPE.P_WARD1.COL4 p)
  | 5 => (OPE.P_WARD1.V5 p, OPE.P_WARD1.COL5 p)
  | 6 => (OPE.P_WARD1.V6 p, OPE.P_WARD1.COL6 p)
  | _ => (OPE.P_WARD1.V7 p, OPE.P_WARD1.COL7 p)

/-- The colour of wardrobe index `n` where it is in service. -/
def State.wardColour (s : State) (p n : Nat) : Option Nat :=
  if n < 8 ∧ s.on (wardField p n).1 then some (s.rd (wardField p n).2) else none

/-- B_FOR and S_FOR of a port. -/
def State.bFor (s : State) (p : Nat) : Nat := s.rd (OPE.P_SPARE.B_FOR p)
def State.sFor (s : State) (p : Nat) : Nat := s.rd (OPE.P_SPARE.S_FOR p)

/-- A ring's target colour (R186); with its engine disabled a ring is held PARKED, without one. -/
def State.target (s : State) (p r : Nat) : Option Nat :=
  if ¬ bitOf (s.rd JIG.CTRL.ENG_EN) (p / 4) then none
  else if r < 8 then (if s.sFor p = r then none else s.wardColour p r)
  else if r = 8 then s.wardColour p (s.bFor p)
  else s.wardColour p (s.sFor p)

/-- The target colour that a loop's registers hold. -/
def State.ringTarget (s : State) (l : Nat) : Option Nat :=
  if s.on (JIG.L_STAT.TGT_VALID l) then some (s.rd (JIG.L_STAT.TARGET l)) else none

/-! ### Demands (R170, R179, R186) -/

/-- The laser source of a loop: 0 A, 1 B (R21). -/
def loopSource (l : Nat) : Nat := l / 88

/-- f_trk of a source, zero where its track is not used (R182). -/
def State.fTrk (s : State) (src : Nat) : Int :=
  if src = 0 then (if s.on JIG.CTRL.TRK_A_EN then s.fab.jig.fA else 0)
  else if s.on JIG.CTRL.TRK_B_EN then s.fab.jig.fB else 0

/-- CM_e. -/
def State.cm (s : State) (e : Nat) : Int := Tbl.lookD s.fab.jig.cm 0 e

/-- The feed-forward to a colour (R179). Without a valid P_CAL the term is taken as zero: I makes it up (R187).
Log: DEDUCED 67. -/
def State.ff (s : State) (l k : Nat) : Int :=
  let c := (s.loop l).cal
  (Tbl.lookD c.pcal 0 k : Nat) - s.fTrk (loopSource l) * 102400 / (c.eta : Int) + s.cm (l / 44)

/-- The park value (R186). -/
def State.parkValue (s : State) (l : Nat) : Int := max 0 ((s.loop l).cal.park + s.cm (l / 44))

/-- Is P_CAL valid for a colour? Log: DEDUCED 67. -/
def State.pcalOk (s : State) (l k : Nat) : Bool := (Tbl.look (s.loop l).cal.pcal k).isSome

/-- JIG.L_CAL shown for a loop. -/
def State.showCal (s : State) (l : Nat) : State :=
  let c := (s.loop l).cal
  let p := match s.ringTarget l with
    | some k => (match Tbl.look c.pcal k with | some v => v / uW | none => 0xFFFF)
    | none => 0xFFFF
  (s.wr (JIG.L_CAL.P_CAL l) p).wr (JIG.L_CAL.ETA l) c.eta

/-- A loop's demand set, and DEMAND shown. -/
def State.setDemand (s : State) (l : Nat) (d : Int) : State :=
  (s.setLoop l { s.loop l with d := d }).showNum (JIG.L_HEAT.DEMAND l) (d / uW)

/-! ### Slots on a ring (R119, R120) -/

/-- The ring that serves a wardrobe index: the W ring, B while it holds that colour, S where it has replaced the W
ring; the first that is LOCKED on the colour. -/
def State.serving (s : State) (p n : Nat) : Option (Nat × Nat) :=
  match s.wardColour p n with
  | none => none
  | some k =>
    let ok := fun (r : Nat) (holds : Bool) =>
      holds && s.ringSt (loopOf p r) == rgLocked && s.ringTarget (loopOf p r) == some k
    if ok n (s.sFor p != n) then some (n, k)
    else if ok 8 (s.bFor p == n) then some (8, k)
    else if ok 9 (s.sFor p == n) then some (9, k)
    else none

/-- A transmit action's ring. -/
def TxAct.ring : TxAct → Nat
  | .send _ r _ _ => r
  | .idle _ r _ => r
  | _ => 15

/-- A ring has left LOCKED: the slots resolved on it end (R120). -/
def State.ringGone (s : State) (p r : Nat) : State :=
  let live := s.book.plans.filter fun x => decide (s.now < slotStart (x.1 + 1)) && (x.2.txOf p).ring == r
  let s := live.foldl (fun s x => s.cutLink x.1 p) s
  if live.any (fun x => decide (slotStart x.1 ≤ s.now)) then s.silence p else s

/-! ### Changing state -/

/-- A ring's state changed, its counts begun again. -/
def State.ringTo (s : State) (l st : Nat) : State :=
  let was := s.ringSt l
  let x := s.loop l
  let s := s.setLoop l { x with cyc := 0, lockRun := 0, outRun := 0, winRun := 0, clampRun := 0, due := none, cmd := none }
  let s := s.wr (JIG.L_STAT.STATE l) st
  match ringOf l with
  | none => s
  | some (p, r) => if was = rgLocked ∧ st ≠ rgLocked then s.ringGone p r else s

/-- Entry to JUMP: d = FF, I = 0. -/
def State.enterJump (s : State) (l k : Nat) : State :=
  let s := s.ringTo l rgJump
  (s.setLoop l { s.loop l with integ := 0 }).setDemand l (s.ff l k)

/-- Entry to SWEEP: d at the park value. -/
def State.enterSweep (s : State) (l : Nat) : State :=
  let s := (s.ringTo l rgSweep).bump (JIG.L_COUNTS.SWEEPS l)
  (s.setLoop l { s.loop l with integ := 0, peaks := 0, charge := 0, rising := false }).setDemand l (s.parkValue l)

/-- The relock sequence to a target: JUMP, or SWEEP where P_CAL is invalid. -/
def State.relock (s : State) (l k : Nat) : State := if s.pcalOk l k then s.enterJump l k else s.enterSweep l

/-- Entry to PARKED: d = 0. -/
def State.enterParked (s : State) (l : Nat) : State := (s.ringTo l rgParked).setDemand l 0

/-- I set so that d is continuous (R187). -/
def State.bridge (s : State) (l : Nat) : State :=
  match s.ringTarget l with
  | none => s
  | some k =>
    let x := s.loop l
    s.setLoop l { x with integ := x.d - s.ff l k - (s.rd (JIG.L_GAIN.KP l) : Int) * x.err / mhz }

/-- Entry to CAPTURE: the loop closes. -/
def State.enterCapture (s : State) (l : Nat) (bridged : Bool) : State :=
  let s := s.ringTo l rgCapture
  if bridged then s.bridge l else s

/-- A ring's target brought up to date (R138, R186, R187): a change sends the ring to JUMP, SWEEP or PARKED, at once;
a ring in FAULT stays there. Log: DEDUCED 69. -/
def State.retarget (s : State) (l : Nat) : State :=
  match ringOf l with
  | none => s
  | some (p, r) =>
    let k := s.target p r
    if k = s.ringTarget l then s
    else
      let s := s.wrB (JIG.L_STAT.TGT_VALID l) k.isSome
      let s := (s.wr (JIG.L_STAT.TARGET l) (k.getD 0)).showCal l
      if s.ringSt l = rgFault then s
      else match k with
        | some k => s.relock l k
        | none => s.enterParked l

/-- All ten rings of a port. -/
def State.retargetPort (s : State) (p : Nat) : State := (List.range 10).foldl (fun s r => s.retarget (loopOf p r)) s

/-- B_FOR set by the package (R475). -/
def State.setBFor (s : State) (p n : Nat) : State := (s.wr (OPE.P_SPARE.B_FOR p) n).retarget (loopOf p 8)

/-- The wardrobe index that a ring holds. -/
def State.indexOf (s : State) (p r : Nat) : Option Nat :=
  if r < 8 then some r else if r = 9 ∧ s.sFor p < 8 then some (s.sFor p) else none

/-- A takeover by B for a ring that has failed (R191, R215): whether it was made. -/
def State.takeover (s : State) (p r : Nat) : State × Bool :=
  match s.indexOf p r with
  | none => (s, true)
  | some n =>
    if s.ringSt (loopOf p 8) = rgParked ∧ s.bFor p = 15 then
      let j := s.fab.jig
      let s := s.setJig { j with takeovers := j.takeovers.filter (· != p) ++ [p], release := Tbl.del j.release p }
      (s.setBFor p n, true)
    else (s, false)

/-- Entry to FAULT: d = 0, an ERROR event; B takes over where it is free (R187, R215). -/
def State.enterFault (s : State) (l : Nat) : State :=
  let s := ((s.ringTo l rgFault).setDemand l 0).raise JIG.EVENT.FAULT sevError
  match ringOf l with
  | some (p, r) => (s.takeover p r).1
  | none => s

/-! ### Calibration that meets a ring's trouble (R257) -/

/-- CAL.RES of a unit. Its registers are one instance each, 4,096·kind + unit. -/
def calKey (kind unit : Nat) : Nat := 4096 * kind + unit

/-- An outcome recorded: 1 ACCEPTED, 2 REJECTED, 3 ABORTED, 4 SKIPPED. -/
def State.calOutcome (s : State) (u : CalUnit) (outcome reason : Nat) : State :=
  let i := calKey u.kind u.unit
  let s := { s with fab := { s.fab with cal := { s.fab.cal with outAt := Tbl.set s.fab.cal.outAt i s.now } } }
  ((s.wr (CAL.RES.OUTCOME i) outcome).wr (CAL.RES.REASON i) reason).wr (CAL.RES.AGE i) 0

/-- The loop that a running optical unit calibrates. -/
def CalRun.loop (x : CalRun) : Option Nat :=
  if x.item.kind = 1 then some x.item.unit
  else if x.item.kind = 7 ∧ x.part < 44 then some (44 * x.item.unit + x.part)
  else none

/-- Queue entries shown. -/
def State.setQueue' (s : State) (l : List CalUnit) : State :=
  ({ s with fab := { s.fab with cal := { s.fab.cal with queue := l } } }).wr CAL.STAT.QUEUED l.length

/-- A unit put at the tail of its group, unless it is queued (R241): none where the queue is full. -/
def calInsert (l : List CalUnit) (u : CalUnit) : Option (List CalUnit) :=
  if l.any fun x => x.kind == u.kind && x.unit == u.unit then some l
  else if 255 ≤ l.length then none
  else some ((l.filter fun x => decide (x.who.rank ≤ u.who.rank)) ++ [u] ++
    l.filter fun x => decide (u.who.rank < x.who.rank))

/-- A unit queued, or counted where the queue is full. -/
def State.calQueue (s : State) (u : CalUnit) : State :=
  match calInsert s.fab.cal.queue u with
  | some l => s.setQueue' l
  | none => (s.bump CAL.COUNTS.SKIPPED).raise CAL.EVENT.SKIPPED

/-- A run ABORTED: counted, its outcome recorded, its unit queued again. -/
def State.calAborted (s : State) (u : CalUnit) (reason : Nat) : State :=
  let s := ((s.bump CAL.COUNTS.ABORTED).calOutcome u 3 reason).raise CAL.EVENT.ABORTED
  s.calQueue { u with defer := 0 }

/-- The running optical unit ABORTED (R257): its old values kept, its ring back on them, B released as after a run
(R192, R244), the unit queued again. -/
def State.calAbortOpt (s : State) (reason : Nat) : State :=
  match s.fab.cal.opt with
  | none => s
  | some x =>
    let s := { s with fab := { s.fab with cal := { s.fab.cal with opt := none } } }
    let s := (s.wr CAL.STAT.OPT_BUSY 0).calAborted x.item reason
    match x.loop with
    | none => s
    | some l =>
      let s := match x.old with | some c => (s.setLoop l { s.loop l with cal := c }).showCal l | none => s
      match ringOf l with
      | none => s
      | some (p, _) =>
        let j := s.fab.jig
        let s := if s.bFor p = 15 then s else
          s.setJig { j with takeovers := j.takeovers.filter (· != p) ++ [p] }
        if s.ringSt l = rgHold then (match s.ringTarget l with | some k => s.relock l k | none => s.enterParked l)
        else s

/-- The port whose B stands in for the ring being calibrated. -/
def State.calPort (s : State) : Option Nat :=
  match s.fab.cal.opt with
  | some x => (match x.loop with | some l => (ringOf l).map (·.1) | none => none)
  | none => none

/-! ### Mislocks (R191-R193) -/

/-- Entry to MISLOCK. -/
def State.enterMislock (s : State) (l : Nat) : State :=
  let s := s.ringTo l rgMislock
  let x := s.loop l
  let s := (s.setLoop l { x with mis := x.mis + 1 }).wrSat (JIG.L_STAT.MISLOCKS l) (x.mis + 1)
  let s := ((s.bump (JIG.L_COUNTS.MISLOCKS l)).count ctrFtd 0x040 l).raise JIG.EVENT.MISLOCK sevError
  let s := { s with fab := { s.fab with recable := { s.fab.recable with mislocks := s.fab.recable.mislocks + 1 } } }
  match ringOf l with
  | none => s
  | some (p, r) =>
    match s.takeover p r with
    | (s, true) => s
    | (s, false) =>
      let s := s.bump JIG.COUNTS.BAST_BUSY
      if s.calPort = some p then s.calAbortOpt 14 else s

/-- Entry to LOCKED (R187, R190, R192, R226): verification begins, a takeover that covered the ring is to be released,
and a LOST source's index is served again. -/
def State.enterLocked' (s : State) (l : Nat) : State :=
  let s := (s.ringTo l rgLocked).wr (JIG.L_STAT.VERIFIED l) 0
  let s := s.setLoop l { s.loop l with lockedAt := s.now, tries := 0, asked := false }
  match ringOf l with
  | none => s
  | some (p, r) =>
    match s.indexOf p r with
    | none => s
    | some n =>
      let j := s.fab.jig
      let s := if j.takeovers.contains p && s.bFor p == n then
        s.setJig { j with release := Tbl.set j.release p (s.now / Config.cycleTime) } else s
      { s with fab := { s.fab with lasers := s.fab.lasers.map fun a =>
          (a.1, if a.2.jumped then { a.2 with lost := a.2.lost.filter (· != 8 * p + n) } else a.2) } }

/-! ### The table's decisions and commands (R187) -/

/-- A decision of the last computation takes effect. -/
def State.fireDue (s : State) (l : Nat) (d : Due) : State :=
  let x := s.loop l
  match d with
  | .jumpDone => s.enterCapture l false
  | .lock => if s.on (JIG.L_STAT.WIN_OK l) then s.enterLocked' l else s.enterMislock l
  | .capLimit => s.enterSweep l
  | .unlock =>
    let s := (s.bump (JIG.L_COUNTS.UNLOCKS l)).count ctrFtd 0x041 l
    s.enterCapture l false
  | .winFail => s.enterMislock l
  | .clampFault => s.enterFault l
  | .sweepPeak => s.enterCapture l true
  | .sweepMax => s.enterFault l
  | .mislockNext =>
    let m := s.rd JIG.VER_CFG.MIS_MAX
    if m ≠ 0 ∧ m ≤ x.mis then s.enterFault l else s.enterSweep l

/-- Does a state allow a command? -/
def State.cmdAllowed (s : State) (l : Nat) (c : RingCmd) : Bool :=
  let st := s.ringSt l
  match c with
  | .hold => st != rgFault && st != rgHold
  | .release => st == rgHold
  | .jump => (st == rgHold || st == rgCapture || st == rgLocked) && (s.ringTarget l).isSome
  | .sweep => (st == rgHold || st == rgCapture || st == rgLocked) && (s.ringTarget l).isSome
  | .reset => st == rgFault
  | .relock => st != rgFault && (s.ringTarget l).isSome
  | .mislock => st == rgLocked

/-- A command takes effect. -/
def State.fireCmd (s : State) (l : Nat) (c : RingCmd) : State :=
  if ¬ s.cmdAllowed l c then s.setLoop l { s.loop l with cmd := none }
  else
    match c, s.ringTarget l with
    | .hold, _ => s.ringTo l rgHold
    | .release, _ => s.enterCapture l true
    | .sweep, _ => s.enterSweep l
    | .mislock, _ => s.enterMislock l
    | .reset, _ => ((s.setLoop l { s.loop l with mis := 0 }).wr (JIG.L_STAT.MISLOCKS l) 0).enterParked l
    | _, some k => s.relock l k
    | _, none => s

end Sys2Proof.Machine
end

