-- ==== Sys2Proof/Machine/Seams.lean ====
section
/-! DEFINITION. Seam words (R49-R55): filling one for a slot that leaves, taking one from a slot that arrives, and
the consensus over the pairs in use. Pairs are numbered as GAUGE.SEAM_IDX encodes them. -/
namespace Sys2Proof.Machine
open Sys2Proof

/-- The pair of a copper link. -/
def seamCopper (l : Nat) : Nat := l

/-- The pair of an optical port and a peer's router index. -/
def seamOptical (p j : Nat) : Nat := 512 + 32 * p + j

/-- The record of a pair. -/
def State.seam (s : State) (i : Nat) : Seam := Tbl.lookD s.gauge.seams {} i

/-- The record of a pair replaced. -/
def State.setSeam (s : State) (i : Nat) (p : Seam) : State :=
  { s with gauge := { s.gauge with seams := Tbl.put s.gauge.seams {} i p } }

/-- The six states of the Gauge (R46). -/
def gFree : Nat := 0
def gSettle : Nat := 1
def gLocked : Nat := 2
def gSeamHeld : Nat := 3
def gHoldover : Nat := 4
def gReseat : Nat := 5

/-- The Gauge's state. -/
def State.gState (s : State) : Nat := s.rd GAUGE.STATUS.STATE

/-- The seam word of a slot (R49): its fields as numbers. `frm` is the low 12 bits of the frame number. -/
structure SeamWord where
  frm    : Nat
  echoOk : Bool
  unsure : Bool
  held   : Bool
  txRes  : Int
  echo   : Int
  deriving DecidableEq, Repr

/-- The word this package puts into a slot of frame `f` on pair `i`, with departure residual `txRes` in units of
2^-12 ns (R49, R52). -/
def State.seamWord (s : State) (i f : Nat) (txRes : Int) : SeamWord :=
  let prev := (s.seam i).rx.find? (fun r => r.frame + 1 == f)
  { frm := f % 4096, echoOk := prev.isSome, unsure := 200 < s.rd GAUGE.EST_ERR.PS,
    held := s.gState != gLocked, txRes := txRes, echo := (prev.map SeamRx.delay).getD 0 }

/-- The word's 64 bits (R49). -/
def SeamWord.bits (w : SeamWord) : Nat :=
  w.frm % 4096 * 2 ^ 52 + bit w.echoOk * 2 ^ 51 + bit w.unsure * 2 ^ 50 + bit w.held * 2 ^ 49 +
  toBits 12 w.txRes * 2 ^ 36 + toBits 36 w.echo

/-- The word that 64 bits spell (R49). -/
def SeamWord.ofBits (v : Nat) : SeamWord :=
  { frm := bitsOf v 52 12, echoOk := bitOf v 51, unsure := bitOf v 50, held := bitOf v 49,
    txRes := signedOf 12 (bitsOf v 36 12), echo := signedOf 36 (bitsOf v 0 36) }

/-- A slot of frame `f` left on pair `i`: the first word of each frame on the pair is kept for R52. -/
def State.seamSent (s : State) (i f : Nat) (txRes : Int) : State :=
  let p := s.seam i
  if p.tx.any (fun q => q.1 == f) then s
  else s.setSeam i { p with tx := ((f, txRes) :: p.tx).take 3 }

/-- The receiver's frame, its own or the one before, whose low 12 bits are `frm` (R51). -/
def seamFrame (cur frm : Nat) : Option Nat :=
  if cur % 4096 = frm then some cur
  else if 0 < cur ∧ (cur - 1) % 4096 = frm then some (cur - 1)
  else none

/-- The path asymmetry of a pair, from the cutting list (R442, R52), in units of 2^-16 ns. -/
def State.seamAlpha (s : State) (i : Nat) : Int := Tbl.lookD s.asym 0 i

/-- A completed exchange of frame `f - 1` on a pair (R52): both delays in units of 2^-12 ns, halved into 2^-16 ns. -/
def State.seamExchange (s : State) (i : Nat) (dOut dIn : Int) : State :=
  let theta := 8 * (dOut - dIn) - s.seamAlpha i
  let d := 8 * (dOut + dIn)
  let p := s.seam i
  let s := s.setSeam i { p with theta := theta, hist := (d :: p.hist).take 16, exFrame := some (frameOf s.now) }
  (s.wrI (GAUGE.SEAM_THETA.THETA i) theta).wrI (GAUGE.SEAM_DELAY.DELAY i) d

/-- A seam word arrived on pair `i` (R51, R52, R55), its arrival less the nominal departure being `delay` in units
of 2^-12 ns. -/
def State.seamReceived (s : State) (i : Nat) (w : SeamWord) (delay : Int) : State :=
  match seamFrame (frameOf s.now) w.frm with
  | none =>
    if (s.seam i).rx.any (fun r => r.frame % 4096 == w.frm) then s
    else (s.bump GAUGE.COUNTS.SEAM_DISCARD).count ctrFtd 0x050 0
  | some f =>
    let p := s.seam i
    if p.rx.any (fun r => r.frame == f) then s
    else
      let p := { p with rx := (⟨f, delay, w.txRes⟩ :: p.rx).take 3, unsure := w.unsure, held := w.held,
                        rxFrame := some (frameOf s.now) }
      let s := s.setSeam i p
      let s := s.wrB (GAUGE.SEAM_STAT.VALID i) true
      match p.rx.find? (fun r => r.frame + 1 == f), p.tx.find? (fun q => q.1 + 1 == f) with
      | some r, some q =>
        if w.echoOk then s.seamExchange i (w.echo - q.2) (r.delay - r.txRes)
        else s.wrI (GAUGE.SEAM_DELAY.DELAY i) (16 * (r.delay - r.txRes))
      | some r, none => s.wrI (GAUGE.SEAM_DELAY.DELAY i) (16 * (r.delay - r.txRes))
      | none, _ => s

/-! ### The consensus at a frame boundary (R53, R54) -/

/-- Variance of the last exchanges' D, over their number (R54). Log entry 8. -/
def seamVar (l : List Int) : Rat :=
  if l.isEmpty then 0
  else
    let n : Rat := l.length
    let m : Rat := (l.foldl (· + ·) 0 : Int) / n
    (l.foldl (fun (a : Rat) (x : Int) => a + ((x : Rat) - m) * ((x : Rat) - m)) 0) / n

/-- Is a pair optical? -/
def seamIsOptical (i : Nat) : Bool := 512 ≤ i

/-- k of R54. -/
def State.seamK (s : State) (i : Nat) : Rat :=
  if seamIsOptical i then (s.rd GAUGE.SEAM_CFG.OPT_WEIGHT : Rat) / 256 else 1

/-- The floor f of R54 in units of 2^-16 ns: 0.25 ps is 2048/125 of them. -/
def State.seamFloor (s : State) : Rat := (s.rd GAUGE.SEAM_CFG.FLOOR : Rat) * 2048 / 125

/-- The weight of a pair (R54). -/
def State.seamWeight (s : State) (i : Nat) : Rat :=
  let v := seamVar (s.seam i).hist + s.seamFloor * s.seamFloor
  if v = 0 then s.seamK i else s.seamK i / v

/-- The outlier test of R53: |theta| at most 16 ps a unit of OUTLIER. -/
def State.seamInlier (s : State) (p : Seam) : Bool :=
  decide (p.theta.natAbs * 125 ≤ 131072 * s.rd GAUGE.SEAM_CFG.OUTLIER)

/-- The exchanges of a pair counted at the boundary that opens frame `f`: one more frame in a row, or none. -/
def seamRun (f : Nat) (p : Seam) : Seam :=
  { p with exRun := if p.exFrame = some (f - 1) then min 16 (p.exRun + 1) else 0 }

/-- Does a pair meet the first two tests of R53, and is it let in by OPT_WEIGHT? -/
def State.seamFit (s : State) (i : Nat) (p : Seam) : Bool :=
  p.exRun == 16 && !p.unsure && (!seamIsOptical i || s.rd GAUGE.SEAM_CFG.OPT_WEIGHT != 0)

/-- The square root of a natural number, rounded down, by halving steps. -/
def isqrt (n : Nat) : Nat := go (n.log2 / 2 + 1) 0
where
  /-- Set the root's bits from the highest. -/
  go : Nat → Nat → Nat
    | 0, r => r
    | k + 1, r => let r' := r + 2 ^ k; go k (if r' * r' ≤ n then r' else r)

/-- The square root of a rational, rounded down; negative ones read zero. Log entry 8. -/
def sqrtFloor (x : Rat) : Nat := isqrt x.floor.toNat

/-- One pair judged at the boundary that opens frame `f` (R53, R54): its record and SEAM_STAT. Log: DEDUCED 41. -/
def State.seamJudge (s : State) (f i : Nat) : State :=
  let p := seamRun f (s.seam i)
  let fit := s.seamFit i p
  let inl := s.seamInlier p
  let valid := match p.rxFrame with | some g => decide (f ≤ g + 16) | none => false
  let s := s.setSeam i { p with used := fit && inl }
  let s := s.wrB (GAUGE.SEAM_STAT.VALID i) valid
  let s := s.wrB (GAUGE.SEAM_STAT.TWO_WAY i) (decide (p.exFrame = some (f - 1)))
  let s := s.wrB (GAUGE.SEAM_STAT.USED i) (fit && inl)
  let s := s.wrB (GAUGE.SEAM_STAT.OUTLIER i) (fit && !inl)
  let s := if fit && !inl then s.bump GAUGE.COUNTS2.OUTLIER else s
  s.wrSat (GAUGE.SEAM_STAT.SIGMA i) (sqrtFloor (seamVar p.hist * (125 / 2048) * (125 / 2048)))

/-- The pairs in use. -/
def State.seamsUsed (s : State) : List (Nat × Seam) := s.gauge.seams.filter (fun r => r.2.used)

/-- The consensus: the weighted mean of theta over the pairs in use, none where none is in use (R43, R54). -/
def State.seamMean (s : State) : Option Rat :=
  let u := s.seamsUsed
  let w := u.foldl (fun (a : Rat) r => a + s.seamWeight r.1) 0
  if u.isEmpty ∨ w = 0 then none
  else some ((u.foldl (fun (a : Rat) r => a + s.seamWeight r.1 * (r.2.theta : Rat)) 0) / w)

/-- The shares shown in SEAM_STAT: w over the sum of w, times 256, at most 255. -/
def State.seamShares (s : State) : State :=
  let w := s.seamsUsed.foldl (fun (a : Rat) r => a + s.seamWeight r.1) 0
  s.gauge.seams.foldl (fun s' r =>
    s'.wrSat (GAUGE.SEAM_STAT.SHARE r.1)
      (if r.2.used ∧ w ≠ 0 then (s.seamWeight r.1 / w * 256).floor.toNat else 0)) s

/-- The seam pairs at the boundary that opens frame `f`: each judged, the consensus formed, the counts of links in
use kept for R46 and R47. -/
def State.seamFrameEnd (s : State) (f : Nat) : State :=
  let s := s.gauge.seams.foldl (fun s' r => s'.seamJudge f r.1) s
  let s := s.seamShares
  let u := s.seamsUsed
  let th := s.seamMean
  let s := s.wrSat GAUGE.STATUS.SEAM_USED u.length
  { s with gauge := { s.gauge with
      theta := th, links := u.length, linksOk := (u.filter (fun r => !r.2.held)).length,
      thHist := match th with | some x => (x :: s.gauge.thHist).take 16 | none => s.gauge.thHist } }

end Sys2Proof.Machine
end

