-- ==== Sys2Proof/Machine/Slots.lean ====
section
/-! DEFINITION. Slots as they leave: the slot header (R147, R270), the cut-off (R87, R116-R121, R283, R285), the slot's
start and end (R117, R135, R137). -/
namespace Sys2Proof.Machine
open Sys2Proof

/-! ### CRC-32C -/

/-- One byte into a reflected CRC-32. -/
def crcByte (poly crc b : Nat) : Nat :=
  (List.range 8).foldl (fun c _ => if c % 2 = 1 then (c / 2) ^^^ poly else c / 2) (crc ^^^ b)

/-- A reflected CRC-32 of bytes, with initial value and final XOR of all ones. Log: PRESUMED 26. -/
def crc32With (poly : Nat) (l : List Byte) : Nat :=
  (l.foldl (fun c b => crcByte poly c b.toNat) 0xFFFFFFFF) ^^^ 0xFFFFFFFF

/-- CRC-32C. Log: PRESUMED 26. -/
def crc32c (l : List Byte) : Nat := crc32With 0x82F63B78 l

/-- The CRC-32 of R258. Log: PRESUMED 26. -/
def crc32 (l : List Byte) : Nat := crc32With 0xEDB88320 l

/-! ### The slot header (R147) -/

/-- Bytes 0-27 of a header. -/
def Header.body (h : Header) : List Byte :=
  leBytes 2 (h.src % 4096 + 4096 * (h.ver % 16)) ++ leBytes 8 h.slot ++ leBytes 8 h.seam ++
  leBytes 2 (h.len % 32768) ++ leBytes 1 (h.queue % 64) ++
  leBytes 1 (bit h.idle + 2 * bit h.relayed + 4 * bit h.probe + 8 * bit h.reply + 16 * bit h.loop) ++
  leBytes 2 (h.port % 16 + 16 * (h.colour % 32)) ++ leBytes 2 (h.qecho % 256 + 32768 * bit h.qvalid) ++ leBytes 2 0

/-- A header's 32 bytes. Log: PRESUMED 26. -/
def Header.toBytes (h : Header) : List Byte := h.body ++ leBytes 4 (crc32c h.body)

/-- The header that 32 bytes spell; reserved bits are ignored (R150). -/
def Header.ofBytes (l : List Byte) : Header :=
  let a := bytesAt l 0 2
  let f := bytesAt l 21 1
  let c := bytesAt l 22 2
  let q := bytesAt l 24 2
  { ver := bitsOf a 12 4, src := bitsOf a 0 12, slot := bytesAt l 2 8, seam := bytesAt l 10 8,
    len := bitsOf (bytesAt l 18 2) 0 15, queue := bitsOf (bytesAt l 20 1) 0 6, loop := bitOf f 4, reply := bitOf f 3,
    probe := bitOf f 2, relayed := bitOf f 1, idle := bitOf f 0, colour := bitsOf c 4 5, port := bitsOf c 0 4,
    qvalid := bitOf q 15, qecho := bitsOf q 0 8 }

/-- Does a header's HCRC hold? Log: PRESUMED 26. -/
def headerOk (l : List Byte) : Bool := bytesAt l 28 4 == crc32c (l.take 28)

/-! ### What the package is -/

/-- Its own node ID, bench ID and bench position (R24-R26). -/
def State.node (s : State) : Nat := s.rd BOOT.NODE.NODE_ID
def State.bench (s : State) : Nat := s.node / 128
def State.benchPos (s : State) : Nat := s.rd BOOT.NODE.BENCH_POS

/-- A copper link is trained (R273). -/
def State.cuUp (s : State) (k : Nat) : Bool := s.rd (CU.STAT.STATE k) == 5

/-- DST of a queue on a copper link (R282). -/
def State.dst (s : State) (k q : Nat) : Nat :=
  if s.on (CU.QDST.V (q / 4) (q % 4)) then s.rd (CU.QDST.POS (q / 4) (q % 4)) else s.rd (CU.PEER_ID.NODE k) % 128

/-- The header of an optical slot to router index `d`, QECHO filled (R159). -/
def State.opHeader (s : State) (p n colour d : Nat) : Header :=
  { src := s.node, slot := n, loop := colour == 0, colour := colour, port := p,
    qvalid := s.on (OPE.P_QUAL.RX_VALID p d), qecho := s.rd (OPE.P_QUAL.QRX p d) }

/-- An optical slot's destination index on a colour (R28). -/
def State.dest (s : State) (p colour : Nat) : Nat := (s.portIndex p + colour) % 32

/-! ### Re-cabling as slots see it (R205) -/

/-- The re-cable's slot. -/
def State.rcSlot (s : State) : Nat := s.rd CAL.RCB_SLOT.R

/-- Slots of a re-cable, R to E. -/
def rcLength : Nat := 11712

/-- Does a re-cable hold the optical ports QUIET in a slot? -/
def State.rcCovers (s : State) (n : Nat) : Bool :=
  (s.rcState == rcCommitted || s.rcState == rcRunning) && decide (s.rcSlot ≤ n) && decide (n < s.rcSlot + rcLength)

/-- An optical port is QUIET in both directions in a slot: by the worn leaf, or by a re-cable (R160). -/
def State.portQuiet (s : State) (p n : Nat) : Bool :=
  (s.leafFor n).isSome && (s.quietBoth p n || s.rcCovers n)

/-! ### The cut-off (R118, R121) -/

/-- The reasons of R118. -/
def rfGate : Nat := 1
def rfRing : Nat := 2
def rfStale : Nat := 3
def rfRecable : Nat := 4
def rfFault : Nat := 5
def rfLength : Nat := 6

/-- A STITCH slot refused. -/
def State.refuse (s : State) (q reason : Nat) : State :=
  ((s.bump (PB.Q_COUNTS.REFUSED q)).wr (PB.Q_STAT.LAST_REFUSE q) reason).count ctrFtd 0x012 q

/-- A STITCH slot missed. -/
def State.missSlot (s : State) (q : Nat) : State := (s.bump (PB.Q_COUNTS.MISSED q)).count ctrFtd 0x011 q

/-- The gate of a link (R63). -/
def State.gateOpen (s : State) (l : Nat) : Bool :=
  if optical l then s.on GAUGE.STATUS.OPT_OK else s.on GAUGE.STATUS.CU_OK

/-- The link itself is at fault: its port is disabled or a CSR safe state holds it. Log: DEDUCED 64. -/
def State.linkOff (s : State) (l : Nat) : Bool := if optical l then s.portOff l else s.cuOff (l - 16)

/-- A port's laser source is LOST for a wardrobe index (R226). -/
def State.sourceLost (s : State) (p idx : Nat) : Bool :=
  (Tbl.lookD s.fab.lasers {} (p / 8)).lost.contains (8 * p + idx)

/-- A stream that a TRANSIT slot forwarded in the slot before still leaves on a copper link (R285). -/
def State.tail (s : State) (l n : Nat) : Option Nat :=
  if n = 0 then none
  else match (s.plan (n - 1)).txOf l with
    | .forward src => some src
    | _ => none

/-- A tail clash counted. -/
def State.tailClash (s : State) (k : Nat) : State := (s.bump (CU.COUNTS.TAIL_CLASH k)).raise (CU.EVENT.TAIL_CLASH k)

/-- A queue's oldest payload that is in time for the cut-off of slot `n` (R116); one committed in the last 2 ns is in
time or not, as a free value has it. -/
def State.inTime (s : State) (q n : Nat) : Option Payload × State :=
  match s.queue q with
  | [] => (none, s)
  | p :: _ =>
    if p.time + Config.ns 2 ≤ cutoffOf n then (some p, s)
    else if cutoffOf n < p.time then (none, s)
    else
      let d := s.draw (PB.Q_STAT.BUFS q).key
      (if d.1 % 2 = 0 then some p else none, d.2)

/-- The last step of R118's order: by the queue's contents. -/
def State.bindSlot (s : State) (l n q ring colour : Nat) : State × TxAct :=
  match s.inTime q n with
  | (none, s) => (s.missSlot q, .idle q ring colour)
  | (some p, s) =>
    let s := s.setQueue q ((s.queue q).drop 1)
    if slotCap l < p.len then
      let s := (s.freePayload q p).refuse q rfLength
      (s.logOpen 3 0 sevError PB.Q_STAT.base (leBytes 8 q), .idle q ring colour)
    else
      let s := ((s.bump (PB.Q_COUNTS.ACCEPTED q)).count ctrFtd 0x010 q).count ctrFtd 0x013 q p.len
      (s, .send q ring colour p)

/-- A STITCH slot's outcome, in the order of R118. -/
def State.stitch (s : State) (l n : Nat) (e : Entry) : State × TxAct :=
  let q := e.queue
  let opt := optical l
  let clash := !opt && (s.tail l n).isSome
  let s := if clash then s.tailClash (l - 16) else s
  if s.faultFor n || s.pbOff || s.linkOff l || (opt && s.sourceLost l e.peer) || clash then (s.refuse q rfFault, .quiet)
  else if opt && s.staleFor n then (s.refuse q rfStale, .quiet)
  else if opt && s.rcCovers n then (s.refuse q rfRecable, .quiet)
  else if ¬ s.gateOpen l then (s.refuse q rfGate, .quiet)
  else if !opt && !s.cuUp (l - 16) then (s.missSlot q, .quiet)
  else if opt then
    match s.serving l e.peer with
    | none => (s.refuse q rfRing, .quiet)
    | some (r, k) => s.bindSlot l n q r k
  else s.bindSlot l n q 15 0

/-- Is a receive entry executed as QUIET (R121)? -/
def State.rxQuiet (s : State) (l n : Nat) : Bool :=
  let opt := optical l
  s.faultFor n || s.pbOff || s.linkOff l || (opt && (s.staleFor n || s.rcCovers n)) || !s.gateOpen l ||
    (!opt && !s.cuUp (l - 16))

/-- The action of a receive entry. -/
def Entry.rxAct (e : Entry) : RxAct :=
  if e.op = opTake then .take e.queue e.peer
  else if e.op = opFell then .fell e.queue e.peer
  else if e.op = opRelay then .relay e.queue e.peer
  else if e.op = opTransit then .transit e.peer
  else .quiet

/-- The receive half of a slot on a link. -/
def State.resolveRx (s : State) (n : Nat) (es : List (Nat × Entry)) (l : Nat) : State :=
  match es.find? fun x => x.2.rxOn l with
  | none => s
  | some (_, e) =>
    let quiet := s.rxQuiet l n
    let a := if quiet then .quiet else e.rxAct
    let s := if quiet && e.op != opQuiet then s.rxQuieted l else s
    let s := if e.op = opQuiet ∨ 16 ≤ l ∨ s.fab.claimed.contains l then s
      else { s with fab := { s.fab with claimed := s.fab.claimed ++ [l] } }
    let p := s.plan n
    s.setPlan n { p with rx := Tbl.set p.rx l a }

/-- The transmit half of a slot on a link. -/
def State.resolveTx (s : State) (n : Nat) (es : List (Nat × Entry)) (l : Nat) : State :=
  match es.find? fun x => x.2.txOn l with
  | none => s
  | some (_, e) =>
    let r : State × TxAct :=
      if e.op = opStitch then s.stitch l n e
      else if e.op = opTransit then
        let clash := match s.tail l n with | some src => src != e.link | none => false
        if clash then (s.tailClash (l - 16), .quiet)
        else if s.rxQuiet e.link n then (s, .quiet)
        else (s, .forward e.link)
      else (s, .quiet)
    let p := r.1.plan n
    r.1.setPlan n { p with tx := Tbl.set p.tx l r.2 }

/-- How many slots a resolved slot is kept for what still arrives of it: flight, hops and decoding. -/
def planKeep : Nat := 32

/-- SLOT_CUTOFF of slot `n`, at S - 512 ns. STITCH slots are resolved in ascending LINK order (R117). -/
def execSlotCutoff (n : Nat) (s : State) : Result :=
  if ¬ s.fabUp ∨ slotStart n < s.now ∨ (Tbl.look s.book.plans n).isSome then .next s
  else
    let s := s.advance (cutoffOf n)
    let s := { s with book := { s.book with
      plans := Tbl.set (s.book.plans.filter fun r => decide (n < r.1 + planKeep)) n {} } }
    let es := s.claimants n
    let s := (List.range 22).foldl (fun s l => s.resolveTx n es l) s
    .next ((List.range 22).foldl (fun s l => s.resolveRx n es l) s)

/-! ### The slot's start (R49, R52, R135, R137, R270, R282) -/

/-- OSEL driven and a slot begun on an optical port. -/
def State.light (s : State) (p : Nat) (x : Sent) : State :=
  let s := { s with book := { s.book with sent := Tbl.set s.book.sent p x } }
  let s := if s.fab.sending.contains p then s else { s with fab := { s.fab with sending := s.fab.sending ++ [p] } }
  (s.wr (OPE.P_STAT.OSEL p) x.ring).wr (OPE.P_STAT.TX_ACTIVE p) 1

/-- The seam word put into a header, and kept as sent. -/
def State.withSeam (s : State) (i : Nat) (res : Int) (h : Header) : Header × State :=
  let f := h.slot / 4096
  ({ h with seam := (s.seamWord i f res).bits }, s.seamSent i f res)

/-- A link's header for a slot of queue `q`. -/
def State.slotHeader (s : State) (l n q colour : Nat) (res : Int) : Header × State :=
  if optical l then
    let d := s.dest l colour
    let h := s.opHeader l n colour d
    s.withSeam (seamOptical l d) res { h with queue := q }
  else
    let k := l - 16
    s.withSeam (seamCopper k) res
      { src := s.node, slot := n, queue := q, port := k, qvalid := true, qecho := s.dst k q }

/-- Is a payload held in relay pockets? -/
def Payload.relayed : Payload → Bool
  | .relay _ _ _ => true
  | .buffer _ _ _ => false

/-- What a link begins to send in slot `n`. A probe, a reply or a learning slot that has been put up for the slot stays,
and so does the tail of a stream forwarded in the slot before (R285). -/
def State.startLink (s : State) (n : Nat) (res : Int) (l : Nat) : State :=
  let p := s.plan n
  let act := if p.cut.contains l then .quiet else p.txOf l
  let put (s : State) (x : Sent) : State :=
    if optical l then s.light l x else { s with book := { s.book with sent := Tbl.set s.book.sent l x } }
  match act with
  | .send q r k pl =>
    let h := s.slotHeader l n q k res
    put h.2 { slot := n, ring := r, head := some { h.1 with len := pl.len, relayed := pl.relayed },
              payload := (h.2.payloadBytes q pl).map some }
  | .idle q r k =>
    let h := s.slotHeader l n q k res
    put h.2 { slot := n, ring := r, head := some { h.1 with idle := true }, payload := [] }
  | _ =>
    match Tbl.look s.book.sent l with
    | none => s.silence l
    | some x =>
      if x.slot = n then (if optical l then s.light l x else s)
      else if x.hops ≠ 0 ∧ x.slot + 1 = n then s
      else s.silence l

/-- SLOT_START of slot `n`; `res` gives links' departure residuals, in units of 2^-12 ns (R49). -/
def execSlotStart (n : Nat) (res : List (Nat × Int)) (s : State) : Result :=
  if ¬ s.fabUp ∨ slotStart (n + 1) ≤ s.now then .next s
  else
    let s := (s.advance (slotStart n)).count ctrFtd 0x001 0
    .next ((List.range 22).foldl (fun s l => s.startLink n ((res.lookup l).getD 0) l) s)

/-- SLOT_END of slot `n`, at S + 256 ns: bound payloads are freed (R117). -/
def execSlotEnd (n : Nat) (s : State) : Result :=
  if ¬ s.mainUp then .next s
  else
    let s := s.advance (slotStart (n + 1))
    let p := s.plan n
    let s := p.tx.foldl (fun s x => match x.2 with | .send q _ _ pl => s.freePayload q pl | _ => s) s
    if (Tbl.look s.book.plans n).isSome then
      let keep := p.tx.filter fun x => match x.2 with | .forward _ => true | _ => false
      .next (s.setPlan n { s.plan n with tx := keep })
    else .next s

end Sys2Proof.Machine
end

