-- ==== Sys2Proof/Machine/Arrive.lean ====
section
/-! DEFINITION. Slots as they arrive: framing, the header's checks, delivery to rings, fells, relays and TRANSIT
(R30, R121-R129, R144-R159, R271, R272, R283-R285, R365-R371). -/
namespace Sys2Proof.Machine
open Sys2Proof

/-! ### Claims and slots under way -/

/-- The key of a slot on a link. -/
def rxKey (n l : Nat) : Nat := 32 * n + l

/-- The slot that a link receives under a claim. -/
def State.incoming (s : State) (n l : Nat) : Option Incoming := Tbl.look s.book.rx (rxKey n l)

/-- It, replaced. -/
def State.setIncoming (s : State) (n l : Nat) (x : Incoming) : State :=
  { s with book := { s.book with rx := Tbl.set s.book.rx (rxKey n l) x } }

/-- It, ended. -/
def State.endIncoming (s : State) (n l : Nat) : State :=
  { s with book := { s.book with rx := Tbl.del s.book.rx (rxKey n l), shots := Tbl.del s.book.shots (rxKey n l) } }

/-- A claim that stays without a slot, or whose place in its stream is fixed. -/
def State.claimOver (s : State) (n l : Nat) : State :=
  let p := s.plan n
  s.setPlan n { p with closed := p.closed ++ [l] }

/-- The outcomes that PB.L_COUNTS counts. -/
def State.rxIdle (s : State) (l : Nat) : State := (s.bump (PB.L_COUNTS.RX_IDLE l)).count ctrFtd 0x021 l
def State.rxDark (s : State) (l : Nat) : State := (s.bump (PB.L_COUNTS.RX_DARK l)).count ctrFtd 0x022 l
def State.rxDrop (s : State) (l : Nat) : State := (s.bump (PB.L_COUNTS.RX_DROP l)).count ctrFtd 0x023 l
def State.rxUncorr (s : State) (l : Nat) : State := (s.bump (PB.L_COUNTS.RX_UNCORR l)).count ctrFtd 0x024 l
def State.rxUnsched (s : State) (l : Nat) : State := (s.bump (PB.L_COUNTS2.RX_UNSCHED l)).count ctrFtd 0x026 l

/-- The sender that an action expects: a router index. -/
def RxAct.peer : RxAct → Nat
  | .take _ j => j
  | .fell _ j => j
  | .relay _ j => j
  | _ => 0

/-- Does an action expect a slot? -/
def RxAct.live : RxAct → Bool
  | .none => false
  | .quiet => false
  | _ => true

/-- What a port knows of a sender index. -/
def State.pair (s : State) (p j : Nat) : Pair := Tbl.lookD s.fab.pairs {} (32 * p + j)

/-- It, replaced. -/
def State.setPair (s : State) (p j : Nat) (x : Pair) : State :=
  { s with fab := { s.fab with pairs := Tbl.put s.fab.pairs {} (32 * p + j) x } }

/-- A copper link's hidden record. -/
def State.cuLink (s : State) (k : Nat) : CuLink := Tbl.lookD s.fab.cu {} k

/-- It, replaced. -/
def State.setCu (s : State) (k : Nat) (x : CuLink) : State :=
  { s with fab := { s.fab with cu := Tbl.put s.fab.cu {} k x } }

/-- Tenths of a nanosecond. -/
def tenths (n : Nat) : Nat := n * 65536 / 10

/-! ### Fells (R368-R371) -/

/-- The first fell claim of a stream, in slot and LINK order, whose place is not fixed. Log: DEDUCED 63. -/
def State.fellFirst (s : State) (f : Nat) : Option (Nat × Nat) :=
  (s.book.plans.filterMap fun r =>
    (r.2.rx.find? fun a => (match a.2 with | .fell g _ => g == f | _ => false) && !r.2.closed.contains a.1).map
      fun a => (r.1, a.1)).head?

/-- The address of a target element (R368, R369). -/
def FellShot.addr (x : FellShot) (t : Nat) : Nat :=
  if x.per = 0 then x.base + 4 * t else x.base + 0x200000 * (t / x.per) + 4 * (t % x.per)

/-- One element added where no line of it is held: whether it failed, and the flags it set. `first`: an error of the block
is reported here. -/
def State.fellDo (s : State) (a : Nat) (v : Lane) (first : Bool) : State × Bool × Flags :=
  let none_ : Flags := {}
  match s.region a with
  | .lpddr =>
    let s := (s.lpCount .fellUnit a 4).lpCount .fellUnit a 4
    if s.comp.lpddr.isBad (a / 64) then (if first then s.reportUncorr .fellUnit (a / 64) else s, true, none_)
    else
      let r := f32Add (BitVec.ofNat 32 (ofLeBytes (s.comp.lpddr.read a 4))) v
      (s.setLp (s.comp.lpddr.write a (leBytes 4 r.1.toNat)), false, r.2)
  | .sram c off =>
    match s.physOf c with
    | none => (s, true, none_)
    | some p =>
      let m := (s.cl p).sram
      if m.isBad (off / 8) then (if first then s.sramUncorr p (off / 8 * 8) else s, true, none_)
      else
        let r := f32Add (BitVec.ofNat 32 (ofLeBytes (m.read off 4))) v
        (s.setCl p { s.cl p with sram := m.write off (leBytes 4 r.1.toNat) }, false, r.2)
  | _ => (s, true, none_)

/-- One element added at a device address: at once, or when the companion has answered (R393). -/
def State.fellAdd (s : State) (f a : Nat) (v : Lane) (first : Bool) : State × Bool × Flags :=
  let s := (s.opnCount (s.nodeOf a) .ftd true 4).opnCount .ftd (s.nodeOf a) true 4
  if a < s.lpEnd ∧ s.heldLines true a 4 ≠ [] then
    let s := { s with ulk := { s.ulk with deferred := s.ulk.deferred ++ [Deferred.add f a v] } }
    (s.snoopFor true a 4, false, {})
  else s.fellDo a v first

/-- Upsets that a fell's reads find. -/
def State.fellStrike (s : State) (a : Nat) (ups : List Upset) : State :=
  match s.region a with
  | .lpddr => s.strikeLp a 4 ups
  | .sram c off =>
    match s.physOf c with
    | some p => s.strikeSram p off 4 (ups.map fun x => { x with addr := x.addr % 0x200000 })
    | none => s
  | _ => s

/-- Sticky flags of a stream (R370): the first addition of a slot that sets one is the slot's event. -/
def State.fellFlags (s : State) (f : Nat) (g : Flags) (told : Bool) : State :=
  if g.nv || g.ovf || g.uf || g.nx then
    let s := if g.nv then s.wr (MEM.FELL_FLAGS.NV f) 1 else s
    let s := if g.ovf then s.wr (MEM.FELL_FLAGS.OF f) 1 else s
    let s := if g.uf then s.wr (MEM.FELL_FLAGS.UF f) 1 else s
    let s := if g.nx then s.wr (MEM.FELL_FLAGS.NX f) 1 else s
    if told then s else s.bump (MEM.FELL_FLAGS.SEQ f)
  else s

/-- The bytes of an element, where all were received. -/
def allSome : List (Option Byte) → Option (List Byte)
  | [] => some []
  | none :: _ => none
  | some b :: r => (allSome r).map (b :: ·)

/-- Payload bytes of a fell slot from payload offset `off`, added element by element. -/
def State.fellPiece (s : State) (f : Nat) (shot : FellShot) (x : Incoming) (off : Nat) (l : List (Option Byte))
    (ups : List Upset) : State × Incoming :=
  let size := if shot.fmt = 0 then 2 else 4
  (List.range (l.length / size)).foldl (fun (r : State × Incoming) i =>
    match allSome ((l.drop (size * i)).take size) with
    | none => r
    | some b =>
      let t := (r.2.target + (off / size + i)) % shot.len
      let a := shot.addr t
      let v := if shot.fmt = 0 then ofLeBytes b * 65536 else ofLeBytes b
      let s := (r.1.fellStrike a ups).count ctrFtd 0x030 f size
      let q := s.fellAdd f a (BitVec.ofNat 32 v) (i == 0 || a % 64 == 0)
      let g := q.2.2
      let y := { r.2 with failed := r.2.failed || q.2.1, flagged := r.2.flagged || g.nv || g.ovf || g.uf || g.nx }
      (q.1.fellFlags f g r.2.flagged, y)) (s, x)

/-- A fell slot has ended (R371). -/
def State.fellEnd (s : State) (f l : Nat) (failed : Bool) : State :=
  let s := s.bump (MEM.FELL_COUNTS.COMPLETED f)
  if failed then
    let s := (((s.bump (MEM.FELL_COUNTS.FAILED f)).count ctrFtd 0x031 f).raise MEM.EVENT.FELL_FAIL)
    if s.on (MEM.FELL_CFG.JOB_EN f) then s.jobFail (s.rd (MEM.FELL_CFG.JOB f)) else s
  else s.count ctrFtd 0x020 l

/-- The last codeword of a slot on a link (R149, R267). -/
def lastWord (l : Nat) : Nat := if optical l then 8 else 79

/-- A fell slot whose place is known: the cursor moves (R368), and what has been received of it is added.
Log: DEDUCED 63. -/
def State.fellPlace (s : State) (f n l : Nat) (shot : FellShot) (x : Incoming) : State :=
  let cur := s.rd (MEM.FELL_CUR.CURSOR f)
  let s := if shot.len = 0 then s else
    (s.wr (MEM.FELL_CUR.CURSOR f) ((cur + shot.adv) % shot.len)).bumpBy (MEM.FELL_COUNTS.WRAPS f) ((cur + shot.adv) / shot.len)
  let s := s.claimOver n l
  let y := { x with target := cur, bytes := [] }
  if shot.adds then
    let r := s.fellPiece f shot y 0 x.bytes []
    if lastWord l < x.next then (r.1.fellEnd f l r.2.failed).endIncoming n l else r.1.setIncoming n l r.2
  else (s.fellEnd f l true).setIncoming n l { y with ended := true }

/-- Fell slots of a stream placed in slot and LINK order, as far as their headers have been decoded.
Log: DEDUCED 63. -/
def State.fellSettle (s : State) (f : Nat) : Nat → State
  | 0 => s
  | fuel + 1 =>
    match s.fellFirst f with
    | none => s
    | some (n, l) =>
      match Tbl.look s.book.shots (rxKey n l), s.incoming n l with
      | some shot, some x => (s.fellPlace f n l shot x).fellSettle f fuel
      | _, _ => s

/-- More fell claims than can wait at once. -/
def fellFuel : Nat := 1024

/-- A claim whose slot will not be delivered. -/
def State.claimLost (s : State) (n l : Nat) (a : RxAct) : State :=
  let s := s.claimOver n l
  match a with
  | .fell f _ => s.fellSettle f fellFuel
  | _ => s

/-- The stream's configuration as a slot finds it (R368, R369): LENGTH is 0 where the checks of R369 fail. -/
def State.fellConf (s : State) (f : Nat) : FellShot × Bool :=
  let base := s.fellBase f
  let len := if s.heldBy fun o i => i == f && decide (0xA60004 ≤ o) && decide (o < 0xA60030) then 0
    else s.rd (MEM.FELL_LEN.LENGTH f)
  let per := s.rd (MEM.FELL_STRIPE.PER f)
  let ok :=
    match s.region base with
    | .sram c off =>
      if per = 0 then decide (off + 4 * len ≤ sramBytes)
      else len % per == 0 && decide (off + 4 * per ≤ sramBytes) && decide (c + len / per ≤ 2000)
    | .lpddr => per == 0 && decide (base + 4 * len ≤ s.lpEnd)
    | _ => false
  let good := ok || len == 0
  ({ base := base, len := if good then len else 0, fmt := s.rd (MEM.FELL_CFG.FMT f), per := per, adv := 0, adds := false },
    good)

/-- A fell slot's header has been decoded, or is uncorrectable (R371). -/
def State.fellHeader (s : State) (f n l : Nat) (x : Incoming) (len : Option Nat) : State :=
  let c := s.fellConf f
  let s := if c.2 then s else s.raise MEM.EVENT.CFG_ERR
  let shot := c.1
  let size := if shot.fmt = 0 then 2 else 4
  let shot :=
    if shot.len = 0 then shot
    else match len with
      | some k => if k % size = 0 then { shot with adv := k / size, adds := true }
                  else { shot with adv := s.rd (MEM.FELL_CFG.ADV f) }
      | none => { shot with adv := s.rd (MEM.FELL_CFG.ADV f) }
  let s := s.setIncoming n l x
  let s := { s with book := { s.book with shots := Tbl.set s.book.shots (rxKey n l) shot } }
  s.fellSettle f fellFuel

/-! ### Payload (R149, R155-R157, R267) -/

/-- Of a codeword: where its payload begins in it, the payload offset of that byte, and how many payload bytes it can
carry. -/
def payloadArea (l i : Nat) : Nat × Nat × Nat :=
  if optical l then (if i = 0 then (32, 0, 288) else (0, 288 + 320 * (i - 1), 320))
  else if i = 0 then (92, 0, 228)
  else if i < 8 then (60, 228 + 260 * (i - 1), 260)
  else (0, 2048 + 320 * (i - 8), 320)

/-- The payload bytes of a codeword as the aggregator gets them: none for those not to be written.
Log: DEDUCED 124. -/
def payloadPiece (l i len : Nat) (w : Codeword) (f : FifoFault) : List (Option Byte) :=
  let a := payloadArea l i
  let k := min a.2.2 (len - a.2.1)
  (List.range k).map fun b =>
    match w with
    | .bad => none
    | .good bytes _ _ =>
      if f.lost.contains (b / 8) || f.spoilt.any (fun j => (a.2.1 + 8 * j) / 64 == (a.2.1 + b) / 64) then none
      else bytes[a.1 + b]?

/-- The packing FIFO's registers and events. -/
def State.fifo (s : State) (l : Nat) (f : FifoFault) : State :=
  if optical l then
    let s := (s.bumpBy (OPE.P_FIFO.OVF l) f.lost.length).bumpBy (OPE.P_FIFO.ECC_CORR l) f.fixed
    if f.lost = [] then s else s.raise (OPE.EVENT.FIFO_OVF (l / 4)) sevError
  else s

/-- Runs of received bytes, with their offsets. -/
def runsOf : Nat → List (Option Byte) → List (Nat × List Byte)
  | _, [] => []
  | o, none :: r => runsOf (o + 1) r
  | o, some b :: r =>
    match runsOf (o + 1) r with
    | (o', l) :: t => if o' = o + 1 then (o, b :: l) :: t else (o, [b]) :: (o', l) :: t
    | [] => [(o, [b])]

/-- Bytes of a scheduled slot written to LPDDR5: at once, or when the companion has answered (R393).
Log: DEDUCED 93. -/
def State.aggWrite (s : State) (a : Nat) (l : List Byte) : State × Bool :=
  let s := s.opnCount .ftd (s.nodeOf a) true l.length
  if s.heldLines true a l.length ≠ [] then
    let s := { s with ulk := { s.ulk with deferred := s.ulk.deferred ++ [Deferred.write a l] } }
    (s.snoopFor true a l.length, true)
  else s.devWrite .aggregator .free a l

/-- A receive ring's entry (R365). -/
def State.entryAddr (s : State) (r i : Nat) : Nat := s.rxBase r + i * s.rxStride r

/-- A piece of a slot's payload delivered as its codeword decodes (R122). Log: DEDUCED 124. -/
def State.deliverPiece (s : State) (n l off : Nat) (x : Incoming) (piece : List (Option Byte)) (ups : List Upset) :
    State × Incoming :=
  let x := { x with failed := x.failed || piece.any Option.isNone }
  match x.act with
  | .take r _ =>
    (runsOf (off + 64) piece).foldl (fun (q : State × Incoming) w =>
      let res := q.1.aggWrite (q.1.entryAddr r x.target + w.1) w.2
      (res.1, { q.2 with failed := q.2.failed || !res.2 })) (s, x)
  | .fell f _ =>
    match Tbl.look s.book.shots (rxKey n l) with
    | none => (s, x)
    | some shot =>
      if (s.plan n).closed.contains l then s.fellPiece f shot x off piece ups
      else (s, { x with bytes := x.bytes ++ piece })
  | .relay _ _ => (s, { x with bytes := x.bytes ++ piece })
  | .transit k =>
    match Tbl.look s.book.sent (16 + k) with
    | some y =>
      if y.slot = n then
        ({ s with book := { s.book with sent := Tbl.set s.book.sent (16 + k) { y with payload := y.payload ++ piece } } }, x)
      else (s, x)
    | none => (s, x)
  | _ => (s, x)

/-- A RELAY slot dropped (R128). -/
def State.relayDrop (s : State) : State :=
  ((s.bump PB.POCKET_STAT.RELAY_DROP).count ctrFtd 0x032 0).raise PB.EVENT.RELAY_DROP sevError

/-- A TAKE that has failed is attributed (R374). -/
def State.takeFail (s : State) (r : Nat) : State :=
  if s.on (MEM.RING_CFG.JOB_EN r) then s.jobFail (s.rd (MEM.RING_CFG.JOB r)) else s

/-- A receive ring's entry completed: its header, SEQ last (R365). -/
def State.takeEnd (s : State) (l r : Nat) (x : Incoming) (h : Header) : State :=
  let seq := (s.rd (MEM.RING_COUNTS.WRITES r) + 1) % 2 ^ 32
  let head := leBytes 8 h.slot ++ leBytes 2 h.src ++ leBytes 2 h.len ++ leBytes 1 l ++ leBytes 1 h.queue ++
    leBytes 1 (bit x.failed) ++ leBytes 1 (bit h.relayed) ++ leBytes 4 seq
  let s := (s.aggWrite (s.entryAddr r x.target) (padTo 64 head)).1
  let s := s.bump (MEM.RING_COUNTS.WRITES r)
  let g := s.ring r
  let s := s.setRing r { g with entries := Tbl.set g.entries x.target { use := .written, gen := x.gen } }
  if x.failed then (s.bump (MEM.RING_COUNTS.FAILED r)).takeFail r else s.count ctrFtd 0x020 l

/-- The last codeword of a slot has been handled. -/
def State.slotDone (s : State) (n l : Nat) (x : Incoming) : State :=
  if x.ended then s.endIncoming n l
  else
    match x.act, x.head with
    | .take r _, some h => (s.takeEnd l r x h).endIncoming n l
    | .fell f _, _ =>
      if (s.plan n).closed.contains l then (s.fellEnd f l x.failed).endIncoming n l else s.setIncoming n l x
    | .relay _ _, _ =>
      if x.failed then ((s.freePockets x.pocket).relayDrop).endIncoming n l else (s.setIncoming n l x).count ctrFtd 0x020 l
    | _, _ => s.endIncoming n l

/-- The payload of a codeword handled; with the last one, the slot ends. -/
def State.wordPayload (s : State) (n l i : Nat) (x : Incoming) (w : Codeword) (f : FifoFault) (ups : List Upset) : State :=
  let x := { x with next := i + 1 }
  let r : State × Incoming :=
    if x.ended then (s, x)
    else
      let len := match x.head with | some h => h.len | none => (match x.act with | .transit _ => slotCap l | _ => 0)
      (s.fifo l f).deliverPiece n l (payloadArea l i).2.1 x (payloadPiece l i len w f) ups
  if i = lastWord l then r.1.slotDone n l r.2 else r.1.setIncoming n l r.2

/-! ### Quality (R145, R159) -/

/-- A frame's received and changed bits added to the last 16 frames'. -/
def addBits (l : List (Nat × Nat × Nat)) (f recv chg : Nat) : List (Nat × Nat × Nat) :=
  let l := l.filter fun x => decide (f < x.1 + 16)
  match l with
  | (g, a, b) :: r => if g = f then (g, a + recv, b + chg) :: r else (f, recv, chg) :: l
  | [] => [(f, recv, chg)]

/-- floor(-10 × log10(BER)) of bits changed among bits received: 255 where none was changed, at most 255.
Log: DEDUCED 85. -/
def qualityOf (recv chg : Nat) : Nat :=
  if chg = 0 then 255
  else ((List.range 255).filter fun q => decide (chg ^ 10 * 10 ^ (q + 1) ≤ recv ^ 10)).length

/-- The physical lane that carries a logical lane. -/
def State.laneOf (s : State) (k lane : Nat) : Nat :=
  ((List.range 9).find? fun i => s.rd (CU.LANE_STAT.LOGICAL k i) == lane).getD lane

/-- A codeword's part in its link's figures. -/
def State.wordStats (s : State) (l i peer : Nat) (w : Codeword) : State :=
  let c := match w with | .good _ sy b => (sy, b) | .bad => (0, 80)
  let fr := frameOf s.now
  let s := match w with
    | .good _ sy _ => if sy = 0 then s else s.count ctrFtd 0x027 l sy
    | .bad => s.rxUncorr l
  if optical l then
    let x := s.pair l peer
    let s := s.setPair l peer { x with bits := addBits x.bits fr 2720 c.2 }
    match w with
    | .good _ sy _ => if sy = 0 then s else (s.bumpBy (OPE.P_COUNTS.CORR_SYM l) sy).bump (OPE.P_COUNTS.CORR_CW l)
    | .bad => (s.bump (OPE.P_COUNTS.UNCORR_CW l)).raise (OPE.EVENT.UNCORR (l / 4))
  else
    let k := l - 16
    let x := s.cuLink k
    let ph := s.laneOf k (i % 8)
    s.setCu k { x with bits := Tbl.set x.bits ph (addBits (Tbl.lookD x.bits [] ph) fr 2720 c.2) }

/-! ### SLOT_ARRIVAL (R151-R153, R271) -/

/-- A claim finds no slot. -/
def State.claimDark (s : State) (n l : Nat) (a : RxAct) : State := (s.rxDark l).claimLost n l a

/-- A framed slot on an optical port (R152): the cache entry takes the phase and gain found. -/
def State.framed (s : State) (p j phase gain : Nat) : State :=
  let s := ((s.wr (OPE.P_PC.VALID p j) 1).wr (OPE.P_PC.PHASE p j) phase).wr (OPE.P_PC.GAIN p j) gain
  let s := (s.wr (OPE.P_PC.AGE p j) 0).wr (OPE.P_QUAL.RX_VALID p j) 1
  let x := s.pair p j
  let s := s.setPair p j { x with fails := 0, dark := 0, told := false, framedAt := some (frameOf s.now) }
  let s := if s.fab.lit.contains p then s else { s with fab := { s.fab with lit := s.fab.lit ++ [p] } }
  (s.wr (OPE.P_STAT.RX_FRAMED p) 1).wr (OPE.P_STAT.LAST_PEER p) j

/-- An arrival on an optical port. -/
def State.arriveOptical (s : State) (l n : Nat) (a : Arrival) : State :=
  match (s.plan n).rxOf l with
  | .none => (match a with | .optical _ _ => s.rxUnsched l | _ => s)
  | .quiet => s
  | act =>
    let j := act.peer
    match s.flight l j with
    | none =>
      let x := s.pair l j
      (((s.setPair l j { x with dark := x.dark + 1 }).wr (OPE.P_STAT.RX_FRAMED l) 0)).claimDark n l act
    | some f =>
      let s := s.advance (slotStart n + f + tenths 256)
      match a with
      | .optical ph g => (s.framed l j ph.toNat g.toNat).setIncoming n l { act := act }
      | _ =>
        let x := s.pair l j
        let s := s.setPair l j { x with fails := x.fails + 1, dark := x.dark + 1 }
        (s.wr (OPE.P_STAT.RX_FRAMED l) 0).claimDark n l act

/-- A copper link's recorded flight time. -/
def State.cuFlight (s : State) (k : Nat) : Nat := Tbl.lookD s.fab.cut.cuFlight 0 k

/-- QLANE of each lane block kept (R268). -/
def State.laneQuality (s : State) (k : Nat) (bs : List LaneBlock) : State :=
  bs.foldl (fun s b => if b.plane < 9 then s.wr (CU.LANE_STAT.QTX k b.plane) b.qlane else s) s

/-- An arrival on a copper link. -/
def State.arriveCopper (s : State) (l n : Nat) (a : Arrival) : State :=
  let k := l - 16
  let act := (s.plan n).rxOf l
  if ¬ s.cuUp k then s
  else
    match a with
    | .copper hops filler bs =>
      let s := s.advance (slotStart n + s.cuFlight k + tenths (768 * hops.toNat))
      let s := (s.setCu k { s.cuLink k with fails := 0 }).laneQuality k bs
      if act.live then
        if filler then s.claimDark n l act else s.setIncoming n l { act := act, hops := hops.toNat }
      else if act == .none && !filler then s.rxUnsched l
      else s
    | _ =>
      let s := s.advance (slotStart n + s.cuFlight k)
      let s := s.setCu k { s.cuLink k with fails := (s.cuLink k).fails + 1 }
      if act.live then s.claimDark n l act else s

/-- SLOT_ARRIVAL of slot `n` on a link. Log: DEDUCED 65. -/
def execSlotArrival (l : Fin 22) (n : Nat) (a : Arrival) (s : State) : Result :=
  if ¬ s.fabUp ∨ (s.plan n).closed.contains l.val ∨ (s.incoming n l).isSome then .next s
  else if optical l then .next (s.arriveOptical l n a)
  else .next (s.arriveCopper l n a)

/-- PHASE_CACHE_INVALID: sender `j` of a port has failed framing in 4 claims in a row (R153). -/
def execPhaseCacheInvalid (p : Fin 16) (j : Fin 32) (s : State) : Result :=
  if ¬ s.fabUp ∨ (s.pair p j).fails < 4 ∨ ¬ s.on (OPE.P_PC.VALID p j) then .next s
  else .next ((s.wr (OPE.P_PC.VALID p j) 0).raise (OPE.EVENT.PC_INVALID (p.val / 4)))

/-! ### HEADER_DECODE -/

/-- The link towards a bench position (R282). Log: DEDUCED 62. -/
def State.route (s : State) (d : Nat) : Nat :=
  if d < 64 then s.rd (CU.ROUTE.E (d / 8) (d % 8)) else if d < 68 then s.rd (CU.ROUTE8.E (d - 64)) else 15

/-- A TRANSIT stream begins to leave on link `k` (R129, R284). Log: DEDUCED 62. -/
def State.forward (s : State) (n l k : Nat) (x : Incoming) (h : Option Header) : State × Incoming :=
  let src := l - 16
  if (s.plan n).txOf (16 + k) ≠ .forward l ∨ (s.plan n).cut.contains (16 + k) then (s, { x with ended := true })
  else if ¬ s.cuUp k ∨ s.cuOff k then (s.bump (CU.COUNTS.FWD_LOST src), { x with ended := true })
  else
    let y : Sent := { slot := n, ring := 15, head := h, payload := [], hops := x.hops + 1 }
    let s := { s with book := { s.book with sent := Tbl.set s.book.sent (16 + k) y } }
    let idle := match h with | some h => h.idle | none => false
    (if idle then s else s.bump (CU.COUNTS.TRANSIT_FWD src), x)

/-- The header codeword is uncorrectable: the operation fails (R121, R129, R371). Log: DEDUCED 62. -/
def State.headerBad (s : State) (n l : Nat) (x : Incoming) : State :=
  match x.act with
  | .take r _ => ((s.takeFail r).claimOver n l).setIncoming n l { x with ended := true }
  | .fell f _ => s.fellHeader f n l x none
  | .transit k =>
    let r := if 3 ≤ x.hops then
        ((s.bump (CU.COUNTS.MISROUTE (l - 16))).raise (CU.EVENT.MISROUTE (l - 16)), { x with ended := true })
      else s.forward n l k x none
    (r.1.claimOver n l).setIncoming n l r.2
  | _ => (s.claimOver n l).setIncoming n l { x with ended := true }

/-- A slot that is dropped (R121). -/
def State.dropSlot (s : State) (n l : Nat) (x : Incoming) : State :=
  ((s.rxDrop l).claimLost n l x.act).setIncoming n l { x with ended := true }

/-- The source checks (R30, R123): a router index's port and node, or the own bench. -/
def State.sourceOk (s : State) (l : Nat) (x : Incoming) (h : Header) : Bool :=
  if optical l then s.site l x.act.peer == some ⟨h.port, h.src⟩ else h.src / 128 == s.bench

/-- The seam word and the echo of an accepted slot taken (R51, R159, R272). -/
def State.headerNews (s : State) (l : Nat) (x : Incoming) (h : Header) (delay : Int) : State :=
  if optical l then
    let j := x.act.peer
    let s := s.seamReceived (seamOptical l j) (SeamWord.ofBits h.seam) delay
    if h.qvalid then
      let y := s.pair l j
      let s := s.setPair l j { y with echoAt := some (frameOf s.now) }
      (s.wr (OPE.P_QUAL.QTX l j) h.qecho).wr (OPE.P_QUAL.TX_VALID l j) 1
    else s
  else if h.src = s.rd (CU.PEER_ID.NODE (l - 16)) ∧ x.hops = 0 then
    s.seamReceived (seamCopper (l - 16)) (SeamWord.ofBits h.seam) delay
  else s

/-- Is a ring held as with ENTRIES = 0 by a register fault (R480)? -/
def State.ringHeld (s : State) (r : Nat) : Bool :=
  s.heldBy fun o i => i == r && decide (0xA40004 ≤ o) && decide (o < 0xA40030)

/-- A TAKE slot's entry (R124, R365, R366). -/
def State.takeHeader (s : State) (l r : Nat) (x : Incoming) (h : Header) : State × Incoming :=
  let en := if s.ringHeld r then 0 else s.rd (MEM.RING_CFG.ENTRIES r)
  if en = 0 ∨ s.rd (MEM.RING_CFG.SLOT64 r) * 64 < h.len then
    (((s.rxDrop l).bump (MEM.RING_COUNTS.DROPPED r)).takeFail r, { x with ended := true })
  else
    let g := s.ring r
    let used := (Tbl.look g.entries g.pos).isSome
    let s := if used then
      ((s.bump (MEM.RING_COUNTS.OVERRUNS r)).setFlag (MEM.RING_STAT.OVR r)).raise MEM.EVENT.RING_OVR else s
    let s := s.setRing r { g with entries := Tbl.del g.entries g.pos, pos := (g.pos + 1) % en, gen := g.gen + 1 }
    (s, { x with target := g.pos, gen := g.gen + 1 })

/-- A RELAY slot's pockets (R127, R128). -/
def State.relayHeader (s : State) (x : Incoming) (h : Header) : State × Incoming :=
  if h.len = 0 then (s.bump PB.ZERO_COMMIT.COUNT, { x with ended := true })
  else
    match s.takePockets ((h.len + 2847) / 2848) with
    | none => (s.relayDrop, { x with ended := true })
    | some (k, s) => (s, { x with pocket := k })

/-- An accepted header acts. -/
def State.headerAct (s : State) (n l : Nat) (x : Incoming) (h : Header) : State :=
  let notMine := !optical l && (h.qecho % 128 != s.benchPos) &&
    (match x.act with | .take _ _ => true | .fell _ _ => true | _ => false)
  if notMine then (s.bump (CU.COUNTS.NOT_MINE (l - 16))).dropSlot n l x
  else if h.idle then
    let r := match x.act with
      | .transit k =>
        if s.route (h.qecho % 128) ≠ k ∨ 3 ≤ x.hops then
          (((s.bump (CU.COUNTS.MISROUTE (l - 16))).raise (CU.EVENT.MISROUTE (l - 16))), x)
        else
          let q := s.forward n l k x (some h)
          (if q.2.ended then q.1 else q.1.rxIdle l, q.2)
      | _ => (s.rxIdle l, x)
    (r.1.claimLost n l x.act).setIncoming n l { r.2 with ended := true }
  else
    match x.act with
    | .take r _ =>
      let q := s.takeHeader l r x h
      (q.1.claimOver n l).setIncoming n l q.2
    | .fell f _ => s.fellHeader f n l x (some h.len)
    | .relay _ _ =>
      let q := s.relayHeader x h
      (q.1.claimOver n l).setIncoming n l q.2
    | .transit k =>
      let q : State × Incoming :=
        if s.route (h.qecho % 128) ≠ k ∨ 3 ≤ x.hops then
          ((s.bump (CU.COUNTS.MISROUTE (l - 16))).raise (CU.EVENT.MISROUTE (l - 16)), { x with ended := true })
        else s.forward n l k x (some h)
      (q.1.claimOver n l).setIncoming n l q.2
    | _ => s.setIncoming n l { x with ended := true }

/-- A header that has decoded and holds: checked (R150), taken, acted on. -/
def State.headerGood (s : State) (n l : Nat) (x : Incoming) (h : Header) (delay : Int) : State :=
  let checks := match x.act with | .transit _ => true | _ => s.sourceOk l x h
  if h.ver ≠ 1 ∨ slotCap l < h.len ∨ h.slot ≠ n ∨ (!optical l && !h.qvalid) = true ∨ checks = false then s.dropSlot n l x
  else (s.headerNews l x h delay).headerAct n l { x with head := some h } h

/-- When codeword `i` of slot `n` has been decoded: 64 ns after its last symbol (R144). -/
def State.decodeTime (s : State) (n l i : Nat) (x : Incoming) : Nat :=
  if optical l then slotStart n + (s.flight l x.act.peer).getD 0 + tenths (256 * (i + 2) + 640)
  else slotStart n + s.cuFlight (l - 16) + tenths (768 * x.hops + 256 * (i / 8 + 1) + 640)

/-- HEADER_DECODE: the header codeword of slot `n` on a link; `delay` is its arrival less its nominal departure, in
units of 2^-12 ns (R50). Log: DEDUCED 65. -/
def execHeaderDecode (l : Fin 22) (n : Nat) (w : Codeword) (delay : Int) (f : FifoFault) (ups : List Upset) (s : State) :
    Result :=
  match s.incoming n l with
  | none => .next s
  | some x =>
    if ¬ s.fabUp ∨ x.next ≠ 0 then .next s
    else
      let s := (s.advance (s.decodeTime n l 0 x)).wordStats l 0 x.act.peer w
      let x := { x with next := 1 }
      let s := match w with
        | .bad => s.headerBad n l x
        | .good bytes _ _ =>
          if headerOk bytes then s.headerGood n l x (Header.ofBytes bytes) delay
          else (s.rxUncorr l).headerBad n l x
      match s.incoming n l with
      | none => .next s
      | some y => .next (s.wordPayload n l 0 y w f ups)

/-- CODEWORD_DECODE: data codeword `i` of slot `n` on a link. Log: DEDUCED 65. -/
def execCodewordDecode (l : Fin 22) (n i : Nat) (w : Codeword) (f : FifoFault) (ups : List Upset) (s : State) : Result :=
  match s.incoming n l with
  | none => .next s
  | some x =>
    if ¬ s.fabUp ∨ i = 0 ∨ x.next ≠ i then .next s
    else
      let s := (s.advance (s.decodeTime n l i x)).wordStats l i x.act.peer w
      .next (s.wordPayload n l i x w f ups)

/-- A slot's delivery time (R125). -/
def State.deliveryTime (s : State) (n l : Nat) (x : Incoming) : Nat :=
  if optical l then slotStart (n + 1) + (s.flight l x.act.peer).getD 0 + Config.ns 448
  else slotStart (n + 1) + Config.ns (180 + 96 * x.hops)

/-- RELAY_COMMIT: a relayed payload is committed at its slot's delivery time (R127). -/
def execRelayCommit (l : Fin 22) (n : Nat) (s : State) : Result :=
  match s.incoming n l with
  | none => .next s
  | some x =>
    match x.act, x.pocket with
    | .relay q _, k :: r =>
      if ¬ s.fabUp ∨ x.ended ∨ x.next ≤ lastWord l then .next s
      else
        let s := s.advance (s.deliveryTime n l x)
        let bytes := x.bytes.map fun b => b.getD 0
        .next ((s.setQueue q (s.queue q ++ [.relay (k :: r) bytes s.now])).endIncoming n l)
    | _, _ => .next s

end Sys2Proof.Machine
end

