-- ==== Sys2Proof/Machine/Gauge.lean ====
section
/-! DEFINITION. The Gauge (R38-R62): the two domains, the states of R46, the discipline, the estimated error and the
slot gates. Times are in units of 2^-16 ns. -/
namespace Sys2Proof.Machine
open Sys2Proof

/-! ### The two domains -/

/-- The domain that a bit of STATUS or CTRL names: 0 A, 1 B. -/
def domOf (n : Nat) : Dom := if n = 0 then .a else .b

/-- A domain's record. -/
def State.dom (s : State) : Dom → Domain
  | .a => s.gauge.domA
  | .b => s.gauge.domB

/-- A domain's record replaced. -/
def State.setDom (s : State) (d : Dom) (x : Domain) : State :=
  match d with
  | .a => { s with gauge := { s.gauge with domA := x } }
  | .b => { s with gauge := { s.gauge with domB := x } }

/-- A domain's validity bit (R40). -/
def validField : Dom → Field
  | .a => GAUGE.STATUS.A_VALID
  | .b => GAUGE.STATUS.B_VALID

/-- Is a domain valid? -/
def State.valid (s : State) (d : Dom) : Bool := s.on (validField d)

/-- A domain's cable delay (R41). -/
def State.cable (s : State) : Dom → Nat
  | .a => s.rd GAUGE.DELAY_A.DELAY
  | .b => s.rd GAUGE.DELAY_B.DELAY

/-- The active domain; in SETTLE, the selected one. -/
def State.active (s : State) : Dom := domOf (s.rd GAUGE.STATUS.ACTIVE)

/-- The preferred domain. -/
def State.pref (s : State) : Dom := domOf (s.rd GAUGE.CTRL.PREF)

/-- The active domain if it is valid, else the other if that is. -/
def State.validDom (s : State) : Option Dom :=
  if s.valid s.active then some s.active
  else if s.valid s.active.other then some s.active.other
  else none

/-- A domain's time port. -/
def State.port (s : State) : Dom → TimePort
  | .a => s.tio.portA
  | .b => s.tio.portB

/-- A domain's time port replaced. -/
def State.setPort (s : State) (d : Dom) (x : TimePort) : State :=
  match d with
  | .a => { s with tio := { s.tio with portA := x } }
  | .b => { s with tio := { s.tio with portB := x } }

/-- The half width of the capture window, 2 ns (R41). -/
def winHalf : Nat := 131072

/-- The nearest frame to an edge of a domain with cable delay `delay`: its boundary number and the edge's distance
from boundary and delay, signed (R37, R41). Log: DEDUCED 10. -/
def edgeFrame (edge delay : Nat) : Int × Int :=
  let x : Int := (edge : Int) - delay
  let k := (x + Config.frameTime / 2) / Config.frameTime
  (k, x - k * Config.frameTime)

/-- Good pulses in a row, the judged frame included. Log: DEDUCED 39. -/
def Domain.goodNow (x : Domain) : Nat :=
  match x.verdict with
  | .none => x.goodRun
  | .good => x.goodRun + 1
  | .miss => 0

/-- Misses in a row, the judged frame included. -/
def Domain.missNow (x : Domain) : Nat :=
  match x.verdict with
  | .none => x.missRun
  | .good => 0
  | .miss => x.missRun + 1

/-- The record moved on to frame `f`: the frame before is folded into the runs. Log: DEDUCED 39. -/
def Domain.roll (x : Domain) (f delay : Nat) : Domain :=
  if x.frame = f then x
  else
    { x with
      frame := f, edges := 0, inWin := [], verdict := .none, goodRun := x.goodNow, missRun := x.missNow,
      residual := match x.inWin with | [t] => some (edgeFrame t delay).2 | _ => none }

/-- The residual a domain gives for frame `f` (R42): its one in-window edge, or none. -/
def State.domResidual (s : State) (d : Dom) (f : Nat) : Option Int :=
  let x := s.dom d
  if x.frame = f then
    match x.inWin with
    | [t] => some (edgeFrame t (s.cable d)).2
    | _ => none
  else if x.frame = f + 1 then x.residual
  else none

/-- The distance of a domain's last edge from boundary and delay, with C (R43, R46). -/
def State.domError (s : State) (d : Dom) : Option Int :=
  (s.dom d).lastEdge.map (fun t => (edgeFrame t (s.cable d)).2 + s.rdI GAUGE.CORR.C)

/-- The counter of a domain's misses (R42). -/
def missField : Dom → Field
  | .a => GAUGE.COUNTS.MISS_A
  | .b => GAUGE.COUNTS.MISS_B

/-- The register of a domain's last in-window pulse. -/
def capField : Dom → Field
  | .a => GAUGE.CAP_A.TIME
  | .b => GAUGE.CAP_B.TIME

/-- The frame a domain's record judges counted as a miss, once (R41, R42). -/
def State.domMiss (s : State) (d : Dom) : State :=
  if (s.dom d).verdict = .miss then s
  else ((s.setDom d { s.dom d with verdict := .miss }).bump (missField d)).count ctrFtd 0x051 d.num

/-- Do a domain's conditions other than its pulses hold (R40)? -/
def State.domFit (s : State) (d : Dom) : Bool :=
  (s.dom d).ppmOk && (s.dom d).clk && (s.port d).results.length == 8 && (s.port d).results.all id

/-! ### Pulse outputs and a phase step (R73) -/

/-- A pulse output's record. -/
def State.pulse (s : State) (n : Nat) : Pulse := Tbl.lookD s.tio.pulses {} n

/-- A pulse output's record replaced. -/
def State.setPulse (s : State) (n : Nat) (x : Pulse) : State :=
  { s with tio := { s.tio with pulses := Tbl.put s.tio.pulses {} n x } }

/-- Committed edges that a forward step has passed are not placed, and are counted (R73). Log: DEDUCED 36. -/
def State.tpoAfterStep (s : State) (n : Nat) : State :=
  let x := s.pulse n
  let keep := x.committed.filter (fun c => decide (s.now ≤ c.time))
  (s.setPulse n { x with committed := keep }).bumpBy TIO.COUNTS.TPO_SKIP (x.committed.length - keep.length)

/-- All eight outputs after a phase step (R73). Log: DEDUCED 36. -/
def State.tpoStepped (s : State) : State := (List.range 8).foldl (fun s' n => s'.tpoAfterStep n) s

/-! ### Entering the states of R46 -/

/-- C written, and SLEWING with it. Log: DESIGN CHOICE 8. -/
def State.setCorr (s : State) (c : Int) : State :=
  (s.wrI GAUGE.CORR.C c).wrB GAUGE.STATUS.SLEWING (c != 0)

/-- A domain's record under hall time stepped by `d`: its edges read the new time, and so does the frame they count for. -/
def Domain.stepped (x : Domain) (d : Int) (delay : Nat) : Domain :=
  let mv (t : Nat) : Nat := ((t : Int) + d).toNat
  { x with
    inWin := x.inWin.map mv, residual := none, lastEdge := x.lastEdge.map mv,
    frame := match x.inWin with
      | t :: _ => (edgeFrame (mv t) delay).1.toNat
      | [] => ((x.frame : Int) + (d + Config.frameTime / 2) / Config.frameTime).toNat }

/-- Hall time stepped by a signed amount (R35). -/
def State.stepTime (s : State) (d : Int) : State :=
  { s with
    now := ((s.now : Int) + d).toNat
    gauge := { s.gauge with domA := s.gauge.domA.stepped d (s.cable .a), domB := s.gauge.domB.stepped d (s.cable .b) } }

/-- What a domain is to the DCO. -/
def dcoOf : Dom → DcoSource
  | .a => .a
  | .b => .b

/-- Is the DCO's control word held (R46)? -/
def State.dcoHeld (s : State) : Bool := s.loopOpen && s.gState == gHoldover

/-- The DCO on a domain's reference, where that is present (R39). -/
def State.dcoTo (s : State) (d : Dom) : State :=
  if s.dcoHeld ∨ ¬ (s.dom d).clk then s else { s with gauge := { s.gauge with dco := dcoOf d } }

/-- SETTLE entered or restarted on domain `d`: acquisition gear, gear counter from zero, a phase step permitted. -/
def State.enterSettle (s : State) (d : Dom) : State :=
  let s := (s.wr GAUGE.STATUS.STATE gSettle).wr GAUGE.STATUS.ACTIVE d.num
  let s := (s.wr GAUGE.STATUS.GEAR 0).dcoTo d
  { s with gauge := { s.gauge with gearRun := 0, stepOk := true, switchTo := none, marked := false } }

/-- The sum of e cleared (R44, R46). -/
def State.clearSum (s : State) : State := { s with gauge := { s.gauge with errSum := 0 } }

/-- LOCKED entered, in the tracking gear. -/
def State.enterLocked (s : State) : State :=
  let s := (s.wr GAUGE.STATUS.STATE gLocked).wr GAUGE.STATUS.GEAR 1
  { s with gauge := { s.gauge with disRun := 0, disSeam := true, marked := false } }

/-- SEAM_HELD entered. -/
def State.enterSeamHeld (s : State) : State :=
  let s := s.wr GAUGE.STATUS.STATE gSeamHeld
  ({ s with gauge := { s.gauge with switchTo := none } }).raise GAUGE.EVENT.HOLDOVER

/-- HOLDOVER entered, its estimate growing from `est` ps; under LOOP_HOLD the DCO's control word is held too (R46, R60). -/
def State.enterHoldover (s : State) (marked : Bool) (est : Nat) : State :=
  let s := s.wr GAUGE.STATUS.STATE gHoldover
  let s := { s with gauge := { s.gauge with
    switchTo := none, marked := marked, holdEst := est, holdFrom := s.now, yNext := none
    dco := if s.loopOpen then .hold else s.gauge.dco } }
  s.raise GAUGE.EVENT.HOLDOVER

/-- The optical gate closed (R62). -/
def State.closeOpt (s : State) : State :=
  let s := { s with gauge := { s.gauge with optRun := 0 } }
  if s.on GAUGE.STATUS.OPT_OK then (s.wr GAUGE.STATUS.OPT_OK 0).raise GAUGE.EVENT.OPT_GATE else s

/-- The copper gate closed (R62). -/
def State.closeCu (s : State) : State :=
  ({ s with gauge := { s.gauge with cuRun := 0 } }).wr GAUGE.STATUS.CU_OK 0

/-- RESEAT entered: both gates closed, an ERROR event (R46, R62). Log entry 9: EST_ERR reads all ones at once.
Log: DEDUCED 9, 40. -/
def State.enterReseat (s : State) : State :=
  let s := s.wr GAUGE.STATUS.STATE gReseat
  let s := { s with gauge := { s.gauge with switchTo := none, marked := false, disRun := 0, yNext := none } }
  let s := (s.closeOpt.closeCu).wr GAUGE.EST_ERR.PS 0xFFFFFFFF
  s.raise GAUGE.EVENT.RESEAT sevError

/-- LOCKED entered on domain `d` with its error taken into C so that e_ref reads zero (R46). Log: DEDUCED 33. -/
def State.lockOnto (s : State) (d : Dom) : State :=
  let e := (s.domError d).getD 0
  let s := s.setCorr (s.rdI GAUGE.CORR.C - e)
  let moved := decide (s.active ≠ d)
  let s := ((s.wr GAUGE.STATUS.ACTIVE d.num).dcoTo d).enterLocked
  if moved then s.raise GAUGE.EVENT.SWITCH else s

/-- 2 ns, the limit of R46 and R47. -/
def twoNs : Int := 131072

/-- The rows of R46 that follow from the domains' validity, the seam links and LOOP_HOLD, in LOCKED, SEAM_HELD and
HOLDOVER. Log: DEDUCED 40. -/
def State.reassess (s : State) : State :=
  if s.gState = gLocked then
    if s.valid s.active then s
    else if s.valid s.active.other then
      { s with gauge := { s.gauge with switchTo := some (s.active.other == Dom.b) } }
    else if 2 ≤ s.gauge.linksOk then s.enterSeamHeld
    else s.enterHoldover false (s.rd GAUGE.EST_ERR.PS)
  else if s.gState = gSeamHeld then
    match s.validDom with
    | some d => s.lockOnto d
    | none => if s.gauge.linksOk < 2 then s.enterHoldover false (s.rd GAUGE.EST_ERR.PS) else s
  else if s.gState = gHoldover ∧ ¬ s.loopOpen then
    match s.validDom with
    | some d =>
      if s.gauge.marked then
        let ok := s.gauge.stepOk || decide (s.active ≠ d)
        let s := (s.enterSettle d).clearSum
        { s with gauge := { s.gauge with stepOk := ok } }
      else
        match s.domError d with
        | some e => if e.natAbs ≤ twoNs.natAbs then s.lockOnto d else s.enterReseat
        | none => s
    | none =>
      if s.gauge.marked then s
      else if 2 ≤ s.gauge.linksOk then s.enterSeamHeld
      else s
  else s

/-- A domain made invalid (R40, R41): its event, its pulse history restarted, and the rows of R46 that follow. -/
def State.disqualify (s : State) (d : Dom) : State :=
  let x := s.dom d
  let s := s.wrB (validField d) false
  let s := s.setDom d { x with gap := false, goodRun := 0, missRun := 0, verdict := .none, validRun := 0 }
  let s := s.raise (match d with | .a => GAUGE.EVENT.A_DISQ | .b => GAUGE.EVENT.B_DISQ)
  if s.gState = gSettle then
    if s.active ≠ d then s
    else if s.valid d.other then s.enterSettle d.other
    else s.enterHoldover false (s.rd GAUGE.EST_ERR.PS)
  else s.reassess

/-! ### The discipline (R38, R43-R47, R195) -/

/-- The frame whose pulse window of the active domain has closed, or whose boundary has passed where no pulse is
expected (R195). Log: DEDUCED 41. -/
def State.discFrame (s : State) : Option Nat :=
  if s.valid s.active then
    let x := (s.now : Int) - s.cable s.active - (if s.gState = gSettle then Config.frameTime / 2 else winHalf : Nat)
    if 0 ≤ x then some (x.toNat / Config.frameTime) else none
  else some (frameOf s.now)

/-- The discipline error of a frame with error `eRef` and consensus `th` (R43, R59). Log: DEDUCED 34. -/
def State.discError (s : State) (eRef : Option Int) (th : Option Rat) : Option Rat :=
  let beta : Rat := (s.rd GAUGE.SEAM_CFG.BLEND : Rat) / 256
  if s.gState = gSeamHeld then th.map (fun x => -x)
  else
    let seam := if s.gState = gSettle ∨ ¬ s.on GAUGE.CTRL.SEAM_EN ∨ beta = 0 then none else th
    match eRef, seam with
    | some e, some x => some ((1 - beta) * (e : Rat) - beta * x)
    | some e, none => some (e : Rat)
    | none, some x => some (-x)
    | none, none => none

/-- The clamp of y in units of 2^-40 (R38): 1 ppm in SETTLE, 0.02 ppm otherwise. -/
def State.yLimit (s : State) : Int := if s.gState = gSettle then 1099511 else 21990

/-- The rate steer of R44, rounded down (log entry 8). Log: DESIGN CHOICE 8. -/
def State.steer (s : State) (e sum : Rat) : Int :=
  let acq := s.rd GAUGE.STATUS.GEAR = 0
  let kp : Rat := (if acq then s.rd GAUGE.LOOP_ACQ.KP else s.rd GAUGE.LOOP_TRK.KP : Nat)
  let ki : Rat := (if acq then s.rd GAUGE.LOOP_ACQ.KI else s.rd GAUGE.LOOP_TRK.KI : Nat)
  (-(kp * e + ki * sum) / 256).floor

/-- The run of R47: frames in a row with e_ref beyond 2 ns, and whether the seams vouch for own time in all. -/
def State.disagree (s : State) (eRef : Option Int) : State :=
  let far := match eRef with | some e => decide (twoNs.natAbs < e.natAbs) | none => false
  let seamOk := match s.gauge.theta with
    | some x => decide (2 ≤ s.gauge.links) && decide (-65536 ≤ x) && decide (x ≤ 65536)
    | none => false
  { s with gauge := { s.gauge with
      disRun := if far then s.gauge.disRun + 1 else 0
      disSeam := if far then (s.gauge.disRun == 0 || s.gauge.disSeam) && seamOk else true } }

/-- The discipline of one frame (R43-R45, R195): the new y waits for the cycle boundary. -/
def State.disciplineFrame (s : State) (f : Nat) : State :=
  let eRef := if s.valid s.active ∨ s.gState = gSettle then
    (s.domResidual s.active f).map (· + s.rdI GAUGE.CORR.C) else none
  let s := { s with gauge := { s.gauge with doneFor := some f, eRef := eRef } }
  let s := if s.gState = gLocked then s.disagree eRef else s
  match s.discError eRef s.gauge.theta with
  | none => s.wr GAUGE.STATUS.CLAMPED 0
  | some e =>
    let sum := s.gauge.errSum + e
    let raw := s.steer e sum
    let y := clampInt (-s.yLimit) s.yLimit raw
    let s := { s with gauge := { s.gauge with
      errSum := sum, eHist := (e :: s.gauge.eHist).take 16, yNext := some y } }
    if raw = y then s.wr GAUGE.STATUS.CLAMPED 0
    else (s.wr GAUGE.STATUS.CLAMPED 1).raise GAUGE.EVENT.CLAMP

/-- The discipline as the Jig's first computation after a frame's pulse window runs it, once a frame (R195).
Log: DEDUCED 35. -/
def State.discipline (s : State) : State :=
  if s.gState = gSettle ∨ s.gState = gLocked ∨ s.gState = gSeamHeld then
    match s.discFrame with
    | some f => if s.gauge.doneFor = some f then s else s.disciplineFrame f
    | none => s
  else s

/-- The computed y taken over at a cycle boundary (R195). Log: DEDUCED 35. -/
def State.takeSteer (s : State) : State :=
  match s.gauge.yNext with
  | some y => ({ s with gauge := { s.gauge with yNext := none } }).wrI GAUGE.RATE.Y y
  | none => s

/-! ### The frame boundary (R46, R56, R60, R62) -/

/-- C slewed towards zero by at most 20 ps a ms: 1,374 units a frame (R56). -/
def slew (c : Int) : Int := if 1374 < c then c - 1374 else if c < -1374 then c + 1374 else 0

/-- A waiting domain switch takes effect, or C slews on (R56, R58). -/
def State.switchOrSlew (s : State) : State :=
  match s.gauge.switchTo with
  | some toB =>
    let off := s.rdI GAUGE.OFFS_BA.OFFS
    let c := s.rdI GAUGE.CORR.C + (if toB then off else -off)
    let s := ({ s with gauge := { s.gauge with switchTo := none } }).setCorr c
    ((s.wr GAUGE.STATUS.ACTIVE (bit toB)).dcoTo (if toB then .b else .a)).raise GAUGE.EVENT.SWITCH
  | none => if s.gState = gHoldover ∨ s.gState = gFree then s else s.setCorr (slew (s.rdI GAUGE.CORR.C))

/-- The B-against-A offset of a frame in which both pulses were in window, filtered over 16 frames (R56).
Log: DEDUCED 41. -/
def State.offsetBA (s : State) (f : Nat) : State :=
  match s.domResidual .a f, s.domResidual .b f with
  | some ra, some rb =>
    let h := ((ra - rb) :: s.gauge.offs).take 16
    ({ s with gauge := { s.gauge with offs := h } }).wrI GAUGE.OFFS_BA.OFFS (h.foldl (· + ·) 0 / (h.length : Int))
  | _, _ => s

/-- The frame of an edge as PTP places it: the boundary nearest own time less the port's last offset (R46). -/
def State.ptpFrame (s : State) (d : Dom) (edge : Nat) : Int :=
  let x : Int := (edge : Int) - ((s.port d).lastOff.getD 0) - s.cable d
  (x + Config.frameTime / 2) / Config.frameTime

/-- The step that ends RESEAT (R46). -/
def State.reseatStep (s : State) : State :=
  match s.validDom with
  | some d =>
    match (s.dom d).lastEdge with
    | some t => (s.stepTime (s.ptpFrame d t * Config.frameTime + s.cable d - t)).tpoStepped
    | none => s
  | none => s

/-- The frame boundary that ends RESEAT (R46). Log: DEDUCED 40. -/
def State.reseatExit (s : State) : State :=
  let d := (s.validDom).getD s.active
  let s := ((s.reseatStep).setCorr 0).enterSettle d
  if s.loopOpen then s.enterHoldover true 1000 else s.clearSum

/-- 3 rms in ps of a history in units of 2^-16 ns, rounded down (R60, log entry 8).
Log: DESIGN CHOICE 8; DEDUCED 41. -/
def threeRms (l : List Rat) : Nat :=
  if l.isEmpty then 0
  else
    let m := (l.foldl (fun a x => a + x * x) 0) / (l.length : Rat)
    sqrtFloor (9 * m * (1000 / 65536) * (1000 / 65536))

/-- A time of 2^-16 ns in ps, rounded down. Log: DESIGN CHOICE 8. -/
def toPs (n : Nat) : Nat := n * 1000 / 65536

/-- The LOCKED formula of R60. -/
def State.estLocked (s : State) : Nat :=
  s.rd GAUGE.EST_CFG.FLOOR + threeRms s.gauge.eHist + toPs (s.rdI GAUGE.CORR.C).natAbs

/-- GAUGE.EST_ERR recomputed (R60). Log: DESIGN CHOICE 8. -/
def State.estimate (s : State) : Nat :=
  if s.gState = gLocked then s.estLocked
  else if s.gState = gSeamHeld then s.rd GAUGE.EST_CFG.FLOOR + threeRms s.gauge.thHist + 20
  else if s.gState = gSettle then max 1000 s.estLocked
  else if s.gState = gHoldover then
    s.gauge.holdEst + s.rd GAUGE.EST_CFG.HOLD_RATE * (s.now - s.gauge.holdFrom) / (1000000000 * 65536)
  else 0xFFFFFFFF

/-- The gates fall, and their runs towards rising are counted (R62). -/
def State.gates (s : State) : State :=
  let e := s.rd GAUGE.EST_ERR.PS
  let s := if s.gState = gFree ∨ s.gState = gReseat then s.closeOpt.closeCu else s
  let s := if 200 < e then s.closeOpt else s
  let s := if 2000 < e then s.closeCu else s
  { s with gauge := { s.gauge with
      optRun := if e ≤ 150 then s.gauge.optRun + 1 else 0
      cuRun := if e ≤ 1500 then s.gauge.cuRun + 1 else 0 } }

/-- Frames each domain has been valid without a break (R57). -/
def State.countValid (s : State) : State :=
  let up (d : Dom) (x : Domain) : Domain := { x with validRun := if s.valid d then x.validRun + 1 else 0 }
  { s with gauge := { s.gauge with domA := up .a s.gauge.domA, domB := up .b s.gauge.domB } }

/-- The Gauge's part of a frame boundary (R60). -/
def State.gaugeFrame (s : State) (f : Nat) : State :=
  let s := if s.gState = gReseat then s.reseatExit else s.switchOrSlew
  let s := (s.seamFrameEnd f).offsetBA (f - 1)
  let s := s.countValid
  let s := if s.gState = gSettle then { s with gauge := { s.gauge with gearRun := s.gauge.gearRun + 1 } } else s
  let s := s.reassess
  let s := s.wrSat GAUGE.EST_ERR.PS s.estimate
  s.gates

/-! ### The commands of the Gauge -/

/-- SLOT_GATE_RISE (R62). -/
def execSlotGateRise (copper : Bool) (s : State) : Result :=
  if s.gState = gFree ∨ s.gState = gReseat then .next s
  else if copper then
    if 4 ≤ s.gauge.cuRun then .next (s.wr GAUGE.STATUS.CU_OK 1) else .next s
  else if 4 ≤ s.gauge.optRun then .next (s.wr GAUGE.STATUS.OPT_OK 1) else .next s

/-- Is an edge inside the capture window (R41)? In FREE and SETTLE the window is the whole frame.
Log: DEDUCED 10. -/
def State.inWindow (s : State) (d : Dom) (t : Nat) : Bool :=
  s.gState == gFree || s.gState == gSettle || decide ((edgeFrame t (s.cable d)).2.natAbs ≤ winHalf)

/-- The frame an edge is counted for: that of its window, else the one whose span holds it (R42). Log entry 10.
Log: DEDUCED 10. -/
def State.edgeOwner (s : State) (d : Dom) (t : Nat) : Nat :=
  if s.inWindow d t then (edgeFrame t (s.cable d)).1.toNat else frameOf t

/-- An edge of a domain's pulse captured and judged (R41, R42). -/
def State.captureEdge (s : State) (d : Dom) (t : Nat) : State :=
  let f := s.edgeOwner d t
  let win := s.inWindow d t
  let x := (s.dom d).roll f (s.cable d)
  let x := { x with edges := x.edges + 1, lastEdge := some t, inWin := if win then x.inWin ++ [t] else x.inWin }
  let s := s.setDom d x
  let s := if win then s.wr (capField d) (hallTime t) else s
  if 1 < x.edges then s.domMiss d
  else if win then s.setDom d { x with verdict := .good }
  else s

/-- The phase step that the first in-window pulse of the selected domain makes in SETTLE (R46). Log: DEDUCED 32. -/
def State.settleStep (s : State) (d : Dom) (t : Nat) : State :=
  let k := s.ptpFrame d t
  let target := (k * Config.frameTime + s.cable d).toNat
  let s := (s.stepTime ((target : Int) - t)).tpoStepped.clearSum
  let s := s.wr (capField d) (hallTime target)
  { s with gauge := { s.gauge with stepOk := false } }

/-- REFPLS_EDGE (R42). Log: DESIGN CHOICE 7. -/
def execRefplsEdge (d : Dom) (t : Nat) (s : State) : Result :=
  let s := (s.advance t).captureEdge d t
  .next (if s.gState = gSettle ∧ s.gauge.stepOk ∧ s.active = d then s.settleStep d t else s)

/-- PULSE_WINDOW_CLOSE (R41): the window of frame `frame` closes; with no edge in it the frame is a miss. In FREE
and SETTLE the window is the whole frame. -/
def execPulseWindowClose (d : Dom) (frame : Nat) (s : State) : Result :=
  let whole := s.gState = gFree ∨ s.gState = gSettle
  let t := frame * Config.frameTime + s.cable d + (if whole then Config.frameTime / 2 else winHalf)
  let s := s.advance t
  let s := s.setDom d ((s.dom d).roll frame (s.cable d))
  .next (if (s.dom d).inWin.isEmpty then s.domMiss d else s)

/-- DOMAIN_QUALIFY (R40): `ppm` is whether its REFCLK measures within 20 ppm. Log: DEDUCED 39. -/
def execDomainQualify (d : Dom) (ppm : Bool) (s : State) : Result :=
  let s := s.setDom d { s.dom d with ppmOk := ppm }
  if ¬ s.valid d ∧ s.domFit d ∧ s.rd GAUGE.QUAL.PLS_GOOD ≤ (s.dom d).goodNow then
    let s := (s.wrB (validField d) true).setDom d { s.dom d with gap := false, validRun := 0 }
    .next s.reassess
  else .next s

/-- DOMAIN_DISQUALIFY (R40, R41). -/
def execDomainDisqualify (d : Dom) (ppm : Bool) (s : State) : Result :=
  let s := s.setDom d { s.dom d with ppmOk := ppm }
  let lim := s.rd GAUGE.QUAL.PLS_MISS
  if s.valid d ∧ (¬ s.domFit d ∨ (s.dom d).gap ∨ (lim ≠ 0 ∧ lim ≤ (s.dom d).missNow)) then .next (s.disqualify d)
  else .next s

/-- GEAR_COMPLETE (R46): with FRAMES 0 the first in-window pulse completes it.
Log: DESIGN CHOICE 23; DEDUCED 40. -/
def execGearComplete (s : State) : Result :=
  let n := s.rd GAUGE.GEAR.FRAMES
  if s.gState = gSettle ∧ s.valid s.active ∧ n ≤ s.gauge.gearRun ∧ (n ≠ 0 ∨ ¬ s.gauge.stepOk) then
    .next s.enterLocked.clearSum
  else .next s

/-- DISAGREEMENT (R47). -/
def execDisagreement (s : State) : Result :=
  if s.gState = gLocked ∧ 8 ≤ s.gauge.disRun then
    if s.gauge.disSeam then
      .next (({ s with gauge := { s.gauge with disRun := 0 } }).disqualify s.active)
    else .next s.enterReseat
  else .next s

/-- REVERT (R57). Log entry 11. Log: DEDUCED 11. -/
def execRevert (s : State) : Result :=
  let p := s.pref
  if s.on GAUGE.CTRL.REVERT ∧ (s.gState = gLocked ∨ s.gState = gHoldover) ∧ s.active ≠ p ∧ s.valid p ∧
      s.rd GAUGE.REVERT.FRAMES ≤ (s.dom p).validRun then
    .next { s with gauge := { s.gauge with switchTo := some (p == Dom.b) } }
  else .next s

/-- REFCLK_GAP (R39, R40): a gap of 100 ns or more in a domain's reference. -/
def execRefclkGap (d : Dom) (t : Nat) (s : State) : Result :=
  let s := s.advance t
  let s := s.setDom d { s.dom d with clk := false, gap := true }
  if s.gauge.dco = dcoOf d then
    .next { s with gauge := { s.gauge with dco := if s.valid d.other then dcoOf d.other else .hold } }
  else .next s

/-- DCO_LOCK (R39): a domain's REFCLK has appeared and, where it is the active domain's (in FREE the preferred
one's), the DCO has completed its lock to it. -/
def execDcoLock (d : Dom) (t : Nat) (s : State) : Result :=
  let s := s.advance t
  let s := s.setDom d { s.dom d with clk := true }
  let own := if s.gState = gFree then s.pref else s.active
  .next (if d = own then s.dcoTo d else s)

/-- Does a domain meet the condition of R46 for leaving FREE? Log: DEDUCED 32. -/
def State.settleFit (s : State) (d : Dom) : Bool :=
  (s.dom d).clk && (s.port d).results.head? == some true && (s.port d).prov.isSome

/-- SETTLE_ENTRY (R46): SEC and NS are loaded from the port's provisional time (R83); FRAC runs on.
Log: DEDUCED 32, 41. -/
def execSettleEntry (t : Nat) (s : State) : Result :=
  let s := s.advance t
  let d := if s.settleFit s.pref then s.pref else s.pref.other
  if s.gState = gFree ∧ s.on GAUGE.CTRL.ENABLE ∧ s.settleFit d then
    match (s.port d).prov with
    | some (m, c) =>
      let v := m + (s.now - c)
      let s := ({ s with now := v / 65536 * 65536 + s.now % 65536 }).tpoStepped
      let s := (s.enterSettle d).clearSum
      let s := { s with gauge := { s.gauge with eHist := [], thHist := [] } }
      .next (if s.loopOpen then s.enterHoldover true (s.rd GAUGE.EST_ERR.PS) else s)
    | none => .next s
  else .next s

/-- A refused GAUGE.CMD write (R48). -/
def State.gaugeRefuse (s : State) : State := s.raise GAUGE.EVENT.CMD_REFUSED

/-- GAUGE.CMD.RESEAT (R48). -/
def State.cmdReseat (s : State) : State :=
  if (s.gState = gLocked ∨ s.gState = gSeamHeld ∨ s.gState = gHoldover) ∧ s.validDom.isSome then s.enterReseat
  else s.gaugeRefuse

/-- GAUGE.CMD.TO_A and TO_B (R46, R48, R57). -/
def State.cmdTo (s : State) (d : Dom) : State :=
  if ¬ s.valid d ∨ s.active = d ∨ s.gState = gFree ∨ s.gState = gSeamHeld ∨ s.gState = gReseat then s.gaugeRefuse
  else if s.gState = gSettle then s.enterSettle d
  else { s with gauge := { s.gauge with switchTo := some (d == Dom.b) } }

/-- RESEAT. -/
def execReseat (s : State) : Result := .next s.cmdReseat

/-- TO_A. -/
def execToA (s : State) : Result := .next (s.cmdTo .a)

/-- TO_B. -/
def execToB (s : State) : Result := .next (s.cmdTo .b)

/-- A write of GAUGE.CTRL.LOOP_HOLD (R46). -/
def State.writeLoopHold (s : State) (hold : Bool) : State :=
  let s := s.wrB GAUGE.CTRL.LOOP_HOLD hold
  if hold then
    if s.gState = gSettle then s.enterHoldover true (s.rd GAUGE.EST_ERR.PS)
    else if s.gState = gLocked ∨ s.gState = gSeamHeld then s.enterHoldover false (s.rd GAUGE.EST_ERR.PS)
    else s
  else (s.dcoTo s.active).reassess

/-- A software write of GAUGE.LOOP_ACQ or LOOP_TRK (R45). -/
def State.writeGaugeCoef (s : State) (trk : Bool) (v : Nat) : State :=
  if s.on GAUGE.CTRL.LOOP_HOLD ∨ s.gState = gFree then
    if trk then (s.wr GAUGE.LOOP_TRK.KP (v / 65536)).wr GAUGE.LOOP_TRK.KI (v % 65536)
    else (s.wr GAUGE.LOOP_ACQ.KP (v / 65536)).wr GAUGE.LOOP_ACQ.KI (v % 65536)
  else (s.bump GAUGE.COUNTS.COEF_REFUSED).raise GAUGE.EVENT.COEF_REFUSED

end Sys2Proof.Machine
end

