-- ==== Sys2Proof/Machine/Jig.lean ====
section
/-! DEFINITION. The Jig: its sample cycle, the lock-in, the ring loop law, the laser track, the common mode, the
crosstalk matrix, the sweep, its commands and coefficients (R168-R193, R195). -/
namespace Sys2Proof.Machine
open Sys2Proof

/-- The JIG block is in its safe state, or the edge die of a loop is: the loop holds its demand (R480).
Log: DEDUCED 70. -/
def State.loopFrozen (s : State) (l : Nat) : Bool := s.unsafeBlock 8 || s.unsafeBlock (21 + l / 88)

/-! ### Conversions (R80, R171, R172, R174) -/

/-- Conversions in a cycle. -/
def State.nsub (s : State) : Nat := 2 ^ s.rd JIG.CTRL.NSUB

/-- CONVERSION_START: conversion `j` of cycle `c`, counted from 1, at T_c + j × 10 us ÷ N. -/
def execConversionStart (c j : Nat) (s : State) : Result :=
  let n := s.nsub
  if ¬ s.fabUp ∨ j = 0 ∨ n < j then .next s
  else
    let s := s.advance (c * Config.cycleTime + j * Config.cycleTime / n)
    .next (s.setJig { s.fab.jig with started := (c, j) })

/-- A monitor channel's result shown (CH_READ), and a saturated one counted. -/
def State.monitorResult (s : State) (d : Nat) (r : ChannelResult) : State :=
  let n := 52 * (r.channel / 128 % 2) + r.channel % 64
  let s := (s.wr (ED.CH_READ.VALUE d r.channel) r.value.toNat).count (ctrEdge d) 0x201 n
  if r.full then ((s.bump (ED.COUNTS.SAT d)).count (ctrEdge d) 0x202 n).raise (ED.EVENT.SAT d) else s

/-- CONVERSION_RESULT: the results of the conversion last started arrive at the Jig, at most 1 us later (R174).
Log: DESIGN CHOICE 7. -/
def execConversionResult (die : Fin 2) (rs : List ChannelResult) (s : State) : Result :=
  let j := s.fab.jig
  if ¬ s.fabUp then .next s
  else
    let s := rs.foldl (fun s r => if 256 ≤ r.channel ∧ r.channel < 512 then s.monitorResult die r else s) s
    .next (s.setJig { s.fab.jig with arrived := j.started })

/-! ### The laser track (R182) -/

/-- The track's input in units of 2^-10 MHz: 0.900 V + 1.000 mV per MHz, in 0.05 mV (R181). -/
def trackIn (volt : Nat) : Int := ((volt : Int) - 18000) * mhz / 20

/-- One step of a source's filter. A source whose LOST flip waits for its restart is held (R226). -/
def State.trackFilter (s : State) (src : Nat) (volt : Nat) : State :=
  let s := s.wr (ED.TRK_RAW.VOLT src) volt
  if volt < 2000 ∨ 34000 < volt then s.raise JIG.EVENT.TRK_RANGE
  else if (Tbl.lookD s.fab.lasers {} src).restart.isSome then s
  else
    let j := s.fab.jig
    let f := if src = 0 then j.fA else j.fB
    let tau := if src = 0 then s.rd JIG.TRK_CFG.TAU_A else s.rd JIG.TRK_CFG.TAU_B
    let f := f + (trackIn volt - f) / (tau : Int)
    let s := s.setJig (if src = 0 then { j with fA := f } else { j with fB := f })
    s.showInt (if src = 0 then JIG.TRK.F_A else JIG.TRK.F_B) (f / mhz)

/-! ### The common mode (R180) -/

/-- A list of integers in rising order. -/
def insertInt (x : Int) : List Int → List Int
  | [] => [x]
  | y :: l => if x ≤ y then x :: y :: l else y :: insertInt x l

/-- The median; of an even number of terms, the mean of the middle two. Log: DEDUCED 68. -/
def median (l : List Int) : Int :=
  let l := l.foldr insertInt []
  let n := l.length
  if n % 2 = 1 then l.getD (n / 2) 0 else (l.getD (n / 2 - 1) 0 + l.getD (n / 2) 0) / 2

/-- The loops of an engine. -/
def engineLoops (e : Nat) : List Nat := (List.range 44).map (44 * e + ·)

/-- The transfer of the median integrator into CM_e. Log: DEDUCED 68. -/
def State.commonMode (s : State) (e : Nat) : State :=
  let used := (engineLoops e).filter fun l => s.ringSt l == rgLocked && s.on (JIG.L_STAT.VERIFIED l)
  let m := if used.length < 3 then 0 else median (used.map fun l => (s.loop l).integ)
  let s := (engineLoops e).foldl (fun s l =>
    if s.ringSt l = rgCapture ∨ s.ringSt l = rgLocked then
      let x := s.loop l
      s.setLoop l { x with integ := x.integ - m }
    else s) s
  let v := s.cm e + m
  let j := s.fab.jig
  let s := s.setJig { j with cm := Tbl.put j.cm 0 e v }
  (s.wr (JIG.CM.N_USED e) used.length).showInt (JIG.CM.CM e) (v / uW)

/-! ### The lock-in (R177, R178) -/

/-- The window in cycles (R177). Log: DEDUCED 68. -/
def Loop.window (x : Loop) (locked : Bool) : Nat := if locked then min 100 (10 + x.cyc) else 10

/-- One bin's error in units of 2^-10 MHz: (X ÷ Q - s*) × K. Log: DEDUCED 68. -/
def binError (x : Int) (q : Nat) (slope gain : Int) : Int := (x * 1024 - slope * q) * gain / (1024 * (q : Int))

/-- The ring error of a window of `n` cycles. A bin with less than 1 % of the window is left out; with no bin left, or a
bin without charge, the error is not stated: a free value. -/
def State.ringError (s : State) (l n : Nat) : Int × State :=
  let x := s.loop l
  let w := x.hist.take n
  let tOn := (w.map (·.tOn)).sum
  let tOff := (w.map (·.tOff)).sum
  let qOn := (w.map (·.qOn)).sum
  let qOff := (w.map (·.qOff)).sum
  let on := decide (n * 10000 ≤ 100 * tOn)
  let off := decide (n * 10000 ≤ 100 * tOff)
  if (!on && !off) || (on && qOn == 0) || (off && qOff == 0) then
    let d := s.draw (JIG.L_STAT.ERR l).key
    (anyInt d.1, d.2)
  else
    let eOn := if on then binError (w.map (·.xOn)).sum qOn 0 x.cal.gOn else 0
    let eOff := if off then binError (w.map (·.xOff)).sum qOff x.cal.slope x.cal.gOff else 0
    let a : Int := if on then tOn else 0
    let b : Int := if off then tOff else 0
    ((a * eOn + b * eOff) / (a + b), s)

/-- The error of the last window kept and shown. ERR saturates. -/
def State.setError (s : State) (l : Nat) (e : Int) : State :=
  (s.setLoop l { s.loop l with err := e }).wrI (JIG.L_STAT.ERR l) (max (-32768) (min 32767 (e / mhz)))

/-! ### The ring loop (R179, R187-R189) -/

/-- The window test (R189). -/
def State.winOk (s : State) (l k : Nat) : Bool :=
  match Tbl.look (s.loop l).cal.pcal k with
  | none => true
  | some p =>
    let h := max (p * s.rd JIG.WIN_CFG.WIN_PCT / 100) (s.rd JIG.WIN_CFG.WIN_MIN * uW)
    decide (((s.loop l).d - s.ff l k).natAbs ≤ h)

/-- CAPTURE and LOCKED: I advances unless the output is clamped (R170), then d = FF + KP × e + I.
Log: DEDUCED 68. -/
def State.loopLaw (s : State) (l k : Nat) : State :=
  let x := s.loop l
  let ki : Int := s.rd (JIG.L_GAIN.KI l)
  let kp : Int := s.rd (JIG.L_GAIN.KP l)
  let i := if s.on (JIG.L_STAT.CLAMPED l) then x.integ else x.integ + ki * x.err / mhz
  (s.setLoop l { x with integ := i }).setDemand l (s.ff l k + kp * x.err / mhz + i)

/-- A window of the lock tests, in units of 2^-10 MHz: the fields count 10 MHz. -/
def lockWin (v : Nat) : Nat := v * 10 * mhz

/-- The decision of a loop in CAPTURE. -/
def State.judgeCapture (s : State) (l : Nat) : State :=
  let x := s.loop l
  let run := if x.err.natAbs ≤ lockWin (s.rd JIG.LOCK_CFG.LOCK_WIN) then x.lockRun + 1 else 0
  let cyc := x.cyc + 1
  let due : Option Due :=
    if s.rd JIG.LOCK_CFG.LOCK_CNT ≤ run then some .lock
    else if s.rd JIG.TIME_CFG.CAP_LIM ≤ cyc then some .capLimit
    else none
  s.setLoop l { x with lockRun := run, cyc := cyc, due := due }

/-- The decision of a loop in LOCKED. -/
def State.judgeLocked (s : State) (l : Nat) : State :=
  let x := s.loop l
  let out := if lockWin (s.rd JIG.LOCK_CFG.UNLOCK_WIN) < x.err.natAbs then x.outRun + 1 else 0
  let bad := if s.on (JIG.L_STAT.WIN_OK l) then 0 else x.winRun + 1
  let n := s.rd JIG.LOCK_CFG.UNLOCK_CNT
  let m := s.rd JIG.WIN_CFG.WIN_CNT
  let due : Option Due :=
    if n ≠ 0 ∧ n ≤ out then some .unlock
    else if m ≠ 0 ∧ m ≤ bad then some .winFail
    else none
  s.setLoop l { x with outRun := out, winRun := bad, cyc := x.cyc + 1, due := due }

/-- SWEEP (R188): the drop peaks counted, d kept at the target's peak, or raised. Log: DEDUCED 68. -/
def State.sweepStep (s : State) (l k charge : Nat) : State :=
  let x := s.loop l
  let passed := x.rising && decide (charge < x.charge) && decide (x.cal.peak < 2 * x.charge)
  let peaks := x.peaks + bit passed
  let cyc := x.cyc + 1
  let y := { x with peaks := peaks, charge := charge, cyc := cyc,
                    rising := decide (x.charge < charge) || (x.rising && charge == x.charge) }
  if passed ∧ peaks = 32 - k then
    (s.setLoop l { y with due := some .sweepPeak }).setDemand l (x.past.getD 2 x.d)
  else
    let d := if s.rd JIG.TIME_CFG.PARK_CYC < cyc then x.d + (s.rd JIG.SWEEP_CFG.RATE * uW : Nat) else x.d
    let full := decide (((s.rd JIG.SWEEP_CFG.PMAX * uW : Nat) : Int) ≤ d)
    (s.setLoop l { y with due := if full then some .sweepMax else none }).setDemand l d

/-- One loop's part of a computation. -/
def State.loopStep (s : State) (ms : List LoopMeas) (l : Nat) : State :=
  if s.loopFrozen l then s
  else
    let st := s.ringSt l
    let m := (ms.find? fun m => m.loop == l).getD ⟨l, 0, 0, 0, 0, 0, 0⟩
    let x := s.loop l
    let s := s.setLoop l { x with hist := (m :: x.hist).take 100 }
    let s := if st = rgParked ∨ st = rgFault then s else
      let r := s.ringError l (x.window (st == rgLocked))
      r.2.setError l r.1
    let s :=
      match s.ringTarget l with
      | none => s
      | some k =>
        if st = rgJump then
          let y := s.loop l
          let due : Option Due := if s.rd JIG.TIME_CFG.JUMP_CYC ≤ y.cyc + 1 then some .jumpDone else none
          (s.setLoop l { y with cyc := y.cyc + 1, due := due }).setDemand l (s.ff l k)
        else if st = rgSweep then s.sweepStep l k m.qOff
        else if st = rgCapture then
          let s := s.loopLaw l k
          (s.wrB (JIG.L_STAT.WIN_OK l) (s.winOk l k)).judgeCapture l
        else if st = rgLocked then
          let s := s.loopLaw l k
          (s.wrB (JIG.L_STAT.WIN_OK l) (s.winOk l k)).judgeLocked l
        else if st = rgMislock then s.setLoop l { s.loop l with due := some .mislockNext }
        else s
    s.setLoop l { s.loop l with past := ((s.loop l).d :: x.past).take 3 }

/-! ### The crosstalk matrix and the clamp (R170, R183, R184) -/

/-- JIG.CMAT_DATA's instance of an element. -/
def cmatIdx (e row col : Nat) : Nat := 4096 * e + 64 * row + col

/-- The listed elements of an engine's active bank: row, column, value in Q1.15. -/
def State.activeCells (s : State) (e : Nat) : List (Nat × Nat × Int) :=
  s.regs.filterMap fun r =>
    let i := r.1 / 128 / 2 ^ 26
    if r.1 = (JIG.CMAT_DATA.ACTIVE i).key ∧ i / 4096 = e then some (i / 64 % 64, i % 64, signedOf 16 r.2) else none

/-- The instances of an engine that either bank lists. -/
def State.cmatListed (s : State) (e : Nat) : List Nat :=
  s.regs.filterMap fun r =>
    let i := r.1 / 128 / 2 ^ 26
    if (r.1 = (JIG.CMAT_DATA.ACTIVE i).key ∨ r.1 = (JIG.CMAT_DATA.SHADOW i).key) ∧ i / 4096 = e then some i else none

/-- The shadow bank becomes active. -/
def State.cmatCommit (s : State) (e : Nat) : State :=
  (s.cmatListed e).foldl (fun s i => s.wr (JIG.CMAT_DATA.ACTIVE i) (s.rd (JIG.CMAT_DATA.SHADOW i))) s

/-- The active bank copied into the shadow. -/
def State.cmatCopy (s : State) (e : Nat) : State :=
  (s.cmatListed e).foldl (fun s i => s.wr (JIG.CMAT_DATA.SHADOW i) (s.rd (JIG.CMAT_DATA.ACTIVE i))) s

/-- The commits that wait take effect with the computation that begins (R184). -/
def State.takeCommits (s : State) : State :=
  let m := s.fab.jig.cmat
  if m = 0 then s
  else
    let s := s.setJig { s.fab.jig with cmat := 0 }
    let s := (List.range 4).foldl (fun s e => if bitOf m e then s.cmatCommit e else s) s
    s.raise JIG.EVENT.CMAT_DONE

/-- R_h of a loop's channel in 0.01 Ohm. -/
def State.rh (s : State) (l : Nat) : Nat := s.rd (ED.DAC_RH.RH (l / 88) (128 * (l / 44 % 2) + l % 44))

/-- The greatest output of a loop: the lesser of PMAX and (12 mA)^2 × R_h. -/
def State.maxOut (s : State) (l : Nat) : Nat := min (s.rd JIG.SWEEP_CFG.PMAX * uW) (s.rh l * 144 * uW / 100)

/-- A loop's output: the demand with the matrix's terms, clamped. -/
def State.output (s : State) (cells : List (Nat × Nat × Int)) (l : Nat) : State :=
  if s.loopFrozen l then s
  else
    let e := l / 44
    let mix := (cells.filter fun c => c.1 == l % 44).map fun c => c.2.2 * (s.loop (44 * e + c.2.1)).d
    let p := (s.loop l).d + mix.sum / 32768
    let out := min p.toNat (s.maxOut l)
    let clamped := decide ((out : Int) ≠ p)
    let x := s.loop l
    let closed := s.ringSt l = rgCapture ∨ s.ringSt l = rgLocked
    let run := if clamped && decide closed then x.clampRun + 1 else 0
    let due := if x.due.isNone && decide (100 ≤ run) then some .clampFault else x.due
    let s := s.setLoop l { x with out := out, clampRun := run, due := due }
    let s := (s.wrB (JIG.L_STAT.CLAMPED l) clamped).wr (JIG.L_HEAT.OUT l) (out / uW)
    if clamped then (s.bump JIG.COUNTS.HTR_CLAMP).count (ctrEdge (l / 88)) 0x203 (l % 88) else s

/-- JIG_COMPUTE for cycle `c` (R174): after the conversion at T_c+1 has arrived, in R174's order. One that comes after
its boundary changes nothing but the Gauge's rate steer (R175). Log: DESIGN CHOICE 7. -/
def execJigCompute (c : Nat) (ms : List LoopMeas) (voltA voltB : BitVec 16) (s : State) : Result :=
  let j := s.fab.jig
  if ¬ s.fabUp ∨ j.arrived ≠ (c, s.nsub) ∨ j.done = some (c + 2) then .next s
  else
    let s := (s.advance ((c + 1) * Config.cycleTime)).discipline
    if (c + 2) * Config.cycleTime < s.now then .next s
    else
      let s := s.takeCommits
      let s := (s.trackFilter 0 voltA.toNat).trackFilter 1 voltB.toNat
      let s := (List.range 4).foldl (fun s e => s.commonMode e) s
      let s := (List.range 176).foldl (fun s l => s.loopStep ms l) s
      let s := (List.range 4).foldl (fun s e =>
        let cells := s.activeCells e
        (engineLoops e).foldl (fun s l => s.output cells l) s) s
      .next (s.setJig { s.fab.jig with done := some (c + 2) })

/-! ### The cycle boundary (R174, R175) -/

/-- round(65,535 × √(P ÷ R_h) ÷ 12 mA), of an output in units of 2^-20 uW and R_h in 0.01 Ohm (R170). -/
def dacCode (p rh : Nat) : Nat := (isqrt (4 * p * 65535 * 65535 * 100 / (uW * rh * 144)) + 1) / 2

/-- A heater's code applied. -/
def State.applyCode (s : State) (l : Nat) : State :=
  if s.unsafeBlock (21 + l / 88) then s
  else
    let x := s.loop l
    let code := dacCode x.out (s.rh l)
    (s.setLoop l { x with code := code }).wr (ED.CH_READ.VALUE (l / 88) (128 * (l / 44 % 2) + l % 44)) code

/-- A PARKED ring that has a target is relocked (R187): one that RESET has brought out of FAULT.
Log: DEDUCED 69. -/
def State.unpark (s : State) (l : Nat) : State :=
  match s.ringTarget l with
  | some k => if s.ringSt l = rgParked ∧ (s.loop l).due.isNone then s.relock l k else s
  | none => s

/-- A decision or a waiting command of a loop takes effect. Log: DEDUCED 69. -/
def State.fireLoop (s : State) (l : Nat) : State :=
  if s.loopFrozen l then s
  else
    let s := match (s.loop l).due with | some d => s.fireDue l d | none => s.unpark l
    match (s.loop l).cmd with | some c => s.fireCmd l c | none => s

/-- The calibrated ring put into HOLD at the second boundary after B is LOCKED (R244). -/
def State.calHold (s : State) (k : Nat) : State :=
  match s.fab.cal.opt with
  | none => s
  | some x =>
    match x.loop with
    | none => s
    | some l =>
      match ringOf l with
      | none => s
      | some (p, r) =>
        let b := loopOf p 8
        let n := s.indexOf p r
        if ¬ x.held ∧ n = some (s.bFor p) ∧ s.ringSt b = rgLocked ∧ (s.loop b).lockedAt / Config.cycleTime + 2 ≤ k then
          let s := { s with fab := { s.fab with cal := { s.fab.cal with opt := some { x with held := true } } } }
          if s.ringSt l = rgFault ∨ s.ringSt l = rgHold then s else s.ringTo l rgHold
        else s

/-- JIG_CYCLE_BOUNDARY at T_k. -/
def execJigCycleBoundary (k : Nat) (s : State) : Result :=
  let j := s.fab.jig
  let seen := match j.edge with | some m => decide (k ≤ m) | none => false
  if !s.fabUp || seen then .next s
  else
    let s := (s.advance (k * Config.cycleTime)).bump TIO.PTRIG_STAT.JIG_CYCLES
    let first := j.since.getD k
    let s := (s.setJig { j with since := some first, edge := some k }).takeSteer
    let s :=
      if j.done = some k then
        let s := (List.range 176).foldl (fun s l => s.applyCode l) s
        (List.range 176).foldl (fun s l => s.fireLoop l) s
      else if first + 2 ≤ k then
        ((s.bump JIG.COUNTS.OVERRUN).count ctrFtd 0x042 0).raise JIG.EVENT.OVERRUN
      else s
    .next (s.calHold k)

/-! ### The ring table's rows (R187) -/

/-- One decision that the last computation made takes effect at its boundary. -/
def State.ringEvent (s : State) (l : Nat) (d : Due) : State :=
  match s.fab.jig.done with
  | none => s
  | some k =>
    if ¬ s.fabUp ∨ s.loopFrozen l ∨ (s.loop l).due ≠ some d ∨ k * Config.cycleTime < s.now then s
    else (s.advance (k * Config.cycleTime)).fireDue l d

/-- RING_JUMP_DONE. -/
def execRingJumpDone (l : Fin 176) (s : State) : Result := .next (s.ringEvent l .jumpDone)

/-- RING_LOCK. -/
def execRingLock (l : Fin 176) (s : State) : Result := .next (s.ringEvent l .lock)

/-- RING_CAPTURE_LIMIT. -/
def execRingCaptureLimit (l : Fin 176) (s : State) : Result := .next (s.ringEvent l .capLimit)

/-- RING_UNLOCK. -/
def execRingUnlock (l : Fin 176) (s : State) : Result := .next (s.ringEvent l .unlock)

/-- RING_WINDOW_FAIL. -/
def execRingWindowFail (l : Fin 176) (s : State) : Result := .next (s.ringEvent l .winFail)

/-- RING_CLAMP_FAULT. -/
def execRingClampFault (l : Fin 176) (s : State) : Result := .next (s.ringEvent l .clampFault)

/-! ### Channel faults (R168, R187, R257) -/

/-- A channel of a loop has failed: the ring goes to FAULT, and a run that calibrates it is ABORTED.
Log: DEDUCED 76. -/
def State.channelFault (s : State) (monitor : Bool) (l : Nat) : State :=
  let j := s.fab.jig
  let s := if j.faulty.contains (monitor, l) then s else s.setJig { j with faulty := j.faulty ++ [(monitor, l)] }
  let s := match s.fab.cal.opt with
    | some x => if x.loop = some l then s.calAbortOpt 0 else s
    | none => s
  if s.ringSt l = rgFault then s else s.enterFault l

/-- HEATER_COMPLIANCE: a heater channel at compliance for three cycles in a row. -/
def execHeaterCompliance (l : Fin 176) (s : State) : Result :=
  if ¬ s.fabUp then .next s
  else
    let d := l.val / 88
    let s := ((s.wr (ED.STATUS.DAC_FAULT d) 1).bump (ED.COUNTS.COMPLIANCE d)).raise (ED.EVENT.DAC_FAULT d)
    .next (s.channelFault false l)

/-- MONITOR_CHANNEL_FAULT: the monitor of a loop fails its self-test. -/
def execMonitorChannelFault (l : Fin 176) (s : State) : Result :=
  if ¬ s.fabUp then .next s
  else
    let d := l.val / 88
    let s := (s.wr (ED.STATUS.AMP_FAULT d) 1).raise (ED.EVENT.AMP_FAULT d)
    .next (s.channelFault true l)

/-! ### Takeovers and mislock counts (R192, R193) -/

/-- TAKEOVER_RELEASE: the second cycle boundary after the covered ring locked. Log: DESIGN CHOICE 23. -/
def execTakeoverRelease (p : Fin 16) (s : State) : Result :=
  let j := s.fab.jig
  match Tbl.look j.release p with
  | none => .next s
  | some k =>
    if ¬ s.fabUp ∨ ¬ j.takeovers.contains p.val then .next s
    else
      let s := s.advance ((k + 2) * Config.cycleTime)
      let s := s.setJig { s.fab.jig with takeovers := s.fab.jig.takeovers.filter (· != p.val), release := Tbl.del s.fab.jig.release p }
      let s := { s with fab := { s.fab with recable := { s.fab.recable with repl := Tbl.del s.fab.recable.repl p } } }
      .next (s.setBFor p 15)

/-- Ten seconds. -/
def tenSeconds : Nat := Config.ns 10000000000

/-- MISLOCK_COUNT_RESET at instant `t`, after 10 s spent in LOCKED. -/
def execMislockCountReset (l : Fin 176) (t : Nat) (s : State) : Result :=
  let x := s.loop l
  if ¬ s.fabUp ∨ s.ringSt l ≠ rgLocked ∨ max s.now t < x.lockedAt + tenSeconds then .next s
  else .next (((s.advance t).setLoop l { x with mis := 0 }).wr (JIG.L_STAT.MISLOCKS l) 0)

/-! ### JIG.L_CMD (R187) -/

/-- A command to the loop that the requester's L_SEL names: it takes effect at the next cycle boundary; one that the
present state does not allow is refused. Log: DEDUCED 69. -/
def State.ringCommand (s : State) (b : Bank) (c : RingCmd) : State :=
  let l := s.rd (JIG.L_SEL.LOOP b.num)
  if 176 ≤ l then s
  else if s.cmdAllowed l c then s.setLoop l { s.loop l with cmd := some c }
  else s.raise JIG.EVENT.CFG_ERR

/-- L_CMD_HOLD. -/
def execLCmdHold (b : Bank) (s : State) : Result := .next (s.ringCommand b .hold)

/-- L_CMD_RELEASE. -/
def execLCmdRelease (b : Bank) (s : State) : Result := .next (s.ringCommand b .release)

/-- L_CMD_JUMP. -/
def execLCmdJump (b : Bank) (s : State) : Result := .next (s.ringCommand b .jump)

/-- L_CMD_SWEEP. -/
def execLCmdSweep (b : Bank) (s : State) : Result := .next (s.ringCommand b .sweep)

/-- L_CMD_RESET. -/
def execLCmdReset (b : Bank) (s : State) : Result := .next (s.ringCommand b .reset)

/-! ### Coefficients (R184, R185) -/

/-- A software write of L_GAIN or L_DITH. -/
def State.writeCoef (s : State) (l : Nat) (dith : Bool) (v : Nat) : State :=
  let st := s.ringSt l
  if 176 ≤ l then s
  else if st ≠ rgParked ∧ st ≠ rgHold ∧ st ≠ rgFault then
    (s.bump JIG.COUNTS.COEF_REFUSED).raise JIG.EVENT.COEF_REFUSED
  else if dith then
    if v % 65536 = 0 then s.raise JIG.EVENT.CFG_ERR
    else (s.wr (JIG.L_DITH.AMP l) v).wr (JIG.L_DITH.PHI l) (v / 65536)
  else (s.wr (JIG.L_GAIN.KI l) v).wr (JIG.L_GAIN.KP l) (v / 65536)

/-- Bit e of a mask commits engine e's shadow bank, from the next computation on. -/
def State.cmatCommitCmd (s : State) (m : Nat) : State := s.setJig { s.fab.jig with cmat := s.fab.jig.cmat ||| m }

/-- CMAT_COMMIT. -/
def execCmatCommit (engines : BitVec 4) (s : State) : Result := .next (s.cmatCommitCmd engines.toNat)

/-- Bit e of a mask copies engine e's active bank into its shadow. -/
def State.cmatCopyCmd (s : State) (m : Nat) : State :=
  (List.range 4).foldl (fun s e => if bitOf m e then s.cmatCopy e else s) s

/-- CMAT_COPY. -/
def execCmatCopy (engines : BitVec 4) (s : State) : Result := .next (s.cmatCopyCmd engines.toNat)

end Sys2Proof.Machine
end

