-- ==== Sys2Proof/Machine/Ports.lean ====
section
/-! DEFINITION. The port engines' own commands: wardrobes, spare rings, colour probes and the verification of a lock
(R138, R139, R160-R163, R190, R207). -/
namespace Sys2Proof.Machine
open Sys2Proof

/-! ### Wardrobes and spares (R138, R139) -/

/-- The colour that a WARD0 or WARD1 value gives the ring in its byte `i`. -/
def wardOf (v i : Nat) : Option Nat := if bitOf v (8 * i + 7) then some (bitsOf v (8 * i) 5) else none

/-- Do two rings in service hold one colour? -/
def wardClash : List (Option Nat) → Bool
  | [] => false
  | none :: r => wardClash r
  | some k :: r => r.contains (some k) || wardClash r

/-- The colours of a port's W rings. -/
def State.wardrobe (s : State) (p : Nat) : List (Option Nat) := (List.range 8).map (s.wardColour p)

/-- Four of a port's wardrobe fields stored, from W0 or from W4. -/
def State.storeWard (s : State) (p : Nat) (hi : Bool) (v : Nat) : State :=
  (List.range 4).foldl (fun s i =>
    let f := wardField p (4 * bit hi + i)
    (s.wr f.1 (bitsOf v (8 * i + 7) 1)).wr f.2 (bitsOf v (8 * i) 5)) s

/-- A write of P<q>_WARD0, or of P<q>_WARD1 (`hi`). -/
def State.writeWard (s : State) (p : Nat) (hi : Bool) (v : Nat) : State :=
  let new := (List.range 4).map (wardOf v)
  let old := s.wardrobe p
  if wardClash (if hi then old.take 4 ++ new else new ++ old.drop 4) then s.raise (OPE.EVENT.CFG_ERR (p / 4))
  else (s.storeWard p hi v).retargetPort p

/-- A write of P<q>_SPARE. A takeover of the Jig's ends as its own where software gives B_FOR another value (R192). -/
def State.writeSpare (s : State) (p v : Nat) : State :=
  let b := bitsOf v 0 4
  let w := bitsOf v 8 4
  if (8 ≤ b ∧ b ≠ 15) ∨ (8 ≤ w ∧ w ≠ 15) then s.raise (OPE.EVENT.CFG_ERR (p / 4))
  else
    let j := s.fab.jig
    let s := if b = s.bFor p then s else
      s.setJig { j with takeovers := j.takeovers.filter (· != p), release := Tbl.del j.release p }
    ((s.wr (OPE.P_SPARE.B_FOR p) b).wr (OPE.P_SPARE.S_FOR p) w).retargetPort p

/-! ### Sending a probe (R160, R161, R207) -/

/-- RESULT's codes (R163). -/
def prPending : Nat := 1
def prMatch : Nat := 2
def prMismatch : Nat := 3
def prNoReply : Nat := 4
def prLoop : Nat := 5
def prNotSent : Nat := 6

/-- A write of OPE<e>.PROBE_CMD: refused for a ring 10-15, and with GO while a probe is pending. -/
def State.writeProbe (s : State) (e v : Nat) : State :=
  let go := bitOf v 0
  let ring := bitsOf v 8 4
  if 10 ≤ ring ∨ (go ∧ s.rd (OPE.PROBE_RES.RESULT e) = prPending) then s.raise (OPE.EVENT.CFG_ERR e)
  else
    let q := bitsOf v 4 2
    let nonce := bitsOf v 16 16
    let s := ((s.wr (OPE.PROBE_CMD.NONCE e) nonce).wr (OPE.PROBE_CMD.RING e) ring).wr (OPE.PROBE_CMD.PORT e) q
    if go then
      let x : Probe := { port := 4 * e + q, ring := ring, nonce := nonce, since := slotOf s.now }
      ({ s with fab := { s.fab with probes := Tbl.set s.fab.probes e x } }).wr (OPE.PROBE_RES.RESULT e) prPending
    else s

/-- R160's conditions for a probe on a ring in slot `n`, and R207's. -/
def State.probeOk (s : State) (p r n : Nat) : Bool :=
  let verify := decide (s.rcSlot + 2176 ≤ n) && decide (n < s.rcSlot + 3712)
  n % 64 == 2 * s.portIndex p && decide (s.now < slotStart (n + 1)) && !s.portOff p &&
    s.ringSt (loopOf p r) == rgLocked && s.on GAUGE.STATUS.OPT_OK && s.portQuiet p n && s.portQuiet p (n + 1) &&
    (!s.rcCovers n || verify)

/-- A header's queue where no rule names one: a free value. -/
def State.anyQueue (s : State) : Nat × State :=
  let d := s.draw (OPE.PROBE_CMD.NONCE 0).key
  (d.1 % 64, d.2)

/-- A probe sent on a ring that holds a colour. -/
def State.sendProbe (s : State) (n : Nat) (x : Probe) : Probe × State :=
  let s := s.advance (slotStart n)
  let p := x.port
  let k := (s.ringTarget (loopOf p x.ring)).getD 0
  let d := s.dest p k
  let node := match s.site p d with | some y => y.node | none => 0
  let q := s.anyQueue
  let h := { s.opHeader p n k d with queue := q.1, probe := true, len := 8 }
  let body := leBytes 2 x.nonce ++ leBytes 2 node ++ leBytes 4 0
  ({ x with sent := some n, dest := d, loop := k == 0 },
    q.2.light p { slot := n, ring := x.ring, head := some h, payload := body.map some })

/-- A software probe that waits to be sent from a port. -/
def State.askedProbe (s : State) (p : Nat) : Option Probe :=
  match Tbl.look s.fab.probes (p / 4) with
  | some x => if x.port = p ∧ x.sent = none then some x else none
  | none => none

/-- Does a software probe take a port's probe slot? -/
def State.probeTakes (s : State) (p n : Nat) : Bool :=
  match s.askedProbe p with
  | some x => s.probeOk p x.ring n
  | none => (match Tbl.look s.fab.probes (p / 4) with | some x => x.port == p && x.sent == some n | none => false)

/-- PROBE_SEND: the probe that software has asked for, in slot `n`. -/
def execProbeSend (p : Fin 16) (n : Nat) (s : State) : Result :=
  match s.askedProbe p with
  | none => .next s
  | some x =>
    if ¬ s.fabUp ∨ ¬ s.probeOk p x.ring n then .next s
    else
      let r := s.sendProbe n x
      .next { r.2 with fab := { r.2.fab with probes := Tbl.set r.2.fab.probes (p.val / 4) r.1 } }

/-- Has a loop been asked to verify with fewer probes than TRIES? -/
def State.triesLeft (s : State) (l : Nat) : Bool := decide ((s.loop l).tries < s.rd JIG.VER_CFG.TRIES)

/-- The first ring of a port, in the order of R190, that is to be verified in slot `n`. -/
def State.verifyRing (s : State) (p n : Nat) : Option Nat :=
  (List.range 10).find? fun r =>
    let l := loopOf p r
    s.probeOk p r n && !s.on (JIG.L_STAT.VERIFIED l) && !(s.loop l).asked && s.triesLeft l

/-- VERIFY_PROBE_SEND: in slot `n`, with a nonce that has bit 15 set. -/
def execVerifyProbeSend (p : Fin 16) (n : Nat) (s : State) : Result :=
  match s.verifyRing p n with
  | none => .next s
  | some r =>
    if ¬ s.fabUp ∨ s.probeTakes p n ∨ (Tbl.look s.fab.jig.verify p).isSome then .next s
    else
      let l := loopOf p r
      let d := s.draw (OPE.PROBE_CMD.NONCE (p / 4)).key
      let x : Probe := { port := p, ring := r, nonce := 32768 + d.1 % 32768, since := n }
      let y := d.2.sendProbe n x
      let s := (y.2.bump (JIG.L_COUNTS.VPROBES l)).setLoop l { s.loop l with tries := (s.loop l).tries + 1 }
      .next (s.setJig { s.fab.jig with verify := Tbl.set s.fab.jig.verify p y.1 })

/-! ### The outcome (R163, R190) -/

/-- A port's last colour-0 probe returned LOOP, or did not (R218). -/
def State.noteLoop (s : State) (x : Probe) (result : Nat) : State :=
  if ¬ x.loop ∨ x.sent.isNone then s
  else
    let l := s.fab.noLoop.filter (· != x.port)
    { s with fab := { s.fab with noLoop := if result = prLoop then l else l ++ [x.port] } }

/-- A probe's outcome acts on its ring, while the lock that it probed lasts. Log: DEDUCED 66. -/
def State.ringOutcome (s : State) (x : Probe) (result : Nat) : State :=
  let s := s.noteLoop x result
  let l := loopOf x.port x.ring
  let y := s.loop l
  let sent := match x.sent with | some n => decide (y.lockedAt ≤ slotStart n) | none => false
  if s.ringSt l ≠ rgLocked ∨ sent = false then s
  else if result = prMatch ∨ result = prLoop then s.wr (JIG.L_STAT.VERIFIED l) 1
  else if result = prMismatch then s.setLoop l { y with cmd := some .mislock }
  else s

/-- The outcome of a software probe recorded; `reply` is a reply's port and node. Log: DEDUCED 66. -/
def State.probeDone (s : State) (e : Nat) (x : Probe) (result : Nat) (reply : Option Site) : State :=
  let s := { s with fab := { s.fab with probes := Tbl.del s.fab.probes e } }
  let s := (s.wr (OPE.PROBE_RES.RESULT e) result).bump (OPE.PROBE_RES.SEQ e)
  let s := match reply with
    | some y => (s.wr (OPE.PROBE_RES.PORT e) y.port).wr (OPE.PROBE_RES.NODE e) y.node
    | none => s
  (s.raise (OPE.EVENT.PROBE_DONE e)).ringOutcome x result

/-- The outcome of a verification probe, which PROBE_RES does not show. Log: DEDUCED 66. -/
def State.verifyDone (s : State) (p : Nat) (x : Probe) (result : Nat) : State :=
  (s.setJig { s.fab.jig with verify := Tbl.del s.fab.jig.verify p }).ringOutcome x result

/-- A slot that is none of the leaf's frames at a port: a probe, a reply or a learning slot. -/
def State.framedQuiet (s : State) (p j : Nat) (phase gain : Nat) : State :=
  let was := s.rd (OPE.P_STAT.RX_FRAMED p)
  (s.framed p j phase gain).wr (OPE.P_STAT.RX_FRAMED p) was

/-- The header and payload bytes of a probe or a reply received in slot `n`, where they hold (R150). -/
def probeWord (n : Nat) (w : Codeword) : Option (Header × List Byte) :=
  match w with
  | .bad => none
  | .good bytes _ _ =>
    let h := Header.ofBytes bytes
    if headerOk bytes ∧ h.ver = 1 ∧ h.slot = n ∧ h.len = 8 then some (h, (bytes.drop 32).take 8) else none

/-- When a probe's or a reply's codeword has been decoded. Log: DEDUCED 66. -/
def State.probeTime (s : State) (p n j : Nat) : Nat := slotStart n + (s.flight p j).getD 0 + tenths 1152

/-- The colour ring on which a port answers: a W ring, LOCKED on the colour. Log: DEDUCED 66. -/
def State.replyRing (s : State) (p k : Nat) : Option Nat :=
  (List.range 8).find? fun r =>
    s.ringSt (loopOf p r) == rgLocked && s.ringTarget (loopOf p r) == some k && s.wardColour p r == some k

/-- PROBE_RX: a port has framed a slot with PROBE = 1 in slot `n`, which it has QUIET; its reply is put up for slot
n + 1 (R162). Log: DEDUCED 125. -/
def execProbeRx (p : Fin 16) (n : Nat) (phase : BitVec 6) (gain : BitVec 4) (w : Codeword) (s : State) : Result :=
  let j := n % 64 / 2
  if ¬ s.fabUp ∨ n % 2 ≠ 0 ∨ ¬ s.portQuiet p n ∨ s.portOff p then .next s
  else
    match s.flight p j, probeWord n w with
    | some _, some (h, body) =>
      if ¬ h.probe then .next s
      else
        let s := (s.advance (s.probeTime p n j)).framedQuiet p j phase.toNat gain.toNat
        let k := (j + 32 - s.portIndex p) % 32
        match s.replyRing p k with
        | none => .next s
        | some r =>
          if ¬ s.portQuiet p (n + 1) ∨ (slotStart (n + 1) ≤ s.now ∧ (Tbl.look s.book.sent p).isSome) then .next s
          else
            let q := s.anyQueue
            let reply := { q.2.opHeader p (n + 1) k j with queue := q.1, reply := true, len := 8 }
            let y : Sent := { slot := n + 1, ring := r, head := some reply, payload := (padTo 8 (body.take 4)).map some }
            .next { q.2 with book := { q.2.book with sent := Tbl.set q.2.book.sent p y } }
    | _, _ => .next s

/-- What a slot received at a port says of a probe sent from it: the own loopback, a reply with the nonce echoed. -/
def State.judge (s : State) (x : Probe) (n : Nat) (h : Header) (body : List Byte) : Option (Nat × Option Site) :=
  if bytesAt body 0 2 ≠ x.nonce then none
  else if x.loop ∧ x.sent = some n ∧ h.probe then some (prLoop, none)
  else
    match x.sent with
    | none => none
    | some m =>
      if n ≠ m + 1 ∨ ¬ h.reply then none
      else
        let y : Site := ⟨h.port, h.src⟩
        some (if s.site x.port x.dest = some y then prMatch else prMismatch, some y)

/-- PROBE_REPLY_RX: slot `n` received at a port that has a probe out. -/
def execProbeReplyRx (p : Fin 16) (n : Nat) (w : Codeword) (s : State) : Result :=
  if ¬ s.fabUp then .next s
  else
    match probeWord n w with
    | none => .next s
    | some (h, body) =>
      let j := (((List.range 32).find? fun i => s.site p i == some ⟨h.port, h.src⟩)).getD (s.portIndex p)
      let t := s.probeTime p n j
      match Tbl.look s.fab.probes (p / 4), Tbl.look s.fab.jig.verify p with
      | some x, v =>
        match (if x.port = p then s.judge x n h body else none), v with
        | some (res, reply), _ => .next ((s.advance t).probeDone (p / 4) x res reply)
        | none, some y =>
          (match s.judge y n h body with
            | some (res, _) => .next ((s.advance t).verifyDone p y res)
            | none => .next s)
        | none, none => .next s
      | none, some y =>
        (match s.judge y n h body with
          | some (res, _) => .next ((s.advance t).verifyDone p y res)
          | none => .next s)
      | none, none => .next s

/-- PROBE_NO_REPLY: reply slot `n` of a port has ended without a reply. -/
def execProbeNoReply (p : Fin 16) (n : Nat) (s : State) : Result :=
  if ¬ s.fabUp then .next s
  else
    let late (x : Probe) : Bool := x.port == p.val && (match x.sent with | some m => m + 1 == n | none => false)
    let t (x : Probe) : Nat := slotStart (n + 1) + (s.flight p x.dest).getD 0
    match Tbl.look s.fab.probes (p / 4), Tbl.look s.fab.jig.verify p with
    | some x, v =>
      if late x then .next ((s.advance (t x)).probeDone (p / 4) x prNoReply none)
      else (match v with
        | some y => if late y then .next ((s.advance (t y)).verifyDone p y prNoReply) else .next s
        | none => .next s)
    | none, some y => if late y then .next ((s.advance (t y)).verifyDone p y prNoReply) else .next s
    | none, none => .next s

/-- The last of the 64 probe slots of a command given in slot `since`, of router index `i`. -/
def lastProbeSlot (since i : Nat) : Nat :=
  since + 1 + (2 * i + 64 - (since + 1) % 64) % 64 + 63 * 64

/-- PROBE_NOT_SENT: at instant `t` 64 probe slots have passed since the command. -/
def execProbeNotSent (e : Fin 4) (t : Nat) (s : State) : Result :=
  match Tbl.look s.fab.probes e with
  | none => .next s
  | some x =>
    let n := lastProbeSlot x.since (s.portIndex x.port)
    if ¬ s.fabUp ∨ x.sent ≠ none ∨ max s.now t < slotStart (n + 1) then .next s
    else .next ((s.advance t).probeDone e x prNotSent none)

/-- When a ring's LIMIT began (R190, R207). -/
def State.verifyFrom (s : State) (l : Nat) : Nat :=
  let v := slotStart (s.rcSlot + 2176)
  if s.rcCovers (slotOf s.now) then max (s.loop l).lockedAt v else (s.loop l).lockedAt

/-- Is a probe of a loop on its way? -/
def State.probing (s : State) (l : Nat) : Bool := s.fab.jig.verify.any fun x => loopOf x.2.port x.2.ring == l

/-- VERIFY_TIMEOUT: at instant `t` a ring's probes are used up, or LIMIT has passed. -/
def execVerifyTimeout (l : Fin 176) (t : Nat) (s : State) : Result :=
  let late := decide (s.verifyFrom l + Config.ns (1000 * s.rd JIG.VER_CFG.LIMIT) ≤ max s.now t)
  if ¬ s.fabUp ∨ s.ringSt l ≠ rgLocked ∨ s.on (JIG.L_STAT.VERIFIED l) ∨ (s.loop l).asked ∨ (ringOf l).isNone ∨
      ((s.triesLeft l ∨ s.probing l) ∧ late = false) then .next s
  else
    let s := s.advance t
    .next ((s.setLoop l { s.loop l with asked := true }).raise JIG.EVENT.UNVERIFIED)

end Sys2Proof.Machine
end

