-- ==== Sys2Proof/Machine/Recable.lean ====
section
/-! DEFINITION. Re-cabling (R199-R212) and the wear of rings, channels and ports (R213-R218). -/
namespace Sys2Proof.Machine
open Sys2Proof

/-! ### Staging and arming (R200-R202) -/

/-- The bits of a wardrobe word that hold valid bits and colours. -/
def wardMask (v : Nat) : Nat := v &&& 0x9F9F9F9F

/-- The staged wardrobe of a port. -/
def State.staged (s : State) (p : Nat) : List (Option Nat) :=
  (List.range 4).map (wardOf (s.rd (CAL.RCB_WARD_0.W3_W0 p))) ++
    (List.range 4).map (wardOf (s.rd (CAL.RCB_WARD_1.W7_W4 p)))

/-- A write of CAL.RCB_WARD<p>_0, or of CAL.RCB_WARD<p>_1 (`hi`). Log: DEDUCED 73. -/
def State.writeStage (s : State) (p : Nat) (hi : Bool) (v : Nat) : State :=
  if s.rcState = rcCommitted ∨ s.rcState = rcRunning then s.bump CAL.RCB_COUNTS.FROZEN_WR
  else
    let new := (List.range 4).map (wardOf v)
    let old := s.staged p
    if wardClash (if hi then old.take 4 ++ new else new ++ old.drop 4) then s.raise CAL.RCB_EVENT.CFG_ERR
    else if hi then s.wr (CAL.RCB_WARD_1.W7_W4 p) (wardMask v)
    else s.wr (CAL.RCB_WARD_0.W3_W0 p) (wardMask v)

/-- CAL.RCB_CMD.ARM. Log: DEDUCED 127. -/
def State.rcbArm (s : State) : State :=
  let n := s.swSlot
  if s.swState ≠ swArmed ∨ n % 64 ≠ 0 ∨ (s.rcState ≠ rcIdle ∧ s.rcState ≠ rcDone) ∨ s.unsafeBlock 9 then
    (s.bump CAL.RCB_COUNTS.REFUSED).raise CAL.RCB_EVENT.ARM_REFUSED
  else ((s.wr CAL.RCB_SLOT.R n).wr CAL.RCB_STAT.STATE rcArmed).wr CAL.RCB_STAT.PHASE 0

/-- RCB_ARM. -/
def execRcbArm (s : State) : Result := .next s.rcbArm

/-- CAL.RCB_CMD.CANCEL. -/
def State.rcbCancel (s : State) : State :=
  if s.rcState = rcArmed then s.wr CAL.RCB_STAT.STATE rcIdle
  else if s.rcState = rcCommitted ∨ s.rcState = rcRunning then s.raise CAL.RCB_EVENT.ARM_REFUSED
  else s

/-- RCB_CANCEL. -/
def execRcbCancel (s : State) : Result := .next s.rcbCancel

/-! ### The sequence (R204-R210) -/

/-- The start of the slot `n` slots after R. -/
def State.rcAt (s : State) (n : Nat) : Nat := slotStart (s.rcSlot + n)

/-- Does a port's B stay as it is through R: does it cover a W ring in FAULT, or one that S is replacing (R206)? -/
def State.basteKept (s : State) (p : Nat) : Bool :=
  let n := s.bFor p
  decide (n < 8) && (s.ringSt (loopOf p n) == rgFault || s.sFor p == n || Tbl.look s.fab.recable.repl p == some n)

/-- B is not the Jig's any more. -/
def State.dropTakeover (s : State) (p : Nat) : State :=
  let j := s.fab.jig
  s.setJig { j with takeovers := j.takeovers.filter (· != p), release := Tbl.del j.release p }

/-- A replacement by S is no longer in progress. -/
def State.dropRepl (s : State) (p : Nat) : State :=
  { s with fab := { s.fab with recable := { s.fab.recable with repl := Tbl.del s.fab.recable.repl p } } }

/-- One port at R (R206). -/
def State.recablePort (s : State) (p : Nat) : State :=
  let keep := s.basteKept p
  let s := (s.storeWard p false (s.rd (CAL.RCB_WARD_0.W3_W0 p))).storeWard p true (s.rd (CAL.RCB_WARD_1.W7_W4 p))
  let s := if keep ∧ (s.wardColour p (s.bFor p)).isSome then s
    else ((s.dropTakeover p).dropRepl p).wr (OPE.P_SPARE.B_FOR p) 15
  s.retargetPort p

/-- RECABLE_START, at the start of slot R: the optical run of calibration is ABORTED with REASON 13 (R257). -/
def execRecableStart (s : State) : Result :=
  if ¬ s.fabUp ∨ s.rcState ≠ rcCommitted then .next s
  else
    let s := (s.advance (s.rcAt 0)).calAbortOpt 13
    let s := (s.wr CAL.RCB_STAT.STATE rcRunning).wr CAL.RCB_STAT.PHASE 1
    let s := { s with fab := { s.fab with recable := { s.fab.recable with mislocks := 0 } } }
    .next ((List.range 16).foldl (fun s p => s.recablePort p) s)

/-- RECABLE_PHASE: the next phase begins. -/
def execRecablePhase (s : State) : Result :=
  let k := s.rd CAL.RCB_STAT.PHASE
  if ¬ s.fabUp ∨ s.rcState ≠ rcRunning ∨ k = 0 ∨ 3 < k then .next s
  else .next ((s.advance (s.rcAt (if k = 1 then 2176 else if k = 2 then 3712 else 5760))).wr CAL.RCB_STAT.PHASE (k + 1))

/-- The ring of a port that is LOCKED on a colour. -/
def State.lockedOn (s : State) (p k : Nat) : Option Nat :=
  (List.range 10).find? fun r => s.ringSt (loopOf p r) == rgLocked && s.ringTarget (loopOf p r) == some k

/-- What a port sends in a learning slot. -/
def State.learnSend (s : State) (n k p : Nat) : State :=
  match s.lockedOn p k with
  | none => s
  | some r =>
    if s.portOff p ∨ ¬ s.on GAUGE.STATUS.OPT_OK then s
    else
      let q := s.anyQueue
      q.2.light p { slot := n, ring := r, payload := [],
                    head := some { q.2.opHeader p n k (q.2.dest p k) with queue := q.1, idle := true } }

/-- LEARNING_SLOT of slot `n`. `found` gives the ports that framed the burst, with the phase and gain found (R208). -/
def execLearningSlot (n : Nat) (found : List (Nat × Nat × Nat)) (s : State) : Result :=
  let k := n / 16 % 32
  if ¬ s.fabUp ∨ s.rcState ≠ rcRunning ∨ n < s.rcSlot + 3712 ∨ s.rcSlot + 5760 ≤ n ∨ n % 16 ≠ 8 ∨
      slotStart (n + 1) ≤ s.now then .next s
  else
    let s := s.advance (slotStart n)
    let s := (List.range 16).foldl (fun s p => s.learnSend n k p) s
    .next (found.foldl (fun s x =>
      let j := (s.portIndex x.1 + 32 - k) % 32
      if 16 ≤ x.1 ∨ s.portOff x.1 ∨ (s.flight x.1 j).isNone ∨ (s.site x.1 j).isNone then s
      else s.framedQuiet x.1 j x.2.1 x.2.2) s)

/-- The (port, sender index) pairs that receive claims of the worn leaf name. -/
def State.claimedPairs (s : State) : List (Nat × Nat) :=
  ((liveEntries s.book.worn.entries).filterMap fun x =>
    let e := x.2
    if e.run ≠ 0 ∧ e.link < 16 ∧ (e.op = opTake ∨ e.op = opFell ∨ e.op = opRelay) then some (e.link, e.peer) else none).eraseDups

/-- A port whose measurement of a laser's spare is under way, or waits for the end of a re-cable (R206, R223): the first
in its list. Ports that cannot be measured are skipped. -/
def State.measurable (s : State) (p : Nat) : Option Nat :=
  if s.bFor p ≠ 15 ∨ s.ringSt (loopOf p 8) ≠ rgParked ∨ s.calPort = some p then none
  else (List.range 8).find? fun n => s.ringSt (loopOf p n) == rgLocked && s.on (JIG.L_STAT.VERIFIED (loopOf p n))

/-- A laser source's record. -/
def State.laser (s : State) (i : Nat) : Laser := Tbl.lookD s.fab.lasers {} i

/-- It, replaced. -/
def State.setLaser (s : State) (i : Nat) (x : Laser) : State :=
  { s with fab := { s.fab with lasers := Tbl.put s.fab.lasers {} i x } }

/-- An event of a source, with SRC (R219-R227). -/
def State.laserEvent (s : State) (i : Nat) (f : Field) (told : Bool) : State :=
  let s := s.wr CAL.LSR_EVENT.SRC i
  if told then s.report f 0 (leBytes 4 i) else s.raise f 0 (leBytes 4 i)

/-- LSR<s>_STAT.STEP's codes. -/
def stNone : Nat := 0
def stPrewarm : Nat := 1
def stMeasure : Nat := 2
def stWait : Nat := 3
def stFlipped : Nat := 4
def stFailed : Nat := 5

/-- Entry to FAILED. -/
def State.measFail (s : State) (i : Nat) : State :=
  let s := s.setLaser i { s.laser i with pilot := false, ports := [], begun := none, retryAt := some (s.now + tenSeconds) }
  (s.wr (CAL.LSR_STAT.STEP i) stFailed).laserEvent i CAL.LSR_EVENT.MEAS_FAIL false

/-- All ports have been measured (R223). -/
def State.measDone (s : State) (i : Nat) : State :=
  let x := s.laser i
  match x.offs with
  | a :: b :: r =>
    let l := a :: b :: r
    let mean := l.sum * mhz / (l.length : Int)
    let s := (s.showInt (CAL.LSR_OFFS.MEAN i) (mean / mhz)).showNum (CAL.LSR_OFFS.SPREAD i)
      (l.foldl max a - l.foldl min a)
    let s := s.setLaser i { x with pilot := false, ports := [], begun := none, mean := mean, after := s.now + Config.ns 1000000 }
    s.wr (CAL.LSR_STAT.STEP i) stWait
  | _ => s.measFail i

/-- The measurement of the next port begins. During a re-cable none begins. -/
def State.measNext (s : State) (i : Nat) : List Nat → State
  | [] => s.measDone i
  | p :: r =>
    if s.rcState = rcRunning then s.setLaser i { s.laser i with ports := p :: r, begun := none }
    else match s.measurable p with
      | none => s.measNext i r
      | some n => (s.setLaser i { s.laser i with ports := p :: r, begun := some s.now }).setBFor p n

/-- RECABLE_END, at E. -/
def execRecableEnd (s : State) : Result :=
  if ¬ s.fabUp ∨ s.rcState ≠ rcRunning then .next s
  else
    let s := s.advance (s.rcAt rcLength)
    let loops := (List.range 176).filter fun l => (ringOf l).isSome
    let a := (loops.filter fun l => (s.ringTarget l).isSome && s.ringSt l != rgLocked).length
    let b := (loops.filter fun l => s.ringSt l == rgLocked && !s.on (JIG.L_STAT.VERIFIED l)).length
    let c := s.fab.recable.mislocks
    let d := (s.claimedPairs.filter fun x => !s.on (OPE.P_PC.VALID x.1 x.2)).length
    let s := (s.wr CAL.RCB_STAT.STATE rcDone).wr CAL.RCB_STAT.PHASE 0
    let s := ((s.wrSat CAL.RCB_RESULT.NOT_LOCKED a).wrSat CAL.RCB_RESULT.UNVERIFIED b).wrSat CAL.RCB_RESULT.MISLOCK c
    let s := ((s.wrSat CAL.RCB_RESULT.PC_INVALID d).bump CAL.RCB_COUNTS.DONE).raise CAL.RCB_EVENT.DONE
    let s := if a + b + c + d = 0 then s else s.raise CAL.RCB_EVENT.INCOMPLETE sevWarning
    .next ((List.range 2).foldl (fun s i =>
      let x := s.laser i
      if s.rd (CAL.LSR_STAT.STEP i) = stMeasure then s.measNext i x.ports else s) s)

/-! ### Rings (R213-R216) -/

/-- A wardrobe index is given up (R216): its valid bit cleared, an ERROR event, and the patch map told.
Log: DEDUCED 76. -/
def State.ringLost (s : State) (p n : Nat) : State :=
  let s := (s.wr (wardField p n).1 0).retargetPort p
  (s.logOpen (4 + p / 4) 1 sevError (OPE.P_WARD0.base + 0x10000 * (p / 4)) (leBytes 4 (8 * p + n))).patchNote 6 2 p 0

/-- S set to serve an index, and recorded. -/
def State.useSpare (s : State) (p n : Nat) : State :=
  let s := { s with fab := { s.fab with recable := { s.fab.recable with repl := Tbl.set s.fab.recable.repl p n } } }
  let s := (s.wr (OPE.P_SPARE.S_FOR p) n).patchNote 6 1 p n
  let j := s.fab.jig
  let s := if s.bFor p = n ∧ ¬ j.takeovers.contains p then s.setJig { j with takeovers := j.takeovers ++ [p] } else s
  s.retargetPort p

/-- Has calibration marked W_n for replacement (R213, R253)? -/
def State.worn (s : State) (p n : Nat) : Bool := s.fab.recable.marked.contains (8 * p + n)

/-- RING_REPLACE: MC0's next step for W_n of a port. Log: DESIGN CHOICE 75. -/
def execRingReplace (p : Fin 16) (n : Fin 8) (s : State) : Result :=
  let w := loopOf p n
  let served := s.on (wardField p n).1
  if ¬ s.fabUp ∨ ¬ served then .next s
  else if s.sFor p = n then
    if s.ringSt (loopOf p 9) = rgFault then .next (s.ringLost p n) else .next s
  else if s.ringSt w = rgFault then
    if s.sFor p = 15 ∧ s.ringSt (loopOf p 9) ≠ rgFault then .next (s.useSpare p n) else .next (s.ringLost p n)
  else if s.sFor p ≠ 15 ∨ ¬ s.worn p n then .next s
  else if s.bFor p = 15 ∧ s.ringSt (loopOf p 8) = rgParked then
    let s := { s with fab := { s.fab with recable := { s.fab.recable with repl := Tbl.set s.fab.recable.repl p n } } }
    .next (s.setBFor p n)
  else if s.bFor p = n ∧ Tbl.look s.fab.recable.repl p = some n.val ∧ s.ringSt (loopOf p 8) = rgLocked then
    .next (s.useSpare p n)
  else .next s

/-! ### Channels (R217) -/

/-- An edge die's channel as its selector numbers it: heater or monitor, of an engine. -/
def edChannel (monitor : Bool) (e c : Nat) : Nat := 256 * bit monitor + 128 * (e % 2) + c

/-- The lowest spare channel of an engine that stands in for none: 40-43 of the heaters, 48-51 of the monitors. -/
def State.spareChannel (s : State) (monitor : Bool) (e : Nat) : Option Nat :=
  let first := if monitor then 48 else 40
  let used := fun (x : Nat) => (List.range first).any fun c =>
    let i := edChannel monitor e c
    s.on (ED.SPARE_MAP.EN (e / 2) i) && s.rd (ED.SPARE_MAP.SPARE (e / 2) i) == x
  ((List.range 4).map (first + ·)).find? fun x => !used x

/-- CHANNEL_FAULT_SPARE: MC0 maps a spare over the faulted channel of a loop; without a spare, the ring is lost. -/
def execChannelFaultSpare (monitor : Bool) (l : Fin 176) (s : State) : Result :=
  let j := s.fab.jig
  let e := l.val / 44
  let c := l.val % 44
  let d := e / 2
  if ¬ s.fabUp ∨ ¬ j.faulty.contains (monitor, l.val) then .next s
  else
    let s := s.setJig { j with faulty := j.faulty.filter (· != (monitor, l.val)) }
    match s.spareChannel monitor e with
    | some x =>
      let i := edChannel monitor e c
      let s := (s.wr (ED.SPARE_MAP.EN d i) 1).wr (ED.SPARE_MAP.SPARE d i) x
      let s := if monitor then s else s.wr (ED.DAC_RH.RH d i) (s.rd (ED.DAC_RH.RH d (edChannel false e x)))
      let s := s.patchNote (7 + bit monitor) 1 ((if monitor then 52 else 44) * e + c) x
      .next (s.setLoop l { s.loop l with cmd := some .reset })
    | none =>
      let s := s.patchNote (7 + bit monitor) 2 ((if monitor then 52 else 44) * e + c) 0
      match ringOf l with
      | none => .next s
      | some (p, r) => (match s.indexOf p r with | some n => .next (s.ringLost p n) | none => .next s)

/-! ### Ports (R218) -/

/-- Ports disabled: their slots end and their receive entries are QUIET (R126, R218). -/
def State.portsOff (s : State) (which : Nat → Bool) : State :=
  let f := fun l => optical l && which l
  (s.cutLinks f).quietRx f

/-- PORT_FAILED: MC0 finds that a port has framed nothing in 16 frames with claims, and that its last colour-0 probe
failed. Log: DEDUCED 86. -/
def execPortFailed (p : Fin 16) (s : State) : Result :=
  let e := p.val / 4
  if ¬ s.fabUp ∨ ¬ s.portEn p ∨ Tbl.lookD s.fab.dead 0 p < 16 ∨ ¬ s.fab.noLoop.contains p.val then .next s
  else
    let m := s.rd (OPE.CTRL.PORT_EN e)
    let s := s.wr (OPE.CTRL.PORT_EN e) (m - 2 ^ (p.val % 4))
    let s := { s with fab := { s.fab with failed := s.fab.failed.filter (· != p.val) ++ [p.val] } }
    let s := s.portsOff (· == p.val)
    let all := (List.range 4).all fun q => s.fab.failed.contains (4 * e + q)
    let off := OPE.CTRL.base + 0x10000 * e
    .next (if all then s.logOpen (4 + e) 3 sevError off (leBytes 4 e) else s.logOpen (4 + e) 2 sevError off (leBytes 4 p))

end Sys2Proof.Machine
end

