-- ==== Sys2Proof/Machine/Laser.lean ====
section
/-! DEFINITION. The laser sources: their levels, the spare-in sequence and the flip (R219-R227, R234); the fabric's stop
and the loss of a neighbour (R228, R230). -/
namespace Sys2Proof.Machine
open Sys2Proof

/-! ### The measures of a frame (R158, R219, R220) -/

/-- The ports of a source. -/
def sourcePorts (i : Nat) : List Nat := (List.range 8).map (8 * i + ·)

/-- A port's powers of the last frame, where it had slots of the kind (R158): relative to the calibration reference as a
flip has moved it. -/
def State.portPower (s : State) (x : PortPower) : State :=
  if 16 ≤ x.port then s
  else
    let s := if s.fab.sending.contains x.port then
        s.showInt (OPE.P_POWER.TX_TAP x.port) (x.tx - Tbl.lookD s.fab.tapRef 0 x.port) else s
    if s.fab.lit.contains x.port then
      s.showInt (OPE.P_POWER.RX_AVG x.port) (x.rx - Tbl.lookD s.fab.rxRef 0 x.port) else s

/-- The 16 frames after a flip (R220): the sums that give the new references. Log: DEDUCED 77. -/
def State.newTaps (s : State) (i : Nat) : State :=
  let x := s.laser i
  if x.refRun = 0 then s
  else
    let taps := ((sourcePorts i).filter s.fab.sending.contains).foldl (fun t p =>
      let o := Tbl.lookD t (0, 0) p
      Tbl.set t p (o.1 + s.rdI (OPE.P_POWER.TX_TAP p), o.2 + 1)) x.taps
    if x.refRun = 1 then
      let refs := taps.foldl (fun t a => Tbl.put t 0 a.1 (Tbl.lookD t 0 a.1 + a.2.1 / (a.2.2 : Int))) s.fab.tapRef
      ({ s with fab := { s.fab with tapRef := refs } }).setLaser i { x with refRun := 0, taps := [] }
    else s.setLaser i { x with refRun := x.refRun - 1, taps := taps }

/-- The (port, peer) pairs of a source with TX_VALID = 1, as their QTX. Log: DEDUCED 77. -/
def State.echoes (s : State) (i : Nat) : List Nat :=
  (sourcePorts i).flatMap fun p =>
    ((List.range 32).filter fun j => s.on (OPE.P_QUAL.TX_VALID p j)).map fun j => s.rd (OPE.P_QUAL.QTX p j)

/-- Does a test of a level hold (R219): the median tap at or below `db` tenths, or half the pairs below `q`?
Log: DEDUCED 77. -/
def levelTest (tap : Option Int) (es : List Nat) (db q : Nat) : Bool :=
  (match tap with | some t => decide (t ≤ -((10 * db : Nat) : Int)) | none => false) ||
    (es != [] && decide (es.length ≤ 2 * (es.filter fun x => decide (x < q)).length))

/-- The measures of a source at a frame boundary, and the runs of its tests. Log: DEDUCED 77. -/
def State.laserFrame (s : State) (i : Nat) : State :=
  let sent := (sourcePorts i).filter s.fab.sending.contains
  let tap := if sent = [] then none else some (median (sent.map fun p => s.rdI (OPE.P_POWER.TX_TAP p)))
  let s := match tap with | some t => s.showInt (CAL.LSR_STAT.TAP i) t | none => s
  let es := s.echoes i
  let w := levelTest tap es (s.rd (CAL.LSR_CFG.WARN_DB i)) (s.rd (CAL.LSR_QCFG.Q_WARN i))
  let p := levelTest tap es (s.rd (CAL.LSR_CFG.SPARE_DB i)) (s.rd (CAL.LSR_QCFG.Q_SPARE i))
  let l := levelTest tap es (s.rd (CAL.LSR_CFG.LOST_DB i)) (s.rd (CAL.LSR_QCFG.Q_LOST i))
  let level := s.rd (CAL.LSR_STAT.LEVEL i)
  let held := if level = 1 then w else if level = 2 then p else if level = 3 then l else true
  let x := s.laser i
  (s.setLaser i { x with
    warnRun := if w then x.warnRun + 1 else 0, spareRun := if p then x.spareRun + 1 else 0,
    lostRun := if l then x.lostRun + 1 else 0, calmRun := if held then 0 else x.calmRun + 1 }).newTaps i

/-! ### Levels (R220, R221, R226, R227) -/

/-- A usable spare remains (R227). Log: DEDUCED 98. -/
def State.spareAvail (s : State) (i : Nat) : Bool := s.on (CAL.LSR_STAT.SPARE_AVAIL i)

/-- The spare-in sequence starts: PREWARM written (R222). -/
def State.spareIn (s : State) (i : Nat) : State :=
  let st := s.rd (CAL.LSR_STAT.STEP i)
  if st = stPrewarm ∨ st = stMeasure ∨ st = stWait then s
  else
    let s := s.setLaser i { s.laser i with prewarm := true, pilot := false, t0 := s.now, retryAt := none, ports := [], begun := none, offs := [] }
    s.wr (CAL.LSR_STAT.STEP i) stPrewarm

/-- A measurement under way stopped: its port's B released, PILOT cleared. -/
def State.measStop (s : State) (i : Nat) : State :=
  let x := s.laser i
  let s := match x.ports, x.begun with
    | p :: _, some _ => s.setBFor p 15
    | _, _ => s
  s.setLaser i { s.laser i with pilot := false, ports := [], begun := none, retryAt := none }

/-- Entry to LOST (R226): every index of the source's ports is refused FAULT. -/
def State.enterLost (s : State) (i : Nat) : State :=
  let s := s.laserEvent i CAL.LSR_EVENT.LOST false
  let all := (sourcePorts i).flatMap fun p => (List.range 8).map (8 * p + ·)
  let s := s.setLaser i { s.laser i with lost := all, jumped := false }
  if s.spareAvail i ∧ ¬ (s.laser i).ready then s.setLaser i { s.laser i with prewarm := true, t0 := s.now } else s

/-- Entry to a level. -/
def State.enterLevel (s : State) (i level : Nat) : State :=
  let s := (s.wr (CAL.LSR_STAT.LEVEL i) level).setLaser i { s.laser i with calmRun := 0 }
  if level = 1 then s.laserEvent i CAL.LSR_EVENT.WARN true
  else if level = 2 then
    if s.spareAvail i then (s.laserEvent i CAL.LSR_EVENT.SPARE_IN false).spareIn i
    else s.laserEvent i CAL.LSR_EVENT.NO_SPARE true
  else s.enterLost i

/-- The level that the runs of a source's tests call for. -/
def Laser.calls (x : Laser) : Nat :=
  if 1 ≤ x.lostRun then 3 else if 4 ≤ x.spareRun then 2 else if 16 ≤ x.warnRun then 1 else 0

/-- LASER_LEVEL_UP. -/
def execLaserLevelUp (i : Fin 2) (s : State) : Result :=
  let level := (s.laser i).calls
  if ¬ s.fabUp ∨ level ≤ s.rd (CAL.LSR_STAT.LEVEL i) then .next s else .next (s.enterLevel i level)

/-- LASER_LEVEL_DOWN. -/
def execLaserLevelDown (i : Fin 2) (s : State) : Result :=
  let level := s.rd (CAL.LSR_STAT.LEVEL i)
  if ¬ s.fabUp ∨ level = 0 ∨ (s.laser i).calmRun < 1024 then .next s
  else .next ((s.wr (CAL.LSR_STAT.LEVEL i) (level - 1)).setLaser i { s.laser i with calmRun := 0 })

/-! ### The spare-in sequence (R222-R224) -/

/-- SPARE_READY: the module's CMIS status reads READY or SPARE_FAULT (R227, R234). -/
def execSpareReady (i : Fin 2) (ready fault : Bool) (s : State) : Result :=
  if ¬ s.mainUp then .next s
  else
    let s := if fault then s.wr (CAL.LSR_STAT.SPARE_AVAIL i) 0 else s
    let s := s.setLaser i { s.laser i with ready := ready && !fault }
    if ready ∧ ¬ fault ∧ s.rd (CAL.LSR_STAT.STEP i) = stPrewarm then
      let s := (s.setLaser i { s.laser i with pilot := true, offs := [] }).wr (CAL.LSR_STAT.STEP i) stMeasure
      .next (s.measNext i (sourcePorts i))
    else .next s

/-- SPARE_WARM_TIMEOUT: WARM_TIME, as the module reports it in units of 100 ms, has passed.
Log: DESIGN CHOICE 123. -/
def execSpareWarmTimeout (i : Fin 2) (warm : BitVec 8) (s : State) : Result :=
  let x := s.laser i
  if ¬ s.mainUp ∨ s.rd (CAL.LSR_STAT.STEP i) ≠ stPrewarm then .next s
  else .next ((s.advance (x.t0 + Config.ns (warm.toNat * 100000000))).measFail i)

/-- SPARE_MEASURE_PORT: the 8 ms on the port under way have passed; `offset` is what they gave, in MHz. -/
def execSpareMeasurePort (i : Fin 2) (offset : Int) (s : State) : Result :=
  let x := s.laser i
  match x.ports, x.begun with
  | p :: r, some t =>
    if ¬ s.fabUp ∨ s.rd (CAL.LSR_STAT.STEP i) ≠ stMeasure ∨ s.rcState = rcRunning then .next s
    else
      let s := (s.advance (t + Config.ns 8000000)).setBFor p 15
      let s := s.setLaser i { s.laser i with offs := x.offs ++ [offset], begun := none }
      .next (s.measNext i r)
  | _, _ => .next s

/-- SPARE_IN_RETRY: ten seconds after the failure, while the level stays SPARE-IN. -/
def execSpareInRetry (i : Fin 2) (s : State) : Result :=
  match (s.laser i).retryAt with
  | none => .next s
  | some t =>
    if ¬ s.mainUp ∨ s.rd (CAL.LSR_STAT.STEP i) ≠ stFailed ∨ s.rd (CAL.LSR_STAT.LEVEL i) ≠ 2 ∨ ¬ s.spareAvail i then .next s
    else .next ((s.advance t).spareIn i)

/-- The spare selected: ON_SPARE, no spare left, the level OK, new references begun, the patch map told. -/
def State.flip (s : State) (i : Nat) : State :=
  let s := (s.wr (CAL.LSR_STAT.ON_SPARE i) 1).wr (CAL.LSR_STAT.SPARE_AVAIL i) 0
  let s := (s.wr (CAL.LSR_STAT.STEP i) stFlipped).wr (CAL.LSR_STAT.LEVEL i) 0
  let s := s.setLaser i { s.laser i with warnRun := 0, spareRun := 0, lostRun := 0, calmRun := 0, refRun := 16, taps := [], retryAt := none }
  (s.patchNote 9 1 i 1).laserEvent i CAL.LSR_EVENT.FLIP false

/-- Is slot `n` the first of a maintenance window of the worn leaf, outside a re-cable (R212)? -/
def State.windowStart (s : State) (n : Nat) : Bool :=
  match s.leafFor n with
  | none => false
  | some (_, len, align, off) => len != 0 && cycleSlot len align n == off && !s.rcCovers n

/-- LASER_FLIP at the start of slot `n`: in a maintenance window after the measurement (R224), or at the next slot
boundary of a source that is LOST (R226). -/
def execLaserFlip (i : Fin 2) (n : Nat) (s : State) : Result :=
  let x := s.laser i
  let w := slotStart n
  if ¬ s.fabUp ∨ w < s.now ∨ ¬ s.spareAvail i then .next s
  else if s.rd (CAL.LSR_STAT.LEVEL i) = 3 then
    if ¬ x.ready then .next s
    else
      let s := ((s.advance w).measStop i).flip i
      .next (s.setLaser i { s.laser i with restart := some (w + Config.ns 100000) })
  else if s.rd (CAL.LSR_STAT.STEP i) = stWait ∧ x.after ≤ w ∧ s.windowStart n ∧ ¬ s.unsafeBlock 9 then
    let s := (s.advance w).flip i
    .next (s.setLaser i { s.laser i with stepAt := some w })
  else .next s

/-- f_trk of a source set, and its filter with it. -/
def State.setTrack (s : State) (i : Nat) (f : Int) : State :=
  let j := s.fab.jig
  let s := s.setJig (if i = 0 then { j with fA := f } else { j with fB := f })
  s.showInt (if i = 0 then JIG.TRK.F_A else JIG.TRK.F_B) (f / mhz)

/-- FLIP_TRACK_STEP: at the first Jig cycle boundary at or after W + 5.0 us. -/
def execFlipTrackStep (i : Fin 2) (s : State) : Result :=
  let x := s.laser i
  match x.stepAt with
  | none => .next s
  | some w =>
    if ¬ s.fabUp then .next s
    else
      let k := (w + Config.ns 5000 + Config.cycleTime - 1) / Config.cycleTime
      let s := (s.advance (k * Config.cycleTime)).setLaser i { x with stepAt := none }
      .next (s.setTrack i ((if i = 0 then s.fab.jig.fA else s.fab.jig.fB) + x.mean))

/-- The loops of the rings on a source. -/
def sourceLoops (i : Nat) : List Nat := ((List.range 88).map (88 * i + ·)).filter fun l => (ringOf l).isSome

/-- LOST_TRACK_RESTART: 100 us after the flip of a LOST source; `volt` is LSR_TRK's sample in 0.05 mV. -/
def execLostTrackRestart (i : Fin 2) (volt : BitVec 16) (s : State) : Result :=
  let x := s.laser i
  match x.restart with
  | none => .next s
  | some t =>
    if ¬ s.fabUp then .next s
    else
      let s := (s.advance t).setLaser i { x with restart := none, jumped := true }
      let s := s.setTrack i (trackIn volt.toNat)
      .next ((sourceLoops i).foldl (fun s l =>
        if (s.ringTarget l).isSome ∧ s.ringSt l ≠ rgFault then s.setLoop l { s.loop l with cmd := some .relock } else s) s)

/-- CAL.LSR<s>_CMD.FORCE. Log: DEDUCED 78. -/
def State.lsrForce (s : State) (i : Nat) : State :=
  if s.spareAvail i then s.spareIn i else s.laserEvent i CAL.LSR_EVENT.CFG_ERR false

/-- LSR_FORCE. -/
def execLsrForce (i : Fin 2) (s : State) : Result := .next (s.lsrForce i)

/-- CAL.LSR<s>_CMD.ABORT. -/
def State.lsrAbort (s : State) (i : Nat) : State :=
  let st := s.rd (CAL.LSR_STAT.STEP i)
  if st = stNone ∨ st = stFlipped then s else (s.measStop i).wr (CAL.LSR_STAT.STEP i) stNone

/-- LSR_ABORT. -/
def execLsrAbort (i : Fin 2) (s : State) : Result := .next (s.lsrAbort i)

/-! ### A package that fails (R228) -/

/-- A FATAL event that stops the fabric has been logged. -/
def State.stopFabric (s : State) : State :=
  { s with fab := { s.fab with stopAt := some (s.fab.stopAt.getD s.now) } }

/-! ### A neighbour lost (R230) -/

/-- The loss of a copper neighbour: its link has left training. -/
def State.copperLost (s : State) (k : Nat) : State :=
  let x := s.cuLink k
  match x.peer with
  | none => s
  | some b =>
    if x.told ∨ s.cuUp k then s
    else (s.setCu k { x with told := true }).logOpen (10 + k) 4 sevInfo (CU.STAT.base + 0x10000 * k) (leBytes 4 b.node) true

/-- The loss of an optical sender: 16 claims in a row without a framed slot. -/
def State.senderLost (s : State) (p j : Nat) : State :=
  let x := s.pair p j
  if x.told ∨ x.dark < 16 then s
  else
    let node := match s.site p j with | some y => y.node | none => 0
    (s.setPair p j { x with told := true }).logOpen (4 + p / 4) 5 sevInfo (OPE.P_ROUTE.base + 0x10000 * (p / 4))
      (leBytes 4 node) true

/-- NEIGHBOUR_LOST: MC0 reports it on the fault notice line: a copper link, or sender index `j` of an optical port. -/
def execNeighbourLost (l : Fin 22) (j : Fin 32) (s : State) : Result :=
  if ¬ s.mainUp then .next s
  else if optical l then .next (s.senderLost l j)
  else .next (s.copperLost (l - 16))

end Sys2Proof.Machine
end

