-- ==== Sys2Proof/Machine/Copper.lean ====
section
/-! DEFINITION. The copper links: training, the spare lane and its handovers, worn lanes (R273-R281). -/
namespace Sys2Proof.Machine
open Sys2Proof

/-! ### States (R273) -/

/-- The states of R273. -/
def cuDown : Nat := 0
def cuDetect : Nat := 1
def cuTrain : Nat := 2
def cuIdent : Nat := 3
def cuAlign : Nat := 4
def cuStUp : Nat := 5
def cuQuar : Nat := 6

/-- A link's state. -/
def State.cuSt (s : State) (k : Nat) : Nat := s.rd (CU.STAT.STATE k)

/-- The link and lane of a running LANE run, or of a PORT_CU run's lane. -/
def CalRun.lane (x : CalRun) : Option (Nat × Nat) :=
  if x.item.kind = 2 then some (x.item.unit / 16, x.item.unit % 16)
  else if x.item.kind = 8 ∧ x.part < 8 then some (x.item.unit, x.part)
  else none

/-- The running electrical unit ABORTED (R257). -/
def State.calAbortCu (s : State) (reason : Nat) : State :=
  match s.fab.cal.cu with
  | none => s
  | some x =>
    let s := { s with fab := { s.fab with cal := { s.fab.cal with cu := none } } }
    (s.wr CAL.STAT.CU_BUSY 0).calAborted x.item reason

/-- Is a LANE run under way on a link? -/
def State.laneRun (s : State) (k : Nat) : Bool :=
  match s.fab.cal.cu with
  | some x => (match x.lane with | some (j, _) => j == k | none => false)
  | none => false

/-- A state entered. A link that leaves UP loses its handover, and a LANE run on it is ABORTED. Log: DEDUCED 71. -/
def State.cuEnter (s : State) (k st : Nat) : State :=
  let was := s.cuSt k
  let x := s.cuLink k
  let s := (s.setCu k { x with entered := s.now, fails := 0, hov := none, loan := none, lost := [] }).wr (CU.STAT.STATE k) st
  let s := s.wr (CU.STAT.HOV k) 15
  let s := if st = cuQuar then s else s.wr (CU.STAT.Q_REASON k) 0
  if was = cuStUp ∧ st ≠ cuStUp then
    let s := ((s.wr (CU.STAT.LANE_LOCK k) 0).raise (CU.EVENT.DOWN k))
    if s.laneRun k then s.calAbortCu 0 else s
  else s

/-- QUARANTINE entered. -/
def State.cuQuarantine (s : State) (k reason : Nat) : State :=
  ((s.cuEnter k cuQuar).wr (CU.STAT.Q_REASON k) reason).raise (CU.EVENT.QUARANTINE k) sevWarning

/-- A link's own rows run: the main domain is up and the fabric is not stopped. -/
def State.cuRuns (s : State) (k : Nat) : Bool := s.fabUp && s.on (CU.CTRL.EN k)

/-- When the present state was entered, and a time after it. -/
def State.cuAfter (s : State) (k ns : Nat) : Nat := (s.cuLink k).entered + Config.ns ns

/-- CU_DOWN_DELAY: 1 ms in DOWN. -/
def execCuDownDelay (k : Fin 6) (s : State) : Result :=
  if ¬ s.cuRuns k ∨ ¬ s.on (CU.CTRL.CABLED k) ∨ s.cuSt k ≠ cuDown then .next s
  else .next ((s.advance (s.cuAfter k 1000000)).cuEnter k cuDetect)

/-- Lanes that a mask names. -/
def lanesIn (m : BitVec 9) : Nat := ((List.range 9).filter fun i => m.getLsbD i).length

/-- CU_SIGNAL_DETECT: the receive lanes with signal. -/
def execCuSignalDetect (k : Fin 6) (lanes : BitVec 9) (s : State) : Result :=
  if ¬ s.cuRuns k ∨ s.cuSt k ≠ cuDetect ∨ lanesIn lanes < 8 then .next s else .next (s.cuEnter k cuTrain)

/-- CU_DETECT_TIMEOUT. -/
def execCuDetectTimeout (k : Fin 6) (s : State) : Result :=
  if ¬ s.cuRuns k ∨ s.cuSt k ≠ cuDetect then .next s
  else .next ((s.advance (s.cuAfter k 100000000)).cuEnter k cuDown)

/-- CU_TRAIN_ADAPTED: the lanes adapted, with eyes within CAL.LIM_LANE. -/
def execCuTrainAdapted (k : Fin 6) (lanes : BitVec 9) (s : State) : Result :=
  if ¬ s.cuRuns k ∨ s.cuSt k ≠ cuTrain ∨ lanesIn lanes < 8 then .next s else .next (s.cuEnter k cuIdent)

/-- CU_TRAIN_TIMEOUT. -/
def execCuTrainTimeout (k : Fin 6) (s : State) : Result :=
  if ¬ s.cuRuns k ∨ s.cuSt k ≠ cuTrain then .next s
  else
    let s := s.advance (s.cuAfter k 150000000)
    if s.rd (CU.STAT.SPARE_FOR k) ≠ 15 then .next (s.cuQuarantine k 5) else .next (s.cuEnter k cuDown)

/-! ### Identity (R274-R277) -/

/-- The peer's block shown. -/
def State.showPeer (s : State) (k : Nat) (b : IdBlock) : State :=
  let s := s.setCu k { s.cuLink k with peer := some b }
  let s := ((s.wr (CU.PEER_ID.NODE k) b.node).wr (CU.PEER_ID.LINK k) b.link).wr (CU.PEER_ID.SPARE_FOR k) b.spare
  let s := ((s.wr (CU.PEER_ID.VER_MINOR k) b.verMinor).wr (CU.PEER_ID.VER_MAJOR k) b.verMajor).wr (CU.PEER_ID.FW k) b.fw
  (s.wr (CU.PEER_ID.DIGEST k) b.digest).wr (CU.PEER_SER.SERIAL k) b.serial

/-- The logical lane on a peer's physical lane, where its spare carries lane `perm` for good (R277); 8 idle, 15 none. -/
def logicalOf (plane perm : Nat) : Nat :=
  if perm < 8 then (if plane = 8 then perm else if plane = perm then 15 else plane) else plane

/-- Receive lanes remapped. -/
def State.remap (s : State) (k perm : Nat) (ls : List LaneId) : State :=
  ls.foldl (fun s x =>
    if 9 ≤ x.rx then s
    else ((s.wr (CU.LANE_STAT.LOGICAL k x.rx) (logicalOf x.plane perm)).wr (CU.LANE_STAT.PEER_LANE k x.rx) x.plane).wrB
      (CU.LANE_STAT.INVERT k x.rx) x.invert)
    ((List.range 9).foldl (fun s i => s.wr (CU.LANE_STAT.LOGICAL k i) 15) s)

/-- Logical lanes that a set of receive lanes carries. -/
def usable (perm : Nat) (ls : List LaneId) : Nat :=
  ((List.range 8).filter fun n => ls.any fun x => decide (x.rx < 9) && logicalOf x.plane perm == n).length

/-- The link that R22 cables to a link: XP and XN, YP and YN, ZP and ZN. Log: DEDUCED 83. -/
def peerLink (k : Nat) : Nat := if k % 2 = 0 then k + 1 else k - 1

/-- The first 16 bytes of the cutting list's digest. -/
def State.ownDigest (s : State) : Nat := s.fab.cut.digest % 2 ^ 128

/-- The checks of R275: a reason, 0 where all pass. Log: DEDUCED 83. -/
def State.identCheck (s : State) (k : Nat) (b : IdBlock) (ls : List LaneId) : Nat :=
  if b.node ≠ s.rd (CU.CTRL.EXPECT k) then 1
  else if b.link ≠ peerLink k then 2
  else if b.digest ≠ s.ownDigest ∧ ¬ s.on (CU.CTRL.DIGEST_LAX k) then 3
  else if b.verMajor ≠ 1 then 4
  else if usable b.spare ls < 8 then 5
  else 0

/-- CU_IDENT_RX: valid identity blocks on the receive lanes `ls`. In QUARANTINE they are read, and a change of identity
ends it. -/
def execCuIdentRx (k : Fin 6) (b : IdBlock) (ls : List LaneId) (s : State) : Result :=
  if ¬ s.cuRuns k then .next s
  else if s.cuSt k = cuQuar then
    if (s.cuLink k).peer = some b then .next s else .next ((s.showPeer k b).cuEnter k cuDown)
  else if s.cuSt k ≠ cuIdent ∨ ls.length < 8 then .next s
  else
    let s := s.showPeer k b
    let r := s.identCheck k b ls
    if r ≠ 0 then .next (s.cuQuarantine k r)
    else
      let s := if b.digest = s.ownDigest then s else s.raise (CU.EVENT.DIGEST k)
      .next ((s.remap k b.spare ls).cuEnter k cuAlign)

/-- CU_IDENT_TIMEOUT. -/
def execCuIdentTimeout (k : Fin 6) (s : State) : Result :=
  if ¬ s.cuRuns k ∨ s.cuSt k ≠ cuIdent then .next s
  else .next ((s.advance (s.cuAfter k 10000000)).cuEnter k cuDown)

/-- CU_ALIGN_DONE: the physical receive lanes in lock; 16 filler slots have been framed. -/
def execCuAlignDone (k : Fin 6) (lock : BitVec 9) (s : State) : Result :=
  let n := ((List.range 8).filter fun n =>
    (List.range 9).any fun i => lock.getLsbD i && s.rd (CU.LANE_STAT.LOGICAL k i) == n).length
  if ¬ s.cuRuns k ∨ s.cuSt k ≠ cuAlign ∨ n < 8 then .next s
  else
    let s := ((s.cuEnter k cuStUp).wr (CU.STAT.LANE_LOCK k) lock.toNat).bump (CU.COUNTS.TRAINS k)
    .next ((s.setCu k { s.cuLink k with told := false, wornRun := [] }).raise (CU.EVENT.UP k))

/-- CU_ALIGN_TIMEOUT. -/
def execCuAlignTimeout (k : Fin 6) (s : State) : Result :=
  if ¬ s.cuRuns k ∨ s.cuSt k ≠ cuAlign then .next s
  else .next ((s.advance (s.cuAfter k 20000000)).cuEnter k cuDown)

/-- CU_FRAMING_LOSS: four slots in a row without a framed slot (R271). -/
def execCuFramingLoss (k : Fin 6) (s : State) : Result :=
  if ¬ s.cuRuns k ∨ ¬ s.cuUp k ∨ (s.cuLink k).fails < 4 then .next s else .next (s.cuEnter k cuDown)

/-- CU_QUARANTINE_EXIT: a block of another identity has arrived, or the receive signal has been absent for 1 ms. -/
def execCuQuarantineExit (k : Fin 6) (b : Option IdBlock) (s : State) : Result :=
  if ¬ s.cuRuns k ∨ s.cuSt k ≠ cuQuar then .next s
  else match b with
    | some b => if (s.cuLink k).peer = some b then .next s else .next ((s.showPeer k b).cuEnter k cuDown)
    | none => .next (s.cuEnter k cuDown)

/-! ### Handovers (R279) -/

/-- Is the spare lane idle? -/
def State.spareIdle (s : State) (k : Nat) : Bool :=
  s.rd (CU.STAT.SPARE_FOR k) == 15 && (s.cuLink k).hov.isNone && (s.cuLink k).loan.isNone

/-- A handover or a return begins. -/
def State.hovStart (s : State) (k : Nat) (h : Handover) : State :=
  (s.setCu k { s.cuLink k with hov := some h }).wr (CU.STAT.HOV k) h.lane

/-- CU_<link>.CMD.SPARE. -/
def State.cuSpare (s : State) (k lane : Nat) (perm : Bool) : State :=
  if 8 ≤ lane ∨ ¬ s.cuUp k ∨ ¬ s.spareIdle k then s.raise (CU.EVENT.CFG_ERR k)
  else s.hovStart k { lane := lane, perm := perm, mine := true }

/-- CU_<link>.CMD.BACK. -/
def State.cuBack (s : State) (k lane : Nat) : State :=
  if s.cuUp k ∧ (s.cuLink k).loan = some lane ∧ (s.cuLink k).hov.isNone then
    s.hovStart k { lane := lane, back := true, mine := true }
  else s.raise (CU.EVENT.CFG_ERR k)

/-- HANDOVER_PEER_COPY: the peer's REQ has been seen in two slots. Of two requests at once, that of the lower node ID
stands; this side's command is then refused. -/
def execHandoverPeerCopy (k : Fin 6) (lane : Fin 8) (back : Bool) (s : State) : Result :=
  if ¬ s.cuRuns k ∨ ¬ s.cuUp k then .next s
  else
    let x := s.cuLink k
    let h : Handover := { lane := lane, back := back }
    match x.hov with
    | none =>
      let ok := if back then decide (x.loan = some lane.val) else s.spareIdle k
      if ok then .next (s.hovStart k h) else .next s
    | some y =>
      if y.mine ∧ ¬ y.moved ∧ s.rd (CU.PEER_ID.NODE k) < s.node then
        .next ((s.raise (CU.EVENT.CFG_ERR k)).hovStart k h)
      else .next s

/-- The receive lane on which the peer's physical lane arrives. -/
def State.rxOf (s : State) (k plane : Nat) : Option Nat :=
  (List.range 9).find? fun i => s.rd (CU.LANE_STAT.PEER_LANE k i) == plane

/-- This side's receiver takes a lane from the spare, or from its own lane again. -/
def State.rxSwitch (s : State) (k : Nat) (h : Handover) : State :=
  let put (s : State) (plane v : Nat) : State :=
    match s.rxOf k plane with
    | some i => s.wr (CU.LANE_STAT.LOGICAL k i) v
    | none => s
  if h.back then put (put s 8 8) h.lane h.lane else put (put s h.lane 15) 8 h.lane

/-- HANDOVER_RX_SWITCH: 64 slots in a row without an uncorrectable codeword; ACK is set. -/
def execHandoverRxSwitch (k : Fin 6) (s : State) : Result :=
  match (s.cuLink k).hov with
  | none => .next s
  | some h =>
    if ¬ s.cuRuns k ∨ ¬ s.cuUp k ∨ h.moved then .next s
    else .next ((s.setCu k { s.cuLink k with hov := some { h with moved := true } }).rxSwitch k h)

/-- HANDOVER_COMPLETE: this side has sent ACK and has received the peer's. -/
def execHandoverComplete (k : Fin 6) (s : State) : Result :=
  match (s.cuLink k).hov with
  | none => .next s
  | some h =>
    if ¬ s.cuRuns k ∨ ¬ s.cuUp k ∨ ¬ h.moved then .next s
    else
      let perm := h.perm && !h.back
      let s := s.setCu k { s.cuLink k with hov := none, loan := if h.back || perm then none else some h.lane }
      let s := (s.wr (CU.STAT.HOV k) 15).bump (CU.COUNTS.HANDOVERS k)
      let s := if perm then s.wr (CU.STAT.SPARE_FOR k) h.lane else s
      .next (s.raise (CU.EVENT.HOV_DONE k))

/-! ### Lanes that fail or wear (R280, R281) -/

/-- LANE_LOCK_LOSS: a logical lane loses lock in UP. -/
def execLaneLockLoss (k : Fin 6) (lane : Fin 8) (s : State) : Result :=
  if ¬ s.cuRuns k ∨ ¬ s.cuUp k then .next s
  else
    let s := s.wr (CU.STAT.LANE_LOCK k)
      (s.rd (CU.STAT.LANE_LOCK k) - bit (bitOf (s.rd (CU.STAT.LANE_LOCK k)) (s.laneOf k lane)) * 2 ^ s.laneOf k lane)
    let s := if s.laneRun k then
        let x := s.cuLink k
        let s := match x.loan, x.hov with
          | some n, _ => s.rxSwitch k { lane := n, back := true }
          | none, some h => if h.moved then s.rxSwitch k { lane := h.lane, back := true } else s
          | none, none => s
        (s.setCu k { s.cuLink k with loan := none, hov := none }).calAbortCu 0
      else s
    if ¬ s.spareIdle k then .next (s.cuEnter k cuDown)
    else
      let x := s.cuLink k
      let h : Handover := { lane := lane, mine := true, moved := true }
      .next (((s.setCu k { x with lost := x.lost ++ [lane.val] }).hovStart k h).rxSwitch k h)

/-- Is a logical lane worn (R281)? Log: DEDUCED 84. -/
def State.laneWorn (s : State) (k lane : Nat) : Bool :=
  let x := s.cuLink k
  decide (16 ≤ Tbl.lookD x.wornRun 0 (s.laneOf k lane)) ||
    decide (3 ≤ Tbl.lookD s.fab.cal.rejects 0 (calKey 2 (16 * k + lane))) || x.lost.contains lane

/-- LANE_WORN: MC0 moves a worn lane onto the spare for good; a second one keeps running and is reported. -/
def execLaneWorn (k : Fin 6) (lane : Fin 8) (s : State) : Result :=
  let i := (s.rxOf k lane).getD lane
  let x := s.cuLink k
  if ¬ s.cuRuns k ∨ ¬ s.cuUp k ∨ ¬ s.laneWorn k lane ∨ s.on (CU.LANE_STAT.WORN k i) then .next s
  else if s.rd (CU.STAT.SPARE_FOR k) ≠ 15 then
    .next (((s.wr (CU.LANE_STAT.WORN k i) 1).patchNote 5 2 k 0).report (CU.EVENT.LANE_WORN k) sevWarning (leBytes 4 lane))
  else
    let take : Option State :=
      if s.spareIdle k then some (s.hovStart k { lane := lane, perm := true, mine := true })
      else if x.loan = some lane.val ∧ x.hov.isNone then
        some ((s.setCu k { x with loan := none }).wr (CU.STAT.SPARE_FOR k) lane)
      else match x.hov with
        | some h => if h.lane = lane ∧ ¬ h.back then some (s.setCu k { x with hov := some { h with perm := true } }) else none
        | none => none
    match take with
    | none => .next s
    | some s => .next (((s.wr (CU.LANE_STAT.WORN k i) 1).patchNote 5 1 k lane).raise (CU.EVENT.LANE_WORN k) sevWarning (leBytes 4 lane))

/-! ### A package that fails (R228) -/

/-- Every port dark and every copper link out of training. -/
def State.goDark (s : State) : State :=
  let s := (s.cutLinks fun _ => true).quietRx fun _ => true
  let s := (List.range 6).foldl (fun s k => if s.cuSt k = cuDown then s else s.cuEnter k cuDown) s
  { s with fab := { s.fab with dark := true, stopAt := none } }

/-- FABRIC_STOP at instant `t`, at most 10 us after the event. -/
def execFabricStop (t : Nat) (s : State) : Result :=
  match s.fab.stopAt with
  | none => .next s
  | some a => .next (s.advance (min t (a + Config.ns 10000))).goDark

end Sys2Proof.Machine
end

