-- ==== Sys2Proof/Machine/Service.lean ====
section
/-! DEFINITION. Transfers that a management core makes to and from device memory: at once where the bytes lie in the
package, line by line where they lie in companion memory (R349, R389). -/
namespace Sys2Proof.Machine
open Sys2Proof

/-! ### Purposes -/

/-- A calibration image saved, and one restored (R261). -/
def mvSave : Nat := 0
def mvRestore : Nat := 1
/-- The event log's dump (R497). -/
def mvDump : Nat := 2
/-- An alteration's image read (R516), and a service result written. -/
def mvAlter : Nat := 3
def mvResult : Nat := 4
/-- A recovery header (R519) and a recovery image read (R521), and image data taken for the chain (R520). -/
def mvHeader : Nat := 5
def mvImage : Nat := 6
def mvChain : Nat := 7
/-- A calendar entry (R399), the service request line (R513). -/
def mvEntry : Nat := 8
def mvPoll : Nat := 9
/-- The program of the job on trigger `j` (R345). -/
def mvProg (j : Nat) : Nat := 16 + j

/-- A transfer. -/
def State.move (s : State) (id : Nat) : Option Move := Tbl.look s.sys.moves id

/-- It, replaced. -/
def State.setMove (s : State) (id : Nat) (x : Move) : State :=
  { s with sys := { s.sys with moves := Tbl.set s.sys.moves id x } }

/-- It, gone. -/
def State.dropMove (s : State) (id : Nat) : State :=
  { s with sys := { s.sys with moves := Tbl.del s.sys.moves id } }

/-- Does an address lie in companion memory? -/
def State.isComp (s : State) (a : Nat) : Bool := s.isLink (.dev a)

/-- The next line of a transfer over the link. -/
def State.moveNext (s : State) (id : Nat) : State :=
  match s.move id with
  | none => s
  | some x =>
    if x.failed ∨ x.len ≤ x.pos then s
    else if !s.linkServes then s.setMove id { x with failed := true }
    else
      let a := x.addr + x.pos - 0x800000000000
      let k := min (x.len - x.pos) (64 - a % 64)
      s.request { write := x.write, addr := a, len := k, who := .service id,
                  data := if x.write then (x.data.drop x.pos).take k else [] }

/-- A transfer begins. -/
def State.moveBegin (s : State) (id : Nat) (x : Move) : State :=
  let s := s.setMove id x
  if s.isComp x.addr then s.moveNext id else s

/-- The answer to a line of a transfer: its bytes, for a read, and whether it succeeded. -/
def State.moveStep (s : State) (id : Nat) (l : List Byte) (ok : Bool) : State :=
  match s.move id with
  | none => s
  | some x =>
    if !ok then s.setMove id { x with failed := true }
    else
      let a := x.addr + x.pos - 0x800000000000
      let k := min (x.len - x.pos) (64 - a % 64)
      let data := if x.write then x.data else x.data ++ (l.drop (a % 64)).take k
      (s.setMove id { x with pos := x.pos + k, data := data }).moveNext id

/-- What has become of a transfer: it goes on; it has failed; it is done, with the bytes read. -/
inductive MoveEnd
  | pending
  | failed
  | done (bytes : List Byte)
  deriving DecidableEq, Repr

/-- A transfer looked at, and ended where it can end. `ups` are the upsets that its reads find. -/
def State.moveEnd (s : State) (id : Nat) (ups : List Upset) : State × MoveEnd :=
  match s.move id with
  | none => (s, .failed)
  | some x =>
    if s.isComp x.addr then
      if x.failed then (s.dropMove id, .failed)
      else if x.len ≤ x.pos then (s.dropMove id, .done x.data)
      else (s, .pending)
    else if x.len = 0 then (s.dropMove id, .done [])
    else if !s.inRegion x.addr x.len then (s.dropMove id, .failed)
    else if s.placeHeld x.write (.dev x.addr) x.len ≠ [] then (s.placeSnoop x.write (.dev x.addr) x.len, .pending)
    else if x.write then
      let r := s.devWrite .ftdEngine .free x.addr x.data
      (r.1.dropMove id, if r.2 then .done [] else .failed)
    else
      let r := s.devRead .ftdEngine x.addr x.len ups
      match r.2 with
      | some l => (r.1.dropMove id, .done l)
      | none => (r.1.dropMove id, .failed)

end Sys2Proof.Machine
end

