-- ==== Sys2Proof/Machine/Calib.lean ====
section
/-! DEFINITION. Calibration: triggers, the two sequencers, runs and their acceptance, the stored image (R238-R262). -/
namespace Sys2Proof.Machine
open Sys2Proof

/-! ### Kinds and units (R238) -/

/-- Is a unit in range of its kind? -/
def calValid (kind unit : Nat) : Bool :=
  match kind with
  | 1 => decide (unit < 176)
  | 2 => decide (unit / 16 < 6) && decide (unit % 16 < 8)
  | 3 => unit == 0
  | 4 => decide (unit < 22)
  | 5 => decide (unit < 2)
  | 6 => decide (unit < 16)
  | 7 => decide (unit < 4)
  | 8 => decide (unit < 6)
  | _ => false

/-- Does the electrical sequencer run a unit (R242)? -/
def calElectric (u : CalUnit) : Bool :=
  u.kind == 2 || u.kind == 8 || u.kind == 3 || u.kind == 5 || (u.kind == 4 && decide (16 ≤ u.unit))

/-- Calibration's record, replaced. -/
def State.setCal (s : State) (c : Calib) : State := { s with fab := { s.fab with cal := c } }

/-- A sequencer's running unit. -/
def State.calRun (s : State) (cu : Bool) : Option CalRun := if cu then s.fab.cal.cu else s.fab.cal.opt

/-- It, replaced. -/
def State.setRun (s : State) (cu : Bool) (x : Option CalRun) : State :=
  let s := s.setCal (if cu then { s.fab.cal with cu := x } else { s.fab.cal with opt := x })
  s.wrB (if cu then CAL.STAT.CU_BUSY else CAL.STAT.OPT_BUSY) x.isSome

/-! ### Triggers (R239, R240) -/

/-- An engine's temperature change since its last accepted ENGINE run, in 0.1 degrees (R240). -/
def State.engineDelta (s : State) (e : Nat) : Int :=
  (s.cm e - Tbl.lookD s.fab.cal.cmAt 0 e) * 10 / ((s.rd CAL.CM_PER_C.UW * uW : Nat) : Int)

/-- CAL_TEMP_TRIGGER: an engine's change of CM, or a copper link's temperature `temp` in 0.1 degrees, judged. -/
def execCalTempTrigger (copper : Bool) (u : Fin 6) (temp : Int) (s : State) : Result :=
  if ¬ s.fabUp then .next s
  else if copper then
    let s := s.showInt (CAL.CU_T.NOW u) temp
    let d := (s.rdI (CAL.CU_T.NOW u) - s.rdI (CAL.CU_T.AT_RUN u)).natAbs
    if ¬ s.on CAL.CTRL.TEMP_EN ∨ d ≤ s.rd CAL.TRIG_CFG.CU_DT then .next s
    else
      let s := s.calQueue ⟨8, u, .temperature, 0⟩
      if s.fab.cal.tdcDue then
        .next ((s.setCal { s.fab.cal with tdcDue := false }).calQueue ⟨3, 0, .temperature, 0⟩)
      else .next s
  else if 4 ≤ u.val ∨ ¬ s.on CAL.CTRL.TEMP_EN ∨ (s.engineDelta u).natAbs ≤ s.rd CAL.TRIG_CFG.ENG_DT then .next s
  else .next (s.calQueue ⟨7, u, .temperature, 0⟩)

/-- CAL_INTERVAL_TRIGGER at instant `t`. Log: DEDUCED 81. -/
def execCalIntervalTrigger (kind : BitVec 4) (unit : BitVec 12) (t : Nat) (s : State) : Result :=
  let k := kind.toNat
  let u := unit.toNat
  let last := Tbl.lookD s.fab.cal.lastAt 0 (calKey k u)
  if ¬ s.fabUp ∨ ¬ s.on CAL.CTRL.INT_EN ∨ k < 3 ∨ calValid k u = false ∨
      max s.now t < last + Config.ns (1000000000 * s.rd CAL.INTERVAL.SECONDS) then .next s
  else .next ((s.advance t).calQueue ⟨k, u, .interval, 0⟩)

/-- CAL.CMD.RUN. -/
def State.calCommand (s : State) (k u : Nat) : State :=
  if calValid k u then s.calQueue ⟨k, u, .command, 0⟩ else s.raise CAL.EVENT.CFG_ERR

/-! ### Starting (R242-R244, R247) -/

/-- Is the stand-in of a loop's RING run free? -/
def State.ringFree (s : State) (l : Nat) : Bool :=
  match ringOf l with
  | none => true
  | some (p, r) =>
    if r = 8 then s.bFor p == 15
    else if (s.ringTarget l).isNone then true
    else s.bFor p == 15 && s.ringSt (loopOf p 8) == rgParked

/-- Is a unit's stand-in free? -/
def State.unitFree (s : State) (u : CalUnit) : Bool :=
  match u.kind with
  | 1 => s.ringFree u.unit
  | 7 => (engineLoops u.unit).all s.ringFree
  | 2 => s.cuUp (u.unit / 16) && s.spareIdle (u.unit / 16)
  | 8 => s.cuUp u.unit && s.spareIdle u.unit
  | _ => true

/-- Can a unit never have its stand-in: a lane of a link whose spare is in permanent use? -/
def State.unitShut (s : State) (u : CalUnit) : Bool :=
  if u.kind = 2 then s.rd (CU.STAT.SPARE_FOR (u.unit / 16)) != 15
  else if u.kind = 8 then s.rd (CU.STAT.SPARE_FOR u.unit) != 15
  else false

/-- The part of a running unit that is next begins, if its stand-in is free. -/
def State.partBegin (s : State) (cu : Bool) (x : CalRun) : State :=
  let go := some { x with begun := true, held := false, locking := none, old := none }
  match x.lane, x.loop with
  | some (k, n), _ =>
    if s.cuUp k ∧ s.spareIdle k then (s.setRun cu go).hovStart k { lane := n, mine := true } else s.setRun cu (some x)
  | none, some l =>
    if ¬ s.ringFree l then s.setRun cu (some x)
    else
      let s := s.setRun cu go
      match ringOf l with
      | none => s
      | some (p, r) =>
        match s.ringTarget l, s.indexOf p r with
        | some _, some n => s.setBFor p n
        | _, _ => s
  | none, none => s.setRun cu go

/-- A queued unit dropped. -/
def State.unitSkipped (s : State) (u : CalUnit) : State :=
  ((s.bump CAL.COUNTS.SKIPPED).calOutcome u 4 15).raise CAL.EVENT.SKIPPED

/-- CAL_UNIT_START of the optical or the electrical sequencer: its next unit starts, or is deferred. -/
def execCalUnitStart (cu : Bool) (s : State) : Result :=
  let en := if cu then s.on CAL.CTRL.CU_EN else s.on CAL.CTRL.OPT_EN
  if ¬ s.fabUp ∨ s.unsafeBlock 9 ∨ (cu = false ∧ s.rcState = rcRunning) then .next s
  else
    match s.calRun cu with
    | some x => if x.begun then .next s else .next (s.partBegin cu x)
    | none =>
      match s.fab.cal.queue.find? fun u => calElectric u == cu with
      | none => .next s
      | some u =>
        if en = false then .next s
        else if s.on CAL.STAT.PAUSED then .next ((s.bump HLT.MC_SHED.D_DEFERRED).count ctrFtd 0x070 3)
        else
          let rest := s.fab.cal.queue.filter (· != u)
          if s.unitShut u then .next ((s.setQueue' rest).unitSkipped u)
          else if s.unitFree u then
            let s := s.setQueue' rest
            let s := s.wr (if cu then CAL.STAT.CU_UNIT else CAL.STAT.OPT_UNIT) u.unit
            .next (s.partBegin cu { item := u })
          else if 64 ≤ u.defer + 1 then .next ((s.setQueue' rest).unitSkipped u)
          else .next ((s.setQueue' rest).calQueue { u with defer := u.defer + 1 })

/-! ### A ring's results (R245, R246, R251) -/

/-- What an accepted RING run gives: the values of R238, and the crosstalk column by row in Q1.15. -/
structure RingVals where
  eta   : Nat
  park  : Nat
  peak  : Nat
  phi   : Nat
  rh    : Nat
  dark  : Nat
  slope : Int
  gOn   : Int
  gOff  : Int
  pcal  : List Nat          -- by colour; empty for a spare loop
  col   : List (Nat × Int)
  deriving DecidableEq, Repr

/-- The values as a record holds them. -/
def RingVals.toList (v : RingVals) : List Int :=
  ([(v.eta : Int), (v.park : Int), (v.peak : Int), (v.phi : Int), (v.rh : Int), (v.dark : Int), v.slope, v.gOn, v.gOff,
    (v.pcal.length : Int)] : List Int) ++
    v.pcal.map (fun (x : Nat) => (x : Int)) ++ v.col.flatMap fun x => [(x.1 : Int), x.2]

/-- Pairs of a list. -/
def pairsOf : List Int → List (Nat × Int)
  | a :: b :: r => (a.toNat, b) :: pairsOf r
  | _ => []

/-- The values that a record holds. -/
def RingVals.ofList (l : List Int) : RingVals :=
  let n := (l.getD 9 0).toNat
  { eta := (l.getD 0 0).toNat, park := (l.getD 1 0).toNat, peak := (l.getD 2 0).toNat, phi := (l.getD 3 0).toNat,
    rh := (l.getD 4 0).toNat, dark := (l.getD 5 0).toNat, slope := l.getD 6 0, gOn := l.getD 7 0, gOff := l.getD 8 0,
    pcal := ((l.drop 10).take n).map Int.toNat, col := pairsOf (l.drop (10 + n)) }

/-- eta in 0.01 MHz per uW: 100,000 MHz over the least-squares spacing of the recorded peaks. Log: DEDUCED 79. -/
def etaOf (peaks : List PeakMeas) : Nat :=
  let num := ((peaks.zipIdx).map fun x => (2 * (x.2 : Int) - 31) * x.1.demand).sum
  if num ≤ 0 then 0 else 10000000 * uW * 5456 / num.toNat

/-- The values of a RING run on a loop. A ring without a target keeps its gains and its phase (R244).
Log: DEDUCED 79. -/
def State.ringVals (s : State) (l : Nat) (peaks : List PeakMeas) (dark rh : Nat) (slope gOn gOff : Int) (peak phi : Nat)
    (column : List (Nat × Int)) : RingVals :=
  let e := l / 44
  let c := (s.loop l).cal
  let eta := etaOf peaks
  let aimed := (s.ringTarget l).isSome
  let step : Int := ((s.rd CAL.XT_CFG.STEP * uW : Nat) : Int)
  { eta := eta, park := (s.parkValue l - s.cm e).toNat, peak := peak, rh := rh, dark := dark,
    phi := if aimed then phi else s.rd (JIG.L_DITH.PHI l), slope := slope,
    gOn := if aimed then gOn else c.gOn, gOff := if aimed then gOff else c.gOff,
    pcal := (peaks.reverse).map fun x => (x.demand - x.cm + x.trk * 102400 / (eta : Int)).toNat,
    col := column.map fun x => (x.1, s.rdI (JIG.CMAT_DATA.ACTIVE (cmatIdx e x.1 (l % 44))) + x.2 * 32768 / step) }

/-- Do peak demands fall from colour to colour with each spacing within 25 % of 100,000 MHz over eta? -/
def peaksOk (eta : Nat) : List Nat → Bool
  | a :: b :: r =>
    decide (b < a) && decide (3 * (10000000 * uW) ≤ 4 * ((a - b) * eta)) && decide (4 * ((a - b) * eta) ≤ 5 * (10000000 * uW)) &&
      peaksOk eta (b :: r)
  | _ => true

/-- The first failing REASON of a RING run, 0 where all pass. A spare loop runs steps 3 and 4 only. -/
def State.ringReason (s : State) (l : Nat) (v : RingVals) : Nat :=
  let old := (s.loop l).cal
  let spare := (ringOf l).isNone
  let drift := old.pcal != [] &&
    decide (s.rd CAL.LIM_RING.ETA_DRIFT * old.eta < 100 * ((v.eta : Int) - old.eta).natAbs)
  if !spare && (decide (v.eta < 100 * s.rd CAL.LIM_RING.ETA_MIN) || decide (100 * s.rd CAL.LIM_RING.ETA_MAX < v.eta) || drift) then 1
  else if !spare && (v.pcal.length != 32 || !peaksOk v.eta v.pcal || decide (s.rd JIG.SWEEP_CFG.PMAX * uW < v.pcal.getD 0 0)) then 2
  else if 10 * s.rd CAL.LIM_RING.DARK_MAX < v.dark then 3
  else if v.rh < 15000 ∨ 30000 < v.rh then 4
  else if v.col.any fun x =>
      decide (s.rd CAL.LIM_XT.STEP_MAX < (x.2 - s.rdI (JIG.CMAT_DATA.ACTIVE (cmatIdx (l / 44) x.1 (l % 44)))).natAbs) ||
      decide (s.rd CAL.LIM_XT.ABS_MAX < x.2.natAbs) then 5
  else 0

/-- A column written into the shadow bank, after the active bank has been copied into it, and committed (R246). -/
def State.putColumn (s : State) (l : Nat) (col : List (Nat × Int)) : State :=
  if col = [] then s
  else
    let e := l / 44
    let waits := bitOf s.fab.jig.cmat e
    let s := if waits then s else s.cmatCopy e
    let s := col.foldl (fun s x => s.wrI (JIG.CMAT_DATA.SHADOW (cmatIdx e x.1 (l % 44))) x.2) s
    s.setJig { s.fab.jig with cmat := s.fab.jig.cmat ||| 2 ^ e }

/-- A ring's values applied (R254). -/
def State.applyRing (s : State) (l : Nat) (v : RingVals) : State :=
  let x := s.loop l
  let t : Tbl Nat := (v.pcal.zipIdx).map fun a => (a.2, a.1)
  let c : LoopCal := { pcal := t, eta := v.eta, park := v.park, slope := v.slope, gOn := v.gOn, gOff := v.gOff, peak := v.peak }
  let s := if v.pcal = [] then s else (s.setLoop l { x with cal := c }).wr (JIG.L_DITH.PHI l) v.phi
  let s := s.wr (ED.DAC_RH.RH (l / 88) (edChannel false (l / 44) (l % 44))) v.rh
  (s.putColumn l v.col).showCal l

/-- The port's B released at the second boundary after its covered ring locks, as step 7 of R244 has it. -/
def State.releaseAfter (s : State) (l : Nat) : State :=
  match ringOf l with
  | none => s
  | some (p, _) =>
    let j := s.fab.jig
    if s.bFor p = 15 ∨ j.takeovers.contains p then s else s.setJig { j with takeovers := j.takeovers ++ [p] }

/-- A calibrated ring sent to its target. -/
def State.jumpBack (s : State) (l : Nat) (c : RingCmd) : State :=
  let s := s.releaseAfter l
  if (s.ringTarget l).isSome then s.setLoop l { s.loop l with cmd := some c } else s

/-! ### Acceptance (R251-R256) -/

/-- The quality figures of a unit. -/
def State.quality (s : State) (i : Nat) (a b c d : Int) : State :=
  let put (s : State) (f : Field) (v : Int) : State := if v < 0 then s.showInt f v else s.showNum f v
  put (put (put (put s (CAL.Q.Q_HI i) a) (CAL.Q.Q_LO i) b) (CAL.Q2.Q2_HI i) c) (CAL.Q2.Q2_LO i) d

/-- A run accepted: its values kept, counted, the unit's history begun again. -/
def State.runAccepted (s : State) (u : CalUnit) (vals : List Int) : State :=
  let i := calKey u.kind u.unit
  let c := s.fab.cal
  let s := s.setCal { c with lastAt := Tbl.set c.lastAt i s.now, rejects := Tbl.del c.rejects i,
                             values := if vals = [] then c.values else Tbl.set c.values i vals }
  let s := (((s.bump CAL.COUNTS.ACCEPTED).count ctrFtd 0x071 0).calOutcome u 1 0).raise CAL.EVENT.DONE
  if vals = [] then s else s.wr CAL.STORE_STAT.DIRTY 1

/-- A W ring marked for replacement (R213). -/
def State.markRing (s : State) (l : Nat) : State :=
  match ringOf l with
  | none => s
  | some (p, r) =>
    let x := s.fab.recable
    if 8 ≤ r ∨ x.marked.contains (8 * p + r) then s
    else { s with fab := { s.fab with recable := { x with marked := x.marked ++ [8 * p + r] } } }

/-- A run rejected as a whole; the third time in a row its unit is worn (R252). -/
def State.runRejected (s : State) (u : CalUnit) (reason : Nat) : State :=
  let i := calKey u.kind u.unit
  let n := Tbl.lookD s.fab.cal.rejects 0 i + 1
  let s := s.setCal { s.fab.cal with rejects := Tbl.set s.fab.cal.rejects i n }
  let s := (s.bump CAL.COUNTS.REJECTED).calOutcome u 2 reason
  let s := if reason = 8 then s.report CAL.EVENT.REJECTED sevWarning (leBytes 4 i)
    else s.raise CAL.EVENT.REJECTED sevWarning (leBytes 4 i)
  if u.kind = 1 ∧ 3 ≤ n then s.markRing u.unit else s

/-- The unit that a part of a run is. -/
def CalRun.partUnit (x : CalRun) : CalUnit :=
  match x.lane, x.loop with
  | some (k, n), _ => { x.item with kind := 2, unit := 16 * k + n }
  | none, some l => { x.item with kind := 1, unit := l }
  | none, none => if x.item.kind = 8 then { x.item with kind := 4, unit := 16 + x.item.unit } else x.item

/-- How many parts a unit has. -/
def CalUnit.parts (u : CalUnit) : Nat := if u.kind = 7 then 45 else if u.kind = 8 then 9 else 1

/-- A composite unit has ended. -/
def State.compositeEnd (s : State) (x : CalRun) : State :=
  let u := x.item
  if x.bad ≠ 0 then s.runRejected u x.bad
  else
    let s := s.runAccepted u []
    if u.kind = 7 then s.setCal { s.fab.cal with cmAt := Tbl.put s.fab.cal.cmAt 0 u.unit (s.cm u.unit) }
    else s.wr (CAL.CU_T.AT_RUN u.unit) (s.rd (CAL.CU_T.NOW u.unit))

/-- A part has ended with a REASON, 0 accepted: the next part, or the unit's end. -/
def State.partEnd (s : State) (cu : Bool) (x : CalRun) (reason : Nat) : State :=
  let x := { x with bad := if x.bad = 0 then reason else x.bad }
  let n := x.part + 1
  if n < x.item.parts then
    s.partBegin cu { x with part := n, begun := false, locking := none, old := none, held := false }
  else
    let s := s.setRun cu none
    if 1 < x.item.parts then s.compositeEnd x else s

/-- The results of a RING run, step 6 of R244. -/
def State.ringDone (s : State) (x : CalRun) (l : Nat) (v : RingVals) : State :=
  let u := x.partUnit
  let i := calKey 1 l
  let s := s.quality i 0 v.dark v.eta v.rh
  let reason := s.ringReason l v
  let low := (ringOf l).isSome && decide (100 * v.eta < 70 * Config.patchEta l)
  let s := if low || reason == 4 then s.markRing l else s
  if reason ≠ 0 then (((s.runRejected u reason).jumpBack l .jump).partEnd false x reason)
  else if low then (((s.runAccepted u []).jumpBack l .jump).partEnd false x 0)
  else
    let e := l / 44
    let old := (s.loop l).cal
    let rh := s.rd (ED.DAC_RH.RH (l / 88) (edChannel false e (l % 44)))
    let phi := s.rd (JIG.L_DITH.PHI l)
    let col := v.col.map fun y => (y.1, s.rd (JIG.CMAT_DATA.ACTIVE (cmatIdx e y.1 (l % 44))))
    let s := s.applyRing l v
    if (s.ringTarget l).isSome ∧ (ringOf l).isSome then
      let s := s.setCal { s.fab.cal with values := Tbl.set s.fab.cal.values i v.toList }
      (s.jumpBack l .jump).setRun false
        (some { x with locking := some s.now, old := some old, oldRh := rh, oldPhi := phi, oldCol := col })
    else ((s.runAccepted u v.toList).partEnd false x 0)

/-- The stored value of a unit, at a place of its record. -/
def State.stored (s : State) (kind unit k : Nat) : Option Int :=
  (Tbl.look s.fab.cal.values (calKey kind unit)).bind fun l => l[k]?

/-- A quantity within a limit of its stored value, where it has one. -/
def nearOld (old : Option Int) (v : Int) (lim : Nat) : Bool :=
  match old with
  | some o => decide ((v - o).natAbs ≤ lim)
  | none => true

/-- A change against the stored value; without one, what is shown is not stated: a free value. -/
def State.change (s : State) (old : Option Int) (v : Int) : Int × State :=
  match old with
  | some o => (v - o, s)
  | none => let d := s.draw CAL.Q2.base; (anyInt d.1, d.2)

/-- The results of a LANE run: the lane's return begins whatever they are. -/
def State.laneDone (s : State) (x : CalRun) (k n w h : Nat) (tx rx : Int) (trims : List Int) : State :=
  let u := x.partUnit
  let i := calKey 2 u.unit
  let a := s.stored 2 u.unit 0
  let b := s.stored 2 u.unit 1
  let ct := s.change a tx
  let cr := ct.2.change b rx
  let s := cr.2.quality i w h ct.1 cr.1
  let lim := s.rd CAL.LIM_TIME.LAT_MAX
  let reason :=
    if w < s.rd CAL.LIM_LANE.EYE_W_MIN ∨ h < s.rd CAL.LIM_LANE.EYE_H_MIN then 6
    else if !nearOld a tx lim || !nearOld b rx lim then 7 else 0
  let s := s.cuBack k n
  let s := if reason = 0 then s.runAccepted u ([tx, rx] ++ trims) else s.runRejected u reason
  s.partEnd true x reason

/-- The power references of a port set at its first accepted LINK run since the cutting list changed (R255). -/
def State.setRefs (s : State) (p : Nat) : State :=
  let f := s.fab
  if f.cal.refs.contains p then s
  else
    let tap := Tbl.lookD f.tapRef 0 p + s.rdI (OPE.P_POWER.TX_TAP p)
    let rx := Tbl.lookD f.rxRef 0 p + s.rdI (OPE.P_POWER.RX_AVG p)
    { s with fab := { f with tapRef := Tbl.put f.tapRef 0 p tap, rxRef := Tbl.put f.rxRef 0 p rx,
                             cal := { f.cal with refs := f.cal.refs ++ [p] } } }

/-- The results of a LINK run. -/
def State.linkDone (s : State) (cu : Bool) (x : CalRun) (tx rx : Int) (rms : Nat) (ft asym : Int) (pairs : Nat) : State :=
  let u := x.partUnit
  let s := s.quality (calKey 4 u.unit) rms ft asym pairs
  let opt := decide (u.unit < 16)
  let lim := s.rd CAL.LIM_TIME.LAT_MAX
  let far := 10 * (if opt then s.rd CAL.LIM_TIME.FT_OPT else s.rd CAL.LIM_TIME.FT_CU)
  let reason :=
    if opt && (!nearOld (s.stored 4 u.unit 0) tx lim || !nearOld (s.stored 4 u.unit 1) rx lim) then 7
    else if far < ft.natAbs then 8 else 0
  let s := if reason = 0 then
      let s := s.runAccepted u [tx, rx, ft, asym]
      if opt then s.setRefs u.unit else s
    else s.runRejected u reason
  s.partEnd cu x reason

/-- A frame of a REFDLY run (R249): left out where a requirement fails. -/
def State.refFrame (s : State) (f : Nat) : State :=
  match s.fab.cal.cu with
  | none => s
  | some x =>
    if x.item.kind ≠ 5 ∨ 1024 ≤ x.seen then s
    else
      let d := domOf x.item.unit
      let fit := s.gState == gLocked && s.rdI GAUGE.CORR.C == 0 && s.valid d && decide (2 ≤ s.gauge.links)
      match s.domResidual d (f - 1), s.gauge.theta with
      | some e, some th =>
        if fit then s.setRun true (some { x with seen := x.seen + 1, used := x.used + 1, sum := x.sum + (e : Rat) + th })
        else s.setRun true (some { x with seen := x.seen + 1 })
      | _, _ => s.setRun true (some { x with seen := x.seen + 1 })

/-- A domain's delay register. -/
def delayField (d : Nat) : Field := if d = 0 then GAUGE.DELAY_A.DELAY else GAUGE.DELAY_B.DELAY

/-- The end of a REFDLY run. -/
def State.refDone (s : State) (x : CalRun) : State :=
  if x.seen < 1024 then s
  else if x.used < 512 then s.calAbortCu 0
  else
    let u := x.item
    let half := (x.sum / (2 * (x.used : Rat))).floor
    let tenth := (x.sum / (x.used : Rat) * 10000 / 65536).floor
    let s := s.quality (calKey 5 u.unit) tenth x.used 0 0
    if 10 * s.rd CAL.LIM_TIME.REF_MAX < (half.natAbs * 1000 + 65535) / 65536 then
      (s.runRejected u 9).partEnd true x 9
    else
      let v := ((s.rd (delayField u.unit) : Int) + half).toNat
      ((s.wr (delayField u.unit) v).runAccepted u [v]).partEnd true x 0

/-- The valid entries of a port's phase cache: index, phase, gain. -/
def State.cacheVals (s : State) (p : Nat) : List Int :=
  ((List.range 32).filter fun j => s.on (OPE.P_PC.VALID p j)).flatMap fun (j : Nat) =>
    ([Int.ofNat j, Int.ofNat (s.rd (OPE.P_PC.PHASE p j)), Int.ofNat (s.rd (OPE.P_PC.GAIN p j))] : List Int)

/-- CAL_RUN_COMPLETE of the optical or the electrical sequencer: what the part under way measured. A ring's part ends when
it is LOCKED again. -/
def execCalRunComplete (cu : Bool) (r : CalResult) (s : State) : Result :=
  match s.calRun cu with
  | none => .next s
  | some x =>
    if ¬ s.fabUp ∨ ¬ x.begun then .next s
    else
      match r with
      | .ring peaks dark rh slope gOn gOff peak phi column =>
        (match x.loop with
          | none => .next s
          | some l =>
            let v := s.ringVals l peaks dark rh slope gOn gOff peak phi column
            if x.locking.isSome ∨ (¬ x.held ∧ (s.ringTarget l).isSome) then .next s
            else if (ringOf l).isNone then .next (s.ringDone x l { v with pcal := [] })
            else .next (s.ringDone x l v))
      | .locked resid =>
        (match x.loop, x.locking with
          | some l, some _ =>
            if s.ringSt l ≠ rgLocked then .next s
            else
              let s := s.showNum (CAL.Q.Q_HI (calKey 1 l)) resid
              let vals := (Tbl.look s.fab.cal.values (calKey 1 l)).getD []
              .next ((s.runAccepted x.partUnit vals).partEnd cu x 0)
          | _, _ => .next s)
      | .lane w h tx rx trims =>
        (match x.lane with
          | some (k, n) => if (s.cuLink k).loan = some n then .next (s.laneDone x k n w h tx rx trims) else .next s
          | none => .next s)
      | .tdc big small table =>
        if x.item.kind ≠ 3 then .next s
        else
          let s := s.quality (calKey 3 0) big small 0 0
          if small < 50 ∨ 150 < big then .next ((s.runRejected x.item 10).partEnd cu x 10)
          else
            let s := s.setCal { s.fab.cal with tdcDue := true }
            .next ((s.runAccepted x.item ([(big : Int), (small : Int)] ++ table)).partEnd cu x 0)
      | .link tx rx rms ft asym pairs =>
        if x.partUnit.kind = 4 then .next (s.linkDone cu x tx rx rms ft asym pairs) else .next s
      | .offsets values =>
        if x.item.kind = 7 ∧ x.part = 44 then
          let s := s.setCal { s.fab.cal with values := Tbl.set s.fab.cal.values (calKey 7 x.item.unit) values }
          .next ((s.wr CAL.STORE_STAT.DIRTY 1).partEnd cu x 0)
        else .next s
      | .done =>
        if x.item.kind = 5 then .next (s.refDone x)
        else if x.item.kind = 6 then
          .next ((s.runAccepted x.item (s.cacheVals x.item.unit)).partEnd cu x 0)
        else .next s

/-- CAL_LOCK_TIMEOUT: 5 ms after its jump the calibrated ring is not LOCKED. The old values are restored and the ring
jumps again (R252). -/
def execCalLockTimeout (s : State) : Result :=
  match s.fab.cal.opt with
  | none => .next s
  | some x =>
    match x.loop, x.locking, x.old with
    | some l, some t, some c =>
      if ¬ s.fabUp ∨ s.ringSt l = rgLocked then .next s
      else
        let s := (s.advance (t + Config.ns 5000000)).setLoop l { s.loop l with cal := c }
        let s := (s.wr (ED.DAC_RH.RH (l / 88) (edChannel false (l / 44) (l % 44))) x.oldRh).wr (JIG.L_DITH.PHI l) x.oldPhi
        let s := (s.putColumn l (x.oldCol.map fun y => (y.1, signedOf 16 y.2))).showCal l
        let s := s.setCal { s.fab.cal with values := Tbl.del s.fab.cal.values (calKey 1 l) }
        let s := (s.runRejected x.partUnit 11).jumpBack l .relock
        .next (s.partEnd false x 11)
    | _, _, _ => .next s

/-- CAL_ABORT: both running units are ABORTED (R257). A lane on the spare for the run returns. -/
def State.calAbort (s : State) : State :=
  let s := s.calAbortOpt 0
  match s.fab.cal.cu with
  | none => s
  | some x =>
    let s := s.calAbortCu 0
    match x.lane with
    | none => s
    | some (k, n) =>
      let y := s.cuLink k
      if y.loan = some n ∧ y.hov.isNone then s.cuBack k n
      else match y.hov with
        | some h => if h.moved then s.hovStart k { h with back := true, moved := false }
                    else (s.setCu k { y with hov := none }).wr (CU.STAT.HOV k) 15
        | none => s

/-! ### The image (R258-R262) -/

/-- Is calibration volatile? -/
def State.calVolatile (s : State) : Bool := s.on CAL.CTRL.MODE

/-- The address of the volatile image. -/
def State.imgAddr (s : State) : Nat := s.rd CAL.IMG_ADDR_LO.ADDR + 2 ^ 32 * s.rd CAL.IMG_ADDR_HI.ADDR

/-- Bytes 0-3 of the cutting list's digest. -/
def State.digest32 (s : State) : Nat := s.fab.cut.digest % 2 ^ 32

/-- One record's bytes. -/
def recordBytes (i : Nat) (vals : List Int) : List Byte :=
  let d := Config.calData (i / 4096) vals
  leBytes 1 (i / 4096) ++ leBytes 1 0 ++ leBytes 2 (i % 4096) ++ leBytes 4 d.length ++ padTo ((d.length + 7) / 8 * 8) d

/-- An image's bytes. Log: DESIGN CHOICE 74. -/
def State.imageBytes (s : State) (x : CalImage) : List Byte :=
  let recs := x.recs.flatMap fun r => recordBytes r.1 r.2
  let body := leBytes 4 0x53434A46 ++ leBytes 2 1 ++ leBytes 2 x.recs.length ++ leBytes 4 x.gen ++
    leBytes 4 (44 + recs.length) ++ leBytes 16 (s.rd GLB.SERIAL.SERIAL) ++ leBytes 4 x.digest ++ leBytes 4 0 ++ recs
  body ++ leBytes 4 (crc32 body)

/-- Which copy a save writes: that with the lower GEN. -/
def Calib.writesCopy1 (c : Calib) : Bool :=
  match c.copy0, c.copy1 with
  | none, _ => false
  | some _, none => true
  | some a, some b => decide (b.gen < a.gen)

/-- A save begins. In volatile mode an address of zero suppresses it. Log: DEDUCED 80. -/
def State.calSave (s : State) : State :=
  let c := s.fab.cal
  if c.saving.isSome ∨ (s.calVolatile ∧ s.imgAddr = 0) then s
  else
    let x : CalImage := { gen := (c.gen + 1) % 2 ^ 32, digest := s.digest32, recs := c.values }
    let c := { c with saving := some x, saveAt := some s.now }
    if s.calVolatile then
      let l := s.imageBytes x
      (s.setCal c).moveBegin mvSave { write := true, addr := s.imgAddr, len := l.length, data := l }
    else if c.writesCopy1 then (s.setCal { c with copy1 := none }).wr CAL.STORE_STAT.COPY1_OK 0
    else (s.setCal { c with copy0 := none }).wr CAL.STORE_STAT.COPY0_OK 0

/-- CAL_AUTO_SAVE at instant `t`: a sequencer's queue is empty, results are unsaved, and 60 s have passed. -/
def execCalAutoSave (t : Nat) (s : State) : Result :=
  let idle := fun (cu : Bool) => (s.calRun cu).isNone && s.fab.cal.queue.all fun u => calElectric u != cu
  let due := match s.fab.cal.saveAt with | some a => decide (a + Config.ns 60000000000 ≤ max s.now t) | none => true
  if ¬ s.mainUp ∨ ¬ s.on CAL.STORE_STAT.DIRTY ∨ due = false ∨ (idle true = false ∧ idle false = false) then .next s
  else .next (s.advance t).calSave

/-- A save is done. Log: DEDUCED 80. -/
def State.saveDone (s : State) (x : CalImage) : State :=
  let c := s.fab.cal
  let s := s.setCal { c with saving := none, gen := x.gen, image := some x }
  let s := (s.wr CAL.STORE_STAT.GEN x.gen).wrB CAL.STORE_STAT.DIRTY (decide (c.values ≠ x.recs))
  s.raise CAL.EVENT.SAVED

/-- CAL_SAVE_COMPLETE: `good` is the read-back of an NVM save. -/
def execCalSaveComplete (good : Bool) (s : State) : Result :=
  match s.fab.cal.saving with
  | none => .next s
  | some x =>
    if s.calVolatile then
      match s.moveEnd mvSave [] with
      | (s, .pending) => .next s
      | (s, .failed) => .next ((s.setCal { s.fab.cal with saving := none }).raise CAL.EVENT.STORE_ERR)
      | (s, .done _) => .next ((s.saveDone x).compose 1 (leBytes 4 x.gen))
    else if good then
      let one := s.fab.cal.copy0.isSome && s.fab.cal.copy1.isNone
      let s := if one then (s.setCal { s.fab.cal with copy1 := some x }).wr CAL.STORE_STAT.COPY1_OK 1
        else (s.setCal { s.fab.cal with copy0 := some x }).wr CAL.STORE_STAT.COPY0_OK 1
      .next (s.saveDone x)
    else .next ((s.setCal { s.fab.cal with saving := none }).raise CAL.EVENT.STORE_ERR)

/-- One record of an image applied (R254). Log: DESIGN CHOICE 74. -/
def State.applyRecord (s : State) (i : Nat) (vals : List Int) : State :=
  let kind := i / 4096
  let unit := i % 4096
  let s := s.setCal { s.fab.cal with values := Tbl.set s.fab.cal.values i vals }
  if kind = 1 ∧ unit < 176 then s.applyRing unit (RingVals.ofList vals)
  else if kind = 5 ∧ unit < 2 then s.wr (delayField unit) (vals.getD 0 0).toNat
  else if kind = 6 ∧ unit < 16 then
    (List.range (vals.length / 3)).foldl (fun s k =>
      let j := (vals.getD (3 * k) 0).toNat
      ((s.wr (OPE.P_PC.VALID unit j) 1).wr (OPE.P_PC.PHASE unit j) (vals.getD (3 * k + 1) 0).toNat).wr
        (OPE.P_PC.GAIN unit j) (vals.getD (3 * k + 2) 0).toNat) s
  else s

/-- An image's records applied: with another cutting list's digest, RING, LANE and TDC records only (R260). -/
def State.applyImage (s : State) (x : CalImage) : State :=
  let same := x.digest == s.digest32
  let recs := x.recs.filter fun r => same || r.1 / 4096 == 1 || r.1 / 4096 == 2 || r.1 / 4096 == 3
  let s := recs.foldl (fun s r => s.applyRecord r.1 r.2) s
  ((s.setCal { s.fab.cal with gen := x.gen, image := some x }).wr CAL.STORE_STAT.GEN x.gen).wr CAL.STORE_STAT.IMG_VALID 1

/-- The records that bytes spell. -/
def recordsOf : Nat → List Byte → Tbl (List Int)
  | 0, _ => []
  | n + 1, l =>
    let len := bytesAt l 4 4
    let i := 4096 * bytesAt l 0 1 + bytesAt l 2 2 % 4096
    (i, Config.calValues (i / 4096) ((l.drop 8).take len)) :: recordsOf n (l.drop (8 + (len + 7) / 8 * 8))

/-- The image that bytes spell, where MAGIC, CRC and SERIAL hold. -/
def State.imageOf (s : State) (l : List Byte) : Option CalImage :=
  let n := l.length
  if n < 44 ∨ bytesAt l 0 4 ≠ 0x53434A46 ∨ bytesAt l (n - 4) 4 ≠ crc32 (l.take (n - 4)) ∨
      bytesAt l 16 16 ≠ s.rd GLB.SERIAL.SERIAL then none
  else some { gen := bytesAt l 8 4, digest := bytesAt l 32 4, recs := recordsOf (bytesAt l 6 2) (l.drop 40) }

/-- A restore's outcome. -/
def State.restoreDone (s : State) (x : Option CalImage) : State :=
  match x with
  | some x => (s.applyImage x).raise CAL.EVENT.RESTORE_OK
  | none => s.raise CAL.EVENT.RESTORE_BAD

/-- A restore goes on: the image's header first, then the LENGTH bytes that it names. -/
def State.restoreNext (s : State) : State :=
  match s.moveEnd mvRestore [] with
  | (s, .pending) => s
  | (s, .failed) => s.restoreDone none
  | (s, .done l) =>
    let n := bytesAt l 12 4
    if l.length ≠ 64 ∨ n = 64 then s.restoreDone (s.imageOf l)
    else if n < 44 ∨ 0x100000 < n ∨ bytesAt l 0 4 ≠ 0x53434A46 then s.restoreDone none
    else
      let s := s.moveBegin mvRestore { write := false, addr := s.imgAddr, len := n }
      if s.isComp s.imgAddr then s
      else match s.moveEnd mvRestore [] with
        | (s, .pending) => s
        | (s, .failed) => s.restoreDone none
        | (s, .done l) => s.restoreDone (s.imageOf l)

/-- CAL.CMD.RESTORE: refused in NVM mode. -/
def State.calRestore (s : State) : State :=
  if ¬ s.calVolatile then s.raise CAL.EVENT.CFG_ERR
  else if (s.move mvRestore).isSome then s
  else
    let s := s.moveBegin mvRestore { write := false, addr := s.imgAddr, len := 64 }
    if s.isComp s.imgAddr then s else s.restoreNext

/-- RESTORE_WAIT_EXPIRY: MC0 issues the relock jumps (R196, R262). -/
def State.relockAll (s : State) : State :=
  (List.range 176).foldl (fun s l =>
    if (s.ringTarget l).isSome ∧ s.ringSt l ≠ rgFault then s.setLoop l { s.loop l with cmd := some .relock } else s) s

/-- RESTORE_WAIT_EXPIRY. -/
def execRestoreWaitExpiry (s : State) : Result :=
  match s.fab.cal.waitTo with
  | none => .next s
  | some t =>
    if ¬ s.fabUp then .next s
    else .next ((s.advance t).setCal { s.fab.cal with waitTo := none }).relockAll

end Sys2Proof.Machine
end

