-- ==== Sys2Proof/Machine/Urdal.lean ====
section
/-! DEFINITION. The Urdal link (13_urdal_link.md): flits, the companion's requests, the directory and its snoops, the
answers to the package's own requests, notice lines and the link's states. -/
namespace Sys2Proof.Machine
open Sys2Proof

/-! ### Who serves -/

/-- The management core's firmware runs (R501, R526). -/
def State.mcRuns (s : State) : Bool := s.sys.mc0 && s.sys.mcFail.isNone && !s.sys.mcLost

/-- The package is in recovery mode (R519). -/
def State.recovering (s : State) : Bool := s.rd BOOT.STATUS.PHASE == phStuck && s.rd BOOT.STATUS.STUCK == 5

/-- The link may train: after step 6 of BRINGUP outside DARK and WARM (R451), or for recovery. -/
def State.ulRuns (s : State) : Bool :=
  if s.recovering then s.sys.recUl
  else (s.rd BOOT.STATUS.PHASE == phDone || s.rd BOOT.STATUS.PHASE == phLockWait) && s.rd PWR.STATE.STATE != pwDark &&
    s.sys.reset != some 1

/-! ### Flits (R384-R386) -/

/-- The flits that an ACK leaves in the replay buffer: those after the one it names, if it names one of them. -/
def ackReplay (ack : Nat) (l : List (Nat × Msg)) : List (Nat × Msg) :=
  match l.dropWhile fun r => r.1 != ack with
  | [] => l
  | _ :: r => r

/-- ACK and CREDIT of a flit taken. Log: DESIGN CHOICE 17; DEDUCED 92. -/
def Ulk.take (u : Ulk) (l : List Byte) : Ulk :=
  let r := ackReplay (bytesAt l 2 2 % 4096) u.replay
  let c (k : Nat) : Nat := bytesAt l (4 + k) 1
  { u with replay := r, nakRun := if r.length < u.replay.length then 0 else u.nakRun,
           hand := { req := u.hand.req + c 0, snp := u.hand.snp + c 1, rsp := u.hand.rsp + c 2, dat := u.hand.dat + c 3 } }

/-- FLIT_RX: a flit's 256 bytes, and whether every codeword byte of it decoded. Log: DESIGN CHOICE 17. -/
def execFlitRx (bytes : List Byte) (decoded : Bool) (s : State) : Result :=
  if s.ulState ≠ ulUp then .next s
  else
    let l := padTo 256 bytes
    let type := bytesAt l 0 2 / 4096
    let seq := bytesAt l 0 2 % 4096
    if bytesAt l 252 4 ≠ crc32c (l.take 252) then .next { s with ulk := { s.ulk with nakOut := true } }
    else
      let s := { s with ulk := s.ulk.take l }
      let s :=
        if type = 0 then
          if decoded ∧ seq = (s.ulk.rxSeq + 1) % 4096 then { s with ulk := { s.ulk with rxSeq := seq, nakOut := false } }
          else { s with ulk := { s.ulk with nakOut := true } }
        else if type = 2 then
          (({ s with ulk := { s.ulk with nakRun := s.ulk.nakRun + 1 } }).bump ULK.COUNTS.REPLAYS).count ctrFtd 0x060 0
        else s
      .next s.ulPump

/-! ### The directory (R391, R392) -/

/-- The directory replaced, and the entries in use. -/
def State.setDir (s : State) (d : Tbl DirEntry) : State :=
  ({ s with ulk := { s.ulk with dir := d } }).wr ULK.DIR_STAT.USED d.length

/-- An ERR (R396). -/
def State.errMsg (s : State) (tag reason : Nat) : State :=
  (s.bump ULK.COUNTS.ERR_SENT).sendMsg { op := 0x24, tag := tag, reason := reason }

/-- Does a line lie in the coherence window (R391)? -/
def State.inCohWin (s : State) (line : Nat) : Bool :=
  decide (s.rd ULK.COH_WIN.BASE * 2 ^ 30 ≤ 64 * line) &&
    decide (64 * line < (s.rd ULK.COH_WIN.BASE + s.rd ULK.COH_WIN.SIZE) * 2 ^ 30)

/-- A line read and granted; one that cannot be read is not granted. -/
def State.grantLine (s : State) (g : Grant) (ups : List Upset) : State :=
  let r := (s.strikeLp (64 * g.line) 64 ups).lpRead .companion (64 * g.line) 64
  match r.2 with
  | none => r.1.errMsg g.tag 3
  | some l =>
    let u := r.1.ulk
    let order := match Tbl.look u.dir g.line with | some e => e.order | none => u.grants
    let s := r.1.setDir (Tbl.set u.dir g.line ⟨g.owned, order⟩)
    ({ s with ulk := { s.ulk with grants := s.ulk.grants + 1 } }).sendMsg
      { op := if g.owned then 0x21 else 0x20, tag := g.tag, addr := 64 * g.line, data := l }

/-- The entries of a line's set. -/
def State.dirSet (s : State) (line : Nat) : Tbl DirEntry := s.ulk.dir.filter fun r => r.1 % 65536 == line % 65536

/-- The way of a set allocated longest ago. -/
def oldestWay : Tbl DirEntry → Option (Nat × DirEntry)
  | [] => none
  | r :: l =>
    match oldestWay l with
    | none => some r
    | some q => if q.2.order < r.2.order then some q else some r

/-- A grant asked for: it waits for a snoop of its line, or for the recall of another that makes room. -/
def State.serveGrant (s : State) (g : Grant) (ups : List Upset) : State :=
  if (Tbl.look s.ulk.snoops g.line).isSome then s.snoop true g.line [g]
  else if (Tbl.look s.ulk.dir g.line).isSome ∨ (s.dirSet g.line).length < 16 then s.grantLine g ups
  else
    match oldestWay (s.dirSet g.line) with
    | none => s.grantLine g ups
    | some r => (s.bump ULK.DIR_STAT.RECALLS).snoop true r.1 [g]

/-! ### Requests from the companion (R387-R393, R519, R526) -/

/-- A request that addresses a line: it is served in LPDDR5, and answered ERR elsewhere. Log: DEDUCED 91. -/
def State.lineReq (s : State) (tag line : Nat) (k : State → State) : State :=
  if s.ulState ≠ ulUp then s
  else if s.recovering then s.errMsg tag 5
  else if s.lpEnd < 64 * line + 64 then s.errMsg tag 1
  else k s

/-- A request to cache a line. -/
def State.readCached (s : State) (tag line : Nat) (owned : Bool) (ups : List Upset) : State :=
  s.lineReq tag line fun s =>
    if s.inCohWin line then s.serveGrant ⟨line, tag, owned⟩ ups else s.errMsg tag 2

/-- RD_S. -/
def execRdS (tag : BitVec 12) (line : BitVec 42) (ups : List Upset) (s : State) : Result :=
  .next (s.readCached tag.toNat line.toNat false ups)

/-- RD_O. -/
def execRdO (tag : BitVec 12) (line : BitVec 42) (ups : List Upset) (s : State) : Result :=
  .next (s.readCached tag.toNat line.toNat true ups)

/-- A line read without caching. -/
def State.readLine (s : State) (tag line : Nat) (ups : List Upset) : State :=
  let r := (s.strikeLp (64 * line) 64 ups).lpRead .companion (64 * line) 64
  match r.2 with
  | none => r.1.errMsg tag 3
  | some l => r.1.sendMsg { op := 0x22, tag := tag, addr := 64 * line, data := l }

/-- RD_NC: in recovery mode it reaches the first 32 MiB. -/
def execRdNc (tag : BitVec 12) (line : BitVec 42) (ups : List Upset) (s : State) : Result :=
  if s.ulState = ulUp ∧ s.recovering ∧ 64 * line.toNat < 0x2000000 then .next (s.readLine tag.toNat line.toNat ups)
  else .next (s.lineReq tag.toNat line.toNat fun s => s.readLine tag.toNat line.toNat ups)

/-- The calendar's entries that are watched: none in the link's safe state (R480). -/
def State.calEntries (s : State) : Nat := if s.unsafeBlock 20 then 0 else s.rd ULK.CAL_CFG.ENTRIES

/-- The first line of a calendar entry has arrived (R399): the entry is to be examined. -/
def State.calWatch (s : State) (line : Nat) : State :=
  let base := s.rd ULK.CAL_LO.ADDR + 2 ^ 32 * s.rd ULK.CAL_HI.ADDR
  let a := 64 * line
  if a < base ∨ (a - base) % 512 ≠ 0 ∨ s.calEntries ≤ (a - base) / 512 then s
  else
    let i := (a - base) / 512
    if s.ulk.calWait.contains i then s else { s with ulk := { s.ulk with calWait := s.ulk.calWait ++ [i] } }

/-- A WB or an EVICT crosses a snoop of its line. -/
def State.crossed (s : State) (line : Nat) : State :=
  let s := s.setDir (Tbl.del s.ulk.dir line)
  match Tbl.look s.ulk.snoops line with
  | none => s
  | some x => { s with ulk := { s.ulk with snoops := Tbl.set s.ulk.snoops line { x with taken := true } } }

/-- EVICT. -/
def execEvict (tag : BitVec 12) (line : BitVec 42) (s : State) : Result :=
  .next (s.lineReq tag.toNat line.toNat fun s => (s.crossed line.toNat).sendMsg { op := 0x23, tag := tag.toNat })

/-- WB. Log: DEDUCED 91. -/
def execWb (tag : BitVec 12) (line : BitVec 42) (data : List Byte) (s : State) : Result :=
  .next (s.lineReq tag.toNat line.toNat fun s =>
    let s := (s.lpWrite .companion (64 * line.toNat) (padTo 64 data)).1.crossed line.toNat
    (s.sendMsg { op := 0x23, tag := tag.toNat }).calWatch line.toNat)

/-- Bytes of a line under a byte mask: those of `new` where the mask's bit is 1. -/
def maskBytes (mask : Nat) (old new : List Byte) : List Byte :=
  (List.range 64).map fun i => if bitOf mask i then new.getD i 0 else old.getD i 0

/-- A line written under a byte mask (R354): a part of an uncorrectable block fails. -/
def State.writeLine (s : State) (tag line mask : Nat) (data : List Byte) (ups : List Upset) : State :=
  let a := 64 * line
  let s := s.strikeLp a 64 ups
  if mask ≠ 2 ^ 64 - 1 ∧ s.comp.lpddr.isBad line then (s.reportUncorr .companion line).errMsg tag 3
  else
    let s := (s.lpWrite .companion a (maskBytes mask (s.comp.lpddr.read a 64) (padTo 64 data))).1
    (s.sendMsg { op := 0x23, tag := tag }).calWatch line

/-- WR_NC: in recovery mode it reaches the first 32 MiB. -/
def execWrNc (tag : BitVec 12) (line : BitVec 42) (mask : BitVec 64) (data : List Byte) (ups : List Upset)
    (s : State) : Result :=
  if s.ulState = ulUp ∧ s.recovering ∧ 64 * line.toNat < 0x2000000 then
    .next (s.writeLine tag.toNat line.toNat mask.toNat data ups)
  else .next (s.lineReq tag.toNat line.toNat fun s => s.writeLine tag.toNat line.toNat mask.toNat data ups)

/-! ### Answers to snoops (R393, R394) -/

/-- Accesses of scheduled slots that waited: each is done once none of its lines is held. Log: DEDUCED 93. -/
def State.runDeferred (s : State) : State :=
  let l := s.ulk.deferred
  l.foldl (fun s d =>
    let e : Nat × Nat := match d with | .write a b => (a, b.length) | .add _ a _ => (a, 4)
    if s.heldLines true e.1 e.2 ≠ [] then
      ({ s with ulk := { s.ulk with deferred := s.ulk.deferred ++ [d] } }).snoopFor true e.1 e.2
    else
      match d with
      | .write a b => (s.devWrite .aggregator .free a b).1
      | .add f a v =>
        let r := s.fellDo a v true
        r.1.fellFlags f r.2.2 false) { s with ulk := { s.ulk with deferred := [] } }

/-- A snoop of a line is over: the grants and the accesses that waited for it go on. -/
def State.snoopOver (s : State) (line : Nat) (ups : List Upset) : State :=
  match Tbl.look s.ulk.snoops line with
  | none => s
  | some x =>
    let s := { s with ulk := { s.ulk with snoops := Tbl.del s.ulk.snoops line } }
    let s := (x.grants.foldl (fun s g => s.serveGrant g ups) s).runDeferred
    match s.move mvRestore with
    | some m => if s.isComp m.addr then s else s.restoreNext
    | none => s

/-- The answer to the snoop that carries a TAG: dirty data, and whether the line is still held shared. After a crossing
WB or EVICT it only ends the snoop. -/
def State.snoopAnswer (s : State) (tag : Nat) (data : Option (List Byte)) (shared : Bool) (ups : List Upset) : State :=
  if s.ulState ≠ ulUp then s
  else
    match s.ulk.snoops.find? fun r => r.2.tag == tag with
    | none => s
    | some r =>
      let line := r.1
      if r.2.taken then s.snoopOver line ups
      else
        let s := match data with
          | some l => (s.lpWrite .companion (64 * line) (padTo 64 l)).1
          | none => s
        let s := match Tbl.look s.ulk.dir line with
          | some e => s.setDir (if shared then Tbl.set s.ulk.dir line { e with owned := false } else Tbl.del s.ulk.dir line)
          | none => s
        s.snoopOver line ups

/-- SNP_I. -/
def execSnpI (tag : BitVec 12) (ups : List Upset) (s : State) : Result :=
  .next (s.snoopAnswer tag.toNat none false ups)

/-- SNP_S. -/
def execSnpS (tag : BitVec 12) (ups : List Upset) (s : State) : Result :=
  .next (s.snoopAnswer tag.toNat none true ups)

/-- SNP_DI. -/
def execSnpDi (tag : BitVec 12) (data : List Byte) (ups : List Upset) (s : State) : Result :=
  .next (s.snoopAnswer tag.toNat (some data) false ups)

/-- SNP_DS. -/
def execSnpDs (tag : BitVec 12) (data : List Byte) (ups : List Upset) (s : State) : Result :=
  .next (s.snoopAnswer tag.toNat (some data) true ups)

/-- SNP_TIMEOUT: the snoop of a line has not been answered for TIMEOUT us. -/
def execSnpTimeout (line : BitVec 42) (ups : List Upset) (t : Nat) (s : State) : Result :=
  let s := s.advance t
  match Tbl.look s.ulk.snoops line.toNat with
  | none => .next s
  | some x =>
    if s.now < x.since + Config.ns (1000 * s.rd ULK.SNP_CFG.TIMEOUT) then .next s
    else
      let s := s.setDir (Tbl.del s.ulk.dir line.toNat)
      .next (((s.bump ULK.COUNTS.SNP_TIMEOUT).raise ULK.EVENT.SNP_TIMEOUT sevError).snoopOver line.toNat ups)

/-- COH_WIN_WRITE: the new window, and SNP_INV for every entry outside it. -/
def State.setWindow (s : State) (base size : Nat) : State :=
  if size ≠ 0 ∧ s.lpEnd < (base + size) * 2 ^ 30 then s.raise ULK.EVENT.CFG_ERR
  else
    let s := (s.wr ULK.COH_WIN.BASE base).wr ULK.COH_WIN.SIZE size
    (s.ulk.dir.filter fun r => !s.inCohWin r.1).foldl (fun s r => s.snoop true r.1) s

/-! ### Answers to the package's requests (R389) -/

/-- What a request was for goes on with its answer. -/
def State.answered (s : State) (r : PReq) (data : List Byte) (ok : Bool) : State :=
  match r.who with
  | .xfer p id => s.xferStep p id data ok
  | .posted => s
  | .engine e => s.copyStep e (!r.write) data ok
  | .load _ => s.loadStep data ok
  | .notice _ => s
  | .service id =>
    let s := s.moveStep id data ok
    if id = mvRestore then s.restoreNext else s

/-- Requests that wait for a tag take the free ones. -/
def State.tagFreed (s : State) : State :=
  match s.ulk.waiting with
  | [] => s
  | r :: l => ({ s with ulk := { s.ulk with waiting := l } }).request r

/-- The answer to the request of a tag. -/
def State.answerTag (s : State) (tag : Nat) (write : Option Bool) (data : List Byte) (ok : Bool) : State :=
  if s.ulState ≠ ulUp then s
  else
    match Tbl.look s.ulk.reqs tag with
    | none => s
    | some r =>
      if write.any (· != r.write) then s
      else
        let s := ({ s with ulk := { s.ulk with reqs := Tbl.del s.ulk.reqs tag } }).tagFreed
        s.answered r data ok

/-- DATA. -/
def execData (tag : BitVec 12) (data : List Byte) (s : State) : Result :=
  .next (s.answerTag tag.toNat (some false) (padTo 64 data) true)

/-- ACK. -/
def execAck (tag : BitVec 12) (s : State) : Result := .next (s.answerTag tag.toNat (some true) [] true)

/-- ERR. -/
def execErr (tag : BitVec 12) (s : State) : Result := .next (s.answerTag tag.toNat none [] false)

/-! ### Notice lines (R402, R403) -/

/-- A notice line's 64 bytes. -/
def State.noticeLine (s : State) (c : Nat) : List Byte :=
  let n := s.notice c
  leBytes 4 n.seq ++ leBytes 1 c ++ leBytes 1 (s.rd ULK.STAT.EPOCH) ++ leBytes 2 0 ++ leBytes 8 n.time ++ padTo 48 n.body

/-- The companion address of the notice lines. Log: DEDUCED 87. -/
def State.noticeBase (s : State) : Nat := s.rd ULK.NOTICE_LO.ADDR + 2 ^ 32 * s.rd ULK.NOTICE_HI.ADDR

/-- Notice lines are written. -/
def State.noticesOn (s : State) : Bool :=
  s.ulState == ulUp && s.on ULK.NOTICE_HI.EN && s.mcRuns && !s.unsafeBlock 20

/-- A held notice of a class written. Log: DEDUCED 87. -/
def State.writeNotice (s : State) (c : Nat) : State :=
  let l := s.noticeLine c
  let s := { s with notices := Tbl.put s.notices {} c { s.notice c with held := false } }
  let s := (s.wr ULK.NOTICE_STAT.PENDING s.heldNotices).bump ULK.NOTICE_STAT.WRITTEN
  s.request { write := true, addr := s.noticeBase + 64 * c, len := 64, who := .notice c, data := l }

/-- NOTICE_WRITE. -/
def execNoticeWrite (c : Fin 64) (s : State) : Result :=
  if s.noticesOn ∧ (s.notice c).held then .next (s.writeNotice c) else .next s

/-! ### Link states (R405, R406) -/

/-- A change of the link's state, reported on class 2 (R402). -/
def State.setUl (s : State) (st : Nat) : State :=
  let s := ({ s with ulk := { s.ulk with entered := s.now } }).wr ULK.STAT.STATE st
  s.compose 2 (Config.linkBody st (s.rd ULK.STAT.WIDTH) (s.rd ULK.LOST.COUNT))

/-- The directory cleared: lines that were OWNED are lost (R406). -/
def State.loseLines (s : State) : State :=
  let l := s.ulk.dir.filter fun r => r.2.owned
  let s := s.setDir []
  match l with
  | [] => s
  | r :: _ =>
    let s := if s.rd ULK.LOST.COUNT = 0 then s.wr ULK.LOST.FIRST (64 * r.1) else s
    (s.bumpBy ULK.LOST.COUNT l.length).raise ULK.EVENT.LOST

/-- What R406 does on entering FAILED: outstanding requests fail, the companion's are dropped, the directory is cleared,
and accesses that waited for a snoop go on. -/
def State.ulDrop (s : State) : State :=
  let l := s.ulk.reqs.map (·.2) ++ s.ulk.waiting
  let s := { s with ulk := { s.ulk with
    reqs := [], waiting := [], out := [], replay := [], snoops := [], nakOut := false, nakRun := 0 } }
  let s := l.foldl (fun s r => s.answered r [] false) s
  s.loseLines.runDeferred

/-- The link goes DOWN because it is disabled, or the package resets or goes dark: as FAILED if not DOWN. -/
def State.ulOff (s : State) : State :=
  if s.ulState = ulDown then s
  else ((s.setUl ulDown).wr ULK.STAT.LANE_OK 0).ulDrop

/-- ULK_SIGNAL_DETECT: signal on 8 lanes or more. -/
def execUlkSignalDetect (t : Nat) (s : State) : Result :=
  let s := s.advance t
  if s.ulState = ulDown ∧ s.on ULK.CTRL.EN ∧ s.ulRuns then .next (s.setUl ulTrain) else .next s

/-- Held notices at a new epoch (R403): each is counted in it as the first of its class. Log: DEDUCED 92. -/
def State.newEpoch (s : State) : State :=
  let s := s.bump ULK.STAT.EPOCH
  { s with notices := s.notices.map fun r => (r.1, { r.2 with seq := if r.2.held then 1 else 0 }) }

/-- The lanes that a width of the link uses. -/
def widthOf (lanes : Nat) : Option Nat :=
  if lanes = 0xFFFF then some 0 else if lanes = 0x00FF ∨ lanes = 0xFF00 then some 1 else none

/-- ULK_TRAIN_DONE: parameter blocks on the lanes named, and what the companion's block says. -/
def execUlkTrainDone (lanes : BitVec 16) (x : UlParams) (t : Nat) (s : State) : Result :=
  let s := s.advance t
  match widthOf lanes.toNat with
  | none => .next s
  | some w =>
    if s.ulState ≠ ulTrain ∨ x.major ≠ 1 ∨ (w = 0 ∧ ¬ x.wide) ∨ (w = 1 ∧ ¬ (x.narrow ∧ s.on ULK.CTRL.W8_OK)) then .next s
    else
      let s := s.newEpoch
      let s := { s with ulk := { s.ulk with
        hand := { req := x.req, snp := x.snp, rsp := x.rsp, dat := x.dat }, replay := [], rxSeq := 4095, txSeq := 4095,
        nakOut := false, nakRun := 0 } }
      let s := (s.wr ULK.STAT.WIDTH w).wr ULK.STAT.LANE_OK lanes.toNat
      .next (((s.setUl ulUp).raise ULK.EVENT.UP).ulPump)

/-- ULK_TRAIN_TIMEOUT. -/
def execUlkTrainTimeout (t : Nat) (s : State) : Result :=
  let s := s.advance t
  if s.ulState = ulTrain ∧ s.ulk.entered + Config.ns 50000000 ≤ s.now then .next (s.setUl ulDown) else .next s

/-- ULK_RECOVER_ENTRY: 16 NAKs without an ACK advancing, a lane lost, or a protocol error. -/
def execUlkRecoverEntry (cause : UlCause) (t : Nat) (s : State) : Result :=
  let s := s.advance t
  if s.ulState = ulUp ∧ (cause = .naks → 16 ≤ s.ulk.nakRun) then
    .next (((s.setUl ulRecover).bump ULK.COUNTS.RECOVERS).raise ULK.EVENT.RECOVER)
  else .next s

/-- ULK_RECOVER_DONE: the retrain is complete on the lanes named. -/
def execUlkRecoverDone (lanes : BitVec 16) (t : Nat) (s : State) : Result :=
  let s := s.advance t
  match widthOf lanes.toNat with
  | none => .next s
  | some w =>
    if s.ulState ≠ ulRecover ∨ (w = 1 ∧ ¬ s.on ULK.CTRL.W8_OK) then .next s
    else
      let s := { s with ulk := { s.ulk with nakOut := false, nakRun := 0 } }
      let s := (s.wr ULK.STAT.WIDTH w).wr ULK.STAT.LANE_OK lanes.toNat
      .next (((s.setUl ulUp).raise ULK.EVENT.UP).ulPump)

/-- ULK_FAILED: three attempts have failed, or RECOVER_LIM ms have passed. -/
def execUlkFailed (three : Bool) (t : Nat) (s : State) : Result :=
  let s := s.advance t
  if s.ulState = ulRecover ∧ (three ∨ s.ulk.entered + Config.ns (1000000 * s.rd ULK.CTRL.RECOVER_LIM) ≤ s.now) then
    .next (((s.setUl ulFailed).wr ULK.STAT.LANE_OK 0).ulDrop.raise ULK.EVENT.FAILED sevError)
  else .next s

/-- ULK_FAILED_TIMEOUT. -/
def execUlkFailedTimeout (t : Nat) (s : State) : Result :=
  let s := s.advance t
  if s.ulState = ulFailed ∧ s.ulk.entered + Config.ns 1000000000 ≤ s.now then .next (s.setUl ulDown) else .next s

/-- ULK.CMD.RETRAIN. -/
def State.ulRetrain (s : State) : State := if s.ulState = ulFailed then s.setUl ulDown else s

/-- ULK_RETRAIN. -/
def execUlkRetrain (s : State) : Result := .next s.ulRetrain

end Sys2Proof.Machine
end

