-- ==== Sys2Proof/Machine/Health.lean ====
section
/-! DEFINITION. Counters, the event recorder's NVM side, the management cores' load and takeover, and the patch map's
writes (17_health_log.md). -/
namespace Sys2Proof.Machine
open Sys2Proof

/-! ### Counters (R486-R489) -/

/-- The instances of an FTD source (R488): the largest. -/
def ftdSource (src : Nat) : Option Nat :=
  if 0x010 ≤ src ∧ src ≤ 0x013 then some 63
  else if 0x020 ≤ src ∧ src ≤ 0x027 then some 21
  else if src = 0x030 ∨ src = 0x031 then some 63
  else if src = 0x040 ∨ src = 0x041 then some 175
  else if src = 0x051 then some 1
  else if src = 0x001 ∨ src = 0x002 ∨ src = 0x032 ∨ src = 0x042 ∨ src = 0x050 ∨ src = 0x060 ∨ src = 0x061 ∨
      src = 0x062 ∨ src = 0x071 ∨ src = 0x080 then some 0
  else none

/-- Does the catalogue give a source to a counter with an instance (R487, R488)? SRC 0 counts nothing. -/
def counterOk (n src inst : Nat) : Bool :=
  if src = 0 then true
  else if n < 32 then
    if src = 0x070 then inst == 3 || inst == 4
    else match ftdSource src with | some m => decide (inst ≤ m) | none => false
  else if n < 96 then
    if src = 0x101 ∨ src = 0x102 then decide (inst < 256) || inst == 0xFFFF
    else if src = 0x110 ∨ src = 0x111 then decide (inst < 8)
    else if src = 0x120 ∨ src = 0x121 ∨ src = 0x122 then decide (inst < 16)
    else if src = 0x130 then decide (inst < 2)
    else false
  else if src = 0x201 ∨ src = 0x202 then decide (inst < 104)
  else if src = 0x203 then decide (inst < 88)
  else if src = 0x204 then inst == 0
  else false

/-- A counter zeroed with its OVF bit. -/
def State.ctrZero (s : State) (n : Nat) : State := (s.wr (HLT.CTR.COUNT n) 0).wr (HLT.CTR.OVF n) 0

/-- A write of HLT.CTR<n>_CFG. -/
def State.ctrConfig (s : State) (n v : Nat) : State :=
  let src := bitsOf v 16 12
  let inst := bitsOf v 0 16
  if !counterOk n src inst then s.raise HLT.EVENT.CFG_ERR
  else
    let new := src != s.rd (HLT.CTR_CFG.SRC n) || inst != s.rd (HLT.CTR_CFG.INST n)
    let s := ((s.wr (HLT.CTR_CFG.EN n) (v / 2 ^ 31)).wr (HLT.CTR_CFG.SRC n) src).wr (HLT.CTR_CFG.INST n) inst
    if new then s.ctrZero n else s

/-- HLT.CTR_CMD.SNAP. -/
def State.snapStart (s : State) : State :=
  if s.on HLT.CTR_STAT.SNAP_PEND then s.raise HLT.EVENT.CFG_ERR
  else ({ s with sys := { s.sys with snapAt := s.now } }).wr HLT.CTR_STAT.SNAP_PEND 1

/-- SNAP. -/
def execSnap (s : State) : Result := .next s.snapStart

/-- SNAPSHOT_TAKE: the Jig cycle boundary `t`, 2 us or more after the write. -/
def execSnapshotTake (t : Nat) (s : State) : Result :=
  let s := s.advance t
  if ¬ s.on HLT.CTR_STAT.SNAP_PEND ∨ t % Config.cycleTime ≠ 0 ∨ t < s.sys.snapAt + Config.ns 2000 then .next s
  else
    let s := (List.range 112).foldl (fun s n =>
      (s.wr (HLT.SNAP.COUNT n) (s.rd (HLT.CTR.COUNT n))).wr (HLT.SNAP.OVF n) (s.rd (HLT.CTR.OVF n))) s
    .next ((s.wr HLT.CTR_STAT.SNAP_PEND 0).raise HLT.EVENT.SNAP_DONE)

/-- HLT.CTR_CMD.CLEAR_ALL. -/
def State.ctrClear (s : State) : State := (List.range 112).foldl (fun s n => s.ctrZero n) s

/-- CLEAR_ALL. -/
def execClearAll (s : State) : Result := .next s.ctrClear

/-! ### The log in NVM (R494-R497) -/

/-- A record's bytes (R491). -/
def LogRec.toBytes (r : LogRec) : List Byte :=
  let l := leBytes 2 r.code ++ leBytes 1 (r.sev + 4 * bit r.notime) ++ leBytes 1 (24 + r.detail.length) ++ leBytes 4 r.seq ++
    leBytes 4 r.opMin ++ leBytes 3 r.pwrCyc ++ leBytes 1 0 ++ leBytes 8 r.tFirst ++ leBytes 8 r.tLast ++
    leBytes 4 r.repeats ++ leBytes 4 r.subject ++ r.detail
  l ++ leBytes 4 (crc32c l)

/-- What the log's registers show of NVM: full where the smallest record finds no room. Log: DEDUCED 96. -/
def State.showLog (s : State) : State :=
  (s.stageFill.wrB HLT.LOG_STAT.FULL (decide (nvmLogBytes < recBytes s.log.nvm + 44))).wr HLT.LOG_STAT.NVM_RECORDS
    s.log.nvm.length

/-- A record in its place by SEQ. -/
def insertRec (r : LogRec) : List LogRec → List LogRec
  | [] => [r]
  | x :: l => if r.seq < x.seq then r :: x :: l else x :: insertRec r l

/-- One staged record written to NVM and removed from staging; room is made for it (R495). Log: DEDUCED 6. -/
def State.nvmWrite (s : State) (r : LogRec) : State :=
  let s := { s with log := { s.log with staging := s.log.staging.filter fun x => x.seq != r.seq } }
  match makeRoom nvmLogBytes r.size r.sev s.log.nvm.length s.log.nvm with
  | some (l, n) =>
    ({ s with log := { s.log with nvm := insertRec r l } }).bumpBy HLT.LOG_COUNTS.OVERWRITTEN n
  | none =>
    let l := purge r.sev s.log.nvm
    (({ s with log := { s.log with nvm := l } }).bumpBy HLT.LOG_COUNTS.OVERWRITTEN
      (s.log.nvm.length - l.length)).dropRecord r

/-- Is a flush due (R494)? -/
def State.flushDue (s : State) : Bool :=
  decide (s.rd HLT.LOG_CFG.FILL_PCT * stagingBytes ≤ 100 * recBytes s.log.staging) ||
    decide (s.log.lastFlush + Config.ns (1000000000 * s.rd HLT.LOG_CFG.FLUSH_S) ≤ s.now) ||
    s.on HLT.LOG_STAT.FLUSH_BUSY

/-- The operating minutes written to NVM with a flush (R496). -/
def State.saveMinutes (s : State) : State :=
  { s with log := { s.log with minutes := s.rd HLT.OPTIME.MINUTES } }

/-- LOG_FLUSH: the first `n` staged records have been written and read back correct. Log: DEDUCED 94. -/
def execLogFlush (n t : Nat) (s : State) : Result :=
  let s := s.advance t
  if ¬ s.mcRuns ∨ s.flushDue = false then .next s
  else
    let l := s.log.staging.take n
    let s := (l.foldl (fun s r => s.nvmWrite r) s).saveMinutes
    let s := if s.log.staging = [] then
        ({ s with log := { s.log with lastFlush := s.now } }).wr HLT.LOG_STAT.FLUSH_BUSY 0 else s
    .next s.showLog

/-- HLT.LOG_CMD.FLUSH. Log: DEDUCED 94. -/
def State.flushStart (s : State) : State := s.wr HLT.LOG_STAT.FLUSH_BUSY 1

/-- FLUSH. -/
def execFlush (s : State) : Result := .next s.flushStart

/-- FATAL_FLUSH: staged FATAL records written without a management core. Log: DEDUCED 94. -/
def execFatalFlush (t : Nat) (s : State) : Result :=
  let s := s.advance t
  let l := s.log.staging.filter fun r => r.sev == 3
  if l = [] then .next s else .next ((l.foldl (fun s r => s.nvmWrite r) s).saveMinutes.showLog)

/-- The dump's address. -/
def State.dumpAddr (s : State) : Nat := s.rd HLT.DUMP_LO.ADDR + 2 ^ 32 * s.rd HLT.DUMP_HI.ADDR

/-- HLT.LOG_CMD.DUMP. Log: DEDUCED 95. -/
def State.dumpStart (s : State) : State :=
  let a := s.dumpAddr
  let fits := match s.region a with | .lpddr => true | .companion _ => true | _ => false
  if s.on HLT.LOG_STAT.DUMP_BUSY ∨ a % 64 ≠ 0 ∨ !fits then s.raise HLT.EVENT.CFG_ERR
  else
    let l := (s.log.nvm ++ s.log.staging).flatMap LogRec.toBytes
    let l := padTo ((l.length + 63) / 64 * 64) l
    ((s.wr HLT.LOG_STAT.DUMP_BUSY 1).wr HLT.DUMP_STAT.BYTES 0).moveBegin mvDump
      { write := true, addr := a, len := l.length, data := l }

/-- DUMP. Log: DEDUCED 95. -/
def execDump (s : State) : Result := .next s.dumpStart

/-- DUMP_COMPLETE. -/
def execDumpComplete (s : State) : Result :=
  match s.move mvDump with
  | none => .next s
  | some x =>
    match s.moveEnd mvDump [] with
    | (s, .pending) => .next (s.wr HLT.DUMP_STAT.BYTES x.pos)
    | (s, .failed) => .next (((s.wr HLT.DUMP_STAT.BYTES x.pos).wr HLT.LOG_STAT.DUMP_BUSY 0).raise HLT.EVENT.CFG_ERR)
    | (s, .done _) => .next ((s.wr HLT.DUMP_STAT.BYTES x.len).wr HLT.LOG_STAT.DUMP_BUSY 0)

/-- OPTIME_TICK: a minute with VAUX in range has passed. -/
def execOptimeTick (t : Nat) (s : State) : Result :=
  let s := s.advance t
  if ¬ s.sys.vaux then .next s
  else
    let s := s.bump HLT.OPTIME.MINUTES
    .next (if s.log.minutes + 60 ≤ s.rd HLT.OPTIME.MINUTES then s.saveMinutes else s)

/-! ### The management cores (R500-R502) -/

/-- Class E work put off by shedding. Log: DEDUCED 97. -/
def State.deferE (s : State) : State := (s.bump HLT.MC_SHED.E_DEFERRED).count ctrFtd 0x070 4

/-- MC_LOAD_WINDOW: a 10 ms window ends with the load of all classes and of classes A to C, in per cent.
Log: DEDUCED 97. -/
def execMcLoadWindow (load aToC : BitVec 8) (t : Nat) (s : State) : Result :=
  let s := s.advance t
  if ¬ s.mcRuns then .next s
  else
    let v := load.toNat
    let s := (s.wr HLT.MC_LOAD.LOAD v).wr HLT.MC_LOAD.A_TO_C aToC.toNat
    let s := s.wr HLT.MC_LOAD.PEAK (max v (s.rd HLT.MC_LOAD.PEAK))
    let calm (s : State) (n : Nat) : State := { s with sys := { s.sys with calm := n } }
    if s.rd HLT.MC_CFG.SHED_ON ≤ v then
      let s := calm s 0
      if ¬ s.on HLT.MC_LOAD.SHED_E then .next ((s.wr HLT.MC_LOAD.SHED_E 1).raise HLT.EVENT.SHED)
      else if ¬ s.on HLT.MC_LOAD.SHED_D then
        .next (((s.wr HLT.MC_LOAD.SHED_D 1).wr CAL.STAT.PAUSED 1).raise HLT.EVENT.SHED)
      else .next s
    else if v < s.rd HLT.MC_CFG.SHED_OFF then
      let n := s.sys.calm + 1
      if n < 10 then .next (calm s n)
      else if s.on HLT.MC_LOAD.SHED_D then .next (((calm s 0).wr HLT.MC_LOAD.SHED_D 0).wr CAL.STAT.PAUSED 0)
      else .next ((calm s 0).wr HLT.MC_LOAD.SHED_E 0)
    else .next (calm s 0)

/-- MC_SELF_CHECK: the running core completes its self-check and its checkpoint. -/
def execMcSelfCheck (t : Nat) (s : State) : Result :=
  let s := s.advance t
  .next (if s.mcRuns then { s with sys := { s.sys with checked := s.now } } else s)

/-- MC0_FAILURE: a code mismatch, an uncorrectable error, or no completed self-check for 5 ms. -/
def execMc0Failure (watchdog : Bool) (t : Nat) (s : State) : Result :=
  let s := s.advance t
  if ¬ s.mcRuns ∨ s.on HLT.MC_LOAD.ACTIVE ∨ (watchdog ∧ s.now < s.sys.checked + Config.ns 5000000) then .next s
  else .next { s with sys := { s.sys with mcFail := some s.now } }

/-- MC_TAKEOVER_DONE. -/
def execMcTakeoverDone (t : Nat) (s : State) : Result :=
  let s := s.advance t
  match s.sys.mcFail with
  | none => .next s
  | some _ =>
    let s := { s with sys := { s.sys with mcFail := none, checked := s.now } }
    let s := (s.wr HLT.MC_LOAD.ACTIVE 1).wr HLT.MC_LOAD.MC1_AVAIL 0
    .next ((s.raise HLT.EVENT.TAKEOVER sevError).patchNote 2 1 0 1)

/-- MC1_FAILURE: both cores have failed. -/
def execMc1Failure (t : Nat) (s : State) : Result :=
  let s := s.advance t
  if s.mcRuns ∧ s.on HLT.MC_LOAD.ACTIVE then
    .next (({ s with sys := { s.sys with mcLost := true } }).raise HLT.EVENT.MC_LOST sevFatal).stopFabric
  else .next s

/-! ### The patch map (R503-R505) -/

/-- Entries that no newer entry for the same KIND and UNIT supersedes; `entries` are oldest first. -/
def liveEntriesOf : List PatchEntry → List PatchEntry
  | [] => []
  | e :: l => if l.any fun x => x.kind == e.kind && x.unit == e.unit then liveEntriesOf l else e :: liveEntriesOf l

/-- What the map's registers show. -/
def State.showPatch (s : State) (full : Bool) : State :=
  ((s.wr HLT.PATCH_STAT.GEN s.patch.gen).wr HLT.PATCH_STAT.ENTRIES s.patch.entries.length).wrB HLT.PATCH_STAT.FULL full

/-- PATCH_WRITE: the oldest change that waits is written into the map, after boot (R440, R512). -/
def execPatchWrite (t : Nat) (s : State) : Result :=
  let s := s.advance t
  let booted := s.rd BOOT.STATUS.PHASE == phDone || s.rd BOOT.STATUS.PHASE == phLockWait
  match s.patch.waiting with
  | [] => .next s
  | e :: l =>
    if !booted then .next s
    else
      let p : PatchMap := { s.patch with waiting := l }
      let kept := if p.entries.length < 16380 then p.entries else (liveEntriesOf (p.entries ++ [e])).dropLast
      if kept.length < 16380 then
        .next (({ s with patch := { p with entries := kept ++ [e], gen := p.gen + 1 } }).showPatch false)
      else .next ((({ s with patch := p }).showPatch true).raise HLT.EVENT.PATCH_FULL sevError)

/-- HLT.PATCH_NOTE.ADD. -/
def State.noteAdd (s : State) : State := s.patchNote 10 1 (s.rd HLT.PATCH_NOTE.NODE) s.node

end Sys2Proof.Machine
end

