-- ==== Sys2Proof/Machine/RegMap.lean ====
section
/-! DEFINITION. The address map: one row for each register table of spec/, with its offset, its repeats, the
selector its instance comes from, whether it is banked (R467), its block (R460) and its fields' access codes
(R16), made from the tables. -/
namespace Sys2Proof

/-- Register tables of block GAUGE. -/
def RegMap.gauge0 : List RegRow :=
  [
   ⟨0x10000, [], .none, false, 1, 0x0, false,
      [⟨0, 1, .w1, false⟩, ⟨1, 1, .rw, false⟩, ⟨2, 1, .lk, true⟩, ⟨3, 1, .rw, true⟩, ⟨4, 1, .rw, true⟩]⟩,
   ⟨0x10004, [], .none, false, 1, 0x0, false,
      [⟨0, 1, .ws, false⟩, ⟨1, 1, .ws, false⟩, ⟨2, 1, .ws, false⟩]⟩,
   ⟨0x10008, [], .none, false, 1, 0x0, false,
      [⟨8, 6, .ro, false⟩, ⟨20, 1, .ro, false⟩, ⟨21, 1, .ro, false⟩, ⟨22, 1, .ro, false⟩, ⟨23, 1, .ro, false⟩, ⟨24, 1, .ro, false⟩, ⟨25, 1, .ro, false⟩, ⟨26, 1, .ro, false⟩, ⟨27, 1, .ro, false⟩, ⟨28, 4, .ro, false⟩]⟩,
   ⟨0x1000c, [], .none, false, 1, 0x0, false,
      [⟨0, 1, .sq, false⟩, ⟨1, 1, .sq, false⟩, ⟨2, 1, .sq, false⟩, ⟨3, 1, .sq, false⟩, ⟨4, 1, .sq, false⟩, ⟨5, 1, .sq, false⟩, ⟨6, 1, .sq, false⟩, ⟨7, 1, .sq, false⟩, ⟨8, 1, .sq, false⟩, ⟨9, 1, .sq, false⟩, ⟨24, 8, .sq, false⟩]⟩,
   ⟨0x10010, [], .none, false, 1, 0xffffffff, false,
      [⟨0, 32, .ro, false⟩]⟩,
   ⟨0x10014, [], .none, false, 1, 0x640019, false,
      [⟨0, 16, .lk, true⟩, ⟨16, 16, .lk, true⟩]⟩,
   ⟨0x10018, [], .none, false, 1, 0x0, false,
      [⟨0, 32, .rw, true⟩]⟩,
   ⟨0x1001c, [], .none, false, 1, 0x0, false,
      [⟨0, 32, .rw, true⟩]⟩,
   ⟨0x10020, [], .none, false, 1, 0x0, false,
      [⟨0, 32, .ro, false⟩]⟩,
   ⟨0x10024, [], .none, false, 1, 0x80803f08, false,
      [⟨0, 8, .rw, true⟩, ⟨8, 8, .rw, true⟩, ⟨16, 8, .rw, true⟩, ⟨24, 8, .rw, true⟩]⟩,
   ⟨0x10028, [], .none, false, 1, 0x870009, false,
      [⟨0, 16, .rw, true⟩, ⟨16, 16, .rw, true⟩]⟩,
   ⟨0x1002c, [], .none, false, 1, 0xe0001, false,
      [⟨0, 16, .rw, true⟩, ⟨16, 16, .rw, true⟩]⟩,
   ⟨0x10030, [], .none, false, 1, 0x803, false,
      [⟨0, 8, .rw, true⟩, ⟨8, 8, .rw, true⟩]⟩,
   ⟨0x10034, [], .none, false, 1, 0x12a0, false,
      [⟨0, 16, .rw, true⟩]⟩,
   ⟨0x10038, [], .none, false, 1, 0xdf85, false,
      [⟨0, 32, .rw, true⟩]⟩,
   ⟨0x1003c, [], .none, false, 1, 0x0, false,
      [⟨0, 32, .ro, false⟩]⟩,
   ⟨0x10040, [], .none, false, 1, 0x0, false,
      [⟨0, 32, .ro, false⟩]⟩,
   ⟨0x10044, [], .none, false, 1, 0x0, false,
      [⟨0, 8, .ro, false⟩, ⟨8, 8, .ro, false⟩, ⟨16, 8, .ro, false⟩, ⟨24, 8, .ro, false⟩]⟩,
   ⟨0x10048, [], .none, false, 1, 0x0, false,
      [⟨24, 8, .ro, false⟩]⟩,
   ⟨0x10050, [], .none, true, 1, 0x0, false,
      [⟨0, 10, .rw, false⟩]⟩ ]

/-- Register tables of block GAUGE. -/
def RegMap.gauge1 : List RegRow :=
  [
   ⟨0x10054, [], .seam, false, 1, 0x0, false,
      [⟨0, 32, .ro, false⟩]⟩,
   ⟨0x10058, [], .seam, false, 1, 0x0, false,
      [⟨0, 32, .ro, false⟩]⟩,
   ⟨0x1005c, [], .seam, false, 1, 0x0, false,
      [⟨0, 1, .ro, false⟩, ⟨1, 1, .ro, false⟩, ⟨2, 1, .ro, false⟩, ⟨3, 1, .ro, false⟩, ⟨8, 8, .ro, false⟩, ⟨16, 16, .ro, false⟩]⟩,
   ⟨0x10080, [], .none, false, 1, 0x0, true,
      [⟨0, 128, .mb, false⟩]⟩,
   ⟨0x10090, [], .none, false, 1, 0x0, true,
      [⟨0, 64, .mb, false⟩]⟩,
   ⟨0x100a0, [], .none, false, 1, 0x0, true,
      [⟨0, 128, .mb, false⟩]⟩,
   ⟨0x100b0, [], .none, false, 1, 0x0, true,
      [⟨0, 128, .mb, false⟩]⟩ ]

/-- Register tables of block TIO. -/
def RegMap.tio0 : List RegRow :=
  [
   ⟨0x20000, [(8, 0x20)], .none, false, 2, 0x0, false,
      [⟨0, 1, .ws, false⟩, ⟨1, 1, .ws, false⟩, ⟨2, 2, .rw, true⟩, ⟨4, 1, .rw, true⟩, ⟨7, 1, .ro, false⟩, ⟨16, 16, .rw, true⟩]⟩,
   ⟨0x20004, [(8, 0x20)], .none, false, 2, 0x0, false,
      [⟨0, 32, .rw, true⟩]⟩,
   ⟨0x20008, [(8, 0x20)], .none, false, 2, 0x0, false,
      [⟨0, 32, .rw, true⟩]⟩,
   ⟨0x2000c, [(8, 0x20)], .none, false, 2, 0x0, false,
      [⟨0, 16, .rw, true⟩, ⟨16, 16, .rw, true⟩]⟩,
   ⟨0x20010, [(8, 0x20)], .none, false, 2, 0x0, false,
      [⟨0, 32, .rw, true⟩]⟩,
   ⟨0x20100, [], .none, false, 2, 0x0, false,
      [⟨0, 3, .rw, true⟩, ⟨3, 3, .rw, true⟩, ⟨6, 3, .rw, true⟩, ⟨9, 3, .rw, true⟩]⟩,
   ⟨0x20104, [], .none, false, 2, 0x0, false,
      [⟨0, 4, .ro, false⟩, ⟨4, 4, .ro, false⟩, ⟨8, 4, .ro, false⟩, ⟨12, 4, .ro, false⟩]⟩,
   ⟨0x20108, [], .none, false, 2, 0x0, false,
      [⟨0, 2, .ro, false⟩, ⟨4, 3, .ro, false⟩, ⟨7, 1, .ro, false⟩]⟩,
   ⟨0x20110, [(4, 0x10)], .none, false, 2, 0x0, true,
      [⟨0, 128, .mb, false⟩]⟩,
   ⟨0x20200, [(2, 0x40)], .none, false, 2, 0x0, false,
      [⟨0, 1, .rw, true⟩, ⟨1, 1, .lk, true⟩, ⟨16, 8, .lk, true⟩, ⟨24, 8, .lk, true⟩]⟩,
   ⟨0x20204, [(2, 0x40)], .none, false, 2, 0x0, false,
      [⟨0, 32, .rw, true⟩]⟩,
   ⟨0x20208, [(2, 0x40)], .none, false, 2, 0x0, false,
      [⟨0, 32, .ro, false⟩]⟩,
   ⟨0x2020c, [(2, 0x40)], .none, false, 2, 0x0, false,
      [⟨0, 32, .ro, false⟩]⟩,
   ⟨0x20210, [(2, 0x40)], .none, false, 2, 0x0, false,
      [⟨0, 3, .ro, false⟩, ⟨8, 4, .ro, false⟩, ⟨31, 1, .ro, false⟩]⟩,
   ⟨0x20220, [(2, 0x40)], .none, false, 2, 0x0, true,
      [⟨0, 64, .mb, false⟩]⟩,
   ⟨0x20230, [(2, 0x40)], .none, false, 2, 0x0, true,
      [⟨0, 1, .mb, false⟩, ⟨14, 16, .mb, false⟩, ⟨30, 4, .mb, false⟩, ⟨34, 16, .mb, false⟩, ⟨50, 30, .mb, false⟩, ⟨80, 48, .mb, false⟩]⟩,
   ⟨0x20300, [], .none, false, 2, 0x0, false,
      [⟨0, 1, .ro, false⟩, ⟨1, 1, .ro, false⟩, ⟨2, 1, .ro, false⟩, ⟨16, 16, .ro, false⟩]⟩,
   ⟨0x20304, [], .none, false, 2, 0x0, false,
      [⟨0, 1, .sq, false⟩, ⟨1, 1, .sq, false⟩, ⟨2, 1, .sq, false⟩, ⟨3, 1, .sq, false⟩, ⟨4, 1, .sq, false⟩, ⟨5, 1, .sq, false⟩, ⟨6, 1, .sq, false⟩, ⟨24, 8, .sq, false⟩]⟩,
   ⟨0x20308, [], .none, false, 2, 0x0, false,
      [⟨0, 8, .ro, false⟩, ⟨8, 8, .ro, false⟩, ⟨16, 8, .ro, false⟩, ⟨24, 8, .ro, false⟩]⟩,
   ⟨0x2030c, [], .none, false, 2, 0x0, false,
      [⟨0, 20, .ro, false⟩, ⟨20, 8, .ro, false⟩, ⟨28, 4, .ro, false⟩]⟩ ]

/-- Register tables of block PB. -/
def RegMap.pb0 : List RegRow :=
  [
   ⟨0x30000, [], .none, false, 3, 0x1, false,
      [⟨0, 1, .rw, true⟩, ⟨1, 1, .rw, true⟩]⟩,
   ⟨0x30004, [], .none, false, 3, 0x0, false,
      [⟨0, 16, .ro, false⟩, ⟨22, 1, .ro, false⟩, ⟨23, 1, .ro, false⟩, ⟨24, 3, .ro, false⟩, ⟨27, 3, .ro, false⟩, ⟨30, 1, .ro, false⟩, ⟨31, 1, .ro, false⟩]⟩,
   ⟨0x30008, [], .none, false, 3, 0x0, false,
      [⟨0, 1, .sq, false⟩, ⟨1, 1, .sq, false⟩, ⟨2, 1, .sq, false⟩, ⟨3, 1, .sq, false⟩, ⟨4, 1, .sq, false⟩, ⟨5, 1, .sq, false⟩, ⟨6, 1, .sq, false⟩, ⟨7, 1, .sq, false⟩, ⟨24, 8, .sq, false⟩]⟩,
   ⟨0x30010, [], .none, false, 3, 0x0, false,
      [⟨0, 11, .rw, false⟩]⟩,
   ⟨0x30014, [], .none, false, 3, 0x0, false,
      [⟨0, 32, .rw, false⟩]⟩,
   ⟨0x30018, [], .none, false, 3, 0x0, false,
      [⟨0, 32, .rw, false⟩]⟩,
   ⟨0x3001c, [], .none, false, 3, 0x0, false,
      [⟨0, 32, .rw, false⟩]⟩,
   ⟨0x30020, [], .none, false, 3, 0x0, false,
      [⟨0, 16, .rw, false⟩]⟩,
   ⟨0x30024, [], .none, false, 3, 0x0, false,
      [⟨0, 12, .rw, false⟩]⟩,
   ⟨0x30028, [], .none, false, 3, 0x0, false,
      [⟨0, 1, .ws, false⟩, ⟨1, 1, .ws, false⟩, ⟨2, 1, .ws, false⟩, ⟨3, 1, .ws, false⟩, ⟨4, 1, .ws, false⟩]⟩,
   ⟨0x3002c, [], .none, false, 3, 0x0, false,
      [⟨0, 17, .rw, false⟩]⟩,
   ⟨0x30030, [], .none, false, 3, 0x0, false,
      [⟨0, 16, .rw, false⟩]⟩,
   ⟨0x30034, [], .none, false, 3, 0x0, false,
      [⟨0, 32, .rw, false⟩]⟩,
   ⟨0x30038, [], .none, false, 3, 0x0, false,
      [⟨0, 32, .rw, false⟩]⟩,
   ⟨0x3003c, [], .none, false, 3, 0x0, false,
      [⟨0, 17, .ro, false⟩]⟩,
   ⟨0x30040, [], .none, false, 3, 0x0, false,
      [⟨0, 16, .ro, false⟩]⟩,
   ⟨0x30044, [], .none, false, 3, 0x0, false,
      [⟨0, 32, .rw, false⟩]⟩,
   ⟨0x30048, [], .none, false, 3, 0x0, false,
      [⟨0, 32, .rw, false⟩]⟩,
   ⟨0x3004c, [], .none, false, 3, 0x0, false,
      [⟨0, 16, .ro, false⟩, ⟨16, 11, .ro, false⟩, ⟨27, 5, .ro, false⟩]⟩,
   ⟨0x30050, [], .none, false, 3, 0x0, true,
      [⟨0, 64, .mb, false⟩]⟩ ]

/-- Register tables of block PB. -/
def RegMap.pb1 : List RegRow :=
  [
   ⟨0x30060, [], .none, false, 3, 0x0, false,
      [⟨0, 8, .ro, false⟩, ⟨8, 8, .ro, false⟩, ⟨16, 8, .ro, false⟩, ⟨24, 8, .ro, false⟩]⟩,
   ⟨0x30064, [], .none, true, 3, 0x0, false,
      [⟨0, 6, .rw, false⟩]⟩,
   ⟨0x30068, [], .queue, false, 3, 0x0, false,
      [⟨16, 4, .ro, false⟩, ⟨20, 8, .ro, false⟩, ⟨28, 4, .ro, false⟩]⟩,
   ⟨0x30070, [], .queue, false, 3, 0x0, true,
      [⟨0, 48, .mb, false⟩, ⟨48, 48, .mb, false⟩, ⟨96, 32, .mb, false⟩]⟩,
   ⟨0x30080, [], .none, true, 3, 0x0, false,
      [⟨0, 5, .rw, false⟩]⟩,
   ⟨0x30084, [], .none, false, 3, 0x40, false,
      [⟨0, 7, .ro, false⟩, ⟨24, 8, .ro, false⟩]⟩,
   ⟨0x30088, [], .none, false, 3, 0x0, false,
      [⟨0, 32, .ro, false⟩]⟩,
   ⟨0x30090, [], .link, false, 3, 0x0, true,
      [⟨0, 32, .mb, false⟩, ⟨32, 32, .mb, false⟩, ⟨64, 32, .mb, false⟩, ⟨96, 32, .mb, false⟩]⟩,
   ⟨0x300a0, [], .link, false, 3, 0x0, true,
      [⟨32, 32, .mb, false⟩, ⟨64, 32, .mb, false⟩, ⟨96, 32, .mb, false⟩]⟩,
   ⟨0x300b0, [], .none, false, 3, 0x0, true,
      [⟨0, 64, .mb, false⟩]⟩ ]

/-- Register tables of block OPE. -/
def RegMap.ope0 : List RegRow :=
  [
   ⟨0x40000, [(4, 0x10000)], .none, false, 4, 0x0, false,
      [⟨0, 4, .rw, true⟩]⟩,
   ⟨0x40004, [(4, 0x10000)], .none, false, 4, 0x0, false,
      [⟨0, 1, .sq, false⟩, ⟨1, 1, .sq, false⟩, ⟨2, 1, .sq, false⟩, ⟨3, 1, .sq, false⟩, ⟨4, 1, .sq, false⟩, ⟨5, 1, .sq, false⟩, ⟨24, 8, .sq, false⟩]⟩,
   ⟨0x40010, [(4, 0x10000)], .none, false, 4, 0x0, false,
      [⟨0, 1, .ws, false⟩, ⟨4, 2, .rw, false⟩, ⟨8, 4, .rw, false⟩, ⟨16, 16, .rw, false⟩]⟩,
   ⟨0x40014, [(4, 0x10000)], .none, false, 4, 0x0, false,
      [⟨0, 12, .ro, false⟩, ⟨16, 4, .ro, false⟩, ⟨20, 4, .ro, false⟩, ⟨24, 8, .sq, false⟩]⟩,
   ⟨0x40100, [(4, 0x10000), (4, 0x80)], .none, false, 4, 0x0, false,
      [⟨0, 5, .rw, true⟩, ⟨7, 1, .rw, true⟩, ⟨8, 5, .rw, true⟩, ⟨15, 1, .rw, true⟩, ⟨16, 5, .rw, true⟩, ⟨23, 1, .rw, true⟩, ⟨24, 5, .rw, true⟩, ⟨31, 1, .rw, true⟩]⟩,
   ⟨0x40104, [(4, 0x10000), (4, 0x80)], .none, false, 4, 0x0, false,
      [⟨0, 5, .rw, true⟩, ⟨7, 1, .rw, true⟩, ⟨8, 5, .rw, true⟩, ⟨15, 1, .rw, true⟩, ⟨16, 5, .rw, true⟩, ⟨23, 1, .rw, true⟩, ⟨24, 5, .rw, true⟩, ⟨31, 1, .rw, true⟩]⟩,
   ⟨0x40108, [(4, 0x10000), (4, 0x80)], .none, false, 4, 0xf0f, false,
      [⟨0, 4, .rw, false⟩, ⟨8, 4, .rw, true⟩]⟩,
   ⟨0x4010c, [(4, 0x10000), (4, 0x80)], .none, false, 4, 0x0, false,
      [⟨0, 5, .lk, true⟩, ⟨16, 11, .lk, true⟩]⟩,
   ⟨0x40110, [(4, 0x10000), (4, 0x80)], .none, false, 4, 0x0, false,
      [⟨0, 8, .rw, true⟩, ⟨8, 8, .rw, true⟩, ⟨24, 8, .rw, true⟩]⟩,
   ⟨0x40114, [(4, 0x10000), (4, 0x80)], .none, false, 4, 0x0, false,
      [⟨0, 1, .rw, true⟩, ⟨8, 8, .rw, true⟩]⟩,
   ⟨0x40118, [(4, 0x10000), (4, 0x80)], .none, false, 4, 0xf0000000, false,
      [⟨21, 5, .ro, false⟩, ⟨26, 1, .ro, false⟩, ⟨27, 1, .ro, false⟩, ⟨28, 4, .ro, false⟩]⟩,
   ⟨0x40120, [(4, 0x10000), (4, 0x80)], .none, true, 4, 0x0, false,
      [⟨0, 5, .rw, false⟩]⟩,
   ⟨0x40124, [(4, 0x10000), (4, 0x80)], .pcache, false, 4, 0x0, false,
      [⟨0, 16, .ro, false⟩, ⟨16, 6, .rw, false⟩, ⟨24, 4, .rw, false⟩, ⟨31, 1, .rw, false⟩]⟩,
   ⟨0x40128, [(4, 0x10000), (4, 0x80)], .none, false, 4, 0x0, false,
      [⟨0, 16, .ro, false⟩, ⟨16, 16, .ro, false⟩]⟩,
   ⟨0x4012c, [(4, 0x10000), (4, 0x80)], .none, true, 4, 0x0, false,
      [⟨0, 5, .rw, false⟩]⟩,
   ⟨0x40130, [(4, 0x10000), (4, 0x80)], .pqual, false, 4, 0x0, false,
      [⟨0, 1, .ro, false⟩, ⟨1, 1, .ro, false⟩, ⟨16, 8, .ro, false⟩, ⟨24, 8, .ro, false⟩]⟩,
   ⟨0x40134, [(4, 0x10000), (4, 0x80)], .none, false, 4, 0x0, false,
      [⟨0, 10, .ro, false⟩, ⟨16, 8, .ro, false⟩, ⟨24, 8, .ro, false⟩]⟩,
   ⟨0x40140, [(4, 0x10000), (4, 0x80)], .none, false, 4, 0x0, true,
      [⟨0, 32, .mb, false⟩, ⟨32, 48, .mb, false⟩, ⟨80, 48, .mb, false⟩]⟩ ]

/-- Register tables of block JIG. -/
def RegMap.jig0 : List RegRow :=
  [
   ⟨0x80000, [], .none, false, 8, 0x0, false,
      [⟨0, 4, .rw, true⟩, ⟨4, 2, .rw, true⟩, ⟨8, 1, .rw, true⟩, ⟨9, 1, .rw, true⟩]⟩,
   ⟨0x80004, [], .none, false, 8, 0x0, false,
      [⟨0, 1, .sq, false⟩, ⟨1, 1, .sq, false⟩, ⟨2, 1, .sq, false⟩, ⟨3, 1, .sq, false⟩, ⟨4, 1, .sq, false⟩, ⟨5, 1, .sq, false⟩, ⟨6, 1, .sq, false⟩, ⟨7, 1, .sq, false⟩, ⟨24, 8, .sq, false⟩]⟩,
   ⟨0x80008, [], .none, false, 8, 0x0, false,
      [⟨0, 8, .ro, false⟩, ⟨8, 8, .ro, false⟩, ⟨16, 8, .ro, false⟩, ⟨24, 8, .ro, false⟩]⟩,
   ⟨0x8000c, [], .none, false, 8, 0x0, false,
      [⟨0, 8, .ro, false⟩, ⟨8, 8, .ro, false⟩, ⟨16, 8, .ro, false⟩, ⟨24, 8, .ro, false⟩]⟩,
   ⟨0x80010, [], .none, false, 8, 0x32c80a03, false,
      [⟨0, 8, .rw, true⟩, ⟨8, 8, .rw, true⟩, ⟨16, 8, .rw, true⟩, ⟨24, 8, .rw, true⟩]⟩,
   ⟨0x80014, [], .none, false, 8, 0x5050032, false,
      [⟨0, 16, .rw, true⟩, ⟨16, 8, .rw, true⟩, ⟨24, 8, .rw, true⟩]⟩,
   ⟨0x80018, [], .none, false, 8, 0xf0300c8, false,
      [⟨0, 16, .rw, true⟩, ⟨16, 8, .rw, true⟩, ⟨24, 8, .rw, true⟩]⟩,
   ⟨0x8001c, [], .none, false, 8, 0x289c40, false,
      [⟨0, 16, .rw, true⟩, ⟨16, 16, .rw, true⟩]⟩,
   ⟨0x80020, [], .none, false, 8, 0x3040190, false,
      [⟨0, 16, .rw, true⟩, ⟨16, 8, .rw, true⟩, ⟨24, 8, .rw, true⟩]⟩,
   ⟨0x80024, [], .none, false, 8, 0xa000a, false,
      [⟨0, 16, .rw, true⟩, ⟨16, 16, .rw, true⟩]⟩,
   ⟨0x80028, [], .none, false, 8, 0x0, false,
      [⟨0, 16, .ro, false⟩, ⟨16, 16, .ro, false⟩]⟩,
   ⟨0x80030, [(4, 0x4)], .none, false, 8, 0x0, false,
      [⟨0, 16, .ro, false⟩, ⟨16, 8, .ro, false⟩]⟩,
   ⟨0x80040, [], .none, true, 8, 0x0, false,
      [⟨0, 8, .rw, false⟩]⟩,
   ⟨0x80044, [], .loop, false, 8, 0x0, false,
      [⟨0, 1, .ws, false⟩, ⟨1, 1, .ws, false⟩, ⟨2, 1, .ws, false⟩, ⟨3, 1, .ws, false⟩, ⟨4, 1, .ws, false⟩]⟩,
   ⟨0x80048, [], .loop, false, 8, 0x0, false,
      [⟨0, 16, .ro, false⟩, ⟨16, 4, .ro, false⟩, ⟨20, 1, .ro, false⟩, ⟨21, 5, .ro, false⟩, ⟨26, 1, .ro, false⟩, ⟨27, 1, .ro, false⟩, ⟨28, 1, .ro, false⟩, ⟨29, 3, .ro, false⟩]⟩,
   ⟨0x8004c, [], .loop, false, 8, 0x0, false,
      [⟨0, 16, .rw, true⟩, ⟨16, 16, .rw, true⟩]⟩,
   ⟨0x80050, [], .loop, false, 8, 0x3c, false,
      [⟨0, 16, .rw, true⟩, ⟨16, 8, .rw, false⟩]⟩,
   ⟨0x80054, [], .loop, false, 8, 0x0, false,
      [⟨0, 16, .ro, false⟩, ⟨16, 16, .ro, false⟩]⟩,
   ⟨0x80058, [], .loop, false, 8, 0x0, false,
      [⟨0, 16, .ro, false⟩, ⟨16, 16, .ro, false⟩]⟩,
   ⟨0x80060, [], .loop, false, 8, 0x0, true,
      [⟨0, 32, .mb, false⟩, ⟨32, 32, .mb, false⟩, ⟨64, 32, .mb, false⟩, ⟨96, 32, .mb, false⟩]⟩ ]

/-- Register tables of block JIG. -/
def RegMap.jig1 : List RegRow :=
  [
   ⟨0x80070, [], .none, true, 8, 0x0, false,
      [⟨0, 6, .rw, false⟩, ⟨16, 6, .rw, false⟩, ⟨24, 2, .rw, false⟩]⟩,
   ⟨0x80074, [], .cmat, false, 8, 0x0, false,
      [⟨0, 16, .rw, false⟩, ⟨16, 16, .ro, false⟩]⟩,
   ⟨0x80078, [], .none, false, 8, 0x0, false,
      [⟨0, 4, .ws, false⟩, ⟨4, 4, .ws, false⟩]⟩ ]

/-- Register tables of block ED. -/
def RegMap.ed0 : List RegRow :=
  [
   ⟨0xc00000, [(2, 0x10000)], .none, false, 21, 0x0, false,
      [⟨0, 1, .ro, false⟩, ⟨1, 1, .ro, false⟩, ⟨31, 1, .ro, false⟩]⟩,
   ⟨0xc00004, [(2, 0x10000)], .none, false, 21, 0x0, false,
      [⟨0, 1, .sq, false⟩, ⟨1, 1, .sq, false⟩, ⟨2, 1, .sq, false⟩, ⟨3, 1, .sq, false⟩, ⟨4, 1, .sq, false⟩, ⟨24, 8, .sq, false⟩]⟩,
   ⟨0xc00008, [(2, 0x10000)], .none, false, 21, 0x0, false,
      [⟨0, 8, .ro, false⟩, ⟨8, 8, .ro, false⟩, ⟨16, 8, .ro, false⟩, ⟨24, 8, .ro, false⟩]⟩,
   ⟨0xc0000c, [(2, 0x10000)], .none, false, 21, 0x0, false,
      [⟨0, 6, .wp, false⟩, ⟨7, 1, .wp, false⟩, ⟨8, 1, .wp, false⟩]⟩,
   ⟨0xc00010, [(2, 0x10000)], .edCh, false, 21, 0x21, false,
      [⟨0, 2, .wp, true⟩, ⟨4, 3, .wp, true⟩]⟩,
   ⟨0xc00014, [(2, 0x10000)], .edCh, false, 21, 0x0, false,
      [⟨0, 24, .ro, false⟩]⟩,
   ⟨0xc00018, [(2, 0x10000)], .edCh, false, 21, 0x0, false,
      [⟨0, 6, .wp, true⟩, ⟨31, 1, .wp, true⟩]⟩,
   ⟨0xc0001c, [(2, 0x10000)], .none, false, 21, 0x0, false,
      [⟨0, 16, .ro, false⟩]⟩,
   ⟨0xc00020, [(2, 0x10000)], .edCh, false, 21, 0x0, false,
      [⟨0, 16, .wp, true⟩]⟩ ]

/-- Register tables of block CAL. -/
def RegMap.cal0 : List RegRow :=
  [
   ⟨0x98000, [], .none, false, 9, 0x0, false,
      [⟨0, 1, .ws, false⟩, ⟨1, 1, .ws, false⟩]⟩,
   ⟨0x98004, [], .none, false, 9, 0x0, false,
      [⟨0, 14, .ro, false⟩, ⟨26, 3, .ro, false⟩, ⟨29, 3, .ro, false⟩]⟩,
   ⟨0x98008, [], .none, false, 9, 0x0, false,
      [⟨0, 1, .sq, false⟩, ⟨1, 1, .sq, false⟩, ⟨2, 1, .sq, false⟩, ⟨3, 1, .sq, false⟩, ⟨4, 1, .sq, false⟩, ⟨24, 8, .sq, false⟩]⟩,
   ⟨0x9800c, [], .none, false, 9, 0x0, false,
      [⟨8, 8, .ro, false⟩, ⟨16, 8, .ro, false⟩, ⟨24, 8, .ro, false⟩]⟩,
   ⟨0x98010, [], .none, false, 9, 0x0, true,
      [⟨0, 64, .mb, false⟩]⟩,
   ⟨0x98020, [], .none, false, 9, 0x0, false,
      [⟨0, 8, .ro, false⟩, ⟨8, 8, .ro, false⟩, ⟨16, 8, .ro, false⟩, ⟨24, 8, .ro, false⟩]⟩,
   ⟨0x98100, [(16, 0x8)], .none, false, 9, 0x0, false,
      [⟨0, 32, .rw, true⟩]⟩,
   ⟨0x98104, [(16, 0x8)], .none, false, 9, 0x0, false,
      [⟨0, 32, .rw, true⟩]⟩,
   ⟨0x98200, [(2, 0x20)], .none, false, 9, 0xf1e3c00, false,
      [⟨8, 8, .rw, true⟩, ⟨16, 8, .rw, true⟩, ⟨24, 8, .rw, true⟩]⟩,
   ⟨0x98204, [(2, 0x20)], .none, false, 9, 0x0, false,
      [⟨0, 16, .ro, false⟩, ⟨25, 3, .ro, false⟩, ⟨28, 1, .ro, false⟩, ⟨29, 1, .ro, false⟩, ⟨30, 2, .ro, false⟩]⟩,
   ⟨0x98208, [(2, 0x20)], .none, false, 9, 0x0, false,
      [⟨0, 16, .ro, false⟩, ⟨16, 16, .ro, false⟩]⟩,
   ⟨0x9820c, [(2, 0x20)], .none, false, 9, 0x0, false,
      [⟨0, 1, .ws, false⟩, ⟨1, 1, .ws, false⟩]⟩,
   ⟨0x98210, [(2, 0x20)], .none, false, 9, 0x0, false,
      [⟨0, 8, .ro, false⟩, ⟨8, 8, .ro, false⟩, ⟨16, 16, .ro, false⟩]⟩,
   ⟨0x98214, [(2, 0x20)], .none, false, 9, 0x1f3c32, false,
      [⟨0, 8, .rw, true⟩, ⟨8, 8, .rw, true⟩, ⟨16, 8, .rw, true⟩]⟩,
   ⟨0x98280, [], .none, false, 9, 0x0, false,
      [⟨0, 1, .sq, false⟩, ⟨1, 1, .sq, false⟩, ⟨2, 1, .sq, false⟩, ⟨3, 1, .sq, false⟩, ⟨4, 1, .sq, false⟩, ⟨5, 1, .sq, false⟩, ⟨6, 1, .sq, false⟩, ⟨7, 1, .sq, false⟩, ⟨24, 8, .sq, false⟩]⟩,
   ⟨0x90000, [], .none, false, 9, 0x0, false,
      [⟨0, 1, .rw, true⟩, ⟨1, 1, .rw, true⟩, ⟨2, 1, .rw, true⟩, ⟨3, 1, .rw, true⟩, ⟨4, 1, .lk, true⟩, ⟨8, 8, .rw, true⟩]⟩,
   ⟨0x90004, [], .none, false, 9, 0x0, false,
      [⟨0, 1, .ws, false⟩, ⟨1, 1, .ws, false⟩, ⟨2, 1, .ws, false⟩, ⟨3, 1, .ws, false⟩, ⟨16, 12, .rw, false⟩, ⟨28, 4, .rw, false⟩]⟩,
   ⟨0x90008, [], .none, false, 9, 0x0, false,
      [⟨0, 8, .ro, false⟩, ⟨8, 8, .ro, false⟩, ⟨16, 8, .ro, false⟩, ⟨29, 1, .ro, false⟩, ⟨30, 1, .ro, false⟩, ⟨31, 1, .ro, false⟩]⟩,
   ⟨0x9000c, [], .none, false, 9, 0x0, false,
      [⟨0, 1, .sq, false⟩, ⟨1, 1, .sq, false⟩, ⟨2, 1, .sq, false⟩, ⟨3, 1, .sq, false⟩, ⟨4, 1, .sq, false⟩, ⟨5, 1, .sq, false⟩, ⟨6, 1, .sq, false⟩, ⟨7, 1, .sq, false⟩, ⟨8, 1, .sq, false⟩, ⟨24, 8, .sq, false⟩]⟩,
   ⟨0x90010, [], .none, false, 9, 0x0, false,
      [⟨0, 8, .ro, false⟩, ⟨8, 8, .ro, false⟩, ⟨16, 8, .ro, false⟩, ⟨24, 8, .ro, false⟩]⟩ ]

/-- Register tables of block CAL. -/
def RegMap.cal1 : List RegRow :=
  [
   ⟨0x90014, [], .none, false, 9, 0x28003c, false,
      [⟨0, 16, .rw, true⟩, ⟨16, 16, .rw, true⟩]⟩,
   ⟨0x90018, [], .none, false, 9, 0xe10, false,
      [⟨0, 32, .rw, true⟩]⟩,
   ⟨0x9001c, [], .none, false, 9, 0x6f, false,
      [⟨0, 16, .rw, true⟩]⟩,
   ⟨0x90020, [(4, 0x4)], .none, false, 9, 0x0, false,
      [⟨0, 16, .ro, false⟩]⟩,
   ⟨0x90030, [(6, 0x4)], .none, false, 9, 0x0, false,
      [⟨0, 16, .ro, false⟩, ⟨16, 16, .ro, false⟩]⟩,
   ⟨0x90050, [], .none, true, 9, 0x0, false,
      [⟨0, 12, .rw, false⟩, ⟨28, 4, .rw, false⟩]⟩,
   ⟨0x90054, [], .calRes, false, 9, 0x0, false,
      [⟨0, 24, .ro, false⟩, ⟨24, 4, .ro, false⟩, ⟨28, 4, .ro, false⟩]⟩,
   ⟨0x90058, [], .calRes, false, 9, 0x0, false,
      [⟨0, 16, .ro, false⟩, ⟨16, 16, .ro, false⟩]⟩,
   ⟨0x9005c, [], .calRes, false, 9, 0x0, false,
      [⟨0, 16, .ro, false⟩, ⟨16, 16, .ro, false⟩]⟩,
   ⟨0x90060, [], .none, false, 9, 0x32961432, false,
      [⟨0, 8, .lk, true⟩, ⟨8, 8, .lk, true⟩, ⟨16, 8, .lk, true⟩, ⟨24, 8, .lk, true⟩]⟩,
   ⟨0x90064, [], .none, false, 9, 0x1482000, false,
      [⟨0, 16, .lk, true⟩, ⟨16, 16, .lk, true⟩]⟩,
   ⟨0x90068, [], .none, false, 9, 0xb40096, false,
      [⟨0, 16, .lk, true⟩, ⟨16, 16, .lk, true⟩]⟩,
   ⟨0x9006c, [], .none, false, 9, 0x141e0a0a, false,
      [⟨0, 8, .lk, true⟩, ⟨8, 8, .lk, true⟩, ⟨16, 8, .lk, true⟩, ⟨24, 8, .lk, true⟩]⟩,
   ⟨0x90070, [], .none, false, 9, 0x7d00014, false,
      [⟨0, 16, .rw, true⟩, ⟨16, 16, .rw, true⟩]⟩,
   ⟨0x90080, [], .none, false, 9, 0x0, false,
      [⟨0, 32, .rw, true⟩]⟩,
   ⟨0x90084, [], .none, false, 9, 0x0, false,
      [⟨0, 16, .rw, true⟩]⟩,
   ⟨0x90088, [], .none, false, 9, 0x0, false,
      [⟨0, 1, .ro, false⟩, ⟨1, 1, .ro, false⟩, ⟨2, 1, .ro, false⟩, ⟨3, 1, .ro, false⟩, ⟨16, 16, .ro, false⟩]⟩ ]

/-- Register tables of block CU. -/
def RegMap.cu0 : List RegRow :=
  [
   ⟨0xa0000, [(6, 0x10000)], .none, false, 10, 0x0, false,
      [⟨0, 1, .rw, true⟩, ⟨2, 1, .lk, true⟩, ⟨3, 1, .rw, true⟩, ⟨8, 12, .lk, true⟩]⟩,
   ⟨0xa0004, [(6, 0x10000)], .none, false, 10, 0xff0000, false,
      [⟨0, 9, .ro, false⟩, ⟨16, 4, .ro, false⟩, ⟨20, 4, .ro, false⟩, ⟨24, 4, .ro, false⟩, ⟨28, 4, .ro, false⟩]⟩,
   ⟨0xa0008, [(6, 0x10000)], .none, false, 10, 0x0, false,
      [⟨0, 1, .sq, false⟩, ⟨1, 1, .sq, false⟩, ⟨2, 1, .sq, false⟩, ⟨3, 1, .sq, false⟩, ⟨4, 1, .sq, false⟩, ⟨5, 1, .sq, false⟩, ⟨6, 1, .sq, false⟩, ⟨7, 1, .sq, false⟩, ⟨8, 1, .sq, false⟩, ⟨24, 8, .sq, false⟩]⟩,
   ⟨0xa000c, [(6, 0x10000)], .none, false, 10, 0x0, false,
      [⟨0, 1, .ws, false⟩, ⟨1, 1, .ws, false⟩, ⟨2, 1, .ws, false⟩, ⟨4, 4, .rw, false⟩, ⟨8, 1, .rw, false⟩]⟩,
   ⟨0xa0010, [(6, 0x10000)], .none, false, 10, 0x0, true,
      [⟨0, 12, .mb, false⟩, ⟨12, 3, .mb, false⟩, ⟨16, 4, .mb, false⟩, ⟨48, 8, .mb, false⟩, ⟨56, 8, .mb, false⟩, ⟨64, 32, .mb, false⟩, ⟨96, 32, .mb, false⟩]⟩,
   ⟨0xa0020, [(6, 0x10000)], .none, false, 10, 0x0, true,
      [⟨0, 128, .mb, false⟩]⟩,
   ⟨0xa0030, [(6, 0x10000)], .none, true, 10, 0x0, false,
      [⟨0, 4, .rw, false⟩]⟩,
   ⟨0xa0034, [(6, 0x10000)], .lane, false, 10, 0x0, false,
      [⟨0, 8, .ro, false⟩, ⟨8, 8, .ro, false⟩, ⟨22, 1, .ro, false⟩, ⟨23, 1, .ro, false⟩, ⟨24, 4, .ro, false⟩, ⟨28, 4, .ro, false⟩]⟩,
   ⟨0xa0040, [(6, 0x10000)], .none, false, 10, 0x0, true,
      [⟨0, 8, .mb, false⟩, ⟨8, 8, .mb, false⟩, ⟨16, 16, .mb, false⟩, ⟨32, 16, .mb, false⟩, ⟨48, 16, .mb, false⟩, ⟨64, 32, .mb, false⟩, ⟨96, 32, .mb, false⟩]⟩,
   ⟨0xa8000, [(8, 0x4)], .none, false, 10, 0xffffffff, false,
      [⟨0, 4, .rw, true⟩, ⟨4, 4, .rw, true⟩, ⟨8, 4, .rw, true⟩, ⟨12, 4, .rw, true⟩, ⟨16, 4, .rw, true⟩, ⟨20, 4, .rw, true⟩, ⟨24, 4, .rw, true⟩, ⟨28, 4, .rw, true⟩]⟩,
   ⟨0xa8020, [], .none, false, 10, 0xffff, false,
      [⟨0, 4, .rw, true⟩, ⟨4, 4, .rw, true⟩, ⟨8, 4, .rw, true⟩, ⟨12, 4, .rw, true⟩]⟩,
   ⟨0xa8040, [(16, 0x4)], .none, false, 10, 0x0, false,
      [⟨0, 7, .rw, true⟩, ⟨7, 1, .rw, true⟩, ⟨8, 7, .rw, true⟩, ⟨15, 1, .rw, true⟩, ⟨16, 7, .rw, true⟩, ⟨23, 1, .rw, true⟩, ⟨24, 7, .rw, true⟩, ⟨31, 1, .rw, true⟩]⟩ ]

/-- Register tables of block CL. -/
def RegMap.cl0 : List RegRow :=
  [
   ⟨0x200000, [(8, 0x100000), (256, 0x1000)], .none, false, 32, 0x7ff, false,
      [⟨0, 11, .ro, false⟩, ⟨16, 11, .ro, false⟩, ⟨29, 1, .ro, false⟩, ⟨30, 2, .ro, false⟩]⟩,
   ⟨0x200004, [(8, 0x100000), (256, 0x1000)], .none, false, 32, 0x0, false,
      [⟨0, 1, .ws, false⟩, ⟨1, 1, .ws, false⟩, ⟨2, 1, .ws, false⟩, ⟨3, 1, .ws, false⟩]⟩,
   ⟨0x200008, [(8, 0x100000), (256, 0x1000)], .none, false, 32, 0x0, false,
      [⟨0, 13, .ro, false⟩, ⟨16, 3, .ro, false⟩, ⟨27, 1, .ro, false⟩, ⟨28, 1, .ro, false⟩, ⟨29, 3, .ro, false⟩]⟩,
   ⟨0x20000c, [(8, 0x100000), (256, 0x1000)], .none, false, 32, 0x0, false,
      [⟨0, 1, .sq, false⟩, ⟨1, 1, .sq, false⟩, ⟨2, 1, .sq, false⟩, ⟨3, 1, .sq, false⟩, ⟨4, 1, .sq, false⟩, ⟨5, 1, .sq, false⟩, ⟨6, 1, .sq, false⟩, ⟨24, 8, .sq, false⟩]⟩,
   ⟨0x200010, [(8, 0x100000), (256, 0x1000)], .none, false, 32, 0x0, false,
      [⟨0, 13, .ro, false⟩, ⟨24, 8, .ro, false⟩]⟩,
   ⟨0x200014, [(8, 0x100000), (256, 0x1000)], .none, false, 32, 0x0, false,
      [⟨0, 1, .sq, false⟩, ⟨1, 1, .sq, false⟩, ⟨2, 1, .sq, false⟩, ⟨3, 1, .sq, false⟩, ⟨4, 1, .sq, false⟩, ⟨5, 1, .sq, false⟩, ⟨24, 8, .sq, false⟩]⟩,
   ⟨0x200018, [(8, 0x100000), (256, 0x1000)], .none, false, 32, 0x0, false,
      [⟨0, 32, .rw, false⟩]⟩,
   ⟨0x20001c, [(8, 0x100000), (256, 0x1000)], .none, false, 32, 0x0, false,
      [⟨0, 32, .rw, false⟩]⟩,
   ⟨0x200020, [(8, 0x100000), (256, 0x1000)], .none, false, 32, 0x64, false,
      [⟨0, 16, .rw, true⟩]⟩,
   ⟨0x200030, [(8, 0x100000), (256, 0x1000)], .none, false, 32, 0x0, true,
      [⟨0, 48, .mb, false⟩, ⟨64, 48, .mb, false⟩]⟩,
   ⟨0x200040, [(8, 0x100000), (256, 0x1000)], .none, false, 32, 0x0, false,
      [⟨0, 8, .ro, false⟩, ⟨8, 8, .ro, false⟩, ⟨16, 8, .ro, false⟩, ⟨24, 8, .ro, false⟩]⟩,
   ⟨0x200044, [(8, 0x100000), (256, 0x1000)], .none, false, 32, 0x0, false,
      [⟨0, 16, .ro, false⟩]⟩,
   ⟨0x200080, [(8, 0x100000), (256, 0x1000)], .none, false, 32, 0x0, false,
      [⟨18, 4, .ro, false⟩, ⟨22, 6, .ro, false⟩, ⟨28, 4, .ro, false⟩]⟩,
   ⟨0x200084, [(8, 0x100000), (256, 0x1000)], .none, false, 32, 0x0, false,
      [⟨0, 6, .ro, false⟩, ⟨8, 6, .ro, false⟩, ⟨16, 6, .ro, false⟩, ⟨24, 6, .ro, false⟩]⟩,
   ⟨0x200088, [(8, 0x100000), (256, 0x1000)], .none, false, 32, 0x0, false,
      [⟨0, 6, .ro, false⟩, ⟨8, 6, .ro, false⟩, ⟨16, 6, .ro, false⟩, ⟨24, 6, .ro, false⟩]⟩,
   ⟨0x20008c, [(8, 0x100000), (256, 0x1000)], .none, false, 32, 0x0, false,
      [⟨0, 13, .ro, false⟩, ⟨13, 3, .ro, false⟩, ⟨16, 14, .ro, false⟩, ⟨31, 1, .ro, false⟩]⟩ ]

/-- Register tables of block MEM. -/
def RegMap.mem0 : List RegRow :=
  [
   ⟨0xa00000, [], .none, false, 19, 0x801, false,
      [⟨0, 1, .rw, true⟩, ⟨8, 8, .lk, true⟩]⟩,
   ⟨0xa00004, [], .none, false, 19, 0x0, false,
      [⟨0, 1, .sq, false⟩, ⟨1, 1, .sq, false⟩, ⟨2, 1, .sq, false⟩, ⟨3, 1, .sq, false⟩, ⟨4, 1, .sq, false⟩, ⟨5, 1, .sq, false⟩, ⟨24, 8, .sq, false⟩]⟩,
   ⟨0xa00010, [], .none, true, 19, 0x0, false,
      [⟨0, 7, .rw, false⟩]⟩,
   ⟨0xa00014, [], .channel, false, 19, 0x0, false,
      [⟨2, 1, .ro, false⟩, ⟨3, 2, .ro, false⟩, ⟨5, 3, .ro, false⟩, ⟨8, 8, .ro, false⟩, ⟨16, 8, .ro, false⟩, ⟨24, 8, .ro, false⟩]⟩,
   ⟨0xa00020, [], .none, false, 19, 0x0, true,
      [⟨0, 48, .mb, false⟩, ⟨80, 8, .mb, false⟩, ⟨88, 8, .mb, false⟩]⟩,
   ⟨0xa40000, [], .none, true, 19, 0x0, false,
      [⟨0, 6, .rw, false⟩]⟩,
   ⟨0xa40004, [], .ring, false, 19, 0x0, false,
      [⟨0, 32, .rw, true⟩]⟩,
   ⟨0xa40008, [], .ring, false, 19, 0x0, false,
      [⟨0, 16, .rw, true⟩]⟩,
   ⟨0xa4000c, [], .ring, false, 19, 0x0, false,
      [⟨0, 9, .rw, true⟩, ⟨16, 11, .rw, true⟩, ⟨28, 3, .rw, true⟩, ⟨31, 1, .rw, true⟩]⟩,
   ⟨0xa40010, [], .ring, false, 19, 0x0, false,
      [⟨1, 11, .ro, false⟩, ⟨12, 11, .ro, false⟩, ⟨23, 1, .sq, false⟩, ⟨24, 8, .sq, false⟩]⟩,
   ⟨0xa40014, [], .ring, false, 19, 0x0, false,
      [⟨0, 11, .ro, false⟩, ⟨31, 1, .ro, false⟩]⟩,
   ⟨0xa40018, [], .ring, false, 19, 0x0, false,
      [⟨0, 11, .ws, false⟩]⟩,
   ⟨0xa40020, [], .ring, false, 19, 0x0, true,
      [⟨0, 32, .mb, false⟩, ⟨32, 32, .mb, false⟩, ⟨64, 32, .mb, false⟩, ⟨96, 32, .mb, false⟩]⟩,
   ⟨0xa60000, [], .none, true, 19, 0x0, false,
      [⟨0, 6, .rw, false⟩]⟩,
   ⟨0xa60004, [], .fell, false, 19, 0x0, false,
      [⟨0, 32, .rw, true⟩]⟩,
   ⟨0xa60008, [], .fell, false, 19, 0x0, false,
      [⟨0, 16, .rw, true⟩]⟩,
   ⟨0xa6000c, [], .fell, false, 19, 0x0, false,
      [⟨0, 32, .rw, true⟩]⟩,
   ⟨0xa60010, [], .fell, false, 19, 0x0, false,
      [⟨0, 14, .rw, true⟩, ⟨14, 1, .rw, true⟩, ⟨28, 3, .rw, true⟩, ⟨31, 1, .rw, true⟩]⟩,
   ⟨0xa60014, [], .fell, false, 19, 0x0, false,
      [⟨0, 32, .rw, false⟩]⟩,
   ⟨0xa60018, [], .fell, false, 19, 0x0, false,
      [⟨0, 1, .sq, false⟩, ⟨2, 1, .sq, false⟩, ⟨3, 1, .sq, false⟩, ⟨4, 1, .sq, false⟩, ⟨24, 8, .sq, false⟩]⟩ ]

/-- Register tables of block MEM. -/
def RegMap.mem1 : List RegRow :=
  [
   ⟨0xa6001c, [], .fell, false, 19, 0x0, false,
      [⟨0, 19, .rw, true⟩]⟩,
   ⟨0xa60020, [], .fell, false, 19, 0x0, true,
      [⟨32, 32, .mb, false⟩, ⟨64, 32, .mb, false⟩, ⟨96, 32, .mb, false⟩]⟩ ]

/-- Register tables of block OPN. -/
def RegMap.opn0 : List RegRow :=
  [
   ⟨0x100000, [], .none, false, 16, 0x0, false,
      [⟨0, 1, .sq, false⟩, ⟨1, 1, .sq, false⟩, ⟨24, 8, .sq, false⟩]⟩,
   ⟨0x100004, [], .none, true, 16, 0x0, false,
      [⟨0, 4, .rw, false⟩]⟩,
   ⟨0x100010, [], .path, false, 16, 0x0, true,
      [⟨0, 16, .mb, false⟩, ⟨16, 16, .mb, false⟩, ⟨32, 48, .mb, false⟩, ⟨80, 48, .mb, false⟩]⟩ ]

/-- Register tables of block CPY. -/
def RegMap.cpy0 : List RegRow :=
  [
   ⟨0x110000, [(12, 0x10)], .none, false, 17, 0x0, false,
      [⟨0, 32, .rw, false⟩]⟩,
   ⟨0x110004, [(12, 0x10)], .none, false, 17, 0x0, false,
      [⟨0, 16, .rw, false⟩, ⟨28, 4, .rw, false⟩]⟩,
   ⟨0x110008, [(12, 0x10)], .none, false, 17, 0x0, false,
      [⟨0, 16, .rw, false⟩]⟩,
   ⟨0x11000c, [(12, 0x10)], .none, false, 17, 0x0, false,
      [⟨0, 16, .ro, false⟩, ⟨24, 8, .ro, false⟩]⟩,
   ⟨0x110200, [], .none, false, 17, 0x0, false,
      [⟨0, 1, .sq, false⟩, ⟨1, 1, .sq, false⟩, ⟨2, 1, .sq, false⟩, ⟨24, 8, .sq, false⟩]⟩,
   ⟨0x110208, [], .none, true, 17, 0x0, false,
      [⟨0, 7, .rw, false⟩]⟩,
   ⟨0x11020c, [], .engine, false, 17, 0x0, false,
      [⟨0, 16, .ro, false⟩, ⟨16, 8, .ro, false⟩, ⟨24, 8, .ro, false⟩]⟩ ]

/-- Register tables of block GTH. -/
def RegMap.gth0 : List RegRow :=
  [
   ⟨0x120000, [], .none, false, 18, 0x0, false,
      [⟨0, 16, .ro, false⟩, ⟨16, 8, .ro, false⟩, ⟨24, 8, .ro, false⟩]⟩,
   ⟨0x120010, [], .none, false, 18, 0x0, true,
      [⟨0, 128, .mb, false⟩]⟩,
   ⟨0x120020, [], .none, true, 18, 0x0, false,
      [⟨0, 4, .rw, false⟩, ⟨4, 3, .rw, false⟩, ⟨7, 1, .rw, false⟩]⟩,
   ⟨0x120030, [], .vec, false, 18, 0x0, true,
      [⟨0, 128, .mb, false⟩]⟩ ]

/-- Register tables of block ULK. -/
def RegMap.ulk0 : List RegRow :=
  [
   ⟨0xb00000, [], .none, false, 20, 0x640003, false,
      [⟨0, 1, .rw, true⟩, ⟨1, 1, .rw, true⟩, ⟨16, 16, .rw, true⟩]⟩,
   ⟨0xb00004, [], .none, false, 20, 0x0, false,
      [⟨0, 16, .ro, false⟩, ⟨16, 8, .ro, false⟩, ⟨28, 1, .ro, false⟩, ⟨29, 3, .ro, false⟩]⟩,
   ⟨0xb00008, [], .none, false, 20, 0x0, false,
      [⟨0, 1, .sq, false⟩, ⟨1, 1, .sq, false⟩, ⟨2, 1, .sq, false⟩, ⟨3, 1, .sq, false⟩, ⟨4, 1, .sq, false⟩, ⟨5, 1, .sq, false⟩, ⟨6, 1, .sq, false⟩, ⟨7, 1, .sq, false⟩, ⟨24, 8, .sq, false⟩]⟩,
   ⟨0xb0000c, [], .none, false, 20, 0x0, false,
      [⟨0, 1, .ws, false⟩]⟩,
   ⟨0xb00010, [], .none, false, 20, 0x0, false,
      [⟨0, 8, .ro, false⟩, ⟨8, 8, .ro, false⟩, ⟨16, 8, .ro, false⟩, ⟨24, 8, .ro, false⟩]⟩,
   ⟨0xb00014, [], .none, false, 20, 0x0, false,
      [⟨0, 16, .rw, true⟩, ⟨16, 16, .rw, true⟩]⟩,
   ⟨0xb00018, [], .none, false, 20, 0x0, false,
      [⟨0, 8, .ro, false⟩, ⟨11, 21, .ro, false⟩]⟩,
   ⟨0xb0001c, [], .none, false, 20, 0xa, false,
      [⟨0, 16, .rw, true⟩]⟩,
   ⟨0xb00020, [], .none, false, 20, 0x0, false,
      [⟨0, 32, .rw, true⟩]⟩,
   ⟨0xb00024, [], .none, false, 20, 0x0, false,
      [⟨0, 16, .rw, true⟩]⟩,
   ⟨0xb00028, [], .none, false, 20, 0xfa0000, false,
      [⟨0, 8, .rw, true⟩, ⟨16, 16, .rw, true⟩]⟩,
   ⟨0xb0002c, [], .none, false, 20, 0x0, false,
      [⟨4, 4, .ro, false⟩, ⟨8, 8, .ro, false⟩, ⟨16, 8, .ro, false⟩, ⟨24, 8, .ro, false⟩]⟩,
   ⟨0xb00030, [], .none, false, 20, 0x0, false,
      [⟨0, 32, .rw, true⟩]⟩,
   ⟨0xb00034, [], .none, false, 20, 0x0, false,
      [⟨0, 15, .rw, true⟩, ⟨31, 1, .rw, true⟩]⟩,
   ⟨0xb00038, [], .none, false, 20, 0x0, false,
      [⟨0, 24, .ro, false⟩, ⟨24, 8, .ro, false⟩]⟩,
   ⟨0xb00040, [], .none, false, 20, 0x0, true,
      [⟨0, 48, .mb, false⟩, ⟨96, 32, .mb, false⟩]⟩ ]

/-- Register tables of block PWR. -/
def RegMap.pwr0 : List RegRow :=
  [
   ⟨0xf00000, [], .none, false, 25, 0x0, false,
      [⟨0, 1, .rw, true⟩]⟩,
   ⟨0xf00004, [], .none, false, 25, 0x0, false,
      [⟨0, 1, .ws, false⟩, ⟨1, 1, .ws, false⟩, ⟨2, 1, .ws, false⟩]⟩,
   ⟨0xf00008, [], .none, false, 25, 0x60000000, false,
      [⟨0, 20, .ro, false⟩, ⟨28, 1, .ro, false⟩, ⟨29, 3, .ro, false⟩]⟩,
   ⟨0xf0000c, [], .none, false, 25, 0x0, false,
      [⟨0, 1, .sq, false⟩, ⟨1, 1, .sq, false⟩, ⟨2, 1, .sq, false⟩, ⟨3, 1, .sq, false⟩, ⟨4, 1, .sq, false⟩, ⟨5, 1, .sq, false⟩, ⟨24, 8, .sq, false⟩]⟩,
   ⟨0xf00010, [], .none, false, 25, 0x0, false,
      [⟨0, 8, .ro, false⟩, ⟨8, 8, .ro, false⟩, ⟨16, 8, .ro, false⟩, ⟨24, 8, .ro, false⟩]⟩,
   ⟨0xf00014, [], .none, false, 25, 0x6973, false,
      [⟨0, 8, .ro, false⟩, ⟨8, 8, .lk, true⟩]⟩,
   ⟨0xf00018, [], .none, false, 25, 0x0, false,
      [⟨0, 16, .ro, false⟩, ⟨24, 8, .ro, false⟩]⟩,
   ⟨0xf0001c, [], .none, true, 25, 0x0, false,
      [⟨0, 8, .rw, false⟩]⟩,
   ⟨0xf00020, [], .sensor, false, 25, 0x0, false,
      [⟨0, 16, .ro, false⟩, ⟨16, 16, .ro, false⟩]⟩,
   ⟨0xf00024, [], .none, true, 25, 0x0, false,
      [⟨0, 5, .rw, false⟩]⟩,
   ⟨0xf00028, [], .rail, false, 25, 0x0, false,
      [⟨0, 16, .ro, false⟩, ⟨16, 15, .ro, false⟩, ⟨31, 1, .ro, false⟩]⟩ ]

/-- Register tables of block BOOT. -/
def RegMap.boot0 : List RegRow :=
  [
   ⟨0xe00000, [], .none, false, 24, 0x0, false,
      [⟨15, 4, .ro, false⟩, ⟨19, 4, .ro, false⟩, ⟨23, 1, .ro, true⟩, ⟨24, 1, .ro, false⟩, ⟨25, 1, .ro, false⟩, ⟨26, 1, .ro, false⟩, ⟨27, 1, .ro, false⟩, ⟨28, 4, .ro, false⟩]⟩,
   ⟨0xe00004, [], .none, false, 24, 0x0, false,
      [⟨0, 1, .sq, false⟩, ⟨1, 1, .sq, false⟩, ⟨2, 1, .sq, false⟩, ⟨3, 1, .sq, false⟩, ⟨4, 1, .sq, false⟩, ⟨5, 1, .sq, false⟩, ⟨6, 1, .sq, false⟩, ⟨7, 1, .sq, false⟩, ⟨8, 1, .sq, false⟩, ⟨24, 8, .sq, false⟩]⟩,
   ⟨0xe00008, [], .none, false, 24, 0x0, false,
      [⟨0, 8, .ro, false⟩, ⟨8, 8, .ro, false⟩, ⟨16, 8, .ro, false⟩, ⟨24, 8, .ro, false⟩]⟩,
   ⟨0xe0000c, [], .none, false, 24, 0x0, false,
      [⟨0, 1, .rw, true⟩]⟩,
   ⟨0xe00010, [], .none, false, 24, 0x0, false,
      [⟨0, 1, .ws, false⟩]⟩,
   ⟨0xe00014, [], .none, false, 24, 0x0, false,
      [⟨0, 2, .ws, false⟩, ⟨16, 16, .ws, false⟩]⟩,
   ⟨0xe00018, [], .none, false, 24, 0x0, false,
      [⟨0, 5, .ro, false⟩, ⟨5, 1, .ro, false⟩]⟩,
   ⟨0xe0001c, [], .none, false, 24, 0xff000000, false,
      [⟨0, 1, .ro, false⟩, ⟨8, 8, .ro, false⟩, ⟨16, 8, .ro, false⟩, ⟨24, 8, .ro, false⟩]⟩,
   ⟨0xe00020, [], .none, false, 24, 0x0, false,
      [⟨0, 7, .ro, false⟩, ⟨16, 12, .ro, false⟩]⟩,
   ⟨0xe00024, [], .none, false, 24, 0x0, false,
      [⟨0, 16, .ro, false⟩, ⟨16, 16, .ro, false⟩]⟩,
   ⟨0xe00030, [], .none, false, 24, 0x0, true,
      [⟨0, 24, .mb, false⟩, ⟨24, 8, .mb, false⟩, ⟨32, 32, .mb, false⟩, ⟨64, 64, .mb, false⟩]⟩,
   ⟨0xe00040, [], .none, false, 24, 0x0, false,
      [⟨0, 1, .ws, false⟩, ⟨1, 1, .ro, false⟩, ⟨8, 8, .rw, false⟩, ⟨24, 8, .rw, false⟩]⟩,
   ⟨0xe00044, [(4, 0x4)], .none, false, 24, 0x0, false,
      [⟨0, 32, .rw, false⟩]⟩,
   ⟨0xe00054, [], .none, false, 24, 0x0, false,
      [⟨0, 8, .ro, false⟩, ⟨8, 8, .ro, false⟩, ⟨23, 1, .sq, false⟩, ⟨24, 8, .sq, false⟩]⟩,
   ⟨0xe00060, [], .none, false, 24, 0x0, true,
      [⟨0, 128, .mb, false⟩]⟩,
   ⟨0xe00070, [], .none, false, 24, 0x0, false,
      [⟨0, 8, .ro, false⟩, ⟨8, 8, .ro, false⟩, ⟨16, 8, .ro, false⟩, ⟨24, 8, .ro, false⟩]⟩,
   ⟨0xe00080, [], .none, false, 24, 0x0, false,
      [⟨0, 1, .ws, false⟩, ⟨1, 1, .ro, false⟩, ⟨16, 16, .rw, false⟩]⟩ ]

/-- Register tables of block GLB. -/
def RegMap.glb0 : List RegRow :=
  [
   ⟨0x0, [], .none, false, 0, 0x0, false,
      [⟨0, 8, .ro, false⟩, ⟨8, 4, .ro, false⟩, ⟨12, 4, .ro, false⟩, ⟨16, 4, .ro, false⟩, ⟨20, 12, .ro, false⟩]⟩,
   ⟨0x10, [], .none, false, 0, 0x0, true,
      [⟨0, 128, .mb, false⟩]⟩,
   ⟨0x20, [], .none, true, 0, 0x0, false,
      [⟨4, 22, .rw, false⟩]⟩,
   ⟨0x24, [], .none, true, 0, 0x0, false,
      [⟨4, 22, .ro, false⟩, ⟨30, 1, .ro, false⟩, ⟨31, 1, .ro, false⟩]⟩,
   ⟨0x28, [(4, 0x4)], .none, true, 0, 0x0, false,
      [⟨0, 32, .ro, false⟩]⟩,
   ⟨0x40, [], .none, false, 0, 0x0, false,
      [⟨0, 8, .ro, false⟩, ⟨8, 6, .ro, false⟩, ⟨14, 6, .ro, false⟩, ⟨20, 6, .ro, false⟩, ⟨26, 6, .ro, false⟩]⟩,
   ⟨0x44, [], .none, false, 0, 0x0, false,
      [⟨0, 24, .ro, false⟩, ⟨24, 8, .ro, false⟩]⟩,
   ⟨0x50, [], .none, false, 0, 0x0, false,
      [⟨0, 1, .sq, false⟩, ⟨1, 1, .sq, false⟩, ⟨2, 1, .sq, false⟩, ⟨3, 1, .sq, false⟩, ⟨4, 1, .sq, false⟩, ⟨5, 1, .sq, false⟩, ⟨6, 1, .sq, false⟩, ⟨7, 1, .sq, false⟩, ⟨24, 8, .sq, false⟩]⟩,
   ⟨0x58, [], .none, false, 0, 0x0, false,
      [⟨0, 26, .ro, false⟩]⟩,
   ⟨0x5c, [], .none, false, 0, 0x0, false,
      [⟨0, 8, .ro, false⟩]⟩,
   ⟨0x60, [], .none, false, 0, 0x0, false,
      [⟨0, 6, .ws, false⟩]⟩,
   ⟨0x64, [], .none, false, 0, 0x0, false,
      [⟨0, 24, .ro, false⟩, ⟨24, 8, .ro, false⟩]⟩,
   ⟨0x70, [], .none, false, 0, 0x0, false,
      [⟨0, 1, .ws, false⟩, ⟨1, 1, .ro, true⟩, ⟨2, 1, .ro, false⟩]⟩,
   ⟨0x74, [], .none, false, 0, 0x0, false,
      [⟨0, 32, .ro, false⟩]⟩,
   ⟨0x78, [], .none, false, 0, 0x0, false,
      [⟨0, 32, .rw, false⟩]⟩,
   ⟨0x80, [], .none, false, 0, 0x0, false,
      [⟨16, 16, .ro, false⟩]⟩ ]

/-- Register tables of block HLT. -/
def RegMap.hlt0 : List RegRow :=
  [
   ⟨0xd00000, [], .none, false, 23, 0x0, false,
      [⟨0, 1, .sq, false⟩, ⟨1, 1, .sq, false⟩, ⟨2, 1, .sq, false⟩, ⟨3, 1, .sq, false⟩, ⟨4, 1, .sq, false⟩, ⟨5, 1, .sq, false⟩, ⟨6, 1, .sq, false⟩, ⟨7, 1, .sq, false⟩, ⟨8, 1, .sq, false⟩, ⟨24, 8, .sq, false⟩]⟩,
   ⟨0xd00004, [], .none, false, 23, 0x0, false,
      [⟨0, 1, .ws, false⟩, ⟨1, 1, .ws, false⟩]⟩,
   ⟨0xd00008, [], .none, false, 23, 0x0, false,
      [⟨0, 8, .ro, false⟩, ⟨31, 1, .ro, false⟩]⟩,
   ⟨0xd00010, [], .none, false, 23, 0x3c5000, false,
      [⟨0, 2, .rw, true⟩, ⟨8, 8, .rw, true⟩, ⟨16, 16, .rw, true⟩]⟩,
   ⟨0xd00014, [], .none, false, 23, 0x0, false,
      [⟨0, 1, .ws, false⟩, ⟨1, 1, .ws, false⟩]⟩,
   ⟨0xd00018, [], .none, false, 23, 0x0, false,
      [⟨0, 17, .ro, false⟩, ⟨21, 1, .ro, false⟩, ⟨22, 1, .ro, false⟩, ⟨23, 1, .ro, false⟩, ⟨24, 8, .ro, false⟩]⟩,
   ⟨0xd00020, [], .none, false, 23, 0x0, true,
      [⟨0, 32, .mb, false⟩, ⟨32, 32, .mb, false⟩, ⟨64, 32, .mb, false⟩, ⟨96, 32, .mb, false⟩]⟩,
   ⟨0xd00030, [], .none, false, 23, 0x0, false,
      [⟨0, 32, .rw, false⟩]⟩,
   ⟨0xd00034, [], .none, false, 23, 0x0, false,
      [⟨0, 16, .rw, false⟩]⟩,
   ⟨0xd00038, [], .none, false, 23, 0x0, false,
      [⟨0, 32, .ro, false⟩]⟩,
   ⟨0xd00040, [], .none, false, 23, 0x0, false,
      [⟨0, 32, .ro, false⟩]⟩,
   ⟨0xd00044, [], .none, false, 23, 0x0, false,
      [⟨0, 24, .ro, false⟩]⟩,
   ⟨0xd00050, [], .none, false, 23, 0x5a46, false,
      [⟨0, 8, .rw, true⟩, ⟨8, 8, .rw, true⟩]⟩,
   ⟨0xd00054, [], .none, false, 23, 0x0, false,
      [⟨0, 8, .ro, false⟩, ⟨8, 8, .ro, false⟩, ⟨16, 8, .ro, false⟩, ⟨28, 1, .ro, false⟩, ⟨29, 1, .ro, false⟩, ⟨30, 1, .ro, false⟩, ⟨31, 1, .ro, false⟩]⟩,
   ⟨0xd00060, [], .none, false, 23, 0x0, true,
      [⟨0, 32, .mb, false⟩, ⟨32, 32, .mb, false⟩]⟩,
   ⟨0xd00070, [], .none, false, 23, 0x3e8, false,
      [⟨0, 16, .rw, true⟩, ⟨31, 1, .rw, true⟩]⟩,
   ⟨0xd00080, [], .none, false, 23, 0x0, false,
      [⟨0, 14, .ro, false⟩, ⟨15, 1, .ro, false⟩, ⟨16, 16, .ro, false⟩]⟩,
   ⟨0xd00084, [], .none, false, 23, 0x0, false,
      [⟨0, 1, .ws, false⟩, ⟨16, 12, .rw, false⟩]⟩,
   ⟨0xd00100, [(112, 0x4)], .none, false, 23, 0x0, false,
      [⟨0, 16, .rw, true⟩, ⟨16, 12, .rw, true⟩, ⟨31, 1, .rw, true⟩]⟩,
   ⟨0xd01000, [(112, 0x10)], .none, false, 23, 0x0, true,
      [⟨0, 48, .mb, false⟩, ⟨63, 1, .mb, false⟩]⟩ ]

/-- Register tables of block HLT. -/
def RegMap.hlt1 : List RegRow :=
  [
   ⟨0xd02000, [(112, 0x10)], .none, false, 23, 0x0, true,
      [⟨0, 48, .mb, false⟩, ⟨63, 1, .mb, false⟩]⟩ ]

/-- Every register table of spec/, in the order of its files. -/
def RegMap.rows : List RegRow :=
  RegMap.gauge0 ++
  RegMap.gauge1 ++
  RegMap.tio0 ++
  RegMap.pb0 ++
  RegMap.pb1 ++
  RegMap.ope0 ++
  RegMap.jig0 ++
  RegMap.jig1 ++
  RegMap.ed0 ++
  RegMap.cal0 ++
  RegMap.cal1 ++
  RegMap.cu0 ++
  RegMap.cl0 ++
  RegMap.mem0 ++
  RegMap.mem1 ++
  RegMap.opn0 ++
  RegMap.cpy0 ++
  RegMap.gth0 ++
  RegMap.ulk0 ++
  RegMap.pwr0 ++
  RegMap.boot0 ++
  RegMap.glb0 ++
  RegMap.hlt0 ++
  RegMap.hlt1

end Sys2Proof
end

