-- ==== Sys2Proof/Machine/Tio.lean ====
section
/-! DEFINITION. Time at the edges (R68-R84, R527): pulse outputs, capture inputs and the PTP time ports. -/
namespace Sys2Proof.Machine
open Sys2Proof

/-! ### Pulse outputs (R68-R73) -/

/-- START of an output, in units of 2^-16 ns. -/
def State.tpoStart (s : State) (n : Nat) : Nat :=
  (s.rd (TIO.TPO_START_HI.TNS_HI n) * 2 ^ 32 + s.rd (TIO.TPO_START_LO.TNS_LO n)) * 65536 +
    s.rd (TIO.TPO_FRAC.START_FRAC n)

/-- P of an output, in units of 2^-16 ns. -/
def State.tpoPeriod (s : State) (n : Nat) : Nat :=
  s.rd (TIO.TPO_PERIOD.PERIOD n) * 65536 + s.rd (TIO.TPO_FRAC.PERIOD_FRAC n)

/-- The rules of R72 on a mode, a period and a width. -/
def tpoLegal (mode period frac width : Nat) : Bool :=
  mode != 3 && width != 0 &&
    (mode != 2 || decide ((width + 4) * 65536 ≤ period * 65536 + frac))

/-- A refused TIO write. -/
def State.tioRefuse (s : State) : State := s.raise TIO.EVENT.CFG_ERR

/-- ARM (R68, R70). In TIO's safe state outputs stay disarmed (R480). Log: DEDUCED 37. -/
def State.tpoArm (s : State) (n : Nat) : State :=
  let mode := s.rd (TIO.TPO_CTRL.MODE n)
  if mode = 0 then s.tioRefuse
  else if s.unsafeBlock 2 then s
  else if mode = 1 ∧ s.tpoStart n < s.now + Config.ns 1000 then s.raise TIO.EVENT.TPO_LATE
  else s.wr (TIO.TPO_CTRL.ARMED n) 1

/-- DISARM (R68): edges not committed are cancelled. -/
def State.tpoDisarm (s : State) (n : Nat) : State := s.wr (TIO.TPO_CTRL.ARMED n) 0

/-- A new START of an output that is armed in once mode with its edge uncommitted (R70). -/
def State.tpoRestart (s : State) (n : Nat) : State :=
  if s.on (TIO.TPO_CTRL.ARMED n) ∧ s.rd (TIO.TPO_CTRL.MODE n) = 1 ∧ (s.pulse n).committed.isEmpty ∧
      s.tpoStart n < s.now + Config.ns 1000 then
    (s.tpoDisarm n).raise TIO.EVENT.TPO_LATE
  else s

/-- A write of TIO.TPO<n>_CTRL (R68, R72, R474). -/
def State.tpoWriteCtrl (s : State) (n v : Nat) : State :=
  let mode := bitsOf v 2 2
  let width := bitsOf v 16 16
  let arm := bitOf v 0 || bitOf v 1
  if (bitOf v 0 && bitOf v 1) ||
      !tpoLegal mode (s.rd (TIO.TPO_PERIOD.PERIOD n)) (s.rd (TIO.TPO_FRAC.PERIOD_FRAC n)) width then s.tioRefuse
  else if bitOf v 1 && mode == 0 then s.tioRefuse
  else
    let changed := decide (s.rd (TIO.TPO_CTRL.MODE n) ≠ mode)
    let s := ((s.wr (TIO.TPO_CTRL.WIDTH n) width).wr (TIO.TPO_CTRL.POL n) (bitsOf v 4 1)).wr (TIO.TPO_CTRL.MODE n) mode
    let s := if changed then s.tpoDisarm n else s
    if !arm then s else if bitOf v 1 then s.tpoArm n else s.tpoDisarm n

/-- A write of TIO.TPO<n>_FRAC (R70, R72). -/
def State.tpoWriteFrac (s : State) (n v : Nat) : State :=
  if !tpoLegal (s.rd (TIO.TPO_CTRL.MODE n)) (s.rd (TIO.TPO_PERIOD.PERIOD n)) (v % 65536)
      (s.rd (TIO.TPO_CTRL.WIDTH n)) && s.rd (TIO.TPO_CTRL.MODE n) == 2 then s.tioRefuse
  else ((s.wr (TIO.TPO_FRAC.START_FRAC n) (v / 65536)).wr (TIO.TPO_FRAC.PERIOD_FRAC n) (v % 65536)).tpoRestart n

/-- A write of TIO.TPO<n>_PERIOD (R72). -/
def State.tpoWritePeriod (s : State) (n v : Nat) : State :=
  if v = 0 ∨ (s.rd (TIO.TPO_CTRL.MODE n) = 2 ∧
      v * 65536 + s.rd (TIO.TPO_FRAC.PERIOD_FRAC n) < (s.rd (TIO.TPO_CTRL.WIDTH n) + 4) * 65536) then s.tioRefuse
  else s.wr (TIO.TPO_PERIOD.PERIOD n) v

/-- A write of START_LO or START_HI (R69, R70). -/
def State.tpoWriteStart (s : State) (n : Nat) (hi : Bool) (v : Nat) : State :=
  (if hi then s.wr (TIO.TPO_START_HI.TNS_HI n) v else s.wr (TIO.TPO_START_LO.TNS_LO n) v).tpoRestart n

/-- Is an instant an edge of the output's grid, under the values now held (R68)? -/
def State.tpoOnGrid (s : State) (n e : Nat) : Bool :=
  let start := s.tpoStart n
  let p := s.tpoPeriod n
  match s.rd (TIO.TPO_CTRL.MODE n) with
  | 1 => e == start
  | 2 => decide (start ≤ e) && p != 0 && (e - start) % p == 0
  | _ => false

/-- Does a grid point lie after the last one taken (R69)? -/
def Pulse.fresh (x : Pulse) (e : Nat) : Bool :=
  match x.last with
  | some l => decide (l < e)
  | none => true

/-- TPO_EDGE_COMMIT (R69, R73): `t` is the commit point, 1,000 ns before the edge. -/
def execTpoEdgeCommit (n : Fin 8) (t : Nat) (s : State) : Result :=
  let s := s.advance t
  let e := t + Config.ns 1000
  let x := s.pulse n
  if s.on (TIO.TPO_CTRL.ARMED n) ∧ s.gState ≠ gFree ∧ s.tpoOnGrid n e ∧ x.fresh e then
    if s.gState = gReseat then .next ((s.setPulse n { x with last := some e }).bump TIO.COUNTS.TPO_SKIP)
    else
      let c : PulseEdge := ⟨e, s.rd (TIO.TPO_CTRL.WIDTH n), s.on (TIO.TPO_CTRL.POL n)⟩
      .next (s.setPulse n { x with last := some e, committed := x.committed ++ [c] })
  else .next s

/-- A once-mode output that has no edge left is disarmed (R68). -/
def State.tpoOnceDone (s : State) (n : Nat) : State :=
  if s.rd (TIO.TPO_CTRL.MODE n) = 1 ∧ (s.pulse n).committed.isEmpty then s.tpoDisarm n else s

/-- TPO_EDGE (R71): the oldest committed edge is placed, or skipped where it would fall less than 4 ns after the
previous pulse has returned to idle. -/
def execTpoEdge (n : Fin 8) (t : Nat) (s : State) : Result :=
  let s := s.advance t
  let x := s.pulse n
  match x.committed with
  | c :: r =>
    if c.time ≠ t then .next s
    else if x.active ∨ (x.idleAt ≠ 0 ∧ t < x.idleAt + Config.ns 4) then
      .next (((s.setPulse n { x with committed := r }).bump TIO.COUNTS.TPO_SKIP).tpoOnceDone n)
    else
      let x := { x with committed := r, active := true, low := c.low, idleAt := t + Config.ns c.width }
      .next ((s.setPulse n x).tpoOnceDone n)
  | [] => .next s

/-- TPO_IDLE_RETURN. -/
def execTpoIdleReturn (n : Fin 8) (t : Nat) (s : State) : Result :=
  let s := s.advance t
  let x := s.pulse n
  if x.active ∧ x.idleAt ≤ t then .next (s.setPulse n { x with active := false }) else .next s

/-! ### Capture inputs (R74-R76) -/

/-- A capture input's record. -/
def State.cap (s : State) (n : Nat) : Capture := Tbl.lookD s.tio.caps {} n

/-- A capture input's record replaced, TCI_STAT with it. -/
def State.setCap (s : State) (n : Nat) (x : Capture) : State :=
  ({ s with tio := { s.tio with caps := Tbl.put s.tio.caps {} n x } }).wr (TIO.TCI_STAT.FILL n) x.fifo.length

/-- Does an input's setting select an edge (R74)? -/
def tciSelects (cfg : Nat) (rising : Bool) : Bool :=
  bitOf cfg 0 &&
    match bitsOf cfg 1 2 with
    | 0 => rising
    | 1 => !rising
    | 2 => true
    | _ => false

/-- TCI_EDGE (R74, R75): `t` is the corrected time at the land. -/
def execTciEdge (n : Fin 4) (t : Nat) (rising : Bool) (s : State) : Result :=
  let s := s.advance t
  let x := s.cap n
  if ¬ tciSelects (s.rd (TIO.TCI_CTRL.IN n)) rising ∨ s.unsafeBlock 2 then .next s
  else
    let close := match x.last with | some l => decide (t < l + Config.ns 8) | none => false
    if close || decide (4 ≤ x.fifo.length) then .next ((s.bump TIO.COUNTS.TCI_OVF).raise TIO.EVENT.TCI_OVF)
    else .next (s.setCap n { fifo := x.fifo ++ [⟨t, s.gState⟩], last := some t })

/-- TCI_CAP_SELECT (R76, R471): the oldest stamp is removed and presented. -/
def State.selectCap (s : State) (n : Nat) (b : Bank) : State :=
  let x := s.cap n
  let off := TIO.CAP.base + 0x10 * n
  let s := s.wr TIO.CAP_LAST.INPUT n
  match x.fifo with
  | [] => (s.wr TIO.CAP_LAST.EMPTY 1).mbxStart b off 0 false
  | c :: r =>
    let s := (s.wr TIO.CAP_LAST.EMPTY 0).wr TIO.CAP_LAST.STATE c.state
    (s.setCap n { x with fifo := r }).mbxStart b off (hallTime c.time) false

/-- TCI_CAP_SELECT. -/
def execTciCapSelect (n : Fin 4) (b : Bank) (s : State) : Result := .next (s.selectCap n b)

/-! ### Time ports (R81-R84, R527) -/

/-- The register index of a port: 0 A, 1 B. -/
def portNum (p : Dom) : Nat := p.num

/-- A port that is enabled and has block lock. -/
def State.portUp (s : State) (p : Dom) : Bool :=
  s.on (TIO.TP_CFG.EN (portNum p)) && s.on (TIO.TP_STAT.LINK (portNum p))

/-- PSTATE where no sample decides it (R527). -/
def State.portState (s : State) (p : Dom) : State :=
  let n := portNum p
  s.wr (TIO.TP_STAT.PSTATE n)
    (if ¬ s.on (TIO.TP_CFG.EN n) then 0
     else if ¬ s.on (TIO.TP_STAT.LINK n) then 1
     else if (s.port p).gm.isNone then 2
     else if s.rd (TIO.TP_STAT.PSTATE n) = 4 then 4 else 3)

/-- A sample recorded (R83, R40): its offset, or void. -/
def State.ptpRecord (s : State) (p : Dom) (off : Option Int) : State :=
  let n := portNum p
  let ok := match off with | some o => decide (o.natAbs ≤ 1000 * 65536) | none => false
  let x := s.port p
  let r := (ok :: x.results).take 8
  let s := s.setPort p { x with results := r, lastOff := off, lastPair := s.now }
  let s := s.wr (TIO.TP_STAT.GOOD8 n) (r.filter id).length
  match off with
  | some o =>
    let s := s.wrI (TIO.TP_OFFSET.OFFSET n) (clampInt (-2147483648) 2147483647 o)
    s.wr (TIO.TP_STAT.PSTATE n) (if x.hasMpd then 4 else 3)
  | none => s.wr (TIO.TP_STAT.PSTATE n) 3

/-- SYNC (R81, R82): `t` is the corrected receive stamp. Log: DEDUCED 31. -/
def execSync (p : Dom) (t : Nat) (twoStep : Bool) (domain : Nat) (sender : Nat) (seqId : Nat) (s : State) : Result :=
  let s := s.advance t
  let x := s.port p
  if ¬ s.portUp p ∨ domain ≠ s.rd (TIO.TP_CFG.DOMAIN (portNum p)) ∨ x.parent ≠ some sender then .next s
  else if ¬ twoStep then .next (s.setPort p { x with ignored := x.ignored + 1 })
  else .next (s.setPort p { x with sync := some (seqId, t) })

/-- delayAsymmetry of a port. -/
def State.asymmetry (s : State) (p : Dom) : Int := s.rdI (TIO.TP_ASYM.ASYM (portNum p))

/-- The servo offset of a completed pair (R83): receive stamp `rx`, origin `m`; in FREE against the provisional
time, void without one. Log: DEDUCED 29. -/
def State.ptpOffset (s : State) (p : Dom) (rx m : Nat) : Option Int :=
  let d : Int := (m : Int) + s.rd (TIO.TP_MPD.MPD (portNum p)) + s.asymmetry p
  if s.gState = gFree then
    match (s.port p).prov with
    | some (pm, pc) => some ((pm : Int) + ((rx : Int) - pc) - d)
    | none => none
  else some ((rx : Int) - d)

/-- FOLLOW_UP (R83): `origin` is the master's time of the Sync, corrections included, in units of 2^-16 ns. -/
def execFollowUp (p : Dom) (t : Nat) (domain : Nat) (sender : Nat) (seqId : Nat) (origin : Nat) (s : State) : Result :=
  let s := s.advance t
  let x := s.port p
  if ¬ s.portUp p ∨ domain ≠ s.rd (TIO.TP_CFG.DOMAIN (portNum p)) ∨ x.parent ≠ some sender then .next s
  else
    match x.sync with
    | some (q, rx) =>
      if q ≠ seqId then .next s
      else
        let off := s.ptpOffset p rx origin
        let master := ((origin : Int) + s.rd (TIO.TP_MPD.MPD (portNum p)) + s.asymmetry p).toNat
        let s := s.ptpRecord p off
        .next (s.setPort p { s.port p with
          sync := none, pair := some ((rx : Int) - origin), prov := some (master, rx) })
    | none => .next s

/-- The lost-stamp counter of a port. -/
def txqLost : Dom → Field
  | .a => TIO.COUNTS.TXQ_LOST_A
  | .b => TIO.COUNTS.TXQ_LOST_B

/-- DELAY_REQ (R84): the message leaves at `t`; its stamp is queued, or lost with eight unread. messageType 1.
Log: DEDUCED 31. -/
def execDelayReq (p : Dom) (t : Nat) (seqId : Nat) (s : State) : Result :=
  let s := s.advance t
  let x := s.port p
  if ¬ s.portUp p ∨ x.gm.isNone then .next s
  else if 8 ≤ x.txq.length then
    let s := s.setPort p { x with dreq := none }
    .next ((s.bump (txqLost p)).raise TIO.EVENT.TXQ_LOST)
  else .next (s.setPort p { x with txq := x.txq ++ [⟨t, 1, seqId⟩], dreq := some (seqId, t) })

/-- DELAY_RESP (R81, R83): `receive` is the master's receive time; meanPathDelay is the mean of the two
directions. -/
def execDelayResp (p : Dom) (t : Nat) (domain : Nat) (seqId : Nat) (receive : Nat) (s : State) : Result :=
  let s := s.advance t
  let x := s.port p
  if ¬ s.portUp p ∨ domain ≠ s.rd (TIO.TP_CFG.DOMAIN (portNum p)) then .next s
  else
    match x.dreq, x.pair with
    | some (q, tx), some d =>
      if q ≠ seqId then .next s
      else
        let m := (d + ((receive : Int) - tx)) / 2
        let s := s.setPort p { x with dreq := none, hasMpd := true }
        .next (s.wrSat (TIO.TP_MPD.MPD (portNum p)) m.toNat)
    | _, _ => .next s

/-- The ranking of a data set by the best master comparison: lower is better (IEEE 1588-2019, R81). -/
def masterRank (m : AnnounceMsg) : List Nat :=
  [m.priority1, m.clkClass, m.accuracy, m.variance, m.priority2, m.gm, m.steps, m.sender]

/-- Lexicographic order of ranks. -/
def rankLt : List Nat → List Nat → Bool
  | a :: r, b :: q => decide (a < b) || (a == b && rankLt r q)
  | _, _ => false

/-- The best of the announced masters. -/
def bestMaster : List (AnnounceMsg × Nat) → Option AnnounceMsg
  | [] => none
  | (m, _) :: r =>
    match bestMaster r with
    | some b => if rankLt (masterRank b) (masterRank m) then some b else some m
    | none => some m

/-- A grandmaster selected (R83, R527): a change from another one sets GM_CHANGE and voids the samples.
Log: DEDUCED 30. -/
def State.selectMaster (s : State) (p : Dom) (m : AnnounceMsg) : State :=
  let x := s.port p
  let n := portNum p
  let s := s.wr (TIO.TP_GM.CLOCK_ID n) m.gm
  if x.gm = some m.gm then s.setPort p { x with parent := some m.sender }
  else
    let y := { x with parent := some m.sender, gm := some m.gm, lastGm := some m.gm, sync := none, hasMpd := false }
    let s := (s.setPort p y).wr (TIO.TP_STAT.PSTATE n) 3
    if x.lastGm.isSome ∧ x.lastGm ≠ some m.gm then
      let s := s.setPort p { y with results := [], lastOff := none, prov := none, pair := none, dreq := none }
      (s.wr (TIO.TP_STAT.GOOD8 n) 0).raise TIO.EVENT.GM_CHANGE
    else s

/-- The UTC report of the active domain's Announce messages (R35, R527). -/
def State.reportUtc (s : State) (m : AnnounceMsg) : State :=
  (((s.wrI TIO.UTC.OFFSET m.utcOffset).wrB TIO.UTC.LI_61 m.leap61).wrB TIO.UTC.LI_59 m.leap59).wrB TIO.UTC.VALID m.utcValid

/-- ANNOUNCE (R81). -/
def execAnnounce (p : Dom) (t : Nat) (domain : Nat) (m : AnnounceMsg) (s : State) : Result :=
  let s := s.advance t
  if ¬ s.portUp p ∨ domain ≠ s.rd (TIO.TP_CFG.DOMAIN (portNum p)) then .next s
  else
    let x := s.port p
    let ms := (m, t) :: x.masters.filter (fun q => q.1.sender != m.sender)
    let s := s.setPort p { x with masters := ms }
    let s := match bestMaster ms with | some b => s.selectMaster p b | none => s
    .next (if s.active = p ∧ (s.port p).parent = some m.sender then s.reportUtc m else s)

/-- 2^k seconds in units of 2^-16 ns. -/
def logSeconds (k : Int) : Nat :=
  if 0 ≤ k then 1000000000 * 65536 * 2 ^ k.toNat else 1000000000 * 65536 / 2 ^ (-k).toNat

/-- ANNOUNCE_RECEIPT_TIMEOUT (R81, R527): three intervals without an Announce of the selected master. -/
def execAnnounceReceiptTimeout (p : Dom) (t : Nat) (s : State) : Result :=
  let s := s.advance t
  let x := s.port p
  match x.masters.find? (fun q => some q.1.sender == x.parent) with
  | some (m, at') =>
    if at' + 3 * logSeconds m.logPeriod ≤ t then
      let s := s.setPort p { x with
        masters := x.masters.filter (fun q => q.1.sender != m.sender), parent := none, gm := none, sync := none }
      .next ((s.wr (TIO.TP_GM.CLOCK_ID (portNum p)) 0).portState p)
    else .next s
  | none => .next s

/-- PTP_SAMPLE_TIMEOUT (R83): no completed pair in 2 s records a void sample. -/
def execPtpSampleTimeout (p : Dom) (t : Nat) (s : State) : Result :=
  let s := s.advance t
  if s.portUp p ∧ (s.port p).gm.isSome ∧ (s.port p).lastPair + Config.ns 2000000000 ≤ t then
    .next (s.ptpRecord p none)
  else .next s

/-- TPORT_BLOCK_LOCK (R527). -/
def execTportBlockLock (p : Dom) (locked : Bool) (s : State) : Result :=
  let n := portNum p
  let s := s.wrB (TIO.TP_STAT.LINK n) locked
  let x := s.port p
  let s := if locked then s
    else (s.setPort p { x with masters := [], parent := none, gm := none, sync := none, dreq := none }).wr
      (TIO.TP_GM.CLOCK_ID n) 0
  .next (s.portState p)

/-- A mailbox selection of TIO.TP<p>_TXQ (R84, R471): the oldest stamp is removed and presented. -/
def State.selectTxq (s : State) (p : Dom) (b : Bank) : State :=
  let off := TIO.TP_TXQ.base + 0x40 * portNum p
  let x := s.port p
  match x.txq with
  | [] => s.mbxStart b off 0 false
  | c :: r =>
    let d := tns c.time / 1000000000 % 2 ^ 48 * 2 ^ 80 + tns c.time % 1000000000 * 2 ^ 50 +
      c.time % 65536 * 2 ^ 34 + c.msgType % 16 * 2 ^ 30 + c.seqId % 65536 * 2 ^ 14 + 1
    (s.setPort p { x with txq := r }).mbxStart b off d false

/-- TXQ_SELECT. -/
def execTxqSelect (p : Dom) (b : Bank) (s : State) : Result := .next (s.selectTxq p b)

end Sys2Proof.Machine
end

