-- ==== Sys2Proof/Machine/Window.lean ====
section
/-! DEFINITION. The register window (16_register_interface.md): which register an offset names, the value that it holds,
and the values that registers accept (R12, R443, R461, R467, R474, R478). -/
namespace Sys2Proof.Machine
open Sys2Proof

/-! ### Which register an offset names -/

/-- The indices at which a register table repeats at a distance from its base. -/
def dimsHit : List (Nat × Nat) → Nat → Option (List Nat)
  | [], d => if d = 0 then some [] else none
  | (n, st) :: r, d => if d / st < n then (dimsHit r (d % st)).map (d / st :: ·) else none

/-- The register table of an offset, and the indices of the register in it. -/
def regAt (off : Nat) : Option (RegRow × List Nat) :=
  RegMap.rows.findSome? fun r => if off < r.base then none else (dimsHit r.dims (off - r.base)).map fun i => (r, i)

/-- Every register of a table, by offset and indices. -/
def dimsAll : List (Nat × Nat) → List (Nat × List Nat)
  | [] => [(0, [])]
  | (n, st) :: r => (List.range n).flatMap fun i => (dimsAll r).map fun x => (i * st + x.1, i :: x.2)

/-- The channels of an edge die as CH_SEL numbers them. -/
def edChannels : List Nat :=
  (List.range 2).flatMap fun e => (List.range 44).map (128 * e + ·) ++ (List.range 52).map (256 + 128 * e + ·)

/-- The instances behind a selector, for those that a cutting list can set. -/
def winAll : Win → List Nat
  | .loop => List.range 176
  | .ring => List.range 64
  | .fell => List.range 64
  | .edCh => edChannels
  | _ => [0]

/-- The instance that a register shows to a bank (R467). -/
def State.instOf (s : State) (b : Nat) (r : RegRow) (i : List Nat) : Nat :=
  if r.banked then b
  else
    let a := i.getD 0 0
    match r.win with
    | .none => 0
    | .seam => s.rd (GAUGE.SEAM_IDX.IDX b)
    | .queue => s.rd (PB.Q_SEL.QUEUE b)
    | .link => s.rd (PB.L_SEL.LINK b)
    | .pcache => s.rd (OPE.P_PC_SEL.INDEX (4 * a + i.getD 1 0) b)
    | .pqual => s.rd (OPE.P_Q_SEL.INDEX (4 * a + i.getD 1 0) b)
    | .calRes => calKey (s.rd (CAL.RES_SEL.KIND b)) (s.rd (CAL.RES_SEL.UNIT b))
    | .lane => s.rd (CU.LANE_SEL.PLANE a b)
    | .channel => s.rd (MEM.CH_SEL.CH b)
    | .path => s.rd (OPN.PATH_SEL.PATH b)
    | .engine => s.rd (CPY.SEL.ENGINE b)
    | .vec => 0
    | .sensor => s.rd (PWR.TEMP_SEL.SENSOR b)
    | .rail => s.rd (PWR.RAIL_SEL.RAIL b)
    | .edCh => 256 * s.rd (ED.CH_SEL.KIND a) + 128 * s.rd (ED.CH_SEL.ENG a) + s.rd (ED.CH_SEL.CH a)
    | .cmat => cmatIdx (s.rd (JIG.CMAT_SEL.ENG b)) (s.rd (JIG.CMAT_SEL.ROW b)) (s.rd (JIG.CMAT_SEL.COL b))
    | .loop => s.rd (JIG.L_SEL.LOOP b)
    | .ring => s.rd (MEM.RING_SEL.RING b)
    | .fell => s.rd (MEM.FELL_SEL.STREAM b)

/-- A field of a row as a field of one register. -/
def rowField (r : RegRow) (off inst : Nat) (f : FieldRow) : Field := ⟨off, f.lo, f.width, inst, bitsOf r.reset f.lo f.width⟩

/-- The bits that a register's fields hold; a strobe reads zero (R16). -/
def State.fieldsOf (s : State) (r : RegRow) (off inst : Nat) : Nat :=
  (r.fields.map fun f => if f.acc = .ws then 0 else s.rd (rowField r off inst f) * 2 ^ f.lo).sum

/-- The bits of a register without a selector. -/
def State.word (s : State) (off : Nat) : Nat :=
  match regAt off with
  | some (r, _) => s.fieldsOf r off 0
  | none => 0

/-- Is a field one that software writes? -/
def accWritable : Acc → Bool
  | .rw => true
  | .lk => true
  | .w1 => true
  | .wp => true
  | _ => false

/-! ### Values that registers accept -/

/-- Fields with a least and a greatest value: the table's base, the lowest bit, the two values, and whether its row reads
"zero refused" (R444, R478). -/
def fieldRanges0 : List (Nat × Nat × Nat × Nat × Bool) :=
  [
   (0x10014, 16, 1, 65535, true), (0x10014, 0, 1, 65535, true), (0x10018, 0, 1, 4294967295, true),
   (0x10024, 8, 1, 255, true), (0x10024, 0, 1, 255, true), (0x20000, 16, 1, 65535, true),
   (0x20000, 2, 0, 2, false), (0x20010, 0, 1, 4294967295, true), (0x30024, 0, 0, 2048, false),
   (0x3002c, 0, 1, 65536, true), (0x40010, 8, 0, 9, false), (0x40110, 8, 0, 60, false),
   (0x40110, 0, 75, 225, false), (0x40114, 8, 0, 150, false), (0x80000, 4, 1, 3, true),
   (0x80010, 24, 1, 255, true), (0x80010, 16, 1, 255, true), (0x80010, 8, 1, 255, true),
   (0x80014, 24, 1, 255, true), (0x80014, 16, 1, 255, true), (0x80014, 0, 1, 65535, true),
   (0x80018, 24, 1, 255, true), (0x8001c, 16, 1, 65535, true), (0x8001c, 0, 1, 65535, true),
   (0x80020, 0, 1, 65535, true), (0x80024, 16, 1, 65535, true), (0x80024, 0, 1, 65535, true),
   (0x80050, 0, 1, 65535, true), (0x80070, 16, 0, 43, false), (0x80070, 0, 0, 43, false) ]

/-- Further fields. -/
def fieldRanges1 : List (Nat × Nat × Nat × Nat × Bool) :=
  [
   (0xc00010, 0, 0, 2, false), (0xc00020, 0, 15000, 30000, false), (0x98200, 24, 1, 255, true),
   (0x98200, 16, 1, 255, true), (0x98200, 8, 1, 255, true), (0x98214, 16, 1, 255, true),
   (0x98214, 8, 1, 255, true), (0x98214, 0, 1, 255, true), (0x90000, 8, 1, 255, true),
   (0x90014, 16, 1, 65535, true), (0x90014, 0, 1, 65535, true), (0x90018, 0, 1, 4294967295, true),
   (0x9001c, 0, 1, 65535, true), (0x90070, 16, 1, 65535, true), (0x90070, 0, 1, 65535, true),
   (0xa000c, 4, 0, 7, false), (0x200020, 0, 1, 65535, true), (0xa00000, 8, 1, 255, true),
   (0xa4000c, 0, 1, 392, true), (0xa60010, 0, 1, 16383, true), (0xa6001c, 0, 0, 393216, false),
   (0x110004, 28, 0, 12, false), (0xb00000, 16, 1, 65535, true), (0xb0001c, 0, 1, 65535, true),
   (0xb00028, 16, 1, 65535, true), (0xf00014, 8, 85, 105, true), (0xd00010, 16, 1, 65535, true),
   (0xd00010, 8, 1, 100, true), (0xd00050, 8, 1, 100, true), (0xd00050, 0, 1, 255, true),
   (0xd00070, 0, 1, 65535, true) ]

/-- All of them. -/
def fieldRanges : List (Nat × Nat × Nat × Nat × Bool) := fieldRanges0 ++ fieldRanges1

/-- Do a register's fields lie in their ranges? -/
def State.rangesOk (s : State) (r : RegRow) (off inst : Nat) : Bool :=
  fieldRanges.all fun x => x.1 != r.base || r.fields.all fun f => f.lo != x.2.1 ||
    (decide (x.2.2.1 ≤ s.rd (rowField r off inst f)) && decide (s.rd (rowField r off inst f) ≤ x.2.2.2.1))

/-- A pulse output's period and width in units of 2^-16 ns agree with its mode (R72). -/
def State.pulseOk (s : State) (n : Nat) : Bool :=
  s.rd (TIO.TPO_CTRL.MODE n) != 2 ||
    decide (65536 * s.rd (TIO.TPO_CTRL.WIDTH n) + Config.ns 4 ≤
      65536 * s.rd (TIO.TPO_PERIOD.PERIOD n) + s.rd (TIO.TPO_FRAC.PERIOD_FRAC n))

/-- Is a link number of CU.ROUTE accepted? -/
def routeOk (v : Nat) : Bool := decide (v ≤ 5) || v == 15

/-- The rules that bind several fields or several values of one register, on the values that the state holds: true where
the registers of a table, at the given indices and instance, are accepted. -/
def State.rulesOk (s : State) (r : RegRow) (off : Nat) (i : List Nat) (inst : Nat) : Bool :=
  let a := i.getD 0 0
  let w := s.fieldsOf r off inst
  if r.base = TIO.TPO_CTRL.base ∨ r.base = TIO.TPO_FRAC.base ∨ r.base = TIO.TPO_PERIOD.base then s.pulseOk a
  else if r.base = TIO.TCI_CTRL.base then (List.range 4).all fun k => bitsOf w (4 * k + 1) 2 != 3
  else if r.base = TIO.TP_CFG.base then decide (-4 ≤ s.rdI (TIO.TP_CFG.LOG_DREQ a)) && decide (s.rdI (TIO.TP_CFG.LOG_DREQ a) ≤ 4)
  else if r.base = OPE.P_WARD0.base ∨ r.base = OPE.P_WARD1.base then !wardClash (s.wardrobe (4 * a + i.getD 1 0))
  else if r.base = OPE.P_SPARE.base then
    let ok (v : Nat) : Bool := decide (v < 8) || v == 15
    ok (s.rd (OPE.P_SPARE.B_FOR (4 * a + i.getD 1 0))) && ok (s.rd (OPE.P_SPARE.S_FOR (4 * a + i.getD 1 0)))
  else if r.base = ED.CH_SEL.base then decide (s.rd (ED.CH_SEL.CH a) ≤ if s.rd (ED.CH_SEL.KIND a) = 0 then 43 else 51)
  else if r.base = ED.SPARE_MAP.base then
    let v := s.rd (ED.SPARE_MAP.SPARE a inst)
    if inst < 256 then decide (40 ≤ v) && decide (v ≤ 43) else decide (48 ≤ v) && decide (v ≤ 51)
  else if r.base = CAL.RCB_WARD_0.base ∨ r.base = CAL.RCB_WARD_1.base then
    !wardClash ((List.range 4).map (wardOf (s.word (CAL.RCB_WARD_0.base + 8 * a))) ++
      (List.range 4).map (wardOf (s.word (CAL.RCB_WARD_1.base + 8 * a))))
  else if r.base = CAL.IMG_ADDR_LO.base then w % 64 == 0
  else if r.base = CU.ROUTE.base then (List.range 8).all fun k => routeOk (bitsOf w (4 * k) 4)
  else if r.base = CU.ROUTE8.base then (List.range 4).all fun k => routeOk (bitsOf w (4 * k) 4)
  else if r.base = CU.QDST.base then (List.range 4).all fun k => decide (bitsOf w (8 * k) 7 ≤ 67)
  else if r.base = MEM.RING_BASE_LO.base ∨ r.base = MEM.RING_BASE_HI.base ∨ r.base = MEM.RING_CFG.base then
    !s.ringRefused (s.rxBase inst) (s.rd (MEM.RING_CFG.ENTRIES inst)) (s.rd (MEM.RING_CFG.SLOT64 inst))
  else if r.base = MEM.FELL_BASE_LO.base ∨ r.base = MEM.FELL_BASE_HI.base then !s.fellBaseBad (s.fellBase inst)
  else if r.base = MEM.FELL_CUR.base then decide (s.rd (MEM.FELL_CUR.CURSOR inst) < s.rd (MEM.FELL_LEN.LENGTH inst))
  else if r.base = CL.RNG_LO.base ∨ r.base = CL.RNG_HI.base then
    s.rd (CL.RNG_LO.STATE (256 * a + i.getD 1 0)) != 0 || s.rd (CL.RNG_HI.STATE (256 * a + i.getD 1 0)) != 0
  else if r.base = ULK.COH_WIN.base then
    s.rd ULK.COH_WIN.SIZE == 0 || decide ((s.rd ULK.COH_WIN.BASE + s.rd ULK.COH_WIN.SIZE) * 2 ^ 30 ≤ s.lpEnd)
  else if r.base = ULK.CAL_LO.base ∨ r.base = ULK.CAL_HI.base then
    s.rd ULK.CAL_LO.ADDR % 512 == 0 && decide (s.rd ULK.CAL_LO.ADDR + 2 ^ 32 * s.rd ULK.CAL_HI.ADDR < s.lpEnd)
  else if r.base = HLT.MC_CFG.base then decide (s.rd HLT.MC_CFG.SHED_OFF < s.rd HLT.MC_CFG.SHED_ON)
  else if r.base = HLT.CTR_CFG.base then counterOk a (s.rd (HLT.CTR_CFG.SRC a)) (s.rd (HLT.CTR_CFG.INST a))
  else true

/-- Does the state hold values that a register accepts? -/
def State.accepted (s : State) (r : RegRow) (off : Nat) (i : List Nat) (inst : Nat) : Bool :=
  s.rangesOk r off inst && s.rulesOk r off i inst

/-- Does a cutting list exempt a field that reads "zero refused" (R444): a pulse output left off, a fell stream left with
no length? -/
def State.zeroExempt (s : State) (r : RegRow) (i : List Nat) (inst : Nat) : Bool :=
  ((r.base == TIO.TPO_CTRL.base || r.base == TIO.TPO_PERIOD.base) && s.rd (TIO.TPO_CTRL.MODE (i.getD 0 0)) == 0) ||
  (r.base == MEM.FELL_CFG.base && s.rd (MEM.FELL_LEN.LENGTH inst) == 0)

/-- Does every CL field whose row reads "zero refused" hold something else, or is it exempt (R444)? -/
def State.zerosOk (s : State) : Bool :=
  fieldRanges.all fun x => !x.2.2.2.2 ||
    (RegMap.rows.filter fun r => r.base == x.1 && r.fields.any fun f => f.lo == x.2.1 && f.cl).all fun r =>
      (dimsAll r.dims).all fun d => (winAll r.win).all fun inst =>
        (r.fields.filter fun f => f.lo == x.2.1).all fun f =>
          s.rd (rowField r (r.base + d.1) inst f) != 0 || s.zeroExempt r d.2 inst

end Sys2Proof.Machine
end

