-- ==== Sys2Proof/Machine/Crc.lean ====
section
/-! DEFINITION. The register CRC of compatibility mode (R482, R483). -/
namespace Sys2Proof.Machine
open Sys2Proof

/-- Every instance behind a selector of which a register holds configuration. -/
def winCells : Win → List Nat
  | .pcache => List.range 32
  | .cmat => (List.range 4).flatMap fun e => (List.range 44).flatMap fun r => (List.range 44).map fun c => cmatIdx e r c
  | w => winAll w

/-- Is a register one that R479 names and the CRC covers? -/
def crcCovers (r : RegRow) : Bool :=
  r.fields.any (fun f => accWritable f.acc) && !r.banked && r.base != GLB.CRC_REF.base && r.base != GLB.CRC_CTRL.base

/-- The covered registers in ascending order of offset. Log: DEDUCED 22. -/
def crcList : List (Nat × RegRow) :=
  ((RegMap.rows.filter crcCovers).flatMap fun r => (dimsAll r.dims).map fun d => (r.base + d.1, r)).mergeSort
    fun a b => decide (a.1 ≤ b.1)

/-- What a register contributes: the fields that software writes. -/
def State.crcWord (s : State) (r : RegRow) (off inst : Nat) : Nat :=
  ((r.fields.filter fun f => accWritable f.acc).map fun f => s.rd (rowField r off inst f) * 2 ^ f.lo).sum

/-- The CRC of the covered registers. Log entry 22 says in which order the instances behind a selector come.
Log: DEDUCED 22. -/
def State.crcNow (s : State) : Nat :=
  crc32 (crcList.flatMap fun x => (winCells x.2.win).flatMap fun i => leBytes 4 (s.crcWord x.2 x.1 i))

/-- Is the package in compatibility mode? -/
def State.compat (s : State) : Bool := s.on GLB.CRC_CTRL.ACTIVE

/-- The reference taken from the registers as they stand, and the comparison on again. Log: DEDUCED 113. -/
def State.crcCommit (s : State) : State :=
  if !s.compat then s
  else
    let v := s.crcNow
    let s := { s with sys := { s.sys with crcSoft := 0 } }
    ((s.wr GLB.CRC_NOW.CRC v).wr GLB.CRC_REF.CRC v).wr GLB.CRC_CTRL.STALE 0

end Sys2Proof.Machine
end

