-- ==== Sys2Proof/Machine/Calendar.lean ====
section
/-! DEFINITION. The job calendar and the loading of programs (R345, R346, R398-R401, R404). -/
namespace Sys2Proof.Machine
open Sys2Proof

/-- A submission, a cancel or an image refused, on notice class 3 (R400, R402). -/
def State.reject (s : State) (entry reason seq : Nat) : State :=
  let s := (s.bump ULK.JOB_STAT.REJECTED).wr ULK.JOB_STAT.LAST_REASON reason
  let s := s.compose 3 (leBytes 2 entry ++ leBytes 1 reason ++ leBytes 1 0 ++ leBytes 4 seq)
  s.raise (if reason = 10 then ULK.EVENT.CANCEL_LATE else ULK.EVENT.JOB_REJECT)

/-- The trigger that a submission holds. -/
def State.trigOf (s : State) (entry seq : Nat) : Option Nat :=
  (List.range 8).find? fun j => (s.job j).stage != .free && (s.job j).entry == entry && (s.job j).eseq == seq

/-- A job disarmed (R401). -/
def State.cancelJob (s : State) (j : Nat) : State :=
  ((s.bump ULK.JOB_STAT.CANCELLED).jobNotice j 4 0 0).freeTrigger j

/-- A CANCEL of the submission in hand (R401): 10 us or more before START. Log: DEDUCED 90. -/
def State.cancelEntry (s : State) (entry seq start : Nat) : State :=
  match s.trigOf entry seq with
  | some j =>
    if (s.job j).stage ≠ JobStage.running ∧ s.now + Config.ns 10000 ≤ (s.job j).start * 65536 then s.cancelJob j else s.reject entry 10 seq
  | none => if s.now + Config.ns 10000 ≤ start * 65536 then s else s.reject entry 10 seq

/-- The reason for which an entry is rejected by checks 1 to 8, in their order; 0 none (R376, R400). `bad` are the
lines of it that read uncorrectable. Log: DEDUCED 90. -/
def State.entryReason (s : State) (l : List Byte) (bad : List Nat) : Nat :=
  let g := s.rd GAUGE.STATUS.STATE
  let prog := bytesAt l 8 6
  let group := bytesAt l 16 2
  let mask := bytesAt l 64 256
  let maskBad := bad.any fun k => decide (1 ≤ k) && decide (k ≤ 4)
  if bytesAt l 14 2 ≠ 0 ∨ bytesAt l 18 1 / 4 ≠ 0 ∨ bytesAt l 19 1 ≠ 0 ∨ bytesAt l 24 40 ≠ 0 then 1
  else if g = 0 ∨ g = 1 ∨ g = 5 then 2
  else if s.rd PWR.STATE.STATE ≠ pwActive ∨ s.on PWR.STATE.CHANGING then 11
  else if bytesAt l 0 8 * 65536 < s.now + Config.ns (1000 * s.rd ULK.CAL_CFG.LEAD) then 3
  else if prog % 64 ≠ 0 ∨ s.lpEnd ≤ prog then 4
  else if ¬ maskBad ∧ (mask = 0 ∨ 2 ^ 2000 ≤ mask) then 5
  else if bitsOf group 13 3 < bitsOf group 8 3 then 6
  else if (List.range 8).all fun j => (s.job j).stage != .free then 7
  else if bad ≠ [] then 8
  else 0

/-- A submission handled (R400, R401): one still armed on the entry is cancelled first; then it is rejected, or takes the
lowest free trigger and its image is loaded. Log: DEDUCED 90. -/
def State.submit (s : State) (entry addr : Nat) (l : List Byte) (bad : List Nat) : State :=
  let seq := bytesAt l 20 4
  let s := match Tbl.look s.ulk.calSeq entry with
    | some old =>
      match s.trigOf entry old with
      | some j => if (s.job j).stage = JobStage.armed then s.cancelJob j else s
      | none => s
    | none => s
  let s := { s with ulk := { s.ulk with calSeq := Tbl.set s.ulk.calSeq entry seq } }
  let r := s.entryReason l bad
  if r ≠ 0 then s.reject entry r seq
  else
    match (List.range 8).find? fun j => (s.job j).stage == .free with
    | none => s.reject entry 7 seq
    | some j =>
      let x := s.job j
      s.setJob j { stage := .loading, mask := bytesAt l 64 256, start := bytesAt l 0 8, image := bytesAt l 8 6,
                   group := bytesAt l 16 2, entry := entry, eaddr := addr, eseq := seq, done := x.done, bad := x.bad }

/-- The eight lines of an entry, and those that read uncorrectable. Log: DEDUCED 90. -/
def State.readEntry (s : State) (a : Nat) (ups : List Upset) : State × List Byte × List Nat :=
  (List.range 8).foldl (fun (r : State × List Byte × List Nat) k =>
    let q := r.1.devRead .ftdEngine (a + 64 * k) 64 ups
    match q.2 with
    | some l => (q.1, r.2.1 ++ l, r.2.2)
    | none => (q.1, r.2.1 ++ List.replicate 64 0, r.2.2 ++ [k])) (s, [], [])

/-- CALENDAR_EXAMINE (R399): MC0 reads an entry whose first line has arrived, coherently. -/
def execCalendarExamine (i : Fin 255) (ups : List Upset) (t : Nat) (s : State) : Result :=
  let s := s.advance t
  let a := s.rd ULK.CAL_LO.ADDR + 2 ^ 32 * s.rd ULK.CAL_HI.ADDR + 512 * i
  if ¬ s.mcRuns ∨ ¬ s.ulk.calWait.contains i.val then .next s
  else if s.calEntries ≤ i.val then
    .next { s with ulk := { s.ulk with calWait := s.ulk.calWait.filter fun k => k != i.val } }
  else if s.heldLines false a 512 ≠ [] then .next (s.snoopFor false a 512)
  else
    let s := { s with ulk := { s.ulk with calWait := s.ulk.calWait.filter fun k => k != i.val } }
    let r := s.readEntry a ups
    let s := r.1
    let l := r.2.1
    let seq := bytesAt l 20 4
    if r.2.2.contains 0 then
      let d := s.draw (2 ^ 30 + i)
      .next (d.2.reject i 8 d.1)
    else if ¬ bitOf (bytesAt l 18 1) 0 then .next s
    else if seq = Tbl.lookD s.ulk.calSeq 0 i then
      if bitOf (bytesAt l 18 1) 1 then .next (s.cancelEntry i seq (bytesAt l 0 8)) else .next s
    else .next (s.submit i a l r.2.2)

/-! ### Program images (R345, R346) -/

/-- The 64-bit words of bytes, from index `i`, without those that an unlisted index holds. -/
def wordsFrom : Nat → List Byte → Tbl (BitVec 64)
  | i, a :: b :: c :: d :: e :: f :: g :: h :: r =>
    let w := BitVec.ofNat 64 (ofLeBytes [a, b, c, d, e, f, g, h])
    if w = BitVec.allOnes 64 then wordsFrom (i + 1) r else (i, w) :: wordsFrom (i + 1) r
  | _, _ => []

/-- The image at an address: its COUNT, ENTRY and instructions; none where it is wrong or cannot be read. -/
def State.readImage (s : State) (a : Nat) (ups : List Upset) : State × Option (Nat × Nat × List Byte) :=
  if !s.inRegion a 64 then (s, none)
  else
    match s.devRead .ftdEngine a 64 ups with
    | (s, none) => (s, none)
    | (s, some h) =>
      let n := bytesAt h 6 2
      let e := bytesAt h 8 2
      if bytesAt h 0 4 ≠ 0x474D4A46 ∨ bytesAt h 4 2 ≠ 1 ∨ n = 0 ∨ 8192 < n ∨ n ≤ e ∨ !s.inRegion a (64 + 8 * n) then (s, none)
      else
        match s.devRead .ftdEngine (a + 64) (8 * n) ups with
        | (s, none) => (s, none)
        | (s, some l) => if crc32c l = bytesAt h 16 4 then (s, some (n, e, l)) else (s, none)

/-- Is a logical cluster named by another job that is armed and has not started (R346)? -/
def State.armedElse (s : State) (j n : Nat) : Bool :=
  (List.range 8).any fun k => k != j && (s.job k).stage == .armed && decide (s.now < (s.job k).start * 65536) &&
    bitOf (s.job k).mask n

/-- The image written into every named cluster's instruction store, but for those that are skipped. A GATED cluster's
store holds nothing. Log: DEDUCED 52. -/
def State.loadClusters (s : State) (j : Nat) (n e : Nat) (l : List Byte) : State :=
  let x := s.job j
  let words := wordsFrom 0 l
  let r := (maskList x.mask).foldl (fun (r : State × List Nat × List Nat) k =>
    match r.1.physOf k with
    | none => r
    | some p =>
      if r.1.clState p = clRun ∨ r.1.armedElse j k then (r.1, r.2.1 ++ [k], r.2.2)
      else if r.1.clState p = clGated then r
      else
        let s := r.1.setCl p { r.1.cl p with store := words, filled := true }
        let s := ((s.wr (CL.PROG.LOADED p) 1).wr (CL.PROG.COUNT p) n).wr (CL.PROG.JOB p) j
        (s.wr (CL.PROG.ENTRY p) e, r.2.1, if r.2.2.contains (p / 256) then r.2.2 else r.2.2 ++ [p / 256]))
    (s, [], [])
  let bytes := 64 * ((8 * n + 63) / 64)
  let s := r.1.opnCount (r.1.nodeOf x.image) .ftd false (64 + bytes)
  let s := r.2.2.foldl (fun s d => s.opnCount .ftd (.die d) false bytes) s
  s.setJob j { s.job j with skipped := r.2.1 }

/-- The trigger of a loaded job armed (R78): too late, it does not fire. Log: DEDUCED 54. -/
def State.armJob (s : State) (j : Nat) : State :=
  let x := s.job j
  if x.start * 65536 < s.now + Config.ns 2000 then
    ((s.raise TIO.EVENT.PTRIG_LATE).jobNotice j 3 1 0).freeTrigger j
  else (((s.setJob j { x with stage := .armed }).countArmed).bump ULK.JOB_STAT.ACCEPTED).jobNotice j 1 0 0

/-- PROGRAM_LOAD_DONE: the load for a trigger ends. -/
def execProgramLoadDone (j : Fin 8) (ups : List Upset) (t : Nat) (s : State) : Result :=
  let s := s.advance t
  let x := s.job j
  if x.stage ≠ .loading then .next s
  else if s.heldLines false x.image (64 + 65536) ≠ [] then .next (s.snoopFor false x.image (64 + 65536))
  else
    let r := s.readImage x.image ups
    match r.2 with
    | none => .next ((r.1.freeTrigger j).reject x.entry 9 x.eseq)
    | some (n, e, l) => .next ((r.1.loadClusters j n e l).armJob j)

end Sys2Proof.Machine
end

