-- ==== Sys2Proof/Machine/Crypto.lean ====
section
/-! DEFINITION. SHA-384 (FIPS 180-4) and the verification of ECDSA signatures (FIPS 186-5) on brainpoolP384r1 (RFC 5639),
which R445 names. The constants are those of the standards: log entry 21. -/
namespace Sys2Proof.Machine
open Sys2Proof

/-! ### SHA-384 -/

/-- The first 40 round constants. -/
def shaK0 : List Nat :=
  [
   0x428a2f98d728ae22, 0x7137449123ef65cd, 0xb5c0fbcfec4d3b2f, 0xe9b5dba58189dbbc, 0x3956c25bf348b538,
   0x59f111f1b605d019, 0x923f82a4af194f9b, 0xab1c5ed5da6d8118, 0xd807aa98a3030242, 0x12835b0145706fbe,
   0x243185be4ee4b28c, 0x550c7dc3d5ffb4e2, 0x72be5d74f27b896f, 0x80deb1fe3b1696b1, 0x9bdc06a725c71235,
   0xc19bf174cf692694, 0xe49b69c19ef14ad2, 0xefbe4786384f25e3, 0xfc19dc68b8cd5b5, 0x240ca1cc77ac9c65,
   0x2de92c6f592b0275, 0x4a7484aa6ea6e483, 0x5cb0a9dcbd41fbd4, 0x76f988da831153b5, 0x983e5152ee66dfab,
   0xa831c66d2db43210, 0xb00327c898fb213f, 0xbf597fc7beef0ee4, 0xc6e00bf33da88fc2, 0xd5a79147930aa725,
   0x6ca6351e003826f, 0x142929670a0e6e70, 0x27b70a8546d22ffc, 0x2e1b21385c26c926, 0x4d2c6dfc5ac42aed,
   0x53380d139d95b3df, 0x650a73548baf63de, 0x766a0abb3c77b2a8, 0x81c2c92e47edaee6, 0x92722c851482353b ]

/-- The other 40. -/
def shaK1 : List Nat :=
  [
   0xa2bfe8a14cf10364, 0xa81a664bbc423001, 0xc24b8b70d0f89791, 0xc76c51a30654be30, 0xd192e819d6ef5218,
   0xd69906245565a910, 0xf40e35855771202a, 0x106aa07032bbd1b8, 0x19a4c116b8d2d0c8, 0x1e376c085141ab53,
   0x2748774cdf8eeb99, 0x34b0bcb5e19b48a8, 0x391c0cb3c5c95a63, 0x4ed8aa4ae3418acb, 0x5b9cca4f7763e373,
   0x682e6ff3d6b2b8a3, 0x748f82ee5defb2fc, 0x78a5636f43172f60, 0x84c87814a1f0ab72, 0x8cc702081a6439ec,
   0x90befffa23631e28, 0xa4506cebde82bde9, 0xbef9a3f7b2c67915, 0xc67178f2e372532b, 0xca273eceea26619c,
   0xd186b8c721c0c207, 0xeada7dd6cde0eb1e, 0xf57d4f7fee6ed178, 0x6f067aa72176fba, 0xa637dc5a2c898a6,
   0x113f9804bef90dae, 0x1b710b35131c471b, 0x28db77f523047d84, 0x32caab7b40c72493, 0x3c9ebe0a15c9bebc,
   0x431d67c49c100d4c, 0x4cc5d4becb3e42b6, 0x597f299cfc657e2a, 0x5fcb6fab3ad6faec, 0x6c44198c4a475817 ]

/-- The initial hash value. -/
def shaInit : List Nat :=
  [
   0xcbbb9d5dc1059ed8, 0x629a292a367cd507, 0x9159015a3070dd17, 0x152fecd8f70e5939, 0x67332667ffc00b31,
   0x8eb44a8768581511, 0xdb0c2e0d64f98fa7, 0x47b5481dbefa4fa4 ]

/-- A sum of 64-bit words. -/
def add64 (a b : Nat) : Nat := (a + b) % 2 ^ 64

/-- A 64-bit word rotated right. -/
def ror64 (x n : Nat) : Nat := x / 2 ^ n + x % 2 ^ n * 2 ^ (64 - n)

/-- The complement of a 64-bit word. -/
def not64 (x : Nat) : Nat := 2 ^ 64 - 1 - x

/-- The message schedule of a block: `w` holds its words so far, newest first. -/
def shaSchedule : Nat → List Nat → List Nat
  | 0, w => w
  | n + 1, w =>
    let x := w.getD 14 0
    let y := w.getD 1 0
    let s0 := ror64 x 1 ^^^ ror64 x 8 ^^^ x / 2 ^ 7
    let s1 := ror64 y 19 ^^^ ror64 y 61 ^^^ y / 2 ^ 6
    shaSchedule n (add64 (add64 (w.getD 15 0) s0) (add64 (w.getD 6 0) s1) :: w)

/-- One round on the working words a to h. -/
def shaRound (v : List Nat) (k w : Nat) : List Nat :=
  match v with
  | [a, b, c, d, e, f, g, h] =>
    let t1 := add64 (add64 h (ror64 e 14 ^^^ ror64 e 18 ^^^ ror64 e 41))
      (add64 ((e &&& f) ^^^ (not64 e &&& g)) (add64 k w))
    let t2 := add64 (ror64 a 28 ^^^ ror64 a 34 ^^^ ror64 a 39) ((a &&& b) ^^^ (a &&& c) ^^^ (b &&& c))
    [add64 t1 t2, a, b, c, add64 d t1, e, f, g]
  | _ => v

/-- One block's 16 words into the hash value. -/
def shaBlock (h w : List Nat) : List Nat :=
  let v := ((shaK0 ++ shaK1).zip (shaSchedule 64 w.reverse).reverse).foldl (fun v x => shaRound v x.1 x.2) h
  (h.zip v).map fun x => add64 x.1 x.2

/-- The number that big-endian bytes spell. -/
def ofBeBytes (l : List Byte) : Nat := l.foldl (fun n b => 256 * n + b.toNat) 0

/-- The `n` big-endian bytes of a number. -/
def beBytes (n v : Nat) : List Byte := (leBytes n v).reverse

/-- The 64-bit words of bytes. -/
def wordsBe : Nat → List Byte → List Nat
  | 0, _ => []
  | n + 1, l => ofBeBytes (l.take 8) :: wordsBe n (l.drop 8)

/-- The blocks of a padded message. -/
def shaBlocks : Nat → List Nat → List Byte → List Nat
  | 0, h, _ => h
  | n + 1, h, l => shaBlocks n (shaBlock h (wordsBe 16 (l.take 128))) (l.drop 128)

/-- SHA-384: 48 bytes. Log: PRESUMED 21. -/
def sha384 (l : List Byte) : List Byte :=
  let n := l.length
  let pad := l ++ [0x80] ++ List.replicate ((240 - (n + 1) % 128) % 128) 0 ++ beBytes 16 (8 * n)
  ((shaBlocks (pad.length / 128) shaInit pad).take 6).flatMap (beBytes 8)

/-! ### brainpoolP384r1 -/

/-- The field's prime. Log: PRESUMED 21. -/
def bpP : Nat := 0x8CB91E82A3386D280F5D6F7E50E641DF152F7109ED5456B412B1DA197FB71123ACD3A729901D1A71874700133107EC53
/-- The coefficients A and B. Log: PRESUMED 21. -/
def bpA : Nat := 0x7BC382C63D8C150C3C72080ACE05AFA0C2BEA28E4FB22787139165EFBA91F90F8AA5814A503AD4EB04A8C7DD22CE2826
def bpB : Nat := 0x04A8C7DD22CE28268B39B55416F0447C2FB77DE107DCD2A62E880EA53EEB62D57CB4390295DBC9943AB78696FA504C11
/-- The base point. Log: PRESUMED 21. -/
def bpX : Nat := 0x1D1C64F068CF45FFA2A63A81B7C13F6B8847A3E77EF14FE3DB7FCAFE0CBD10E8E826E03436D646AAEF87B2E247D4AF1E
def bpY : Nat := 0x8ABE1D7520F9C2A45CB1EB8E95CFD55262B70B29FEEC5864E19C054FF99129280E4646217791811142820341263C5315
/-- Its order. Log: PRESUMED 21. -/
def bpQ : Nat := 0x8CB91E82A3386D280F5D6F7E50E641DF152F7109ED5456B31F166E6CAC0425A7CF3AB6AF6B7FC3103B883202E9046565

/-- A power modulo `m`, by the `fuel` lowest bits of the exponent. -/
def powMod (m b e : Nat) : Nat → Nat
  | 0 => 1 % m
  | fuel + 1 => (if e % 2 = 1 then b else 1) * powMod m (b * b % m) (e / 2) fuel % m

/-- The inverse modulo a prime below 2^384. -/
def invMod (m x : Nat) : Nat := powMod m (x % m) (m - 2) 384

/-- A difference modulo the field's prime. -/
def subP (a b : Nat) : Nat := (a + bpP - b % bpP) % bpP

/-- The sum of two points; none is the point at infinity. -/
def bpAdd (p q : Option (Nat × Nat)) : Option (Nat × Nat) :=
  match p, q with
  | none, q => q
  | p, none => p
  | some (x1, y1), some (x2, y2) =>
    if x1 = x2 ∧ (y1 + y2) % bpP = 0 then none
    else
      let l := if x1 = x2 then (3 * x1 * x1 + bpA) * invMod bpP (2 * y1) % bpP
        else subP y2 y1 * invMod bpP (subP x2 x1) % bpP
      let x := subP (subP (l * l) x1) x2
      some (x, subP (l * subP x1 x) y1)

/-- A multiple of a point, by the `fuel` lowest bits of the factor. -/
def bpMul (k : Nat) (p : Option (Nat × Nat)) : Nat → Option (Nat × Nat)
  | 0 => none
  | fuel + 1 => bpAdd (if k % 2 = 1 then p else none) (bpMul (k / 2) (bpAdd p p) fuel)

/-- Is a public key a point of the curve? -/
def bpKeyOk (x y : Nat) : Bool :=
  decide (x < bpP) && decide (y < bpP) && y * y % bpP == (x * x * x + bpA * x + bpB) % bpP

/-- Is (r, s) a signature of bytes under a public key, with SHA-384? Log: PRESUMED 21. -/
def ecdsaOk (x y r s : Nat) (l : List Byte) : Bool :=
  let e := ofBeBytes (sha384 l)
  let w := invMod bpQ s
  bpKeyOk x y && r != 0 && s != 0 && decide (r < bpQ) && decide (s < bpQ) &&
    match bpAdd (bpMul (e * w % bpQ) (some (bpX, bpY)) 384) (bpMul (r * w % bpQ) (some (x, y)) 384) with
    | some (v, _) => v % bpQ == r
    | none => false

end Sys2Proof.Machine
end

