-- ==== Sys2Proof/Machine/CutList.lean ====
section
/-! DEFINITION. The cutting list: its layout, its checks, and the records that it holds (R441-R446). -/
namespace Sys2Proof.Machine
open Sys2Proof

/-! ### Bytes of NVM -/

/-- The first `n` bytes of an NVM slot: what was never written reads erased. -/
def nvTake (n : Nat) (l : List Byte) : List Byte := l.take n ++ List.replicate (n - l.length) 0xFF

/-- Are `n` bytes zero? Log: PRESUMED 106. -/
def zerosAt (l : List Byte) (off n : Nat) : Bool := bytesAt l off n == 0

/-- A part of bytes. -/
def slice (l : List Byte) (off n : Nat) : List Byte := (l.drop off).take n

/-! ### The layout (R441, R442, R445) -/

/-- A section's entry in the table. -/
structure Section where
  type : Nat
  key  : Nat
  off  : Nat
  len  : Nat
  crc  : Nat
  deriving DecidableEq, Repr

/-- The section table. -/
def sectionTable : Nat → List Byte → List Section
  | 0, _ => []
  | n + 1, l =>
    ⟨bytesAt l 0 2, bytesAt l 2 2, bytesAt l 4 4, bytesAt l 8 4, bytesAt l 12 4⟩ :: sectionTable n (l.drop 16)

/-- LENGTH, SECTIONS, GEN and FLAGS of a list or an image header's first two. -/
def clLength (l : List Byte) : Nat := bytesAt l 8 4
def clCount (l : List Byte) : Nat := bytesAt l 6 2
def clGen (l : List Byte) : Nat := bytesAt l 16 8
def clFlags (l : List Byte) : Nat := bytesAt l 14 1
def clChainLen (l : List Byte) : Nat := bytesAt l 13 1

/-- Is a list signed? -/
def clSigned (l : List Byte) : Bool := bitOf (clFlags l) 2

/-- The sections of a list. -/
def clSections (l : List Byte) : List Section := sectionTable (clCount l) (l.drop 64)

/-- The trailer's DIGEST, and KEY. -/
def trailDigest (l : List Byte) (len : Nat) : List Byte := slice l (len - 240) 48
def trailKey (l : List Byte) (len : Nat) : List Byte := slice l (len - 192) 96

/-- Is DIGEST that of the bytes before the trailer? -/
def digestOk (l : List Byte) (len : Nat) : Bool := sha384 (l.take (len - 240)) == trailDigest l len

/-- Does SIG verify against KEY? -/
def sigOk (l : List Byte) (len : Nat) : Bool :=
  ecdsaOk (bytesAt l (len - 192) 48) (bytesAt l (len - 144) 48) (bytesAt l (len - 96) 48) (bytesAt l (len - 48) 48)
    (l.take (len - 192))

/-! ### The checks (R446) -/

/-- Header. -/
def clHeaderOk (l : List Byte) : Bool :=
  bytesAt l 0 4 == 0x4C434A46 && bytesAt l 4 2 == 1 && clFlags l / 8 == 0 && zerosAt l 15 1 && zerosAt l 28 36 &&
    decide (clLength l ≤ 0x800000) && decide (64 + 16 * clCount l + 240 ≤ clLength l)

/-- Do two sections share a byte? -/
def Section.meets (x y : Section) : Bool := decide (max x.off y.off < min (x.off + x.len) (y.off + y.len))

/-- No two sections of a table overlap. -/
def apart : List Section → Bool
  | [] => true
  | x :: r => r.all (fun y => !x.meets y) && apart r

/-- Sections. -/
def clSectionsOk (l : List Byte) : Bool :=
  let t := clSections l
  t.all (fun x => decide (64 + 16 * clCount l ≤ x.off) && decide (x.off + x.len + 240 ≤ clLength l) && x.off % 8 == 0) && apart t

/-- Section CRC. -/
def clCrcOk (l : List Byte) : Bool := (clSections l).all fun x => crc32 (slice l x.off x.len) == x.crc

/-- Signature, for a package whose operator key digest is fused or blank. -/
def clSigOk (opKey : Option (List Byte)) (l : List Byte) : Bool :=
  (!clSigned l || sigOk l (clLength l)) &&
    match opKey with
    | none => true
    | some d => clSigned l && sha384 (trailKey l (clLength l)) == d

/-- Types. -/
def clTypesOk (l : List Byte) : Bool :=
  let t := clSections l
  let n (k : Nat) : Nat := (t.filter fun x => x.type == k).length
  n 1 == 1 && n 3 == 1 && n 4 == 1 && t.all fun x => decide (1 ≤ x.type) && decide (x.type ≤ 5) &&
    ((x.type != 2 && x.type != 5) || (t.filter fun y => y.type == x.type && y.key == x.key).length == 1)

/-! ### Records (R443) -/

/-- The bytes of a section of a list. -/
def clPart (l : List Byte) (type key : Nat) : Option (List Byte) :=
  ((clSections l).find? fun x => x.type == type && (key == 0xFFFF || x.key == key)).map fun x => slice l x.off x.len

/-- The CSR records that bytes spell: offset, mask, value. -/
def recordList : Nat → List Byte → List (Nat × Nat × Nat)
  | 0, _ => []
  | n + 1, l => (bytesAt l 0 4, bytesAt l 4 4, bytesAt l 8 4) :: recordList n (l.drop 12)

/-- The records of a list for the package at a chain position: HALL first, then its NODE section. -/
def clRecords (l : List Byte) (pos : Nat) : List (Nat × Nat × Nat) :=
  let hall := (clPart l 1 0xFFFF).getD []
  let node := ((clPart l 2 pos).getD []).drop 40
  recordList (hall.length / 12) hall ++ recordList (node.length / 12) node

/-- The bits of a register that records may set. -/
def clMask (r : RegRow) : Nat := ((r.fields.filter fun f => f.cl && accWritable f.acc).map fun f => (2 ^ f.width - 1) * 2 ^ f.lo).sum

/-- Are a record's offset, mask and value valid? -/
def recordValid (x : Nat × Nat × Nat) : Bool :=
  decide (x.1 < 2 ^ 26) && x.1 % 4 == 0 && (x.2.2 ||| x.2.1) == x.2.1 &&
    match regAt x.1 with
    | some (r, _) => (x.2.1 ||| clMask r) == clMask r
    | none => false

/-- One record applied to the values that fields are to hold; a register behind a selector takes it in every instance.
Log: DEDUCED 119. -/
def applyRec (t : Tbl Nat) (x : Nat × Nat × Nat) : Tbl Nat :=
  match regAt x.1 with
  | none => t
  | some (r, _) =>
    (winAll r.win).foldl (fun t inst => r.fields.foldl (fun t f =>
      let m := bitsOf x.2.1 f.lo f.width
      if m = 0 then t
      else
        let g := rowField r x.1 inst f
        let old := Tbl.lookD t g.reset g.key
        Tbl.set t g.key ((old &&& (2 ^ f.width - 1 - m)) ||| (bitsOf x.2.2 f.lo f.width &&& m))) t) t

/-- The values that a list gives to fields: the cutting-list shadow (R448). -/
def shadowOf (recs : List (Nat × Nat × Nat)) : Tbl Nat := recs.foldl applyRec []

/-- The state as its registers stand once the records have been applied to reset values. Log: DEDUCED 119. -/
def State.asListed (s : State) (sh : Tbl Nat) : State :=
  { s with regs := sh.foldl (fun t r => Tbl.set t r.1 r.2) (s.regs.filter fun r => r.1 / 128 % 2 ^ 26 < 0x10000) }

/-- Are the registers that records name left with values that they accept? -/
def State.namedOk (s : State) (recs : List (Nat × Nat × Nat)) : Bool :=
  recs.all fun x => match regAt x.1 with
    | some (r, i) => (winAll r.win).all fun inst => s.accepted r x.1 i inst
    | none => false

/-- Is every FLIGHT entry's COLOUR consistent? -/
def flightsOk : Nat → List Byte → Bool
  | 0, _ => true
  | n + 1, l => bytesAt l 4 1 == (bytesAt l 3 1 + 256 - bytesAt l 2 1) % 32 && flightsOk n (l.drop 12)

/-- Records. -/
def State.clRecordsOk (s : State) (l : List Byte) : Bool :=
  let recs := clRecords l (s.rd BOOT.CHAIN.POSITION)
  let t := s.asListed (shadowOf recs)
  let f := (clPart l 4 0xFFFF).getD []
  recs.all recordValid && t.namedOk recs && t.zerosOk && flightsOk (f.length / 12) f

/-- Is a cutting-list slot valid (R446)? -/
def State.clValid (s : State) (slot : List Byte) : Bool :=
  let h := nvTake 64 slot
  clHeaderOk h &&
    let l := nvTake (clLength h) slot
    clSectionsOk l && clCrcOk l && digestOk l (clLength l) && clSigOk s.sys.nvm.opKey l &&
      bytesAt l 12 1 == s.rd BOOT.STRAPS.BENCH_ID && clTypesOk l && s.clRecordsOk l

/-! ### What no register holds (R442, R448) -/

/-- The ROUTERS entries: who sits at a router index. -/
def sitesOf : Nat → List Byte → Tbl Site
  | 0, _ => []
  | n + 1, l => Tbl.set (sitesOf n (l.drop 8)) (32 * (bytesAt l 0 2 % 2048) + bytesAt l 2 1 % 32) ⟨bytesAt l 3 1, bytesAt l 4 2 % 4096⟩

/-- The FLIGHT entries. -/
def flightsOf : Nat → List Byte → Tbl Nat
  | 0, _ => []
  | n + 1, l =>
    Tbl.set (flightsOf n (l.drop 12)) (1024 * (bytesAt l 0 2 % 2048) + 32 * (bytesAt l 2 1 % 32) + bytesAt l 3 1 % 32) (bytesAt l 8 4)

/-- The ASYM entries. -/
def asymOf : Nat → List Byte → Tbl Int
  | 0, _ => []
  | n + 1, l => Tbl.set (asymOf n (l.drop 8)) (bytesAt l 0 2) (signedOf 32 (bytesAt l 4 4))

/-- The entries of a list for the package at a chain position. -/
def cutListOf (l : List Byte) (pos : Nat) : CutList :=
  let r := (clPart l 3 0xFFFF).getD []
  let f := (clPart l 4 0xFFFF).getD []
  let n := (clPart l 2 pos).getD []
  { sites := sitesOf (r.length / 8) r, flight := flightsOf (f.length / 12) f,
    cuFlight := (List.range 6).foldl (fun t k => Tbl.put t 0 k (bytesAt n (16 + 4 * k) 4)) [],
    digest := ofLeBytes (trailDigest l (clLength l)), mac := bytesAt n 2 6, ip := bytesAt n 8 4 }

end Sys2Proof.Machine
end

