-- ==== Sys2Proof/Machine/Scalar.lean ====
section
/-! DEFINITION. Control, scalar and predicate instructions (R326, R327, R331). -/
namespace Sys2Proof.Machine
open Sys2Proof

/-! ### Fields -/

/-- AD of formats C, S and X. -/
def fAD (w : Nat) : Nat := bitsOf w 48 4
/-- AA of formats C, S and X. -/
def fAA (w : Nat) : Nat := bitsOf w 44 4
/-- AB of formats S and X. -/
def fAB (w : Nat) : Nat := bitsOf w 40 4
/-- PD of format S. -/
def fPD (w : Nat) : Nat := bitsOf w 37 3
/-- PA of format S. -/
def fPA (w : Nat) : Nat := bitsOf w 34 3
/-- PB of format S. -/
def fPB (w : Nat) : Nat := bitsOf w 31 3
/-- COND of format S. -/
def fCond (w : Nat) : Nat := bitsOf w 28 3
/-- IMM28, signed. -/
def fImm28 (w : Nat) : Int := signedOf 28 w

/-! ### Control -/

/-- NOP, and the issue of an instruction that no row of the instruction set names: it faults ILLEGAL (R327). `upset`:
the read of the instruction store is uncorrectable, which faults ISTORE_UNCORR and quarantines (R314).
Log: DESIGN CHOICE 42. -/
def execNop (c : Fin 2048) (upset : Bool) (s : State) : Result :=
  match s.fetch c with
  | none => .next s
  | some w =>
    if upset then
      .next (((s.wr (CL.STATE.PC c) (s.cl c).pc).clFault c tokIstore).quarantine c)
    else if w / 2 ^ 56 = 0x00 ∨ ¬ opListed (w / 2 ^ 56) then
      .next (s.execute c w (w / 2 ^ 56 == 0 && onlyFields w []) false fun s _ => .done s)
    else .next s

/-- END: faults HELD while a buffer is held; waits until every tag has drained. -/
def execEndProg (c : Fin 2048) (s : State) : Result :=
  .next (s.issue c 0x01 (fun w => onlyFields w []) false fun _ s x =>
    if x.handles ≠ [] then .fault s pfHeld
    else if s.allDrained c then .ended (s.finish c)
    else .wait s .ended 0 none)

/-- BR's condition over a predicate. -/
def brTaken (cond : Nat) (p : Pred) : Bool :=
  match cond with
  | 0 => true
  | 1 => p != 0
  | 2 => p == BitVec.allOnes 64
  | _ => p == 0

/-- BR. -/
def execBr (c : Fin 2048) (s : State) : Result :=
  .next (s.issue c 0x02 (fun w => onlyFields w [(41, 3), (39, 2), (0, 13)]) false fun w s x =>
    if brTaken (bitsOf w 39 2) (x.preg (bitsOf w 41 3)) then .jump s (bitsOf w 0 13) else .done s)

/-- JAL. -/
def execJal (c : Fin 2048) (s : State) : Result :=
  .next (s.issue c 0x03 (fun w => onlyFields w [(48, 4), (0, 13)]) false fun w s x =>
    .jump (s.setCl c (x.setA (fAD w) (BitVec.ofNat 48 (x.pc + 1)))) (bitsOf w 0 13))

/-- JR. -/
def execJr (c : Fin 2048) (s : State) : Result :=
  .next (s.issue c 0x04 (fun w => onlyFields w [(44, 4)]) false fun w s x =>
    let t := (x.areg (fAA w)).toNat
    if 8191 < t then .fault s pfPcEnd else .jump s t)

/-- BRK. -/
def execBrk (c : Fin 2048) (s : State) : Result :=
  .next (s.issue c 0x05 (fun w => onlyFields w []) false fun _ s _ => .fault s pfUser)

/-- The flags as RDFL reads them. -/
def State.flagBits (s : State) (p : Nat) : Nat :=
  s.rd (CL.FLAGS.NV p) + 2 * s.rd (CL.FLAGS.DZ p) + 4 * s.rd (CL.FLAGS.OF p) + 8 * s.rd (CL.FLAGS.UF p) +
    16 * s.rd (CL.FLAGS.NX p) + 32 * s.rd (CL.FLAGS.SAT p)

/-- RDFL. -/
def execRdfl (c : Fin 2048) (s : State) : Result :=
  .next (s.issue c 0x06 (fun w => onlyFields w [(48, 4)]) false fun w s x =>
    .done (s.setCl c (x.setA (fAD w) (BitVec.ofNat 48 (s.flagBits c)))))

/-- CLRFL. -/
def execClrfl (c : Fin 2048) (s : State) : Result :=
  .next (s.issue c 0x07 (fun w => onlyFields w []) false fun _ s _ => .done (s.clearFlags c))

/-! ### Scalar -/

/-- An instruction that writes A[AD] from the cluster's registers. -/
def State.scalar (s : State) (p op : Nat) (fs : List (Nat × Nat)) (ok : Nat → Bool) (f : Nat → Cluster → AWord) : State :=
  s.issue p op (fun w => onlyFields w (predField :: fs) && ok w) true fun w s x =>
    .done (s.setCl p (x.setA (fAD w) (f w x)))

/-- An instruction that writes A[AD] from A[AA] and A[AB]. -/
def State.scalar2 (s : State) (p op : Nat) (f : AWord → AWord → AWord) : State :=
  s.scalar p op [(48, 4), (44, 4), (40, 4)] (fun _ => true) fun w x => f (x.areg (fAA w)) (x.areg (fAB w))

/-- AADD. -/
def execAadd (c : Fin 2048) (s : State) : Result := .next (s.scalar2 c 0x20 (· + ·))

/-- AADDI. -/
def execAaddi (c : Fin 2048) (s : State) : Result :=
  .next (s.scalar c 0x21 [(48, 4), (44, 4), (0, 28)] (fun _ => true) fun w x =>
    x.areg (fAA w) + BitVec.ofInt 48 (fImm28 w))

/-- ASUB. -/
def execAsub (c : Fin 2048) (s : State) : Result := .next (s.scalar2 c 0x22 (· - ·))

/-- AMUL. -/
def execAmul (c : Fin 2048) (s : State) : Result := .next (s.scalar2 c 0x23 (· * ·))

/-- AAND. -/
def execAand (c : Fin 2048) (s : State) : Result := .next (s.scalar2 c 0x24 (· &&& ·))

/-- AOR. -/
def execAor (c : Fin 2048) (s : State) : Result := .next (s.scalar2 c 0x25 (· ||| ·))

/-- AXOR. -/
def execAxor (c : Fin 2048) (s : State) : Result := .next (s.scalar2 c 0x26 (· ^^^ ·))

/-- A shift amount of 0-47. -/
def shiftOk (w : Nat) : Bool := decide (0 ≤ fImm28 w) && decide (fImm28 w ≤ 47)

/-- ASHLI. -/
def execAshli (c : Fin 2048) (s : State) : Result :=
  .next (s.scalar c 0x27 [(48, 4), (44, 4), (0, 28)] shiftOk fun w x => x.areg (fAA w) <<< (fImm28 w).toNat)

/-- ASHRI. -/
def execAshri (c : Fin 2048) (s : State) : Result :=
  .next (s.scalar c 0x28 [(48, 4), (44, 4), (0, 28)] shiftOk fun w x => x.areg (fAA w) >>> (fImm28 w).toNat)

/-- AMOVI. -/
def execAmovi (c : Fin 2048) (s : State) : Result :=
  .next (s.scalar c 0x29 [(48, 4), (0, 48)] (fun _ => true) fun w _ => BitVec.ofNat 48 (bitsOf w 0 48))

/-- The scalar comparisons: 0 EQ, 1 NE, 2 LT, 3 LE, 4 GT, 5 GE signed; 6 LTU, 7 GEU unsigned. -/
def cmpBits {n : Nat} (cond : Nat) (a b : BitVec n) : Bool :=
  match cond with
  | 0 => a == b
  | 1 => a != b
  | 2 => a.slt b
  | 3 => a.sle b
  | 4 => b.slt a
  | 5 => b.sle a
  | 6 => a.ult b
  | _ => b.ule a

/-- An instruction that writes P[PD]. -/
def State.predicate (s : State) (p op : Nat) (fs : List (Nat × Nat)) (f : Nat → Cluster → Pred) : State :=
  s.issue p op (fun w => onlyFields w (predField :: fs)) true fun w s x =>
    .done (s.setCl p (x.setP (fPD w) (f w x)))

/-- All ones or all zeros. -/
def allOf (b : Bool) : Pred := if b then BitVec.allOnes 64 else 0

/-- ACMP. -/
def execAcmp (c : Fin 2048) (s : State) : Result :=
  .next (s.predicate c 0x2A [(44, 4), (40, 4), (37, 3), (28, 3)] fun w x =>
    allOf (cmpBits (fCond w) (x.areg (fAA w)) (x.areg (fAB w))))

/-- ACMPI. -/
def execAcmpi (c : Fin 2048) (s : State) : Result :=
  .next (s.predicate c 0x2B [(44, 4), (37, 3), (28, 3), (0, 28)] fun w x =>
    allOf (cmpBits (fCond w) (x.areg (fAA w)) (BitVec.ofInt 48 (fImm28 w))))

/-- An instruction that writes P[PD] from P[PA] and P[PB]. -/
def State.predicate2 (s : State) (p op : Nat) (f : Pred → Pred → Pred) : State :=
  s.predicate p op [(37, 3), (34, 3), (31, 3)] fun w x => f (x.preg (fPA w)) (x.preg (fPB w))

/-- PAND. -/
def execPand (c : Fin 2048) (s : State) : Result := .next (s.predicate2 c 0x2C (· &&& ·))

/-- POR. -/
def execPor (c : Fin 2048) (s : State) : Result := .next (s.predicate2 c 0x2D (· ||| ·))

/-- PXOR. -/
def execPxor (c : Fin 2048) (s : State) : Result := .next (s.predicate2 c 0x2E (· ^^^ ·))

/-- PNOT. -/
def execPnot (c : Fin 2048) (s : State) : Result :=
  .next (s.predicate c 0x2F [(37, 3), (34, 3)] fun w x => ~~~ x.preg (fPA w))

/-- The number of bits set in a predicate. -/
def popCount (p : Pred) : Nat := ((List.range 64).filter fun i => p.getLsbD i).length

/-- PCNT. -/
def execPcnt (c : Fin 2048) (s : State) : Result :=
  .next (s.scalar c 0x30 [(48, 4), (34, 3)] (fun _ => true) fun w x => BitVec.ofNat 48 (popCount (x.preg (fPA w))))

/-- PFROMA. -/
def execPfroma (c : Fin 2048) (s : State) : Result :=
  .next (s.predicate c 0x31 [(44, 4), (37, 3)] fun w x => BitVec.ofNat 64 (x.areg (fAA w)).toNat)

end Sys2Proof.Machine
end

