-- ==== Sys2Proof/Machine/External.lean ====
section
/-! DEFINITION. External instructions and what ends their waits (R324, R339-R344, R366, R371). -/
namespace Sys2Proof.Machine
open Sys2Proof

/-! ### Fields of format X -/

/-- NUM. -/
def fNum (w : Nat) : Nat := bitsOf w 34 6
/-- TAG. -/
def fTag (w : Nat) : Nat := bitsOf w 31 3
/-- OP. -/
def fOp (w : Nat) : Nat := bitsOf w 28 3
/-- IMM25, unsigned. -/
def fImm25 (w : Nat) : Nat := bitsOf w 0 25

/-- A cluster's A register as a number. -/
def State.aval (s : State) (p r : Nat) : Nat := ((s.cl p).areg r).toNat

/-- A cluster's A register written. -/
def State.setAreg (s : State) (p r v : Nat) : State := s.setCl p ((s.cl p).setA r (BitVec.ofNat 48 v))

/-! ### PUT, GET, CPY (R339) -/

/-- A device address that a PUT or a GET may name (R350, R528). -/
def State.putGetOk (s : State) (p : Nat) (put : Bool) (dev len : Nat) : Bool :=
  s.inRegion dev len && (match s.region dev with
    | .buffer q b _ => put && (s.cl p).handles.contains (q, b)
    | _ => true)

/-- A transfer put under a tag; over the link, its first line is requested. -/
def State.startXfer (s : State) (p tag : Nat) (put : Bool) (dev loc len : Nat) : State :=
  let c := s.cl p
  let x : Xfer := { id := c.serial, tag := tag, put := put, loc := loc, dev := dev, len := len, counted := true }
  let s := s.setCl p { c with xfers := c.xfers ++ [x], serial := c.serial + 1 }
  let s := s.setTag p tag (s.tagCount p tag + 1)
  if s.xferLink x then s.xferNext p x else s

/-- A PUT's or a GET's effect. -/
def State.putGet (put : Bool) (w : Nat) (s : State) (p : Nat) : Effect :=
  let dev := s.aval p (fAA w)
  let loc := s.aval p (fAB w)
  let n := fImm25 w
  if dev % 8 ≠ 0 ∨ loc % 8 ≠ 0 ∨ n % 8 ≠ 0 then .fault s pfAlign
  else if n = 0 then .done s
  else if sramBytes < loc + n then .fault s pfRange
  else if !s.putGetOk p put dev n then .fault s pfDevAddr
  else if 63 ≤ s.tagCount p (fTag w) then .wait s .tagFull (fTag w) none
  else .done (s.startXfer p (fTag w) put dev loc n)

/-- A CPY's effect: its descriptor is read, and queued at an engine of the cluster's die. -/
def State.cpy (w : Nat) (s : State) (p : Nat) : Effect :=
  let a := (s.aval p (fAA w) + fImm25 w) % 2 ^ 48
  if sramBytes < a + 64 then .fault s pfRange
  else
    let r := s.sramRead p a 64
    let l := r.2.getD []
    let d := Desc.ofBytes l
    if r.2 ≠ none ∧ ¬ d.invalid ∧ d.empty then .done r.1
    else if 63 ≤ s.tagCount p (fTag w) then .wait s .tagFull (fTag w) none
    else
      match s.pickEngine (p / 256) with
      | none => .wait s .engines 0 none
      | some e =>
        let s := r.1.setTag p (fTag w) (s.tagCount p (fTag w) + 1)
        .done (s.enqueue e { cluster := p, tag := fTag w, counted := true, desc := l })

/-- PUT. -/
def execPut (c : Fin 2048) (s : State) : Result :=
  .next (s.issue c 0xC0 (fun w => onlyFields w [predField, (44, 4), (40, 4), (31, 3), (0, 25)]) true
    fun w s _ => s.putGet true w c)

/-- GET. -/
def execGet (c : Fin 2048) (s : State) : Result :=
  .next (s.issue c 0xC1 (fun w => onlyFields w [predField, (44, 4), (40, 4), (31, 3), (0, 25)]) true
    fun w s _ => s.putGet false w c)

/-- CPY. -/
def execCpy (c : Fin 2048) (s : State) : Result :=
  .next (s.issue c 0xC2 (fun w => onlyFields w [predField, (44, 4), (31, 3), (0, 25)]) true
    fun w s _ => s.cpy w c)

/-- The instruction of a stalled issue tried again (R339, R364): its effect, or a further stall. -/
def State.retryIssue (s : State) (p : Nat) : State :=
  match (s.cl p).wait with
  | none => s
  | some x =>
    let w := x.word.toNat
    let s1 := s.endWait p
    let e := if w / 2 ^ 56 = 0xC0 then s1.putGet true w p
      else if w / 2 ^ 56 = 0xC1 then s1.putGet false w p
      else s1.cpy w p
    match e with
    | .done s2 => s2.setPc p ((s2.cl p).pc + 1)
    | .wait s2 kind num u => s2.beginWait p ⟨kind, x.word, u, s2.now⟩ num
    | .fault s2 code => s2.clFault p code
    | .jump s2 _ => s2
    | .ended s2 => s2

/-- TAG_STALL_WAKE: an operation under the full tag completes and the stalled issue proceeds. -/
def execTagStallWake (c : Fin 2048) (ups : List Upset) (s : State) : Result :=
  match (s.cl c).wait with
  | none => .next s
  | some x =>
    if x.kind ≠ .tagFull then .next s
    else
      let t := fTag x.word.toNat
      let s := if s.tagCount c t < 63 then s
        else
          match (s.cl c).xfers.find? fun y => y.tag == t && y.counted && !s.xferLink y with
          | some y => (s.moveXfer c y ups).1
          | none => s
      .next (if s.tagCount c t < 63 then s.retryIssue c else s)

/-- CPY_QUEUE_WAKE: an engine's queue has room. -/
def execCpyQueueWake (c : Fin 2048) (s : State) : Result :=
  match (s.cl c).wait with
  | none => .next s
  | some x =>
    .next (if x.kind = .engines ∧ (s.pickEngine (c.val / 256)).isSome then s.retryIssue c else s)

/-! ### CWAIT and QCMT (R340, R341) -/

/-- The tag's failures, as CWAIT and QCMT report them. -/
def State.tagReport (s : State) (p t : Nat) : Nat := Tbl.lookD (s.cl p).fails 0 t % 65536

/-- The tag's failures reported and forgotten. -/
def State.takeReport (s : State) (p t r : Nat) : State :=
  let v := s.tagReport p t
  let s := s.setCl p { s.cl p with fails := Tbl.del (s.cl p).fails t }
  s.setAreg p r v

/-- CWAIT. -/
def execCwait (c : Fin 2048) (s : State) : Result :=
  .next (s.issue c 0xC3 (fun w => onlyFields w [predField, (48, 4), (31, 3), (0, 25)]) true fun w s _ =>
    let t := fTag w
    if s.tagCount c t = 0 then .done (s.takeReport c t (fAD w))
    else if fImm25 w = 0 then .done (s.setAreg c (fAD w) (s.tagReport c t + 2 ^ 47))
    else .wait s .tag t (some (s.now + Config.ns (1000 * fImm25 w))))

/-- The handle of a slot buffer: its device address (R349). Log: DEDUCED 46. -/
def handleOf (q b : Nat) : Nat := 0x10000000000 + 0x8000 * (8 * q + b)

/-- QCMT's second half, once its tag has drained (R341, R348). -/
def State.finishCommit (s : State) (p w : Nat) : State :=
  let h := s.aval p (fAA w)
  let n := s.aval p (fAB w)
  let fails := s.tagReport p (fTag w)
  let s := s.takeReport p (fTag w) (fAD w)
  match (s.cl p).handles.find? fun x => handleOf x.1 x.2 == h with
  | some x =>
    let s := s.setHandles p ((s.cl p).handles.filter fun y => y != x)
    if fails = 0 then s.commit x.1 x.2 n else s.release x.1 x.2
  | none =>
    let s := s.setCl p { s.cl p with lostHnd := (s.cl p).lostHnd.filter fun x => handleOf x.1 x.2 != h }
    s.setAreg p (fAD w) 1

/-- QCMT. Log: DEDUCED 46. -/
def execQcmt (c : Fin 2048) (s : State) : Result :=
  .next (s.issue c 0xC5 (fun w => onlyFields w [predField, (48, 4), (44, 4), (40, 4), (31, 3)]) true fun w s x =>
    let h := s.aval c (fAA w)
    if !((x.handles ++ x.lostHnd).any fun y => handleOf y.1 y.2 == h) then .fault s pfHandle
    else if bufBytes < s.aval c (fAB w) then .fault s pfLength
    else if s.tagCount c (fTag w) = 0 then .done (s.finishCommit c w)
    else .wait s .commit (fTag w) none)

/-- TAG_DRAIN: what is outstanding under a tag in the package moves; a drained tag ends a CWAIT, QCMT or END. -/
def execTagDrain (c : Fin 2048) (tag : Fin 8) (ups : List Upset) (s : State) : Result :=
  let l := (s.cl c).xfers.filter fun x => x.tag == tag.val && !s.xferLink x
  let s := s.moveAll c ups l
  if s.tagCount c tag ≠ 0 then .next s
  else
    match (s.cl c).wait with
    | none => .next s
    | some x =>
      let w := x.word.toNat
      match x.kind with
      | .tag => .next (if fTag w = tag.val then (s.takeReport c tag (fAD w)).completeWait c else s)
      | .commit => .next (if fTag w = tag.val then (s.finishCommit c w).completeWait c else s)
      | .ended => .next (if s.allDrained c then s.finish c else s)
      | _ => .next s

/-! ### QGET (R115, R341) -/

/-- A buffer reserved by a QGET. Log: DEDUCED 46. -/
def State.takeBuffer (s : State) (p w : Nat) : Option State :=
  (s.reserve (fNum w) (.cluster p)).map fun r =>
    let s := r.2.setHandles p ((r.2.cl p).handles ++ [(fNum w, r.1)])
    s.setAreg p (fAD w) (handleOf (fNum w) r.1)

/-- QGET. -/
def execQget (c : Fin 2048) (s : State) : Result :=
  .next (s.issue c 0xC4 (fun w => onlyFields w [predField, (48, 4), (34, 6)]) true fun w s x =>
    if 8 ≤ x.handles.length then .fault s pfHandle
    else
      match s.takeBuffer c w with
      | some s1 => .done s1
      | none => .wait s .buffer (fNum w) none)

/-- QGET_WAKE: a freed buffer goes to a waiting QGET or QUEUE copy. -/
def execQgetWake (who : Waiter) (s : State) : Result :=
  match who with
  | .cluster c =>
    match (s.cl c).wait with
    | none => .next s
    | some x =>
      if x.kind ≠ .buffer then .next s
      else
        match s.takeBuffer c x.word.toNat with
        | some s1 => .next (s1.completeWait c)
        | none => .next s
  | .engine e =>
    match s.curDesc e with
    | none => .next s
    | some d =>
      let x := s.engine e
      if s.queued e = 0 ∨ d.op ≠ 2 ∨ x.held ≠ none ∨ x.code ≠ none ∨ d.invalid ∨ d.empty then .next s
      else
        match s.reserve d.qnum (.engine e) with
        | none => .next s
        | some r =>
          let s := r.2.setEngine e { r.2.engine e with held := some (d.qnum, r.1) }
          .next (if s.copyLink d then s.copyNext e d else s)

/-! ### Receive rings and fell counts (R366, R371) -/

/-- An entry claimed by an RWAIT. -/
def State.takeEntry (s : State) (p w : Nat) : Option State :=
  (s.claim (fNum w)).map fun r =>
    let c := r.2.cl p
    (r.2.setCl p { c with claims := c.claims ++ [r.1] }).setAreg p (fAD w) r.1.addr

/-- RWAIT. -/
def execRwait (c : Fin 2048) (s : State) : Result :=
  .next (s.issue c 0xC6 (fun w => onlyFields w [predField, (48, 4), (34, 6), (0, 25)]) true fun w s _ =>
    match s.takeEntry c w with
    | some s1 => .done s1
    | none =>
      if fImm25 w = 0 then .done (s.setAreg c (fAD w) 0)
      else .wait s .ring (fNum w) (some (s.now + Config.ns (1000 * fImm25 w))))

/-- RWAIT_WAKE. -/
def execRwaitWake (c : Fin 2048) (s : State) : Result :=
  match (s.cl c).wait with
  | none => .next s
  | some x =>
    if x.kind ≠ .ring then .next s
    else
      match s.takeEntry c x.word.toNat with
      | some s1 => .next (s1.completeWait c)
      | none => .next s

/-- RDONE. -/
def execRdone (c : Fin 2048) (s : State) : Result :=
  .next (s.issue c 0xC7 (fun w => onlyFields w [predField, (48, 4), (44, 4)]) true fun w s x =>
    match x.claims.find? fun y => y.addr == s.aval c (fAA w) with
    | none => .fault s pfHandle
    | some y =>
      let stale := s.overwritten y
      let s := s.setCl c { x with claims := x.claims.filter fun z => z != y }
      let s := if stale then s else s.freeEntry y.ring y.idx
      .done (s.setAreg c (fAD w) (bit stale)))

/-- Has a stream's completed-slot count reached an FWAIT's target? -/
def State.fellReached (s : State) (p w : Nat) : Bool :=
  let c := s.rd (MEM.FELL_COUNTS.COMPLETED (fNum w))
  decide ((c + 2 ^ 32 - s.aval p (fAA w) % 2 ^ 32) % 2 ^ 32 < 2 ^ 31)

/-- What an FWAIT writes. -/
def State.fellReport (s : State) (p w : Nat) (late : Bool) : State :=
  s.setAreg p (fAD w) (s.rd (MEM.FELL_COUNTS.FAILED (fNum w)) + bit late * 2 ^ 47)

/-- FWAIT. -/
def execFwait (c : Fin 2048) (s : State) : Result :=
  .next (s.issue c 0xC8 (fun w => onlyFields w [predField, (48, 4), (44, 4), (34, 6), (0, 25)]) true fun w s _ =>
    if s.fellReached c w then .done (s.fellReport c w false)
    else if fImm25 w = 0 then .done (s.fellReport c w true)
    else .wait s .fell (fNum w) (some (s.now + Config.ns (1000 * fImm25 w))))

/-- FWAIT_WAKE. -/
def execFwaitWake (c : Fin 2048) (s : State) : Result :=
  match (s.cl c).wait with
  | none => .next s
  | some x =>
    .next (if x.kind = .fell ∧ s.fellReached c x.word.toNat then
      (s.fellReport c x.word.toNat false).completeWait c else s)

/-- EXTERNAL_WAIT_TIMEOUT: the timeout of a CWAIT, RWAIT or FWAIT expires at `t`. -/
def execExternalWaitTimeout (c : Fin 2048) (t : Nat) (s : State) : Result :=
  let s := s.advance t
  match (s.cl c).wait with
  | none => .next s
  | some x =>
    let w := x.word.toNat
    match x.until_ with
    | none => .next s
    | some u =>
      if s.now < u then .next s
      else
        match x.kind with
        | .tag => .next ((s.setAreg c (fAD w) (s.tagReport c (fTag w) + 2 ^ 47)).completeWait c)
        | .ring => .next ((s.setAreg c (fAD w) 0).completeWait c)
        | .fell => .next ((s.fellReport c w true).completeWait c)
        | _ => .next s

/-! ### Hall time (R344) -/

/-- The instant of a TWAIT. -/
def State.twaitAt (s : State) (p w : Nat) : Nat := ((s.cl p).t0 + s.aval p (fAA w)) * 65536

/-- TWAIT. -/
def execTwait (c : Fin 2048) (s : State) : Result :=
  .next (s.issue c 0xC9 (fun w => onlyFields w [predField, (44, 4)]) true fun w s _ =>
    if s.twaitAt c w ≤ s.now then .done s else .wait s .hallTime 0 (some (s.twaitAt c w)))

/-- TWAIT_WAKE. -/
def execTwaitWake (c : Fin 2048) (t : Nat) (s : State) : Result :=
  let s := s.advance t
  match (s.cl c).wait with
  | none => .next s
  | some x => .next (if x.kind = .hallTime ∧ s.twaitAt c x.word.toNat ≤ s.now then s.completeWait c else s)

/-- TNOW: (T_ns - t0) mod 2^48. -/
def execTnow (c : Fin 2048) (s : State) : Result :=
  .next (s.issue c 0xCA (fun w => onlyFields w [predField, (48, 4)]) true fun w s x =>
    .done (s.setCl c (x.setA (fAD w) (BitVec.ofInt 48 ((tns s.now : Int) - x.t0)))))

/-! ### Barriers (R342) -/

/-- A cluster's arrival at its job's barrier: none where the open barrier has another NUM or OP.
Log: DEDUCED 50. -/
def State.arrive (s : State) (p num : Nat) (op : Option Nat) (v : Nat) : Option State :=
  let j := s.clJob p
  let x := s.job j
  match x.barrier with
  | none => some (s.setJob j { x with barrier := some { num := num, op := op, came := [(p, v)] } })
  | some b =>
    if b.num = num ∧ b.op = op then
      some (s.setJob j { x with barrier := some { b with came := Tbl.set b.came p v } })
    else none

/-- GBAR. -/
def execGbar (c : Fin 2048) (s : State) : Result :=
  .next (s.issue c 0xCB (fun w => onlyFields w [predField, (48, 4), (34, 6)]) true fun w s _ =>
    match s.arrive c (fNum w) none 0 with
    | some s1 => .wait s1 .barrier (fNum w) none
    | none => .fault s pfBarrier)

/-- GRED: OP 0-4. -/
def execGred (c : Fin 2048) (s : State) : Result :=
  .next (s.issue c 0xCC (fun w => onlyFields w [predField, (48, 4), (44, 4), (34, 6), (28, 3)] && decide (fOp w ≤ 4)) true
    fun w s _ =>
      match s.arrive c (fNum w) (some (fOp w)) (s.aval c (fAA w) % 2 ^ 32) with
      | some s1 => .wait s1 .barrier (fNum w) none
      | none => .fault s pfBarrier)

/-- Two arrived values combined (R342): 0 wrapping sum, 1 signed maximum, 2 signed minimum, 3 OR, 4 AND. -/
def redOp (op : Nat) (a b : BitVec 32) : BitVec 32 :=
  match op with
  | 0 => a + b
  | 1 => if a.slt b then b else a
  | 2 => if a.slt b then a else b
  | 3 => a ||| b
  | _ => a &&& b

/-- The combination of a list of arrived values. -/
def combine (op : Nat) : List Nat → BitVec 32
  | [] => 0
  | [v] => BitVec.ofNat 32 v
  | v :: r => redOp op (BitVec.ofNat 32 v) (combine op r)

/-- BARRIER_RELEASE: every cluster of the mask has arrived or is unable to; a cluster that has sent its token is
unable to. Log: DEDUCED 50. -/
def execBarrierRelease (j : Fin 8) (s : State) : Result :=
  let x := s.job j
  match x.barrier with
  | none => .next s
  | some b =>
    let here (n : Nat) : Bool := match s.physOf n with
      | some p => (Tbl.look b.came p).isSome && !bitOf x.done n
      | none => false
    let l := maskList x.mask
    if l.all fun n => here n || bitOf x.done n then
      let unable := (l.filter fun n => !here n).length
      let came := (l.filter here).filterMap s.physOf
      let low := match b.op with
        | none => unable % 2048
        | some op => (combine op (came.map fun p => Tbl.lookD b.came 0 p)).toNat
      let s := s.setJob j { x with barrier := none }
      .next (came.foldl (fun s p =>
        match (s.cl p).wait with
        | some w => (s.setAreg p (fAD w.word.toNat) (low + bit (unable != 0) * 2 ^ 47)).completeWait p
        | none => s) s)
    else .next s

end Sys2Proof.Machine
end

