-- ==== Sys2Proof/Machine/Resets.lean ====
section
/-! DEFINITION. What the resets and the low-power states end, and the return of settings (R448, R454-R457 and the tables
of the block chapters that R457 names). -/
namespace Sys2Proof.Machine
open Sys2Proof

/-! ### Registers that go back to their reset values -/

/-- The offset in a register field's key. -/
def keyOff (k : Nat) : Nat := k / 128 % 2 ^ 26

/-- The fields that a test picks, by offset and lowest bit, at their header's values again (R13). -/
def State.dropRegs (s : State) (p : Nat → Nat → Bool) : State :=
  { s with regs := s.regs.filter fun r => !p (keyOff r.1) (r.1 % 128) }

/-- Is a block in the main domain (R415)? -/
def mainBlock (b : Nat) : Bool := (decide (3 ≤ b) && decide (b ≤ 22)) || decide (32 ≤ b)

/-- The register table and the field of a key. -/
def keyField (k : Nat) : Option (RegRow × FieldRow) :=
  match regAt (keyOff k) with
  | some (r, _) => (r.fields.find? fun f => f.lo == k % 128).map fun f => (r, f)
  | none => none

/-- Is a field a setting that a cutting list gives (R14, R456), other than those kept? -/
def returns (keep : RegRow → Nat → Bool) (k : Nat) : Bool :=
  match keyField k with
  | some (r, f) => f.cl && accWritable f.acc && !keep r f.lo
  | none => false

/-- Settings returned to their cutting-list values (R456). -/
def State.returnTo (s : State) (keep : RegRow → Nat → Bool) (sh : Tbl Nat) : State :=
  let rest := s.regs.filter fun r => !returns keep r.1
  { s with regs := (sh.filter fun r => returns keep r.1).foldl (fun t r => Tbl.set t r.1 r.2) rest }

/-- What FABRIC keeps: patch-map spares, calibrated resistances, the thermal configuration and the counters'
configuration (R166, R196, R428, R457, R507). -/
def keepFabric (r : RegRow) (lo : Nat) : Bool :=
  r.base == HLT.CTR_CFG.base || r.base == PWR.THERM_CFG.base || r.base == ED.DAC_RH.base || r.base == ED.SPARE_MAP.base ||
  (r.base == OPE.P_SPARE.base && lo == 8)

/-- What a boot after WARM or DARK exit keeps (R428); COLD keeps nothing. -/
def keepBoot (cold : Bool) (r : RegRow) (_ : Nat) : Bool := !cold && r.base == PWR.THERM_CFG.base

/-- What follows from settings that have returned: outputs whose MODE is 2 run (R85), disabled links are DOWN, and
LOOP_HOLD is 0 (R66). -/
def State.afterReturn (s : State) : State :=
  let s := (List.range 8).foldl (fun s n => s.wrB (TIO.TPO_CTRL.ARMED n) (s.rd (TIO.TPO_CTRL.MODE n) == 2)) s
  let s := (List.range 6).foldl (fun s k => if s.on (CU.CTRL.EN k) ∨ s.cuSt k = cuDown then s else s.cuEnter k cuDown) s
  let s := if s.on ULK.CTRL.EN then s else s.ulOff
  if s.on GAUGE.CTRL.LOOP_HOLD then s.writeLoopHold false else s

/-! ### Slot buffers that a reset frees (R131) -/

/-- Does an address lie in a slot buffer? -/
def State.inBuffer (s : State) (a : Nat) : Bool := match s.region a with | .buffer _ _ _ => true | _ => false

/-- The PUTs of a cluster into held buffers fail under their tags. -/
def State.failPuts (s : State) (p : Nat) : State :=
  ((s.cl p).xfers.filter fun x => x.put && s.inBuffer x.dev).foldl (fun s x => s.xferDone p x false) s

/-- The copy that an engine runs into a slot buffer ends ABORTED. -/
def State.abortCopy (s : State) (e : Nat) : State :=
  match s.curDesc e with
  | none => s
  | some d =>
    if (s.engine e).held.isSome ∨ (d.op ≠ 2 ∧ ¬ d.invalid ∧ s.inBuffer d.dst) then
      s.copyEnd e (some d) .aborted (if d.len = 0 then 0 else (s.engine e).pos / d.len)
    else s

/-- The clusters and the engines that the state knows of. -/
def State.clusterKeys (s : State) : List Nat := s.comp.clusters.map (·.1)
def State.engineKeys (s : State) : List Nat := s.comp.engines.map (·.1)

/-- Every operation that writes into a buffer held by a cluster or a copy ends, and the buffers are freed. With `lost`,
the handles are remembered (R348). -/
def State.freeHeld (s : State) (lost : Bool) : State :=
  let s := s.clusterKeys.foldl (fun s p => s.failPuts p) s
  let s := s.engineKeys.foldl (fun s e => s.abortCopy e) s
  s.clusterKeys.foldl (fun s p =>
    let s := if lost then s.setCl p { s.cl p with lostHnd := (s.cl p).lostHnd ++ (s.cl p).handles } else s
    s.dropHandles p) s

/-! ### Clusters (R320, R348) -/

/-- Bytes written to companion memory, line by line, which nothing waits for. -/
def State.postLines (s : State) (a : Nat) (l : List Byte) : Nat → State
  | 0 => s
  | n + 1 =>
    if l = [] then s
    else
      let k := min l.length (64 - a % 64)
      (s.request { write := true, addr := a, len := k, who := .posted, data := l.take k }).postLines (a + k) (l.drop k) n

/-- A transfer completed before its cluster's memory is lost: a PUT's bytes go out, a GET's are of no use any more. -/
def State.settleXfer (s : State) (p : Nat) (x : Xfer) : State :=
  if s.xferLink x then
    if x.put ∧ s.linkServes then
      match s.sramRead p (x.loc + x.pos) (x.len - x.pos) with
      | (s, some l) => s.postLines (x.dev + x.pos - 0x800000000000) l (l.length / 64 + 2)
      | (s, none) => s
    else s
  else
    let m := s.moveXfer p x []
    if m.2 ∨ ¬ x.put then m.1
    else
      match m.1.sramRead p x.loc x.len with
      | (s, some l) => { s with ulk := { s.ulk with deferred := s.ulk.deferred ++ [.write x.dev l] } }
      | (s, none) => s

/-- Every outstanding PUT and GET of a cluster. -/
def State.settleXfers (s : State) (p : Nat) : State :=
  let s := (s.cl p).xfers.foldl (fun s x => s.settleXfer p x) s
  s.setCl p { s.cl p with xfers := [] }

/-- A die engine's descriptors finished, but for one that must wait for the link, a snoop or a buffer. -/
def State.drainEngine (s : State) (e : Nat) : Nat → State
  | 0 => s
  | n + 1 =>
    let t := s.copyTick e []
    if (t.engine e).queue.length < (s.engine e).queue.length then t.drainEngine e n else t

/-- A cluster's claimed ring entries released. -/
def State.dropClaims (s : State) (p : Nat) : State :=
  let s := (s.cl p).claims.foldl (fun s c => if s.overwritten c then s else s.freeEntry c.ring c.idx) s
  s.setCl p { s.cl p with claims := [], lostHnd := [] }

/-- The random state that is fused (R311). Log: DESIGN CHOICE 16. -/
def State.fuseRandom (s : State) (p : Nat) : State :=
  let v := Config.fusedRandom p % 2 ^ 64
  (s.wr (CL.RNG_LO.STATE p) (v % 2 ^ 32)).wr (CL.RNG_HI.STATE p) (v / 2 ^ 32)

/-- Pending SRAM repairs applied; a bank that needs a fifth has its cluster quarantined (R301). -/
def State.repairSram (s : State) (p : Nat) : State :=
  let c := s.cl p
  if c.rowMark = [] then s
  else
    let t := c.rowMark.foldl (fun (t : Tbl Nat) r => Tbl.put t 0 (r % 16) (min 4 (Tbl.lookD t 0 (r % 16) + 1))) c.spared
    let short := (List.range 16).any fun b =>
      decide (4 < Tbl.lookD c.spared 0 b + (c.rowMark.filter fun r => r % 16 == b).length)
    let s := s.setCl p { c with spared := t, rowMark := [] }
    let s := (s.wr (CL.SRAM.MARKED p) 0).wr (CL.SRAM.SPARED p) ((t.map (·.2)).sum)
    if short then s.quarantine p else s

/-- A program ended without a token, its barrier closed and its state lost. Log: DEDUCED 54. -/
def State.endProgram (s : State) (p st : Nat) : State :=
  let s := ((s.dropClaims p).clearTags p).clearFlags p
  ((s.loseContents p).halt p st).fuseRandom p

/-- Does every cluster that a job names have its token? -/
def Job.complete (x : Job) : Bool := (maskList x.mask).all fun n => bitOf x.done n

/-- A job that can no longer complete gives its trigger back; barriers are closed. Log: DEDUCED 54. -/
def State.dropJobs (s : State) : State :=
  (List.range 8).foldl (fun s j =>
    let x := s.job j
    let s := s.setJob j { x with barrier := none }
    if x.stage = .running ∧ !x.complete then s.freeTrigger j else s) s

/-- The clusters at COMPUTE, which leaves them IDLE, or on entry to HUSH or DARK, which gates them. -/
def State.clustersEnd (s : State) (gate : Bool) : State :=
  let s := s.freeHeld false
  let s := ((s.engineKeys.filter fun e => decide (e < 64))).foldl (fun s e => s.drainEngine e 17) s
  let s := s.clusterKeys.foldl (fun s p => s.settleXfers p) s
  let s := (List.range 2048).foldl (fun s p =>
    if s.clState p = clGated then s
    else
      let s := s.endProgram p (if gate then clGated else clIdle)
      if gate then s else s.repairSram p) s
  s.dropJobs

/-- The clusters ungated on leaving HUSH, with pending repairs applied (R301, R314, R421). Log: DEDUCED 55. -/
def State.clustersBack (s : State) : State :=
  (List.range 2048).foldl (fun s p =>
    if 2 ≤ s.rd (CL.ID.ROLE p) then s else (((s.ungate p).fuseRandom p).repairSram p)) s

/-! ### The fabric's blocks -/

/-- A run abandoned with its unit's old values, and both queues emptied (R263). -/
def State.calAbandon (s : State) : State :=
  let s := match s.fab.cal.opt with
    | some x =>
      (match x.loop, x.old with
        | some l, some c => (s.setLoop l { s.loop l with cal := c }).showCal l
        | _, _ => s)
    | none => s
  let back := match s.fab.cal.cu with | some x => x.lane | none => none
  let s := s.setCal { s.fab.cal with queue := [], opt := none, cu := none }
  let s := match back with
    | some (k, n) => if (s.cuLink k).loan = some n ∧ (s.cuLink k).hov.isNone then s.cuBack k n else s
    | none => s
  s.dropRegs fun o _ => o == CAL.STAT.base

/-- Rings in HOLD at their last demand; PARKED ones and those in FAULT stay (R196). Log: DEDUCED 70. -/
def State.holdRings (s : State) : State :=
  (List.range 176).foldl (fun s l =>
    if s.ringSt l = rgParked ∨ s.ringSt l = rgFault then s else s.ringTo l rgHold) s

/-- The Jig begun again, with its loops. -/
def Jig.again (j : Jig) : Jig := { loops := j.loops, fA := j.fA, fB := j.fB, cm := j.cm }

/-- Registers of the Pattern Book, the ports, the Jig, calibration and copper control that FABRIC puts back: those that
no list sets, and no count, event or result. -/
def fabricDrop (o lo : Nat) : Bool :=
  let b := blockOf o
  let q := if 4 ≤ b && b ≤ 7 then o % 0x10000 else o
  let p := if q < 0x100 then q else q % 0x80
  if b = 3 then o != PB.CTRL.base && o != PB.EVENT.base && o != PB.COUNTS.base && o != PB.Q_COUNTS.base &&
    o != PB.L_COUNTS.base && o != PB.L_COUNTS2.base
  else if 4 ≤ b ∧ b ≤ 7 then
    (0x10 ≤ q && q < 0x18) || (0x100 ≤ q && (p == 0x18 || p == 0x20 || p == 0x2C || (p == 0x34 && lo == 0) || (p == 0x08 && lo == 0)))
  else if b = 8 then o == JIG.L_SEL.base || o == JIG.CMAT_SEL.base || o == JIG.STATUS.base
  else if b = 9 then o == CAL.CMD.base || o == CAL.RES_SEL.base || o == CAL.RCB_STAT.base || o == CAL.RCB_SLOT.base
  else if 10 ≤ b ∧ b ≤ 15 then o % 0x10000 == 0xC || o % 0x10000 == 0x30
  else o == MEM.FELL_CUR.base || o == MEM.FELL_COUNTS.base || o == MEM.RING_COUNTS.base || o == MEM.RING_STAT.base

/-- Ring entries cleared; claims are of overwritten entries (R377). -/
def State.clearRings (s : State) : State := (s.comp.rings.map (·.1)).foldl (fun s r => s.resetRing r) s

/-- Capture FIFOs and stamp queues emptied (R85). -/
def State.emptyStamps (s : State) : State :=
  let t := s.tio
  let caps := t.caps.map fun r => (r.1, { r.2 with fifo := [] })
  let s := { s with tio := { t with caps := caps, portA := { t.portA with txq := [] }, portB := { t.portB with txq := [] } } }
  s.dropRegs fun o _ => o == TIO.TCI_STAT.base

/-- Blocks of the register interface that a reset covers: their CSR faults cleared, samples of them end ERR (R484). -/
def State.coverBlocks (s : State) (p : Nat → Bool) : State :=
  let bad := s.sys.bad.filter fun r => !p (blockOf r.1)
  let held := s.sys.held.filter fun r => !p (blockOf r.1)
  let found := s.sys.found.filter fun r => !p (blockOf r.1)
  let recheck := s.sys.recheck.filter fun b => !p b
  let mbx := s.mbx.map fun r => (r.1, if p (blockOf r.2.off) then { r.2 with err := true } else r.2)
  let s := { s with sys := { s.sys with bad := bad, held := held, found := found, recheck := recheck }, mbx := mbx }
  let lo := ((List.range 26).map fun b => if p b then 0 else bitsOf (s.rd GLB.FAULT_LO.BLOCKS) b 1 * 2 ^ b).sum
  let hi := ((List.range 8).map fun d => if p (32 + d) then 0 else bitsOf (s.rd GLB.FAULT_HI.DIES) d 1 * 2 ^ d).sum
  (s.wr GLB.FAULT_LO.BLOCKS lo).wr GLB.FAULT_HI.DIES hi

/-- The blocks that FABRIC and COMPUTE cover. -/
def fabricBlock (b : Nat) : Bool := decide (3 ≤ b) && decide (b ≤ 15)
def computeBlock (b : Nat) : Bool := b == 16 || b == 17 || decide (32 ≤ b)

/-- FABRIC begins (R454). -/
def State.fabricBegin (s : State) : State :=
  let s := (s.cutLinks fun _ => true).quietRx fun _ => true
  let bufs := s.book.bufs.filter fun r => r.2.held != BufUse.full && r.2.held != BufUse.free
  let s := { s with book := { bufs := bufs } }
  let s := s.freeHeld true
  let s := { s with book := { bufs := s.book.bufs } }
  let s := (s.calAbandon.holdRings).dropRegs fabricDrop
  let f := s.fab
  let pairs := f.pairs.map fun r => (r.1, { r.2 with fails := 0 })
  let s := { s with fab := { f with
    jig := f.jig.again, probes := [], recable := { marked := f.recable.marked }, claimed := [], lit := [], sending := [],
    pairs := pairs } }
  let s := (s.clearRings.emptyStamps).coverBlocks fabricBlock
  (List.range 48).foldl (fun s q => s.countBufs q) s

/-- FABRIC ends: settings return, and MC0 relocks the rings (R196, R456). -/
def State.fabricEnd (s : State) : State :=
  let s := (s.returnTo keepFabric s.shadow).afterReturn
  let s := (List.range 16).foldl (fun s p => s.retargetPort p) s
  s.relockAll

/-- COMPUTE begins. -/
def State.computeBegin (s : State) : State :=
  ((s.clustersEnd false).dropRegs fun o _ => o == OPN.PATH_SEL.base || o == CPY.SEL.base).coverBlocks computeBlock |>.restartCopies

/-- A job that cannot run after a reset, reported MISSED with reason RESET (R404, R407). Log: DEDUCED 54. -/
def State.missJob (s : State) (j : Nat) (x : Job) : State :=
  let was := s.job j
  ((s.setJob j x).jobNotice j 3 2 0).setJob j was

/-- The images of armed jobs loaded again, if START is 200 us ahead or more; else the job is MISSED (R348, R407).
Log: DEDUCED 54. -/
def State.reloadJobs (s : State) : State :=
  (List.range 8).foldl (fun s j =>
    let x := s.job j
    if x.stage ≠ .armed then s
    else if x.start * 65536 < s.now + Config.ns 200000 then (s.jobNotice j 3 2 0).freeTrigger j
    else match s.readImage x.image [] with
      | (s, some (n, e, l)) => s.loadClusters j n e l
      | (s, none) => (s.jobNotice j 3 2 0).freeTrigger j) s

/-- COMPUTE ends. -/
def State.computeEnd (s : State) : State := s.reloadJobs

/-! ### The main domain (WARM, DARK) -/

/-- Registers that WARM and DARK put back: the main domain's, but for the link's epoch and lost lines. -/
def mainDrop (o lo : Nat) : Bool :=
  mainBlock (blockOf o) && !(o == ULK.LOST.base || (o == ULK.STAT.base && lo == ULK.STAT.EPOCH.lo))

/-- Registers of the always-on domain that WARM and DARK exit put back: GLB's but for what is fixed, banked selectors,
counters and load (R484, R507). -/
def alwaysDrop (o lo : Nat) : Bool :=
  (decide (o < 0x10000) && o != GLB.ID.base && o != GLB.SERIAL.base) || o == GAUGE.SEAM_IDX.base ||
  o == PWR.TEMP_SEL.base || o == PWR.RAIL_SEL.base || ctrReg o ||
  o == HLT.CTR_STAT.base ||
  (o == HLT.MC_LOAD.base && lo != HLT.MC_LOAD.ACTIVE.lo && lo != HLT.MC_LOAD.MC1_AVAIL.lo)
where
  /-- Is it a counter's value? -/
  ctrReg (o : Nat) : Bool := match regAt o with | some (r, _) => r.base == HLT.CTR.base | none => false

/-- The descriptors that FTD engines run end ABORTED (R377). -/
def State.abortFtd (s : State) : State :=
  (List.range 16).foldl (fun s n =>
    match s.curDesc (ftdEngine n) with
    | some d => s.writeStatus (ftdEngine n) d CopyCode.aborted.num ((s.engine (ftdEngine n)).pos / max 1 d.len)
    | none => s) s

/-- A cluster after its power or its reset: what its repairs need is kept. -/
def Cluster.fresh (c : Cluster) : Cluster := { rowHits := c.rowHits, rowMark := c.rowMark, spared := c.spared }

/-- The rings' heaters keep their demand over WARM; the loops forget the rest. Log: DEDUCED 70. -/
def Loop.held (x : Loop) : Loop := { d := x.d, out := x.out, code := x.code }

/-- The jobs that are to be reported: those loading, and with `all` those armed. -/
def State.jobsLost (s : State) (all : Bool) : List (Nat × Job) :=
  s.comp.jobs.filter fun r => r.2.stage == .loading || (all && r.2.stage == .armed)

/-- What the main domain loses on WARM, or with `dark` on reaching DARK. -/
def State.mainLost (s : State) (dark : Bool) : State :=
  let s := s.ulOff
  let s := if dark then s.clustersEnd true else s
  let s := s.abortFtd
  let states := (List.range 176).map fun l => (l, s.ringSt l, s.rd (JIG.L_HEAT.DEMAND l), s.rd (JIG.L_HEAT.OUT l))
  let missed := s.jobsLost dark
  let jobs := s.comp.jobs.filter fun r => !dark && r.2.stage == .armed
  let c := s.comp
  let d := s.drawMany
  let s := d.2.drawMany.2
  let clusters := (List.range 2048).map fun p => (p, (Tbl.lookD c.clusters {} p).fresh.contentsLost d.1)
  let jobs := jobs.map fun r => (r.1, { r.2 with done := 0, bad := 0 })
  let s := { s with comp := { clusters := clusters, jobs := jobs, lpddr := c.lpddr, rowHits := c.rowHits, rowMark := c.rowMark,
                              vacant := c.vacant } }
  let f := s.fab
  let loops := if dark then [] else f.jig.loops.map fun r => (r.1, r.2.held)
  let boot := { s.sys.boot with missed := s.sys.boot.missed ++ missed }
  let s := { s with
    book := {}, fab := { cut := f.cut, jig := { loops := loops }, cal := { copy0 := f.cal.copy0, copy1 := f.cal.copy1 } },
    ulk := { entered := s.now }, sys := { s.sys with moves := [], posted := [], svc := {}, recov := {}, recUl := false, calm := 0, boot := boot } }
  let s := s.dropRegs mainDrop
  let s := if dark then s else
    (states.filter fun x => x.2.1 != rgParked && x.2.1 != rgFault).foldl (fun s x =>
      ((s.wr (JIG.L_STAT.STATE x.1) rgHold).wr (JIG.L_HEAT.DEMAND x.1) x.2.2.1).wr (JIG.L_HEAT.OUT x.1) x.2.2.2) s
  let s := if dark then s else
    (states.filter fun x => x.2.1 == rgFault).foldl (fun s x => s.wr (JIG.L_STAT.STATE x.1) rgFault) s
  let kept := s.notices.map fun r => (r.1, { r.2 with held := r.2.held && dark })
  let s := { s with notices := kept }
  (s.countArmed).wr ULK.NOTICE_STAT.PENDING s.heldNotices

/-- What WARM and DARK exit clear in the always-on domain (R85, R452, R484, R507). -/
def State.interfaceLost (s : State) : State :=
  let s := (s.dropRegs alwaysDrop).wr BOOT.STATUS.LOCKED 0
  let s := s.wr HLT.LOG_STAT.DUMP_BUSY 0
  { s with wrote := [], mbx := [], sys := { s.sys with bad := [], held := [], found := [], recheck := [], crcSoft := 0 } }

end Sys2Proof.Machine
end

