-- ==== Sys2Proof/Machine/Boot.lean ====
section
/-! DEFINITION. Boot (R430, R435, R438, R446-R453, R509-R512): from reset through its phases to DONE, and where it sticks. -/
namespace Sys2Proof.Machine
open Sys2Proof

/-! ### State -/

/-- The boot's state replaced. -/
def State.setBoot (s : State) (b : Boot) : State := { s with sys := { s.sys with boot := b } }

/-- What NVM holds, replaced. -/
def State.setNvm (s : State) (n : Nvm) : State := { s with sys := { s.sys with nvm := n } }

/-- The remaining phases of R450. -/
def phStraps : Nat := 0
def phChain : Nat := 1
def phNvm : Nat := 2
def phCutlist : Nat := 3
def phFirmware : Nat := 4
def phWaitPwr : Nat := 5

/-- The phase. -/
def State.phase (s : State) : Nat := s.rd BOOT.STATUS.PHASE

/-- The phase in progress shown. -/
def State.setPhase (s : State) (p : Nat) : State := s.wr BOOT.STATUS.PHASE p

/-- The package's position in the chain, if it holds one. -/
def State.position (s : State) : Option Nat :=
  let p := s.rd BOOT.CHAIN.POSITION
  if p = 0xFF then none else some p

/-- Boot goes on: VAUX is in range, no reset holds it, and the package is not in DARK. -/
def State.booting (s : State) : Bool :=
  s.sys.vaux && s.sys.reset != some 1 && s.sys.reset != some 0 && s.rd PWR.STATE.STATE == pwBoot &&
    s.sys.power.toDark.isNone

/-- Boot stops (R453). -/
def State.stick (s : State) (reason : Nat) : State :=
  ((s.setPhase phStuck).wr BOOT.STATUS.STUCK reason).raise BOOT.EVENT.STUCK sevFatal (leBytes 4 reason)

/-- The phase that a wait for the position and NVM discovery leave boot in: the two overlap (R450). -/
def State.bootPhase (s : State) : State :=
  if s.position.isNone then s.setPhase phChain
  else if s.sys.boot.nvmOk then s.setPhase phCutlist
  else s.setPhase phNvm

/-- Boot from PHASE 2, counted. -/
def State.bootFrom2 (s : State) : State :=
  let s := (s.bump BOOT.COUNTS.BOOTS).wr BOOT.STATUS.STUCK 0
  (s.setBoot { s.sys.boot with nvmOk := false, clBad := none, fwBad := none, list := [], nvmFrom := s.now }).bootPhase

/-! ### COLD and WARM (R454) -/

/-- The values that fuses give to registers (R510, R522, and the GLB and BOOT register tables).
Log: DEDUCED 105. -/
def State.fused (s : State) : State :=
  let s := ((s.wr GLB.ID.PART 0x7D0).wr GLB.ID.REV_MINOR 1).wr GLB.ID.VENDOR 0xA7
  let s := (s.wr GLB.ID.VARIANT Config.variant).wr GLB.SERIAL.SERIAL Config.serial
  (s.wrB BOOT.OPKEY.FUSED s.sys.nvm.opKey.isSome).wr HLT.MC_LOAD.MC1_AVAIL 1

/-- COLD: everything but what NVM and the fuses hold is lost; the straps are sampled and boot begins (R430, R457).
Log: DEDUCED 105. -/
def State.coldStart (s : State) (head : Bool) (bench cause : Nat) (power : Bool) : State :=
  let old := s.sys.boot
  let c := s.fab.cal
  let vaux := cause == 0 || cause == 1
  let log : Recorder := { nvm := s.log.nvm, nextSeq := s.log.nextSeq, minutes := s.log.minutes,
                          cycles := if vaux then min (s.log.cycles + 1) 0xFFFFFF else s.log.cycles }
  let boot : Boot := { pwrOk := power && old.pwrOk, good := power && old.good, rstLow := power && old.rstLow,
                       waits := power && old.waits, cold := true }
  let t : State := { State.reset with
    pending := s.pending, freeCount := s.freeCount, log := log, patch := { entries := s.patch.entries, gen := s.patch.gen },
    fab := { cal := { copy0 := c.copy0, copy1 := c.copy1 } }, sys := { vaux := true, nvm := s.sys.nvm, boot := boot } }
  let rails := s.rd PWR.STATE.RAIL_GOOD
  let t := (t.fused.wrB BOOT.STRAPS.CHAIN_HEAD head).wr BOOT.STRAPS.BENCH_ID bench
  let t := (t.wr HLT.OPTIME.MINUTES log.minutes).wr HLT.PWR_CYC.COUNT log.cycles
  let t := (t.wr BOOT.STATUS.CAUSE cause).wr PWR.STATE.RAIL_GOOD (if power then rails else 0)
  let t := if head then t.wr BOOT.CHAIN.POSITION 0 else t
  (t.showLog.showPatch false).bootFrom2

/-- VAUX_POWER_ON: VAUX enters its range with the straps as they are. `slots`: what the board's programmer has put into the
firmware and cutting-list slots while the package had no power; none where they are as before.
Log: DESIGN CHOICE 25. -/
def execVauxPowerOn (head : Bool) (bench : BitVec 5) (slots : Option NvmSlots) (s : State) : Result :=
  if s.sys.vaux then .next s
  else
    let n := s.sys.nvm
    let s := match slots with
      | some x => s.setNvm { n with fw0 := x.fw0, fw1 := x.fw1, cl0 := x.cl0, cl1 := x.cl1 }
      | none => s
    .next (s.coldStart head bench.toNat (if s.log.cycles = 0 ∨ s.sys.reset ≠ some 4 then 0 else 1) false)

/-- VAUX_LOW: VAUX below 3.0 V for 10 us. Nothing works until it returns. -/
def execVauxLow (t : Nat) (s : State) : Result :=
  let s := s.advance t
  if ¬ s.sys.vaux then .next s
  else .next { s with sys := { s.sys with vaux := false, reset := some 4, mc0 := false } }

/-- WARM (R454): the main domain is lost, and boot begins at PHASE 2. While PKG_RESET_N is low it stays there. -/
def State.warmStart (s : State) (cause : Nat) : State :=
  let s := ((s.mainLost false).interfaceLost).emptyStamps
  let s := (s.wr PWR.STATE.STATE pwBoot).wr PWR.STATE.CHANGING 0
  let y := s.sys
  let s := { s with
    fab := { s.fab with dark := false, stopAt := none },
    sys := { y with reset := if y.boot.rstLow then some 1 else none, mc0 := false, mcFail := none, mcLost := false,
                    recUl := false, power := { y.power with toDark := none } } }
  let s := s.wr BOOT.STATUS.CAUSE cause
  let s := (List.range 128).foldl (fun s c => s.wrB (MEM.CH_STAT.SR c) s.sys.boot.memOk) s
  s.bootFrom2

/-! ### Power to the main domain (R417) -/

/-- Every main rail is in range; VAUX is not one. -/
def railsGood (rails : Nat) : Bool := rails % 2 ^ 19 == 2 ^ 19 - 1

/-- PHASE 6 begins. -/
def State.enterBringup (s : State) : State :=
  (s.setBoot { s.sys.boot with upFrom := s.now }).setPhase phBringup

/-- A span of time in whole ms, as 16 bits show it. -/
def spanMs (a b : Nat) : Nat := (b - a) / 65536 / 1000000

/-- PHASE 5: boot waits for power, or finds it. -/
def State.enterWaitPwr (s : State) : State :=
  let s := (s.wrSat BOOT.TIMES.NVM_MS (spanMs s.sys.boot.nvmFrom s.now)).setPhase phWaitPwr
  if s.sys.boot.good ∧ ¬ s.sys.boot.rstLow then s.enterBringup else s

/-- The ROM's recovery mode brings the Urdal link up once there is power (R519). -/
def State.recoverLink (s : State) : State :=
  if s.recovering ∧ s.sys.boot.good ∧ s.on ULK.CTRL.EN ∧ ¬ s.sys.recUl then
    { s.setLp {} with sys := { s.sys with recUl := true } }
  else s

/-- A PWR_OK that is high is acted on: every main-rail monitor is checked (R417). -/
def State.checkRails (s : State) (rails : Nat) : State :=
  let s := s.wr PWR.STATE.RAIL_GOOD rails
  if railsGood rails then
    let s := s.setBoot { s.sys.boot with good := true, waits := false }
    if s.booting ∧ s.phase = phWaitPwr then s.enterBringup else s.recoverLink
  else
    let s := s.setBoot { s.sys.boot with good := false, waits := false }
    let s := { s with sys := { s.sys with power := { s.sys.power with seqErr := true } } }
    s.raise PWR.EVENT.SEQ_ERR sevFatal

/-- LPDDR5's contents lost. -/
def State.loseMemory (s : State) : State :=
  let d := s.drawMany
  d.2.setLp (Mem.lost d.1)

/-- PKG_RESET_N_RELEASE: PKG_RESET_N rises; the rails as they are, for a PWR_OK that waits. -/
def execPkgResetNRelease (rails : BitVec 20) (t : Nat) (s : State) : Result :=
  let s := s.advance t
  if ¬ s.sys.vaux ∨ ¬ s.sys.boot.rstLow then .next s
  else
    let s := s.setBoot { s.sys.boot with rstLow := false }
    let s := if s.sys.reset = some 1 then { s with sys := { s.sys with reset := none } } else s
    if s.sys.boot.waits then .next (s.checkRails rails.toNat)
    else if s.sys.boot.good ∧ s.booting ∧ s.phase = phWaitPwr then .next s.enterBringup
    else .next s

/-! ### NVM and the cutting list -/

/-- NVM_DISCOVERY: what the device answers: that it can be read, that it has an SFDP table, its size in Mbit, and whether
it advertises octal DDR (R438). -/
def execNvmDiscovery (readable sfdp octal : Bool) (mbit : Nat) (t : Nat) (s : State) : Result :=
  let s := s.advance t
  let waits := s.phase = phChain ∨ s.phase = phNvm ∨ (s.phase = phStuck ∧ s.rd BOOT.STATUS.STUCK = 1)
  if ¬ s.booting ∨ ¬ waits ∨ s.sys.boot.nvmOk then .next s
  else if readable ∧ sfdp ∧ 512 ≤ mbit then
    let s := (s.setBoot { s.sys.boot with nvmOk := true }).wrB BOOT.STATUS.NVM_OCTAL octal
    .next (if s.phase = phStuck then s else s.bootPhase)
  else .next (s.stick 2)

/-- CHAIN_LEN compared with a COUNT that is known (R446). -/
def State.lenCheck (s : State) : State :=
  let n := s.rd BOOT.CHAIN.COUNT
  if s.sys.boot.list = [] ∨ n = 0 ∨ n = clChainLen s.sys.boot.list then s else s.raise BOOT.EVENT.LEN_MISMATCH sevError

/-- A slot of cutting lists. Log: DEDUCED 105. -/
def Nvm.cl (n : Nvm) (i : Nat) : List Byte := if i = 0 then n.cl0 else n.cl1

/-- The cutting-list slot read next: the higher GEN first, slot 0 at equal GEN, then the other (R447). -/
def State.clNext (s : State) : Nat :=
  match s.sys.boot.clBad with
  | some b => 1 - b
  | none => bit (decide (clGen (nvTake 64 (s.sys.nvm.cl 0)) < clGen (nvTake 64 (s.sys.nvm.cl 1))))

/-- A list accepted: the package's own node, and the phase that follows. DARK exit does not verify firmware again. -/
def State.clAccept (s : State) (i : Nat) : State :=
  let h := nvTake 64 (s.sys.nvm.cl i)
  let l := nvTake (clLength h) (s.sys.nvm.cl i)
  let s := (s.setBoot { s.sys.boot with list := l }).wr BOOT.STATUS.CL_SLOT i
  let s := s.lenCheck
  match clPart l 2 (s.rd BOOT.CHAIN.POSITION) with
  | none => s.stick 4
  | some n =>
    if n.length < 40 ∨ 68 ≤ bytesAt n 0 1 then s.stick 4
    else
      let s := (s.wr BOOT.NODE.BENCH_POS (bytesAt n 0 1)).wr BOOT.NODE.NODE_ID
        (128 * s.rd BOOT.STRAPS.BENCH_ID + bytesAt n 0 1)
      if s.sys.mc0 then s.enterWaitPwr else s.setPhase phFirmware

/-- CUTLIST_READ: one slot has been read and checked. -/
def execCutlistRead (t : Nat) (s : State) : Result :=
  let s := s.advance t
  if ¬ s.booting ∨ s.phase ≠ phCutlist then .next s
  else
    let i := s.clNext
    if s.clValid (s.sys.nvm.cl i) then .next (s.clAccept i)
    else if s.sys.boot.clBad.isSome then .next (s.stick 3)
    else
      let s := s.setBoot { s.sys.boot with clBad := some i }
      .next ((s.bump BOOT.COUNTS.CL_FALLBACK).raise BOOT.EVENT.CL_FALLBACK sevWarning)

/-! ### Firmware (R509-R512) -/

/-- An image's LENGTH. -/
def fwLength (l : List Byte) : Nat := bytesAt l 12 4

/-- Header. -/
def fwHeaderOk (l : List Byte) : Bool :=
  bytesAt l 0 4 == 0x57464A46 && bytesAt l 4 2 == 1 && zerosAt l 6 2 && zerosAt l 44 20 && decide (320 ≤ fwLength l) &&
    decide (fwLength l ≤ 0x1000000) && decide (bytesAt l 24 4 + bytesAt l 28 4 + 240 ≤ fwLength l) &&
    decide (bytesAt l 32 4 + bytesAt l 36 4 + 240 ≤ fwLength l)

/-- The check of R511 that bytes fail: 1 header, 2 ROM, 3 digest, 4 key, 5 signature; 0 none. -/
def fwCheck (slot : List Byte) : Nat :=
  let h := nvTake 64 slot
  if !fwHeaderOk h then 1
  else
    let n := fwLength h
    let l := nvTake n slot
    if Config.romVer < bytesAt l 40 4 then 2
    else if !digestOk l n then 3
    else if sha384 (trailKey l n) != Config.fwKey then 4
    else if !sigOk l n then 5
    else 0

/-- A firmware slot. Log: DEDUCED 105. -/
def Nvm.fw (n : Nvm) (i : Nat) : List Byte := if i = 0 then n.fw0 else n.fw1

/-- The firmware slot read next: of those whose header passes, the higher GEN first (R511). -/
def State.fwNext (s : State) : Nat :=
  match s.sys.boot.fwBad with
  | some (b, _) => 1 - b
  | none =>
    let a := nvTake 64 (s.sys.nvm.fw 0)
    let b := nvTake 64 (s.sys.nvm.fw 1)
    bit (fwHeaderOk b && (!fwHeaderOk a || decide (clGen a < clGen b)))

/-! ### Frames that the package originates (R431-R434) -/

/-- A chain frame's bytes. -/
def chainFrame (type : Nat) (hop1 : Bool) (src hops seq : Nat) (payload : List Byte) : List Byte :=
  let l := leBytes 1 type ++ leBytes 1 (bit hop1) ++ leBytes 1 src ++ leBytes 1 hops ++ leBytes 2 seq ++
    leBytes 2 payload.length ++ payload
  l ++ leBytes 4 (crc32c l)

/-- Frames put on CHAIN_OUT, after those that the command has already put there. -/
def State.chainOut (s : State) (l : List (List Byte)) : State :=
  { s with sys := { s.sys with chain := { s.sys.chain with sent := s.sys.chain.sent ++ l } } }

/-- No frame put there yet. -/
def State.chainClear (s : State) : State :=
  { s with sys := { s.sys with chain := { s.sys.chain with sent := [] } } }

/-- A frame of the package's own, which takes the next SEQ. Log: DEDUCED 107. -/
def State.originate (s : State) (type : Nat) (hop1 : Bool) (payload : List Byte) : State :=
  let c := s.sys.chain
  let s := s.chainOut [chainFrame type hop1 (s.rd BOOT.CHAIN.POSITION) 0 c.seq payload]
  { s with sys := { s.sys with chain := { s.sys.chain with seq := (c.seq + 1) % 65536 } } }

/-- An IMAGE request for 496 bytes at an offset (R520). -/
def State.imageReq (s : State) (off : Nat) : State :=
  let s := s.originate 5 true (leBytes 1 1 ++ leBytes 1 (s.rd BOOT.CHAIN.POSITION) ++ leBytes 2 496 ++ leBytes 4 off ++ leBytes 8 0)
  { s with sys := { s.sys with recov := { s.sys.recov with asked := Tbl.set s.sys.recov.asked off s.now } } }

/-- The chain path of recovery begins: 32 requests (R520). -/
def State.chainPath (s : State) : State :=
  let s := { s with sys := { s.sys with recov := { s.sys.recov with gen := none, got := [], asked := [] } } }
  if s.position.isNone then s else (List.range 32).foldl (fun s k => s.imageReq (496 * k)) s

/-- Recovery begins, with the list's ULK records applied (R519). -/
def State.recoverBegin (s : State) : State :=
  let sh := (shadowOf (clRecords s.sys.boot.list (s.rd BOOT.CHAIN.POSITION))).filter fun r => blockOf (keyOff r.1) == 20
  let regs := sh.foldl (fun t r => Tbl.set t r.1 r.2) s.regs
  let s := { s with regs := regs, sys := { s.sys with recov := {}, recUl := false } }
  (s.recoverLink.chainClear).chainPath

/-- Both firmware slots are bad. -/
def State.recover (s : State) : State := (s.stick 5).recoverBegin

/-- DARK ends at a rising PWR_OK (R421, R424): boot begins at PHASE 3. A package that was stuck stays so, unless it only
lacked a position and has one (R453); its recovery begins again. Log: DEDUCED 55, 102. -/
def State.leaveDark (s : State) (memHeld : Bool) : State :=
  let s := s.interfaceLost
  let s := if memHeld ∧ s.on (MEM.CH_STAT.SR 0) then s else s.loseMemory
  let s := ((s.wr PWR.STATE.STATE pwBoot).wr PWR.STATE.CHANGING 0).wr BOOT.STATUS.CAUSE 10
  let s := s.bump BOOT.COUNTS.BOOTS
  let why := s.rd BOOT.STATUS.STUCK
  if s.phase = phStuck ∧ ¬ (why = 1 ∧ s.position.isSome) then (if why = 5 then s.recoverBegin else s)
  else
  let s := (s.wr BOOT.STATUS.STUCK 0).setBoot { s.sys.boot with clBad := none, fwBad := none, list := [], nvmFrom := s.now }
  s.bootPhase

/-- PWR_OK_RISE: what the main-rail monitors show, and whether the LPDDR5 rails stayed in range since DARK.
Log: DEDUCED 102. -/
def execPwrOkRise (rails : BitVec 20) (memHeld : Bool) (t : Nat) (s : State) : Result :=
  let s := s.advance t
  if ¬ s.sys.vaux ∨ s.sys.boot.pwrOk then .next s
  else
    let s := s.setBoot { s.sys.boot with pwrOk := true }
    let s := if s.rd PWR.STATE.STATE = pwDark then s.leaveDark memHeld else s
    if s.sys.boot.rstLow then .next (s.setBoot { s.sys.boot with waits := true })
    else .next (s.checkRails rails.toNat)

/-- FIRMWARE_VERIFY: one slot has been read and checked. -/
def execFirmwareVerify (t : Nat) (s : State) : Result :=
  let s := s.advance t
  if ¬ s.booting ∨ s.phase ≠ phFirmware then .next s
  else
    let i := s.fwNext
    let c := fwCheck (s.sys.nvm.fw i)
    if c = 0 then
      let s := s.wr BOOT.STATUS.FW_SLOT i
      let s := match s.sys.boot.fwBad with | some (b, _) => s.patchNote 12 1 b i | none => s
      .next s.enterWaitPwr
    else
      let s := s.logOpen 24 6 sevWarning BOOT.STATUS.base (leBytes 1 i ++ leBytes 1 c)
      if s.sys.boot.fwBad.isSome then .next s.recover
      else .next (s.setBoot { s.sys.boot with fwBad := some (i, c), erase := some i })

/-! ### BRINGUP (R451) -/

/-- The cutting list of this boot put to use: step 1. Log: DEDUCED 119. -/
def State.applyList (s : State) : State :=
  let l := s.sys.boot.list
  let pos := s.rd BOOT.CHAIN.POSITION
  let part := (clPart l 5 pos).getD []
  let compat := bitOf (clFlags l) 0
  let s := { s with shadow := shadowOf (clRecords l pos), asym := asymOf (part.length / 8) part,
                    fab := { s.fab with cut := cutListOf l pos } }
  let s := s.returnTo (keepBoot s.sys.boot.cold) s.shadow
  let s := (s.wrB BOOT.STATUS.COMPAT compat).wrB GLB.CRC_CTRL.ACTIVE compat
  let s := (s.wr BOOT.CL_INFO.GEN (clGen l)).wr BOOT.CL_INFO.DIGEST (bytesAt (trailDigest l (clLength l)) 0 4)
  let s := (s.wr BOOT.CL_INFO.FLAGS (clFlags l)).wr BOOT.CL_INFO.LENGTH (clLength l)
  s.afterReturn

/-- The roles at shipment: logical numbers, fused clusters, reserves (R291). -/
def State.shipRoles (s : State) : State :=
  let s := (List.range 2048).foldl (fun s p =>
    let s := (s.wr (CL.ID.PHYS p) p).wr (CL.ID.LOGICAL p) 2047
    (s.wr (CL.ID.CROSS p) 0).wr (CL.ID.ROLE p) (if Config.fusedOff p = 0 then 1 else 3)) s
  (List.range 2000).foldl (fun s n => (s.wr (CL.ID.LOGICAL (Config.homeOf n % 2048)) n).wr (CL.ID.ROLE (Config.homeOf n % 2048)) 0) s

/-- One entry of the patch map applied (R504). -/
def State.applyPatch (s : State) (e : PatchEntry) : State :=
  let live := e.action == 1
  match e.kind with
  | 1 =>
    let s := match s.physOf e.unit with | some p => s.quarantine p | none => s
    if live then
      let s := ((s.wr (CL.ID.ROLE e.spare) 0).wr (CL.ID.LOGICAL e.spare) e.unit).wrB (CL.ID.CROSS e.spare)
        (decide (e.spare / 256 ≠ e.unit / 250))
      { s with comp := { s.comp with vacant := Tbl.del s.comp.vacant e.unit } }
    else s
  | 2 => (s.wr HLT.MC_LOAD.ACTIVE 1).wr HLT.MC_LOAD.MC1_AVAIL 0
  | 3 =>
    let p := e.unit / 16
    let c := s.cl p
    s.setCl p { c with spared := Tbl.put c.spared 0 (e.unit % 16) (if live then e.spare + 1 else 4) }
  | 5 => if live then s.wr (CU.STAT.SPARE_FOR e.unit) e.spare else s
  | 6 => if live then s.wr (OPE.P_SPARE.S_FOR e.unit) e.spare else s
  | 7 => if live then channelMap s false (e.unit / 44) (e.unit % 44) e.spare else s
  | 8 => if live then channelMap s true (e.unit / 52) (e.unit % 52) e.spare else s
  | 9 => if live then (s.wr (CAL.LSR_STAT.ON_SPARE e.unit) 1).wr (CAL.LSR_STAT.SPARE_AVAIL e.unit) 0 else s
  | _ => s
where
  /-- A spare channel mapped over another (R217). -/
  channelMap (s : State) (monitor : Bool) (e c x : Nat) : State :=
    let i := edChannel monitor e c
    (s.wr (ED.SPARE_MAP.EN (e / 2) i) 1).wr (ED.SPARE_MAP.SPARE (e / 2) i) x

/-- Step 3: the patch map's spares, the newest entry of each unit. A change not yet in NVM is still known after WARM.
Log: DEDUCED 98. -/
def State.applyPatches (s : State) : State :=
  let s := (List.range 2).foldl (fun s i => s.wr (CAL.LSR_STAT.SPARE_AVAIL i) 1) s
  let s := { s with comp := { s.comp with vacant := [] } }
  let s := (liveEntriesOf (s.patch.entries ++ s.patch.waiting)).foldl (fun s e => s.applyPatch e) s.shipRoles
  s.showPatch (s.on HLT.PATCH_STAT.FULL)

/-- Step 4: on COLD post-package repair and zeroed memory; otherwise memory leaves self-refresh. `noPpr`: the marked rows
that found no repair resource (R356). -/
def State.initMemory (s : State) (noPpr : List (Nat × Nat)) : State :=
  let s := (List.range 128).foldl (fun s c => s.wr (MEM.CH_STAT.SR c) 0) s
  let s := if s.sys.boot.memOk then s
    else
      let marks := (s.patch.entries.filter fun e => e.kind == 4).map fun e => (e.unit % 2 ^ 24, e.unit / 2 ^ 24)
      let left := marks.filter fun m => noPpr.contains m
      let s := if left = [] then s else s.report MEM.EVENT.PPR_OUT
      let s := s.setLp {}
      { s with comp := { s.comp with rowMark := left }, sys := { s.sys with boot := { s.sys.boot with memOk := true } } }
  s.comp.rowMark.foldl (fun s m => s.bump (MEM.CH_STAT.MARKED m.2)) s

/-- A cluster as boot initialises it. -/
def State.initCluster (s : State) (p : Nat) (dark : Bool) : State :=
  let s := (s.wr (CL.SRAM.SPARED p) (((s.cl p).spared.map (·.2)).sum)).wr (CL.SRAM.MARKED p) (s.cl p).rowMark.length
  let s := ((s.loseContents p).fuseRandom p).repairSram p
  if dark ∨ 2 ≤ s.rd (CL.ID.ROLE p) then s else s.wr (CL.STATE.STATE p) clIdle

/-- Clusters whose self-test fails. -/
def State.failClusters (s : State) (fails : List (Fin 2048)) : State :=
  fails.foldl (fun s p => if s.rd (CL.ID.ROLE p.val) < 2 then s.quarantine p.val else s) s

/-- Step 5: the clusters. On COLD those that fail their self-test are quarantined; contents are undefined, pending repairs
are applied, and the random states are the fused ones. After DARK the clusters stay GATED (R314, R320).
Log: DEDUCED 55. -/
def State.initClusters (s : State) (fails : List (Fin 2048)) (dark : Bool) : State :=
  ((List.range 2048).foldl (fun s p => s.initCluster p dark) s).failClusters (if s.sys.boot.cold then fails else [])

/-- Step 6: the calibration store (R260): the copy with the higher GEN. -/
def State.loadCal (s : State) : State :=
  let c := s.fab.cal
  let s := (s.wrB CAL.STORE_STAT.COPY0_OK c.copy0.isSome).wrB CAL.STORE_STAT.COPY1_OK c.copy1.isSome
  if s.calVolatile then s
  else
    match c.copy0, c.copy1 with
    | some a, some b => s.applyImage (if a.gen < b.gen then b else a)
    | some a, none => s.applyImage a
    | none, some b => s.applyImage b
    | none, none => s

/-- Step 7: links and rings. After WARM and DARK exit in volatile mode the jumps wait (R262). -/
def State.startFabric (s : State) (fresh : Bool) : State :=
  let s := (List.range 6).foldl (fun s k => if s.on (CU.CTRL.EN k) then s.cuEnter k cuDetect else s) s
  let s := (List.range 16).foldl (fun s p => (List.range 10).foldl (fun s r =>
    let k := s.target p r
    let l := loopOf p r
    let s := ((s.wrB (JIG.L_STAT.TGT_VALID l) k.isSome).wr (JIG.L_STAT.TARGET l) (k.getD 0)).showCal l
    if k.isNone ∧ s.ringSt l = rgHold then s.enterParked l else s) s) s
  if s.calVolatile ∧ ¬ fresh then
    s.setCal { s.fab.cal with waitTo := some (s.now + Config.ns (1000000 * s.rd CAL.CTRL.RESTORE_WAIT)) }
  else s.relockAll

/-- Boot ends (R450, R452): the lock is set, the firmware runs, and jobs that a reset has ended are reported. -/
def State.bootDone (s : State) : State :=
  let s := ((s.wr BOOT.STATUS.LOCKED 1).setPhase phDone).wr PWR.STATE.STATE pwActive
  let missed := s.sys.boot.missed
  let s := { s with sys := { s.sys with mc0 := true, checked := s.now, boot := { s.sys.boot with missed := [] } } }
  (missed.foldl (fun s r => s.missJob r.1 r.2) s).reloadJobs

/-- The SEQ of every calendar entry, taken as handled (R407). -/
def State.calendarSeen (s : State) : State :=
  let a := s.rd ULK.CAL_LO.ADDR + 2 ^ 32 * s.rd ULK.CAL_HI.ADDR
  let t := (List.range (s.rd ULK.CAL_CFG.ENTRIES)).map fun i => (i, ofLeBytes (s.comp.lpddr.read (a + 512 * i + 20) 4))
  { s with ulk := { s.ulk with calSeq := t, calWait := [] } }

/-- BRINGUP: its steps are complete (R451). `fails`: clusters whose self-test fails; `noPpr`: rows, with their channel, that
found no repair resource. -/
def execBringup (fails : List (Fin 2048)) (noPpr : List (Nat × Nat)) (t : Nat) (s : State) : Result :=
  let s := s.advance t
  if ¬ s.booting ∨ s.phase ≠ phBringup then .next s
  else
    let cold := s.sys.boot.cold
    let dark := s.rd BOOT.STATUS.CAUSE = 10
    let s := s.applyList.wr GAUGE.CTRL.ENABLE 1
    let s := (s.applyPatches.initMemory noPpr).initClusters fails dark
    let s := s.loadCal.crcCommit.calendarSeen
    let s := s.wrSat BOOT.TIMES.BRINGUP_MS (spanMs s.sys.boot.upFrom s.now)
    let s := s.setBoot { s.sys.boot with cold := false, lockAt := s.now }
    let hold := bitOf (clFlags s.sys.boot.list) 1
    let s := if hold then s.setPhase phLockWait else s.bootDone
    .next (s.startFabric cold)

/-- BOOT.LOCK.SET (R452). -/
def State.lockSet (s : State) : State :=
  if s.phase = phLockWait then s.bootDone else s.raise BOOT.EVENT.CFG_ERR

/-- LOCK_SET. -/
def execLockSet (s : State) : Result := .next s.lockSet

/-- LOCK_WAIT_TIMEOUT: 60 s after BRINGUP completed. -/
def execLockWaitTimeout (t : Nat) (s : State) : Result :=
  let s := s.advance t
  if s.phase = phLockWait ∧ s.sys.boot.lockAt + Config.ns 60000000000 ≤ s.now then .next s.bootDone else .next s

/-! ### The operator key (R449) -/

/-- BOOT.OPKEY.FUSE. -/
def State.fuseKey (s : State) : State :=
  let l := s.sys.boot.list
  if s.on BOOT.OPKEY.FUSED ∨ s.rd BOOT.OPKEY.CONFIRM ≠ 0x5A3C ∨ ¬ clSigned l ∨ s.phase ≠ phDone then s.raise BOOT.EVENT.CFG_ERR
  else
    (s.setNvm { s.sys.nvm with opKey := some (sha384 (trailKey l (clLength l))) }).wr BOOT.OPKEY.FUSED 1

end Sys2Proof.Machine
end

