-- ==== Sys2Proof/Machine/Power.lean ====
section
/-! DEFINITION. Power states, rails, temperature and the thermal port (14_package_power.md). -/
namespace Sys2Proof.Machine
open Sys2Proof

/-- The power state's own record replaced. -/
def State.setPower (s : State) (p : Power) : State := { s with sys := { s.sys with power := p } }

/-- PWR.STATE.STATE. -/
def State.pwState (s : State) : Nat := s.rd PWR.STATE.STATE

/-! ### Entering DARK (R421, R422) -/

/-- The class 2 notice with link state DOWN, written where the link still carries it.
Log: DESIGN CHOICE 88; DEDUCED 101. -/
def State.tellDown (s : State) : State :=
  if s.noticesOn then
    (s.compose 2 (Config.linkBody ulDown (s.rd ULK.STAT.WIDTH) (s.rd ULK.LOST.COUNT))).writeNotice 2
  else s

/-- DARK is on its way: no calibration, re-cable or switch that is not yet committed goes on. Log: DEDUCED 101. -/
def State.towardsDark (s : State) (planned : Bool) : State :=
  let s := (s.setPower { s.sys.power with toDark := some planned }).wr PWR.STATE.CHANGING 1
  let s := if s.swState = swArmed then s.pbCancel else s
  let s := if s.rcState = rcArmed then s.rcbCancel else s
  s.tellDown

/-- An unplanned entry: the fabric stops first (R228), and a re-cable, a calibration or a planned entry in progress is
abandoned (R425). -/
def State.unplanned (s : State) : State :=
  if s.pwState = pwDark ∨ s.sys.power.toDark = some false then s
  else
    let s := ((s.bump PWR.COUNTS.UNPLANNED).raise PWR.EVENT.UNPLANNED).calAbandon
    let s := if s.rcState = rcCommitted ∨ s.rcState = rcRunning then s.wr CAL.RCB_STAT.STATE rcIdle else s
    (s.towardsDark false).stopFabric

/-- PWR_OK_LOW: PWR_OK has been low for 2 us. Outside a planned entry it is FATAL (R499). Log: DEDUCED 99. -/
def execPwrOkLow (t : Nat) (s : State) : Result :=
  let s := s.advance t
  if ¬ s.sys.vaux ∨ ¬ s.sys.boot.pwrOk then .next s
  else
    let s := s.setBoot { s.sys.boot with pwrOk := false, good := false, waits := false }
    if s.pwState = pwDark ∨ s.sys.power.toDark = some true then .next s
    else .next (s.logFatal 25 32 PWR.STATE.base).unplanned

/-- A rail's bit of PWR.STATE.RAIL_GOOD cleared. Log: DEDUCED 99. -/
def State.railBad (s : State) (r : Nat) : State :=
  let v := s.rd PWR.STATE.RAIL_GOOD
  s.wr PWR.STATE.RAIL_GOOD (if bitOf v r then v - 2 ^ r else v)

/-- RAIL_FAULT: a main rail other than VHTR outside its range for 2 us, once PWR_OK has released the main domain. In DARK the
monitors are ignored (R422). Log: DEDUCED 99; DESIGN CHOICE 123. -/
def execRailFault (rail : Fin 20) (t : Nat) (s : State) : Result :=
  let s := s.advance t
  if ¬ s.sys.vaux ∨ ¬ s.sys.boot.pwrOk ∨ s.pwState = pwDark ∨ rail.val = 14 ∨ rail.val = 19 then .next s
  else
    let s := ((s.railBad rail).setPower { s.sys.power with railErr := true }).bump PWR.COUNTS.RAIL_FAULTS
    .next (s.raise PWR.EVENT.RAIL_FAULT sevFatal (leBytes 4 rail)).unplanned

/-- VHTR_OUT_OF_RANGE (R423). Log: DEDUCED 99. -/
def execVhtrOutOfRange (t : Nat) (s : State) : Result :=
  let s := s.advance t
  if ¬ s.sys.vaux ∨ ¬ s.sys.boot.pwrOk ∨ s.pwState = pwDark then .next s
  else
    let s := ((s.railBad 14).setPower { s.sys.power with railErr := true }).bump PWR.COUNTS.RAIL_FAULTS
    .next (s.raise PWR.EVENT.RAIL_FAULT sevError (leBytes 4 14))

/-! ### Temperature (R425, R427) -/

/-- The alert threshold in tenths of a degree; in PWR's safe state 85 degrees (R480). -/
def State.alertAt (s : State) : Int := if s.unsafeBlock 25 then 850 else 10 * s.rd PWR.THERM_CFG.ALERT_T

/-- A sensor's reading taken. -/
def State.tempTake (s : State) (first : Bool) (r : Nat × Int) : State :=
  let s := s.wrI (PWR.TEMP.NOW r.1) r.2
  if first ∨ s.rdI (PWR.TEMP.PEAK r.1) < r.2 then s.wrI (PWR.TEMP.PEAK r.1) r.2 else s

/-- The hottest of some readings; of equal ones, the lowest number. Log: DEDUCED 101. -/
def hottest : List (Nat × Int) → Nat × Int
  | [] => (0, 0)
  | [r] => r
  | r :: l => let x := hottest l; if r.2 < x.2 then x else r

/-- A thermal trip. -/
def State.tripNow (s : State) : State :=
  ((s.setPower { s.sys.power with trip := true }).raise PWR.EVENT.TRIP sevFatal).unplanned

/-- The alert judged on readings. -/
def State.judgeAlert (s : State) (l : List (Nat × Int)) : State :=
  let a := s.alertAt
  if s.sys.power.alert then
    if l.all fun r => decide (r.2 < a - 30) then s.setPower { s.sys.power with alert := false } else s
  else if l.any fun r => decide (a ≤ r.2) then
    ((s.setPower { s.sys.power with alert := true }).bump PWR.COUNTS.ALERTS).raise PWR.EVENT.ALERT
  else s

/-- THERMAL_SAMPLE: the readings of the 140 sensors, in tenths of a degree. Log: DESIGN CHOICE 7, 123. -/
def execThermalSample (readings : List Int) (t : Nat) (s : State) : Result :=
  let s := s.advance t
  if ¬ s.sys.vaux then .next s
  else
    let l := (List.range 140).map fun i => (i, clampInt (-32768) 32767 (readings.getD i 0))
    let p := s.sys.power
    let hot := (l.filter fun r => decide (1150 ≤ r.2)).map (·.1)
    let s := l.foldl (fun s r => s.tempTake (!p.sampled) r) s
    let s := (s.wr PWR.TEMP_MAX.SENSOR (hottest l).1).wrI PWR.TEMP_MAX.TEMP (hottest l).2
    let s := s.setPower { p with hot := hot, sampled := true }
    let s := if !p.trip && hot.any fun i => p.hot.contains i then s.tripNow else s
    .next (s.judgeAlert l)

/-- The hottest reading in whole degrees, saturating at a signed byte. -/
def State.hottestByte (s : State) : Nat := toBits 8 (clampInt (-128) 127 (s.rdI PWR.TEMP_MAX.TEMP / 10))

/-- The four bytes of the thermal port. -/
def State.thermPort (s : State) : List Byte :=
  let p := s.sys.power
  leBytes 1 s.hottestByte ++ leBytes 1 s.pwState ++
    leBytes 1 (16 * bit s.sys.fatal + 8 * bit p.seqErr + 4 * bit p.railErr + 2 * bit p.trip + bit p.alert) ++ leBytes 1 0

/-- THERM_PORT_READ: the bytes that the read returns. -/
def execThermPortRead (s : State) : Result :=
  if s.sys.vaux then .next (s.setPower { s.sys.power with port := s.thermPort }) else .next s

/-! ### PWR.CMD (R421) -/

/-- A command refused. Log: DEDUCED 100. -/
def State.pwRefuse (s : State) : State := (s.bump PWR.COUNTS.REFUSED).raise PWR.EVENT.CFG_ERR

/-- PWR.CMD.HUSH: refused while a cluster runs or a job-start trigger is taken, and while a change is in progress.
Log: DEDUCED 100. -/
def State.pwHushCmd (s : State) : State :=
  let busy := (List.range 2048).any (fun p => s.clState p == clRun) || (List.range 8).any fun j => (s.job j).stage != .free
  if s.pwState = pwHush then s
  else if s.pwState ≠ pwActive ∨ s.on PWR.STATE.CHANGING ∨ busy then s.pwRefuse
  else (s.clustersEnd true).wr PWR.STATE.STATE pwHush

/-- PWR_HUSH. -/
def execPwrHush (s : State) : Result := .next s.pwHushCmd

/-- PWR.CMD.ACTIVE. Log: DEDUCED 100. -/
def State.pwActiveCmd (s : State) : State :=
  if s.pwState = pwActive then s
  else if s.pwState ≠ pwHush ∨ s.on PWR.STATE.CHANGING then s.pwRefuse
  else s.clustersBack.wr PWR.STATE.STATE pwActive

/-- PWR_ACTIVE. -/
def execPwrActive (s : State) : Result := .next s.pwActiveCmd

/-- PWR.CMD.DARK: a planned entry, which BOOT and a change in progress refuse. Links go QUIET at the first slot boundary.
Log: DEDUCED 100. -/
def State.pwDarkCmd (s : State) : State :=
  if s.pwState = pwDark then s
  else if s.pwState = pwBoot ∨ s.on PWR.STATE.CHANGING then s.pwRefuse
  else
    let s := s.towardsDark true
    let s := s.advance (slotStart (slotOf s.now + 1))
    s.goDark.clustersEnd true

/-- PWR_DARK. -/
def execPwrDark (t : Nat) (s : State) : Result := .next (s.advance t).pwDarkCmd

/-- DARK_REACHED: the entry is complete. Log: DESIGN CHOICE 23. -/
def execDarkReached (t : Nat) (s : State) : Result :=
  let s := s.advance t
  match s.sys.power.toDark with
  | none => .next s
  | some _ =>
    let keep := s.on PWR.CTRL.MEM_KEEP || s.unsafeBlock 25
    let told := s.notice 2
    let s := s.mainLost true
    let s := if told.held ∨ told.seq = 0 then s else
      let s := { s with notices := Tbl.put s.notices {} 2 told }
      s.wr ULK.NOTICE_STAT.PENDING s.heldNotices
    let s := (List.range 128).foldl (fun s c => s.wrB (MEM.CH_STAT.SR c) (keep && s.sys.boot.memOk)) s
    let s := (List.range 2048).foldl (fun s p => s.wr (CL.STATE.STATE p) clGated) s
    let s := { s with fab := { s.fab with dark := false, stopAt := none } }
    let s := (s.setPower { s.sys.power with toDark := none }).setBoot { s.sys.boot with good := false }
    .next ((s.wr PWR.STATE.CHANGING 0).wr PWR.STATE.STATE pwDark)

end Sys2Proof.Machine
end

