-- ==== Sys2Proof/Machine/ResetCmds.lean ====
section
/-! DEFINITION. The four resets as they are requested and completed (R454-R457). Kinds are ranked COLD 0, WARM 1, FABRIC 2,
COMPUTE 3, strongest first. -/
namespace Sys2Proof.Machine
open Sys2Proof

/-- A request refused (R455). -/
def State.rstRefuse (s : State) : State := (s.bump BOOT.COUNTS.RST_REFUSED).raise BOOT.EVENT.RST_REFUSED

/-- The reset in progress replaced. -/
def State.setReset (s : State) (k : Option Nat) : State := { s with sys := { s.sys with reset := k } }

/-- A reset starts. COLD first has log staging flushed. Log: DEDUCED 103, 104. -/
def State.startReset (s : State) (kind cause : Nat) : State :=
  match kind with
  | 0 => (s.setReset (some 0)).wr HLT.LOG_STAT.FLUSH_BUSY 1
  | 1 => s.warmStart cause
  | 2 => ((s.setReset (some 2)).wr BOOT.STATUS.CAUSE cause).fabricBegin
  | _ => ((s.setReset (some 3)).wr BOOT.STATUS.CAUSE cause).computeBegin

/-- Is a request refused: in DARK all but COLD, and before DONE a FABRIC or COMPUTE? Log: DEDUCED 103. -/
def State.rstRefused (s : State) (kind : Nat) : Bool :=
  (s.pwState == pwDark && kind != 0) || (s.phase != phDone && decide (2 ≤ kind))

/-- A reset requested (R455). One in progress absorbs one that is no stronger; a stronger one abandons it.
Log: DEDUCED 103. -/
def State.requestReset (s : State) (kind cause : Nat) : State :=
  if s.rstRefused kind then s.rstRefuse
  else
    match s.sys.reset with
    | some k =>
      if k ≤ kind then s.bump BOOT.COUNTS.RST_MERGED
      else (if k = 3 then s.computeEnd else s).startReset kind cause
    | none => s.startReset kind cause

/-- A write of BOOT.RESET (R455, R525). -/
def State.resetCmd (s : State) (key kind : Nat) : State :=
  if key ≠ 0xA5C3 then s.rstRefuse
  else s.requestReset kind (match kind with | 0 => 2 | 1 => 4 | 2 => 6 | _ => 8)

/-- BOOT_RESET_COLD: BOOT.RESET with KIND 0 and a key. -/
def execBootResetCold (key : BitVec 16) (s : State) : Result := .next (s.resetCmd key.toNat 0)

/-- BOOT_RESET_WARM. -/
def execBootResetWarm (key : BitVec 16) (s : State) : Result := .next (s.resetCmd key.toNat 1)

/-- BOOT_RESET_FABRIC. -/
def execBootResetFabric (key : BitVec 16) (s : State) : Result := .next (s.resetCmd key.toNat 2)

/-- BOOT_RESET_COMPUTE. -/
def execBootResetCompute (key : BitVec 16) (s : State) : Result := .next (s.resetCmd key.toNat 3)

/-- PKG_RESET_N_LOW: the pin has been low for 1 us. Log: DEDUCED 104. -/
def execPkgResetNLow (t : Nat) (s : State) : Result :=
  let s := s.advance t
  if ¬ s.sys.vaux ∨ s.sys.boot.rstLow then .next s
  else .next ((s.setBoot { s.sys.boot with rstLow := true }).requestReset 1 3)

/-- RESET_COMPLETE: the reset in progress ends; a held WARM ends with its pin instead. The straps are as a COLD finds them.
Log: DESIGN CHOICE 23. -/
def execResetComplete (head : Bool) (bench : BitVec 5) (t : Nat) (s : State) : Result :=
  let s := s.advance t
  match s.sys.reset with
  | some 0 =>
    let s := s.log.staging.foldl (fun s r => s.nvmWrite r) s
    .next (s.saveMinutes.coldStart head bench.toNat 2 true)
  | some 2 => .next (s.setReset none).fabricEnd.crcCommit
  | some 3 => .next (s.setReset none).computeEnd.crcCommit
  | _ => .next s

end Sys2Proof.Machine
end

