-- ==== Sys2Proof/Machine/Chain.lean ====
section
/-! DEFINITION. The bench chain (R431-R437) and the recovery images that it carries (R520). -/
namespace Sys2Proof.Machine
open Sys2Proof

/-! ### Frames -/

/-- A frame's fields: HOP1, SRC, HOPS, SEQ, and the payload. -/
def frHop1 (l : List Byte) : Bool := bitOf (bytesAt l 1 1) 0
def frSrc (l : List Byte) : Nat := bytesAt l 2 1
def frHops (l : List Byte) : Nat := bytesAt l 3 1
def frSeq (l : List Byte) : Nat := bytesAt l 4 2
def frPayload (l : List Byte) : List Byte := (l.drop 8).take (bytesAt l 6 2)

/-- Its length and its CRC are right. -/
def frOk (l : List Byte) : Bool :=
  decide (bytesAt l 6 2 ≤ 512) && l.length == 12 + bytesAt l 6 2 &&
    bytesAt l (l.length - 4) 4 == crc32c (l.take (l.length - 4))

/-- The frame as it is forwarded. -/
def frForward (l : List Byte) : List Byte :=
  let b := l.take 3 ++ leBytes 1 (frHops l + 1) ++ (l.take (l.length - 4)).drop 4
  b ++ leBytes 4 (crc32c b)

/-- The chain's record replaced. -/
def State.setChain (s : State) (c : Chain) : State := { s with sys := { s.sys with chain := c } }

/-- Recovery's record replaced. -/
def State.setRecov (s : State) (r : Recov) : State := { s with sys := { s.sys with recov := r } }

/-! ### Beacons (R434, R435) -/

/-- A position taken from a beacon; boot goes on. -/
def State.takePosition (s : State) (p : Nat) : State :=
  let s := s.wr BOOT.CHAIN.POSITION p
  if s.booting ∧ s.phase = phStuck ∧ s.rd BOOT.STATUS.STUCK = 1 then (s.wr BOOT.STATUS.STUCK 0).bootPhase
  else if s.booting ∧ s.phase = phChain then s.bootPhase
  else s

/-- A beacon's POS, COUNT and BENCH. -/
def State.beacon (s : State) (pos count bench : Nat) : State :=
  let s := s.wr BOOT.CHAIN.UP_BENCH bench
  let s := if bench = s.rd BOOT.STRAPS.BENCH_ID then s else s.raise BOOT.EVENT.BENCH_MISMATCH sevError
  let head := s.on BOOT.STRAPS.CHAIN_HEAD
  let old := s.rd BOOT.CHAIN.COUNT
  let s := s.wr BOOT.CHAIN.COUNT (if head then pos + 1 else count)
  let s := if s.rd BOOT.CHAIN.COUNT = old then s else s.lenCheck
  if head ∨ 67 < pos + 1 then s
  else
    match s.position with
    | none => s.takePosition (pos + 1)
    | some p => if p = pos + 1 then s else s.raise BOOT.EVENT.POS_CHANGED sevWarning

/-! ### What a frame does (R433, R436, R437) -/

/-- A SWITCH: N into PB.SWITCH_LO and PB.SWITCH_HI, PB.CMD.ARM, and with RECABLE CAL.RCB_CMD.ARM. -/
def State.chainSwitch (s : State) (l : List Byte) : State :=
  if ¬ s.fabUp then s
  else
    let s := ((s.wr PB.SWITCH_LO.SLOT (bytesAt l 0 4)).wr PB.SWITCH_HI.SLOT (bytesAt l 4 4)).pbArm
    if bitOf (bytesAt l 8 1) 0 then s.rcbArm else s

/-- A RESET by the chain. Log: DEDUCED 107. -/
def State.chainReset (s : State) (l : List Byte) : State :=
  match bytesAt l 0 1 with
  | 1 => s.requestReset 1 5
  | 2 => s.requestReset 2 7
  | 3 => s.requestReset 3 9
  | _ => s

/-- A MSG placed in BOOT.CHN_RX. Log: DEDUCED 107. -/
def State.chainMsg (s : State) (src : Nat) (l : List Byte) : State :=
  if l = [] ∨ 16 < l.length then s
  else
    let s := if s.on BOOT.CHN_RXH.VALID then s.bump BOOT.CHN_COUNTS.LOST else s
    let s := ((s.wr BOOT.CHN_RX.DATA (ofLeBytes l)).wr BOOT.CHN_RXH.SRC src).wr BOOT.CHN_RXH.LEN l.length
    (s.setFlag BOOT.CHN_RXH.VALID).raise BOOT.EVENT.RX_MSG

/-- The firmware slot that booted. -/
def State.bootedFw (s : State) : List Byte := s.sys.nvm.fw (s.rd BOOT.STATUS.FW_SLOT)

/-- An image request answered from the booted slot, or with NONE before DONE. Log: DEDUCED 108. -/
def State.imageAnswer (s : State) (l : List Byte) : State :=
  if s.position.isNone then s
  else if s.phase ≠ phDone then
    s.originate 5 false (leBytes 1 3 ++ leBytes 1 (bytesAt l 1 1) ++ leBytes 2 0 ++ leBytes 4 (bytesAt l 4 4) ++ leBytes 8 0)
  else
    let off := bytesAt l 4 4
    let f := s.bootedFw
    let h := nvTake 64 f
    let n := min (min (bytesAt l 2 2) 496) (fwLength h - off)
    let d := (nvTake (off + n) f).drop off
    s.originate 5 false (leBytes 1 2 ++ leBytes 1 (bytesAt l 1 1) ++ leBytes 2 n ++ leBytes 4 off ++ leBytes 8 (clGen h) ++ d)

/-- The chain path of recovery runs. -/
def State.chainPathOn (s : State) : Bool := s.recovering && !s.sys.recov.urdal && s.sys.recov.image.isNone

/-- The bytes that have arrived without a gap from offset 0. -/
def gotPrefix (got : Tbl (List Byte)) (l : List Byte) : Nat → List Byte
  | 0 => l
  | n + 1 => match Tbl.look got l.length with
    | some (b :: d) => gotPrefix got (l ++ b :: d) n
    | _ => l

/-- Image data for this package: taken if asked for, written into slot 0 in order of offset, and more is asked for.
Log: DEDUCED 108. -/
def State.imageData (s : State) (l : List Byte) : State :=
  let off := bytesAt l 4 4
  let gen := bytesAt l 8 8
  let r := s.sys.recov
  if !s.chainPathOn ∨ (Tbl.look r.asked off).isNone then s
  else if r.gen.isSome ∧ r.gen ≠ some gen then s.chainPath
  else
    let got := Tbl.set r.got off ((l.drop 16).take (bytesAt l 2 2))
    let pre := gotPrefix got [] got.length
    let n := fwLength pre
    let next := 496 + ((got.map (·.1)) ++ (r.asked.map (·.1))).foldl max 0
    let s := s.setRecov { r with gen := some gen, got := got, asked := Tbl.del r.asked off }
    let s := s.setNvm { s.sys.nvm with fw0 := pre }
    if 16 ≤ pre.length ∧ n ≤ pre.length then s.setRecov { s.sys.recov with image := some (pre.take n), asked := [] }
    else if 16 ≤ pre.length ∧ n ≤ next then s
    else s.imageReq next

/-- An IMAGE payload that has reached this package. -/
def State.chainImage (s : State) (l : List Byte) (hop1 : Bool) : State :=
  match bytesAt l 0 1 with
  | 1 => if hop1 then s.imageAnswer l else s
  | 2 => if s.position = some (bytesAt l 1 1) then s.imageData l else s
  | _ => s

/-- Resets over the chain are taken; not in BOOT's safe state (R480). -/
def State.chainRst (s : State) : Bool := s.on BOOT.CTRL.CHAIN_RST && !s.unsafeBlock 24

/-- Does a multi-hop frame of a type act on this package: what enables it, or names it? -/
def State.chainActs (s : State) (type : Nat) (l : List Byte) : Bool :=
  match type with
  | 2 => s.on PB.CTRL.CHAIN_SW
  | 3 => s.chainRst
  | 5 => decide (s.position = some (bytesAt l 1 1))
  | _ => true

/-- A frame's effect by its type. Log: DEDUCED 107. -/
def State.chainApply (s : State) (type src : Nat) (hop1 : Bool) (l : List Byte) : State :=
  match type with
  | 2 => s.chainSwitch l
  | 3 => s.chainReset l
  | 4 => s.chainMsg src l
  | 5 => s.chainImage l hop1
  | _ => s

/-- A multi-hop frame forwarded, then applied once (R432). -/
def State.chainPass (s : State) (l : List Byte) : State :=
  let type := bytesAt l 0 1
  let s := s.chainOut [frForward l]
  if !s.chainActs type (frPayload l) then s
  else if Tbl.look s.sys.chain.applied (frSrc l) = some (frSeq l) then s.bump BOOT.CHN_COUNTS.DUP
  else
    let c := s.sys.chain
    (s.setChain { c with applied := Tbl.set c.applied (frSrc l) (frSeq l) }).chainApply type (frSrc l) false (frPayload l)

/-- The package's own frame, come round: BUSY falls, and its own RESET is applied. Log: DEDUCED 107. -/
def State.chainHome (s : State) (l : List Byte) : State :=
  let c := s.sys.chain
  let mine := match c.mine with | some (q, _) => q == frSeq l | none => false
  let s := if mine then (s.setChain { c with mine := none }).wr BOOT.CHN_CMD.BUSY 0 else s
  if bytesAt l 0 1 = 3 ∧ s.chainRst then s.chainReset (frPayload l) else s

/-- A frame on CHAIN_IN (R432). Log: DEDUCED 107. -/
def State.chainIn (s : State) (l : List Byte) : State :=
  if ¬ s.sys.vaux then s
  else
    let s := s.chainClear.wr BOOT.CHAIN.LINK 1
    let type := bytesAt l 0 1
    if !frOk l then s.bump BOOT.CHN_COUNTS.CRC_DROP
    else if frHop1 l then
      if type = 0 ∨ 5 < type then s.bump BOOT.CHN_COUNTS.UNKNOWN
      else if type = 1 then
        let p := frPayload l
        s.beacon (bytesAt p 0 1) (bytesAt p 1 1) (bytesAt p 2 1)
      else if s.chainActs type (frPayload l) ∨ type = 5 then s.chainApply type (frSrc l) true (frPayload l)
      else s
    else if s.position = some (frSrc l) then s.chainHome l
    else if 68 ≤ frHops l then s.bump BOOT.CHN_COUNTS.LOST
    else if type = 0 ∨ 5 < type then s.bump BOOT.CHN_COUNTS.UNKNOWN
    else s.chainPass l

/-- BEACON_RX: a frame on CHAIN_IN, a beacon where its bytes say so. -/
def execBeaconRx (bytes : List Byte) (t : Nat) (s : State) : Result := .next ((s.advance t).chainIn bytes)

/-- CHAIN_SWITCH: a SWITCH frame on CHAIN_IN. -/
def execChainSwitch (bytes : List Byte) (t : Nat) (s : State) : Result := .next ((s.advance t).chainIn bytes)

/-- CHAIN_RESET: a RESET frame on CHAIN_IN. -/
def execChainReset (bytes : List Byte) (t : Nat) (s : State) : Result := .next ((s.advance t).chainIn bytes)

/-- CHAIN_MSG: a MSG frame on CHAIN_IN. -/
def execChainMsg (bytes : List Byte) (t : Nat) (s : State) : Result := .next ((s.advance t).chainIn bytes)

/-- CHAIN_IMAGE: an IMAGE frame on CHAIN_IN. -/
def execChainImage (bytes : List Byte) (t : Nat) (s : State) : Result := .next ((s.advance t).chainIn bytes)

/-! ### Frames that the package sends of itself -/

/-- BEACON_SEND: every 100 us, with a position. -/
def execBeaconSend (t : Nat) (s : State) : Result :=
  let s := s.advance t
  match s.position with
  | none => .next s
  | some p =>
    if ¬ s.sys.vaux then .next s
    else .next (s.chainClear.originate 1 true
      (leBytes 1 p ++ leBytes 1 (s.rd BOOT.CHAIN.COUNT) ++ leBytes 1 (s.rd BOOT.STRAPS.BENCH_ID) ++ leBytes 1 0))

/-- POSITION_TIMEOUT: no position 2 s after the straps were sampled. -/
def execPositionTimeout (t : Nat) (s : State) : Result :=
  let s := s.advance t
  if s.booting ∧ s.phase = phChain ∧ s.position.isNone ∧ s.sys.boot.strapAt + Config.ns 2000000000 ≤ s.now then .next (s.stick 1)
  else .next s

/-- The payload length that a type is sent with. -/
def sendOk (type len : Nat) : Bool := (type == 2 && len == 12) || (type == 3 && len == 4) || (type == 4 && decide (1 ≤ len) && decide (len ≤ 16))

/-- BOOT.CHN_CMD written with SEND. Log: DEDUCED 107. -/
def State.chainSend (s : State) (type len : Nat) : State :=
  if s.on BOOT.CHN_CMD.BUSY ∨ s.position.isNone ∨ !sendOk type len then s.raise BOOT.EVENT.CFG_ERR
  else
    let l := ((List.range 4).flatMap fun i => leBytes 4 (s.rd (BOOT.CHN_TXD.DATA i))).take len
    let s := s.wr BOOT.CHN_CMD.BUSY 1
    let s := s.setChain { s.sys.chain with mine := some (s.sys.chain.seq, s.now), sent := [] }
    let s := s.originate type false l
    if type = 2 then s.chainSwitch l else s

/-- CHAIN_TX_TIMEOUT: the frame that is out has not come round in 10 ms. -/
def execChainTxTimeout (t : Nat) (s : State) : Result :=
  let s := s.advance t
  match s.sys.chain.mine with
  | some (_, a) =>
    if s.now < a + Config.ns 10000000 then .next s
    else
      let s := ((s.setChain { s.sys.chain with mine := none }).wr BOOT.CHN_CMD.BUSY 0).bump BOOT.CHN_COUNTS.LOST
      .next (s.raise BOOT.EVENT.TX_LOST)
  | none => .next s

/-! ### Recovery (R519-R521) -/

/-- IMAGE_REQ_RETRY: requests unanswered for 10 ms are repeated. Log: DEDUCED 108. -/
def execImageReqRetry (t : Nat) (s : State) : Result :=
  let s := s.advance t
  if !s.chainPathOn ∨ s.position.isNone then .next s
  else
    let due := s.sys.recov.asked.filter fun r => decide (r.2 + Config.ns 10000000 ≤ s.now)
    .next (due.foldl (fun s r => s.imageReq r.1) s.chainClear)

/-- The STATUS byte of the recovery header. -/
def State.recStatus (s : State) (v : Nat) : State := s.setLp (s.comp.lpddr.write 12 (leBytes 1 v))

/-- RECOVERY_HEADER: the companion has written the header line: an image at 0x1000, to be checked. -/
def execRecoveryHeader (t : Nat) (s : State) : Result :=
  let s := s.advance t
  let h := s.comp.lpddr.read 0 64
  let r := s.sys.recov
  if ¬ s.recovering ∨ ¬ s.sys.recUl ∨ bytesAt h 0 4 ≠ 0x43524A46 ∨ r.seq = some (bytesAt h 8 4) then .next s
  else
    let s := s.setRecov { r with seq := some (bytesAt h 8 4), urdal := true, asked := [] }
    let l := s.comp.lpddr.read 0x1000 (min (bytesAt h 4 4) 0x1000000)
    if fwCheck l = 0 then .next ((s.setRecov { s.sys.recov with image := some l }).recStatus 2)
    else .next (s.recStatus 4)

/-- RECOVERY_INSTALL: an image that passes is written into both slots and read back, and COLD follows; a chain image that
does not pass is fetched again. Log: DEDUCED 108. -/
def execRecoveryInstall (t : Nat) (s : State) : Result :=
  let s := s.advance t
  match s.sys.recov.image with
  | none => .next s
  | some l =>
    if ¬ s.recovering then .next s
    else if fwCheck l = 0 then
      let s := s.setNvm { s.sys.nvm with fw0 := l, fw1 := l }
      let s := if s.sys.recov.urdal then s.recStatus 3 else s
      .next ((s.setRecov { s.sys.recov with image := none }).requestReset 0 2)
    else .next ((s.setRecov { s.sys.recov with image := none }).chainClear.chainPath)

end Sys2Proof.Machine
end

