-- ==== Sys2Proof/Machine/Vector.lean ====
section
/-! DEFINITION. Vector instructions, loads, stores and moves (R296, R297, R326, R329, R330, R332, R333). -/
namespace Sys2Proof.Machine
open Sys2Proof

/-! ### Fields -/

/-- VD of formats V and K; V of format L. -/
def fVD (w : Nat) : Nat := bitsOf w 46 6
/-- VA of formats V and K. -/
def fVA (w : Nat) : Nat := bitsOf w 40 6
/-- VB of format V. -/
def fVB (w : Nat) : Nat := bitsOf w 34 6
/-- VC of format V. -/
def fVC (w : Nat) : Nat := bitsOf w 28 6
/-- PD of format V. -/
def fVPD (w : Nat) : Nat := bitsOf w 25 3
/-- COND of format V. -/
def fVCond (w : Nat) : Nat := bitsOf w 22 3
/-- AA of format L. -/
def fLA (w : Nat) : Nat := bitsOf w 42 4
/-- LANE of format L. -/
def fLane (w : Nat) : Nat := bitsOf w 36 6
/-- W of format L. -/
def fW (w : Nat) : Nat := bitsOf w 32 4
/-- IMM32, signed. -/
def fImm32 (w : Nat) : Int := signedOf 32 w

/-! ### Lane-wise operations -/

/-- The enabled lanes, in ascending order. -/
def lanesOn (p : Pred) : List Nat := (List.range 64).filter (enabled p)

/-- Vector register `r` with lane `i` of every listed lane set to `f i`. -/
def Cluster.setLanes (c : Cluster) (r : Nat) (l : List Nat) (f : Nat → Lane) : Cluster :=
  l.foldl (fun c i => c.setLane r i (f i)) c

/-- A vector operation completed (CL_STEPS.VOPS, R488). -/
def State.vop (s : State) (p : Nat) : State :=
  (s.bump (CL.STEPS.VOPS p)).count (ctrDie (p / 256)) 0x102 (p % 256)

/-- The flags of a list of lanes' results together. -/
def flagsOf (l : List (Lane × Flags)) : Flags := l.foldl (fun a r => a.or r.2) {}

/-- A lane-wise instruction that writes VD: `f` gives an enabled lane's result and flags. -/
def State.lanewise (s : State) (p op : Nat) (fs : List (Nat × Nat)) (f : Nat → Cluster → Nat → Lane × Flags) : State :=
  s.issue p op (fun w => onlyFields w (predField :: fs)) false fun w s x =>
    let on := lanesOn (x.pred w)
    let s1 := s.setCl p (x.setLanes (fVD w) on fun i => (f w x i).1)
    .done ((s1.addFlags p (flagsOf (on.map (f w x)))).vop p)

/-- A lane-wise instruction on VA and VB. -/
def State.lanewise2 (s : State) (p op : Nat) (f : Lane → Lane → Lane × Flags) : State :=
  s.lanewise p op [(46, 6), (40, 6), (34, 6)] fun w x i => f (x.lane (fVA w) i) (x.lane (fVB w) i)

/-- A lane-wise instruction on VA. -/
def State.lanewise1 (s : State) (p op : Nat) (f : Lane → Lane × Flags) : State :=
  s.lanewise p op [(46, 6), (40, 6)] fun w x i => f (x.lane (fVA w) i)

/-- A result without flags. -/
def plain (x : Lane) : Lane × Flags := (x, {})

/-- A lane-wise instruction that writes the enabled bits of P[PD]. -/
def State.lanePred (s : State) (p op : Nat) (fs : List (Nat × Nat)) (f : Nat → Cluster → Nat → Bool) : State :=
  s.issue p op (fun w => onlyFields w (predField :: fs)) false fun w s x =>
    let e := x.pred w
    let old := x.preg (fVPD w)
    let new := ((List.range 64).map fun i =>
      if (if enabled e i then f w x i else enabled old i) then 2 ^ i else 0).sum
    .done ((s.setCl p (x.setP (fVPD w) (BitVec.ofNat 64 new))).vop p)

/-- VADD. -/
def execVadd (c : Fin 2048) (s : State) : Result := .next (s.lanewise2 c 0x40 f32Add)
/-- VSUB. -/
def execVsub (c : Fin 2048) (s : State) : Result := .next (s.lanewise2 c 0x41 f32Sub)
/-- VMUL. -/
def execVmul (c : Fin 2048) (s : State) : Result := .next (s.lanewise2 c 0x42 f32Mul)
/-- VFMA. -/
def execVfma (c : Fin 2048) (s : State) : Result :=
  .next (s.lanewise c 0x43 [(46, 6), (40, 6), (34, 6), (28, 6)] fun w x i =>
    f32Fma (x.lane (fVA w) i) (x.lane (fVB w) i) (x.lane (fVC w) i))
/-- VMIN. -/
def execVmin (c : Fin 2048) (s : State) : Result := .next (s.lanewise2 c 0x44 fun a b => plain (f32Min a b))
/-- VMAX. -/
def execVmax (c : Fin 2048) (s : State) : Result := .next (s.lanewise2 c 0x45 fun a b => plain (f32Max a b))
/-- VABS. -/
def execVabs (c : Fin 2048) (s : State) : Result := .next (s.lanewise1 c 0x46 fun a => plain (a &&& 0x7FFFFFFF))
/-- VNEG. -/
def execVneg (c : Fin 2048) (s : State) : Result := .next (s.lanewise1 c 0x47 fun a => plain (a ^^^ 0x80000000))
/-- VEXP2. -/
def execVexp2 (c : Fin 2048) (s : State) : Result := .next (s.lanewise1 c 0x48 f32Exp2)
/-- VLOG2. -/
def execVlog2 (c : Fin 2048) (s : State) : Result := .next (s.lanewise1 c 0x49 f32Log2)
/-- VRCP. -/
def execVrcp (c : Fin 2048) (s : State) : Result := .next (s.lanewise1 c 0x4A f32Rcp)
/-- VRSQ. -/
def execVrsq (c : Fin 2048) (s : State) : Result := .next (s.lanewise1 c 0x4B f32Rsq)
/-- VCMP. -/
def execVcmp (c : Fin 2048) (s : State) : Result :=
  .next (s.lanePred c 0x4C [(40, 6), (34, 6), (25, 3), (22, 3)] fun w x i =>
    f32Cmp (fVCond w) (x.lane (fVA w) i) (x.lane (fVB w) i))

/-- One level of R332's tree: lane i with lane i + half. -/
def treeLevel (f : Lane → Lane → Lane × Flags) (l : List Lane) (half : Nat) : List (Lane × Flags) :=
  (l.take half).zipWith f (l.drop half)

/-- R332's fixed tree, from `2^n` lanes down to one, with the flags gathered. -/
def tree (f : Lane → Lane → Lane × Flags) : Nat → List Lane → Flags → Lane × Flags
  | 0, l, fl => (l.headD 0, fl)
  | n + 1, l, fl =>
    let r := treeLevel f l (2 ^ n)
    tree f n (r.map (·.1)) (fl.or (flagsOf r))

/-- A reduction over lanes (R332): lane 0 of VD takes the result, lanes 1-63 become +0. Log: DEDUCED 126. -/
def State.reduce (s : State) (p op : Nat) (idle : Lane) (f : Lane → Lane → Lane × Flags) : State :=
  s.issue p op (fun w => onlyFields w [predField, (46, 6), (40, 6)]) false fun w s x =>
    let e := x.pred w
    let r := tree f 6 ((List.range 64).map fun i => if enabled e i then x.lane (fVA w) i else idle) {}
    let s1 := s.setCl p (x.setLanes (fVD w) (List.range 64) fun i => if i = 0 then r.1 else 0)
    .done ((s1.addFlags p r.2).vop p)

/-- VRSUM. -/
def execVrsum (c : Fin 2048) (s : State) : Result := .next (s.reduce c 0x4D 0x80000000 f32Add)
/-- VRMAX. -/
def execVrmax (c : Fin 2048) (s : State) : Result :=
  .next (s.reduce c 0x4E 0xFF800000 fun a b => plain (f32Max a b))
/-- VSEL. -/
def execVsel (c : Fin 2048) (s : State) : Result :=
  .next (s.lanewise c 0x4F [(46, 6), (40, 6), (34, 6), (25, 3)] fun w x i =>
    plain (if enabled (x.preg (fVPD w)) i then x.lane (fVA w) i else x.lane (fVB w) i))
/-- VIADD. -/
def execViadd (c : Fin 2048) (s : State) : Result := .next (s.lanewise2 c 0x50 fun a b => plain (a + b))
/-- VISUB. -/
def execVisub (c : Fin 2048) (s : State) : Result := .next (s.lanewise2 c 0x51 fun a b => plain (a - b))
/-- VIMUL. -/
def execVimul (c : Fin 2048) (s : State) : Result := .next (s.lanewise2 c 0x52 fun a b => plain (a * b))
/-- VAND. -/
def execVand (c : Fin 2048) (s : State) : Result := .next (s.lanewise2 c 0x53 fun a b => plain (a &&& b))
/-- VOR. -/
def execVor (c : Fin 2048) (s : State) : Result := .next (s.lanewise2 c 0x54 fun a b => plain (a ||| b))
/-- VXOR. -/
def execVxor (c : Fin 2048) (s : State) : Result := .next (s.lanewise2 c 0x55 fun a b => plain (a ^^^ b))
/-- VSHL. -/
def execVshl (c : Fin 2048) (s : State) : Result :=
  .next (s.lanewise2 c 0x56 fun a b => plain (a <<< (b.toNat % 32)))
/-- VSHR. -/
def execVshr (c : Fin 2048) (s : State) : Result :=
  .next (s.lanewise2 c 0x57 fun a b => plain (a >>> (b.toNat % 32)))
/-- VSRA. -/
def execVsra (c : Fin 2048) (s : State) : Result :=
  .next (s.lanewise2 c 0x58 fun a b => plain (a.sshiftRight (b.toNat % 32)))
/-- VICMP. -/
def execVicmp (c : Fin 2048) (s : State) : Result :=
  .next (s.lanePred c 0x59 [(40, 6), (34, 6), (25, 3), (22, 3)] fun w x i =>
    cmpBits (fVCond w) (x.lane (fVA w) i) (x.lane (fVB w) i))
/-- VPERM. -/
def execVperm (c : Fin 2048) (s : State) : Result :=
  .next (s.lanewise c 0x5A [(46, 6), (40, 6), (34, 6)] fun w x i =>
    plain (x.lane (fVA w) ((x.lane (fVB w) i).toNat % 64)))
/-- VLANE. -/
def execVlane (c : Fin 2048) (s : State) : Result :=
  .next (s.lanewise c 0x5B [(46, 6)] fun _ _ i => plain (BitVec.ofNat 32 i))
/-- PFROMV. -/
def execPfromv (c : Fin 2048) (s : State) : Result :=
  .next (s.lanePred c 0x5C [(40, 6), (25, 3)] fun w x i => x.lane (fVA w) i != 0)

/-! ### Loads and stores (R298, R300, R329, R333) -/

/-- The local address of a load or a store (R329). -/
def localAddr (x : Cluster) (w : Nat) : Nat := (x.areg (fLA w) + BitVec.ofInt 48 (fImm32 w)).toNat

/-- Bits per lane of a W (0 where W moves none). -/
def wBits (v : Nat) : Nat :=
  match v with
  | 0 => 32
  | 1 => 16
  | 2 => 8
  | 3 => 6
  | 4 => 4
  | _ => 8

/-- The lanes that a W names, from LANE. -/
def wLanes (v lane : Nat) : List Nat :=
  if v ≤ 2 then List.range 64
  else if v ≤ 4 then (List.range 32).map (· + lane)
  else [lane]

/-- Are W and LANE values that the table lists, up to W `top`? -/
def wOk (top w : Nat) : Bool :=
  let v := fW w
  let l := fLane w
  decide (v ≤ top) && (if v ≤ 2 then l == 0 else if v ≤ 4 then l == 0 || l == 32 else true)

/-- The bit offset, from the local address, of a lane that W moves. -/
def laneBit (v lane i : Nat) : Nat := if v ≤ 2 then wBits v * i else if v ≤ 4 then wBits v * (i - lane) else 0

/-- The bytes that the listed lanes reach, as offsets from the local address. -/
def reached (v lane : Nat) (l : List Nat) : List Nat :=
  (l.map fun i =>
    let b := laneBit v lane i
    (List.range ((b + wBits v - 1) / 8 - b / 8 + 1)).map (· + b / 8)).flatten

/-- The last byte that an access reaches, one past it; 0 where it reaches none. -/
def reachEnd (a : Nat) (l : List Nat) : Nat := l.foldl (fun m o => max m (a + o + 1)) 0

/-- The SRAM words that bytes at these offsets lie in. -/
def wordsAt (a : Nat) (l : List Nat) : List Nat := (l.map fun o => (a + o) / 8).eraseDups

/-- The words that an instruction reads are checked (R300): false where one of them is uncorrectable. -/
def State.readWords (s : State) (p : Nat) (l : List Nat) (ups : List Upset) : State × Bool :=
  let s := l.foldl (fun s k => s.strikeSram p (8 * k) 8 ups) s
  match l.find? fun k => (s.cl p).sram.isBad k with
  | some k => (s.sramUncorr p (8 * k), false)
  | none => (s, true)

/-- VLD. -/
def execVld (c : Fin 2048) (ups : List Upset) (s : State) : Result :=
  .next (s.issue c 0x60 (fun w => onlyFields w [predField, (46, 6), (42, 4), (36, 6), (32, 4), (0, 32)] && wOk 4 w) false
    fun w s x =>
      let a := localAddr x w
      let v := fW w
      let on := (wLanes v (fLane w)).filter (enabled (x.pred w))
      let l := reached v (fLane w) on
      if a % 8 ≠ 0 then .fault s pfAlign
      else if sramBytes < reachEnd a l then .fault s pfRange
      else
        let r := s.readWords c (wordsAt a l) ups
        if !r.2 then .fault r.1 tokSram
        else
          let y := r.1.cl c
          .done (r.1.setCl c (y.setLanes (fVD w) on fun i =>
            let b := laneBit v (fLane w) i
            BitVec.ofNat 32 (bitsOf (ofLeBytes (y.sram.read (a + b / 8) 5)) (b % 8) (wBits v)))))

/-- `k` bits of a number set from bit `b`. -/
def setBits (v b k x : Nat) : Nat := v - bitsOf v b k * 2 ^ b + x % 2 ^ k * 2 ^ b

/-- One lane stored: its bits replaced in the bytes that hold them. -/
def Mem.storeLane (m : Mem) (a b k x : Nat) : Mem :=
  let n := (b % 8 + k + 7) / 8
  m.write (a + b / 8) (leBytes n (setBits (ofLeBytes (m.read (a + b / 8) n)) (b % 8) k x))

/-- VST: W 5 stores bits [15:8] of lane LANE. -/
def execVst (c : Fin 2048) (s : State) : Result :=
  .next (s.issue c 0x61 (fun w => onlyFields w [predField, (46, 6), (42, 4), (36, 6), (32, 4), (0, 32)] && wOk 5 w) false
    fun w s x =>
      let a := localAddr x w
      let v := fW w
      let on := (wLanes v (fLane w)).filter (enabled (x.pred w))
      let l := reached v (fLane w) on
      if v ≠ 5 ∧ a % 8 ≠ 0 then .fault s pfAlign
      else if sramBytes < reachEnd a l then .fault s pfRange
      else
        let m := on.foldl (fun m i =>
          let y := (x.lane (fVD w) i).toNat
          m.storeLane a (laneBit v (fLane w) i) (wBits v) (if v = 5 then y / 256 else y)) x.sram
        let full := (l.map fun o => (a + o) / 8).filter fun k =>
          (List.range 8).all fun j => l.any fun o => a + o == 8 * k + j
        .done (s.setCl c { x with sram := full.foldl Mem.clearBad m }))

/-- VBCI. -/
def execVbci (c : Fin 2048) (s : State) : Result :=
  .next (s.issue c 0x62 (fun w => onlyFields w [predField, (46, 6), (0, 32)]) false fun w s x =>
    .done ((s.setCl c (x.setLanes (fVD w) (lanesOn (x.pred w)) fun _ => BitVec.ofNat 32 (bitsOf w 0 32)))))

/-- VBCA. -/
def execVbca (c : Fin 2048) (s : State) : Result :=
  .next (s.issue c 0x63 (fun w => onlyFields w [predField, (46, 6), (42, 4)]) false fun w s x =>
    .done (s.setCl c (x.setLanes (fVD w) (lanesOn (x.pred w)) fun _ => (x.areg (fLA w)).setWidth 32)))

/-- VTOA. -/
def execVtoa (c : Fin 2048) (s : State) : Result :=
  .next (s.issue c 0x64 (fun w => onlyFields w [predField, (46, 6), (42, 4), (36, 6)]) true fun w s x =>
    .done (s.setCl c (x.setA (fLA w) ((x.lane (fVD w) (fLane w)).signExtend 48))))

end Sys2Proof.Machine
end

