-- ==== Sys2Proof/Machine/Convert.lean ====
section
/-! DEFINITION. Conversion instructions (R308-R311, R328, R334, R335). -/
namespace Sys2Proof.Machine
open Sys2Proof

/-- FROM of format K. -/
def fFrom (w : Nat) : Nat := bitsOf w 36 4
/-- TO of format K. -/
def fTo (w : Nat) : Nat := bitsOf w 32 4
/-- RND of format K. -/
def fRnd (w : Nat) : Nat := bitsOf w 30 2
/-- OVF of format K. -/
def fOvf (w : Nat) : Nat := bitsOf w 28 2

/-- The pairs, roundings and overflow modes that the CVT table lists. -/
def cvtOk (w : Nat) : Bool :=
  let f := fFrom w
  let t := fTo w
  let r := fRnd w
  let o := fOvf w
  if f = 0 then
    (decide (t = 1 ∨ t = 2 ∨ t = 7) && decide (r ≤ 2) && decide (o = 0)) ||
    (decide (t = 3 ∨ t = 4) && decide (r ≤ 2) && decide (o ≤ 1)) ||
    (decide (t = 8) && decide (r ≤ 1) && decide (o = 0))
  else decide (f = 1 ∨ f = 2 ∨ f = 3 ∨ f = 4 ∨ f = 7 ∨ f = 8) && decide (t = 0 ∧ r = 0 ∧ o = 0)

/-- The random source's next state (R311). -/
def rngNext (x : BitVec 64) : BitVec 64 :=
  let a := x ^^^ (x <<< 13)
  let b := a ^^^ (a >>> 7)
  b ^^^ (b <<< 17)

/-- The draws of `n` advances. -/
def rngDraws (x : BitVec 64) : Nat → List (BitVec 64)
  | 0 => []
  | n + 1 => let y := rngNext x; y :: rngDraws y n

/-- A cluster's random state (R311). -/
def State.random (s : State) (p : Nat) : BitVec 64 :=
  BitVec.ofNat 64 (s.rd (CL.RNG_LO.STATE p) + 2 ^ 32 * s.rd (CL.RNG_HI.STATE p))

/-- The random state replaced. -/
def State.setRandom (s : State) (p : Nat) (x : BitVec 64) : State :=
  (s.wr (CL.RNG_LO.STATE p) (x.toNat % 2 ^ 32)).wr (CL.RNG_HI.STATE p) (x.toNat / 2 ^ 32)

/-- The 16 random bits of element `i` (R311). -/
def randomBits (draws : List (BitVec 64)) (i : Nat) : Nat := bitsOf (draws.getD (i / 4) 0).toNat (16 * (i % 4)) 16

/-- The rounding mode of lane `i` under a RND code. -/
def rndMode (rnd : Nat) (draws : List (BitVec 64)) (i : Nat) : Rnd :=
  match rnd with
  | 0 => .rne
  | 1 => .rtz
  | _ => .sr (randomBits draws i)

/-- An SR conversion advances the random state 16 times, whatever the predicate (R335). -/
def State.drawRandom (s : State) (p w : Nat) : List (BitVec 64) × State :=
  if fRnd w = 2 then
    let d := rngDraws (s.random p) 16
    (d, s.setRandom p (d.getD 15 0))
  else ([], s)

/-- CVT of one lane. -/
def cvtLane (w : Nat) (md : Rnd) (x : Lane) : Lane × Flags :=
  let n := x.toNat
  let nar (r : Nat × Flags) : Lane × Flags := (BitVec.ofNat 32 r.1, r.2)
  if fFrom w = 0 then
    let v := ofF32 x
    match fTo w with
    | 1 => nar (cvtTo fp16 md .inf v)
    | 2 => nar (cvtTo bf16 md .inf v)
    | 3 => nar (cvtTo e4m3 md (if fOvf w = 0 then .sat else .nan) v)
    | 4 => nar (cvtTo e5m2 md (if fOvf w = 0 then .sat else .inf) v)
    | 7 => nar (cvtInt 8 md v)
    | _ => nar (cvtInt 32 md v)
  else
    match fFrom w with
    | 1 => toF32 (fp16.decode n)
    | 2 => toF32 (bf16.decode n)
    | 3 => toF32 (e4m3.decode n)
    | 4 => toF32 (e5m2.decode n)
    | 7 => let i := signedOf 8 n; toF32 (.fin (decide (i < 0)) i.natAbs 0)
    | _ => let i := signedOf 32 n; toF32 (.fin (decide (i < 0)) i.natAbs 0)

/-- A conversion of every enabled lane. -/
def State.convert (s : State) (p op : Nat) (ok : Nat → Bool)
    (f : Nat → Cluster → List (BitVec 64) → Nat → Lane × Flags) : State :=
  s.issue p op (fun w => onlyFields w [predField, (46, 6), (40, 6), (36, 4), (32, 4), (30, 2), (28, 2)] && ok w) false
    fun w s x =>
      let on := lanesOn (x.pred w)
      let d := s.drawRandom p w
      let s1 := d.2.setCl p (x.setLanes (fVD w) on fun i => (f w x d.1 i).1)
      .done ((s1.addFlags p (flagsOf (on.map (f w x d.1)))).vop p)

/-- CVT. -/
def execCvt (c : Fin 2048) (s : State) : Result :=
  .next (s.convert c 0x80 cvtOk fun w x d i => cvtLane w (rndMode (fRnd w) d i) (x.lane (fVA w) i))

/-- The element format of an MX code, with the exponent of its largest binade (R309). -/
def mxFmt (code : Nat) : Fmt × Int := if code = 5 then (e3m2, 4) else (e2m1, 2)

/-- CVTMX (R309, R334). -/
def execCvtmx (c : Fin 2048) (s : State) : Result :=
  .next (s.convert c 0x81 (fun w => decide (fFrom w = 0) && decide (fTo w = 5 ∨ fTo w = 6) && decide (fRnd w ≤ 2) &&
      decide (fOvf w = 0)) fun w x d i =>
    let f := mxFmt (fTo w)
    let block := (List.range 32).map fun j => ofF32 (x.lane (fVA w) (i / 32 * 32 + j))
    let sc := mxScale f.2 block
    let r := mxElem f.1 (rndMode (fRnd w) d i) sc (ofF32 (x.lane (fVA w) i))
    (BitVec.ofNat 32 (r.1 + 256 * sc), r.2))

/-- CVTXF (R304, R334). -/
def execCvtxf (c : Fin 2048) (s : State) : Result :=
  .next (s.convert c 0x82 (fun w => decide (fFrom w = 5 ∨ fFrom w = 6) && decide (fTo w = 0) && decide (fRnd w = 0) &&
      decide (fOvf w = 0)) fun w x _ i =>
    let n := (x.lane (fVA w) i).toNat
    toF32 (mxVal (mxFmt (fFrom w)).1 (n % 256) (bitsOf n 8 8)))

end Sys2Proof.Machine
end

