-- ==== Sys2Proof/Machine/Parity.lean ====
section
/-! DEFINITION. Parity of the registers, CSR faults and the safe states, their release, and the register CRC's comparison
(R479-R484). -/
namespace Sys2Proof.Machine
open Sys2Proof

/-! ### Parity (R479) -/

/-- The parts that hold what the register interface knows of faults, replaced. -/
def State.setSys (s : State) (x : Sys) : State := { s with sys := x }

/-- A register's bit flipped by an upset. In a register with parity, its byte's parity is then wrong, or right again.
Log: DEDUCED 112. -/
def State.upsetReg (s : State) (u : RegUpset) : State :=
  match regAt u.off with
  | none => s
  | some (r, _) =>
    match r.fields.find? fun f => f.acc != .ws && decide (f.lo ≤ u.bit) && decide (u.bit < f.lo + f.width) with
    | none => s
    | some f =>
      let x := rowField r u.off u.inst f
      let v := s.rd x
      let s := s.wr x (if bitOf v (u.bit - f.lo) then v - 2 ^ (u.bit - f.lo) else v + 2 ^ (u.bit - f.lo))
      if r.fields.any fun f => accWritable f.acc then
        let k := (u.off + u.bit / 8, u.inst)
        let bad := s.sys.bad
        s.setSys { s.sys with bad := if bad.contains k then bad.filter (· != k) else bad ++ [k] }
      else s

/-- Is a register's parity wrong? Log: DEDUCED 111. -/
def State.regBad (s : State) (off inst : Nat) : Bool := s.sys.bad.any fun x => x.1 / 4 == off / 4 && x.2 == inst

/-- A register's parity set by a write. Log: DEDUCED 111. -/
def State.freshen (s : State) (off inst : Nat) : State :=
  s.setSys { s.sys with
    bad := s.sys.bad.filter fun x => !(x.1 / 4 == off / 4 && x.2 == inst)
    found := s.sys.found.filter fun x => !(x.1 / 4 == off / 4 && x.2 == inst) }

/-- A register's parity set by a write that was taken: its fields hold the value written. Log: DEDUCED 111. -/
def State.parityTaken (s : State) (off inst v : Nat) : State :=
  if !s.regBad off inst then s
  else
    match regAt off with
    | none => s
    | some (r, _) =>
      if (r.fields.filter fun f => accWritable f.acc).all fun f => s.rd (rowField r off inst f) == bitsOf v f.lo f.width then
        s.freshen off inst
      else s

/-! ### The safe states (R480) -/

/-- A block's bit in FAULT_LO or FAULT_HI. -/
def State.setFault (s : State) (b : Nat) (on : Bool) : State :=
  let put (v i : Nat) : Nat := if bitOf v i then (if on then v else v - 2 ^ i) else (if on then v + 2 ^ i else v)
  if b < 32 then s.wr GLB.FAULT_LO.BLOCKS (put (s.rd GLB.FAULT_LO.BLOCKS) b)
  else s.wr GLB.FAULT_HI.DIES (put (s.rd GLB.FAULT_HI.DIES) (b - 32))

/-- The cluster of an offset in a cluster window. -/
def clOf (off : Nat) : Nat := (off - 0x200000) / 0x1000

/-- A cluster's entry into its safe state: a program in RUN ends as under STOP. -/
def State.clSafeEnter (s : State) (p : Nat) : State := if s.clState p = clRun then s.clFault p tokStopped else s

/-- The ports of an OPE engine silenced, and a copper link. Log: DEDUCED 61, 71. -/
def State.linksOff (s : State) (which : Nat → Bool) : State := (s.cutLinks which).quietRx which

/-- What a block does at once on entering its safe state. The rest follows from the fault that is recorded.
Log: DEDUCED 37, 61, 71. -/
def State.safeEnter (s : State) (off : Nat) : State :=
  match blockOf off with
  | 1 =>
    if s.gState = gSettle then s.enterHoldover true (s.rd GAUGE.EST_ERR.PS)
    else if s.gState = gLocked ∨ s.gState = gSeamHeld then s.enterHoldover false (s.rd GAUGE.EST_ERR.PS)
    else s
  | 2 => (List.range 8).foldl (fun s n => s.tpoDisarm n) s
  | 3 => s.linksOff fun _ => true
  | 9 =>
    let s := s.calAbort
    if s.rcState = rcArmed then s.wr CAL.RCB_STAT.STATE rcIdle else s
  | b =>
    if 4 ≤ b ∧ b ≤ 7 then s.linksOff fun l => optical l && l / 4 == b - 4
    else if 10 ≤ b ∧ b ≤ 15 then s.linksOff fun l => !optical l && (decide (0xA8000 ≤ off) || l == 6 + b)
    else if 32 ≤ b then s.clSafeEnter (clOf off)
    else s

/-- A CSR fault of a register. Log: DEDUCED 112. -/
def State.csrFault (s : State) (off inst : Nat) : State :=
  let k := (off, inst)
  let s := s.setSys { s.sys with found := s.sys.found ++ [k], held := s.sys.held.filter (· != k) ++ [k] }
  let s := (s.setFault (blockOf off) true).bump GLB.FAULT_LAST.COUNT
  let s := (s.wr GLB.FAULT_LAST.OFFSET (off / 4)).raise GLB.EVENT.CSR_FAULT sevError (leBytes 4 off)
  s.safeEnter off

/-- A bank's copy of a register set to 0 by a mismatch. -/
def State.zeroBank (s : State) (r : RegRow) (off inst : Nat) : State :=
  let s := (r.fields.filter fun f => accWritable f.acc).foldl (fun s f => s.wr (rowField r off inst f) 0) s
  (s.freshen off inst).logOpen (blockOf off) 8 sevWarning off

/-- A register's parity checked: a mismatch is found once, until a write restores it. Log: DEDUCED 112. -/
def State.checkReg (s : State) (r : RegRow) (off inst : Nat) : State :=
  if s.compat ∨ !s.regBad off inst ∨ s.sys.found.contains (off, inst) then s
  else if r.banked then s.zeroBank r off inst
  else s.csrFault off inst

/-- CSR_PARITY_SCRUB: `ups` are the upsets since the last pass. Log: DEDUCED 112. -/
def execCsrParityScrub (ups : List RegUpset) (s : State) : Result :=
  if ¬ s.sys.vaux then .next s
  else
    let s := ups.foldl State.upsetReg s
    if s.compat then .next s
    else
      let s := s.sys.bad.foldl (fun s x =>
        match regAt (x.1 / 4 * 4) with
        | some (r, _) => s.checkReg r (x.1 / 4 * 4) x.2
        | none => s) s
      .next (s.bump GLB.SCRUB.PASSES)

/-! ### Release (R481) -/

/-- A block number that R460 assigns. -/
def blockNamed (b : Nat) : Bool := decide (b ≤ 25) || (decide (32 ≤ b) && decide (b ≤ 39))

/-- A write refused in GLB. Log: DEDUCED 118. -/
def State.glbRefuse (s : State) : State := s.raise GLB.EVENT.CFG_ERR

/-- What a block does on leaving its safe state. -/
def State.resume (s : State) (b : Nat) : State :=
  if b = 1 then (s.dcoTo s.active).reassess else if b = 17 then s.restartCopies else s

/-- The faults of a block's registers that a test picks cleared; the block leaves its safe state when none is left. -/
def State.release' (s : State) (b : Nat) (ok : Nat → Bool) : State :=
  let held := s.sys.held.filter fun x => !(blockOf x.1 == b && ok x.1)
  let s := s.setSys { s.sys with held := held }
  if held.any fun x => blockOf x.1 == b then s else (s.setFault b false).resume b

/-- Is some register of an offset range's kind wrong? -/
def State.anyBad (s : State) (p : Nat → Bool) : Bool := s.sys.bad.any fun x => p x.1

/-- A block's re-check: of a compute die, every cluster that passes is released. -/
def State.recheckDone (s : State) (b : Nat) : State :=
  let fails := s.anyBad fun o => blockOf o == b
  let s := if 32 ≤ b then s.release' b fun o => !s.anyBad fun x => blockOf x == b && clOf x == clOf o
    else if fails then s else s.release' b fun _ => true
  if fails then s.glbRefuse else s

/-! ### The CRC of compatibility mode (R482, R483) -/

/-- The package's own writes since CRC_NOW was computed fold into CRC_NOW and CRC_REF. Log: DEDUCED 22. -/
def State.crcFold (s : State) : State :=
  if !s.compat then s
  else
    let own := s.crcNow ^^^ s.rd GLB.CRC_NOW.CRC ^^^ s.sys.crcSoft
    (s.wr GLB.CRC_NOW.CRC (s.rd GLB.CRC_NOW.CRC ^^^ own)).wr GLB.CRC_REF.CRC (s.rd GLB.CRC_REF.CRC ^^^ own)

/-- What a software write has changed is not the package's own; the comparison is suspended. `old` is the CRC before it.
Log: DEDUCED 113. -/
def State.crcSoftly (s : State) (off old : Nat) : State :=
  match regAt off with
  | some (r, _) =>
    if crcCovers r then
      (s.setSys { s.sys with crcSoft := s.sys.crcSoft ^^^ old ^^^ s.crcNow }).wr GLB.CRC_CTRL.STALE 1
    else s
  | none => s

/-- A software write `f` of value `v` to a register: parity and CRC follow it. Log: DEDUCED 111. -/
def State.bySoft (s : State) (off inst v : Nat) (f : State → State) : State :=
  if s.compat then (f s).crcSoftly off s.crcNow
  else
    let t := f s
    if t.sys.bad = [] then t else t.parityTaken off inst v

/-- The registers whose faults stand for a fault in every block, for the blocks of which parts are in their safe states. -/
def allHeld : List (Nat × Nat) :=
  [(MEM.CTRL.base, 0)] ++ (List.range 64).map (MEM.RING_CFG.base, ·) ++ (List.range 64).map (MEM.FELL_LEN.base, ·) ++
  (List.range 12).map (fun n => ((CPY.E_PROD.PROD n).off, 0)) ++ (List.range 2048).map fun p => ((CL.CMD.STOP p).off, 0)

/-- A CSR fault in every block. -/
def State.faultAll (s : State) : State :=
  let s := s.setSys { s.sys with held := allHeld }
  let s := (s.wr GLB.FAULT_LO.BLOCKS (2 ^ 26 - 1)).wr GLB.FAULT_HI.DIES 255
  let s := ((s.bump GLB.FAULT_LAST.COUNT).setFlag GLB.EVENT.CRC_MISMATCH).raise GLB.EVENT.CSR_FAULT sevError
  let s := [GAUGE.CTRL.base, TIO.TCI_CTRL.base, PB.CTRL.base, CAL.CTRL.base].foldl (fun s o => s.safeEnter o) s
  let s := s.linksOff fun _ => true
  (List.range 2048).foldl (fun s p => s.clSafeEnter p) s

/-- Every block released. -/
def State.releaseAll (s : State) : State :=
  let s := s.setSys { s.sys with held := [] }
  (((s.wr GLB.FAULT_LO.BLOCKS 0).wr GLB.FAULT_HI.DIES 0).resume 1).resume 17

/-- CRC_RECOMPUTE: `ups` are the upsets since the last pass. Log: DEDUCED 113. -/
def execCrcRecompute (ups : List RegUpset) (s : State) : Result :=
  if ¬ s.sys.vaux ∨ ¬ s.compat then .next s
  else
    let s := ups.foldl State.upsetReg s.crcFold
    let s := (s.setSys { s.sys with crcSoft := 0 }).wr GLB.CRC_NOW.CRC s.crcNow
    let s := s.bump GLB.SCRUB.PASSES
    .next (if s.on GLB.CRC_CTRL.STALE ∨ s.rd GLB.CRC_NOW.CRC = s.rd GLB.CRC_REF.CRC then s else s.faultAll)

/-- GLB.CRC_CTRL.COMMIT. -/
def State.crcCommitCmd (s : State) : State :=
  if !s.compat then s.glbRefuse
  else
    let s := s.crcFold
    (s.wr GLB.CRC_REF.CRC (s.rd GLB.CRC_NOW.CRC)).wr GLB.CRC_CTRL.STALE 0

/-- CRC_COMMIT. -/
def execCrcCommit (s : State) : Result := .next s.crcCommitCmd

/-- A write of GLB.CRC_REF. -/
def State.crcRefWrite (s : State) (v : Nat) : State :=
  if !s.compat then s.glbRefuse else (s.crcFold.wr GLB.CRC_REF.CRC v).wr GLB.CRC_CTRL.STALE 0

/-- GLB.FAULT_CLR.BLOCK (R481, R483, R525). -/
def State.faultClr (s : State) (b : Nat) : State :=
  let t := s.crcFold
  let ok := if s.compat then b == 63 && t.rd GLB.CRC_NOW.CRC == t.rd GLB.CRC_REF.CRC else blockNamed b
  if !ok then t.glbRefuse
  else t.setSys { t.sys with recheck := t.sys.recheck.filter (· != b) ++ [b] }

/-- FAULT_CLR. -/
def execFaultClr (block : BitVec 6) (s : State) : Result :=
  if s.sys.vaux then .next (s.faultClr block.toNat) else .next s

/-- FAULT_RECHECK_DONE. -/
def execFaultRecheckDone (block : BitVec 6) (s : State) : Result :=
  let b := block.toNat
  if ¬ s.sys.recheck.contains b then .next s
  else
    let s := s.setSys { s.sys with recheck := s.sys.recheck.filter (· != b) }
    .next (if b = 63 then s.releaseAll else s.recheckDone b)

end Sys2Proof.Machine
end

