-- ==== Sys2Proof/Machine/RegWrites.lean ====
section
/-! DEFINITION. The writes of registers that have rows of their own: each is a software write, which parity and CRC follow,
around the operation that its chapter gives (R473, R474). A register's fields that a command does not name are written
with the values they hold. -/
namespace Sys2Proof.Machine
open Sys2Proof

/-- A value with a field replaced. -/
def withBits (v lo width x : Nat) : Nat := v - bitsOf v lo width * 2 ^ lo + x % 2 ^ width * 2 ^ lo

/-- The command `f` of a register written with the fields that it holds. -/
def State.byCmd (s : State) (off : Nat) (f : State → State) : State := s.bySoft off 0 (s.word off) f

/-! ### Hall time and the time edges -/

/-- LOOP_HOLD. -/
def execLoopHold (hold : Bool) (s : State) : Result :=
  .next (s.bySoft GAUGE.CTRL.base 0 (withBits (s.word GAUGE.CTRL.base) 1 1 (bit hold)) fun s => s.writeLoopHold hold)

/-- GAUGE_COEF_WRITE. -/
def execGaugeCoefWrite (trk : Bool) (value : BitVec 32) (s : State) : Result :=
  .next (s.bySoft (if trk then GAUGE.LOOP_TRK.base else GAUGE.LOOP_ACQ.base) 0 value.toNat fun s =>
    s.writeGaugeCoef trk value.toNat)

/-- TPO_ARM. -/
def execTpoArm (n : Fin 8) (s : State) : Result := .next (s.byCmd (TIO.TPO_CTRL.MODE n).off fun s => s.tpoArm n)

/-- TPO_DISARM. -/
def execTpoDisarm (n : Fin 8) (s : State) : Result := .next (s.byCmd (TIO.TPO_CTRL.MODE n).off fun s => s.tpoDisarm n)

/-- A write of CTRL, FRAC or PERIOD of a pulse output. -/
def State.tpoWrite (s : State) (n : Nat) (reg : TpoReg) (v : Nat) : State :=
  match reg with
  | .ctrl => s.tpoWriteCtrl n v
  | .frac => s.tpoWriteFrac n v
  | .period => s.tpoWritePeriod n v

/-- The offset of CTRL, FRAC or PERIOD of a pulse output. -/
def tpoOff (n : Nat) (reg : TpoReg) : Nat :=
  match reg with
  | .ctrl => (TIO.TPO_CTRL.MODE n).off
  | .frac => (TIO.TPO_FRAC.START_FRAC n).off
  | .period => (TIO.TPO_PERIOD.PERIOD n).off

/-- TPO_CONFIG_WRITE. Log: DESIGN CHOICE 24. -/
def execTpoConfigWrite (n : Fin 8) (reg : TpoReg) (value : BitVec 32) (s : State) : Result :=
  .next (s.bySoft (tpoOff n reg) 0 value.toNat fun s => s.tpoWrite n reg value.toNat)

/-- TPO_START_WRITE. -/
def execTpoStartWrite (n : Fin 8) (hi : Bool) (value : BitVec 32) (s : State) : Result :=
  .next (s.bySoft (if hi then (TIO.TPO_START_HI.TNS_HI n).off else (TIO.TPO_START_LO.TNS_LO n).off) 0 value.toNat fun s =>
    s.tpoWriteStart n hi value.toNat)

/-! ### The Pattern Book and the ports -/

/-- TBL_HI_WRITE (R104). -/
def execTblHiWrite (value : BitVec 32) (s : State) : Result :=
  .next (s.bySoft PB.TBL_HI.base 0 value.toNat fun s => s.writeTblHi value.toNat)

/-- The offset of a leaf register. -/
def leafOff : LeafReg → Nat
  | .cycle => PB.TBL_CYCLE.base
  | .maint => PB.TBL_MAINT.base
  | .alignLo => PB.TBL_ALIGN_LO.base
  | .alignHi => PB.TBL_ALIGN_HI.base

/-- LEAF_REGISTER_WRITE. -/
def execLeafRegisterWrite (reg : LeafReg) (value : BitVec 32) (s : State) : Result :=
  .next (s.bySoft (leafOff reg) 0 value.toNat fun s => s.writeLeafReg reg value.toNat)

/-- WARDROBE_WRITE. -/
def execWardrobeWrite (p : Fin 16) (hi : Bool) (value : BitVec 32) (s : State) : Result :=
  .next (s.bySoft (if hi then (OPE.P_WARD1.V7 p).off else (OPE.P_WARD0.V0 p).off) 0 value.toNat fun s =>
    s.writeWard p hi value.toNat)

/-- SPARE_WRITE. -/
def execSpareWrite (p : Fin 16) (value : BitVec 32) (s : State) : Result :=
  .next (s.bySoft (OPE.P_SPARE.B_FOR p).off 0 value.toNat fun s => s.writeSpare p value.toNat)

/-- PROBE_GO: a write of PROBE_CMD with GO set. -/
def execProbeGo (e : Fin 4) (value : BitVec 32) (s : State) : Result :=
  .next (s.bySoft (OPE.PROBE_CMD.RING e).off 0 value.toNat fun s => s.writeProbe e (value.toNat ||| 1))

/-- JIG_COEF_WRITE: of the loop that the requester's bank selects. -/
def execJigCoefWrite (b : Bank) (dith : Bool) (value : BitVec 32) (s : State) : Result :=
  let l := s.rd (JIG.L_SEL.LOOP b.num)
  .next (s.bySoft (if dith then JIG.L_DITH.base else JIG.L_GAIN.base) l value.toNat fun s => s.writeCoef l dith value.toNat)

/-- RCB_STAGE_WRITE. -/
def execRcbStageWrite (p : Fin 16) (hi : Bool) (value : BitVec 32) (s : State) : Result :=
  .next (s.bySoft (if hi then (CAL.RCB_WARD_1.W7_W4 p).off else (CAL.RCB_WARD_0.W3_W0 p).off) 0 (wardMask value.toNat)
    fun s => s.writeStage p hi value.toNat)

/-! ### Calibration and copper -/

/-- KIND and UNIT of CAL.CMD stored, and the run queued. -/
def State.calRunCmd (s : State) (kind unit : Nat) : State :=
  ((s.wr CAL.CMD.KIND kind).wr CAL.CMD.UNIT unit).calCommand kind unit

/-- CAL_RUN. -/
def execCalRun (kind : BitVec 4) (unit : BitVec 12) (s : State) : Result :=
  .next (s.bySoft CAL.CMD.base 0 (kind.toNat * 2 ^ 28 + unit.toNat * 2 ^ 16) fun s => s.calRunCmd kind.toNat unit.toNat)

/-- CAL_SAVE. -/
def execCalSave (s : State) : Result := .next (s.byCmd CAL.CMD.base State.calSave)

/-- CAL_RESTORE. -/
def execCalRestore (s : State) : Result := .next (s.byCmd CAL.CMD.base State.calRestore)

/-- CAL_ABORT. -/
def execCalAbort (s : State) : Result := .next (s.byCmd CAL.CMD.base State.calAbort)

/-- CU_RETRAIN. -/
def execCuRetrain (k : Fin 6) (s : State) : Result := .next (s.byCmd (CU.CMD.LANE k).off fun s => s.cuEnter k cuDown)

/-- LANE and PERM of CU_<link>.CMD stored. -/
def State.cuFields (s : State) (k lane : Nat) (perm : Bool) : State :=
  (s.wr (CU.CMD.LANE k) lane).wrB (CU.CMD.PERM k) perm

/-- CU_SPARE. -/
def execCuSpare (k : Fin 6) (lane : BitVec 4) (perm : Bool) (s : State) : Result :=
  .next (s.bySoft (CU.CMD.LANE k).off 0 (bit perm * 256 + lane.toNat * 16) fun s =>
    (s.cuFields k lane.toNat perm).cuSpare k lane.toNat perm)

/-- CU_BACK. -/
def execCuBack (k : Fin 6) (lane : BitVec 4) (s : State) : Result :=
  .next (s.bySoft (CU.CMD.LANE k).off 0 (bit (s.on (CU.CMD.PERM k)) * 256 + lane.toNat * 16) fun s =>
    (s.wr (CU.CMD.LANE k) lane.toNat).cuBack k lane.toNat)

/-! ### Memory, copies and the link -/

/-- The offset of a ring's register. -/
def ringOff : RingReg → Nat
  | .baseLo => MEM.RING_BASE_LO.base
  | .baseHi => MEM.RING_BASE_HI.base
  | .cfg => MEM.RING_CFG.base

/-- RING_CONFIG_WRITE: of the ring that the requester's bank selects. -/
def execRingConfigWrite (b : Bank) (reg : RingReg) (value : BitVec 32) (s : State) : Result :=
  let r := s.rd (MEM.RING_SEL.RING b.num)
  .next (s.bySoft (ringOff reg) r value.toNat fun s => s.ringWrite r reg value.toNat)

/-- The offset of a stream's register. -/
def fellOff : FellReg → Nat
  | .baseLo => MEM.FELL_BASE_LO.base
  | .baseHi => MEM.FELL_BASE_HI.base
  | .len => MEM.FELL_LEN.base
  | .cfg => MEM.FELL_CFG.base
  | .cur => MEM.FELL_CUR.base
  | .stripe => MEM.FELL_STRIPE.base

/-- FELL_REGISTER_WRITE: of the stream that the requester's bank selects. -/
def execFellRegisterWrite (b : Bank) (reg : FellReg) (value : BitVec 32) (s : State) : Result :=
  let f := s.rd (MEM.FELL_SEL.STREAM b.num)
  .next (s.bySoft (fellOff reg) f value.toNat fun s => s.fellWrite f reg value.toNat)

/-- CPY_PROD_WRITE. -/
def execCpyProdWrite (n : Fin 12) (value : BitVec 16) (s : State) : Result :=
  .next (s.bySoft (CPY.E_PROD.PROD n).off 0 value.toNat fun s => s.prodWrite n value.toNat)

/-- COH_WIN_WRITE. -/
def execCohWinWrite (base size : BitVec 16) (s : State) : Result :=
  .next (s.bySoft ULK.COH_WIN.base 0 (base.toNat * 65536 + size.toNat) fun s => s.setWindow base.toNat size.toNat)

/-! ### Health, the chain and the operator key -/

/-- CTR_CFG_WRITE. -/
def execCtrCfgWrite (n : Fin 112) (value : BitVec 32) (s : State) : Result :=
  .next (s.bySoft (HLT.CTR_CFG.SRC n).off 0 value.toNat fun s => s.ctrConfig n value.toNat)

/-- PATCH_NOTE_ADD. -/
def execPatchNoteAdd (s : State) : Result := .next (s.byCmd HLT.PATCH_NOTE.base State.noteAdd)

/-- OPKEY_FUSE. -/
def execOpkeyFuse (s : State) : Result := .next (s.byCmd BOOT.OPKEY.base State.fuseKey)

/-- TYPE and LEN of BOOT.CHN_CMD stored, and the message sent. -/
def State.chainCmd (s : State) (type len : Nat) : State :=
  ((s.wr BOOT.CHN_CMD.TYPE type).wr BOOT.CHN_CMD.LEN len).chainSend type len

/-- CHAIN_SEND: BOOT.CHN_CMD written with SEND, TYPE and LEN. -/
def execChainSend (type len : BitVec 8) (s : State) : Result :=
  .next (s.bySoft BOOT.CHN_CMD.base 0 (type.toNat * 2 ^ 24 + len.toNat * 2 ^ 8) fun s => s.chainCmd type.toNat len.toNat)

end Sys2Proof.Machine
end

