-- ==== Sys2Proof/Machine/Csr.lean ====
section
/-! DEFINITION. Accesses to the register window (R459-R478): their checks, writes and their effects, reads, the mailbox,
posted writes and the clearing of flags. -/
namespace Sys2Proof.Machine
open Sys2Proof

/-! ### Refusals, locks (R474, R477, R478) -/

/-- The flag of a refused write: its block's CFG_ERR, or GLB's where the block has none. -/
def refuseField (off : Nat) : Field :=
  match blockOf off with
  | 1 => GAUGE.EVENT.CFG_ERR
  | 2 => TIO.EVENT.CFG_ERR
  | 3 => PB.EVENT.CFG_ERR
  | 8 => JIG.EVENT.CFG_ERR
  | 9 => if off < 0x98000 then CAL.EVENT.CFG_ERR else if off < 0x98200 then CAL.RCB_EVENT.CFG_ERR else CAL.LSR_EVENT.CFG_ERR
  | 17 => CPY.EVENT.CFG_ERR
  | 19 => MEM.EVENT.CFG_ERR
  | 20 => ULK.EVENT.CFG_ERR
  | 21 => ED.EVENT.CFG_ERR 0
  | 22 => ED.EVENT.CFG_ERR 1
  | 23 => HLT.EVENT.CFG_ERR
  | 24 => BOOT.EVENT.CFG_ERR
  | 25 => PWR.EVENT.CFG_ERR
  | b =>
    if 4 ≤ b ∧ b ≤ 7 then OPE.EVENT.CFG_ERR (b - 4)
    else if 10 ≤ b ∧ b ≤ 15 then CU.EVENT.CFG_ERR (b - 10)
    else if 32 ≤ b then CL.EVENT.CFG_ERR (clOf off)
    else GLB.EVENT.CFG_ERR

/-- A write refused. Log: DEDUCED 118. -/
def State.refuseWrite (s : State) (off : Nat) : State :=
  let b := blockOf off
  if b = 9 ∧ 0x98200 ≤ off then s.laserEvent ((off - 0x98200) / 0x20) CAL.LSR_EVENT.CFG_ERR false
  else if b = 21 ∨ b = 22 then (s.bump (ED.COUNTS.CFG_ERR (b - 21))).raise (refuseField off)
  else s.raise (refuseField off)

/-- Is a field's lock, or its one write, in force? -/
def State.fieldShut (s : State) (f : FieldRow) (x : Field) : Bool :=
  match f.acc with
  | .lk => s.on BOOT.STATUS.LOCKED
  | .w1 => (Tbl.look s.wrote x.key).isSome
  | _ => false

/-- Does a write carry a different value for a field that is shut? -/
def State.violates (s : State) (r : RegRow) (off inst v : Nat) : Bool :=
  r.fields.any fun f => s.fieldShut f (rowField r off inst f) && bitsOf v f.lo f.width != s.rd (rowField r off inst f)

/-- A written value with what the shut fields hold in their places. -/
def State.unlocked (s : State) (r : RegRow) (off inst v : Nat) : Nat :=
  r.fields.foldl (fun v f =>
    if s.fieldShut f (rowField r off inst f) then withBits v f.lo f.width (s.rd (rowField r off inst f)) else v) v

/-- A violating write counted. -/
def State.lockViol (s : State) (off : Nat) : State :=
  ((s.bump GLB.LOCK_VIOL.COUNT).wr GLB.LOCK_VIOL.LAST (off / 4)).raise GLB.EVENT.LOCK_VIOL sevError (leBytes 4 off)

/-- The fields that software writes stored; a W1 field is used with its first write. -/
def State.storeFields (s : State) (r : RegRow) (off inst v : Nat) : State :=
  (r.fields.filter fun f => accWritable f.acc).foldl (fun s f =>
    let x := rowField r off inst f
    let s := s.wr x (bitsOf v f.lo f.width)
    if f.acc = .w1 then { s with wrote := Tbl.set s.wrote x.key 1 } else s) s

/-- A write of a register without further effect: taken or refused as a whole. -/
def State.plainWrite (s : State) (r : RegRow) (off : Nat) (i : List Nat) (inst v : Nat) : State :=
  let t := s.storeFields r off inst v
  if t.accepted r off i inst then t else s.refuseWrite off

/-- Strobe fields that a write sets. A write of a number or a code counts once. -/
def strobes (r : RegRow) (v : Nat) : Nat := (r.fields.filter fun f => f.acc == .ws && bitsOf v f.lo f.width != 0).length

/-- Writing SEQ back clears the one-bit flags (R476). Log: DEDUCED 120. -/
def State.sqClear (s : State) (r : RegRow) (off inst seq : Nat) : State :=
  if s.rd ⟨off, 24, 8, inst, 0⟩ = seq then
    (r.fields.filter fun f => f.acc == .sq && f.width == 1).foldl (fun s f => s.wr (rowField r off inst f) 0) s
  else s

/-! ### Which instances a register shows -/

/-- Does a selection name an instance? Others show zeros, and their registers ignore writes. -/
def winShows : Win → Nat → Bool
  | .seam, i => decide (i < 6) || decide (512 ≤ i)
  | .link, i => decide (i < 22)
  | .calRes, i => calValid (i / 4096) (i % 4096)
  | .lane, i => decide (i < 9)
  | .engine, i => decide (i < 80)
  | .sensor, i => decide (i < 140)
  | .rail, i => decide (i < 20)
  | .loop, i => decide (i < 176)
  | _, _ => true

/-- A FUSED cluster's window holds CL_ID alone (R460). -/
def State.fusedAway (s : State) (off : Nat) : Bool :=
  decide (32 ≤ blockOf off) && s.rd (CL.ID.ROLE (clOf off)) == 3 && decide (off % 0x1000 ≠ CL.ID.base % 0x1000)

/-! ### Resets and accesses (R462, R466) -/

/-- The offsets that belong to a block (R460). -/
def mapped (off : Nat) : Bool :=
  decide (off < 0x130000) || (decide (0x200000 ≤ off) && decide (off < 0xA80000)) ||
  [0xB0, 0xC0, 0xC1, 0xD0, 0xE0, 0xF0].contains (off / 0x10000)

/-- Is a block in a reset that covers it? -/
def State.inReset (s : State) (b : Nat) : Bool :=
  (mainBlock b && !s.mainUp) || (s.sys.reset == some 2 && fabricBlock b) || (s.sys.reset == some 3 && computeBlock b)

/-- What the link reaches in LOCK_WAIT (R458). -/
def earlyOff (off : Nat) : Bool :=
  off == BOOT.RESET.base || off == BOOT.LOCK.base || (decide (0xE00040 ≤ off) && decide (off < 0xE00074))

/-- Does an access find its block, or the package, not ready? Log: DEDUCED 117. -/
def State.busyReset (s : State) (b : Bank) (off : Nat) : Bool :=
  s.inReset (blockOf off) ||
  (b == .link && s.phase != phDone && !(s.phase == phLockWait && earlyOff off))

/-- Why an access is answered with an error. -/
inductive AccErr
  | unaligned | unmapped | busy | parity
  deriving DecidableEq, Repr

/-- The checks of an access of `n` bytes. -/
def State.accCheck (s : State) (b : Bank) (off n : Nat) : Option AccErr :=
  if off % n ≠ 0 then some .unaligned
  else if !mapped off then some .unmapped
  else if s.busyReset b (off / 4 * 4) then some .busy
  else none

/-- An error response counted (R463). Log: DEDUCED 117. -/
def State.accError (s : State) (off : Nat) : AccErr → State
  | .unaligned => (s.bump GLB.ACC_ERR.UNALIGNED).raise GLB.EVENT.UNALIGNED sevWarning (leBytes 4 off)
  | .unmapped => (s.bump GLB.ACC_ERR.UNMAPPED).raise GLB.EVENT.UNMAPPED sevWarning (leBytes 4 off)
  | .busy => (s.bump GLB.ACC_ERR.BUSY_RESET).logOpen 0 7 sevWarning off
  | .parity => s.raise GLB.EVENT.CSR_FAULT sevWarning (leBytes 4 off)

/-! ### The mailbox (R469-R471) -/

/-- The wide registers whose value the state holds elsewhere brought up to date. Log: DESIGN CHOICE 116. -/
def State.refreshWide (s : State) (r : RegRow) (b : Nat) : State :=
  if r.base = GAUGE.NOW.base then s.wr GAUGE.NOW.TIME (hallTime s.now)
  else if r.base = GAUGE.SLOT.base then s.wr GAUGE.SLOT.SLOT (slotOf s.now)
  else if r.base = PB.NEXT_MAINT.base then s.wr PB.NEXT_MAINT.SLOT (s.nextMaint (slotOf s.now))
  else if r.base = GTH.VEC.base then
    let x := s.job (s.rd (GTH.VEC_SEL.JOB b))
    let v := if s.rd (GTH.VEC_SEL.KIND b) = 0 then x.done else x.bad
    s.wr (GTH.VEC.BITS 0) (v % 2 ^ 2000 / 2 ^ (128 * s.rd (GTH.VEC_SEL.CHUNK b)))
  else s

/-- GLB.MBX_SEL written: the register is sampled at once; its entry is removed where it presents one.
Log: DEDUCED 114. -/
def State.mbxSelect (s : State) (b : Bank) (off : Nat) : State :=
  match regAt off with
  | none => s.mbxStart b off 0 true
  | some (r, i) =>
    let blk := blockOf off
    let inst := s.instOf b.num r i
    if !r.wide ∨ s.inReset blk ∨ s.unsafeBlock blk ∨ s.fusedAway off then s.mbxStart b off 0 true
    else if r.base = TIO.CAP.base then s.selectCap (i.getD 0 0) b
    else if r.base = TIO.TP_TXQ.base then s.selectTxq (if i.getD 0 0 = 0 then .a else .b) b
    else if r.base = GTH.REC.base then s.selectRec b
    else if !winShows r.win inst then s.mbxStart b off 0 false
    else
      let s := s.refreshWide r b.num
      s.mbxStart b off (s.fieldsOf r off inst) false

/-- MBX_SELECT: `off` is what OFFSET names; its bits below 4 are not held. -/
def execMbxSelect (b : Bank) (off : BitVec 26) (s : State) : Result :=
  let o := off.toNat / 16 * 16
  if ¬ s.sys.vaux then .next s else .next (s.bySoft GLB.MBX_SEL.base b.num o fun s => s.mbxSelect b o)

/-- MBX_SAMPLE_DONE. Log: DEDUCED 114. -/
def execMbxSampleDone (b : Bank) (s : State) : Result :=
  let k := b.num
  match Tbl.look s.mbx k with
  | none => .next s
  | some x =>
    let s := { s with mbx := Tbl.del s.mbx k }
    let s := (List.range 4).foldl (fun s i => s.wr (GLB.MBX_D.DATA i k) (if x.err then 0 else bitsOf x.data (32 * i) 32)) s
    .next (((s.wr (GLB.MBX_VALID.VALID k) 1).wrB (GLB.MBX_VALID.ERR k) x.err).wr (GLB.MBX_VALID.OFFSET k) (x.off / 16))

/-! ### Writes and their effects (R473, R474), block by block -/

/-- GLB. -/
def State.glbWrite (s : State) (b : Bank) (r : RegRow) (off : Nat) (i : List Nat) (inst v : Nat) : State :=
  if r.base = GLB.MBX_SEL.base then s.mbxSelect b (bitsOf v 4 22 * 16)
  else if r.base = GLB.FAULT_CLR.base then s.faultClr (v % 64)
  else if r.base = GLB.CRC_CTRL.base then if bitOf v 0 then s.crcCommitCmd else s
  else if r.base = GLB.CRC_REF.base then s.crcRefWrite v
  else s.plainWrite r off i inst v

/-- GAUGE. -/
def State.gaugeWrite (s : State) (r : RegRow) (off : Nat) (i : List Nat) (inst v : Nat) : State :=
  if r.base = GAUGE.CTRL.base then
    let was := s.on GAUGE.CTRL.LOOP_HOLD
    let s := s.storeFields r off inst v
    if s.on GAUGE.CTRL.LOOP_HOLD = was then s else s.writeLoopHold !was
  else if r.base = GAUGE.CMD.base then
    if bitOf v 2 then s.cmdReseat else if bitOf v 1 then s.cmdTo .a else if bitOf v 0 then s.cmdTo .b else s
  else if r.base = GAUGE.LOOP_ACQ.base then s.writeGaugeCoef false v
  else if r.base = GAUGE.LOOP_TRK.base then s.writeGaugeCoef true v
  else s.plainWrite r off i inst v

/-- TIO. -/
def State.tioWrite (s : State) (r : RegRow) (off : Nat) (i : List Nat) (inst v : Nat) : State :=
  let n := i.getD 0 0
  if r.base = TIO.TPO_CTRL.base then s.tpoWriteCtrl n v
  else if r.base = TIO.TPO_START_LO.base then s.tpoWriteStart n false v
  else if r.base = TIO.TPO_START_HI.base then s.tpoWriteStart n true v
  else if r.base = TIO.TPO_FRAC.base then s.tpoWriteFrac n v
  else if r.base = TIO.TPO_PERIOD.base then s.tpoWritePeriod n v
  else if r.base = TIO.TP_CFG.base then (s.plainWrite r off i inst v).portState (if n = 0 then .a else .b)
  else s.plainWrite r off i inst v

/-- PB (R104-R107). -/
def State.pbWrite (s : State) (r : RegRow) (off : Nat) (i : List Nat) (inst v : Nat) : State :=
  if r.base = PB.TBL_INDEX.base ∨ r.base = PB.TBL_LO.base then
    if s.tblState = tbCommitted then s.frozen
    else if s.on PB.STATUS.LOAD_BUSY then s.pbRefuse
    else s.plainWrite r off i inst v
  else if r.base = PB.TBL_HI.base then s.writeTblHi v
  else if r.base = PB.TBL_CYCLE.base then s.writeLeafReg .cycle v
  else if r.base = PB.TBL_MAINT.base then s.writeLeafReg .maint v
  else if r.base = PB.TBL_ALIGN_LO.base then s.writeLeafReg .alignLo v
  else if r.base = PB.TBL_ALIGN_HI.base then s.writeLeafReg .alignHi v
  else if r.base = PB.CMD.base then
    if bitOf v 0 then s.pbLoad else if bitOf v 1 then s.pbCheck else if bitOf v 2 then s.pbClear
    else if bitOf v 3 then s.pbArm else if bitOf v 4 then s.pbCancel else s
  else s.plainWrite r off i inst v

/-- OPE. A port that is disabled stops; one enabled again is no longer failed. -/
def State.opeWrite (s : State) (r : RegRow) (off : Nat) (i : List Nat) (inst v : Nat) : State :=
  let e := i.getD 0 0
  let p := 4 * e + i.getD 1 0
  if r.base = OPE.CTRL.base then
    let was := s.rd (OPE.CTRL.PORT_EN e)
    let s := (s.plainWrite r off i inst v).portsOff fun l => l / 4 == e && bitOf was (l % 4) && !bitOf v (l % 4)
    { s with fab := { s.fab with failed := s.fab.failed.filter fun q => !(q / 4 == e && bitOf v (q % 4)) } }
  else if r.base = OPE.PROBE_CMD.base then s.writeProbe e v
  else if r.base = OPE.P_WARD0.base then s.writeWard p false v
  else if r.base = OPE.P_WARD1.base then s.writeWard p true v
  else if r.base = OPE.P_SPARE.base then s.writeSpare p v
  else s.plainWrite r off i inst v

/-- JIG. -/
def State.jigWrite (s : State) (b : Bank) (r : RegRow) (off : Nat) (i : List Nat) (inst v : Nat) : State :=
  if r.base = JIG.L_CMD.base then
    if bitOf v 0 then s.ringCommand b .hold else if bitOf v 1 then s.ringCommand b .release
    else if bitOf v 2 then s.ringCommand b .reset else if bitOf v 3 then s.ringCommand b .sweep
    else if bitOf v 4 then s.ringCommand b .jump else s
  else if r.base = JIG.L_GAIN.base then s.writeCoef inst false v
  else if r.base = JIG.L_DITH.base then s.writeCoef inst true v
  else if r.base = JIG.CMAT_CMD.base then
    if bitsOf v 4 4 ≠ 0 then s.cmatCommitCmd (bitsOf v 4 4) else s.cmatCopyCmd (v % 16)
  else s.plainWrite r off i inst v

/-- CAL, with re-cabling and the laser sources. -/
def State.calWrite (s : State) (r : RegRow) (off : Nat) (i : List Nat) (inst v : Nat) : State :=
  let n := i.getD 0 0
  if r.base = CAL.RCB_CMD.base then if bitOf v 0 then s.rcbArm else if bitOf v 1 then s.rcbCancel else s
  else if r.base = CAL.RCB_WARD_0.base then s.writeStage n false v
  else if r.base = CAL.RCB_WARD_1.base then s.writeStage n true v
  else if r.base = CAL.LSR_CMD.base then if bitOf v 1 then s.lsrForce n else if bitOf v 0 then s.lsrAbort n else s
  else if r.base = CAL.CMD.base then
    if bitOf v 0 then s.calRunCmd (bitsOf v 28 4) (bitsOf v 16 12)
    else
      let s := s.storeFields r off inst v
      if bitOf v 1 then s.calSave else if bitOf v 2 then s.calRestore else if bitOf v 3 then s.calAbort else s
  else s.plainWrite r off i inst v

/-- CU, with the routing tables. A link that is disabled goes DOWN. Log: DEDUCED 118. -/
def State.cuWrite (s : State) (r : RegRow) (off : Nat) (i : List Nat) (inst v : Nat) : State :=
  let k := i.getD 0 0
  if r.base = CU.CTRL.base then
    let s := s.plainWrite r off i inst v
    if s.on (CU.CTRL.EN k) ∨ s.cuSt k = cuDown then s else s.cuEnter k cuDown
  else if r.base = CU.CMD.base then
    let s := s.storeFields r off inst v
    if bitOf v 0 then s.cuSpare k (bitsOf v 4 4) (bitOf v 8) else if bitOf v 1 then s.cuBack k (bitsOf v 4 4)
    else if bitOf v 2 then s.cuEnter k cuDown else s
  else s.plainWrite r off i inst v

/-- A cluster's registers. -/
def State.clWrite (s : State) (r : RegRow) (off : Nat) (i : List Nat) (inst v : Nat) : State :=
  let p := clOf off
  if r.base = CL.CMD.base then
    if bitOf v 3 then s.clStopCmd p else if bitOf v 2 then s.clUngateCmd p else if bitOf v 1 then s.clGateCmd p
    else if bitOf v 0 then s.clQuarantineCmd p else s
  else s.plainWrite r off i inst v

/-- MEM. -/
def State.memWrite (s : State) (r : RegRow) (off : Nat) (i : List Nat) (inst v : Nat) : State :=
  if r.base = MEM.RING_BASE_LO.base then s.ringWrite inst .baseLo v
  else if r.base = MEM.RING_BASE_HI.base then s.ringWrite inst .baseHi v
  else if r.base = MEM.RING_CFG.base then s.ringWrite inst .cfg v
  else if r.base = MEM.RING_RELEASE.base then s.ringRelease inst (bitsOf v 0 11)
  else if r.base = MEM.FELL_BASE_LO.base then s.fellWrite inst .baseLo v
  else if r.base = MEM.FELL_BASE_HI.base then s.fellWrite inst .baseHi v
  else if r.base = MEM.FELL_LEN.base then s.fellWrite inst .len v
  else if r.base = MEM.FELL_CFG.base then s.fellWrite inst .cfg v
  else if r.base = MEM.FELL_CUR.base then s.fellWrite inst .cur v
  else if r.base = MEM.FELL_STRIPE.base then s.fellWrite inst .stripe v
  else s.plainWrite r off i inst v

/-- CPY (R364). -/
def State.cpyWrite (s : State) (r : RegRow) (off : Nat) (i : List Nat) (inst v : Nat) : State :=
  let n := i.getD 0 0
  if r.base = CPY.E_PROD.base then s.prodWrite n v
  else if (r.base = CPY.E_RING_LO.base ∨ r.base = CPY.E_RING_HI.base) ∧
      s.rd (CPY.E_PROD.PROD n) ≠ s.rd (CPY.E_CONS.CONS n) then s.refuseWrite off
  else s.plainWrite r off i inst v

/-- ULK. A link that is disabled goes DOWN. -/
def State.ulkWrite (s : State) (r : RegRow) (off : Nat) (i : List Nat) (inst v : Nat) : State :=
  if r.base = ULK.CTRL.base then
    let s := s.plainWrite r off i inst v
    if s.on ULK.CTRL.EN then s else s.ulOff
  else if r.base = ULK.CMD.base then if bitOf v 0 then s.ulRetrain else s
  else if r.base = ULK.COH_WIN.base then s.setWindow (bitsOf v 16 16) (bitsOf v 0 16)
  else s.plainWrite r off i inst v

/-- HLT. -/
def State.hltWrite (s : State) (r : RegRow) (off : Nat) (i : List Nat) (inst v : Nat) : State :=
  if r.base = HLT.CTR_CMD.base then if bitOf v 0 then s.snapStart else if bitOf v 1 then s.ctrClear else s
  else if r.base = HLT.LOG_CMD.base then if bitOf v 0 then s.flushStart else if bitOf v 1 then s.dumpStart else s
  else if r.base = HLT.PATCH_NOTE.base then
    let s := s.storeFields r off inst v
    if bitOf v 0 then s.noteAdd else s
  else if r.base = HLT.CTR_CFG.base then s.ctrConfig (i.getD 0 0) v
  else s.plainWrite r off i inst v

/-- BOOT. -/
def State.bootWrite (s : State) (r : RegRow) (off : Nat) (i : List Nat) (inst v : Nat) : State :=
  if r.base = BOOT.LOCK.base then if bitOf v 0 then s.lockSet else s
  else if r.base = BOOT.RESET.base then s.resetCmd (bitsOf v 16 16) (v % 4)
  else if r.base = BOOT.CHN_CMD.base then
    if bitOf v 0 then s.chainCmd (bitsOf v 24 8) (bitsOf v 8 8) else s.storeFields r off inst v
  else if r.base = BOOT.OPKEY.base then
    let s := s.storeFields r off inst v
    if bitOf v 0 then s.fuseKey else s
  else s.plainWrite r off i inst v

/-- PWR. -/
def State.pwrWrite (s : State) (r : RegRow) (off : Nat) (i : List Nat) (inst v : Nat) : State :=
  if r.base = PWR.CMD.base then
    if bitOf v 0 then s.pwActiveCmd else if bitOf v 1 then s.pwHushCmd else if bitOf v 2 then s.pwDarkCmd else s
  else s.plainWrite r off i inst v

/-- A register written, after the checks that all share. Log: DESIGN CHOICE 24. -/
def State.regWrite (s : State) (b : Bank) (r : RegRow) (off : Nat) (i : List Nat) (inst v : Nat) : State :=
  match r.block with
  | 0 => s.glbWrite b r off i inst v
  | 1 => s.gaugeWrite r off i inst v
  | 2 => s.tioWrite r off i inst v
  | 3 => s.pbWrite r off i inst v
  | 4 => s.opeWrite r off i inst v
  | 8 => s.jigWrite b r off i inst v
  | 9 => s.calWrite r off i inst v
  | 10 => s.cuWrite r off i inst v
  | 17 => s.cpyWrite r off i inst v
  | 19 => s.memWrite r off i inst v
  | 20 => s.ulkWrite r off i inst v
  | 23 => s.hltWrite r off i inst v
  | 24 => s.bootWrite r off i inst v
  | 25 => s.pwrWrite r off i inst v
  | 32 => s.clWrite r off i inst v
  | _ => s.plainWrite r off i inst v

/-! ### Posted writes (R472) -/

/-- A write of a WP field accepted, or dropped while one is on its way. Log: DEDUCED 115. -/
def State.postWrite (s : State) (d off v : Nat) : State :=
  if s.on (ED.STATUS.BUSY d) then
    let s := (s.bump (ED.COUNTS.DROPPED d)).bump GLB.ACC_ERR.DROPPED
    (s.raise (ED.EVENT.DROPPED d)).raise GLB.EVENT.DROPPED
  else (s.setSys { s.sys with posted := Tbl.set s.sys.posted d (off, v) }).wr (ED.STATUS.BUSY d) 1

/-- POSTED_WRITE_DONE. Log: DEDUCED 115. -/
def execPostedWriteDone (d : Fin 2) (s : State) : Result :=
  match Tbl.look s.sys.posted d with
  | none => .next s
  | some (off, v) =>
    let s := (s.setSys { s.sys with posted := Tbl.del s.sys.posted d }).wr (ED.STATUS.BUSY d) 0
    match regAt off with
    | none => .next s
    | some (r, i) =>
      let inst := s.instOf 0 r i
      .next (s.bySoft off inst v fun s => s.plainWrite r off i inst v)

/-! ### A write taken -/

/-- A 32-bit write that its block takes. -/
def State.takeWrite (s : State) (b : Bank) (off v : Nat) : State :=
  match regAt off with
  | none => s
  | some (r, i) =>
    let inst := s.instOf b.num r i
    if r.wide ∨ s.fusedAway off ∨ !winShows r.win inst then s
    else if r.fields.any fun f => f.acc == .sq then s.sqClear r off inst (v / 2 ^ 24)
    else if r.fields.any fun f => f.acc == .wp then s.postWrite (blockOf off - 21) off v
    else if !r.fields.any fun f => accWritable f.acc || f.acc == .ws then s
    else
      let w := s.unlocked r off inst v
      let s := if s.violates r off inst v then s.lockViol off else s
      if r.base ≠ BOOT.RESET.base ∧ 2 ≤ strobes r w then s.refuseWrite off
      else s.bySoft off inst w fun s => s.regWrite b r off i inst w

/-- SQ_CLEAR: `seq` written to bits [31:24] of an SQ register. -/
def execSqClear (b : Bank) (off : BitVec 26) (seq : BitVec 8) (s : State) : Result :=
  match regAt off.toNat with
  | none => .next s
  | some (r, i) =>
    let inst := s.instOf b.num r i
    if ¬ s.sys.vaux ∨ s.fusedAway off.toNat ∨ !winShows r.win inst ∨ !r.fields.any (fun f => f.acc == .sq) then .next s
    else .next (s.sqClear r off.toNat inst seq.toNat)

/-- A write access of at most 32 bits. -/
def State.write32 (s : State) (b : Bank) (off n v : Nat) : State × Option AccErr :=
  match s.accCheck b off n with
  | some e => (s.accError off e, some e)
  | none =>
    if n < 4 then ((s.bump GLB.ACC_ERR.NARROW_WR).raise GLB.EVENT.NARROW_WR 0 (leBytes 4 off), none)
    else (s.takeWrite b off v, none)

/-- A write access of `n` bytes; one of 8 is two of 4, the lower first. -/
def State.csrWrite (s : State) (b : Bank) (off n v : Nat) : State × Option AccErr :=
  if n = 8 ∧ off % 8 = 0 then
    let x := s.write32 b off 4 (v % 2 ^ 32)
    let y := x.1.write32 b (off + 4) 4 (bitsOf v 32 32)
    (y.1, if x.2.isSome then x.2 else y.2)
  else s.write32 b off n (v % 2 ^ 32)

/-- CSR_WRITE: a requester's write of 1, 2, 4 or 8 bytes. Log: DESIGN CHOICE 24. -/
def execCsrWrite (b : Bank) (off : BitVec 26) (size : BitVec 2) (value : BitVec 64) (s : State) : Result :=
  if ¬ s.sys.vaux then .next s else .next (s.csrWrite b off.toNat (2 ^ size.toNat) value.toNat).1

/-! ### Reads -/

/-- The worn leaf's position brought up to date. -/
def State.showPos (s : State) : State :=
  s.wr PB.STATUS.POS (if s.on PB.STATUS.WORN_VALID then
    cycleSlot (s.rd PB.WORN_CYCLE.LEN) (s.rd PB.WORN_ALIGN.ALIGN) (slotOf s.now) else 0)

/-- What a register shows of state that is held elsewhere, or is measured, brought up to date; a measurement whose value
the spec does not give is a free value. Log: DESIGN CHOICE 116. -/
def State.refresh (s : State) (r : RegRow) (off : Nat) (i : List Nat) (inst : Nat) : State :=
  let n := i.getD 0 0
  let free (s : State) (f : Field) (m : Nat) : State := let d := s.draw f.key; d.2.wr f (d.1 % m)
  if r.base = PB.STATUS.base then s.showPos
  else if r.base = JIG.STATUS.base then
    let count (p : Nat → Bool) : Nat := ((List.range 176).filter p).length
    let s := s.wr JIG.STATUS.N_LOCKED (count fun l => s.ringSt l == rgLocked)
    let s := s.wr JIG.STATUS.N_FAULT (count fun l => s.ringSt l == rgFault)
    let s := s.wr JIG.STATUS.N_UNVER (count fun l => s.ringSt l == rgLocked && !s.on (JIG.L_STAT.VERIFIED l))
    free s JIG.STATUS.LOAD_MAX 256
  else if r.base = CAL.RCB_STAT.base then
    s.wr CAL.RCB_STAT.POS (if s.rcState = rcRunning then slotOf s.now - s.rcSlot else 0)
  else if r.base = CAL.LSR_Q.base then
    let es := s.echoes n
    let s := s.wrSat (CAL.LSR_Q.PAIRS n) es.length
    let s := s.wrSat (CAL.LSR_Q.BELOW_WARN n) (es.filter fun q => decide (q < s.rd (CAL.LSR_QCFG.Q_WARN n))).length
    s.wrSat (CAL.LSR_Q.BELOW_SPARE n) (es.filter fun q => decide (q < s.rd (CAL.LSR_QCFG.Q_SPARE n))).length
  else if r.base = CAL.ENG_T.base then s.showInt (CAL.ENG_T.DT n) (s.engineDelta n)
  else if r.base = CAL.RES.base then
    match Tbl.look s.fab.cal.outAt inst with
    | some t => s.wrSat (CAL.RES.AGE inst) ((s.now - t) / Config.ns 1000000000)
    | none => s
  else if r.base = OPE.P_FIFO.base then free s (OPE.P_FIFO.FILL (4 * n + i.getD 1 0)) 513
  else if r.base = CL.RATE.base then free s (CL.RATE.MSPS (clOf off)) 65536
  else if r.base = MEM.CH_STAT.base then free (free s (MEM.CH_STAT.PPR_LEFT inst) 5) (MEM.CH_STAT.REF_RATE inst) 3
  else if r.base = PWR.RAIL_STAT.base then
    let s := s.wrB (PWR.RAIL_STAT.GOOD inst) (bitOf (s.rd PWR.STATE.RAIL_GOOD) inst)
    let s := free s (PWR.RAIL_STAT.MV inst) 65536
    if inst < 10 then free s (PWR.RAIL_STAT.AMPS inst) 32768 else s
  else if r.base = MEM.RING_CLAIM.base then s.claimRead inst
  else if r.base = GLB.CRC_NOW.base ∨ r.base = GLB.CRC_REF.base then s.crcFold
  else s

/-- The 32 bits that a register reads. TBL_LO and TBL_HI read the entry at INDEX. Log: DESIGN CHOICE 116. -/
def State.shown (s : State) (r : RegRow) (off inst : Nat) : Nat :=
  let entry := Tbl.lookD s.book.table.entries 0 (s.rd PB.TBL_INDEX.INDEX)
  if r.base = PB.TBL_LO.base then entry % 2 ^ 32
  else if r.base = PB.TBL_HI.base then entry / 2 ^ 32
  else s.fieldsOf r off inst

/-- The 32-bit word at an offset read, with the side effects of the read. -/
def State.readWord (s : State) (b : Bank) (off : Nat) : State × Except AccErr Nat :=
  match regAt off with
  | none => (s, .ok 0)
  | some (r, i) =>
    let inst := s.instOf b.num r i
    if r.wide ∨ s.fusedAway off ∨ !winShows r.win inst then (s, .ok 0)
    else
      let s := s.checkReg r off inst
      if !s.compat ∧ s.regBad off inst then (s.accError off .parity, .error .parity)
      else
        let s := s.refresh r off i inst
        let v := s.shown r off inst
        (if r.base = HLT.MC_LOAD.base then s.wr HLT.MC_LOAD.PEAK 0 else s, .ok v)

/-- A read access of at most 32 bits: the addressed bytes. -/
def State.read32 (s : State) (b : Bank) (off n : Nat) : State × Except AccErr Nat :=
  match s.accCheck b off n with
  | some e => (s.accError off e, .error e)
  | none =>
    let x := s.readWord b (off / 4 * 4)
    (x.1, x.2.map fun v => bitsOf v (8 * (off % 4)) (8 * n))

/-- A read access of `n` bytes; one of 8 is two of 4, the lower first. -/
def State.csrRead (s : State) (b : Bank) (off n : Nat) : State × Except AccErr Nat :=
  if n = 8 ∧ off % 8 = 0 then
    let x := s.read32 b off 4
    let y := x.1.read32 b (off + 4) 4
    (y.1, match x.2, y.2 with
      | .ok a, .ok c => .ok (a + 2 ^ 32 * c)
      | .error e, _ => .error e
      | _, .error e => .error e)
  else s.read32 b off n

/-! ### The companion's accesses (R388, R396, R463) -/

/-- The reason of an ERR. -/
def AccErr.reason : AccErr → Nat
  | .busy => 5
  | _ => 4

/-- Does the link serve a register access? In recovery it does not. -/
def State.csrServed (s : State) (tag : Nat) (k : State → State) : State :=
  if s.ulState ≠ ulUp then s else if s.recovering then s.errMsg tag 5 else k s

/-- The answer to a register access, where the access has not taken the link down. -/
def State.csrAnswer (s : State) (m : Msg) : State := if s.ulState = ulUp then s.sendMsg m else s

/-- CSR_WR. -/
def execCsrWr (tag : BitVec 12) (off : BitVec 26) (size : BitVec 2) (value : BitVec 64) (s : State) : Result :=
  .next (s.csrServed tag.toNat fun s =>
    match s.csrWrite .link off.toNat (2 ^ size.toNat) value.toNat with
    | (s, none) => s.csrAnswer { op := 0x23, tag := tag.toNat }
    | (s, some e) => s.errMsg tag.toNat e.reason)

/-- CSR_RD: `ups` are upsets of registers since they were last checked. -/
def execCsrRd (tag : BitVec 12) (off : BitVec 26) (size : BitVec 2) (ups : List RegUpset) (s : State) : Result :=
  .next (s.csrServed tag.toNat fun s =>
    match (ups.foldl State.upsetReg s).csrRead .link off.toNat (2 ^ size.toNat) with
    | (s, .ok v) => s.csrAnswer { op := 0x25, tag := tag.toNat, data := leBytes 8 v }
    | (s, .error e) => s.errMsg tag.toNat e.reason)

end Sys2Proof.Machine
end

