-- ==== Sys2Proof/Machine/Firmware.lean ====
section
/-! DEFINITION. The service lines, alterations, attestation and the erasure of a failed slot (R512-R518, R522-R524). -/
namespace Sys2Proof.Machine
open Sys2Proof

/-- The service record replaced. -/
def State.setSvc (s : State) (x : Svc) : State := { s with sys := { s.sys with svc := x } }

/-- The results of a request (R513). -/
def svBusy : Nat := 0
def svOk : Nat := 1
def svRefusedBusy : Nat := 2
def svBadfmt : Nat := 3
def svBase : Nat := 4
def svRange : Nat := 5
def svNvm : Nat := 6
def svStale : Nat := 7

/-! ### The request and reply lines (R513) -/

/-- Fields of a request line. -/
def rqSeq (l : List Byte) : Nat := bytesAt l 0 4
def rqCmd (l : List Byte) : Nat := bytesAt l 4 1
def rqAddr (l : List Byte) : Nat := bytesAt l 8 8
def rqLen (l : List Byte) : Nat := bytesAt l 16 4

/-- The reply line, written with one PWR of 64 bytes. -/
def State.reply (s : State) (seq cmd result len : Nat) : State :=
  let l := leBytes 4 seq ++ leBytes 1 cmd ++ leBytes 1 result ++ leBytes 1 (s.rd ULK.STAT.EPOCH) ++ leBytes 1 0 ++
    leBytes 8 (tns s.now) ++ leBytes 4 len
  s.request { write := true, addr := s.noticeBase + 0x1040, len := 64, who := .posted, data := padTo 64 l }

/-- A reply to a request line. Log: DEDUCED 109. -/
def State.answer (s : State) (l : List Byte) (result len : Nat) : State := s.reply (rqSeq l) (rqCmd l) result len

/-- A request line that has been read: acted on once for each new SEQ. A CMD that is not listed ends BADFMT.
Log: DEDUCED 109. -/
def State.takeLine (s : State) (l : List Byte) : State :=
  let x := s.sys.svc
  let q := rqSeq l
  let s := s.setSvc { x with last := some q }
  match x.last with
  | none => s
  | some p =>
    if p = q then s
    else if rqCmd l = 0 ∨ 3 < rqCmd l then s.answer l svBadfmt 0
    else s.setSvc { s.sys.svc with due := some l }

/-- The poll in progress looked at. Log: DEDUCED 109. -/
def State.takePoll (s : State) : State :=
  if s.sys.svc.due.isSome ∨ (s.move mvPoll).isNone then s
  else
    match s.moveEnd mvPoll [] with
    | (s, .done l) => s.takeLine l
    | (s, _) => s

/-- SERVICE_POLL: every 10 ms; class E work, which shedding puts off. -/
def execServicePoll (t : Nat) (s : State) : Result :=
  let s := s.advance t
  if ¬ s.noticesOn then .next s
  else if s.on HLT.MC_LOAD.SHED_E then .next s.deferE
  else
    let s := s.takePoll
    if s.sys.svc.due.isSome ∨ (s.move mvPoll).isSome then .next s
    else .next (s.moveBegin mvPoll { write := false, addr := 0x800000000000 + s.noticeBase + 0x1000, len := 64 })

/-- The zero fields of a request are zero, and its address is a multiple of 64. Log: DEDUCED 109. -/
def rqClean (l : List Byte) : Bool :=
  zerosAt l 5 3 && zerosAt l 20 4 && zerosAt l 56 8 && rqAddr l % 64 == 0 && (rqCmd l == 2 || zerosAt l 24 32) &&
    (rqCmd l == 1 || rqLen l == 0)

/-- Do `n` bytes at an address lie in LPDDR5, or in companion memory? -/
def State.svcRegion (s : State) (a n : Nat) : Bool :=
  (match s.region a with | .lpddr => true | .companion _ => true | _ => false) && s.inRegion a n

/-! ### Alterations (R514-R518) -/

/-- The base image of a target: the booted firmware, or the cutting list in use. -/
def State.altBase (s : State) (list : Bool) : List Byte :=
  if list then s.sys.boot.list
  else
    let f := s.sys.nvm.fw (s.rd BOOT.STATUS.FW_SLOT)
    nvTake (fwLength (nvTake 64 f)) f

/-- The operations applied (R515): the bytes that they give after `out`, at most `cap` in all; none where one is wrong. -/
def altRun (base : List Byte) (cap : Nat) : Nat → List Byte → List Byte → Option (List Byte)
  | 0, l, out => if l = [] then some out else none
  | n + 1, l, out =>
    let opc := bytesAt l 0 1
    let len := bytesAt l 4 4
    let off := bytesAt l 8 4
    let rest := l.drop 16
    if l.length < 16 ∨ !zerosAt l 2 2 ∨ !zerosAt l 12 4 ∨ cap < out.length + len then none
    else if opc = 3 then
      if off ≠ 0 then none else altRun base cap n rest (out ++ List.replicate len (BitVec.ofNat 8 (bytesAt l 1 1)))
    else if ¬ zerosAt l 1 1 ∨ (len ≠ 0 ∧ base.length < off + len) then none
    else
      let b := (base.drop off).take len
      if opc = 1 then altRun base cap n rest (out ++ b)
      else if opc = 2 then
        let pad := (len + 7) / 8 * 8
        if rest.length < pad ∨ !zerosAt rest len (pad - len) then none
        else altRun base cap n (rest.drop pad) (out ++ List.zipWith (· + ·) b (rest.take len))
      else none

/-- An alteration checked (R516): its result, with whether it is a cutting list; or the RESULT that refuses it.
Log: DEDUCED 109. -/
def State.altCheck (s : State) (l : List Byte) (len : Nat) : Nat × Bool × List Byte :=
  let target := bytesAt l 6 1
  let list := target == 2
  let outLen := bytesAt l 16 4
  let bad : Nat × Bool × List Byte := (svBadfmt, list, [])
  if l.length < 84 ∨ bytesAt l 0 4 ≠ 0x4C414A46 ∨ bytesAt l 4 2 ≠ 1 ∨ (target ≠ 1 ∧ target ≠ 2) ∨ !zerosAt l 7 1 ∨ !zerosAt l 68 12 ∨
      bytesAt l 12 4 ≠ len ∨ (if list then 0x800000 else 0x1000000) < outLen ∨
      bytesAt l (len - 4) 4 ≠ crc32c (l.take (len - 4)) then bad
  else
    let base := s.altBase list
    match altRun base outLen (bytesAt l 8 4) ((l.take (len - 4)).drop 80) [] with
    | none => bad
    | some out =>
      if out.length ≠ outLen then bad
      else if sha384 base ≠ slice l 20 48 then (svBase, list, [])
      else (svOk, list, out)

/-- The slot that an alteration writes: the one not in use. -/
def State.altSlot (s : State) (list : Bool) : Nat :=
  1 - (if list then s.rd BOOT.STATUS.CL_SLOT else s.rd BOOT.STATUS.FW_SLOT)

/-- A slot's bytes replaced. -/
def State.putSlot (s : State) (list : Bool) (i : Nat) (l : List Byte) : State :=
  let n := s.sys.nvm
  s.setNvm (match list, i with
    | false, 0 => { n with fw0 := l }
    | false, _ => { n with fw1 := l }
    | true, 0 => { n with cl0 := l }
    | true, _ => { n with cl1 := l })

/-- A slot's bytes. Log: PRESUMED 106. -/
def State.slotBytes (s : State) (list : Bool) (i : Nat) : List Byte := if list then s.sys.nvm.cl i else s.sys.nvm.fw i

/-- The first sector of a slot's bytes erased. Log: PRESUMED 106. -/
def eraseFirst (l : List Byte) : List Byte := List.replicate 4096 0xFF ++ l.drop 4096

/-- Bytes written over a slot's, whole sectors at a time. Log: PRESUMED 106. -/
def putSectors (out l : List Byte) : List Byte :=
  let n := (out.length + 4095) / 4096 * 4096
  nvTake n out ++ l.drop n

/-- An alteration that has been read: refused, or begun to be written. Log: DEDUCED 110. -/
def State.altStart (s : State) (rq l : List Byte) : State :=
  let s := s.setSvc { s.sys.svc with fetch := none }
  match s.altCheck l (rqLen rq) with
  | (r, list, out) =>
    if r ≠ svOk then s.answer rq r 0
    else
      let i := s.altSlot list
      let s := s.putSlot list i (eraseFirst (s.slotBytes list i))
      let s := if ¬ list ∧ s.sys.boot.erase = some i then s.setBoot { s.sys.boot with erase := none } else s
      s.setSvc { s.sys.svc with alter := some { seq := rqSeq rq, list := list, out := out } }

/-- The alteration being read looked at. -/
def State.altFetch (s : State) (ups : List Upset) : State :=
  match s.sys.svc.fetch with
  | none => s
  | some rq =>
    match s.moveEnd mvAlter ups with
    | (s, .pending) => s
    | (s, .failed) => (s.setSvc { s.sys.svc with fetch := none }).answer rq svRange 0
    | (s, .done l) => s.altStart rq l

/-- An ALTER request accepted or refused. -/
def State.altAccept (s : State) (rq : List Byte) : State :=
  let s := s.setSvc { s.sys.svc with due := none }
  if s.sys.svc.alter.isSome ∨ s.sys.svc.fetch.isSome then s.answer rq svRefusedBusy 0
  else
    let s := s.answer rq svBusy 0
    if !rqClean rq then s.answer rq svBadfmt 0
    else if !s.svcRegion (rqAddr rq) (rqLen rq) then s.answer rq svRange 0
    else
      let s := s.setSvc { s.sys.svc with fetch := some rq }
      s.moveBegin mvAlter { write := false, addr := rqAddr rq, len := rqLen rq }

/-- The request that waits, if it has a CMD. -/
def State.dueOf (s : State) (cmd : Nat) : Option (List Byte) := s.sys.svc.due.filter fun l => rqCmd l == cmd

/-- ALTER: a request that has been read is accepted or refused, and an alteration that has been read is checked. -/
def execAlter (ups : List Upset) (t : Nat) (s : State) : Result :=
  let s := s.advance t
  if ¬ s.mcRuns then .next s
  else
    let s := s.takePoll
    match s.dueOf 1 with
    | some rq => .next ((s.altAccept rq).altFetch ups)
    | none => .next (s.altFetch ups)

/-- ALTER_COMPLETE: the result has been written, and `good` if every sector read back. -/
def execAlterComplete (good : Bool) (t : Nat) (s : State) : Result :=
  let s := s.advance t
  match s.sys.svc.alter with
  | none => .next s
  | some a =>
    let i := s.altSlot a.list
    let old := s.slotBytes a.list i
    let new := putSectors a.out old
    let s := s.setSvc { s.sys.svc with alter := none }
    if ¬ good then .next ((s.putSlot a.list i (eraseFirst new)).reply a.seq 1 svNvm 0)
    else if clGen (nvTake 24 a.out) ≤ clGen (s.altBase a.list) then
      .next ((s.putSlot a.list i (eraseFirst new)).reply a.seq 1 svStale 0)
    else .next ((s.putSlot a.list i new).reply a.seq 1 svOk a.out.length)

/-! ### Identity (R522, R523) -/

/-- The measurement of the calibration image in use. -/
def State.calMeasure (s : State) : List Byte :=
  match s.fab.cal.image with
  | some x => sha384 (s.imageBytes x)
  | none => List.replicate 48 0

/-- The report's first 272 bytes. -/
def State.reportBody (s : State) (nonce : List Byte) : List Byte :=
  let f := s.altBase false
  leBytes 4 0x54414A46 ++ leBytes 2 1 ++ leBytes 2 0 ++ leBytes 4 368 ++ leBytes 4 Config.romVer ++
    leBytes 16 Config.serial ++ leBytes 2 (s.rd BOOT.NODE.NODE_ID) ++ leBytes 1 (s.rd BOOT.STATUS.FW_SLOT) ++
    leBytes 1 (s.rd BOOT.STATUS.CL_SLOT) ++ leBytes 4 (bytesAt f 8 4) ++ leBytes 8 (tns s.now) ++ padTo 48 Config.romDigest ++
    padTo 48 (trailDigest f (fwLength f)) ++ padTo 48 (trailDigest s.sys.boot.list (clLength s.sys.boot.list)) ++
    s.calMeasure ++ padTo 32 nonce

/-- A result begun to be written to the request's address; BUSY first. -/
def State.resultBegin (s : State) (rq out : List Byte) : State :=
  let s := (s.setSvc { s.sys.svc with due := none }).answer rq svBusy 0
  if !rqClean rq then s.answer rq svBadfmt 0
  else if !s.svcRegion (rqAddr rq) out.length then s.answer rq svRange 0
  else
    let s := s.setSvc { s.sys.svc with result := some (rqSeq rq, rqCmd rq, out.length) }
    s.moveBegin mvResult { write := true, addr := rqAddr rq, len := out.length, data := out }

/-- The result being written looked at. Log: DEDUCED 109. -/
def State.resultEnd (s : State) : State :=
  match s.sys.svc.result with
  | none => s
  | some (q, c, n) =>
    match s.moveEnd mvResult [] with
    | (s, .pending) => s
    | (s, .failed) => (s.setSvc { s.sys.svc with result := none }).reply q c svRange 0
    | (s, .done _) => (s.setSvc { s.sys.svc with result := none }).reply q c svOk n

/-- ATTEST: a request is accepted and its report written, or one being written ends. -/
def execAttest (t : Nat) (s : State) : Result :=
  let s := s.advance t
  if ¬ s.mcRuns then .next s
  else
    let s := s.takePoll.resultEnd
    match s.dueOf 2, s.sys.svc.result with
    | some rq, none =>
      let b := s.reportBody (slice rq 24 32)
      let d := s.drawMany
      .next (d.2.resultBegin rq (b ++ padTo 96 (Config.identitySig d.1 b))).resultEnd
    | _, _ => .next s

/-- CERT: a request is accepted and the certificate copied, or a copy ends. -/
def execCert (t : Nat) (s : State) : Result :=
  let s := s.advance t
  if ¬ s.mcRuns then .next s
  else
    let s := s.takePoll.resultEnd
    match s.dueOf 3, s.sys.svc.result with
    | some rq, none => .next (s.resultBegin rq (Config.certificate.take 4096)).resultEnd
    | _, _ => .next s

/-! ### A failed firmware slot (R512) -/

/-- FW_SLOT_ERASE: after BRINGUP the first sector of the slot marked is erased. Log: DEDUCED 110. -/
def execFwSlotErase (t : Nat) (s : State) : Result :=
  let s := s.advance t
  match s.sys.boot.erase with
  | none => .next s
  | some i =>
    if s.phase = phDone ∨ s.phase = phLockWait then
      .next ((s.putSlot false i (eraseFirst (s.slotBytes false i))).setBoot { s.sys.boot with erase := none })
    else .next s

end Sys2Proof.Machine
end

