-- ==== Sys2Proof/Machine/Frame.lean ====
section
/-! DEFINITION. The frame boundary (R60 and what other chapters measure by the frame), and telemetry (R506). -/
namespace Sys2Proof.Machine
open Sys2Proof

/-! ### The figures of 16 frames (R145, R159, R281) -/

/-- Figures of the 16 frames before frame `f`. -/
def lastFrames (f : Nat) (l : List (Nat × Nat × Nat)) : List (Nat × Nat × Nat) := l.filter fun x => decide (f ≤ x.1 + 16)

/-- The quality that figures give. Log: DEDUCED 85. -/
def framesQuality (l : List (Nat × Nat × Nat)) : Nat := qualityOf (l.map fun x => x.2.1).sum (l.map fun x => x.2.2).sum

/-- Is a frame one of the 16 before frame `f`? -/
def within16 (f : Nat) : Option Nat → Bool
  | some a => decide (f ≤ a + 16)
  | none => false

/-- What a port knows of a sender index at the boundary that opens frame `f`. QRX keeps its value while nothing is
received. Log: DEDUCED 85. -/
def State.pairFrame (s : State) (f p j : Nat) : State :=
  let x := s.pair p j
  let l := lastFrames f x.bits
  let s := s.setPair p j { x with bits := l }
  let s := if l = [] then s else s.wr (OPE.P_QUAL.QRX p j) (framesQuality l)
  (s.wrB (OPE.P_QUAL.RX_VALID p j) (within16 f x.framedAt)).wrB (OPE.P_QUAL.TX_VALID p j) (within16 f x.echoAt)

/-- The age of a phase cache entry. -/
def State.cacheAge (s : State) (p j : Nat) : State :=
  if s.on (OPE.P_PC.VALID p j) then s.wrSat (OPE.P_PC.AGE p j) (s.rd (OPE.P_PC.AGE p j) + 1) else s

/-- A physical lane's quality, and the frames in a row in which it reads below 50. An echo that has not arrived reads 0
and does not count. Log: DEDUCED 84, 85. -/
def State.laneFrame (s : State) (f k i : Nat) : State :=
  let x := s.cuLink k
  let l := lastFrames f (Tbl.lookD x.bits [] i)
  let q := framesQuality l
  let e := s.rd (CU.LANE_STAT.QTX k i)
  let low := s.cuUp k && ((!l.isEmpty && decide (q < 50)) || (e != 0 && decide (e < 50)))
  let bits := Tbl.put x.bits [] i l
  let run := Tbl.put x.wornRun 0 i (if low then Tbl.lookD x.wornRun 0 i + 1 else 0)
  let s := s.setCu k { x with bits := bits, wornRun := run }
  if l = [] then s else s.wr (CU.LANE_STAT.QRX k i) q

/-- A port's frames in a row with receive claims and no framed slot (R218). Log: DEDUCED 86. -/
def State.portFrame (s : State) (p : Nat) : State :=
  let n := if s.fab.lit.contains p then 0
    else if s.fab.claimed.contains p then Tbl.lookD s.fab.dead 0 p + 1 else Tbl.lookD s.fab.dead 0 p
  { s with fab := { s.fab with dead := Tbl.put s.fab.dead 0 p n } }

/-- The fabric's part of the boundary that opens frame `f`. -/
def State.fabricFrame (s : State) (f : Nat) (powers : List PortPower) : State :=
  let s := powers.foldl State.portPower s
  let s := (s.fab.pairs.map (·.1)).foldl (fun s k => s.pairFrame f (k / 32) (k % 32)) s
  let s := (List.range 512).foldl (fun s k => s.cacheAge (k / 32) (k % 32)) s
  let s := (List.range 54).foldl (fun s k => s.laneFrame f (k / 9) (k % 9)) s
  let s := ((s.refFrame f).laserFrame 0).laserFrame 1
  let s := (List.range 16).foldl (fun s p => s.portFrame p) s
  { s with fab := { s.fab with claimed := [], lit := [], sending := [] } }

/-! ### FRAME_BOUNDARY -/

/-- The boundary that opens frame `f`. While the Jig stands still the always-on instance runs the discipline (R415). -/
def State.frameBoundary (s : State) (f : Nat) (powers : List PortPower) : State :=
  let s := (s.advance (f * Config.frameTime)).gaugeFrame f
  let s := if s.mainUp then s.fabricFrame f powers else s.discipline.takeSteer
  s.count ctrFtd 0x002 0

/-- FRAME_BOUNDARY: frame `frame` opens; `powers` are the ports' powers over the frame before (R158). -/
def execFrameBoundary (frame : Nat) (powers : List PortPower) (s : State) : Result :=
  if ¬ s.sys.vaux ∨ frame < frameOf s.now then .next s else .next (s.frameBoundary frame powers)

/-! ### Telemetry (R506) -/

/-- BODY of class 16 + g: six counters. -/
def State.telCounters (s : State) (g : Nat) : List Byte :=
  (List.range 6).flatMap fun j =>
    let n := 6 * g + j
    if n < 112 then leBytes 8 (s.rd (HLT.CTR.COUNT n) + s.rd (HLT.CTR.OVF n) * 2 ^ 63) else leBytes 8 0

/-- BODY of class 35. -/
def State.telState (s : State) : List Byte :=
  [HLT.MC_LOAD.base, PWR.TEMP_MAX.base, GAUGE.EST_ERR.base, PB.STATUS.base].flatMap fun o => leBytes 4 (s.word o)

/-- TELEMETRY_TICK: PERIOD ms after the last. Shed, it is put off. Log: DEDUCED 97. -/
def execTelemetryTick (t : Nat) (s : State) : Result :=
  let s := s.advance t
  if ¬ s.mcRuns ∨ ¬ s.on HLT.TEL_CFG.EN ∨ s.now < s.sys.telAt + Config.ns (1000000 * s.rd HLT.TEL_CFG.PERIOD) then .next s
  else
    let s := s.setSys { s.sys with telAt := s.now }
    if s.on HLT.MC_LOAD.SHED_E then .next s.deferE
    else
      let s := (List.range 19).foldl (fun s g => s.compose (16 + g) (s.telCounters g)) s.showPos
      .next (s.compose 35 s.telState)

end Sys2Proof.Machine
end

