-- ==== Sys2Proof/Machine/Matrix.lean ====
section
/-! DEFINITION. Matrix and tile instructions (R294, R295, R304-R307, R326, R330, R336-R338). -/
namespace Sys2Proof.Machine
open Sys2Proof

/-! ### Fields -/

/-- TD of formats M and MT. -/
def fTD (w : Nat) : Nat := bitsOf w 49 3
/-- FA of format M. -/
def fFA (w : Nat) : Nat := bitsOf w 45 4
/-- FB of format M. -/
def fFB (w : Nat) : Nat := bitsOf w 41 4
/-- RA of format M. -/
def fRA (w : Nat) : Nat := bitsOf w 37 4
/-- RB of format M. -/
def fRB (w : Nat) : Nat := bitsOf w 33 4
/-- RSA of format M. -/
def fRSA (w : Nat) : Nat := bitsOf w 29 4
/-- RSB of format M. -/
def fRSB (w : Nat) : Nat := bitsOf w 25 4
/-- K of format M. -/
def fK (w : Nat) : Nat := bitsOf w 11 14
/-- ZERO of format M. -/
def fZero (w : Nat) : Bool := bitOf w 10
/-- V of format MT. -/
def fMV (w : Nat) : Nat := bitsOf w 43 6
/-- ROW of format MT. -/
def fRow (w : Nat) : Nat := bitsOf w 38 5
/-- AA of format MT. -/
def fMA (w : Nat) : Nat := bitsOf w 34 4

/-! ### Operands (R304, R336, R337) -/

/-- Bits of an element of a format code. Log: DEDUCED 47. -/
def elemBits (f : Nat) : Nat :=
  match f with
  | 0 => 32
  | 1 => 16
  | 2 => 16
  | 5 => 6
  | 6 => 4
  | _ => 8

/-- Bytes of a slot of 32 elements (R336). -/
def slotBytes (f : Nat) : Nat := 4 * elemBits f

/-- Is a format code MX6 or MX4? -/
def isMx (f : Nat) : Bool := f == 5 || f == 6

/-- The value of an element's bits, its block scale aside. -/
def elemVal (f x : Nat) : FpVal :=
  match f with
  | 0 => fp32.decode x
  | 1 => fp16.decode x
  | 2 => bf16.decode x
  | 3 => e4m3.decode x
  | 4 => e5m2.decode x
  | 5 => e3m2.decode x
  | 6 => e2m1.decode x
  | _ => let i := signedOf 8 x; .fin (decide (i < 0)) i.natAbs 0

/-- The operands of an MMA as its fields name them. -/
structure MmaOp where
  fa : Nat
  fb : Nat
  a  : Nat
  b  : Nat
  sa : Nat
  sb : Nat
  k  : Nat

/-- The k-blocks of an operation. -/
def MmaOp.blocks (o : MmaOp) : Nat := (o.k + 31) / 32

/-- Elements of block `b`. -/
def MmaOp.blockLen (o : MmaOp) (b : Nat) : Nat := min 32 (o.k - 32 * b)

/-- The byte ranges, as (address, length), that an operation reads for the listed columns. -/
def MmaOp.ranges (o : MmaOp) (cols : List Nat) : List (Nat × Nat) :=
  ((List.range o.blocks).map fun b =>
    let n := o.blockLen b
    let ra := slotBytes o.fa
    let rb := slotBytes o.fb
    let av := (List.range 32).map fun m => (o.a + 32 * ra * b + ra * m, (elemBits o.fa * n + 7) / 8)
    let bv := cols.map fun c => (o.b + 64 * rb * b + rb * c, (elemBits o.fb * n + 7) / 8)
    let sv := if isMx o.fa then
        (List.range 32).map (fun m => (o.sa + 32 * b + m, 1)) ++ cols.map (fun c => (o.sb + 64 * b + c, 1))
      else []
    av ++ bv ++ sv).flatten

/-- Element `j` of a slot at a local address. -/
def slotElem (m : Mem) (f addr j : Nat) : Nat :=
  let b := elemBits f * j
  bitsOf (ofLeBytes (m.read (addr + b / 8) 5)) (b % 8) (elemBits f)

/-- The exact sum of values, none of them a NaN or an infinity: -0 only where every one is -0 (R306). -/
def sumFin : List FpVal → FpVal
  | [] => .fin false 0 0
  | [v] => v
  | v :: r => (v.add (sumFin r)).1

/-- The exact sum of one k-block's products and whether it sets NV (R305, R306). -/
def blockSum (l : List (FpVal × Bool)) : FpVal × Bool :=
  let nv := l.any (·.2)
  let pos := l.any fun p => p.1 == .inf false
  let neg := l.any fun p => p.1 == .inf true
  if nv || (pos && neg) then (.nan, true)
  else if l.any fun p => p.1 == .nan then (.nan, false)
  else if pos then (.inf false, false)
  else if neg then (.inf true, false)
  else (sumFin (l.map (·.1)), false)

/-- The block sum of row `m`, column `n`, block `b`, with the MX scales applied (R305). -/
def MmaOp.block (o : MmaOp) (s : Mem) (b m n : Nat) : FpVal × Bool :=
  let pa := o.a + 32 * slotBytes o.fa * b + slotBytes o.fa * m
  let pb := o.b + 64 * slotBytes o.fb * b + slotBytes o.fb * n
  let prods := (List.range (o.blockLen b)).map fun j =>
    (elemVal o.fa (slotElem s o.fa pa j)).mul (elemVal o.fb (slotElem s o.fb pb j))
  if isMx o.fa then
    let sa := (s.get (o.sa + 32 * b + m)).toNat
    let sb := (s.get (o.sb + 64 * b + n)).toNat
    if sa = 0xFF ∨ sb = 0xFF then (.nan, false)
    else
      let r := blockSum prods
      (r.1.scale ((sa : Int) - 127 + ((sb : Int) - 127)), r.2)
  else blockSum prods

/-- One tile element over K in FP32: one rounding per k-block, in ascending k (R305, R306). -/
def MmaOp.accumulate (o : MmaOp) (s : Mem) (m n : Nat) (c : Lane) : Lane × Flags :=
  (List.range o.blocks).foldl (fun acc b =>
    let v := o.block s b m n
    let r := v.1.add (ofF32 acc.1)
    let x := f32Of (r.1, v.2 || r.2)
    (x.1, acc.2.or x.2)) (c, {})

/-- One tile element over K in INT8: exact block sums, each added with saturation (R307). -/
def MmaOp.accumulateInt (o : MmaOp) (s : Mem) (m n : Nat) (c : Lane) : Lane × Flags :=
  (List.range o.blocks).foldl (fun acc b =>
    let pa := o.a + 32 * slotBytes o.fa * b + slotBytes o.fa * m
    let pb := o.b + 64 * slotBytes o.fb * b + slotBytes o.fb * n
    let sum : Int := ((List.range (o.blockLen b)).map fun j =>
      signedOf 8 (slotElem s o.fa pa j) * signedOf 8 (slotElem s o.fb pb j)).foldl (· + ·) 0
    let x := acc.1.toInt + sum
    let y := clampInt (-2147483648) 2147483647 x
    (BitVec.ofInt 32 y, acc.2.or { sat := decide (x ≠ y) })) (c, {})

/-- The matrix steps of an operation (R294): per k-block, its length divided by k per step, rounded up. -/
def MmaOp.steps (o : MmaOp) : Nat :=
  ((List.range o.blocks).map fun b =>
    let n := o.blockLen b
    match o.fa with
    | 0 => 8 * n
    | 1 => 2 * n
    | 2 => 2 * n
    | 6 => (n + 1) / 2
    | _ => n).sum

/-- The enabled columns of a tile changed, element by element. -/
def Cluster.setTile (c : Cluster) (t : Nat) (cols : List Nat) (f : Nat → Nat → Lane) : Cluster :=
  (List.range 32).foldl (fun c m => cols.foldl (fun c n => c.setElem t m n (f m n)) c) c

/-- Every end of a list of ranges is within local SRAM (R329). -/
def rangesOk (l : List (Nat × Nat)) : Bool := l.all fun r => decide (r.1 + r.2 ≤ sramBytes)

/-- The words that a list of ranges touches. -/
def rangeWords (l : List (Nat × Nat)) : List Nat := ((l.map fun r => blocksOf 8 r.1 r.2).flatten).eraseDups

/-- MMA. Log: DEDUCED 47. -/
def execMma (c : Fin 2048) (ups : List Upset) (s : State) : Result :=
  .next (s.issue c 0xA0 (fun w => onlyFields w [predField, (49, 3), (45, 4), (41, 4), (37, 4), (33, 4), (29, 4), (25, 4),
      (11, 14), (10, 1)] && decide (fFA w ≤ 8) && decide (fFB w ≤ 8) &&
      (isMx (fFA w) || (fRSA w == 0 && fRSB w == 0))) false fun w s x =>
    let o : MmaOp := ⟨fFA w, fFB w, (x.areg (fRA w)).toNat, (x.areg (fRB w)).toNat, (x.areg (fRSA w)).toNat,
      (x.areg (fRSB w)).toNat, fK w⟩
    let cols := lanesOn (x.pred w)
    let paired := (o.fa == 3 || o.fa == 4) && (o.fb == 3 || o.fb == 4)
    if o.fa = 8 ∨ (o.fa ≠ o.fb ∧ ¬ paired) then .fault s pfFormat
    else if isMx o.fa ∧ o.k % 32 ≠ 0 then .fault s pfMxk
    else if o.k = 0 then .done s
    else if o.a % 64 ≠ 0 ∨ o.b % 64 ≠ 0 then .fault s pfAlign
    else if !rangesOk (o.ranges cols) then .fault s pfRange
    else
      let r := s.readWords c (rangeWords (o.ranges cols)) ups
      if !r.2 then .fault r.1 tokSram
      else
        let y := r.1.cl c
        let elem (m n : Nat) : Lane × Flags :=
          let z := if fZero w then 0 else y.elem (fTD w) m n
          if o.fa = 7 then o.accumulateInt y.sram m n z else o.accumulate y.sram m n z
        let fl := flagsOf (((List.range 32).map fun m => cols.map fun n => elem m n).flatten)
        let s1 := r.1.setCl c (y.setTile (fTD w) cols fun m n => (elem m n).1)
        let s1 := (s1.addFlags c fl).bumpBy (CL.STEPS.MSTEPS c) o.steps
        .done (s1.count (ctrDie (c.val / 256)) 0x101 (c.val % 256) o.steps))

/-- TZERO. -/
def execTzero (c : Fin 2048) (s : State) : Result :=
  .next (s.issue c 0xA1 (fun w => onlyFields w [predField, (49, 3)]) false fun w s x =>
    .done (s.setCl c (x.setTile (fTD w) (lanesOn (x.pred w)) fun _ _ => 0)))

/-- The local address of a tile load or store (R329). -/
def tileAddr (x : Cluster) (w : Nat) : Nat := (x.areg (fMA w) + BitVec.ofInt 48 (fImm32 w)).toNat

/-- The ranges of a tile's enabled columns. -/
def tileRanges (a : Nat) (cols : List Nat) : List (Nat × Nat) :=
  ((List.range 32).map fun m => cols.map fun n => (a + 4 * (64 * m + n), 4)).flatten

/-- TLD. -/
def execTld (c : Fin 2048) (ups : List Upset) (s : State) : Result :=
  .next (s.issue c 0xA2 (fun w => onlyFields w [predField, (49, 3), (34, 4), (0, 32)]) false fun w s x =>
    let a := tileAddr x w
    let cols := lanesOn (x.pred w)
    if a % 64 ≠ 0 then .fault s pfAlign
    else if !rangesOk (tileRanges a cols) then .fault s pfRange
    else
      let r := s.readWords c (rangeWords (tileRanges a cols)) ups
      if !r.2 then .fault r.1 tokSram
      else
        let y := r.1.cl c
        .done (r.1.setCl c (y.setTile (fTD w) cols fun m n =>
          BitVec.ofNat 32 (ofLeBytes (y.sram.read (a + 4 * (64 * m + n)) 4)))))

/-- TST. -/
def execTst (c : Fin 2048) (s : State) : Result :=
  .next (s.issue c 0xA3 (fun w => onlyFields w [predField, (49, 3), (34, 4), (0, 32)]) false fun w s x =>
    let a := tileAddr x w
    let cols := lanesOn (x.pred w)
    if a % 64 ≠ 0 then .fault s pfAlign
    else if !rangesOk (tileRanges a cols) then .fault s pfRange
    else
      let m := (List.range 32).foldl (fun mm m => cols.foldl (fun mm n =>
        let b := a + 4 * (64 * m + n)
        let mm := mm.write b (leBytes 4 (x.elem (fTD w) m n).toNat)
        -- a word is written whole where both columns of it are enabled
        if n % 2 = 1 ∧ cols.contains (n - 1) then mm.clearBad (b / 8) else mm) mm) x.sram
      .done (s.setCl c { x with sram := m }))

/-- The row that TRV and VTR name. -/
def tileRow (x : Cluster) (w : Nat) : Nat := ((x.areg (fMA w)).toNat + fRow w) % 32

/-- TRV. -/
def execTrv (c : Fin 2048) (s : State) : Result :=
  .next (s.issue c 0xA4 (fun w => onlyFields w [predField, (49, 3), (43, 6), (38, 5), (34, 4)]) false fun w s x =>
    .done (s.setCl c (x.setLanes (fMV w) (lanesOn (x.pred w)) fun n => x.elem (fTD w) (tileRow x w) n)))

/-- VTR. -/
def execVtr (c : Fin 2048) (s : State) : Result :=
  .next (s.issue c 0xA5 (fun w => onlyFields w [predField, (49, 3), (43, 6), (38, 5), (34, 4)]) false fun w s x =>
    .done (s.setCl c ((lanesOn (x.pred w)).foldl
      (fun y n => y.setElem (fTD w) (tileRow x w) n (x.lane (fMV w) n)) x)))

end Sys2Proof.Machine
end

