-- ==== Sys2Proof/Machine/Dispatch.lean ====
section
/-! DEFINITION. What each command does: one arm for each constructor, one direct call of its meaning. -/
namespace Sys2Proof.Machine
open Sys2Proof

/-- A command's effect on everything but the queue. -/
def exec (i : Instr) (s : State) : Host.Outcome State Fault Refusal :=
  match i with
  | .frameBoundary frame powers => Sys2Proof.Machine.execFrameBoundary frame powers s
  | .slotGateRise copper => Sys2Proof.Machine.execSlotGateRise copper s
  | .refplsEdge d t => Sys2Proof.Machine.execRefplsEdge d t s
  | .pulseWindowClose d frame => Sys2Proof.Machine.execPulseWindowClose d frame s
  | .domainQualify d ppm => Sys2Proof.Machine.execDomainQualify d ppm s
  | .domainDisqualify d ppm => Sys2Proof.Machine.execDomainDisqualify d ppm s
  | .gearComplete => Sys2Proof.Machine.execGearComplete s
  | .disagreement => Sys2Proof.Machine.execDisagreement s
  | .revert => Sys2Proof.Machine.execRevert s
  | .refclkGap d t => Sys2Proof.Machine.execRefclkGap d t s
  | .dcoLock d t => Sys2Proof.Machine.execDcoLock d t s
  | .settleEntry t => Sys2Proof.Machine.execSettleEntry t s
  | .reseat => Sys2Proof.Machine.execReseat s
  | .toA => Sys2Proof.Machine.execToA s
  | .toB => Sys2Proof.Machine.execToB s
  | .loopHold hold => Sys2Proof.Machine.execLoopHold hold s
  | .gaugeCoefWrite trk value => Sys2Proof.Machine.execGaugeCoefWrite trk value s
  | .sync p t twoStep domain sender seqId => Sys2Proof.Machine.execSync p t twoStep domain sender seqId s
  | .followUp p t domain sender seqId origin => Sys2Proof.Machine.execFollowUp p t domain sender seqId origin s
  | .delayReq p t seqId => Sys2Proof.Machine.execDelayReq p t seqId s
  | .delayResp p t domain seqId receive => Sys2Proof.Machine.execDelayResp p t domain seqId receive s
  | .announce p t domain m => Sys2Proof.Machine.execAnnounce p t domain m s
  | .announceReceiptTimeout p t => Sys2Proof.Machine.execAnnounceReceiptTimeout p t s
  | .ptpSampleTimeout p t => Sys2Proof.Machine.execPtpSampleTimeout p t s
  | .tpoArm n => Sys2Proof.Machine.execTpoArm n s
  | .tpoDisarm n => Sys2Proof.Machine.execTpoDisarm n s
  | .tpoConfigWrite n reg value => Sys2Proof.Machine.execTpoConfigWrite n reg value s
  | .tpoStartWrite n hi value => Sys2Proof.Machine.execTpoStartWrite n hi value s
  | .tpoEdgeCommit n t => Sys2Proof.Machine.execTpoEdgeCommit n t s
  | .tpoEdge n t => Sys2Proof.Machine.execTpoEdge n t s
  | .tpoIdleReturn n t => Sys2Proof.Machine.execTpoIdleReturn n t s
  | .tciEdge n t rising => Sys2Proof.Machine.execTciEdge n t rising s
  | .tciCapSelect n b => Sys2Proof.Machine.execTciCapSelect n b s
  | .txqSelect p b => Sys2Proof.Machine.execTxqSelect p b s
  | .jobStartTrigger j t => Sys2Proof.Machine.execJobStartTrigger j t s
  | .jigCycleBoundary k => Sys2Proof.Machine.execJigCycleBoundary k s
  | .conversionStart c j => Sys2Proof.Machine.execConversionStart c j s
  | .conversionResult die rs => Sys2Proof.Machine.execConversionResult die rs s
  | .jigCompute c ms voltA voltB => Sys2Proof.Machine.execJigCompute c ms voltA voltB s
  | .ringJumpDone l => Sys2Proof.Machine.execRingJumpDone l s
  | .ringLock l => Sys2Proof.Machine.execRingLock l s
  | .ringCaptureLimit l => Sys2Proof.Machine.execRingCaptureLimit l s
  | .ringUnlock l => Sys2Proof.Machine.execRingUnlock l s
  | .ringWindowFail l => Sys2Proof.Machine.execRingWindowFail l s
  | .ringClampFault l => Sys2Proof.Machine.execRingClampFault l s
  | .heaterCompliance l => Sys2Proof.Machine.execHeaterCompliance l s
  | .takeoverRelease p => Sys2Proof.Machine.execTakeoverRelease p s
  | .mislockCountReset l t => Sys2Proof.Machine.execMislockCountReset l t s
  | .verifyProbeSend p n => Sys2Proof.Machine.execVerifyProbeSend p n s
  | .verifyTimeout l t => Sys2Proof.Machine.execVerifyTimeout l t s
  | .lCmdHold b => Sys2Proof.Machine.execLCmdHold b s
  | .lCmdRelease b => Sys2Proof.Machine.execLCmdRelease b s
  | .lCmdJump b => Sys2Proof.Machine.execLCmdJump b s
  | .lCmdSweep b => Sys2Proof.Machine.execLCmdSweep b s
  | .lCmdReset b => Sys2Proof.Machine.execLCmdReset b s
  | .jigCoefWrite b dith value => Sys2Proof.Machine.execJigCoefWrite b dith value s
  | .cmatCommit engines => Sys2Proof.Machine.execCmatCommit engines s
  | .cmatCopy engines => Sys2Proof.Machine.execCmatCopy engines s
  | .postedWriteDone d => Sys2Proof.Machine.execPostedWriteDone d s
  | .slotCutoff n => Sys2Proof.Machine.execSlotCutoff n s
  | .slotStart n res => Sys2Proof.Machine.execSlotStart n res s
  | .slotEnd n => Sys2Proof.Machine.execSlotEnd n s
  | .slotArrival l n a => Sys2Proof.Machine.execSlotArrival l n a s
  | .phaseCacheInvalid p j => Sys2Proof.Machine.execPhaseCacheInvalid p j s
  | .headerDecode l n w delay f ups => Sys2Proof.Machine.execHeaderDecode l n w delay f ups s
  | .codewordDecode l n word w f ups => Sys2Proof.Machine.execCodewordDecode l n word w f ups s
  | .relayCommit l n => Sys2Proof.Machine.execRelayCommit l n s
  | .tblHiWrite value => Sys2Proof.Machine.execTblHiWrite value s
  | .leafRegisterWrite reg value => Sys2Proof.Machine.execLeafRegisterWrite reg value s
  | .pbLoad => Sys2Proof.Machine.execPbLoad s
  | .leafLoadDone ups => Sys2Proof.Machine.execLeafLoadDone ups s
  | .pbClear => Sys2Proof.Machine.execPbClear s
  | .pbCheck => Sys2Proof.Machine.execPbCheck s
  | .checkComplete ups => Sys2Proof.Machine.execCheckComplete ups s
  | .pbArm => Sys2Proof.Machine.execPbArm s
  | .pbCancel => Sys2Proof.Machine.execPbCancel s
  | .switchDecision slot => Sys2Proof.Machine.execSwitchDecision slot s
  | .leafSwitch slot => Sys2Proof.Machine.execLeafSwitch slot s
  | .pbScrub ups => Sys2Proof.Machine.execPbScrub ups s
  | .wardrobeWrite p hi value => Sys2Proof.Machine.execWardrobeWrite p hi value s
  | .spareWrite p value => Sys2Proof.Machine.execSpareWrite p value s
  | .probeGo e value => Sys2Proof.Machine.execProbeGo e value s
  | .probeSend p n => Sys2Proof.Machine.execProbeSend p n s
  | .probeRx p n phase gain w => Sys2Proof.Machine.execProbeRx p n phase gain w s
  | .probeReplyRx p n w => Sys2Proof.Machine.execProbeReplyRx p n w s
  | .probeNoReply p n => Sys2Proof.Machine.execProbeNoReply p n s
  | .probeNotSent e t => Sys2Proof.Machine.execProbeNotSent e t s
  | .rcbStageWrite p hi value => Sys2Proof.Machine.execRcbStageWrite p hi value s
  | .rcbArm => Sys2Proof.Machine.execRcbArm s
  | .rcbCancel => Sys2Proof.Machine.execRcbCancel s
  | .recableStart => Sys2Proof.Machine.execRecableStart s
  | .recablePhase => Sys2Proof.Machine.execRecablePhase s
  | .learningSlot n found => Sys2Proof.Machine.execLearningSlot n found s
  | .recableEnd => Sys2Proof.Machine.execRecableEnd s
  | .ringReplace p n => Sys2Proof.Machine.execRingReplace p n s
  | .channelFaultSpare monitor l => Sys2Proof.Machine.execChannelFaultSpare monitor l s
  | .portFailed p => Sys2Proof.Machine.execPortFailed p s
  | .laserLevelUp src => Sys2Proof.Machine.execLaserLevelUp src s
  | .laserLevelDown src => Sys2Proof.Machine.execLaserLevelDown src s
  | .spareReady src ready fault => Sys2Proof.Machine.execSpareReady src ready fault s
  | .spareWarmTimeout src warm => Sys2Proof.Machine.execSpareWarmTimeout src warm s
  | .spareMeasurePort src offset => Sys2Proof.Machine.execSpareMeasurePort src offset s
  | .spareInRetry src => Sys2Proof.Machine.execSpareInRetry src s
  | .laserFlip src n => Sys2Proof.Machine.execLaserFlip src n s
  | .flipTrackStep src => Sys2Proof.Machine.execFlipTrackStep src s
  | .lostTrackRestart src volt => Sys2Proof.Machine.execLostTrackRestart src volt s
  | .lsrForce src => Sys2Proof.Machine.execLsrForce src s
  | .lsrAbort src => Sys2Proof.Machine.execLsrAbort src s
  | .fabricStop t => Sys2Proof.Machine.execFabricStop t s
  | .neighbourLost l j => Sys2Proof.Machine.execNeighbourLost l j s
  | .calTempTrigger copper u temp => Sys2Proof.Machine.execCalTempTrigger copper u temp s
  | .calIntervalTrigger kind unit t => Sys2Proof.Machine.execCalIntervalTrigger kind unit t s
  | .calRun kind unit => Sys2Proof.Machine.execCalRun kind unit s
  | .calUnitStart cu => Sys2Proof.Machine.execCalUnitStart cu s
  | .calRunComplete cu r => Sys2Proof.Machine.execCalRunComplete cu r s
  | .calLockTimeout => Sys2Proof.Machine.execCalLockTimeout s
  | .calSave => Sys2Proof.Machine.execCalSave s
  | .calAutoSave t => Sys2Proof.Machine.execCalAutoSave t s
  | .calSaveComplete good => Sys2Proof.Machine.execCalSaveComplete good s
  | .calRestore => Sys2Proof.Machine.execCalRestore s
  | .calAbort => Sys2Proof.Machine.execCalAbort s
  | .restoreWaitExpiry => Sys2Proof.Machine.execRestoreWaitExpiry s
  | .cuDownDelay k => Sys2Proof.Machine.execCuDownDelay k s
  | .cuSignalDetect k lanes => Sys2Proof.Machine.execCuSignalDetect k lanes s
  | .cuDetectTimeout k => Sys2Proof.Machine.execCuDetectTimeout k s
  | .cuTrainAdapted k lanes => Sys2Proof.Machine.execCuTrainAdapted k lanes s
  | .cuTrainTimeout k => Sys2Proof.Machine.execCuTrainTimeout k s
  | .cuIdentRx k b ls => Sys2Proof.Machine.execCuIdentRx k b ls s
  | .cuIdentTimeout k => Sys2Proof.Machine.execCuIdentTimeout k s
  | .cuAlignDone k lock => Sys2Proof.Machine.execCuAlignDone k lock s
  | .cuAlignTimeout k => Sys2Proof.Machine.execCuAlignTimeout k s
  | .cuFramingLoss k => Sys2Proof.Machine.execCuFramingLoss k s
  | .cuQuarantineExit k b => Sys2Proof.Machine.execCuQuarantineExit k b s
  | .cuRetrain k => Sys2Proof.Machine.execCuRetrain k s
  | .cuSpare k lane perm => Sys2Proof.Machine.execCuSpare k lane perm s
  | .cuBack k lane => Sys2Proof.Machine.execCuBack k lane s
  | .handoverPeerCopy k lane back => Sys2Proof.Machine.execHandoverPeerCopy k lane back s
  | .handoverRxSwitch k => Sys2Proof.Machine.execHandoverRxSwitch k s
  | .laneLockLoss k lane => Sys2Proof.Machine.execLaneLockLoss k lane s
  | .laneWorn k lane => Sys2Proof.Machine.execLaneWorn k lane s
  | .clStop c => Sys2Proof.Machine.execClStop c s
  | .clUngate c => Sys2Proof.Machine.execClUngate c s
  | .clGate c => Sys2Proof.Machine.execClGate c s
  | .clQuarantine c => Sys2Proof.Machine.execClQuarantine c s
  | .watchdog c t => Sys2Proof.Machine.execWatchdog c t s
  | .rampStage c t => Sys2Proof.Machine.execRampStage c t s
  | .clusterSpareAssign n passed => Sys2Proof.Machine.execClusterSpareAssign n passed s
  | .nop c upset => Sys2Proof.Machine.execNop c upset s
  | .endProg c => Sys2Proof.Machine.execEndProg c s
  | .br c => Sys2Proof.Machine.execBr c s
  | .jal c => Sys2Proof.Machine.execJal c s
  | .jr c => Sys2Proof.Machine.execJr c s
  | .brk c => Sys2Proof.Machine.execBrk c s
  | .rdfl c => Sys2Proof.Machine.execRdfl c s
  | .clrfl c => Sys2Proof.Machine.execClrfl c s
  | .aadd c => Sys2Proof.Machine.execAadd c s
  | .aaddi c => Sys2Proof.Machine.execAaddi c s
  | .asub c => Sys2Proof.Machine.execAsub c s
  | .amul c => Sys2Proof.Machine.execAmul c s
  | .aand c => Sys2Proof.Machine.execAand c s
  | .aor c => Sys2Proof.Machine.execAor c s
  | .axor c => Sys2Proof.Machine.execAxor c s
  | .ashli c => Sys2Proof.Machine.execAshli c s
  | .ashri c => Sys2Proof.Machine.execAshri c s
  | .amovi c => Sys2Proof.Machine.execAmovi c s
  | .acmp c => Sys2Proof.Machine.execAcmp c s
  | .acmpi c => Sys2Proof.Machine.execAcmpi c s
  | .pand c => Sys2Proof.Machine.execPand c s
  | .por c => Sys2Proof.Machine.execPor c s
  | .pxor c => Sys2Proof.Machine.execPxor c s
  | .pnot c => Sys2Proof.Machine.execPnot c s
  | .pcnt c => Sys2Proof.Machine.execPcnt c s
  | .pfroma c => Sys2Proof.Machine.execPfroma c s
  | .vadd c => Sys2Proof.Machine.execVadd c s
  | .vsub c => Sys2Proof.Machine.execVsub c s
  | .vmul c => Sys2Proof.Machine.execVmul c s
  | .vfma c => Sys2Proof.Machine.execVfma c s
  | .vmin c => Sys2Proof.Machine.execVmin c s
  | .vmax c => Sys2Proof.Machine.execVmax c s
  | .vabs c => Sys2Proof.Machine.execVabs c s
  | .vneg c => Sys2Proof.Machine.execVneg c s
  | .vexp2 c => Sys2Proof.Machine.execVexp2 c s
  | .vlog2 c => Sys2Proof.Machine.execVlog2 c s
  | .vrcp c => Sys2Proof.Machine.execVrcp c s
  | .vrsq c => Sys2Proof.Machine.execVrsq c s
  | .vcmp c => Sys2Proof.Machine.execVcmp c s
  | .vrsum c => Sys2Proof.Machine.execVrsum c s
  | .vrmax c => Sys2Proof.Machine.execVrmax c s
  | .vsel c => Sys2Proof.Machine.execVsel c s
  | .viadd c => Sys2Proof.Machine.execViadd c s
  | .visub c => Sys2Proof.Machine.execVisub c s
  | .vimul c => Sys2Proof.Machine.execVimul c s
  | .vand c => Sys2Proof.Machine.execVand c s
  | .vor c => Sys2Proof.Machine.execVor c s
  | .vxor c => Sys2Proof.Machine.execVxor c s
  | .vshl c => Sys2Proof.Machine.execVshl c s
  | .vshr c => Sys2Proof.Machine.execVshr c s
  | .vsra c => Sys2Proof.Machine.execVsra c s
  | .vicmp c => Sys2Proof.Machine.execVicmp c s
  | .vperm c => Sys2Proof.Machine.execVperm c s
  | .vlane c => Sys2Proof.Machine.execVlane c s
  | .pfromv c => Sys2Proof.Machine.execPfromv c s
  | .vld c ups => Sys2Proof.Machine.execVld c ups s
  | .vst c => Sys2Proof.Machine.execVst c s
  | .vbci c => Sys2Proof.Machine.execVbci c s
  | .vbca c => Sys2Proof.Machine.execVbca c s
  | .vtoa c => Sys2Proof.Machine.execVtoa c s
  | .cvt c => Sys2Proof.Machine.execCvt c s
  | .cvtmx c => Sys2Proof.Machine.execCvtmx c s
  | .cvtxf c => Sys2Proof.Machine.execCvtxf c s
  | .mma c ups => Sys2Proof.Machine.execMma c ups s
  | .tzero c => Sys2Proof.Machine.execTzero c s
  | .tld c ups => Sys2Proof.Machine.execTld c ups s
  | .tst c => Sys2Proof.Machine.execTst c s
  | .trv c => Sys2Proof.Machine.execTrv c s
  | .vtr c => Sys2Proof.Machine.execVtr c s
  | .put c => Sys2Proof.Machine.execPut c s
  | .get c => Sys2Proof.Machine.execGet c s
  | .cpy c => Sys2Proof.Machine.execCpy c s
  | .cwait c => Sys2Proof.Machine.execCwait c s
  | .qget c => Sys2Proof.Machine.execQget c s
  | .qcmt c => Sys2Proof.Machine.execQcmt c s
  | .rwait c => Sys2Proof.Machine.execRwait c s
  | .rdone c => Sys2Proof.Machine.execRdone c s
  | .fwait c => Sys2Proof.Machine.execFwait c s
  | .twait c => Sys2Proof.Machine.execTwait c s
  | .tnow c => Sys2Proof.Machine.execTnow c s
  | .gbar c => Sys2Proof.Machine.execGbar c s
  | .gred c => Sys2Proof.Machine.execGred c s
  | .tagDrain c tag ups => Sys2Proof.Machine.execTagDrain c tag ups s
  | .externalWaitTimeout c t => Sys2Proof.Machine.execExternalWaitTimeout c t s
  | .qgetWake who => Sys2Proof.Machine.execQgetWake who s
  | .rwaitWake c => Sys2Proof.Machine.execRwaitWake c s
  | .fwaitWake c => Sys2Proof.Machine.execFwaitWake c s
  | .twaitWake c t => Sys2Proof.Machine.execTwaitWake c t s
  | .barrierRelease j => Sys2Proof.Machine.execBarrierRelease j s
  | .tagStallWake c ups => Sys2Proof.Machine.execTagStallWake c ups s
  | .cpyQueueWake c => Sys2Proof.Machine.execCpyQueueWake c s
  | .programLoadDone j ups t => Sys2Proof.Machine.execProgramLoadDone j ups t s
  | .copyComplete e ups => Sys2Proof.Machine.execCopyComplete e ups s
  | .cpyProdWrite n value => Sys2Proof.Machine.execCpyProdWrite n value s
  | .ringConfigWrite b reg value => Sys2Proof.Machine.execRingConfigWrite b reg value s
  | .ringClaim b => Sys2Proof.Machine.execRingClaim b s
  | .ringRelease b index => Sys2Proof.Machine.execRingRelease b index s
  | .fellRegisterWrite b reg value => Sys2Proof.Machine.execFellRegisterWrite b reg value s
  | .memScrub ups => Sys2Proof.Machine.execMemScrub ups s
  | .completionRecord j t => Sys2Proof.Machine.execCompletionRecord j t s
  | .gthRecSelect b => Sys2Proof.Machine.execGthRecSelect b s
  | .flitRx bytes decoded => Sys2Proof.Machine.execFlitRx bytes decoded s
  | .rdS tag line ups => Sys2Proof.Machine.execRdS tag line ups s
  | .rdO tag line ups => Sys2Proof.Machine.execRdO tag line ups s
  | .rdNc tag line ups => Sys2Proof.Machine.execRdNc tag line ups s
  | .evict tag line => Sys2Proof.Machine.execEvict tag line s
  | .wb tag line data => Sys2Proof.Machine.execWb tag line data s
  | .wrNc tag line mask data ups => Sys2Proof.Machine.execWrNc tag line mask data ups s
  | .csrRd tag off size ups => Sys2Proof.Machine.execCsrRd tag off size ups s
  | .csrWr tag off size value => Sys2Proof.Machine.execCsrWr tag off size value s
  | .data tag data => Sys2Proof.Machine.execData tag data s
  | .ack tag => Sys2Proof.Machine.execAck tag s
  | .err tag => Sys2Proof.Machine.execErr tag s
  | .snpI tag ups => Sys2Proof.Machine.execSnpI tag ups s
  | .snpS tag ups => Sys2Proof.Machine.execSnpS tag ups s
  | .snpDi tag data ups => Sys2Proof.Machine.execSnpDi tag data ups s
  | .snpDs tag data ups => Sys2Proof.Machine.execSnpDs tag data ups s
  | .snpTimeout line ups t => Sys2Proof.Machine.execSnpTimeout line ups t s
  | .cohWinWrite base size => Sys2Proof.Machine.execCohWinWrite base size s
  | .calendarExamine entry ups t => Sys2Proof.Machine.execCalendarExamine entry ups t s
  | .noticeWrite c => Sys2Proof.Machine.execNoticeWrite c s
  | .ulkSignalDetect t => Sys2Proof.Machine.execUlkSignalDetect t s
  | .ulkTrainDone lanes x t => Sys2Proof.Machine.execUlkTrainDone lanes x t s
  | .ulkTrainTimeout t => Sys2Proof.Machine.execUlkTrainTimeout t s
  | .ulkRecoverEntry cause t => Sys2Proof.Machine.execUlkRecoverEntry cause t s
  | .ulkRecoverDone lanes t => Sys2Proof.Machine.execUlkRecoverDone lanes t s
  | .ulkFailed three t => Sys2Proof.Machine.execUlkFailed three t s
  | .ulkFailedTimeout t => Sys2Proof.Machine.execUlkFailedTimeout t s
  | .ulkRetrain => Sys2Proof.Machine.execUlkRetrain s
  | .vauxPowerOn head bench slots => Sys2Proof.Machine.execVauxPowerOn head bench slots s
  | .vauxLow t => Sys2Proof.Machine.execVauxLow t s
  | .pwrOkRise rails memHeld t => Sys2Proof.Machine.execPwrOkRise rails memHeld t s
  | .pwrOkLow t => Sys2Proof.Machine.execPwrOkLow t s
  | .pkgResetNLow t => Sys2Proof.Machine.execPkgResetNLow t s
  | .railFault rail t => Sys2Proof.Machine.execRailFault rail t s
  | .vhtrOutOfRange t => Sys2Proof.Machine.execVhtrOutOfRange t s
  | .thermalSample readings t => Sys2Proof.Machine.execThermalSample readings t s
  | .thermPortRead => Sys2Proof.Machine.execThermPortRead s
  | .pwrHush => Sys2Proof.Machine.execPwrHush s
  | .pwrActive => Sys2Proof.Machine.execPwrActive s
  | .pwrDark t => Sys2Proof.Machine.execPwrDark t s
  | .darkReached t => Sys2Proof.Machine.execDarkReached t s
  | .beaconRx bytes t => Sys2Proof.Machine.execBeaconRx bytes t s
  | .beaconSend t => Sys2Proof.Machine.execBeaconSend t s
  | .positionTimeout t => Sys2Proof.Machine.execPositionTimeout t s
  | .chainSwitch bytes t => Sys2Proof.Machine.execChainSwitch bytes t s
  | .chainReset bytes t => Sys2Proof.Machine.execChainReset bytes t s
  | .chainMsg bytes t => Sys2Proof.Machine.execChainMsg bytes t s
  | .chainImage bytes t => Sys2Proof.Machine.execChainImage bytes t s
  | .chainSend type len => Sys2Proof.Machine.execChainSend type len s
  | .chainTxTimeout t => Sys2Proof.Machine.execChainTxTimeout t s
  | .cutlistRead t => Sys2Proof.Machine.execCutlistRead t s
  | .firmwareVerify t => Sys2Proof.Machine.execFirmwareVerify t s
  | .bringup fails noPpr t => Sys2Proof.Machine.execBringup fails noPpr t s
  | .lockSet => Sys2Proof.Machine.execLockSet s
  | .lockWaitTimeout t => Sys2Proof.Machine.execLockWaitTimeout t s
  | .bootResetCold key => Sys2Proof.Machine.execBootResetCold key s
  | .bootResetWarm key => Sys2Proof.Machine.execBootResetWarm key s
  | .bootResetFabric key => Sys2Proof.Machine.execBootResetFabric key s
  | .bootResetCompute key => Sys2Proof.Machine.execBootResetCompute key s
  | .resetComplete head bench t => Sys2Proof.Machine.execResetComplete head bench t s
  | .opkeyFuse => Sys2Proof.Machine.execOpkeyFuse s
  | .csrWrite b off size value => Sys2Proof.Machine.execCsrWrite b off size value s
  | .mbxSelect b off => Sys2Proof.Machine.execMbxSelect b off s
  | .mbxSampleDone b => Sys2Proof.Machine.execMbxSampleDone b s
  | .sqClear b off seq => Sys2Proof.Machine.execSqClear b off seq s
  | .csrParityScrub ups => Sys2Proof.Machine.execCsrParityScrub ups s
  | .faultClr block => Sys2Proof.Machine.execFaultClr block s
  | .faultRecheckDone block => Sys2Proof.Machine.execFaultRecheckDone block s
  | .crcRecompute ups => Sys2Proof.Machine.execCrcRecompute ups s
  | .crcCommit => Sys2Proof.Machine.execCrcCommit s
  | .ctrCfgWrite n value => Sys2Proof.Machine.execCtrCfgWrite n value s
  | .snap => Sys2Proof.Machine.execSnap s
  | .snapshotTake t => Sys2Proof.Machine.execSnapshotTake t s
  | .clearAll => Sys2Proof.Machine.execClearAll s
  | .logFlush n t => Sys2Proof.Machine.execLogFlush n t s
  | .flush => Sys2Proof.Machine.execFlush s
  | .fatalFlush t => Sys2Proof.Machine.execFatalFlush t s
  | .dump => Sys2Proof.Machine.execDump s
  | .dumpComplete => Sys2Proof.Machine.execDumpComplete s
  | .optimeTick t => Sys2Proof.Machine.execOptimeTick t s
  | .mcLoadWindow load aToC t => Sys2Proof.Machine.execMcLoadWindow load aToC t s
  | .mcSelfCheck t => Sys2Proof.Machine.execMcSelfCheck t s
  | .mc0Failure watchdog t => Sys2Proof.Machine.execMc0Failure watchdog t s
  | .mcTakeoverDone t => Sys2Proof.Machine.execMcTakeoverDone t s
  | .mc1Failure t => Sys2Proof.Machine.execMc1Failure t s
  | .patchWrite t => Sys2Proof.Machine.execPatchWrite t s
  | .patchNoteAdd => Sys2Proof.Machine.execPatchNoteAdd s
  | .telemetryTick t => Sys2Proof.Machine.execTelemetryTick t s
  | .servicePoll t => Sys2Proof.Machine.execServicePoll t s
  | .alter ups t => Sys2Proof.Machine.execAlter ups t s
  | .alterComplete good t => Sys2Proof.Machine.execAlterComplete good t s
  | .attest t => Sys2Proof.Machine.execAttest t s
  | .cert t => Sys2Proof.Machine.execCert t s
  | .fwSlotErase t => Sys2Proof.Machine.execFwSlotErase t s
  | .recoveryHeader t => Sys2Proof.Machine.execRecoveryHeader t s
  | .imageReqRetry t => Sys2Proof.Machine.execImageReqRetry t s
  | .recoveryInstall t => Sys2Proof.Machine.execRecoveryInstall t s
  | .pkgResetNRelease rails t => Sys2Proof.Machine.execPkgResetNRelease rails t s
  | .nvmDiscovery readable sfdp octal mbit t => Sys2Proof.Machine.execNvmDiscovery readable sfdp octal mbit t s
  | .tportBlockLock p locked => Sys2Proof.Machine.execTportBlockLock p locked s
  | .monitorChannelFault l => Sys2Proof.Machine.execMonitorChannelFault l s
  | .handoverComplete k => Sys2Proof.Machine.execHandoverComplete k s

end Sys2Proof.Machine
end

