-- ==== Sys2Proof/Safety.lean ====
section
/-! DEFINITION. The terms that claims are made in: which parts of the state a command leaves alone, an event as the
registers show it, a cluster about to issue an instruction, and the invariants of a run. -/
namespace Sys2Proof.Machine
open Sys2Proof

/-! ### Frames -/

/-- Only the listed register fields may read otherwise in `t` than in `s`. -/
def State.regsBut (s t : State) (l : List Field) : Prop := ∀ g : Field, g.key ∉ l.map Field.key → t.rd g = s.rd g

/-- Nothing differs but the listed register fields. -/
def State.onlyRegs (s t : State) (l : List Field) : Prop := t = { s with regs := t.regs } ∧ s.regsBut t l

/-- The register fields that the event recorder and the notices keep of themselves (R402, R490, R495). -/
def recorderFields : List Field :=
  [HLT.LOG_STAT.STAGE_PCT, HLT.LOG_COUNTS.OVERWRITTEN, HLT.LOG_COUNTS.DROPPED, HLT.LOG_COUNTS.FATAL_DROP,
    HLT.LOG_COUNTS.MERGED, HLT.EVENT.FATAL_DROP, HLT.EVENT.LOG_FULL, HLT.EVENT.SEQ, ULK.NOTICE_STAT.PENDING]

/-- Only the listed register fields and what the event recorder and the notices keep may read otherwise. -/
def State.regsButEvent (s t : State) (l : List Field) : Prop := s.regsBut t (l ++ recorderFields)

/-- Nothing differs but the listed register fields and what the event recorder and the notices keep. -/
def State.onlyEvent (s t : State) (l : List Field) : Prop :=
  t = { s with regs := t.regs, log := t.log, notices := t.notices } ∧ s.regsButEvent t l

/-- The SEQ field of a flag's register (R476). -/
abbrev seqOf (f : Field) : Field := ⟨f.off, 24, 8, f.inst, 0⟩

/-- An event has set a flag: it reads 1, and its register's SEQ has advanced by one, modulo 256 (R476). -/
def State.flagged (s t : State) (f : Field) : Prop :=
  t.rd f = 1 ∧ t.rd (seqOf f) = (s.rd (seqOf f) + 1) % 256

/-- Software's writes of registers meet neither compatibility mode (R482) nor a parity error (R479). -/
def State.csrSound (s : State) : Prop := s.compat = false ∧ s.sys.bad = []

/-! ### Clusters -/

/-- Cluster `c` is about to issue instruction word `w` of OPCODE `op`, its bits outside the fields `fs` zero, from an
index below the last (R323, R327). -/
def State.issuing (s : State) (c w op : Nat) (fs : List (Nat × Nat)) : Prop :=
  s.fetch c = some w ∧ w / 2 ^ 56 = op ∧ onlyFields w fs = true ∧ (s.cl c).pc < 8191

/-- The instruction executes under bit 0 of its effective predicate (R330). -/
def State.permitted (s : State) (c w : Nat) : Prop := enabled ((s.cl c).pred w) 0 = true

/-- No cluster but `c` differs. -/
def State.otherClusters (s t : State) (c : Nat) : Prop := ∀ p, p ≠ c → t.cl p = s.cl p

/-- Only cluster `c`, its registers in the window listed, and what the recorder keeps may differ. -/
def State.onlyCluster (s t : State) (c : Nat) (l : List Field) : Prop :=
  t = { s with regs := t.regs, comp := { s.comp with clusters := t.comp.clusters } } ∧ s.otherClusters t c ∧ s.regsBut t l

/-- Of cluster `c`, nothing but the program counter, one further on, the instant of the last handshake, and the register
files may differ; and nothing outside it but PC in CL.STATE. -/
def State.movedOn (s t : State) (c : Nat) : Prop :=
  s.onlyCluster t c [CL.STATE.PC c] ∧
  t.cl c = { s.cl c with pc := (s.cl c).pc + 1, shake := s.now,
                         a := (t.cl c).a, p := (t.cl c).p, v := (t.cl c).v, t := (t.cl c).t }

/-- Register files of a cluster that read the same. -/
def Cluster.sameA (x y : Cluster) : Prop := ∀ r, y.areg r = x.areg r
def Cluster.sameP (x y : Cluster) : Prop := ∀ r, y.preg r = x.preg r
def Cluster.sameV (x y : Cluster) : Prop := ∀ r i, i < 64 → y.lane r i = x.lane r i
def Cluster.sameT (x y : Cluster) : Prop := ∀ t m n, m < 32 → n < 64 → y.elem t m n = x.elem t m n

/-- The state in which an instruction's effect begins: the handshake noted, PC in CL.STATE at the instruction. -/
def State.issued (s : State) (c : Nat) : State := (s.setCl c { s.cl c with shake := s.now }).wr (CL.STATE.PC c) (s.cl c).pc

/-- What an instruction that is done leaves: its effect's state, with the program counter one further on. -/
def State.doneAt (s : State) (c : Nat) (t : State) : State := t.setPc c ((s.cl c).pc + 1)

/-- The event counters (R486), and the recorder's fields that a wrap of one writes. -/
def counterFields : List Field :=
  (List.range 112).flatMap (fun n => [HLT.CTR.COUNT n, HLT.CTR.OVF n]) ++
    [HLT.CTR_STAT.WRAPS, HLT.EVENT.CTR_OVF] ++ recorderFields

/-- A cluster's flags, with their SEQ (R312). -/
def flagFields (c : Nat) : List Field :=
  [CL.FLAGS.NV c, CL.FLAGS.DZ c, CL.FLAGS.OF c, CL.FLAGS.UF c, CL.FLAGS.NX c, CL.FLAGS.SAT c, CL.FLAGS.SEQ c]

/-- The flags after an instruction whose results have the flags `f`: set by them, else as they were (R312). -/
def State.flagsSet (s t : State) (c : Nat) (f : Flags) : Prop :=
  t.on (CL.FLAGS.NV c) = (s.on (CL.FLAGS.NV c) || f.nv) ∧ t.on (CL.FLAGS.DZ c) = (s.on (CL.FLAGS.DZ c) || f.dz) ∧
  t.on (CL.FLAGS.OF c) = (s.on (CL.FLAGS.OF c) || f.ovf) ∧ t.on (CL.FLAGS.UF c) = (s.on (CL.FLAGS.UF c) || f.uf) ∧
  t.on (CL.FLAGS.NX c) = (s.on (CL.FLAGS.NX c) || f.nx) ∧ t.on (CL.FLAGS.SAT c) = (s.on (CL.FLAGS.SAT c) || f.sat)

/-- Of cluster `c`, nothing but what `movedOn` allows may differ; outside it, nothing but PC in CL.STATE, the listed
fields and the event counters. -/
def State.movedOnCounting (s t : State) (c : Nat) (l : List Field) : Prop :=
  t = { s with regs := t.regs, log := t.log, notices := t.notices,
               comp := { s.comp with clusters := t.comp.clusters } } ∧
  s.otherClusters t c ∧ s.regsBut t (CL.STATE.PC c :: l ++ counterFields) ∧
  t.cl c = { s.cl c with pc := (s.cl c).pc + 1, shake := s.now,
                         a := (t.cl c).a, p := (t.cl c).p, v := (t.cl c).v, t := (t.cl c).t }

/-- Vector register `d` holds `f i` in every enabled lane and what it held in the others; the other vector registers and
the other register files are unchanged. -/
def Cluster.lanesWritten (x y : Cluster) (d : Nat) (e : Pred) (f : Nat → Lane) : Prop :=
  (∀ i, i < 64 → y.lane d i = if enabled e i then f i else x.lane d i) ∧
  (∀ r i, r ≠ d → i < 64 → y.lane r i = x.lane r i) ∧ x.sameA y ∧ x.sameP y ∧ x.sameT y

/-- Predicate register `d` holds `v`, but for P0, which reads all ones; the other registers are unchanged. -/
def Cluster.predWritten (x y : Cluster) (d : Nat) (v : Pred) : Prop :=
  y.preg d = (if d = 0 then BitVec.allOnes 64 else v) ∧ (∀ r, r ≠ d → y.preg r = x.preg r) ∧
  x.sameA y ∧ x.sameV y ∧ x.sameT y

/-- A register `d` holds `v`; the other registers are unchanged. -/
def Cluster.aWritten (x y : Cluster) (d : Nat) (v : AWord) : Prop :=
  y.areg d = v ∧ (∀ r, r ≠ d → y.areg r = x.areg r) ∧ x.sameP y ∧ x.sameV y ∧ x.sameT y

/-! ### The Urdal link -/

/-- A message waits to be sent to the companion, or has been sent and no ACK covers it yet (R385). -/
def State.carries (s : State) (m : Msg) : Prop := m ∈ s.ulk.out ∨ ∃ q, (q, m) ∈ s.ulk.replay

/-- The companion's requests of a line are served: the link is UP, the package is not in recovery, and the line lies in
LPDDR5 (R388, R396). -/
def State.serves (s : State) (line : Nat) : Prop :=
  s.ulState = ulUp ∧ s.recovering = false ∧ 64 * line + 64 ≤ s.lpEnd

/-! ### Invariants of a run -/

/-- Main memory stands in its one canonical form. -/
def State.memoryWf (s : State) : Prop := s.comp.lpddr.wf = true

/-- A command and its outcome: it has completed, and the queue is as it was. -/
def completes (i : Instr) (s : State) : Prop := ∃ t, exec i s = .next t

end Sys2Proof.Machine
end

