-- ==== Sys2Proof/Certificates/Slice0/Obligations.lean ====
section
/-! DEFINITION. The statements for the provers, family by family of the table of operations and events. -/
open Sys2Proof Sys2Proof.Machine

/-! ### Hall time (R39-R48, R62) -/

/-- R46, R48, R57: a switch of domain asked for in LOCKED, or owed to the preferred domain, waits for the frame
boundary, and nothing else changes. R46, R47, R62: RESEAT, by command or by a disagreement that the seams do not vouch
for, closes both slot gates, shows an unbounded error and raises its flag. Its definitions follow the model's choices
in log entry 11. -/
def Obligations.GaugeSwitchReseat : Prop :=
  (∀ s : State, s.gState = gLocked → s.valid .a = true → s.active = .b →
    exec .toA s = .next { s with gauge := { s.gauge with switchTo := some false } }) ∧
  (∀ s : State, s.gState = gLocked → s.valid .b = true → s.active = .a →
    exec .toB s = .next { s with gauge := { s.gauge with switchTo := some true } }) ∧
  (∀ s : State, s.on GAUGE.CTRL.REVERT = true → s.gState = gLocked → s.active ≠ s.pref → s.valid s.pref = true →
    s.rd GAUGE.REVERT.FRAMES ≤ (s.dom s.pref).validRun →
    exec .revert s = .next { s with gauge := { s.gauge with switchTo := some (s.pref == Dom.b) } }) ∧
  (∀ (s : State) (c : Instr),
     ((c = .reseat ∧ (s.gState = gLocked ∨ s.gState = gSeamHeld ∨ s.gState = gHoldover) ∧ s.validDom.isSome = true) ∨
       (c = .disagreement ∧ s.gState = gLocked ∧ 8 ≤ s.gauge.disRun ∧ s.gauge.disSeam = false)) →
     ∃ t, exec c s = .next t ∧ t.gState = gReseat ∧ t.on GAUGE.STATUS.OPT_OK = false ∧ t.on GAUGE.STATUS.CU_OK = false ∧
       t.rd GAUGE.EST_ERR.PS = 0xFFFFFFFF ∧ t.rd GAUGE.EVENT.RESEAT = 1 ∧
       t = { s with regs := t.regs, log := t.log, notices := t.notices, gauge := t.gauge } ∧
       s.regsButEvent t [GAUGE.STATUS.STATE, GAUGE.STATUS.OPT_OK, GAUGE.STATUS.CU_OK, GAUGE.EST_ERR.PS,
         GAUGE.EVENT.RESEAT, GAUGE.EVENT.OPT_GATE, seqOf GAUGE.EVENT.RESEAT, seqOf GAUGE.EVENT.OPT_GATE])

/-- R39-R42: what a domain's pulses, its reference and its qualification do to its record. An edge in the capture
window is stamped and judged good; a window without an edge is a miss, counted; a domain that fits becomes valid and
one that does not becomes invalid, with an event; a gap in the active reference leaves the DCO without it. Its
definitions follow the model's choices in log entries 10, 39. -/
def Obligations.DomainRecords : Prop :=
  (∀ (s : State) (d : Dom) (at' : Nat), s.gState = gLocked → s.now ≤ at' → (edgeFrame at' (s.cable d)).2.natAbs ≤ winHalf →
    0 ≤ (edgeFrame at' (s.cable d)).1 → (s.dom d).frame ≠ (edgeFrame at' (s.cable d)).1.toNat →
    ∃ t, exec (.refplsEdge d at') s = .next t ∧ t.now = at' ∧ t.rd (capField d) = hallTime at' % 2 ^ (capField d).width ∧
      (t.dom d).verdict = .good ∧ (t.dom d).lastEdge = some at' ∧ (t.dom d).inWin = [at'] ∧
      t.dom d.other = s.dom d.other ∧ s.regsBut t [capField d]) ∧
  (∀ (s : State) (d : Dom) (f : Nat), s.gState = gLocked → (s.dom d).frame ≠ f → s.unsafeBlock 23 = true →
    ∃ t, exec (.pulseWindowClose d f) s = .next t ∧ (t.dom d).verdict = .miss ∧ (t.dom d).frame = f ∧
      t.rd (missField d) = (s.rd (missField d) + 1) % 2 ^ (missField d).width ∧ s.regsBut t [missField d]) ∧
  (∀ (s : State) (d : Dom), s.gState = gFree → s.valid d = false → (s.dom d).clk = true →
    (s.port d).results = List.replicate 8 true → s.rd GAUGE.QUAL.PLS_GOOD ≤ (s.dom d).goodNow →
    ∃ t, exec (.domainQualify d true) s = .next t ∧ t.valid d = true ∧ (t.dom d).ppmOk = true ∧
      t = { s with regs := t.regs, gauge := t.gauge } ∧ s.regsBut t [validField d]) ∧
  (∀ (s : State) (d : Dom), s.gState = gFree → s.valid d = true →
    ∃ t, exec (.domainDisqualify d false) s = .next t ∧ t.valid d = false ∧ (t.dom d).goodRun = 0 ∧
      t.rd (match d with | .a => GAUGE.EVENT.A_DISQ | .b => GAUGE.EVENT.B_DISQ) = 1 ∧
      s.regsButEvent t [validField d, GAUGE.EVENT.A_DISQ, GAUGE.EVENT.B_DISQ, seqOf GAUGE.EVENT.A_DISQ, seqOf GAUGE.EVENT.B_DISQ]) ∧
  (∀ (s : State) (d : Dom) (at' : Nat), s.gauge.dco = dcoOf d → s.valid d.other = false →
    ∃ t, exec (.refclkGap d at') s = .next t ∧ (t.dom d).clk = false ∧ (t.dom d).gap = true ∧ t.gauge.dco = .hold ∧
      t.now = max s.now at' ∧ t.regs = s.regs) ∧
  (∀ (s : State) (d : Dom) (at' : Nat), s.gState ≠ gFree → s.gState ≠ gHoldover → s.active = d →
    ∃ t, exec (.dcoLock d at') s = .next t ∧ (t.dom d).clk = true ∧ t.gauge.dco = dcoOf d ∧ t.now = max s.now at' ∧
      t.regs = s.regs)

/-- R46: SETTLE is entered from FREE on the preferred domain's provisional time, and left for LOCKED when its gear has
run; LOOP_HOLD takes LOCKED to HOLDOVER. R45, R62: a slot gate rises after four frame boundaries within its bound;
loop coefficients are taken only in FREE or under LOOP_HOLD, and are refused with an event otherwise. Its definitions
follow the model's choices in log entries 23, 32, 40, 41. -/
def Obligations.GaugeSettleGates : Prop :=
  (∀ (s : State) (at' m c : Nat), s.gState = gFree → s.on GAUGE.CTRL.ENABLE = true → s.settleFit s.pref = true →
    (s.port s.pref).prov = some (m, c) → s.loopOpen = false →
    ∃ t, exec (.settleEntry at') s = .next t ∧ t.gState = gSettle ∧ t.active = s.pref ∧ t.rd GAUGE.STATUS.GEAR = 0 ∧
      t.now = (m + (max s.now at' - c)) / 65536 * 65536 + max s.now at' % 65536 ∧ t.gauge.errSum = 0 ∧
      s.regsBut t [GAUGE.STATUS.STATE, GAUGE.STATUS.ACTIVE, GAUGE.STATUS.GEAR, GAUGE.EST_ERR.PS, TIO.COUNTS.TPO_SKIP]) ∧
  (∀ s : State, s.gState = gSettle → s.valid s.active = true → s.rd GAUGE.GEAR.FRAMES ≤ s.gauge.gearRun →
    s.rd GAUGE.GEAR.FRAMES ≠ 0 →
    ∃ t, exec .gearComplete s = .next t ∧ t.gState = gLocked ∧ t.rd GAUGE.STATUS.GEAR = 1 ∧ t.gauge.errSum = 0 ∧
      t = { s with regs := t.regs, gauge := t.gauge } ∧ s.regsBut t [GAUGE.STATUS.STATE, GAUGE.STATUS.GEAR]) ∧
  (∀ s : State, s.csrSound → s.gState = gLocked →
    ∃ t, exec (.loopHold true) s = .next t ∧ t.gState = gHoldover ∧ t.on GAUGE.CTRL.LOOP_HOLD = true ∧
      t.gauge.marked = false ∧ t.gauge.holdEst = s.rd GAUGE.EST_ERR.PS ∧ t.rd GAUGE.EVENT.HOLDOVER = 1 ∧
      s.regsButEvent t [GAUGE.STATUS.STATE, GAUGE.CTRL.LOOP_HOLD, GAUGE.EVENT.HOLDOVER, seqOf GAUGE.EVENT.HOLDOVER]) ∧
  (∀ s : State, s.gState = gLocked → 4 ≤ s.gauge.optRun →
    ∃ t, exec (.slotGateRise false) s = .next t ∧ t.on GAUGE.STATUS.OPT_OK = true ∧ s.onlyRegs t [GAUGE.STATUS.OPT_OK]) ∧
  (∀ s : State, s.gState = gLocked → 4 ≤ s.gauge.cuRun →
    ∃ t, exec (.slotGateRise true) s = .next t ∧ t.on GAUGE.STATUS.CU_OK = true ∧ s.onlyRegs t [GAUGE.STATUS.CU_OK]) ∧
  (∀ (s : State) (v : BitVec 32), s.csrSound → s.on GAUGE.CTRL.LOOP_HOLD = true →
    ∃ t, exec (.gaugeCoefWrite true v) s = .next t ∧ t.rd GAUGE.LOOP_TRK.KP = v.toNat / 65536 ∧
      t.rd GAUGE.LOOP_TRK.KI = v.toNat % 65536 ∧ s.onlyRegs t [GAUGE.LOOP_TRK.KP, GAUGE.LOOP_TRK.KI]) ∧
  (∀ (s : State) (trk : Bool) (v : BitVec 32), s.csrSound → s.on GAUGE.CTRL.LOOP_HOLD = false → s.gState ≠ gFree →
    ∃ t, exec (.gaugeCoefWrite trk v) s = .next t ∧ t.rd GAUGE.EVENT.COEF_REFUSED = 1 ∧
      t.rd GAUGE.COUNTS.COEF_REFUSED = (s.rd GAUGE.COUNTS.COEF_REFUSED + 1) % 2 ^ GAUGE.COUNTS.COEF_REFUSED.width ∧
      s.onlyEvent t [GAUGE.COUNTS.COEF_REFUSED, GAUGE.EVENT.COEF_REFUSED, seqOf GAUGE.EVENT.COEF_REFUSED])

/-! ### Time at the edges (R68-R84, R527) -/

/-- R81-R84: what the messages of a time port leave in it. A two-step Sync of the selected master waits for its
Follow_Up, which records the sample; a Delay_Req queues its stamp and waits for its answer, which gives meanPathDelay.
R81, R83, R527: the first Announce of a master selects it; three of its intervals without one lose it; two seconds
without a pair record a void sample; loss of block lock empties the port. Its definitions follow the model's choices
in log entries 29, 31. -/
def Obligations.TimePorts : Prop :=
  (∀ (s : State) (p : Dom) (t domain sender seqId : Nat), s.portUp p = true → domain = s.rd (TIO.TP_CFG.DOMAIN (portNum p)) →
    (s.port p).parent = some sender →
    exec (.sync p t true domain sender seqId) s =
      .next ((s.advance t).setPort p { s.port p with sync := some (seqId, t) })) ∧
  (∀ (s : State) (p : Dom) (t domain sender seqId origin rx : Nat), s.portUp p = true →
    domain = s.rd (TIO.TP_CFG.DOMAIN (portNum p)) → (s.port p).parent = some sender → (s.port p).sync = some (seqId, rx) →
    ∃ u, exec (.followUp p t domain sender seqId origin) s = .next u ∧ (u.port p).sync = none ∧
      (u.port p).pair = some ((rx : Int) - origin) ∧
      (u.port p).prov = some (((origin : Int) + s.rd (TIO.TP_MPD.MPD (portNum p)) + s.asymmetry p).toNat, rx) ∧
      (u.port p).lastOff = (s.advance t).ptpOffset p rx origin ∧
      s.regsBut u [TIO.TP_STAT.GOOD8 (portNum p), TIO.TP_STAT.PSTATE (portNum p), TIO.TP_OFFSET.OFFSET (portNum p)]) ∧
  (∀ (s : State) (p : Dom) (t seqId : Nat), s.portUp p = true → (s.port p).gm.isSome = true → (s.port p).txq.length < 8 →
    exec (.delayReq p t seqId) s = .next ((s.advance t).setPort p
      { s.port p with txq := (s.port p).txq ++ [⟨t, 1, seqId⟩], dreq := some (seqId, t) })) ∧
  (∀ (s : State) (p : Dom) (t domain seqId receive tx : Nat) (d : Int), s.portUp p = true →
    domain = s.rd (TIO.TP_CFG.DOMAIN (portNum p)) → (s.port p).dreq = some (seqId, tx) → (s.port p).pair = some d →
    ∃ u, exec (.delayResp p t domain seqId receive) s = .next u ∧ (u.port p).dreq = none ∧ (u.port p).hasMpd = true ∧
      u.rd (TIO.TP_MPD.MPD (portNum p)) = min ((d + ((receive : Int) - tx)) / 2).toNat (2 ^ 32 - 1) ∧
      s.regsBut u [TIO.TP_MPD.MPD (portNum p)]) ∧
  (∀ (s : State) (p : Dom) (t domain : Nat) (m : AnnounceMsg), s.portUp p = true →
    domain = s.rd (TIO.TP_CFG.DOMAIN (portNum p)) → (s.port p).masters = [] → (s.port p).lastGm = none →
    (s.port p).gm = none → s.active ≠ p →
    ∃ u, exec (.announce p t domain m) s = .next u ∧ (u.port p).parent = some m.sender ∧ (u.port p).gm = some m.gm ∧
      (u.port p).masters = [(m, t)] ∧ u.rd (TIO.TP_GM.CLOCK_ID (portNum p)) = m.gm % 2 ^ 64 ∧
      u.rd (TIO.TP_STAT.PSTATE (portNum p)) = 3 ∧
      s.regsBut u [TIO.TP_GM.CLOCK_ID (portNum p), TIO.TP_STAT.PSTATE (portNum p)]) ∧
  (∀ (s : State) (p : Dom) (t at' : Nat) (m : AnnounceMsg) (r : List (AnnounceMsg × Nat)), (s.port p).masters = (m, at') :: r →
    (s.port p).parent = some m.sender → at' + 3 * logSeconds m.logPeriod ≤ t → s.on (TIO.TP_CFG.EN (portNum p)) = true →
    s.on (TIO.TP_STAT.LINK (portNum p)) = true →
    ∃ u, exec (.announceReceiptTimeout p t) s = .next u ∧ (u.port p).parent = none ∧ (u.port p).gm = none ∧
      u.rd (TIO.TP_GM.CLOCK_ID (portNum p)) = 0 ∧ u.rd (TIO.TP_STAT.PSTATE (portNum p)) = 2 ∧
      s.regsBut u [TIO.TP_GM.CLOCK_ID (portNum p), TIO.TP_STAT.PSTATE (portNum p)]) ∧
  (∀ (s : State) (p : Dom) (t : Nat), s.portUp p = true → (s.port p).gm.isSome = true →
    (s.port p).lastPair + Config.ns 2000000000 ≤ t →
    ∃ u, exec (.ptpSampleTimeout p t) s = .next u ∧ (u.port p).results = (false :: (s.port p).results).take 8 ∧
      (u.port p).lastOff = none ∧ u.rd (TIO.TP_STAT.PSTATE (portNum p)) = 3 ∧
      s.regsBut u [TIO.TP_STAT.GOOD8 (portNum p), TIO.TP_STAT.PSTATE (portNum p)]) ∧
  (∀ (s : State) (p : Dom), s.on (TIO.TP_CFG.EN (portNum p)) = true →
    ∃ u, exec (.tportBlockLock p false) s = .next u ∧ (u.port p).masters = [] ∧ (u.port p).parent = none ∧
      u.on (TIO.TP_STAT.LINK (portNum p)) = false ∧ u.rd (TIO.TP_STAT.PSTATE (portNum p)) = 1 ∧
      s.regsBut u [TIO.TP_STAT.LINK (portNum p), TIO.TP_GM.CLOCK_ID (portNum p), TIO.TP_STAT.PSTATE (portNum p)])

/-- R68-R73: a pulse output. It is armed and disarmed; its period and start are written; an edge on its grid is
committed, placed, and returns to idle. Its definitions follow the model's choices in log entries 24, 37. -/
def Obligations.PulseOutputs : Prop :=
  (∀ (s : State) (n : Fin 8), s.csrSound → s.rd (TIO.TPO_CTRL.MODE n) = 2 → s.unsafeBlock 2 = false →
    ∃ t, exec (.tpoArm n) s = .next t ∧ t.on (TIO.TPO_CTRL.ARMED n) = true ∧ s.onlyRegs t [TIO.TPO_CTRL.ARMED n]) ∧
  (∀ (s : State) (n : Fin 8), s.csrSound →
    ∃ t, exec (.tpoDisarm n) s = .next t ∧ t.on (TIO.TPO_CTRL.ARMED n) = false ∧ s.onlyRegs t [TIO.TPO_CTRL.ARMED n]) ∧
  (∀ (s : State) (n : Fin 8) (v : BitVec 32), s.csrSound → v ≠ 0 → s.rd (TIO.TPO_CTRL.MODE n) ≠ 2 →
    ∃ t, exec (.tpoConfigWrite n .period v) s = .next t ∧ t.rd (TIO.TPO_PERIOD.PERIOD n) = v.toNat ∧
      s.onlyRegs t [TIO.TPO_PERIOD.PERIOD n]) ∧
  (∀ (s : State) (n : Fin 8) (v : BitVec 32), s.csrSound → s.on (TIO.TPO_CTRL.ARMED n) = false →
    ∃ t, exec (.tpoStartWrite n false v) s = .next t ∧ t.rd (TIO.TPO_START_LO.TNS_LO n) = v.toNat ∧
      s.onlyRegs t [TIO.TPO_START_LO.TNS_LO n]) ∧
  (∀ (s : State) (n : Fin 8) (t : Nat), s.on (TIO.TPO_CTRL.ARMED n) = true → s.gState = gLocked →
    s.tpoOnGrid n (t + Config.ns 1000) = true → (s.pulse n).fresh (t + Config.ns 1000) = true →
    exec (.tpoEdgeCommit n t) s = .next ((s.advance t).setPulse n { s.pulse n with
      last := some (t + Config.ns 1000),
      committed := (s.pulse n).committed ++
        [⟨t + Config.ns 1000, s.rd (TIO.TPO_CTRL.WIDTH n), s.on (TIO.TPO_CTRL.POL n)⟩] })) ∧
  (∀ (s : State) (n : Fin 8) (c : PulseEdge) (r : List PulseEdge), (s.pulse n).committed = c :: r →
    (s.pulse n).active = false → (s.pulse n).idleAt = 0 → s.rd (TIO.TPO_CTRL.MODE n) = 2 →
    exec (.tpoEdge n c.time) s = .next ((s.advance c.time).setPulse n { s.pulse n with
      committed := r, active := true, low := c.low, idleAt := c.time + Config.ns c.width })) ∧
  (∀ (s : State) (n : Fin 8) (t : Nat), (s.pulse n).active = true → (s.pulse n).idleAt ≤ t →
    exec (.tpoIdleReturn n t) s = .next ((s.advance t).setPulse n { s.pulse n with active := false }))

/-- R74-R76, R84, R471: a selected edge is stamped, at most four deep; selecting a capture or a transmit queue through
the mailbox removes its oldest stamp and presents it. R46, R60, R78: an armed trigger whose start is reached fires its
job in the states that run programs, and is missed in the others; a frame boundary is the Gauge's, then the fabric's
while the main domain is up. -/
def Obligations.StampsAndTriggers : Prop :=
  (∀ (s : State) (n : Fin 4) (t : Nat) (rising : Bool), tciSelects (s.rd (TIO.TCI_CTRL.IN n)) rising = true →
    s.unsafeBlock 2 = false → (s.cap n).last = none → (s.cap n).fifo.length < 4 →
    ∃ u, exec (.tciEdge n t rising) s = .next u ∧ u.cap n = { fifo := (s.cap n).fifo ++ [⟨t, s.gState⟩], last := some t } ∧
      u.rd (TIO.TCI_STAT.FILL n) = (s.cap n).fifo.length + 1 ∧ s.regsBut u [TIO.TCI_STAT.FILL n]) ∧
  (∀ (s : State) (n : Fin 4) (b : Bank) (c : Stamp) (r : List Stamp), (s.cap n).fifo = c :: r → r.length < 4 →
    ∃ u, exec (.tciCapSelect n b) s = .next u ∧ (u.cap n).fifo = r ∧ u.rd (TIO.TCI_STAT.FILL n) = r.length ∧
      u.rd TIO.CAP_LAST.EMPTY = 0 ∧
      Tbl.look u.mbx b.num = some ⟨TIO.CAP.base + 0x10 * n.val, hallTime c.time, false⟩) ∧
  (∀ (s : State) (p : Dom) (b : Bank) (c : TxStamp) (r : List TxStamp), (s.port p).txq = c :: r →
    ∃ u, exec (.txqSelect p b) s = .next u ∧ (u.port p).txq = r ∧ (Tbl.look u.mbx b.num).isSome = true) ∧
  (∀ (s : State) (j : Fin 8) (t : Nat), (s.job j).stage = .armed → (s.job j).start * 65536 ≤ max s.now t → s.gState = gLocked →
    exec (.jobStartTrigger j t) s = .next ((s.advance t).fireJob j)) ∧
  (∀ (s : State) (j : Fin 8) (t : Nat), (s.job j).stage = .armed → (s.job j).start * 65536 ≤ max s.now t → s.gState = gFree →
    ∃ u, exec (.jobStartTrigger j t) s = .next u ∧ (u.job j).stage = .free ∧ u.rd TIO.EVENT.PTRIG_MISSED = 1) ∧
  (∀ (s : State) (f : Nat) (powers : List PortPower), s.sys.vaux = true → frameOf s.now ≤ f →
    ((s.advance (f * Config.frameTime)).gaugeFrame f).mainUp = true →
    exec (.frameBoundary f powers) s =
      .next ((((s.advance (f * Config.frameTime)).gaugeFrame f).fabricFrame f powers).count ctrFtd 0x002 0))

/-! ### The instructions of the clusters (R290-R347) -/

/-- R326, R330: a scalar instruction that may execute writes A[AD] and nothing else, and the program moves on by one. -/
def Obligations.ScalarResults : Prop :=
  ∀ (s : State) (c : Fin 2048) (w : Nat) (i : Instr) (v : AWord), s.permitted c w →
    (s.issuing c w 0x20 [predField, (48, 4), (44, 4), (40, 4)] ∧ i = .aadd c ∧
        v = (s.cl c).areg (fAA w) + (s.cl c).areg (fAB w)) ∨
      (s.issuing c w 0x21 [predField, (48, 4), (44, 4), (0, 28)] ∧ i = .aaddi c ∧
        v = (s.cl c).areg (fAA w) + BitVec.ofInt 48 (fImm28 w)) ∨
      (s.issuing c w 0x22 [predField, (48, 4), (44, 4), (40, 4)] ∧ i = .asub c ∧
        v = (s.cl c).areg (fAA w) - (s.cl c).areg (fAB w)) ∨
      (s.issuing c w 0x23 [predField, (48, 4), (44, 4), (40, 4)] ∧ i = .amul c ∧
        v = (s.cl c).areg (fAA w) * (s.cl c).areg (fAB w)) ∨
      (s.issuing c w 0x24 [predField, (48, 4), (44, 4), (40, 4)] ∧ i = .aand c ∧
        v = (s.cl c).areg (fAA w) &&& (s.cl c).areg (fAB w)) ∨
      (s.issuing c w 0x25 [predField, (48, 4), (44, 4), (40, 4)] ∧ i = .aor c ∧
        v = (s.cl c).areg (fAA w) ||| (s.cl c).areg (fAB w)) ∨
      (s.issuing c w 0x26 [predField, (48, 4), (44, 4), (40, 4)] ∧ i = .axor c ∧
        v = (s.cl c).areg (fAA w) ^^^ (s.cl c).areg (fAB w)) ∨
      (s.issuing c w 0x27 [predField, (48, 4), (44, 4), (0, 28)] ∧ 0 ≤ fImm28 w ∧ fImm28 w ≤ 47 ∧ i = .ashli c ∧
        v = (s.cl c).areg (fAA w) <<< (fImm28 w).toNat) ∨
      (s.issuing c w 0x28 [predField, (48, 4), (44, 4), (0, 28)] ∧ 0 ≤ fImm28 w ∧ fImm28 w ≤ 47 ∧ i = .ashri c ∧
        v = (s.cl c).areg (fAA w) >>> (fImm28 w).toNat) ∨
      (s.issuing c w 0x29 [predField, (48, 4), (0, 48)] ∧ i = .amovi c ∧ v = BitVec.ofNat 48 (w % 2 ^ 48)) ∨
      (s.issuing c w 0x30 [predField, (48, 4), (34, 3)] ∧ i = .pcnt c ∧
        v = BitVec.ofNat 48 (popCount ((s.cl c).preg (fPA w)))) →
    ∃ t, exec i s = .next t ∧ (s.cl c).aWritten (t.cl c) (fAD w) v ∧ s.movedOn t c

/-- R326, R330: an instruction that executes under its predicate's bit 0 does nothing but move the program on where
that bit is 0. R322, R326, R330: an instruction that writes a whole predicate register writes P[PD], never P0, and
nothing else. R326, R330: a vector comparison writes the enabled bits of P[PD] and keeps the others. -/
def Obligations.Predicates : Prop :=
  (∀ (s : State) (c : Fin 2048) (w : Nat) (i : Instr), ¬ s.permitted c w →
     (s.issuing c w 0x20 [predField, (48, 4), (44, 4), (40, 4)] ∧ i = .aadd c) ∨
       (s.issuing c w 0x29 [predField, (48, 4), (0, 48)] ∧ i = .amovi c) ∨
       (s.issuing c w 0x2C [predField, (37, 3), (34, 3), (31, 3)] ∧ i = .pand c) ∨
       (s.issuing c w 0xC0 [predField, (44, 4), (40, 4), (31, 3), (0, 25)] ∧ i = .put c) ∨
       (s.issuing c w 0xCB [predField, (48, 4), (34, 6)] ∧ i = .gbar c) →
     ∃ t, exec i s = .next t ∧ t.cl c = { s.cl c with pc := (s.cl c).pc + 1, shake := s.now } ∧
       s.onlyCluster t c [CL.STATE.PC c]) ∧
  (∀ (s : State) (c : Fin 2048) (w : Nat) (i : Instr) (v : Pred), s.permitted c w →
     (s.issuing c w 0x2A [predField, (44, 4), (40, 4), (37, 3), (28, 3)] ∧ i = .acmp c ∧
         v = allOf (cmpBits (fCond w) ((s.cl c).areg (fAA w)) ((s.cl c).areg (fAB w)))) ∨
       (s.issuing c w 0x2B [predField, (44, 4), (37, 3), (28, 3), (0, 28)] ∧ i = .acmpi c ∧
         v = allOf (cmpBits (fCond w) ((s.cl c).areg (fAA w)) (BitVec.ofInt 48 (fImm28 w)))) ∨
       (s.issuing c w 0x2C [predField, (37, 3), (34, 3), (31, 3)] ∧ i = .pand c ∧
         v = (s.cl c).preg (fPA w) &&& (s.cl c).preg (fPB w)) ∨
       (s.issuing c w 0x2D [predField, (37, 3), (34, 3), (31, 3)] ∧ i = .por c ∧
         v = (s.cl c).preg (fPA w) ||| (s.cl c).preg (fPB w)) ∨
       (s.issuing c w 0x2E [predField, (37, 3), (34, 3), (31, 3)] ∧ i = .pxor c ∧
         v = (s.cl c).preg (fPA w) ^^^ (s.cl c).preg (fPB w)) ∨
       (s.issuing c w 0x2F [predField, (37, 3), (34, 3)] ∧ i = .pnot c ∧ v = ~~~ (s.cl c).preg (fPA w)) ∨
       (s.issuing c w 0x31 [predField, (44, 4), (37, 3)] ∧ i = .pfroma c ∧
         v = BitVec.ofNat 64 ((s.cl c).areg (fAA w)).toNat) →
     ∃ t, exec i s = .next t ∧ (s.cl c).predWritten (t.cl c) (fPD w) v ∧ s.movedOn t c) ∧
  (∀ (s : State) (c : Fin 2048) (w : Nat) (i : Instr) (f : Nat → Bool),
     (s.issuing c w 0x4C [predField, (40, 6), (34, 6), (25, 3), (22, 3)] ∧ i = .vcmp c ∧
         f = fun n => f32Cmp (fVCond w) ((s.cl c).lane (fVA w) n) ((s.cl c).lane (fVB w) n)) ∨
       (s.issuing c w 0x59 [predField, (40, 6), (34, 6), (25, 3), (22, 3)] ∧ i = .vicmp c ∧
         f = fun n => cmpBits (fVCond w) ((s.cl c).lane (fVA w) n) ((s.cl c).lane (fVB w) n)) ∨
       (s.issuing c w 0x5C [predField, (40, 6), (25, 3)] ∧ i = .pfromv c ∧ f = fun n => (s.cl c).lane (fVA w) n != 0) →
     ∃ t v, exec i s = .next t ∧ (s.cl c).predWritten (t.cl c) (fVPD w) v ∧
       (∀ n, n < 64 → v.getLsbD n = if enabled ((s.cl c).pred w) n then f n else ((s.cl c).preg (fVPD w)).getLsbD n) ∧
       t.rd (CL.STEPS.VOPS c) = (s.rd (CL.STEPS.VOPS c) + 1) % 2 ^ (CL.STEPS.VOPS c).width ∧
       s.movedOnCounting t c [CL.STEPS.VOPS c])

/-- R296, R297, R312, R326, R330: a lane-wise instruction writes VD in every enabled lane, gathers those lanes' flags and
counts one vector operation. -/
def Obligations.LanewiseResults : Prop :=
  ∀ (s : State) (c : Fin 2048) (w : Nat) (i : Instr) (f : Nat → Lane × Flags),
    (s.issuing c w 0x40 [predField, (46, 6), (40, 6), (34, 6)] ∧ i = .vadd c ∧
        f = fun n => f32Add ((s.cl c).lane (fVA w) n) ((s.cl c).lane (fVB w) n)) ∨
      (s.issuing c w 0x41 [predField, (46, 6), (40, 6), (34, 6)] ∧ i = .vsub c ∧
        f = fun n => f32Sub ((s.cl c).lane (fVA w) n) ((s.cl c).lane (fVB w) n)) ∨
      (s.issuing c w 0x42 [predField, (46, 6), (40, 6), (34, 6)] ∧ i = .vmul c ∧
        f = fun n => f32Mul ((s.cl c).lane (fVA w) n) ((s.cl c).lane (fVB w) n)) ∨
      (s.issuing c w 0x43 [predField, (46, 6), (40, 6), (34, 6), (28, 6)] ∧ i = .vfma c ∧
        f = fun n => f32Fma ((s.cl c).lane (fVA w) n) ((s.cl c).lane (fVB w) n) ((s.cl c).lane (fVC w) n)) ∨
      (s.issuing c w 0x44 [predField, (46, 6), (40, 6), (34, 6)] ∧ i = .vmin c ∧
        f = fun n => (f32Min ((s.cl c).lane (fVA w) n) ((s.cl c).lane (fVB w) n), {})) ∨
      (s.issuing c w 0x45 [predField, (46, 6), (40, 6), (34, 6)] ∧ i = .vmax c ∧
        f = fun n => (f32Max ((s.cl c).lane (fVA w) n) ((s.cl c).lane (fVB w) n), {})) ∨
      (s.issuing c w 0x46 [predField, (46, 6), (40, 6)] ∧ i = .vabs c ∧
        f = fun n => ((s.cl c).lane (fVA w) n &&& 0x7FFFFFFF, {})) ∨
      (s.issuing c w 0x47 [predField, (46, 6), (40, 6)] ∧ i = .vneg c ∧
        f = fun n => ((s.cl c).lane (fVA w) n ^^^ 0x80000000, {})) ∨
      (s.issuing c w 0x48 [predField, (46, 6), (40, 6)] ∧ i = .vexp2 c ∧ f = fun n => f32Exp2 ((s.cl c).lane (fVA w) n)) ∨
      (s.issuing c w 0x49 [predField, (46, 6), (40, 6)] ∧ i = .vlog2 c ∧ f = fun n => f32Log2 ((s.cl c).lane (fVA w) n)) ∨
      (s.issuing c w 0x4A [predField, (46, 6), (40, 6)] ∧ i = .vrcp c ∧ f = fun n => f32Rcp ((s.cl c).lane (fVA w) n)) ∨
      (s.issuing c w 0x4B [predField, (46, 6), (40, 6)] ∧ i = .vrsq c ∧ f = fun n => f32Rsq ((s.cl c).lane (fVA w) n)) ∨
      (s.issuing c w 0x4F [predField, (46, 6), (40, 6), (34, 6), (25, 3)] ∧ i = .vsel c ∧
        f = fun n => (if enabled ((s.cl c).preg (fVPD w)) n then (s.cl c).lane (fVA w) n else (s.cl c).lane (fVB w) n, {})) →
    ∃ t, exec i s = .next t ∧ (s.cl c).lanesWritten (t.cl c) (fVD w) ((s.cl c).pred w) (fun n => (f n).1) ∧
      s.flagsSet t c (flagsOf ((lanesOn ((s.cl c).pred w)).map f)) ∧
      t.rd (CL.STEPS.VOPS c) = (s.rd (CL.STEPS.VOPS c) + 1) % 2 ^ (CL.STEPS.VOPS c).width ∧
      s.movedOnCounting t c (CL.STEPS.VOPS c :: flagFields c)

/-- R326, R330: the integer, logic, shift and lane instructions write VD in every enabled lane and set no flag. -/
def Obligations.LanewiseInteger : Prop :=
  ∀ (s : State) (c : Fin 2048) (w : Nat) (i : Instr) (f : Nat → Lane),
    (∃ (g : Lane → Lane → Lane) (op : Nat), s.issuing c w op [predField, (46, 6), (40, 6), (34, 6)] ∧
        (f = fun n => g ((s.cl c).lane (fVA w) n) ((s.cl c).lane (fVB w) n)) ∧
        ((i = .viadd c ∧ op = 0x50 ∧ g = fun (a b : Lane) => a + b) ∨ (i = .visub c ∧ op = 0x51 ∧ g = fun (a b : Lane) => a - b) ∨
          (i = .vimul c ∧ op = 0x52 ∧ g = fun (a b : Lane) => a * b) ∨ (i = .vand c ∧ op = 0x53 ∧ g = fun (a b : Lane) => a &&& b) ∨
          (i = .vor c ∧ op = 0x54 ∧ g = fun (a b : Lane) => a ||| b) ∨ (i = .vxor c ∧ op = 0x55 ∧ g = fun (a b : Lane) => a ^^^ b) ∨
          (i = .vshl c ∧ op = 0x56 ∧ g = fun (a b : Lane) => a <<< (b.toNat % 32)) ∨
          (i = .vshr c ∧ op = 0x57 ∧ g = fun (a b : Lane) => a >>> (b.toNat % 32)) ∨
          (i = .vsra c ∧ op = 0x58 ∧ g = fun (a b : Lane) => a.sshiftRight (b.toNat % 32)))) ∨
      (s.issuing c w 0x5A [predField, (46, 6), (40, 6), (34, 6)] ∧ i = .vperm c ∧
        f = fun n => (s.cl c).lane (fVA w) (((s.cl c).lane (fVB w) n).toNat % 64)) ∨
      (s.issuing c w 0x5B [predField, (46, 6)] ∧ i = .vlane c ∧ f = fun n => BitVec.ofNat 32 n) →
    ∃ t, exec i s = .next t ∧ (s.cl c).lanesWritten (t.cl c) (fVD w) ((s.cl c).pred w) f ∧
      t.rd (CL.STEPS.VOPS c) = (s.rd (CL.STEPS.VOPS c) + 1) % 2 ^ (CL.STEPS.VOPS c).width ∧
      s.movedOnCounting t c [CL.STEPS.VOPS c]

/-- R332: a reduction leaves its tree's result in lane 0 of VD and +0 in the other lanes, whatever the predicate.
R303, R309, R334, R335: a conversion writes VD in every enabled lane; one that rounds stochastically draws 16 words
from the cluster's random state. -/
def Obligations.ReductionsAndConversions : Prop :=
  (∀ (s : State) (c : Fin 2048) (w : Nat) (i : Instr) (idle : Lane) (f : Lane → Lane → Lane × Flags),
     (s.issuing c w 0x4D [predField, (46, 6), (40, 6)] ∧ i = .vrsum c ∧ idle = 0x80000000 ∧ f = f32Add) ∨
       (s.issuing c w 0x4E [predField, (46, 6), (40, 6)] ∧ i = .vrmax c ∧ idle = 0xFF800000 ∧
         f = fun a b => (f32Max a b, {})) →
     ∃ t, exec i s = .next t ∧
       (s.cl c).lanesWritten (t.cl c) (fVD w) (BitVec.allOnes 64) (fun n => if n = 0 then
         (tree f 6 ((List.range 64).map fun j =>
           if enabled ((s.cl c).pred w) j then (s.cl c).lane (fVA w) j else idle) {}).1 else 0) ∧
       s.movedOnCounting t c (CL.STEPS.VOPS c :: flagFields c)) ∧
  (∀ (s : State) (c : Fin 2048) (w : Nat) (i : Instr) (f : List (BitVec 64) → Nat → Lane × Flags),
     (s.issuing c w 0x80 [predField, (46, 6), (40, 6), (36, 4), (32, 4), (30, 2), (28, 2)] ∧ cvtOk w = true ∧ i = .cvt c ∧
         f = fun d n => cvtLane w (rndMode (fRnd w) d n) ((s.cl c).lane (fVA w) n)) ∨
       (s.issuing c w 0x81 [predField, (46, 6), (40, 6), (36, 4), (32, 4), (30, 2), (28, 2)] ∧ fFrom w = 0 ∧
         (fTo w = 5 ∨ fTo w = 6) ∧ fRnd w ≤ 2 ∧ fOvf w = 0 ∧ i = .cvtmx c ∧
         f = fun d n =>
           let sc := mxScale (mxFmt (fTo w)).2 ((List.range 32).map fun j => ofF32 ((s.cl c).lane (fVA w) (n / 32 * 32 + j)))
           let r := mxElem (mxFmt (fTo w)).1 (rndMode (fRnd w) d n) sc (ofF32 ((s.cl c).lane (fVA w) n))
           (BitVec.ofNat 32 (r.1 + 256 * sc), r.2)) ∨
       (s.issuing c w 0x82 [predField, (46, 6), (40, 6), (36, 4), (32, 4), (30, 2), (28, 2)] ∧ (fFrom w = 5 ∨ fFrom w = 6) ∧
         fTo w = 0 ∧ fRnd w = 0 ∧ fOvf w = 0 ∧ i = .cvtxf c ∧
         f = fun _ n => toF32 (mxVal (mxFmt (fFrom w)).1 (((s.cl c).lane (fVA w) n).toNat % 256)
           (bitsOf ((s.cl c).lane (fVA w) n).toNat 8 8))) →
     ∃ t, exec i s = .next t ∧
       (s.cl c).lanesWritten (t.cl c) (fVD w) ((s.cl c).pred w) (fun n => (f (s.drawRandom c w).1 n).1) ∧
       s.flagsSet t c (flagsOf ((lanesOn ((s.cl c).pred w)).map (f (s.drawRandom c w).1))) ∧
       (fRnd w = 2 → t.random c = (rngDraws (s.random c) 16).getD 15 0) ∧ (fRnd w ≠ 2 → t.random c = s.random c) ∧
       s.movedOnCounting t c (CL.RNG_LO.STATE c :: CL.RNG_HI.STATE c :: CL.STEPS.VOPS c :: flagFields c))

/-- R298, R326, R329, R333: a vector load writes the lanes that W and LANE name and the predicate enables, from local
SRAM; the other lanes and registers keep what they held. -/
def Obligations.VectorLoads : Prop :=
  ∀ (s : State) (c : Fin 2048) (w : Nat) (ups : List Upset),
    s.issuing c w 0x60 [predField, (46, 6), (42, 4), (36, 6), (32, 4), (0, 32)] → wOk 4 w = true →
    localAddr (s.cl c) w % 8 = 0 →
    let on := (wLanes (fW w) (fLane w)).filter (enabled ((s.cl c).pred w))
    let a := localAddr (s.cl c) w
    let r := (s.issued c).readWords c (wordsAt a (reached (fW w) (fLane w) on)) ups
    reachEnd a (reached (fW w) (fLane w) on) ≤ sramBytes → r.2 = true →
    ∃ t, exec (.vld c ups) s = .next t ∧ (t.cl c).pc = (s.cl c).pc + 1 ∧
      (∀ n, n < 64 → (t.cl c).lane (fVD w) n = if n ∈ on then
          BitVec.ofNat 32 (bitsOf (ofLeBytes ((s.cl c).sram.read (a + laneBit (fW w) (fLane w) n / 8) 5))
            (laneBit (fW w) (fLane w) n % 8) (wBits (fW w)))
        else (s.cl c).lane (fVD w) n) ∧
      (∀ q n, q ≠ fVD w → n < 64 → (t.cl c).lane q n = (s.cl c).lane q n) ∧
      (s.cl c).sameA (t.cl c) ∧ (s.cl c).sameP (t.cl c) ∧ (s.cl c).sameT (t.cl c) ∧
      (∀ x, (t.cl c).sram.get x = (s.cl c).sram.get x) ∧ (ups = [] → s.movedOn t c)

/-- R326, R330, R333: broadcasts write VD in the enabled lanes; VTOA moves one lane, sign-extended, to an A register.
R295, R326, R338: tile zeroing, loads and moves write the enabled columns of a tile, or of a vector register, and no
other element. -/
def Obligations.BroadcastsAndTiles : Prop :=
  (∀ (s : State) (c : Fin 2048) (w : Nat) (i : Instr) (x : Lane),
    (s.issuing c w 0x62 [predField, (46, 6), (0, 32)] ∧ i = .vbci c ∧ x = BitVec.ofNat 32 (w % 2 ^ 32)) ∨
      (s.issuing c w 0x63 [predField, (46, 6), (42, 4)] ∧ i = .vbca c ∧ x = ((s.cl c).areg (fLA w)).setWidth 32) →
    ∃ t, exec i s = .next t ∧ (s.cl c).lanesWritten (t.cl c) (fVD w) ((s.cl c).pred w) (fun _ => x) ∧ s.movedOn t c) ∧
  (∀ (s : State) (c : Fin 2048) (w : Nat), s.permitted c w →
    s.issuing c w 0x64 [predField, (46, 6), (42, 4), (36, 6)] →
    ∃ t, exec (.vtoa c) s = .next t ∧
      (s.cl c).aWritten (t.cl c) (fLA w) (((s.cl c).lane (fVD w) (fLane w)).signExtend 48) ∧ s.movedOn t c) ∧
  (∀ (s : State) (c : Fin 2048) (w : Nat), s.issuing c w 0xA1 [predField, (49, 3)] →
    ∃ t, exec (.tzero c) s = .next t ∧ s.movedOn t c ∧
      (∀ k m n, m < 32 → n < 64 → (t.cl c).elem k m n =
        if k = fTD w ∧ enabled ((s.cl c).pred w) n = true then 0 else (s.cl c).elem k m n) ∧
      (s.cl c).sameA (t.cl c) ∧ (s.cl c).sameP (t.cl c) ∧ (s.cl c).sameV (t.cl c)) ∧
  (∀ (s : State) (c : Fin 2048) (w : Nat) (ups : List Upset),
    s.issuing c w 0xA2 [predField, (49, 3), (34, 4), (0, 32)] →
    let a := tileAddr (s.cl c) w
    let cols := lanesOn ((s.cl c).pred w)
    a % 64 = 0 → rangesOk (tileRanges a cols) = true →
    ((s.issued c).readWords c (rangeWords (tileRanges a cols)) ups).2 = true →
    ∃ t, exec (.tld c ups) s = .next t ∧ (t.cl c).pc = (s.cl c).pc + 1 ∧
      (∀ k m n, m < 32 → n < 64 → (t.cl c).elem k m n =
        if k = fTD w ∧ enabled ((s.cl c).pred w) n = true then
          BitVec.ofNat 32 (ofLeBytes ((s.cl c).sram.read (a + 4 * (64 * m + n)) 4))
        else (s.cl c).elem k m n) ∧
      (s.cl c).sameA (t.cl c) ∧ (s.cl c).sameP (t.cl c) ∧ (s.cl c).sameV (t.cl c) ∧
      (∀ x, (t.cl c).sram.get x = (s.cl c).sram.get x) ∧ (ups = [] → s.movedOn t c)) ∧
  (∀ (s : State) (c : Fin 2048) (w : Nat), s.issuing c w 0xA4 [predField, (49, 3), (43, 6), (38, 5), (34, 4)] →
    ∃ t, exec (.trv c) s = .next t ∧ s.movedOn t c ∧
      (s.cl c).lanesWritten (t.cl c) (fMV w) ((s.cl c).pred w) (fun n => (s.cl c).elem (fTD w) (tileRow (s.cl c) w) n)) ∧
  (∀ (s : State) (c : Fin 2048) (w : Nat), s.issuing c w 0xA5 [predField, (49, 3), (43, 6), (38, 5), (34, 4)] →
    ∃ t, exec (.vtr c) s = .next t ∧ s.movedOn t c ∧
      (∀ k m n, m < 32 → n < 64 → (t.cl c).elem k m n =
        if k = fTD w ∧ m = tileRow (s.cl c) w ∧ enabled ((s.cl c).pred w) n = true then (s.cl c).lane (fMV w) n
        else (s.cl c).elem k m n) ∧
      (s.cl c).sameA (t.cl c) ∧ (s.cl c).sameP (t.cl c) ∧ (s.cl c).sameV (t.cl c))

/-- R298, R326, R329, R333: a vector store writes the enabled lanes' bits into the bytes that they reach; every other
byte of SRAM, and every register, keeps what it held. R295, R329, R338: a tile store writes each enabled column's
elements to local SRAM, four bytes each in rows of 64; every other byte and every register keeps what it held. -/
def Obligations.StoringInstructions : Prop :=
  (∀ (s : State) (c : Fin 2048) (w : Nat),
     s.issuing c w 0x61 [predField, (46, 6), (42, 4), (36, 6), (32, 4), (0, 32)] → wOk 5 w = true →
     (fW w ≠ 5 → localAddr (s.cl c) w % 8 = 0) →
     let on := (wLanes (fW w) (fLane w)).filter (enabled ((s.cl c).pred w))
     let a := localAddr (s.cl c) w
     let l := reached (fW w) (fLane w) on
     reachEnd a l ≤ sramBytes →
     ∃ t, exec (.vst c) s = .next t ∧
       t.cl c = { s.cl c with pc := (s.cl c).pc + 1, shake := s.now, sram := (t.cl c).sram } ∧
       s.onlyCluster t c [CL.STATE.PC c] ∧
       (∀ x, x ∉ l.map (a + ·) → (t.cl c).sram.get x = (s.cl c).sram.get x) ∧
       (fW w ≤ 2 ∨ fW w = 5 → ∀ n ∈ on, (t.cl c).sram.read (a + laneBit (fW w) (fLane w) n / 8) (wBits (fW w) / 8) =
         leBytes (wBits (fW w) / 8)
           (if fW w = 5 then ((s.cl c).lane (fVD w) n).toNat / 256 else ((s.cl c).lane (fVD w) n).toNat))) ∧
  (∀ (s : State) (c : Fin 2048) (w : Nat), s.issuing c w 0xA3 [predField, (49, 3), (34, 4), (0, 32)] →
     let a := tileAddr (s.cl c) w
     let cols := lanesOn ((s.cl c).pred w)
     a % 64 = 0 → rangesOk (tileRanges a cols) = true →
     ∃ t, exec (.tst c) s = .next t ∧
       t.cl c = { s.cl c with pc := (s.cl c).pc + 1, shake := s.now, sram := (t.cl c).sram } ∧
       s.onlyCluster t c [CL.STATE.PC c] ∧
       (∀ m n, m < 32 → n ∈ cols → (t.cl c).sram.read (a + 4 * (64 * m + n)) 4 =
         leBytes 4 ((s.cl c).elem (fTD w) m n).toNat) ∧
       (∀ x, (∀ m n, m < 32 → n ∈ cols → x < a + 4 * (64 * m + n) ∨ a + 4 * (64 * m + n) + 4 ≤ x) →
         (t.cl c).sram.get x = (s.cl c).sram.get x))

/-- R294, R305-R307, R336-R338: a matrix multiply-accumulate over K > 0 whose operands are aligned, in range and
readable replaces every element of TD in an enabled column by its accumulation, from zero where ZERO is set; it sets
the flags of those and counts its matrix steps. One with K = 0 does nothing. Its definitions follow the model's
choices in log entry 47. -/
def Obligations.MatrixMultiply : Prop :=
  (∀ (s : State) (c : Fin 2048) (w : Nat) (ups : List Upset),
    s.issuing c w 0xA0 [predField, (49, 3), (45, 4), (41, 4), (37, 4), (33, 4), (29, 4), (25, 4), (11, 14), (10, 1)] →
    fFA w ≤ 7 → fFB w ≤ 7 → (isMx (fFA w) = false → fRSA w = 0 ∧ fRSB w = 0) →
    (fFA w = fFB w ∨ ((fFA w = 3 ∨ fFA w = 4) ∧ (fFB w = 3 ∨ fFB w = 4))) →
    (isMx (fFA w) = true → fK w % 32 = 0) → fK w ≠ 0 →
    let x := s.cl c
    let o : MmaOp := ⟨fFA w, fFB w, (x.areg (fRA w)).toNat, (x.areg (fRB w)).toNat, (x.areg (fRSA w)).toNat,
      (x.areg (fRSB w)).toNat, fK w⟩
    let cols := lanesOn (x.pred w)
    let start (m n : Nat) : Lane := if fZero w then 0 else x.elem (fTD w) m n
    let res (m n : Nat) : Lane × Flags :=
      if fFA w = 7 then o.accumulateInt x.sram m n (start m n) else o.accumulate x.sram m n (start m n)
    o.a % 64 = 0 → o.b % 64 = 0 → rangesOk (o.ranges cols) = true →
    ((s.issued c).readWords c (rangeWords (o.ranges cols)) ups).2 = true →
    ∃ t, exec (.mma c ups) s = .next t ∧ (t.cl c).pc = x.pc + 1 ∧
      (∀ k m n, m < 32 → n < 64 → (t.cl c).elem k m n =
        if k = fTD w ∧ enabled (x.pred w) n = true then (res m n).1 else x.elem k m n) ∧
      x.sameA (t.cl c) ∧ x.sameP (t.cl c) ∧ x.sameV (t.cl c) ∧ (∀ b, (t.cl c).sram.get b = x.sram.get b) ∧
      s.flagsSet t c (flagsOf (((List.range 32).map fun m => cols.map fun n => res m n).flatten)) ∧
      t.rd (CL.STEPS.MSTEPS c) = (s.rd (CL.STEPS.MSTEPS c) + o.steps) % 2 ^ (CL.STEPS.MSTEPS c).width ∧
      (ups = [] → s.movedOnCounting t c (CL.STEPS.MSTEPS c :: flagFields c))) ∧
  (∀ (s : State) (c : Fin 2048) (w : Nat) (ups : List Upset),
    s.issuing c w 0xA0 [predField, (49, 3), (45, 4), (41, 4), (37, 4), (33, 4), (29, 4), (25, 4), (11, 14), (10, 1)] →
    fFA w ≤ 7 → fFB w ≤ 7 → (isMx (fFA w) = false → fRSA w = 0 ∧ fRSB w = 0) →
    (fFA w = fFB w ∨ ((fFA w = 3 ∨ fFA w = 4) ∧ (fFB w = 3 ∨ fFB w = 4))) → fK w = 0 →
    ∃ t, exec (.mma c ups) s = .next t ∧ t.cl c = { s.cl c with pc := (s.cl c).pc + 1, shake := s.now } ∧
      s.onlyCluster t c [CL.STATE.PC c])

/-- R323, R326, R331: control. NOP moves on; BR, JAL and JR set the program counter; RDFL and CLRFL read and clear the
flags; END with every tag drained and no buffer held ends the program in DONE, and waits while a tag has not drained.
Its definitions follow the model's choices in log entry 42. -/
def Obligations.ControlFlow : Prop :=
  (∀ (s : State) (c : Fin 2048) (w : Nat), s.issuing c w 0x00 [] →
    ∃ t, exec (.nop c false) s = .next t ∧ t.cl c = { s.cl c with pc := (s.cl c).pc + 1, shake := s.now } ∧
      s.onlyCluster t c [CL.STATE.PC c]) ∧
  (∀ (s : State) (c : Fin 2048) (w : Nat), s.fetch c = some w → w / 2 ^ 56 = 0x02 →
    onlyFields w [(41, 3), (39, 2), (0, 13)] = true → brTaken (bitsOf w 39 2) ((s.cl c).preg (bitsOf w 41 3)) = true →
    ∃ t, exec (.br c) s = .next t ∧ t.cl c = { s.cl c with pc := w % 8192, shake := s.now } ∧
      s.onlyCluster t c [CL.STATE.PC c]) ∧
  (∀ (s : State) (c : Fin 2048) (w : Nat), s.issuing c w 0x02 [(41, 3), (39, 2), (0, 13)] →
    brTaken (bitsOf w 39 2) ((s.cl c).preg (bitsOf w 41 3)) = false →
    ∃ t, exec (.br c) s = .next t ∧ t.cl c = { s.cl c with pc := (s.cl c).pc + 1, shake := s.now } ∧
      s.onlyCluster t c [CL.STATE.PC c]) ∧
  (∀ (s : State) (c : Fin 2048) (w : Nat), s.fetch c = some w → w / 2 ^ 56 = 0x03 →
    onlyFields w [(48, 4), (0, 13)] = true →
    ∃ t, exec (.jal c) s = .next t ∧ (t.cl c).pc = w % 8192 ∧
      (s.cl c).aWritten (t.cl c) (fAD w) (BitVec.ofNat 48 ((s.cl c).pc + 1)) ∧
      t.cl c = { s.cl c with pc := w % 8192, shake := s.now, a := (t.cl c).a } ∧ s.onlyCluster t c [CL.STATE.PC c]) ∧
  (∀ (s : State) (c : Fin 2048) (w : Nat), s.fetch c = some w → w / 2 ^ 56 = 0x04 → onlyFields w [(44, 4)] = true →
    ((s.cl c).areg (fAA w)).toNat ≤ 8191 →
    ∃ t, exec (.jr c) s = .next t ∧
      t.cl c = { s.cl c with pc := ((s.cl c).areg (fAA w)).toNat, shake := s.now } ∧ s.onlyCluster t c [CL.STATE.PC c]) ∧
  (∀ (s : State) (c : Fin 2048) (w : Nat), s.issuing c w 0x06 [(48, 4)] →
    ∃ t, exec (.rdfl c) s = .next t ∧ (s.cl c).aWritten (t.cl c) (fAD w) (BitVec.ofNat 48 (s.flagBits c)) ∧
      s.movedOn t c) ∧
  (∀ (s : State) (c : Fin 2048) (w : Nat), s.issuing c w 0x07 [] →
    ∃ t, exec (.clrfl c) s = .next t ∧ t.flagBits c = 0 ∧
      t.cl c = { s.cl c with pc := (s.cl c).pc + 1, shake := s.now } ∧
      s.onlyCluster t c (CL.STATE.PC c :: (flagFields c).dropLast)) ∧
  (∀ (s : State) (c : Fin 2048) (w : Nat), s.issuing c w 0x01 [] → (s.cl c).handles = [] →
    (s.allDrained c = true → exec (.endProg c) s = .next ((s.issued c).finish c) ∧
      ((s.issued c).finish c).clState c = clDone ∧ ((s.issued c).finish c).on (CL.EVENT.DONE c) = true) ∧
    (s.allDrained c = false →
      exec (.endProg c) s = .next ((s.issued c).beginWait c ⟨.ended, BitVec.ofNat 64 w, none, s.now⟩ 0)))

/-- R322, R326, R329, R337, R341, R342, R347: a program fault puts the cluster into FAULT with the fault's code and
instruction, sets its event, frees the buffers it held, and leaves no operation counted. Its definitions follow the
model's choices in log entries 42, 50. -/
def Obligations.ProgramFaults : Prop :=
  ∀ (s : State) (c : Fin 2048) (w : Nat) (i : Instr) (code : Nat), s.fetch c = some w →
    (w / 2 ^ 56 = 0x05 ∧ onlyFields w [] = true ∧ i = .brk c ∧ code = pfUser) ∨
      (opListed (w / 2 ^ 56) = false ∧ i = .nop c false ∧ code = pfIllegal) ∨
      (w / 2 ^ 56 = 0x20 ∧ onlyFields w [predField, (48, 4), (44, 4), (40, 4)] = false ∧ i = .aadd c ∧ code = pfIllegal) ∨
      (w / 2 ^ 56 = 0x00 ∧ onlyFields w [] = true ∧ (s.cl c).pc = 8191 ∧ i = .nop c false ∧ code = pfPcEnd) ∨
      (w / 2 ^ 56 = 0x04 ∧ onlyFields w [(44, 4)] = true ∧ 8191 < ((s.cl c).areg (fAA w)).toNat ∧ i = .jr c ∧
        code = pfPcEnd) ∨
      (w / 2 ^ 56 = 0x01 ∧ onlyFields w [] = true ∧ (s.cl c).handles ≠ [] ∧ i = .endProg c ∧ code = pfHeld) ∨
      (w / 2 ^ 56 = 0x61 ∧ onlyFields w [predField, (46, 6), (42, 4), (36, 6), (32, 4), (0, 32)] = true ∧
        wOk 5 w = true ∧ fW w ≠ 5 ∧ localAddr (s.cl c) w % 8 ≠ 0 ∧ i = .vst c ∧ code = pfAlign) ∨
      (w / 2 ^ 56 = 0xA3 ∧ onlyFields w [predField, (49, 3), (34, 4), (0, 32)] = true ∧ tileAddr (s.cl c) w % 64 = 0 ∧
        rangesOk (tileRanges (tileAddr (s.cl c) w) (lanesOn ((s.cl c).pred w))) = false ∧ i = .tst c ∧ code = pfRange) ∨
      (w / 2 ^ 56 = 0xC4 ∧ onlyFields w [predField, (48, 4), (34, 6)] = true ∧ s.permitted c w ∧
        8 ≤ (s.cl c).handles.length ∧ i = .qget c ∧ code = pfHandle) ∨
      (w / 2 ^ 56 = 0xCB ∧ onlyFields w [predField, (48, 4), (34, 6)] = true ∧ s.permitted c w ∧
        (s.issued c).arrive c (fNum w) none 0 = none ∧ i = .gbar c ∧ code = pfBarrier) →
    ∃ t, exec i s = .next t ∧ t.clState c = clFaulted ∧ t.rd (CL.FAULT.CODE c) = code ∧
      t.rd (CL.FAULT.PC c) = (s.cl c).pc % 8192 ∧ t.on (CL.EVENT.FAULT c) = true ∧ (t.cl c).handles = [] ∧
      (t.cl c).wait = none ∧ t.allDrained c = true

/-- R324, R339-R341, R344, R366, R371: an external instruction that need not wait has its effect, and the program
moves on. The effect is the named operation on the state at issue. Its definitions follow the model's choices in log
entry 46. -/
def Obligations.ExternalResults : Prop :=
  ∀ (s : State) (c : Fin 2048) (w : Nat) (i : Instr) (u : State), s.permitted c w →
    (∃ put : Bool, s.issuing c w (if put then 0xC0 else 0xC1) [predField, (44, 4), (40, 4), (31, 3), (0, 25)] ∧
        i = (if put then .put c else .get c) ∧ s.aval c (fAA w) % 8 = 0 ∧ s.aval c (fAB w) % 8 = 0 ∧
        fImm25 w % 8 = 0 ∧ fImm25 w ≠ 0 ∧ s.aval c (fAB w) + fImm25 w ≤ sramBytes ∧
        (s.issued c).putGetOk c put (s.aval c (fAA w)) (fImm25 w) = true ∧ (s.issued c).tagCount c (fTag w) < 63 ∧
        u = (s.issued c).startXfer c (fTag w) put (s.aval c (fAA w)) (s.aval c (fAB w)) (fImm25 w)) ∨
      (s.issuing c w 0xC2 [predField, (44, 4), (31, 3), (0, 25)] ∧ i = .cpy c ∧ (s.issued c).cpy w c = .done u) ∨
      (s.issuing c w 0xC3 [predField, (48, 4), (31, 3), (0, 25)] ∧ i = .cwait c ∧
        (s.issued c).tagCount c (fTag w) = 0 ∧ u = (s.issued c).takeReport c (fTag w) (fAD w)) ∨
      (s.issuing c w 0xC3 [predField, (48, 4), (31, 3), (0, 25)] ∧ i = .cwait c ∧
        (s.issued c).tagCount c (fTag w) ≠ 0 ∧ fImm25 w = 0 ∧
        u = (s.issued c).setAreg c (fAD w) (s.tagReport c (fTag w) + 2 ^ 47)) ∨
      (s.issuing c w 0xC4 [predField, (48, 4), (34, 6)] ∧ i = .qget c ∧ (s.cl c).handles.length < 8 ∧
        (s.issued c).takeBuffer c w = some u) ∨
      (s.issuing c w 0xC5 [predField, (48, 4), (44, 4), (40, 4), (31, 3)] ∧ i = .qcmt c ∧
        (∃ y ∈ (s.cl c).handles ++ (s.cl c).lostHnd, handleOf y.1 y.2 = s.aval c (fAA w)) ∧
        s.aval c (fAB w) ≤ bufBytes ∧ (s.issued c).tagCount c (fTag w) = 0 ∧ u = (s.issued c).finishCommit c w) ∨
      (s.issuing c w 0xC6 [predField, (48, 4), (34, 6), (0, 25)] ∧ i = .rwait c ∧ (s.issued c).takeEntry c w = some u) ∨
      (s.issuing c w 0xC6 [predField, (48, 4), (34, 6), (0, 25)] ∧ i = .rwait c ∧ (s.issued c).takeEntry c w = none ∧
        fImm25 w = 0 ∧ u = (s.issued c).setAreg c (fAD w) 0) ∨
      (∃ y, s.issuing c w 0xC7 [predField, (48, 4), (44, 4)] ∧ i = .rdone c ∧
        (s.cl c).claims.find? (fun y => y.addr == s.aval c (fAA w)) = some y ∧ (s.issued c).overwritten y = false ∧
        u = (((s.issued c).setCl c
          { s.cl c with shake := s.now, claims := (s.cl c).claims.filter fun z => z != y }).freeEntry
            y.ring y.idx).setAreg c (fAD w) 0) ∨
      (s.issuing c w 0xC8 [predField, (48, 4), (44, 4), (34, 6), (0, 25)] ∧ i = .fwait c ∧
        (s.issued c).fellReached c w = true ∧ u = (s.issued c).fellReport c w false) ∨
      (s.issuing c w 0xC9 [predField, (44, 4)] ∧ i = .twait c ∧ s.twaitAt c w ≤ s.now ∧ u = s.issued c) ∨
      (s.issuing c w 0xCA [predField, (48, 4)] ∧ i = .tnow c ∧
        u = (s.issued c).setCl c (((s.issued c).cl c).setA (fAD w)
          (BitVec.ofInt 48 (((s.now / 65536 : Nat) : Int) - (s.cl c).t0)))) →
    exec i s = .next (s.doneAt c u)

/-- R339-R344, R364, R366, R371: an external instruction that cannot complete begins its wait: for a tag, a buffer, a
commit, a ring, a fell count, a hall time, a barrier or an engine; and what it moves stands unmoved. Its definitions
follow the model's choices in log entries 46, 50. -/
def Obligations.ExternalWaits : Prop :=
  ∀ (s : State) (c : Fin 2048) (w : Nat) (i : Instr) (u : State) (k : WaitKind) (num : Nat) (e : Option Nat),
    s.permitted c w →
    (s.issuing c w 0xC0 [predField, (44, 4), (40, 4), (31, 3), (0, 25)] ∧ i = .put c ∧ s.aval c (fAA w) % 8 = 0 ∧
        s.aval c (fAB w) % 8 = 0 ∧ fImm25 w % 8 = 0 ∧ fImm25 w ≠ 0 ∧ s.aval c (fAB w) + fImm25 w ≤ sramBytes ∧
        (s.issued c).putGetOk c true (s.aval c (fAA w)) (fImm25 w) = true ∧
        63 ≤ (s.issued c).tagCount c (fTag w) ∧ u = s.issued c ∧ k = .tagFull ∧ num = fTag w ∧ e = none) ∨
      (s.issuing c w 0xC3 [predField, (48, 4), (31, 3), (0, 25)] ∧ i = .cwait c ∧
        (s.issued c).tagCount c (fTag w) ≠ 0 ∧ fImm25 w ≠ 0 ∧ u = s.issued c ∧ k = .tag ∧ num = fTag w ∧
        e = some (s.now + Config.ns (1000 * fImm25 w))) ∨
      (s.issuing c w 0xC4 [predField, (48, 4), (34, 6)] ∧ i = .qget c ∧ (s.cl c).handles.length < 8 ∧
        (s.issued c).takeBuffer c w = none ∧ u = s.issued c ∧ k = .buffer ∧ num = fNum w ∧ e = none) ∨
      (s.issuing c w 0xC6 [predField, (48, 4), (34, 6), (0, 25)] ∧ i = .rwait c ∧ (s.issued c).takeEntry c w = none ∧
        fImm25 w ≠ 0 ∧ u = s.issued c ∧ k = .ring ∧ num = fNum w ∧ e = some (s.now + Config.ns (1000 * fImm25 w))) ∨
      (s.issuing c w 0xC8 [predField, (48, 4), (44, 4), (34, 6), (0, 25)] ∧ i = .fwait c ∧
        (s.issued c).fellReached c w = false ∧ fImm25 w ≠ 0 ∧ u = s.issued c ∧ k = .fell ∧ num = fNum w ∧
        e = some (s.now + Config.ns (1000 * fImm25 w))) ∨
      (s.issuing c w 0xC9 [predField, (44, 4)] ∧ i = .twait c ∧ s.now < s.twaitAt c w ∧ u = s.issued c ∧
        k = .hallTime ∧ num = 0 ∧ e = some (s.twaitAt c w)) ∨
      (s.issuing c w 0xCB [predField, (48, 4), (34, 6)] ∧ i = .gbar c ∧
        (s.issued c).arrive c (fNum w) none 0 = some u ∧ k = .barrier ∧ num = fNum w ∧ e = none) ∨
      (s.issuing c w 0xCC [predField, (48, 4), (44, 4), (34, 6), (28, 3)] ∧ fOp w ≤ 4 ∧ i = .gred c ∧
        (s.issued c).arrive c (fNum w) (some (fOp w)) (s.aval c (fAA w) % 2 ^ 32) = some u ∧ k = .barrier ∧
        num = fNum w ∧ e = none) →
    exec i s = .next (u.beginWait c ⟨k, BitVec.ofNat 64 w, e, s.now⟩ num) ∧
      ((u.beginWait c ⟨k, BitVec.ofNat 64 w, e, s.now⟩ num).cl c).wait = some ⟨k, BitVec.ofNat 64 w, e, s.now⟩ ∧
      ((u.beginWait c ⟨k, BitVec.ofNat 64 w, e, s.now⟩ num).cl c).pc = (s.cl c).pc

/-- R339-R344, R364, R366, R371: what ends a wait writes the waiting instruction's result, and the next instruction
follows. Its definitions follow the model's choices in log entries 46, 50. -/
def Obligations.Wakes : Prop :=
  (∀ (s : State) (c : Fin 2048) (tag : Fin 8) (x : Wait), (s.cl c).xfers = [] → s.tagCount c tag = 0 →
    (s.cl c).wait = some x → x.kind = .tag → fTag x.word.toNat = tag →
    exec (.tagDrain c tag []) s = .next ((s.takeReport c tag (fAD x.word.toNat)).completeWait c)) ∧
  (∀ (s : State) (c : Fin 2048) (t u : Nat) (x : Wait), (s.cl c).wait = some x → x.until_ = some u → u ≤ max s.now t →
    (x.kind = .tag → exec (.externalWaitTimeout c t) s = .next
      (((s.advance t).setAreg c (fAD x.word.toNat) (s.tagReport c (fTag x.word.toNat) + 2 ^ 47)).completeWait c)) ∧
    (x.kind = .ring → exec (.externalWaitTimeout c t) s = .next
      (((s.advance t).setAreg c (fAD x.word.toNat) 0).completeWait c)) ∧
    (x.kind = .fell → exec (.externalWaitTimeout c t) s = .next
      (((s.advance t).fellReport c x.word.toNat true).completeWait c))) ∧
  (∀ (s u : State) (c : Fin 2048) (x : Wait), (s.cl c).wait = some x →
    (x.kind = .buffer → s.takeBuffer c x.word.toNat = some u → exec (.qgetWake (.cluster c)) s = .next (u.completeWait c)) ∧
    (x.kind = .ring → s.takeEntry c x.word.toNat = some u → exec (.rwaitWake c) s = .next (u.completeWait c)) ∧
    (x.kind = .fell → s.fellReached c x.word.toNat = true →
      exec (.fwaitWake c) s = .next ((s.fellReport c x.word.toNat false).completeWait c)) ∧
    (∀ t : Nat, x.kind = .hallTime → s.twaitAt c x.word.toNat ≤ max s.now t →
      exec (.twaitWake c t) s = .next ((s.advance t).completeWait c)) ∧
    (x.kind = .tagFull → x.word.toNat / 2 ^ 56 = 0xC0 → s.tagCount c (fTag x.word.toNat) < 63 →
      (s.endWait c).putGet true x.word.toNat c = .done u →
      exec (.tagStallWake c []) s = .next (u.setPc c ((u.cl c).pc + 1))) ∧
    (x.kind = .engines → x.word.toNat / 2 ^ 56 = 0xC2 → (s.pickEngine (c / 256)).isSome = true →
      (s.endWait c).cpy x.word.toNat c = .done u → exec (.cpyQueueWake c) s = .next (u.setPc c ((u.cl c).pc + 1)))) ∧
  (∀ (s : State) (j : Fin 8) (b : Barrier) (p : Fin 2048) (n : Nat) (x : Wait), (s.job j).barrier = some b →
    (∀ k ∈ maskList (s.job j).mask, bitOf (s.job j).done k = false ∧
      ∃ q, s.physOf k = some q ∧ (Tbl.look b.came q).isSome = true) →
    n ∈ maskList (s.job j).mask → s.physOf n = some p.val → (s.cl p).wait = some x → b.op = none →
    ∃ t, exec (.barrierRelease j) s = .next t ∧ (t.cl p).areg (fAD x.word.toNat) = 0 ∧ (t.cl p).wait = none ∧
      (t.cl p).pc = (s.cl p).pc + 1 ∧ (t.job j).barrier = none)

/-- R314, R316-R319: the commands and events of a cluster's shell, in the states that take them. Its definitions
follow the model's choices in log entry 53. -/
def Obligations.ClusterShell : Prop :=
  (∀ (s : State) (c : Fin 2048), s.clState c = clRun →
    ∃ t, exec (.clStop c) s = .next t ∧ t.clState c = clFaulted ∧ t.rd (CL.FAULT.CODE c) = tokStopped ∧
      t.rd (CL.FAULT.PC c) = s.rd (CL.STATE.PC c) % 8192 ∧ t.on (CL.EVENT.FAULT c) = true ∧ (t.cl c).handles = []) ∧
  (∀ (s : State) (c : Fin 2048), s.clState c ≠ clRun →
    ∃ t, exec (.clStop c) s = .next t ∧ s.flagged t (CL.EVENT.CFG_ERR c) ∧
      s.onlyEvent t [CL.EVENT.CFG_ERR c, seqOf (CL.EVENT.CFG_ERR c)]) ∧
  (∀ (s : State) (c : Fin 2048), s.clState c = clGated →
    ∃ t d, exec (.clUngate c) s = .next t ∧ t.clState c = clIdle ∧ t.rd (CL.PROG.LOADED c) = 0 ∧
      t.cl c = { (s.cl c).contentsLost d with wait := none, stage := 0 } ∧ s.otherClusters t c) ∧
  (∀ (s : State) (c : Fin 2048), s.clState c = clIdle ∨ s.clState c = clDone ∨ s.clState c = clFaulted →
    ∃ t, exec (.clGate c) s = .next t ∧ t.clState c = clGated ∧ t.cl c = { s.cl c with wait := none, stage := 0 } ∧
      s.onlyCluster t c [CL.WAIT.KIND c, CL.WAIT.NUM c, CL.STATE.WAITING c, CL.STATE.RAMPING c, CL.STATE.STATE c]) ∧
  (∀ (s : State) (c : Fin 2048), s.clState c ≠ clRun → s.rd (CL.ID.LOGICAL c) ≠ 2047 →
    ∃ t, exec (.clQuarantine c) s = .next t ∧ t.clState c = clGated ∧ t.rd (CL.ID.ROLE c) = 2 ∧
      t.rd (CL.ID.LOGICAL c) = 2047 ∧ Tbl.look t.comp.vacant (s.rd (CL.ID.LOGICAL c)) = some c.val ∧
      s.regsBut t [CL.ID.LOGICAL c, CL.ID.CROSS c, CL.ID.ROLE c, CL.WAIT.KIND c, CL.WAIT.NUM c, CL.STATE.WAITING c,
        CL.STATE.RAMPING c, CL.STATE.STATE c]) ∧
  (∀ (s : State) (c : Fin 2048) (t : Nat), s.clState c = clRun → s.on (CL.STATE.WAITING c) = false →
    (s.cl c).shake + Config.ns (1000 * s.rd (CL.WDOG.US c)) ≤ max s.now t →
    ∃ u, exec (.watchdog c t) s = .next u ∧ u.clState c = clGated ∧ u.rd (CL.ID.ROLE c) = 2 ∧
      u.rd (CL.FAULT.CODE c) = tokWdog ∧ u.on (CL.EVENT.WDOG c) = true) ∧
  (∀ (s : State) (c : Fin 2048) (t : Nat), 0 < (s.cl c).stage →
    ((s.cl c).stage < 16 → exec (.rampStage c t) s =
      .next ((s.advance t).setCl c { s.cl c with stage := (s.cl c).stage + 1 })) ∧
    (16 ≤ (s.cl c).stage → exec (.rampStage c t) s =
      .next (((s.advance t).setCl c { s.cl c with stage := 0 }).wr (CL.STATE.RAMPING c) 0))) ∧
  (∀ (s : State) (n : Fin 2000) (old p : Nat), Tbl.look s.comp.vacant n = some old → s.jobNames n = false →
    s.reserveFor (old / 256) = some p →
    (∃ t, exec (.clusterSpareAssign n true) s = .next t ∧ t.rd (CL.ID.ROLE p) = 0 ∧ t.rd (CL.ID.LOGICAL p) = n ∧
      t.rd (CL.ID.CROSS p) = bit (decide (p / 256 ≠ n.val / 250)) ∧ t.rd (CL.PROG.LOADED p) = 0 ∧
      Tbl.look t.comp.vacant n = none) ∧
    (∃ t, exec (.clusterSpareAssign n false) s = .next t ∧ t.rd (CL.ID.ROLE p) = 2 ∧ t.clState p = clGated))

/-- R345, R346, R355, R373, R375, R400: a program's load arms its trigger or refuses the job; the last token leaves a
record in the gather tree, or in its wait; the record is read out in order; the scrubber goes on to the next block.
Its definitions follow the model's choices in log entries 52, 54. -/
def Obligations.JobsAndRecords : Prop :=
  (∀ (s v : State) (j : Fin 8) (ups : List Upset) (t n e : Nat) (l : List Byte), (s.job j).stage = .loading →
    (s.advance t).heldLines false (s.job j).image (64 + 65536) = [] →
    (s.advance t).readImage (s.job j).image ups = (v, some (n, e, l)) →
    exec (.programLoadDone j ups t) s = .next ((v.loadClusters j n e l).armJob j) ∧
    ((v.loadClusters j n e l).now + Config.ns 2000 ≤ ((v.loadClusters j n e l).job j).start * 65536 →
      (((v.loadClusters j n e l).armJob j).job j).stage = .armed)) ∧
  (∀ (s v : State) (j : Fin 8) (ups : List Upset) (t : Nat), (s.job j).stage = .loading →
    (s.advance t).heldLines false (s.job j).image (64 + 65536) = [] →
    (s.advance t).readImage (s.job j).image ups = (v, none) →
    exec (.programLoadDone j ups t) s = .next ((v.freeTrigger j).reject (s.job j).entry 9 (s.job j).eseq)) ∧
  (∀ (s : State) (j : Fin 8) (t : Nat), (s.job j).stage = .running →
    (∀ n ∈ maskList (s.job j).mask, bitOf (s.job j).done n = true) →
    (∀ q ∈ s.comp.stalled, bitsOf q 19 3 ≠ j) →
    (s.comp.records.length < 16 →
      ∃ u, exec (.completionRecord j t) s = .next u ∧ u.comp.records = s.comp.records ++ [(s.job j).record j] ∧
        (u.job j).stage = .free ∧ u.rd GTH.STAT.REC_WAIT = s.comp.records.length + 1 ∧ u.comp.stalled = s.comp.stalled) ∧
    (16 ≤ s.comp.records.length →
      ∃ u, exec (.completionRecord j t) s = .next u ∧ u.comp.stalled = s.comp.stalled ++ [(s.job j).record j] ∧
        u.comp.records = s.comp.records ∧ u.comp.jobs = s.comp.jobs ∧ s.regsBut u [GTH.STAT.STALLS])) ∧
  (∀ (s : State) (b : Bank),
    (∀ (r : Record) (l : List Record), s.comp.records = r :: l → s.comp.stalled = [] →
      ∃ t, exec (.gthRecSelect b) s = .next t ∧ t.comp.records = l ∧
        Tbl.look t.mbx b.num = some ⟨GTH.REC.base, r, false⟩) ∧
    (s.comp.records = [] → ∃ t, exec (.gthRecSelect b) s = .next t ∧ t.comp = s.comp ∧
        Tbl.look t.mbx b.num = some ⟨GTH.REC.base, 0, false⟩)) ∧
  (∀ (s : State), s.on MEM.CTRL.SCRUB_EN = true → s.sys.held = [] →
    (s.comp.lpddr.isBad s.comp.scrub = false →
      exec (.memScrub []) s =
        .next { s with comp := { s.comp with scrub := (s.comp.scrub + 1) % (s.lpEnd / 64) } }) ∧
    (s.comp.lpddr.isBad s.comp.scrub = true →
      ∃ t, exec (.memScrub []) s = .next t ∧ t.on MEM.EVENT.UNCORR = true ∧
        t.rd MEM.ERR_ADDR.REQ = Req.scrubber.num ∧ t.rd MEM.ERR_ADDR.CH = s.lpChannel (64 * s.comp.scrub) % 256 ∧
        t.comp.scrub = (s.comp.scrub + 1) % (s.lpEnd / 64)))

/-- R361-R364: an engine's copy that stays in the package ends with the result of its rows, OK or UNCORR; a copy bound
to a code ends with it; a write of PROD starts an idle engine at its next descriptor. Its definitions follow the
model's choices in log entries 48, 49, 82. -/
def Obligations.Copies : Prop :=
  (∀ (s : State) (e : Fin 80) (ups : List Upset) (d : Desc), s.queued e ≠ 0 → s.curDesc e = some d →
    (s.engine e).code = none → d.empty = false → (d.op = 2 → (s.engine e).held ≠ none) → s.copyLink d = false →
    s.copyHeld d = false →
    exec (.copyComplete e ups) s = .next ((s.copyRows e d ups 0 d.rows).1.copyEnd e (some d)
      (if (s.copyRows e d ups 0 d.rows).2.2 then .ok else .uncorr) (s.copyRows e d ups 0 d.rows).2.1)) ∧
  (∀ (s : State) (e : Fin 80) (ups : List Upset) (d : Desc) (k : CopyCode), s.queued e ≠ 0 → s.curDesc e = some d →
    (s.engine e).code = some k → d.len ≠ 0 →
    exec (.copyComplete e ups) s = .next (s.copyEnd e (some d) k ((s.engine e).pos / d.len))) ∧
  (∀ (s : State) (e : Fin 80), s.queued e = 0 → exec (.copyComplete e []) s = .next s) ∧
  (∀ (s : State) (n : Fin 12) (v : BitVec 16), s.csrSound → s.queued (ftdEngine n) ≠ 0 →
    ∃ t, exec (.cpyProdWrite n v) s = .next t ∧ t.rd (CPY.E_PROD.PROD n) = v.toNat ∧
      s.onlyRegs t [CPY.E_PROD.PROD n, CPY.SEL_STAT.QUEUED (ftdEngine n)])

/-- R365-R371: the registers of the receive rings and of the fell streams: a refused value sets CFG_ERR and changes
nothing; one that is taken resets its ring. A claim takes the oldest WRITTEN entry, and a release frees it. -/
def Obligations.RingsAndStreams : Prop :=
  (∀ (s : State) (b : Bank) (v : BitVec 32), s.csrSound →
    let r := s.rd (MEM.RING_SEL.RING b.num)
    (s.ringRefused (v.toNat + 2 ^ 32 * s.rd (MEM.RING_BASE_HI.ADDR r)) (s.rd (MEM.RING_CFG.ENTRIES r))
        (s.rd (MEM.RING_CFG.SLOT64 r)) = false →
      ∃ t, exec (.ringConfigWrite b .baseLo v) s = .next t ∧ t.rd (MEM.RING_BASE_LO.ADDR r) = v.toNat ∧
        (t.ring r).entries = [] ∧
        s.regsBut t [MEM.RING_BASE_LO.ADDR r, MEM.RING_STAT.WRITTEN r, MEM.RING_STAT.CLAIMED r]) ∧
    (s.ringRefused (v.toNat + 2 ^ 32 * s.rd (MEM.RING_BASE_HI.ADDR r)) (s.rd (MEM.RING_CFG.ENTRIES r))
        (s.rd (MEM.RING_CFG.SLOT64 r)) = true →
      ∃ t, exec (.ringConfigWrite b .baseLo v) s = .next t ∧ s.flagged t MEM.EVENT.CFG_ERR ∧
        s.onlyEvent t [MEM.EVENT.CFG_ERR, seqOf MEM.EVENT.CFG_ERR]) ∧
    (s.ringRefused (s.rd (MEM.RING_BASE_LO.ADDR r) + 2 ^ 32 * s.rd (MEM.RING_BASE_HI.ADDR r)) (bitsOf v.toNat 16 11)
        (bitsOf v.toNat 0 9) = false →
      ∃ t, exec (.ringConfigWrite b .cfg v) s = .next t ∧ t.rd (MEM.RING_CFG.ENTRIES r) = bitsOf v.toNat 16 11 ∧
        t.rd (MEM.RING_CFG.SLOT64 r) = bitsOf v.toNat 0 9 ∧ t.rd (MEM.RING_CFG.JOB r) = bitsOf v.toNat 28 3 ∧
        t.rd (MEM.RING_CFG.JOB_EN r) = bitsOf v.toNat 31 1 ∧ (t.ring r).entries = [])) ∧
  (∀ (s u : State) (b : Bank) (k : Claim), s.claim (s.rd (MEM.RING_SEL.RING b.num)) = some (k, u) →
    exec (.ringClaim b) s = .next ((u.wr (MEM.RING_CLAIM.VALID (s.rd (MEM.RING_SEL.RING b.num))) 1).wr
      (MEM.RING_CLAIM.INDEX (s.rd (MEM.RING_SEL.RING b.num))) k.idx) ∧
    (Tbl.look (u.ring (s.rd (MEM.RING_SEL.RING b.num))).entries k.idx).map RingEntry.use = some .claimed) ∧
  (∀ (s : State) (b : Bank), s.claim (s.rd (MEM.RING_SEL.RING b.num)) = none →
    ∃ t, exec (.ringClaim b) s = .next t ∧ t.rd (MEM.RING_CLAIM.VALID (s.rd (MEM.RING_SEL.RING b.num))) = 0 ∧
      s.onlyRegs t [MEM.RING_CLAIM.VALID (s.rd (MEM.RING_SEL.RING b.num)),
        MEM.RING_CLAIM.INDEX (s.rd (MEM.RING_SEL.RING b.num))]) ∧
  (∀ (s : State) (b : Bank) (i : BitVec 11) (g : Nat),
    let r := s.rd (MEM.RING_SEL.RING b.num)
    Tbl.look (s.ring r).entries i.toNat = some ⟨.claimed, g⟩ →
    ∃ t, exec (.ringRelease b i) s = .next t ∧ Tbl.look (t.ring r).entries i.toNat = none ∧
      (∀ k, k ≠ i.toNat → Tbl.look (t.ring r).entries k = Tbl.look (s.ring r).entries k) ∧
      s.regsBut t [MEM.RING_STAT.WRITTEN r, MEM.RING_STAT.CLAIMED r]) ∧
  (∀ (s : State) (b : Bank) (i : BitVec 11),
    (∀ g, Tbl.look (s.ring (s.rd (MEM.RING_SEL.RING b.num))).entries i.toNat ≠ some ⟨.claimed, g⟩) →
    exec (.ringRelease b i) s = .next s) ∧
  (∀ (s : State) (b : Bank) (v : BitVec 32), s.csrSound →
    let f := s.rd (MEM.FELL_SEL.STREAM b.num)
    (s.fellBaseBad (v.toNat + 2 ^ 32 * s.rd (MEM.FELL_BASE_HI.ADDR f)) = false →
      ∃ t, exec (.fellRegisterWrite b .baseLo v) s = .next t ∧ t.rd (MEM.FELL_BASE_LO.ADDR f) = v.toNat ∧
        s.onlyRegs t [MEM.FELL_BASE_LO.ADDR f]) ∧
    (bitsOf v.toNat 0 14 = 0 →
      ∃ t, exec (.fellRegisterWrite b .cfg v) s = .next t ∧ s.flagged t MEM.EVENT.CFG_ERR ∧
        s.onlyEvent t [MEM.EVENT.CFG_ERR, seqOf MEM.EVENT.CFG_ERR]) ∧
    (v.toNat < s.rd (MEM.FELL_LEN.LENGTH f) →
      ∃ t, exec (.fellRegisterWrite b .cur v) s = .next t ∧
        t.rd (MEM.FELL_CUR.CURSOR f) = v.toNat % 2 ^ (MEM.FELL_CUR.CURSOR f).width ∧
        s.onlyRegs t [MEM.FELL_CUR.CURSOR f]) ∧
    (v.toNat ≤ s.rd (MEM.FELL_CUR.CURSOR f) →
      ∃ t, exec (.fellRegisterWrite b .len v) s = .next t ∧ t.rd (MEM.FELL_CUR.CURSOR f) = 0 ∧
        t.rd (MEM.FELL_LEN.LENGTH f) = v.toNat % 2 ^ (MEM.FELL_LEN.LENGTH f).width ∧
        s.onlyRegs t [MEM.FELL_LEN.LENGTH f, MEM.FELL_CUR.CURSOR f]))

/-- R187, R189-R193: a decision that the computation for boundary k made takes effect there: JUMP ends in CAPTURE; a
lock is LOCKED, or MISLOCK where the window fails; a capture that lasts too long sweeps; an unlocked ring captures
again; a ring whose window or clamp has failed is in MISLOCK or in FAULT. Its definitions follow the model's choices
in log entry 70. -/
def Obligations.RingTransitions : Prop :=
  ∀ (s : State) (l : Fin 176) (k : Nat), s.fabUp = true → s.fab.jig.done = some k → s.now ≤ k * Config.cycleTime →
    s.loopFrozen l = false →
    ((s.loop l).due = some .jumpDone → ∃ u, exec (.ringJumpDone l) s = .next u ∧ u.ringSt l = rgCapture) ∧
    ((s.loop l).due = some .lock → s.on (JIG.L_STAT.WIN_OK l) = true →
      ∃ u, exec (.ringLock l) s = .next u ∧ u.ringSt l = rgLocked ∧ u.on (JIG.L_STAT.VERIFIED l) = false ∧
        (u.loop l).lockedAt = k * Config.cycleTime ∧ (u.loop l).tries = 0) ∧
    ((s.loop l).due = some .lock → s.on (JIG.L_STAT.WIN_OK l) = false →
      exec (.ringLock l) s = .next ((s.advance (k * Config.cycleTime)).enterMislock l)) ∧
    ((s.loop l).due = some .capLimit → s.ringSt l = rgCapture →
      ∃ u, exec (.ringCaptureLimit l) s = .next u ∧ u.ringSt l = rgSweep ∧ (u.loop l).d = s.parkValue l ∧
        u.rd (JIG.L_COUNTS.SWEEPS l) = (s.rd (JIG.L_COUNTS.SWEEPS l) + 1) % 2 ^ (JIG.L_COUNTS.SWEEPS l).width) ∧
    ((s.loop l).due = some .unlock →
      exec (.ringUnlock l) s = .next ((((s.advance (k * Config.cycleTime)).bump (JIG.L_COUNTS.UNLOCKS l)).count
        ctrFtd 0x041 l).enterCapture l false)) ∧
    ((s.loop l).due = some .winFail →
      exec (.ringWindowFail l) s = .next ((s.advance (k * Config.cycleTime)).enterMislock l)) ∧
    ((s.loop l).due = some .clampFault →
      exec (.ringClampFault l) s = .next ((s.advance (k * Config.cycleTime)).enterFault l)) ∧
    (s.ringSt l = rgCapture → (ringOf l).isNone = true →
      ((s.enterMislock l).ringSt l = rgMislock ∧ ((s.enterMislock l).loop l).mis = (s.loop l).mis + 1 ∧
        (s.enterMislock l).on JIG.EVENT.MISLOCK = true) ∧
      (s.enterFault l).ringSt l = rgFault ∧ ((s.enterFault l).loop l).d = 0 ∧ (s.enterFault l).on JIG.EVENT.FAULT = true)

/-- R170, R174, R175, R182: the Jig's cycle. A conversion starts and its results arrive; the computation is made once,
in time, on the readings of that conversion; its boundary applies it, or counts an overrun where it has not come. Its
definitions follow the model's choices in log entries 67, 68. -/
def Obligations.SampleCycle : Prop :=
  (∀ (s : State) (c j : Nat), s.fabUp = true → 0 < j → j ≤ s.nsub →
    exec (.conversionStart c j) s = .next ((s.advance (c * Config.cycleTime + j * Config.cycleTime / s.nsub)).setJig
      { s.fab.jig with started := (c, j) })) ∧
  (∀ (s : State) (die : Fin 2) (rs : List ChannelResult), s.fabUp = true →
    ∃ u, exec (.conversionResult die rs) s = .next u ∧ u.fab.jig = { s.fab.jig with arrived := s.fab.jig.started } ∧
      (rs = [] → u.regs = s.regs)) ∧
  (∀ (s : State) (c : Nat) (ms : List LoopMeas) (a b : BitVec 16), s.fabUp = true → s.fab.jig.arrived = (c, s.nsub) →
    s.fab.jig.done ≠ some (c + 2) → max s.now ((c + 1) * Config.cycleTime) ≤ (c + 2) * Config.cycleTime →
    ∃ u, exec (.jigCompute c ms a b) s = .next u ∧ u.fab.jig.done = some (c + 2)) ∧
  (∀ (s : State) (c : Nat) (ms : List LoopMeas) (a b : BitVec 16), s.fab.jig.done = some (c + 2) →
    exec (.jigCompute c ms a b) s = .next s) ∧
  (∀ (s : State) (l k : Nat), s.on (JIG.L_STAT.CLAMPED l) = false →
    ((s.loopLaw l k).loop l).integ = (s.loop l).integ + (s.rd (JIG.L_GAIN.KI l) : Int) * (s.loop l).err / mhz ∧
    ((s.loopLaw l k).loop l).d = s.ff l k + (s.rd (JIG.L_GAIN.KP l) : Int) * (s.loop l).err / mhz +
      ((s.loop l).integ + (s.rd (JIG.L_GAIN.KI l) : Int) * (s.loop l).err / mhz)) ∧
  (∀ (s : State) (k f : Nat), s.fabUp = true → s.fab.jig.since = some f → (∀ m, s.fab.jig.edge = some m → m < k) →
    s.fab.jig.done ≠ some k →
    (f + 2 ≤ k → s.fab.cal.opt = none →
      ∃ u, exec (.jigCycleBoundary k) s = .next u ∧ u.fab.jig.edge = some k ∧ u.on JIG.EVENT.OVERRUN = true ∧
        u.rd JIG.COUNTS.OVERRUN = (s.rd JIG.COUNTS.OVERRUN + 1) % 2 ^ JIG.COUNTS.OVERRUN.width) ∧
    (k < f + 2 → s.fab.cal.opt = none →
      ∃ u, exec (.jigCycleBoundary k) s = .next u ∧ u.fab.jig = { s.fab.jig with edge := some k } ∧
        s.regsBut u [TIO.PTRIG_STAT.JIG_CYCLES, GAUGE.RATE.Y])) ∧
  (∀ (s : State) (k : Nat), s.fabUp = true → s.fab.jig.edge = some k → exec (.jigCycleBoundary k) s = .next s)

/-- R184, R185, R187, R192, R193: commands of a loop wait for the next boundary where its state allows them, and set
CFG_ERR where it does not; coefficients are written in PARKED, HOLD and FAULT alone; the crosstalk matrix is committed
from the next computation on, and copied. Its definitions follow the model's choices in log entry 23. -/
def Obligations.RingCommands : Prop :=
  (∀ (s : State) (b : Bank) (i : Instr) (k : RingCmd), s.rd (JIG.L_SEL.LOOP b.num) < 176 →
    (i = .lCmdHold b ∧ k = .hold) ∨ (i = .lCmdRelease b ∧ k = .release) ∨ (i = .lCmdJump b ∧ k = .jump) ∨
      (i = .lCmdSweep b ∧ k = .sweep) ∨ (i = .lCmdReset b ∧ k = .reset) →
    let l := s.rd (JIG.L_SEL.LOOP b.num)
    (s.cmdAllowed l k = true → exec i s = .next (s.setLoop l { s.loop l with cmd := some k })) ∧
    (s.cmdAllowed l k = false → ∃ t, exec i s = .next t ∧ s.flagged t JIG.EVENT.CFG_ERR ∧
      s.onlyEvent t [JIG.EVENT.CFG_ERR, seqOf JIG.EVENT.CFG_ERR])) ∧
  (∀ (s : State) (b : Bank) (v : BitVec 32), s.csrSound → s.rd (JIG.L_SEL.LOOP b.num) < 176 →
    let l := s.rd (JIG.L_SEL.LOOP b.num)
    (s.ringSt l = rgParked ∨ s.ringSt l = rgHold ∨ s.ringSt l = rgFault →
      (∃ t, exec (.jigCoefWrite b false v) s = .next t ∧ t.rd (JIG.L_GAIN.KI l) = v.toNat % 65536 ∧
        t.rd (JIG.L_GAIN.KP l) = v.toNat / 65536 ∧ s.onlyRegs t [JIG.L_GAIN.KI l, JIG.L_GAIN.KP l]) ∧
      (v.toNat % 65536 = 0 → ∃ t, exec (.jigCoefWrite b true v) s = .next t ∧ s.flagged t JIG.EVENT.CFG_ERR ∧
        s.onlyEvent t [JIG.EVENT.CFG_ERR, seqOf JIG.EVENT.CFG_ERR])) ∧
    (s.ringSt l ≠ rgParked → s.ringSt l ≠ rgHold → s.ringSt l ≠ rgFault → ∀ dith : Bool,
      ∃ t, exec (.jigCoefWrite b dith v) s = .next t ∧ s.flagged t JIG.EVENT.COEF_REFUSED ∧
        s.onlyEvent t [JIG.COUNTS.COEF_REFUSED, JIG.EVENT.COEF_REFUSED, seqOf JIG.EVENT.COEF_REFUSED])) ∧
  (∀ (s : State) (m : BitVec 4), exec (.cmatCommit m) s =
    .next (s.setJig { s.fab.jig with cmat := s.fab.jig.cmat ||| m.toNat })) ∧
  (∀ (s : State) (m : BitVec 4), ∃ t, exec (.cmatCopy m) s = .next t ∧
    ∀ i, bitOf m.toNat (i / 4096) = true → i / 4096 < 4 →
      t.rd (JIG.CMAT_DATA.SHADOW i) = s.rd (JIG.CMAT_DATA.ACTIVE i) % 65536 ∧
      t.rd (JIG.CMAT_DATA.ACTIVE i) = s.rd (JIG.CMAT_DATA.ACTIVE i)) ∧
  (∀ (s : State) (p : Fin 16) (k : Nat), s.fabUp = true → Tbl.look s.fab.jig.release p = some k →
    p.val ∈ s.fab.jig.takeovers →
    let j := { s.fab.jig with
      takeovers := s.fab.jig.takeovers.filter (· != p.val), release := Tbl.del s.fab.jig.release p }
    let r := { s.fab.recable with repl := Tbl.del s.fab.recable.repl p }
    exec (.takeoverRelease p) s = .next
      (State.setBFor { s.advance ((k + 2) * Config.cycleTime) with fab := { s.fab with jig := j, recable := r } } p 15)) ∧
  (∀ (s : State) (l : Fin 176) (t : Nat), s.fabUp = true → s.ringSt l = rgLocked →
    (s.loop l).lockedAt + tenSeconds ≤ max s.now t →
    exec (.mislockCountReset l t) s =
      .next (((s.advance t).setLoop l { s.loop l with mis := 0 }).wr (JIG.L_STAT.MISLOCKS l) 0))

/-- R160-R163, R190, R207: a probe asked for is sent in its port's slot, or is NOT_SENT; a reply with its nonce gives
its result and no reply gives NO_REPLY; a verification that runs out is reported. Its definitions follow the model's
choices in log entries 66, 86, 125. -/
def Obligations.Probes : Prop :=
  (∀ (s : State) (e : Fin 4) (v : BitVec 32), s.csrSound → bitsOf v.toNat 8 4 < 10 →
    s.rd (OPE.PROBE_RES.RESULT e) ≠ prPending →
    ∃ t, exec (.probeGo e v) s = .next t ∧ t.rd (OPE.PROBE_RES.RESULT e) = prPending ∧
      t.rd (OPE.PROBE_CMD.NONCE e) = bitsOf v.toNat 16 16 ∧
      Tbl.look t.fab.probes e = some
        { port := 4 * e + bitsOf v.toNat 4 2, ring := bitsOf v.toNat 8 4, nonce := bitsOf v.toNat 16 16, since := slotOf s.now } ∧
      s.regsBut t [OPE.PROBE_CMD.NONCE e, OPE.PROBE_CMD.RING e, OPE.PROBE_CMD.PORT e, OPE.PROBE_RES.RESULT e]) ∧
  (∀ (s : State) (e : Fin 4) (v : BitVec 32), s.csrSound → s.rd (OPE.PROBE_RES.RESULT e) = prPending →
    ∃ t, exec (.probeGo e v) s = .next t ∧ s.flagged t (OPE.EVENT.CFG_ERR e) ∧
      s.onlyEvent t [OPE.EVENT.CFG_ERR e, seqOf (OPE.EVENT.CFG_ERR e)]) ∧
  (∀ (s : State) (p : Fin 16) (n : Nat) (x : Probe), s.fabUp = true → s.askedProbe p = some x →
    s.probeOk p x.ring n = true →
    ∃ u y, exec (.probeSend p n) s = .next u ∧ Tbl.look u.fab.probes (p.val / 4) = some y ∧ y.sent = some n ∧
      y.nonce = x.nonce ∧ y.loop = decide ((s.ringTarget (loopOf p x.ring)).getD 0 = 0)) ∧
  (∀ (s : State) (p : Fin 16) (n r : Nat), s.fabUp = true → s.verifyRing p n = some r → s.probeTakes p n = false →
    Tbl.look s.fab.jig.verify p = none →
    ∃ u y, exec (.verifyProbeSend p n) s = .next u ∧ Tbl.look u.fab.jig.verify p = some y ∧ y.ring = r ∧
      y.sent = some n ∧ 32768 ≤ y.nonce ∧ y.nonce < 65536 ∧
      (u.loop (loopOf p r)).tries = (s.loop (loopOf p r)).tries + 1) ∧
  (∀ (s : State) (p : Fin 16) (n r : Nat) (ph : BitVec 6) (ga : BitVec 4) (w : Codeword) (h : Header)
      (body : List Byte) (f : Nat), s.fabUp = true → n % 2 = 0 → s.portQuiet p n = true → s.portOff p = false →
    s.flight p (n % 64 / 2) = some f → probeWord n w = some (h, body) →
    h.probe = true →
    let v := (s.advance (s.probeTime p n (n % 64 / 2))).framedQuiet p (n % 64 / 2) ph.toNat ga.toNat
    v.replyRing p ((n % 64 / 2 + 32 - v.portIndex p) % 32) = some r → v.portQuiet p (n + 1) = true →
    v.now < slotStart (n + 1) →
    ∃ u y, exec (.probeRx p n ph ga w) s = .next u ∧ Tbl.look u.book.sent p = some y ∧ y.slot = n + 1 ∧ y.ring = r ∧
      y.payload = (padTo 8 (body.take 4)).map some) ∧
  (∀ (s : State) (p : Fin 16) (n : Nat) (w : Codeword) (h : Header) (body : List Byte) (x : Probe) (res : Nat)
      (reply : Option Site), s.fabUp = true → probeWord n w = some (h, body) →
    Tbl.look s.fab.probes (p / 4) = some x → x.port = p → s.judge x n h body = some (res, reply) →
    ∃ t, exec (.probeReplyRx p n w) s = .next ((s.advance t).probeDone (p / 4) x res reply)) ∧
  (∀ (s : State) (p : Fin 16) (n m : Nat) (x : Probe), s.fabUp = true → Tbl.look s.fab.probes (p / 4) = some x →
    x.port = p → x.sent = some m → m + 1 = n →
    ∃ t, exec (.probeNoReply p n) s = .next ((s.advance t).probeDone (p / 4) x prNoReply none)) ∧
  (∀ (s : State) (e : Fin 4) (t : Nat) (x : Probe), s.fabUp = true → Tbl.look s.fab.probes e = some x → x.sent = none →
    slotStart (lastProbeSlot x.since (s.portIndex x.port) + 1) ≤ max s.now t →
    exec (.probeNotSent e t) s = .next ((s.advance t).probeDone e x prNotSent none)) ∧
  (∀ (s : State) (l : Fin 176) (t : Nat), s.fabUp = true → s.ringSt l = rgLocked →
    s.on (JIG.L_STAT.VERIFIED l) = false → (s.loop l).asked = false → (ringOf l).isSome = true → s.triesLeft l = false →
    s.probing l = false →
    ∃ u, exec (.verifyTimeout l t) s = .next u ∧ (u.loop l).asked = true ∧ u.on JIG.EVENT.UNVERIFIED = true ∧
      s.regsButEvent u [JIG.EVENT.UNVERIFIED, seqOf JIG.EVENT.UNVERIFIED]) ∧
  (∀ (s : State) (e : Nat) (x : Probe) (res : Nat), res < 8 →
    Tbl.look (s.probeDone e x res none).fab.probes e = none ∧ (s.probeDone e x res none).rd (OPE.PROBE_RES.RESULT e) = res ∧
      (s.probeDone e x res none).on (OPE.EVENT.PROBE_DONE e) = true)

/-- R138, R139, R192, R200-R203: a port's wardrobe and spares, and the staged wardrobe: a clash of colours or a ring
that does not exist is refused; staging is closed while a re-cable is committed or runs; a re-cable is armed with a
switch, and cancelled before it is committed. Its definitions follow the model's choices in log entry 127. -/
def Obligations.Wardrobes : Prop :=
  (∀ (s : State) (p : Fin 16) (hi : Bool) (v : BitVec 32), s.csrSound →
    let all := if hi then (s.wardrobe p).take 4 ++ (List.range 4).map (wardOf v.toNat)
      else (List.range 4).map (wardOf v.toNat) ++ (s.wardrobe p).drop 4
    (wardClash all = false → exec (.wardrobeWrite p hi v) s = .next ((s.storeWard p hi v.toNat).retargetPort p)) ∧
    (wardClash all = true → ∃ t, exec (.wardrobeWrite p hi v) s = .next t ∧ s.flagged t (OPE.EVENT.CFG_ERR (p / 4)) ∧
      s.onlyEvent t [OPE.EVENT.CFG_ERR (p / 4), seqOf (OPE.EVENT.CFG_ERR (p / 4))])) ∧
  (∀ (s : State) (p : Fin 16) (hi : Bool) (v i : Nat), i < 4 →
    (s.storeWard p hi v).wardColour p (4 * bit hi + i) = wardOf v i) ∧
  (∀ (s : State) (p : Fin 16) (v : BitVec 32), s.csrSound →
    let b := bitsOf v.toNat 0 4
    let w := bitsOf v.toNat 8 4
    ((b < 8 ∨ b = 15) → (w < 8 ∨ w = 15) → b = s.bFor p → exec (.spareWrite p v) s =
      .next (((s.wr (OPE.P_SPARE.B_FOR p) b).wr (OPE.P_SPARE.S_FOR p) w).retargetPort p)) ∧
    ((8 ≤ b ∧ b ≠ 15) → ∃ t, exec (.spareWrite p v) s = .next t ∧ s.flagged t (OPE.EVENT.CFG_ERR (p / 4)) ∧
      s.onlyEvent t [OPE.EVENT.CFG_ERR (p / 4), seqOf (OPE.EVENT.CFG_ERR (p / 4))])) ∧
  (∀ (s : State) (p : Fin 16) (v : BitVec 32), s.csrSound →
    (s.rcState ≠ rcCommitted → s.rcState ≠ rcRunning →
      wardClash ((List.range 4).map (wardOf v.toNat) ++ (s.staged p).drop 4) = false →
      ∃ t, exec (.rcbStageWrite p false v) s = .next t ∧ t.rd (CAL.RCB_WARD_0.W3_W0 p) = wardMask v.toNat ∧
        s.onlyRegs t [CAL.RCB_WARD_0.W3_W0 p]) ∧
    (s.rcState ≠ rcCommitted → s.rcState ≠ rcRunning →
      wardClash ((s.staged p).take 4 ++ (List.range 4).map (wardOf v.toNat)) = true →
      ∃ t, exec (.rcbStageWrite p true v) s = .next t ∧ s.flagged t CAL.RCB_EVENT.CFG_ERR ∧
        s.onlyEvent t [CAL.RCB_EVENT.CFG_ERR, seqOf CAL.RCB_EVENT.CFG_ERR]) ∧
    (s.rcState = rcCommitted ∨ s.rcState = rcRunning → ∀ hi : Bool,
      ∃ t, exec (.rcbStageWrite p hi v) s = .next t ∧
        t.rd CAL.RCB_COUNTS.FROZEN_WR = (s.rd CAL.RCB_COUNTS.FROZEN_WR + 1) % 2 ^ CAL.RCB_COUNTS.FROZEN_WR.width ∧
        s.onlyRegs t [CAL.RCB_COUNTS.FROZEN_WR])) ∧
  (∀ (s : State), s.unsafeBlock 9 = false → s.swState = swArmed → s.swSlot % 64 = 0 →
    s.rcState = rcIdle ∨ s.rcState = rcDone →
    ∃ t, exec .rcbArm s = .next t ∧ t.rcState = rcArmed ∧ t.rd CAL.RCB_STAT.PHASE = 0 ∧
      t.rd CAL.RCB_SLOT.R = s.swSlot % 2 ^ CAL.RCB_SLOT.R.width ∧
      s.onlyRegs t [CAL.RCB_SLOT.R, CAL.RCB_STAT.STATE, CAL.RCB_STAT.PHASE]) ∧
  (∀ (s : State), s.swState ≠ swArmed ∨ s.swSlot % 64 ≠ 0 →
    ∃ t, exec .rcbArm s = .next t ∧ s.flagged t CAL.RCB_EVENT.ARM_REFUSED ∧
      s.onlyEvent t [CAL.RCB_COUNTS.REFUSED, CAL.RCB_EVENT.ARM_REFUSED, seqOf CAL.RCB_EVENT.ARM_REFUSED]) ∧
  (∀ (s : State),
    (s.rcState = rcArmed → ∃ t, exec .rcbCancel s = .next t ∧ t.rcState = rcIdle ∧ s.onlyRegs t [CAL.RCB_STAT.STATE]) ∧
    (s.rcState = rcRunning → ∃ t, exec .rcbCancel s = .next t ∧ s.flagged t CAL.RCB_EVENT.ARM_REFUSED ∧
      s.onlyEvent t [CAL.RCB_EVENT.ARM_REFUSED, seqOf CAL.RCB_EVENT.ARM_REFUSED]))

/-- R204-R212: a re-cable starts at slot R, goes through its phases, learns, and ends with its result. Its definitions
follow the model's choices in log entry 86. -/
def Obligations.Recabling : Prop :=
  (∀ (s : State), s.fabUp = true → s.rcState = rcCommitted →
    let v := (((s.advance (s.rcAt 0)).calAbortOpt 13).wr CAL.RCB_STAT.STATE rcRunning).wr CAL.RCB_STAT.PHASE 1
    exec .recableStart s = .next ((List.range 16).foldl (fun s p => s.recablePort p)
      { v with fab := { v.fab with recable := { v.fab.recable with mislocks := 0 } } })) ∧
  (∀ (s : State), s.fabUp = true → s.rcState = rcRunning → 0 < s.rd CAL.RCB_STAT.PHASE → s.rd CAL.RCB_STAT.PHASE ≤ 3 →
    ∃ t, exec .recablePhase s = .next t ∧ t.rd CAL.RCB_STAT.PHASE = s.rd CAL.RCB_STAT.PHASE + 1 ∧
      t = { s with regs := t.regs, now := t.now } ∧ s.regsBut t [CAL.RCB_STAT.PHASE]) ∧
  (∀ (s : State) (n : Nat), s.fabUp = true → s.rcState = rcRunning → s.rcSlot + 3712 ≤ n → n < s.rcSlot + 5760 →
    n % 16 = 8 → s.now < slotStart (n + 1) →
    exec (.learningSlot n []) s =
      .next ((List.range 16).foldl (fun s p => s.learnSend n (n / 16 % 32) p) (s.advance (slotStart n)))) ∧
  (∀ (s : State) (n k p r : Nat), s.lockedOn p k = some r → s.portOff p = false → s.on GAUGE.STATUS.OPT_OK = true →
    ∃ v x, s.learnSend n k p = v ∧ Tbl.look v.book.sent p = some x ∧ x.slot = n ∧ x.ring = r ∧ x.payload = []) ∧
  (∀ (s : State), s.fabUp = true → s.rcState = rcRunning → s.rd (CAL.LSR_STAT.STEP 0) ≠ stMeasure →
    s.rd (CAL.LSR_STAT.STEP 1) ≠ stMeasure →
    ∃ t, exec .recableEnd s = .next t ∧ t.rcState = rcDone ∧ t.rd CAL.RCB_STAT.PHASE = 0 ∧
      t.rd CAL.RCB_COUNTS.DONE = (s.rd CAL.RCB_COUNTS.DONE + 1) % 2 ^ CAL.RCB_COUNTS.DONE.width ∧
      t.on CAL.RCB_EVENT.DONE = true ∧
      t.rd CAL.RCB_RESULT.MISLOCK = min s.fab.recable.mislocks (2 ^ CAL.RCB_RESULT.MISLOCK.width - 1) ∧
      t.rd CAL.RCB_RESULT.PC_INVALID = min (s.claimedPairs.filter fun x => !s.on (OPE.P_PC.VALID x.1 x.2)).length
        (2 ^ CAL.RCB_RESULT.PC_INVALID.width - 1))

/-- R168, R213-R218: a worn ring is covered by B and then served by S, and its index is given up where S has failed
too; a spare channel is mapped over a faulted one; a port that frames nothing is disabled. Its definitions follow the
model's choices in log entries 75, 76, 86. -/
def Obligations.Wear : Prop :=
  (∀ (s : State) (p : Fin 16) (n : Fin 8), s.fabUp = true → s.on (wardField p n).1 = true →
    (s.sFor p = n → s.ringSt (loopOf p 9) = rgFault → exec (.ringReplace p n) s = .next (s.ringLost p n)) ∧
    (s.sFor p = 15 → s.ringSt (loopOf p n) = rgFault → s.ringSt (loopOf p 9) ≠ rgFault →
      exec (.ringReplace p n) s = .next (s.useSpare p n)) ∧
    (s.sFor p = 15 → s.ringSt (loopOf p n) ≠ rgFault → s.worn p n = true → s.bFor p = 15 →
      s.ringSt (loopOf p 8) = rgParked → exec (.ringReplace p n) s = .next (State.setBFor
        { s with fab := { s.fab with recable := { s.fab.recable with repl := Tbl.set s.fab.recable.repl p n.val } } } p n))) ∧
  (∀ (s : State) (m : Bool) (l : Fin 176) (x : Nat), s.fabUp = true → (m, l.val) ∈ s.fab.jig.faulty →
    s.spareChannel m (l / 44) = some x →
    let i := edChannel m (l / 44) (l % 44)
    ∃ t, exec (.channelFaultSpare m l) s = .next t ∧ t.rd (ED.SPARE_MAP.EN (l / 88) i) = 1 ∧
      t.rd (ED.SPARE_MAP.SPARE (l / 88) i) = x % 2 ^ (ED.SPARE_MAP.SPARE (l / 88) i).width ∧
      (t.loop l).cmd = some .reset ∧ (m, l.val) ∉ t.fab.jig.faulty) ∧
  (∀ (s : State) (l : Fin 176), s.fabUp = true →
    exec (.heaterCompliance l) s = .next ((((s.wr (ED.STATUS.DAC_FAULT (l / 88)) 1).bump (ED.COUNTS.COMPLIANCE (l / 88))).raise
      (ED.EVENT.DAC_FAULT (l / 88))).channelFault false l) ∧
    exec (.monitorChannelFault l) s = .next (((s.wr (ED.STATUS.AMP_FAULT (l / 88)) 1).raise
      (ED.EVENT.AMP_FAULT (l / 88))).channelFault true l)) ∧
  (∀ (s : State) (p : Fin 16), s.fabUp = true → s.portEn p = true → 16 ≤ Tbl.lookD s.fab.dead 0 p →
    p.val ∈ s.fab.noLoop →
    ∃ t, exec (.portFailed p) s = .next t ∧ p.val ∈ t.fab.failed ∧
      t.rd (OPE.CTRL.PORT_EN (p / 4)) = (s.rd (OPE.CTRL.PORT_EN (p / 4)) - 2 ^ (p.val % 4)) % 16) ∧
  (∀ (s : State) (l : Nat) (m : Bool), s.fab.cal.opt = none → s.ringSt l ≠ rgFault → ringOf l = none →
    (s.channelFault m l).ringSt l = rgFault ∧ (m, l) ∈ (s.channelFault m l).fab.jig.faulty ∧
      ((s.channelFault m l).loop l).d = 0 ∧ (s.channelFault m l).on JIG.EVENT.FAULT = true)

/-- R219-R227, R230, R234: a laser source's level goes up and down with its tests; its spare is warmed, measured and
flipped to; its track follows; software forces and aborts the sequence; a lost neighbour is reported. Its definitions
follow the model's choices in log entries 78, 98. -/
def Obligations.Lasers : Prop :=
  (∀ (s : State) (i : Fin 2), s.fabUp = true →
    (s.rd (CAL.LSR_STAT.LEVEL i) = 0 → (s.laser i).lostRun = 0 → (s.laser i).spareRun < 4 → 16 ≤ (s.laser i).warnRun →
      ∃ t, exec (.laserLevelUp i) s = .next t ∧ t.rd (CAL.LSR_STAT.LEVEL i) = 1 ∧ t.on CAL.LSR_EVENT.WARN = true ∧
        t.fab.lasers = (s.setLaser i { s.laser i with calmRun := 0 }).fab.lasers) ∧
    (s.rd (CAL.LSR_STAT.LEVEL i) < 2 → (s.laser i).lostRun = 0 → 4 ≤ (s.laser i).spareRun → s.spareAvail i = true →
      s.rd (CAL.LSR_STAT.STEP i) = stNone →
      ∃ t, exec (.laserLevelUp i) s = .next t ∧ t.rd (CAL.LSR_STAT.LEVEL i) = 2 ∧ t.rd (CAL.LSR_STAT.STEP i) = stPrewarm ∧
        (t.laser i).prewarm = true ∧ (t.laser i).t0 = s.now ∧ t.on CAL.LSR_EVENT.SPARE_IN = true) ∧
    (s.rd (CAL.LSR_STAT.LEVEL i) < 3 → 1 ≤ (s.laser i).lostRun →
      ∃ t, exec (.laserLevelUp i) s = .next t ∧ t.rd (CAL.LSR_STAT.LEVEL i) = 3 ∧ t.on CAL.LSR_EVENT.LOST = true ∧
        (t.laser i).lost.length = 64) ∧
    (0 < s.rd (CAL.LSR_STAT.LEVEL i) → s.rd (CAL.LSR_STAT.LEVEL i) ≤ 3 → 1024 ≤ (s.laser i).calmRun →
      ∃ t, exec (.laserLevelDown i) s = .next t ∧ t.rd (CAL.LSR_STAT.LEVEL i) = s.rd (CAL.LSR_STAT.LEVEL i) - 1 ∧
        (t.laser i).calmRun = 0 ∧ s.regsBut t [CAL.LSR_STAT.LEVEL i])) ∧
  (∀ (s : State) (i : Fin 2), s.mainUp = true →
    (s.rd (CAL.LSR_STAT.STEP i) = stPrewarm → exec (.spareReady i true false) s = .next (State.measNext
      (((s.setLaser i { s.laser i with ready := true }).setLaser i
        { s.laser i with ready := true, pilot := true, offs := [] }).wr (CAL.LSR_STAT.STEP i) stMeasure) i (sourcePorts i))) ∧
    (∀ r : Bool, ∃ t, exec (.spareReady i r true) s = .next t ∧ t.spareAvail i = false ∧ (t.laser i).ready = false ∧
      s.regsBut t [CAL.LSR_STAT.SPARE_AVAIL i]) ∧
    (∀ w : BitVec 8, s.rd (CAL.LSR_STAT.STEP i) = stPrewarm →
      ∃ t, exec (.spareWarmTimeout i w) s = .next t ∧ t.rd (CAL.LSR_STAT.STEP i) = stFailed ∧
        t.on CAL.LSR_EVENT.MEAS_FAIL = true ∧
        (t.laser i).retryAt = some (max s.now ((s.laser i).t0 + Config.ns (w.toNat * 100000000)) + tenSeconds)) ∧
    (∀ t : Nat, (s.laser i).retryAt = some t → s.rd (CAL.LSR_STAT.STEP i) = stFailed →
      s.rd (CAL.LSR_STAT.LEVEL i) = 2 → s.spareAvail i = true →
      ∃ u, exec (.spareInRetry i) s = .next u ∧ u.rd (CAL.LSR_STAT.STEP i) = stPrewarm ∧ (u.laser i).prewarm = true)) ∧
  (∀ (s : State) (i : Fin 2) (p t : Nat) (r : List Nat) (o : Int), s.fabUp = true → (s.laser i).ports = p :: r →
    (s.laser i).begun = some t → s.rd (CAL.LSR_STAT.STEP i) = stMeasure → s.rcState ≠ rcRunning →
    let v := (s.advance (t + Config.ns 8000000)).setBFor p 15
    exec (.spareMeasurePort i o) s = .next
      ((v.setLaser i { v.laser i with offs := (s.laser i).offs ++ [o], begun := none }).measNext i r)) ∧
  (∀ (s : State) (i : Fin 2) (n : Nat), s.fabUp = true → s.now ≤ slotStart n → s.spareAvail i = true →
    s.rd (CAL.LSR_STAT.LEVEL i) ≠ 3 → s.rd (CAL.LSR_STAT.STEP i) = stWait → (s.laser i).after ≤ slotStart n →
    s.windowStart n = true → s.unsafeBlock 9 = false →
    ∃ t, exec (.laserFlip i n) s = .next t ∧ t.on (CAL.LSR_STAT.ON_SPARE i) = true ∧ t.spareAvail i = false ∧
      t.rd (CAL.LSR_STAT.STEP i) = stFlipped ∧ t.rd (CAL.LSR_STAT.LEVEL i) = 0 ∧
      (t.laser i).stepAt = some (slotStart n) ∧ (t.laser i).refRun = 16 ∧ t.on CAL.LSR_EVENT.FLIP = true) ∧
  (∀ (s : State) (i : Fin 2) (w : Nat), s.fabUp = true → (s.laser i).stepAt = some w →
    let k := (w + Config.ns 5000 + Config.cycleTime - 1) / Config.cycleTime
    exec (.flipTrackStep i) s = .next (((s.advance (k * Config.cycleTime)).setLaser i
      { s.laser i with stepAt := none }).setTrack i ((if i.val = 0 then s.fab.jig.fA else s.fab.jig.fB) + (s.laser i).mean))) ∧
  (∀ (s : State) (i : Fin 2) (w : Nat) (v : BitVec 16), s.fabUp = true → (s.laser i).restart = some w →
    ∃ t, exec (.lostTrackRestart i v) s = .next t ∧ (t.laser i).restart = none ∧ (t.laser i).jumped = true ∧
      (if i.val = 0 then t.fab.jig.fA else t.fab.jig.fB) = trackIn v.toNat) ∧
  (∀ (s : State) (i : Fin 2),
    (s.spareAvail i = false → ∃ t, exec (.lsrForce i) s = .next t ∧ t.on CAL.LSR_EVENT.CFG_ERR = true ∧
      t.rd CAL.LSR_EVENT.SRC = i.val ∧ s.onlyEvent t [CAL.LSR_EVENT.SRC, CAL.LSR_EVENT.CFG_ERR, seqOf CAL.LSR_EVENT.CFG_ERR]) ∧
    (s.spareAvail i = true → exec (.lsrForce i) s = .next (s.spareIn i)) ∧
    (s.rd (CAL.LSR_STAT.STEP i) = stWait → exec (.lsrAbort i) s = .next ((s.measStop i).wr (CAL.LSR_STAT.STEP i) stNone))) ∧
  (∀ (s : State) (k : Fin 6) (b : IdBlock) (j : Fin 32) (l : Fin 22), s.mainUp = true → l.val = 16 + k.val →
    (s.cuLink k).peer = some b → (s.cuLink k).told = false → s.cuUp k = false →
    ∃ t, exec (.neighbourLost l j) s = .next t ∧ (t.cuLink k).told = true)

/-- R238-R243, R247: what queues a calibration unit, in which order, and how a sequencer starts its next unit, defers
it or drops it. Its definitions follow the model's choices in log entry 81. -/
def Obligations.CalibrationQueue : Prop :=
  (∀ (s : State) (u : Fin 6) (temp : Int), s.fabUp = true → s.on CAL.CTRL.TEMP_EN = true →
    (u.val < 4 → s.rd CAL.TRIG_CFG.ENG_DT < (s.engineDelta u).natAbs →
      exec (.calTempTrigger false u temp) s = .next (s.calQueue ⟨7, u, .temperature, 0⟩)) ∧
    (let v := s.showInt (CAL.CU_T.NOW u) temp
     v.rd CAL.TRIG_CFG.CU_DT < (v.rdI (CAL.CU_T.NOW u) - v.rdI (CAL.CU_T.AT_RUN u)).natAbs →
     s.fab.cal.tdcDue = false → exec (.calTempTrigger true u temp) s = .next (v.calQueue ⟨8, u, .temperature, 0⟩))) ∧
  (∀ (s : State) (k : BitVec 4) (u : BitVec 12) (t : Nat), s.fabUp = true → s.on CAL.CTRL.INT_EN = true →
    3 ≤ k.toNat → calValid k.toNat u.toNat = true →
    Tbl.lookD s.fab.cal.lastAt 0 (calKey k.toNat u.toNat) + Config.ns (1000000000 * s.rd CAL.INTERVAL.SECONDS) ≤ t →
    exec (.calIntervalTrigger k u t) s = .next ((s.advance t).calQueue ⟨k.toNat, u.toNat, .interval, 0⟩)) ∧
  (∀ (s : State) (k : BitVec 4) (u : BitVec 12), s.csrSound →
    (calValid k.toNat u.toNat = true → exec (.calRun k u) s =
      .next (((s.wr CAL.CMD.KIND k.toNat).wr CAL.CMD.UNIT u.toNat).calQueue ⟨k.toNat, u.toNat, .command, 0⟩)) ∧
    (calValid k.toNat u.toNat = false → ∃ t, exec (.calRun k u) s = .next t ∧ s.flagged t CAL.EVENT.CFG_ERR ∧
      t.rd CAL.CMD.KIND = k.toNat ∧ t.rd CAL.CMD.UNIT = u.toNat ∧
      s.onlyEvent t [CAL.CMD.KIND, CAL.CMD.UNIT, CAL.EVENT.CFG_ERR, seqOf CAL.EVENT.CFG_ERR])) ∧
  (∀ (s : State) (u : CalUnit),
    ((∀ x ∈ s.fab.cal.queue, x.kind ≠ u.kind ∨ x.unit ≠ u.unit) → s.fab.cal.queue.length < 255 →
      let l := (s.calQueue u).fab.cal.queue
      l = (s.fab.cal.queue.filter fun x => decide (x.who.rank ≤ u.who.rank)) ++ u ::
          (s.fab.cal.queue.filter fun x => decide (u.who.rank < x.who.rank)) ∧
      l.length = s.fab.cal.queue.length + 1 ∧ (s.calQueue u).rd CAL.STAT.QUEUED = l.length ∧
      s.regsBut (s.calQueue u) [CAL.STAT.QUEUED]) ∧
    (∀ x ∈ s.fab.cal.queue, x.kind = u.kind → x.unit = u.unit → (s.calQueue u).fab.cal.queue = s.fab.cal.queue) ∧
    ((∀ x ∈ s.fab.cal.queue, x.kind ≠ u.kind ∨ x.unit ≠ u.unit) → 255 ≤ s.fab.cal.queue.length →
      s.flagged (s.calQueue u) CAL.EVENT.SKIPPED ∧
      s.onlyEvent (s.calQueue u) [CAL.COUNTS.SKIPPED, CAL.EVENT.SKIPPED, seqOf CAL.EVENT.SKIPPED])) ∧
  (∀ (s : State) (cu : Bool) (u : CalUnit), s.fabUp = true → s.unsafeBlock 9 = false →
    (cu = true ∨ s.rcState ≠ rcRunning) → s.calRun cu = none →
    (s.fab.cal.queue.find? fun x => calElectric x == cu) = some u →
    s.on (if cu then CAL.CTRL.CU_EN else CAL.CTRL.OPT_EN) = true →
    let rest := s.fab.cal.queue.filter (· != u)
    (s.on CAL.STAT.PAUSED = true →
      exec (.calUnitStart cu) s = .next ((s.bump HLT.MC_SHED.D_DEFERRED).count ctrFtd 0x070 3)) ∧
    (s.on CAL.STAT.PAUSED = false → s.unitShut u = true →
      ∃ t, exec (.calUnitStart cu) s = .next t ∧ t.rd (CAL.RES.OUTCOME (calKey u.kind u.unit)) = 4 ∧
        t.on CAL.EVENT.SKIPPED = true ∧ t.fab.cal.queue = rest) ∧
    (s.on CAL.STAT.PAUSED = false → s.unitShut u = false → s.unitFree u = true →
      exec (.calUnitStart cu) s = .next (((s.setQueue' rest).wr (if cu then CAL.STAT.CU_UNIT else CAL.STAT.OPT_UNIT)
        u.unit).partBegin cu { item := u })) ∧
    (s.on CAL.STAT.PAUSED = false → s.unitShut u = false → s.unitFree u = false → u.defer < 63 →
      exec (.calUnitStart cu) s = .next ((s.setQueue' rest).calQueue { u with defer := u.defer + 1 }))) ∧
  (∀ (s : State) (x : CalRun) (k n : Nat), x.lane = some (k, n) → s.cuUp k = true → s.spareIdle k = true →
    let t := s.partBegin true x
    t.rd CAL.STAT.CU_BUSY = 1 ∧ (t.cuLink k).hov = some { lane := n, mine := true } ∧
      t.rd (CU.STAT.HOV k) = n % 2 ^ (CU.STAT.HOV k).width ∧ s.regsBut t [CAL.STAT.CU_BUSY, CU.STAT.HOV k])

/-- R244-R252, R254-R257, R262: what a run has measured is accepted as a whole or rejected with its first failing
reason; a calibrated ring that does not lock again has its old values back; an abort; the jumps after a restore's
wait. Its definitions follow the model's choices in log entry 79. -/
def Obligations.CalibrationRuns : Prop :=
  (∀ (s : State) (x : CalRun) (l : Nat) (peaks : List PeakMeas) (dark rh : Nat) (slope gOn gOff : Int) (peak phi : Nat)
    (col : List (Nat × Int)), s.fabUp = true → s.fab.cal.opt = some x → x.begun = true → x.loop = some l →
    x.locking = none → x.held = true →
    let v := s.ringVals l peaks dark rh slope gOn gOff peak phi col
    exec (.calRunComplete false (.ring peaks dark rh slope gOn gOff peak phi col)) s =
      .next (s.ringDone x l (if (ringOf l).isNone then { v with pcal := [] } else v))) ∧
  (∀ (s : State) (x : CalRun) (l : Nat) (v : RingVals) (r : Nat), x.item.kind = 1 → x.item.unit = l → x.bad = 0 →
    s.ringReason l v = r → r ≠ 0 →
    let t := s.ringDone x l v
    t.rd (CAL.RES.OUTCOME (calKey 1 l)) = 2 ∧ t.rd (CAL.RES.REASON (calKey 1 l)) = r ∧ t.on CAL.EVENT.REJECTED = true ∧
      (t.loop l).cal = (s.loop l).cal ∧ t.fab.cal.opt = none ∧ t.rd CAL.STAT.OPT_BUSY = 0 ∧
      t.fab.cal.values = s.fab.cal.values) ∧
  (∀ (s : State) (x : CalRun) (l t0 r : Nat), s.fabUp = true → s.fab.cal.opt = some x → x.begun = true →
    x.item.kind = 1 → x.item.unit = l → x.locking = some t0 → s.ringSt l = rgLocked →
    ∃ t, exec (.calRunComplete false (.locked r)) s = .next t ∧ t.fab.cal.opt = none ∧
      t.rd (CAL.RES.OUTCOME (calKey 1 l)) = 1 ∧ t.on CAL.EVENT.DONE = true ∧
      Tbl.look t.fab.cal.lastAt (calKey 1 l) = some s.now) ∧
  (∀ (s : State) (x : CalRun) (l t0 : Nat) (c : LoopCal), s.fabUp = true → s.fab.cal.opt = some x →
    x.item.kind = 1 → x.item.unit = l → x.locking = some t0 → x.old = some c → s.ringSt l ≠ rgLocked →
    ∃ t, exec .calLockTimeout s = .next t ∧ t.now = max s.now (t0 + Config.ns 5000000) ∧ (t.loop l).cal = c ∧
      t.fab.cal.opt = none ∧ t.rd (CAL.RES.OUTCOME (calKey 1 l)) = 2 ∧ t.rd (CAL.RES.REASON (calKey 1 l)) = 11 ∧
      t.on CAL.EVENT.REJECTED = true ∧ Tbl.look t.fab.cal.values (calKey 1 l) = none) ∧
  (∀ (s : State) (x : CalRun), s.fabUp = true → s.fab.cal.cu = some x → x.begun = true →
    (∀ (k n w h : Nat) (tx rx : Int) (trims : List Int), x.lane = some (k, n) → (s.cuLink k).loan = some n →
      exec (.calRunComplete true (.lane w h tx rx trims)) s = .next (s.laneDone x k n w h tx rx trims)) ∧
    (∀ (tx rx : Int) (rms : Nat) (ft asym : Int) (n : Nat), x.partUnit.kind = 4 →
      exec (.calRunComplete true (.link tx rx rms ft asym n)) s = .next (s.linkDone true x tx rx rms ft asym n)) ∧
    (∀ (big small : Nat) (tbl : List Int), x.item.kind = 3 → x.bad = 0 → 50 ≤ small → big ≤ 150 →
      ∃ t, exec (.calRunComplete true (.tdc big small tbl)) s = .next t ∧ t.fab.cal.cu = none ∧
        t.fab.cal.tdcDue = true ∧ t.rd (CAL.RES.OUTCOME (calKey 3 x.item.unit)) = 1 ∧ t.on CAL.EVENT.DONE = true) ∧
    (∀ (big small : Nat) (tbl : List Int), x.item.kind = 3 → x.bad = 0 → small < 50 ∨ 150 < big →
      ∃ t, exec (.calRunComplete true (.tdc big small tbl)) s = .next t ∧ t.fab.cal.cu = none ∧
        t.rd (CAL.RES.OUTCOME (calKey 3 x.item.unit)) = 2 ∧ t.rd (CAL.RES.REASON (calKey 3 x.item.unit)) = 10 ∧
        t.on CAL.EVENT.REJECTED = true)) ∧
  (∀ (s : State) (x : CalRun) (k n w h : Nat) (tx rx : Int) (trims : List Int), x.item.kind = 2 →
    x.item.unit = 16 * k + n → n < 16 → x.bad = 0 → s.cuUp k = true → (s.cuLink k).loan = some n → (s.cuLink k).hov = none →
    w < s.rd CAL.LIM_LANE.EYE_W_MIN →
    let t := s.laneDone x k n w h tx rx trims
    t.rd (CAL.RES.OUTCOME (calKey 2 (16 * k + n))) = 2 ∧ t.rd (CAL.RES.REASON (calKey 2 (16 * k + n))) = 6 ∧
      (t.cuLink k).hov = some { lane := n, back := true, mine := true } ∧ t.fab.cal.cu = none) ∧
  (∀ (s : State),
    (s.csrSound → s.fab.cal.opt = none → s.fab.cal.cu = none → exec .calAbort s = .next s) ∧
    (∀ x, s.csrSound → s.fab.cal.opt = none → s.fab.cal.cu = some x → x.lane = none → exec .calAbort s =
      .next (s.calAbortCu 0)) ∧
    (∀ x r, s.fab.cal.cu = some x →
      let t := s.calAbortCu r
      t.fab.cal.cu = none ∧ t.rd CAL.STAT.CU_BUSY = 0 ∧ t.on CAL.EVENT.ABORTED = true ∧
        t.rd (CAL.RES.OUTCOME (calKey x.item.kind x.item.unit)) = 3 ∧
        t.rd (CAL.RES.REASON (calKey x.item.kind x.item.unit)) = r % 2 ^ (CAL.RES.REASON (calKey x.item.kind x.item.unit)).width)) ∧
  (∀ (s : State) (t : Nat), s.fabUp = true → s.fab.cal.waitTo = some t →
    ∃ u, exec .restoreWaitExpiry s = .next u ∧ u.now = max s.now t ∧ u.fab.cal.waitTo = none ∧
      (∀ l, l < 176 → s.ringTarget l ≠ none → s.ringSt l ≠ rgFault → (u.loop l).cmd = some .relock) ∧ u.regs = s.regs)

/-- R258-R262: a save takes the next generation and one of two copies, and says how it went; a restore is for the
volatile mode alone. Its definitions follow the model's choices in log entry 80. -/
def Obligations.CalibrationImages : Prop :=
  (∀ (s : State), s.csrSound → s.fab.cal.saving = none →
    (s.calVolatile = false → ∃ t, exec .calSave s = .next t ∧ t.fab.cal.saveAt = some s.now ∧
      t.fab.cal.saving = some { gen := (s.fab.cal.gen + 1) % 2 ^ 32, digest := s.digest32, recs := s.fab.cal.values } ∧
      (if s.fab.cal.writesCopy1 then t.fab.cal.copy0 = s.fab.cal.copy0 ∧ t.fab.cal.copy1 = none ∧
          t.rd CAL.STORE_STAT.COPY1_OK = 0 ∧ s.regsBut t [CAL.STORE_STAT.COPY1_OK]
        else t.fab.cal.copy1 = s.fab.cal.copy1 ∧ t.fab.cal.copy0 = none ∧ t.rd CAL.STORE_STAT.COPY0_OK = 0 ∧
          s.regsBut t [CAL.STORE_STAT.COPY0_OK])) ∧
    (s.calVolatile = true → s.imgAddr = 0 → exec .calSave s = .next s)) ∧
  (∀ (s : State) (t : Nat), s.mainUp = true → s.on CAL.STORE_STAT.DIRTY = true →
    (∀ a, s.fab.cal.saveAt = some a → a + Config.ns 60000000000 ≤ max s.now t) → s.fab.cal.opt = none →
    (∀ u ∈ s.fab.cal.queue, calElectric u = true) → exec (.calAutoSave t) s = .next (s.advance t).calSave) ∧
  (∀ (s : State) (x : CalImage), s.fab.cal.saving = some x → s.calVolatile = false →
    (∃ t, exec (.calSaveComplete true) s = .next t ∧ t.fab.cal.saving = none ∧ t.fab.cal.image = some x ∧
      t.fab.cal.gen = x.gen ∧ t.rd CAL.STORE_STAT.GEN = x.gen % 2 ^ CAL.STORE_STAT.GEN.width ∧
      t.on CAL.EVENT.SAVED = true ∧ (x.recs = s.fab.cal.values → t.on CAL.STORE_STAT.DIRTY = false) ∧
      (if s.fab.cal.copy0.isSome && s.fab.cal.copy1.isNone then
          t.fab.cal.copy1 = some x ∧ t.on CAL.STORE_STAT.COPY1_OK = true
        else t.fab.cal.copy0 = some x ∧ t.on CAL.STORE_STAT.COPY0_OK = true)) ∧
    (∃ t, exec (.calSaveComplete false) s = .next t ∧ t.fab.cal = { s.fab.cal with saving := none } ∧
      s.flagged t CAL.EVENT.STORE_ERR ∧ s.regsButEvent t [CAL.EVENT.STORE_ERR, seqOf CAL.EVENT.STORE_ERR])) ∧
  (∀ (s : State) (x : CalImage) (u : State), s.fab.cal.saving = some x → s.calVolatile = true →
    (∀ l, s.moveEnd mvSave [] = (u, .done l) →
      exec (.calSaveComplete true) s = .next ((u.saveDone x).compose 1 (leBytes 4 x.gen))) ∧
    (s.moveEnd mvSave [] = (u, .failed) → exec (.calSaveComplete true) s =
      .next ((u.setCal { u.fab.cal with saving := none }).raise CAL.EVENT.STORE_ERR))) ∧
  (∀ (s : State), s.csrSound →
    (s.calVolatile = false → ∃ t, exec .calRestore s = .next t ∧ s.flagged t CAL.EVENT.CFG_ERR ∧
      s.onlyEvent t [CAL.EVENT.CFG_ERR, seqOf CAL.EVENT.CFG_ERR]) ∧
    (s.calVolatile = true → s.move mvRestore = none → s.isComp s.imgAddr = true → exec .calRestore s =
      .next (s.moveBegin mvRestore { write := false, addr := s.imgAddr, len := 64 }))) ∧
  (∀ (s : State) (x : CalImage), (s.restoreDone (some x)).on CAL.EVENT.RESTORE_OK = true ∧
    s.flagged (s.restoreDone none) CAL.EVENT.RESTORE_BAD) ∧
  (∀ (s : State) (x : CalImage), x.recs = [] →
    let t := s.applyImage x
    t.fab.cal.gen = x.gen ∧ t.fab.cal.image = some x ∧ t.on CAL.STORE_STAT.IMG_VALID = true ∧
      t.rd CAL.STORE_STAT.GEN = x.gen % 2 ^ CAL.STORE_STAT.GEN.width)

/-- R271, R273-R278: a copper link goes through DOWN, DETECT, TRAIN, IDENT and ALIGN to UP; a failed check of the
peer's identity block, or too few lanes, quarantines it; each stage has its time. Its definitions follow the model's
choices in log entries 71, 83. -/
def Obligations.CopperTraining : Prop :=
  (∀ (s : State) (k : Fin 6), s.cuRuns k = true →
    (s.on (CU.CTRL.CABLED k) = true → s.cuSt k = cuDown →
      ∃ t, exec (.cuDownDelay k) s = .next t ∧ t.cuSt k = cuDetect ∧ t.now = max s.now ((s.cuLink k).entered + Config.ns 1000000) ∧
        (t.cuLink k).entered = t.now) ∧
    (∀ m : BitVec 9, s.cuSt k = cuDetect → 8 ≤ lanesIn m →
      ∃ t, exec (.cuSignalDetect k m) s = .next t ∧ t.cuSt k = cuTrain ∧ (t.cuLink k).entered = s.now) ∧
    (s.cuSt k = cuDetect → ∃ t, exec (.cuDetectTimeout k) s = .next t ∧ t.cuSt k = cuDown ∧
      t.now = max s.now ((s.cuLink k).entered + Config.ns 100000000)) ∧
    (∀ m : BitVec 9, s.cuSt k = cuTrain → 8 ≤ lanesIn m →
      ∃ t, exec (.cuTrainAdapted k m) s = .next t ∧ t.cuSt k = cuIdent ∧ (t.cuLink k).entered = s.now) ∧
    (s.cuSt k = cuTrain → ∃ t, exec (.cuTrainTimeout k) s = .next t ∧
      t.now = max s.now ((s.cuLink k).entered + Config.ns 150000000) ∧
      (if s.rd (CU.STAT.SPARE_FOR k) = 15 then t.cuSt k = cuDown
        else t.cuSt k = cuQuar ∧ t.rd (CU.STAT.Q_REASON k) = 5 ∧ t.on (CU.EVENT.QUARANTINE k) = true)) ∧
    (s.cuSt k = cuIdent → ∃ t, exec (.cuIdentTimeout k) s = .next t ∧ t.cuSt k = cuDown ∧
      t.now = max s.now ((s.cuLink k).entered + Config.ns 10000000)) ∧
    (s.cuSt k = cuAlign → ∃ t, exec (.cuAlignTimeout k) s = .next t ∧ t.cuSt k = cuDown ∧
      t.now = max s.now ((s.cuLink k).entered + Config.ns 20000000))) ∧
  (∀ (s : State) (k : Fin 6) (b : IdBlock) (ls : List LaneId), s.cuRuns k = true → s.cuSt k = cuIdent → 8 ≤ ls.length →
    let v := s.showPeer k b
    (v.cuLink k).peer = some b ∧ v.rd (CU.PEER_ID.NODE k) = b.node % 2 ^ (CU.PEER_ID.NODE k).width ∧
    (v.identCheck k b ls ≠ 0 → ∃ t, exec (.cuIdentRx k b ls) s = .next t ∧ t.cuSt k = cuQuar ∧
      t.rd (CU.STAT.Q_REASON k) = v.identCheck k b ls ∧ t.on (CU.EVENT.QUARANTINE k) = true) ∧
    (v.identCheck k b ls = 0 → b.digest = s.ownDigest →
      exec (.cuIdentRx k b ls) s = .next ((v.remap k b.spare ls).cuEnter k cuAlign)) ∧
    (v.identCheck k b ls = 0 → b.digest ≠ s.ownDigest →
      exec (.cuIdentRx k b ls) s = .next (((v.raise (CU.EVENT.DIGEST k)).remap k b.spare ls).cuEnter k cuAlign))) ∧
  (∀ (s : State) (k : Fin 6) (b : IdBlock) (ls : List LaneId),
    (b.node ≠ s.rd (CU.CTRL.EXPECT k) → s.identCheck k b ls = 1) ∧
    (s.identCheck k b ls = 0 ↔ b.node = s.rd (CU.CTRL.EXPECT k) ∧ b.link = peerLink k ∧
      (b.digest = s.ownDigest ∨ s.on (CU.CTRL.DIGEST_LAX k) = true) ∧ b.verMajor = 1 ∧ 8 ≤ usable b.spare ls)) ∧
  (∀ (s : State) (k : Fin 6) (m : BitVec 9), s.cuRuns k = true → s.cuSt k = cuAlign →
    (∀ n, n < 8 → ∃ i, i < 9 ∧ m.getLsbD i = true ∧ s.rd (CU.LANE_STAT.LOGICAL k i) = n) →
    ∃ t, exec (.cuAlignDone k m) s = .next t ∧ t.cuUp k = true ∧ t.rd (CU.STAT.LANE_LOCK k) = m.toNat ∧
      t.rd (CU.COUNTS.TRAINS k) = (s.rd (CU.COUNTS.TRAINS k) + 1) % 2 ^ (CU.COUNTS.TRAINS k).width ∧
      t.on (CU.EVENT.UP k) = true ∧ (t.cuLink k).told = false) ∧
  (∀ (s : State) (k : Fin 6), s.cuRuns k = true → s.cuUp k = true → 4 ≤ (s.cuLink k).fails → s.laneRun k = false →
    ∃ t, exec (.cuFramingLoss k) s = .next t ∧ t.cuSt k = cuDown ∧ t.rd (CU.STAT.LANE_LOCK k) = 0 ∧
      t.rd (CU.STAT.HOV k) = 15 ∧ t.on (CU.EVENT.DOWN k) = true ∧
      t.cuLink k = { s.cuLink k with entered := s.now, fails := 0, hov := none, loan := none, lost := [] }) ∧
  (∀ (s : State) (k : Fin 6), s.cuRuns k = true → s.cuSt k = cuQuar →
    (∃ t, exec (.cuQuarantineExit k none) s = .next t ∧ t.cuSt k = cuDown ∧ t.rd (CU.STAT.Q_REASON k) = 0) ∧
    (∀ b, (s.cuLink k).peer = some b → exec (.cuQuarantineExit k (some b)) s = .next s) ∧
    (∀ b, (s.cuLink k).peer ≠ some b → ∃ t, exec (.cuQuarantineExit k (some b)) s = .next t ∧ t.cuSt k = cuDown ∧
      (t.cuLink k).peer = some b)) ∧
  (∀ (s : State) (k : Fin 6), s.csrSound → s.laneRun k = false → ∃ t, exec (.cuRetrain k) s = .next t ∧ t.cuSt k = cuDown ∧
    (t.cuLink k).entered = s.now ∧ (t.cuLink k).hov = none ∧ (s.cuUp k = true → t.on (CU.EVENT.DOWN k) = true))

/-- R228, R279-R281: a handover moves a logical lane onto the spare lane and back; a lane that loses lock, or that is
worn, goes to it at once, and a link that has none to give goes down; a package that fails goes dark. Its definitions
follow the model's choices in log entry 84. -/
def Obligations.CopperHandovers : Prop :=
  (∀ (s : State) (k : Fin 6) (n : BitVec 4) (p : Bool), s.csrSound →
    (n.toNat < 8 → s.cuUp k = true → s.spareIdle k = true →
      ∃ t, exec (.cuSpare k n p) s = .next t ∧ (t.cuLink k).hov = some { lane := n.toNat, perm := p, mine := true } ∧
        t.rd (CU.STAT.HOV k) = n.toNat ∧ s.regsBut t [CU.CMD.LANE k, CU.CMD.PERM k, CU.STAT.HOV k]) ∧
    (8 ≤ n.toNat ∨ s.cuUp k = false ∨ s.spareIdle k = false →
      ∃ t, exec (.cuSpare k n p) s = .next t ∧ s.flagged t (CU.EVENT.CFG_ERR k) ∧
        s.onlyEvent t [CU.CMD.LANE k, CU.CMD.PERM k, CU.EVENT.CFG_ERR k, seqOf (CU.EVENT.CFG_ERR k)]) ∧
    (s.cuUp k = true → (s.cuLink k).loan = some n.toNat → (s.cuLink k).hov = none →
      ∃ t, exec (.cuBack k n) s = .next t ∧ (t.cuLink k).hov = some { lane := n.toNat, back := true, mine := true } ∧
        t.rd (CU.STAT.HOV k) = n.toNat ∧ s.regsBut t [CU.CMD.LANE k, CU.STAT.HOV k]) ∧
    (s.cuUp k = false ∨ (s.cuLink k).loan ≠ some n.toNat →
      ∃ t, exec (.cuBack k n) s = .next t ∧ s.flagged t (CU.EVENT.CFG_ERR k) ∧
        s.onlyEvent t [CU.CMD.LANE k, CU.EVENT.CFG_ERR k, seqOf (CU.EVENT.CFG_ERR k)])) ∧
  (∀ (s : State) (k : Fin 6) (n : Fin 8) (back : Bool), s.cuRuns k = true → s.cuUp k = true →
    ((s.cuLink k).hov = none → (if back then (s.cuLink k).loan = some n.val else s.spareIdle k = true) →
      ∃ t, exec (.handoverPeerCopy k n back) s = .next t ∧ (t.cuLink k).hov = some { lane := n.val, back := back } ∧
        t.rd (CU.STAT.HOV k) = n.val ∧ s.regsBut t [CU.STAT.HOV k]) ∧
    (∀ y, (s.cuLink k).hov = some y → y.mine = true → y.moved = false → s.rd (CU.PEER_ID.NODE k) < s.node →
      ∃ t, exec (.handoverPeerCopy k n back) s = .next t ∧ (t.cuLink k).hov = some { lane := n.val, back := back } ∧
        t.on (CU.EVENT.CFG_ERR k) = true)) ∧
  (∀ (s : State) (k : Fin 6) (h : Handover), s.cuRuns k = true → s.cuUp k = true → (s.cuLink k).hov = some h →
    (h.moved = false → exec (.handoverRxSwitch k) s =
      .next ((s.setCu k { s.cuLink k with hov := some { h with moved := true } }).rxSwitch k h)) ∧
    (h.moved = true → ∃ t, exec (.handoverComplete k) s = .next t ∧ (t.cuLink k).hov = none ∧
      (t.cuLink k).loan = (if h.back || h.perm then none else some h.lane) ∧ t.rd (CU.STAT.HOV k) = 15 ∧
      t.rd (CU.COUNTS.HANDOVERS k) = (s.rd (CU.COUNTS.HANDOVERS k) + 1) % 2 ^ (CU.COUNTS.HANDOVERS k).width ∧
      t.on (CU.EVENT.HOV_DONE k) = true ∧
      (t.rd (CU.STAT.SPARE_FOR k) = if h.perm && !h.back then h.lane % 2 ^ (CU.STAT.SPARE_FOR k).width
        else s.rd (CU.STAT.SPARE_FOR k)))) ∧
  (∀ (s : State) (k : Nat) (h : Handover) (i j : Nat), k < 6 → i ≠ j → i < 9 → j < 9 → h.lane < 8 →
    s.rxOf k h.lane = some i → s.rxOf k 8 = some j →
    let t := s.rxSwitch k h
    (if h.back then t.rd (CU.LANE_STAT.LOGICAL k i) = h.lane ∧ t.rd (CU.LANE_STAT.LOGICAL k j) = 8
      else t.rd (CU.LANE_STAT.LOGICAL k i) = 15 ∧ t.rd (CU.LANE_STAT.LOGICAL k j) = h.lane) ∧
    s.onlyRegs t [CU.LANE_STAT.LOGICAL k i, CU.LANE_STAT.LOGICAL k j]) ∧
  (∀ (s : State) (k : Fin 6) (n : Fin 8), s.cuRuns k = true → s.cuUp k = true → s.laneRun k = false →
    (s.spareIdle k = true → ∃ t, exec (.laneLockLoss k n) s = .next t ∧
      (t.cuLink k).hov = some { lane := n.val, mine := true, moved := true } ∧ n.val ∈ (t.cuLink k).lost ∧
      t.cuSt k = s.cuSt k) ∧
    (s.spareIdle k = false → ∃ t, exec (.laneLockLoss k n) s = .next t ∧ t.cuSt k = cuDown ∧
      t.on (CU.EVENT.DOWN k) = true)) ∧
  (∀ (s : State) (k : Fin 6) (n : Fin 8), s.cuRuns k = true → s.cuUp k = true → s.laneWorn k n = true →
    let i := (s.rxOf k n).getD n.val
    s.on (CU.LANE_STAT.WORN k i) = false →
    (s.rd (CU.STAT.SPARE_FOR k) = 15 → s.spareIdle k = true → ∃ t, exec (.laneWorn k n) s = .next t ∧
      (t.cuLink k).hov = some { lane := n.val, perm := true, mine := true } ∧ t.on (CU.LANE_STAT.WORN k i) = true ∧
      t.on (CU.EVENT.LANE_WORN k) = true ∧
      t.patch.waiting = s.patch.waiting ++ [⟨5, 1, k.val, n.val, s.rd HLT.OPTIME.MINUTES⟩]) ∧
    (s.rd (CU.STAT.SPARE_FOR k) ≠ 15 → ∃ t, exec (.laneWorn k n) s = .next t ∧ t.cuLink k = s.cuLink k ∧
      t.on (CU.LANE_STAT.WORN k i) = true ∧ t.on (CU.EVENT.LANE_WORN k) = true ∧
      t.patch.waiting = s.patch.waiting ++ [⟨5, 2, k.val, 0, s.rd HLT.OPTIME.MINUTES⟩])) ∧
  (∀ (s : State) (t a : Nat), s.fab.stopAt = some a →
    ∃ u, exec (.fabricStop t) s = .next u ∧ u.fab.dark = true ∧ u.fab.stopAt = none ∧ u.fabUp = false ∧
      u.now = max s.now (min t (a + Config.ns 10000)))

/-- R87, R116-R121, R135-R137, R147: at its cut-off a STITCH slot is bound to its queue's oldest payload in time, or
it is refused with the first reason that holds, or missed; at its start the links send what is bound; at its end the
payload is freed. Its definitions follow the model's choices in log entry 86. -/
def Obligations.SlotsSent : Prop :=
  (∀ (s : State) (n : Nat), s.fabUp = true → s.now ≤ slotStart n → Tbl.look s.book.plans n = none →
    let u := s.advance (cutoffOf n)
    let v : State := { u with book := { u.book with
      plans := Tbl.set (u.book.plans.filter fun r => decide (n < r.1 + planKeep)) n {} } }
    exec (.slotCutoff n) s = .next ((List.range 22).foldl (fun s l => s.resolveRx n (v.claimants n) l)
      ((List.range 22).foldl (fun s l => s.resolveTx n (v.claimants n) l) v))) ∧
  (∀ (s : State) (l n : Nat) (e : Entry), l < 16 →
    let bad := s.faultFor n || s.pbOff || s.portOff l || s.sourceLost l e.peer
    let reason := if bad then 5 else if s.staleFor n then 3 else if s.rcCovers n then 4
      else if s.on GAUGE.STATUS.OPT_OK = false then 1 else 2
    (bad = true ∨ s.staleFor n = true ∨ s.rcCovers n = true ∨ s.on GAUGE.STATUS.OPT_OK = false ∨ s.serving l e.peer = none →
      (s.stitch l n e).2 = .quiet ∧ (s.stitch l n e).1.rd (PB.Q_STAT.LAST_REFUSE e.queue) = reason ∧
      (s.stitch l n e).1.rd (PB.Q_COUNTS.REFUSED e.queue) =
        (s.rd (PB.Q_COUNTS.REFUSED e.queue) + 1) % 2 ^ (PB.Q_COUNTS.REFUSED e.queue).width ∧
      (s.stitch l n e).1.book = s.book) ∧
    (∀ r k, bad = false → s.staleFor n = false → s.rcCovers n = false → s.on GAUGE.STATUS.OPT_OK = true →
      s.serving l e.peer = some (r, k) → s.stitch l n e = s.bindSlot l n e.queue r k)) ∧
  (∀ (s : State) (l n q r k : Nat),
    (∀ p u, s.inTime q n = (some p, u) → p.len ≤ slotCap l →
      (s.bindSlot l n q r k).2 = .send q r k p ∧ (s.bindSlot l n q r k).1.queue q = (u.queue q).drop 1) ∧
    (s.queue q = [] → (s.bindSlot l n q r k).2 = .idle q r k ∧
      (s.bindSlot l n q r k).1.rd (PB.Q_COUNTS.MISSED q) =
        (s.rd (PB.Q_COUNTS.MISSED q) + 1) % 2 ^ (PB.Q_COUNTS.MISSED q).width ∧ (s.bindSlot l n q r k).1.book = s.book) ∧
    (∀ p w, s.queue q = p :: w → p.time + Config.ns 2 ≤ cutoffOf n → s.inTime q n = (some p, s)) ∧
    (∀ p w, s.queue q = p :: w → cutoffOf n < p.time → s.inTime q n = (none, s))) ∧
  (∀ (s : State) (n : Nat) (res : List (Nat × Int)), s.fabUp = true → s.now < slotStart (n + 1) →
    exec (.slotStart n res) s = .next ((List.range 22).foldl (fun s l => s.startLink n ((res.lookup l).getD 0) l)
      ((s.advance (slotStart n)).count ctrFtd 0x001 0))) ∧
  (∀ (s : State) (n l q r k : Nat) (res : Int) (p : Payload), l < 16 → (s.plan n).cut.contains l = false →
    (s.plan n).txOf l = .send q r k p →
    let h := s.slotHeader l n q k res
    let t := s.startLink n res l
    t.rd (OPE.P_STAT.OSEL l) = r % 2 ^ (OPE.P_STAT.OSEL l).width ∧ t.rd (OPE.P_STAT.TX_ACTIVE l) = 1 ∧
      Tbl.look t.book.sent l = some (Sent.mk n r (some { h.1 with len := p.len, relayed := p.relayed })
        ((h.2.payloadBytes q p).map some) 0) ∧
      h.1.src = s.node ∧ h.1.slot = n ∧ h.1.queue = q ∧ h.1.colour = k ∧ h.1.port = l) ∧
  (∀ (s : State) (n : Nat), s.mainUp = true → Tbl.look s.book.plans n = none →
    ∃ t, exec (.slotEnd n) s = .next t ∧ t.now = max s.now (slotStart (n + 1)) ∧ t.regs = s.regs ∧ t.book = s.book) ∧
  (∀ (s : State) (n l q r k b len at_ : Nat) (x : Plan), s.mainUp = true → Tbl.look s.book.plans n = some x →
    x.tx = [(l, .send q r k (.buffer b len at_))] →
    ∃ t, exec (.slotEnd n) s = .next t ∧ (t.buf q b).held = .free ∧ (t.plan n).tx = [])

/-- R121-R129, R144-R153, R271, R365-R368: what a link's claim meets: a slot framed, one that is dark, one not
claimed; its header checked and acted on, its payload written as it decodes, and a relayed one committed. Its
definitions follow the model's choices in log entries 26, 62, 65. -/
def Obligations.SlotsReceived : Prop :=
  (∀ (s : State) (l : Fin 22) (n : Nat), s.fabUp = true → (s.plan n).closed.contains l.val = false → s.incoming n l = none →
    (∀ (ph : BitVec 6) (g : BitVec 4) (f : Nat), l.val < 16 → ((s.plan n).rxOf l).live = true →
      s.flight l ((s.plan n).rxOf l).peer = some f →
      let j := ((s.plan n).rxOf l).peer
      ∃ t, exec (.slotArrival l n (.optical ph g)) s = .next t ∧ t.now = max s.now (slotStart n + f + tenths 256) ∧
        t.incoming n l = some { act := (s.plan n).rxOf l } ∧ t.rd (OPE.P_PC.VALID l j) = 1 ∧
        t.rd (OPE.P_PC.PHASE l j) = ph.toNat % 2 ^ (OPE.P_PC.PHASE l j).width ∧
        t.rd (OPE.P_PC.GAIN l j) = g.toNat % 2 ^ (OPE.P_PC.GAIN l j).width ∧ t.rd (OPE.P_STAT.RX_FRAMED l) = 1 ∧
        (t.pair l j).fails = 0) ∧
    (∀ (ph : BitVec 6) (g : BitVec 4), l.val < 16 → (s.plan n).rxOf l = .none →
      exec (.slotArrival l n (.optical ph g)) s = .next (s.rxUnsched l)) ∧
    (∀ a, l.val < 16 → (s.plan n).rxOf l = .quiet → exec (.slotArrival l n a) s = .next s) ∧
    (∀ (h : BitVec 2) (bs : List LaneBlock), 16 ≤ l.val → s.cuUp (l.val - 16) = true → ((s.plan n).rxOf l).live = true →
      ∃ t, exec (.slotArrival l n (.copper h false bs)) s = .next t ∧
        t.incoming n l = some { act := (s.plan n).rxOf l, hops := h.toNat } ∧ (t.cuLink (l.val - 16)).fails = 0) ∧
    (∀ a, 16 ≤ l.val → s.cuUp (l.val - 16) = false → exec (.slotArrival l n a) s = .next s)) ∧
  (∀ (s : State) (p : Fin 16) (j : Fin 32), s.fabUp = true → 4 ≤ (s.pair p j).fails → s.on (OPE.P_PC.VALID p j) = true →
    ∃ t, exec (.phaseCacheInvalid p j) s = .next t ∧ t.rd (OPE.P_PC.VALID p j) = 0 ∧
      s.flagged t (OPE.EVENT.PC_INVALID (p.val / 4)) ∧
      s.onlyEvent t [OPE.P_PC.VALID p j, OPE.EVENT.PC_INVALID (p.val / 4), seqOf (OPE.EVENT.PC_INVALID (p.val / 4))]) ∧
  (∀ (s : State) (l : Fin 22) (n : Nat) (x : Incoming) (d : Int) (f : FifoFault) (ups : List Upset) (bytes : List Byte)
    (sy bi : Nat), s.fabUp = true → s.incoming n l = some x → x.next = 0 →
    let u := fun w => (s.advance (s.decodeTime n l 0 x)).wordStats l 0 x.act.peer w
    let w : Codeword := .good bytes sy bi
    let good := (u w).headerGood n l { x with next := 1 } (Header.ofBytes bytes) d
    let bad := (u .bad).headerBad n l { x with next := 1 }
    (∀ y, headerOk bytes = true → good.incoming n l = some y →
      exec (.headerDecode l n w d f ups) s = .next (good.wordPayload n l 0 y w f ups)) ∧
    (∀ y, bad.incoming n l = some y →
      exec (.headerDecode l n .bad d f ups) s = .next (bad.wordPayload n l 0 y .bad f ups))) ∧
  (∀ (s : State) (n l : Nat) (x : Incoming) (h : Header) (d : Int),
    (h.ver ≠ 1 ∨ slotCap l < h.len ∨ h.slot ≠ n → s.headerGood n l x h d = s.dropSlot n l x) ∧
    (s.dropSlot n l x).incoming n l = some { x with ended := true }) ∧
  (∀ (s : State) (l r : Nat) (x : Incoming) (h : Header), s.ringHeld r = false → r < 64 →
    0 < s.rd (MEM.RING_CFG.ENTRIES r) → h.len ≤ s.rd (MEM.RING_CFG.SLOT64 r) * 64 →
    let q := s.takeHeader l r x h
    q.2.target = (s.ring r).pos ∧ (q.1.ring r).pos = ((s.ring r).pos + 1) % s.rd (MEM.RING_CFG.ENTRIES r) ∧
      (Tbl.look (s.ring r).entries (s.ring r).pos ≠ none → q.1.on MEM.EVENT.RING_OVR = true ∧
        q.1.on (MEM.RING_STAT.OVR r) = true)) ∧
  (∀ (s : State) (l r : Nat) (x : Incoming) (h : Header), s.rd (MEM.RING_CFG.ENTRIES r) = 0 →
    (s.takeHeader l r x h).2 = { x with ended := true }) ∧
  (∀ (s : State) (l : Fin 22) (n i : Nat) (x : Incoming) (w : Codeword) (f : FifoFault) (ups : List Upset),
    s.fabUp = true → s.incoming n l = some x → 0 < i → x.next = i →
    exec (.codewordDecode l n i w f ups) s = .next
      (((s.advance (s.decodeTime n l i x)).wordStats l i x.act.peer w).wordPayload n l i x w f ups)) ∧
  (∀ (s : State) (l : Fin 22) (n q j k : Nat) (x : Incoming) (r : List Nat), s.fabUp = true → s.incoming n l = some x →
    x.act = .relay q j → x.pocket = k :: r → x.ended = false → lastWord l < x.next →
    ∃ t, exec (.relayCommit l n) s = .next t ∧ t.incoming n l = none ∧ t.now = max s.now (s.deliveryTime n l x) ∧
      t.queue q = s.queue q ++ [.relay (k :: r) (x.bytes.map fun b => b.getD 0) t.now])

/-- R90-R92, R98-R101, R104-R107, R130: writing the table leaf, loading it from memory, clearing it, checking it;
nothing changes a committed leaf; an upset beyond correction in the worn leaf is a leaf fault. Its definitions follow
the model's choices in log entries 18, 23, 51, 56, 59, 60. -/
def Obligations.TableLeaf : Prop :=
  (∀ (s : State) (v : BitVec 32), s.csrSound → s.tblState ≠ tbCommitted → s.on PB.STATUS.LOAD_BUSY = false →
    let i := s.rd PB.TBL_INDEX.INDEX
    ∃ t, exec (.tblHiWrite v) s = .next t ∧ t.tblState = tbLoading ∧ t.rd PB.TBL_HI.HI = v.toNat ∧
      t.rd PB.TBL_INDEX.INDEX = (i + 1) % 2 ^ PB.TBL_INDEX.INDEX.width ∧
      Tbl.lookD t.book.table.entries 0 i = v.toNat * 2 ^ 32 + s.rd PB.TBL_LO.LO ∧
      (∀ j, j ≠ i → Tbl.lookD t.book.table.entries 0 j = Tbl.lookD s.book.table.entries 0 j) ∧
      t.book.worn = s.book.worn ∧ s.regsBut t [PB.STATUS.TBL_STATE, PB.TBL_HI.HI, PB.TBL_INDEX.INDEX]) ∧
  (∀ (s : State) (v : BitVec 32), s.csrSound →
    (s.tblState = tbCommitted → ∃ t, exec (.tblHiWrite v) s = .next t ∧
      t.rd PB.COUNTS.FROZEN_WR = (s.rd PB.COUNTS.FROZEN_WR + 1) % 2 ^ PB.COUNTS.FROZEN_WR.width ∧
      s.onlyRegs t [PB.COUNTS.FROZEN_WR]) ∧
    (s.tblState ≠ tbCommitted → s.on PB.STATUS.LOAD_BUSY = true → ∃ t, exec (.tblHiWrite v) s = .next t ∧
      s.flagged t PB.EVENT.CFG_ERR ∧ s.onlyEvent t [PB.EVENT.CFG_ERR, seqOf PB.EVENT.CFG_ERR])) ∧
  (∀ (s : State) (v : BitVec 32), s.csrSound →
    (s.tblState = tbCommitted → ∀ r, ∃ t, exec (.leafRegisterWrite r v) s = .next t ∧
      t.rd PB.COUNTS.FROZEN_WR = (s.rd PB.COUNTS.FROZEN_WR + 1) % 2 ^ PB.COUNTS.FROZEN_WR.width ∧
      s.onlyRegs t [PB.COUNTS.FROZEN_WR]) ∧
    (s.tblState ≠ tbCommitted → 0 < bitsOf v.toNat 0 17 → bitsOf v.toNat 0 17 ≤ 65536 →
      ∃ t, exec (.leafRegisterWrite .cycle v) s = .next t ∧ t.rd PB.TBL_CYCLE.LEN = bitsOf v.toNat 0 17 ∧
        t.tblState = tbLoading ∧ s.onlyRegs t [PB.TBL_CYCLE.LEN, PB.STATUS.TBL_STATE]) ∧
    (s.tblState ≠ tbCommitted → bitsOf v.toNat 0 17 = 0 ∨ 65536 < bitsOf v.toNat 0 17 →
      ∃ t, exec (.leafRegisterWrite .cycle v) s = .next t ∧ s.flagged t PB.EVENT.CFG_ERR ∧
        s.onlyEvent t [PB.EVENT.CFG_ERR, seqOf PB.EVENT.CFG_ERR]) ∧
    (s.tblState ≠ tbCommitted → ∀ r f, (r, f) ∈ [(LeafReg.maint, PB.TBL_MAINT.OFF), (LeafReg.alignLo, PB.TBL_ALIGN_LO.ALIGN),
        (LeafReg.alignHi, PB.TBL_ALIGN_HI.ALIGN)] →
      ∃ t, exec (.leafRegisterWrite r v) s = .next t ∧ t.rd f = v.toNat % 2 ^ f.width ∧ t.tblState = tbLoading ∧
        s.onlyRegs t [f, PB.STATUS.TBL_STATE])) ∧
  (∀ (s : State),
    let i := s.rd PB.TBL_INDEX.INDEX
    let n := s.rd PB.LOAD_CNT.COUNT
    let a := s.rd PB.LOAD_ADDR_LO.ADDR + 2 ^ 32 * s.rd PB.LOAD_ADDR_HI.ADDR
    (s.tblState ≠ tbCommitted → s.on PB.STATUS.LOAD_BUSY = true ∨ 2048 < i + n ∨ a % 64 ≠ 0 →
      ∃ t, exec .pbLoad s = .next t ∧ s.flagged t PB.EVENT.CFG_ERR ∧ s.onlyEvent t [PB.EVENT.CFG_ERR, seqOf PB.EVENT.CFG_ERR]) ∧
    (s.tblState ≠ tbCommitted → s.on PB.STATUS.LOAD_BUSY = false → i + n ≤ 2048 → a % 64 = 0 → 0 < n →
      s.inRegion a (8 * n) = true → s.region a = .lpddr →
      ∃ t, exec .pbLoad s = .next t ∧ t.on PB.STATUS.LOAD_BUSY = true ∧ t.book = { s.book with load := some ⟨i, n, a⟩ } ∧
        s.regsBut t [PB.STATUS.LOAD_BUSY])) ∧
  (∀ (s : State) (x : LeafLoad) (ups : List Upset), s.book.load = some x →
    (s.region x.addr = .lpddr → s.heldLines false x.addr (8 * x.left) = [] →
      exec (.leafLoadDone ups) s = .next (s.loadEntries ups x.index x.addr x.left)) ∧
    (∀ c, s.region x.addr = .companion c → s.linkServes = false →
      exec (.leafLoadDone ups) s = .next (s.loadEnd true))) ∧
  (∀ (s u : State) (ups : List Upset) (i a n : Nat),
    (s.devRead .ftdEngine a 8 ups = (u, none) → s.loadEntries ups i a (n + 1) = u.loadEnd true) ∧
    (∀ l, s.devRead .ftdEngine a 8 ups = (u, some l) → u.tblState ≠ tbCommitted →
      s.loadEntries ups i a (n + 1) = (u.storeEntry i (ofLeBytes l)).loadEntries ups (i + 1) (a + 8) n) ∧
    (s.loadEnd true).book.table.loadFail = true ∧ (s.loadEnd true).rd PB.STATUS.LOAD_BUSY = 0) ∧
  (∀ (s : State), s.tblState ≠ tbCommitted →
    (∃ t, exec .pbClear s = .next t ∧ t.tblState = tbEmpty ∧ t.book.table = {} ∧ t.book.load = none ∧
      t.rd PB.STATUS.LOAD_BUSY = 0 ∧ t.book.worn = s.book.worn ∧ s.regsBut t [PB.STATUS.LOAD_BUSY, PB.STATUS.TBL_STATE]) ∧
    (s.on PB.STATUS.LOAD_BUSY = false → ∃ t, exec .pbCheck s = .next t ∧ t.tblState = tbChecking ∧
      s.onlyRegs t [PB.STATUS.TBL_STATE]) ∧
    (s.on PB.STATUS.LOAD_BUSY = true → ∃ t, exec .pbCheck s = .next t ∧ s.flagged t PB.EVENT.CFG_ERR ∧
      s.onlyEvent t [PB.EVENT.CFG_ERR, seqOf PB.EVENT.CFG_ERR])) ∧
  (∀ (s : State), s.tblState = tbCommitted → ∀ i, i = .pbLoad ∨ i = .pbClear ∨ i = .pbCheck →
    ∃ t, exec i s = .next t ∧ t.rd PB.COUNTS.FROZEN_WR = (s.rd PB.COUNTS.FROZEN_WR + 1) % 2 ^ PB.COUNTS.FROZEN_WR.width ∧
      s.onlyRegs t [PB.COUNTS.FROZEN_WR]) ∧
  (∀ (s : State) (ups : List LeafUpset), s.tblState = tbChecking →
    let v := ((ups.filter fun u => !u.worn).foldl State.leafUpset s).checkLeaf
    ∃ t, exec (.checkComplete ups) s = .next t ∧ t.rd PB.CHK_RESULT.REASON = v.1 % 2 ^ PB.CHK_RESULT.REASON.width ∧
      t.rd PB.CHK_RESULT.ENTRY = v.2.1 % 2 ^ PB.CHK_RESULT.ENTRY.width ∧
      t.rd PB.CHK_RESULT.SLOT = v.2.2 % 2 ^ PB.CHK_RESULT.SLOT.width ∧
      (if v.1 = 0 then t.tblState = tbReady ∧ t.on PB.EVENT.CHECK_DONE = true
        else t.tblState = tbRejected ∧ t.on PB.EVENT.REJECTED = true)) ∧
  (∀ (s : State), (s.book.table.loadFail = true → s.checkLeaf = (10, 0, 0)) ∧
    (s.book.table.loadFail = false → s.rd PB.TBL_CYCLE.LEN = 0 ∨ s.rd PB.TBL_CYCLE.LEN ≤ s.rd PB.TBL_MAINT.OFF →
      s.checkLeaf = (8, 0, 0))) ∧
  (∀ (s : State) (x : LeafUpset), s.mainUp = true → s.on PB.CTRL.SCRUB_EN = true → x.index < 2048 →
    Tbl.look (if x.worn then s.book.worn else s.book.table).bad x.index = none →
    (x.hard = false → ∃ t, exec (.pbScrub [x]) s = .next t ∧
      t.rd PB.COUNTS.ECC_CORR = (s.rd PB.COUNTS.ECC_CORR + 1) % 2 ^ PB.COUNTS.ECC_CORR.width ∧
      s.onlyRegs t [PB.COUNTS.ECC_CORR]) ∧
    (x.hard = true → x.worn = false → ∃ t, exec (.pbScrub [x]) s = .next t ∧
      t.rd PB.COUNTS.ECC_UNCORR = (s.rd PB.COUNTS.ECC_UNCORR + 1) % 2 ^ PB.COUNTS.ECC_UNCORR.width ∧
      Tbl.look t.book.table.bad x.index = some 1 ∧ s.regsBut t [PB.COUNTS.ECC_UNCORR]))

/-- R89, R94-R97: which cycle slot a hall slot is, and which cycle slots an entry claims. R108-R113, R201, R202: a
switch is armed for a boundary of both leaves, decided 4,096 slots before, missed if the table leaf is not READY then,
and made at its slot, where the leaves change roles. Its definitions follow the model's choices in log entries 24, 57,
58, 127. -/
def Obligations.Leaves : Prop :=
  (∀ (len align n k : Nat), 0 < len → align ≤ n → n = align + k → cycleSlot len align n = k % len) ∧
  (∀ (len align n : Nat), 0 < len → cycleSlot len align n < len ∧
    cycleSlot len align (n + len) = cycleSlot len align n) ∧
  (∀ (e : Entry) (len c : Nat), 0 < e.run → 1 ≤ e.times → e.times = 1 ∨ e.run ≤ e.stride →
    (e.claims len c = true ↔ ∃ m, m < e.times ∧ e.offset + m * e.stride ≤ c ∧ c < e.offset + m * e.stride + e.run)) ∧
  (∀ (e : Entry) (len c : Nat), 0 < e.run → e.times = 0 → e.run ≤ e.stride →
    (e.claims len c = true ↔ ∃ m, e.offset + m * e.stride + e.run ≤ len ∧ e.offset + m * e.stride ≤ c ∧
      c < e.offset + m * e.stride + e.run)) ∧
  (∀ (e : Entry) (len c : Nat), e.run = 0 → e.claims len c = false) ∧
  (∀ (s : State),
    let n := s.swSlot
    let refused := s.swState = swCommitted ∨ boundary (s.rd PB.TBL_CYCLE.LEN) s.tblAlign n = false ∨
      (s.on PB.STATUS.WORN_VALID = true ∧ boundary (s.rd PB.WORN_CYCLE.LEN) (s.rd PB.WORN_ALIGN.ALIGN) n = false)
    (refused → ∃ t, exec .pbArm s = .next t ∧ s.flagged t PB.EVENT.ARM_REFUSED ∧
      s.onlyEvent t [PB.EVENT.ARM_REFUSED, seqOf PB.EVENT.ARM_REFUSED]) ∧
    (¬ refused → s.now + slotStart 4096 ≤ slotStart n → ∃ t, exec .pbArm s = .next t ∧ t.swState = swArmed ∧
      t.book = { s.book with swAt := n } ∧ s.regsBut t [PB.STATUS.SW_STATE]) ∧
    (¬ refused → s.now < slotStart n → slotStart n < s.now + slotStart 4096 → ∃ t, exec .pbArm s = .next t ∧
      t.swState = swMissed ∧ t.book.swAt = n ∧ t.book.missed = some n ∧ t.on PB.EVENT.SW_MISSED = true ∧
      t.rd PB.COUNTS.SW_MISSED = (s.rd PB.COUNTS.SW_MISSED + 1) % 2 ^ PB.COUNTS.SW_MISSED.width)) ∧
  (∀ (s : State),
    (s.swState = swCommitted → ∃ t, exec .pbCancel s = .next t ∧ s.flagged t PB.EVENT.ARM_REFUSED ∧
      s.onlyEvent t [PB.EVENT.ARM_REFUSED, seqOf PB.EVENT.ARM_REFUSED]) ∧
    (s.swState = swArmed → ∃ t, exec .pbCancel s = .next t ∧ t.swState = swIdle ∧
      t.rcState = (if s.rcState = rcArmed then rcIdle else s.rcState) ∧
      s.onlyRegs t [PB.STATUS.SW_STATE, CAL.RCB_STAT.STATE]) ∧
    (s.swState = swMissed → ∃ t, exec .pbCancel s = .next t ∧ t.swState = swIdle ∧ s.onlyRegs t [PB.STATUS.SW_STATE])) ∧
  (∀ (s : State) (n : Nat), s.fabUp = true → s.swState = swArmed → s.book.swAt = n →
    (s.rcState ≠ rcArmed ∨ s.rd CAL.RCB_SLOT.R ≠ n) →
    (s.tblState = tbReady → ∃ t, exec (.switchDecision n) s = .next t ∧ t.swState = swCommitted ∧ t.tblState = tbCommitted ∧
      t.now = max s.now (slotStart (n - 4096)) ∧ s.regsBut t [PB.STATUS.SW_STATE, PB.STATUS.TBL_STATE]) ∧
    (s.tblState ≠ tbReady → ∃ t, exec (.switchDecision n) s = .next t ∧ t.swState = swMissed ∧
      t.book.missed = some n ∧ t.on PB.EVENT.SW_MISSED = true ∧ t.tblState = s.tblState)) ∧
  (∀ (s : State) (n : Nat), s.fabUp = true → s.swState ≠ swArmed → s.rcState = rcArmed → s.rd CAL.RCB_SLOT.R = n →
    ∃ t, exec (.switchDecision n) s = .next t ∧ t.rcState = rcCommitted ∧ t.on CAL.RCB_EVENT.COMMITTED = true) ∧
  (∀ (s : State) (n : Nat), s.fabUp = true → s.swState = swCommitted → s.book.swAt = n →
    ∃ t, exec (.leafSwitch n) s = .next t ∧ t.now = max s.now (slotStart n) ∧ t.book.worn = s.book.table ∧
      t.book.table = s.book.worn ∧ t.book.missed = none ∧ t.swState = swIdle ∧ t.on PB.STATUS.WORN_VALID = true ∧
      t.on PB.STATUS.LEAF_FAULT = false ∧ t.on PB.EVENT.SWITCHED = true ∧
      t.rd PB.WORN_CYCLE.LEN = s.rd PB.TBL_CYCLE.LEN % 2 ^ PB.WORN_CYCLE.LEN.width ∧
      t.rd PB.WORN_MAINT.OFF = s.rd PB.TBL_MAINT.OFF % 2 ^ PB.WORN_MAINT.OFF.width ∧
      t.rd PB.WORN_ALIGN.ALIGN = s.tblAlign % 2 ^ PB.WORN_ALIGN.ALIGN.width ∧
      t.tblState = (if s.on PB.STATUS.WORN_VALID then tbLoading else tbEmpty) ∧
      (s.on PB.STATUS.WORN_VALID = true →
        t.rd PB.STATUS.WORN_LEAF = (s.rd PB.STATUS.WORN_LEAF + 1) % 2 ^ PB.STATUS.WORN_LEAF.width))

/-- R387-R393, R396, R519: the companion's requests of a line: a grant of the line and its directory entry, an
uncached read, a line given back, and a masked write; and the answers where a request cannot be served. Its
definitions follow the model's choices in log entry 91. -/
def Obligations.CompanionLines : Prop :=
  (∀ (s : State) (tag : BitVec 12) (line : BitVec 42) (ups : List Upset) (own : Bool), s.serves line.toNat →
    let i : Instr := if own then .rdO tag line ups else .rdS tag line ups
    let r := (s.strikeLp (64 * line.toNat) 64 ups).lpRead .companion (64 * line.toNat) 64
    (s.inCohWin line.toNat = true → Tbl.look s.ulk.snoops line.toNat = none →
      Tbl.look s.ulk.dir line.toNat ≠ none ∨ (s.dirSet line.toNat).length < 16 →
      (∀ l, r.2 = some l → ∃ t, exec i s = .next t ∧ (∃ e, Tbl.look t.ulk.dir line.toNat = some e ∧ e.owned = own) ∧
        t.carries { op := if own then 0x21 else 0x20, tag := tag.toNat, addr := 64 * line.toNat, data := l } ∧
        t.comp.lpddr = r.1.comp.lpddr) ∧
      (r.2 = none → ∃ t, exec i s = .next t ∧ t.carries { op := 0x24, tag := tag.toNat, reason := 3 } ∧
        t.ulk.dir = s.ulk.dir)) ∧
    (s.inCohWin line.toNat = true → (Tbl.look s.ulk.snoops line.toNat).isSome = true →
      exec i s = .next (s.snoop true line.toNat [⟨line.toNat, tag.toNat, own⟩])) ∧
    (∀ v, s.inCohWin line.toNat = true → Tbl.look s.ulk.snoops line.toNat = none → Tbl.look s.ulk.dir line.toNat = none →
      16 ≤ (s.dirSet line.toNat).length → oldestWay (s.dirSet line.toNat) = some v →
      exec i s = .next ((s.bump ULK.DIR_STAT.RECALLS).snoop true v.1 [⟨line.toNat, tag.toNat, own⟩])) ∧
    (s.inCohWin line.toNat = false → ∃ t, exec i s = .next t ∧ t.carries { op := 0x24, tag := tag.toNat, reason := 2 } ∧
      t.rd ULK.COUNTS.ERR_SENT = (s.rd ULK.COUNTS.ERR_SENT + 1) % 2 ^ ULK.COUNTS.ERR_SENT.width ∧
      t.ulk.dir = s.ulk.dir ∧ t.comp = s.comp)) ∧
  (∀ (s : State) (tag : BitVec 12) (line : BitVec 42) (ups : List Upset) (mask : BitVec 64) (data : List Byte) (i : Instr),
    s.ulState = ulUp → i = .rdS tag line ups ∨ i = .rdO tag line ups ∨ i = .rdNc tag line ups ∨ i = .evict tag line ∨
      i = .wb tag line data ∨ i = .wrNc tag line mask data ups →
    (s.recovering = false → s.lpEnd < 64 * line.toNat + 64 → ∃ t, exec i s = .next t ∧
      t.carries { op := 0x24, tag := tag.toNat, reason := 1 } ∧ t.comp = s.comp) ∧
    (s.recovering = true → 0x2000000 ≤ 64 * line.toNat → ∃ t, exec i s = .next t ∧
      t.carries { op := 0x24, tag := tag.toNat, reason := 5 } ∧ t.comp = s.comp)) ∧
  (∀ (s : State) (tag : BitVec 12) (line : BitVec 42) (ups : List Upset),
    s.serves line.toNat ∨ (s.ulState = ulUp ∧ s.recovering = true ∧ 64 * line.toNat < 0x2000000) →
    let r := (s.strikeLp (64 * line.toNat) 64 ups).lpRead .companion (64 * line.toNat) 64
    (∀ l, r.2 = some l → ∃ t, exec (.rdNc tag line ups) s = .next t ∧
      t.carries { op := 0x22, tag := tag.toNat, addr := 64 * line.toNat, data := l } ∧ t.ulk.dir = s.ulk.dir) ∧
    (r.2 = none → ∃ t, exec (.rdNc tag line ups) s = .next t ∧
      t.carries { op := 0x24, tag := tag.toNat, reason := 3 } ∧ t.ulk.dir = s.ulk.dir)) ∧
  (∀ (s : State) (tag : BitVec 12) (line : BitVec 42), s.serves line.toNat →
    ∃ t, exec (.evict tag line) s = .next t ∧ Tbl.look t.ulk.dir line.toNat = none ∧
      (∀ n, n ≠ line.toNat → Tbl.look t.ulk.dir n = Tbl.look s.ulk.dir n) ∧
      t.carries { op := 0x23, tag := tag.toNat } ∧ t.comp = s.comp ∧
      (∀ x, Tbl.look s.ulk.snoops line.toNat = some x → Tbl.look t.ulk.snoops line.toNat = some { x with taken := true })) ∧
  (∀ (s : State) (tag : BitVec 12) (line : BitVec 42) (data : List Byte), s.serves line.toNat →
    ∃ t, exec (.wb tag line data) s = .next t ∧ Tbl.look t.ulk.dir line.toNat = none ∧
      t.carries { op := 0x23, tag := tag.toNat } ∧ t.comp.lpddr.read (64 * line.toNat) 64 = padTo 64 data ∧
      (∀ k, k < 64 * line.toNat ∨ 64 * line.toNat + 64 ≤ k → t.comp.lpddr.get k = s.comp.lpddr.get k)) ∧
  (∀ (s : State) (tag : BitVec 12) (line : BitVec 42) (mask : BitVec 64) (data : List Byte) (ups : List Upset),
    s.serves line.toNat ∨ (s.ulState = ulUp ∧ s.recovering = true ∧ 64 * line.toNat < 0x2000000) →
    let u := s.strikeLp (64 * line.toNat) 64 ups
    (mask.toNat = 2 ^ 64 - 1 ∨ u.comp.lpddr.isBad line.toNat = false →
      ∃ t, exec (.wrNc tag line mask data ups) s = .next t ∧ t.carries { op := 0x23, tag := tag.toNat } ∧
        t.comp.lpddr.read (64 * line.toNat) 64 = maskBytes mask.toNat (s.comp.lpddr.read (64 * line.toNat) 64) (padTo 64 data) ∧
        (∀ k, k < 64 * line.toNat ∨ 64 * line.toNat + 64 ≤ k → t.comp.lpddr.get k = s.comp.lpddr.get k)) ∧
    (mask.toNat ≠ 2 ^ 64 - 1 → u.comp.lpddr.isBad line.toNat = true →
      ∃ t, exec (.wrNc tag line mask data ups) s = .next t ∧ t.carries { op := 0x24, tag := tag.toNat, reason := 3 } ∧
        (∀ k, t.comp.lpddr.get k = s.comp.lpddr.get k)))

/-- R388-R394, R396, R463: the companion's register accesses, its answers to the package's requests and to its snoops,
and a snoop that is not answered. Its definitions follow the model's choices in log entry 112. -/
def Obligations.CompanionAnswers : Prop :=
  (∀ (s u : State) (tag : BitVec 12) (off : BitVec 26) (size : BitVec 2) (v : BitVec 64), s.ulState = ulUp →
    (s.recovering = true → exec (.csrWr tag off size v) s = .next (s.errMsg tag.toNat 5)) ∧
    (s.recovering = false → s.csrWrite .link off.toNat (2 ^ size.toNat) v.toNat = (u, none) → u.ulState = ulUp →
      exec (.csrWr tag off size v) s = .next (u.sendMsg { op := 0x23, tag := tag.toNat })) ∧
    (∀ e, s.recovering = false → s.csrWrite .link off.toNat (2 ^ size.toNat) v.toNat = (u, some e) →
      exec (.csrWr tag off size v) s = .next (u.errMsg tag.toNat (if e = .busy then 5 else 4)))) ∧
  (∀ (s u : State) (tag : BitVec 12) (off : BitVec 26) (size : BitVec 2) (ups : List RegUpset), s.ulState = ulUp →
    s.recovering = false →
    (∀ v, (ups.foldl State.upsetReg s).csrRead .link off.toNat (2 ^ size.toNat) = (u, .ok v) → u.ulState = ulUp →
      exec (.csrRd tag off size ups) s = .next (u.sendMsg { op := 0x25, tag := tag.toNat, data := leBytes 8 v })) ∧
    (∀ e, (ups.foldl State.upsetReg s).csrRead .link off.toNat (2 ^ size.toNat) = (u, .error e) →
      exec (.csrRd tag off size ups) s = .next (u.errMsg tag.toNat (if e = .busy then 5 else 4)))) ∧
  (∀ (s : State) (tag : BitVec 12) (r : PReq), s.ulState = ulUp → Tbl.look s.ulk.reqs tag.toNat = some r →
    let v : State := { s with ulk := { s.ulk with reqs := Tbl.del s.ulk.reqs tag.toNat } }
    (∀ d, r.write = false → exec (.data tag d) s = .next (v.tagFreed.answered r (padTo 64 d) true)) ∧
    (∀ d, r.write = true → exec (.data tag d) s = .next s) ∧
    (r.write = true → exec (.ack tag) s = .next (v.tagFreed.answered r [] true)) ∧
    (r.write = false → exec (.ack tag) s = .next s) ∧
    exec (.err tag) s = .next (v.tagFreed.answered r [] false)) ∧
  (∀ (s : State) (tag : BitVec 12), s.ulState ≠ ulUp ∨ Tbl.look s.ulk.reqs tag.toNat = none →
    (∀ d, exec (.data tag d) s = .next s) ∧ exec (.ack tag) s = .next s ∧ exec (.err tag) s = .next s) ∧
  (∀ (s : State) (tag : BitVec 12) (line : Nat) (x : Snoop) (e : DirEntry) (d : List Byte) (ups : List Upset),
    s.ulState = ulUp → (s.ulk.snoops.find? fun r => r.2.tag == tag.toNat) = some (line, x) → x.taken = false →
    Tbl.look s.ulk.dir line = some e →
    let gone := fun u : State => u.setDir (Tbl.del u.ulk.dir line)
    let kept := fun u : State => u.setDir (Tbl.set u.ulk.dir line { e with owned := false })
    let w := (s.lpWrite .companion (64 * line) (padTo 64 d)).1
    exec (.snpI tag ups) s = .next ((gone s).snoopOver line ups) ∧
    exec (.snpS tag ups) s = .next ((kept s).snoopOver line ups) ∧
    exec (.snpDi tag d ups) s = .next ((gone w).snoopOver line ups) ∧
    exec (.snpDs tag d ups) s = .next ((kept w).snoopOver line ups)) ∧
  (∀ (s : State) (line : Nat) (ups : List Upset) (x : Snoop), Tbl.look s.ulk.snoops line = some x → x.grants = [] →
    s.ulk.deferred = [] → s.move mvRestore = none →
    s.snoopOver line ups = { s with ulk := { s.ulk with snoops := Tbl.del s.ulk.snoops line } }) ∧
  (∀ (s : State) (line : BitVec 42) (ups : List Upset) (t : Nat) (x : Snoop), Tbl.look s.ulk.snoops line.toNat = some x →
    let v := s.advance t
    (v.now < x.since + Config.ns (1000 * s.rd ULK.SNP_CFG.TIMEOUT) → exec (.snpTimeout line ups t) s = .next v) ∧
    (x.since + Config.ns (1000 * s.rd ULK.SNP_CFG.TIMEOUT) ≤ v.now → exec (.snpTimeout line ups t) s =
      .next ((((v.setDir (Tbl.del v.ulk.dir line.toNat)).bump ULK.COUNTS.SNP_TIMEOUT).raise ULK.EVENT.SNP_TIMEOUT
        sevError).snoopOver line.toNat ups))) ∧
  (∀ (s : State) (b n : BitVec 16), s.csrSound →
    (n.toNat ≠ 0 → s.lpEnd < (b.toNat + n.toNat) * 2 ^ 30 → ∃ t, exec (.cohWinWrite b n) s = .next t ∧
      s.flagged t ULK.EVENT.CFG_ERR ∧ s.onlyEvent t [ULK.EVENT.CFG_ERR, seqOf ULK.EVENT.CFG_ERR]) ∧
    (n.toNat = 0 ∨ (b.toNat + n.toNat) * 2 ^ 30 ≤ s.lpEnd →
      let v := (s.wr ULK.COH_WIN.BASE b.toNat).wr ULK.COH_WIN.SIZE n.toNat
      exec (.cohWinWrite b n) s =
        .next ((s.ulk.dir.filter fun r => !v.inCohWin r.1).foldl (fun s r => s.snoop true r.1) v)))

/-- R384-R386, R402, R403, R405, R406: flits in order are taken and others asked for again; a held notice is written;
the link trains, recovers, fails and starts again. Its definitions follow the model's choices in log entries 17, 26,
87. -/
def Obligations.UrdalLink : Prop :=
  (∀ (s : State) (b : List Byte) (d : Bool), s.ulState = ulUp →
    let l := padTo 256 b
    let seq := bytesAt l 0 2 % 4096
    let sound := bytesAt l 252 4 = crc32c (l.take 252)
    let v : State := { s with ulk := s.ulk.take l }
    (¬ sound → exec (.flitRx b d) s = .next { s with ulk := { s.ulk with nakOut := true } }) ∧
    (sound → bytesAt l 0 2 / 4096 = 0 → d = true → seq = (s.ulk.rxSeq + 1) % 4096 →
      ∃ t, exec (.flitRx b d) s = .next t ∧ t.ulk.rxSeq = seq ∧ t.ulk.nakOut = false ∧
        (∀ q m, (q, m) ∈ ackReplay (bytesAt l 2 2 % 4096) s.ulk.replay → (q, m) ∈ t.ulk.replay)) ∧
    (sound → bytesAt l 0 2 / 4096 = 0 → d = false ∨ seq ≠ (s.ulk.rxSeq + 1) % 4096 →
      exec (.flitRx b d) s = .next (State.ulPump { v with ulk := { v.ulk with nakOut := true } })) ∧
    (sound → bytesAt l 0 2 / 4096 = 2 → ∃ t, exec (.flitRx b d) s = .next t ∧ t.ulk.nakRun = v.ulk.nakRun + 1 ∧
      t.rd ULK.COUNTS.REPLAYS = (s.rd ULK.COUNTS.REPLAYS + 1) % 2 ^ ULK.COUNTS.REPLAYS.width)) ∧
  (∀ (s : State) (c : Fin 64), s.noticesOn = true → (s.notice c).held = true →
    ∃ t, exec (.noticeWrite c) s = .next t ∧ (t.notice c).held = false ∧
      t.rd ULK.NOTICE_STAT.WRITTEN = (s.rd ULK.NOTICE_STAT.WRITTEN + 1) % 2 ^ ULK.NOTICE_STAT.WRITTEN.width ∧
      (∀ k, s.freeTag = some k → t.carries (PReq.msg { write := true, addr := s.noticeBase + 64 * c.val, len := 64, who := .notice c.val, data := s.noticeLine c } k))) ∧
  (∀ (s : State) (t0 : Nat),
    (s.ulState = ulDown → s.on ULK.CTRL.EN = true → s.ulRuns = true →
      ∃ t, exec (.ulkSignalDetect t0) s = .next t ∧ t.ulState = ulTrain ∧ t.now = max s.now t0 ∧ t.ulk.entered = t.now) ∧
    (s.ulState = ulTrain → s.ulk.entered + Config.ns 50000000 ≤ max s.now t0 →
      ∃ t, exec (.ulkTrainTimeout t0) s = .next t ∧ t.ulState = ulDown ∧ t.now = max s.now t0) ∧
    (∀ c, s.ulState = ulUp → (c = .naks → 16 ≤ s.ulk.nakRun) → ∃ t, exec (.ulkRecoverEntry c t0) s = .next t ∧
      t.ulState = ulRecover ∧ t.on ULK.EVENT.RECOVER = true ∧
      t.rd ULK.COUNTS.RECOVERS = (s.rd ULK.COUNTS.RECOVERS + 1) % 2 ^ ULK.COUNTS.RECOVERS.width ∧
      t.ulk = { s.ulk with entered := t.now }) ∧
    (s.ulState = ulFailed → s.ulk.entered + Config.ns 1000000000 ≤ max s.now t0 →
      ∃ t, exec (.ulkFailedTimeout t0) s = .next t ∧ t.ulState = ulDown) ∧
    (s.ulState = ulFailed → ∃ t, exec .ulkRetrain s = .next t ∧ t.ulState = ulDown) ∧
    (s.ulState ≠ ulFailed → exec .ulkRetrain s = .next s) ∧
    (∀ three, s.ulState = ulRecover → three = true ∨ s.ulk.entered + Config.ns (1000000 * s.rd ULK.CTRL.RECOVER_LIM) ≤ max s.now t0 →
      exec (.ulkFailed three t0) s = .next (((((s.advance t0).setUl ulFailed).wr ULK.STAT.LANE_OK 0).ulDrop).raise
        ULK.EVENT.FAILED sevError))) ∧
  (∀ (s : State) (lanes : BitVec 16) (x : UlParams) (t0 w : Nat), s.ulState = ulTrain → x.major = 1 →
    widthOf lanes.toNat = some w → (w = 0 → x.wide = true) → (w = 1 → x.narrow = true ∧ s.on ULK.CTRL.W8_OK = true) →
    s.ulk.out = [] → ∃ t, exec (.ulkTrainDone lanes x t0) s = .next t ∧ t.ulState = ulUp ∧
      t.rd ULK.STAT.EPOCH = (s.rd ULK.STAT.EPOCH + 1) % 2 ^ ULK.STAT.EPOCH.width ∧ t.rd ULK.STAT.LANE_OK = lanes.toNat ∧
      t.rd ULK.STAT.WIDTH = w % 2 ^ ULK.STAT.WIDTH.width ∧ t.on ULK.EVENT.UP = true ∧
      t.ulk.hand = { req := x.req, snp := x.snp, rsp := x.rsp, dat := x.dat } ∧ t.ulk.replay = []) ∧
  (∀ (s : State) (lanes : BitVec 16) (t0 w : Nat), s.ulState = ulRecover → widthOf lanes.toNat = some w →
    (w = 1 → s.on ULK.CTRL.W8_OK = true) → ∃ t, exec (.ulkRecoverDone lanes t0) s = .next t ∧ t.ulState = ulUp ∧
      t.rd ULK.STAT.LANE_OK = lanes.toNat ∧ t.on ULK.EVENT.UP = true ∧ t.ulk.nakRun = 0 ∧ t.ulk.dir = s.ulk.dir) ∧
  (∀ (s : State), s.ulk.reqs = [] → s.ulk.waiting = [] → s.ulk.deferred = [] →
    s.ulDrop.ulk.dir = [] ∧ s.ulDrop.ulk.out = [] ∧ s.ulDrop.ulk.replay = [] ∧ s.ulDrop.ulk.snoops = [] ∧
      ((∃ r ∈ s.ulk.dir, r.2.owned = true) → s.ulDrop.on ULK.EVENT.LOST = true))

/-- R398-R401, R404: a calendar entry whose first line has arrived is examined: a new SEQ is a submission, checked in
its order; one that passes takes the lowest free trigger; an old one with CANCEL is a cancel. Its definitions follow
the model's choices in log entry 90. -/
def Obligations.Calendar : Prop :=
  (∀ (s : State) (i : Fin 255) (ups : List Upset) (t : Nat),
    let v := s.advance t
    let u : State := { v with ulk := { v.ulk with calWait := s.ulk.calWait.filter fun k => k != i.val } }
    let a := s.rd ULK.CAL_LO.ADDR + 2 ^ 32 * s.rd ULK.CAL_HI.ADDR + 512 * i.val
    let r := u.readEntry a ups
    let l := r.2.1
    s.mcRuns = true → s.ulk.calWait.contains i.val = true → i.val < s.calEntries → s.heldLines false a 512 = [] →
    r.2.2.contains 0 = false →
    (bitOf (bytesAt l 18 1) 0 = true → bytesAt l 20 4 ≠ Tbl.lookD r.1.ulk.calSeq 0 i.val →
      exec (.calendarExamine i ups t) s = .next (r.1.submit i.val a l r.2.2)) ∧
    (bitOf (bytesAt l 18 1) 0 = true → bytesAt l 20 4 = Tbl.lookD r.1.ulk.calSeq 0 i.val → bitOf (bytesAt l 18 1) 1 = true →
      exec (.calendarExamine i ups t) s = .next (r.1.cancelEntry i.val (bytesAt l 20 4) (bytesAt l 0 8))) ∧
    (bitOf (bytesAt l 18 1) 0 = false → exec (.calendarExamine i ups t) s = .next r.1)) ∧
  (∀ (s : State) (i : Fin 255) (ups : List Upset) (t : Nat), s.mcRuns = false ∨ s.ulk.calWait.contains i.val = false →
    exec (.calendarExamine i ups t) s = .next (s.advance t)) ∧
  (∀ (s : State) (e a j : Nat) (l : List Byte) (bad : List Nat), Tbl.look s.ulk.calSeq e = none →
    let u : State := { s with ulk := { s.ulk with calSeq := Tbl.set s.ulk.calSeq e (bytesAt l 20 4) } }
    (u.entryReason l bad = 0 → ((List.range 8).find? fun j => (s.job j).stage == .free) = some j →
      let t := s.submit e a l bad
      Tbl.look t.ulk.calSeq e = some (bytesAt l 20 4) ∧ (t.job j).stage = .loading ∧ (t.job j).start = bytesAt l 0 8 ∧
        (t.job j).mask = bytesAt l 64 256 ∧ (t.job j).image = bytesAt l 8 6 ∧ (t.job j).eseq = bytesAt l 20 4 ∧
        t.regs = s.regs) ∧
    (u.entryReason l bad ≠ 0 → u.entryReason l bad ≠ 10 →
      let t := s.submit e a l bad
      t.rd ULK.JOB_STAT.LAST_REASON = u.entryReason l bad % 2 ^ ULK.JOB_STAT.LAST_REASON.width ∧
        t.rd ULK.JOB_STAT.REJECTED = (s.rd ULK.JOB_STAT.REJECTED + 1) % 2 ^ ULK.JOB_STAT.REJECTED.width ∧
        t.on ULK.EVENT.JOB_REJECT = true ∧ (∀ k, t.job k = s.job k))) ∧
  (∀ (s : State) (l : List Byte) (bad : List Nat), s.entryReason l bad = 0 →
    s.rd GAUGE.STATUS.STATE ≠ 0 ∧ s.rd GAUGE.STATUS.STATE ≠ 1 ∧ s.rd GAUGE.STATUS.STATE ≠ 5 ∧
    s.rd PWR.STATE.STATE = pwActive ∧ s.now + Config.ns (1000 * s.rd ULK.CAL_CFG.LEAD) ≤ bytesAt l 0 8 * 65536 ∧
    bytesAt l 8 6 % 64 = 0 ∧ bytesAt l 8 6 < s.lpEnd ∧ bad = [] ∧ 0 < bytesAt l 64 256 ∧ bytesAt l 64 256 < 2 ^ 2000) ∧
  (∀ (s : State) (e q start : Nat),
    (∀ j, s.trigOf e q = some j → (s.job j).stage ≠ .running → s.now + Config.ns 10000 ≤ (s.job j).start * 65536 →
      s.cancelEntry e q start = s.cancelJob j) ∧
    (∀ j, s.trigOf e q = some j → (s.job j).stage = .running →
      (s.cancelEntry e q start).on ULK.EVENT.CANCEL_LATE = true ∧
      (s.cancelEntry e q start).rd ULK.JOB_STAT.LAST_REASON = 10))

/-- R415-R428, R499: what takes the package to DARK and to HUSH and back: power that fails, a rail, a thermal trip, a
command; what the thermal port returns; and what a state change leaves. Its definitions follow the model's choices in
log entries 23, 99, 101. -/
def Obligations.PowerStates : Prop :=
  (∀ (s : State) (t : Nat), s.sys.vaux = true → s.sys.boot.pwrOk = true →
    let v := State.setBoot (s.advance t) { s.sys.boot with pwrOk := false, good := false, waits := false }
    (s.pwState = pwDark ∨ s.sys.power.toDark = some true → exec (.pwrOkLow t) s = .next v) ∧
    (s.pwState ≠ pwDark → s.sys.power.toDark ≠ some true →
      exec (.pwrOkLow t) s = .next ((v.logFatal 25 32 PWR.STATE.base).unplanned))) ∧
  (∀ (s : State) (t : Nat), s.sys.vaux = true → s.sys.boot.pwrOk = true → s.pwState ≠ pwDark →
    (∀ r : Fin 20, r.val ≠ 14 → r.val ≠ 19 →
      let v := State.bump (State.setPower ((s.advance t).railBad r) { s.sys.power with railErr := true }) PWR.COUNTS.RAIL_FAULTS
      exec (.railFault r t) s = .next ((v.raise PWR.EVENT.RAIL_FAULT sevFatal (leBytes 4 r)).unplanned)) ∧
    (∃ u, exec (.vhtrOutOfRange t) s = .next u ∧ bitOf (u.rd PWR.STATE.RAIL_GOOD) 14 = false ∧ u.sys.power.railErr = true ∧
      u.rd PWR.COUNTS.RAIL_FAULTS = (s.rd PWR.COUNTS.RAIL_FAULTS + 1) % 2 ^ PWR.COUNTS.RAIL_FAULTS.width ∧
      u.on PWR.EVENT.RAIL_FAULT = true ∧ u.pwState = s.pwState ∧ u.sys.power.toDark = s.sys.power.toDark)) ∧
  (∀ (s : State) (r : Nat), r < 20 → bitOf ((s.railBad r).rd PWR.STATE.RAIL_GOOD) r = false ∧
    (∀ k, k < 20 → k ≠ r → bitOf ((s.railBad r).rd PWR.STATE.RAIL_GOOD) k = bitOf (s.rd PWR.STATE.RAIL_GOOD % 2 ^ 20) k)) ∧
  (∀ (s : State),
    (s.pwState = pwDark ∨ s.sys.power.toDark = some false → s.unplanned = s) ∧
    (s.pwState ≠ pwDark → s.sys.power.toDark ≠ some false → s.unplanned.sys.power.toDark = some false ∧
      s.unplanned.on PWR.STATE.CHANGING = true ∧ s.unplanned.fab.stopAt ≠ none ∧ s.unplanned.fab.cal.opt = none ∧
      s.unplanned.fab.cal.queue = [])) ∧
  (∀ (s : State) (l : List Int) (t : Nat), s.sys.vaux = true →
    let v := fun i => clampInt (-32768) 32767 (l.getD i 0)
    ((∀ i, i < 140 → l.getD i 0 < 1150) → s.sys.power.sampled = true → ∃ u, exec (.thermalSample l t) s = .next u ∧
      u.now = max s.now t ∧ u.sys.power.hot = [] ∧ u.sys.power.trip = s.sys.power.trip ∧
      (∀ i, i < 140 → u.rdI (PWR.TEMP.NOW i) = v i ∧ u.rdI (PWR.TEMP.PEAK i) = max (s.rdI (PWR.TEMP.PEAK i)) (v i)) ∧
      (∀ i, i < 140 → v i ≤ u.rdI PWR.TEMP_MAX.TEMP) ∧
      (s.sys.power.alert = false → (∃ i, i < 140 ∧ s.alertAt ≤ v i) →
        u.sys.power.alert = true ∧ u.on PWR.EVENT.ALERT = true) ∧
      (s.sys.power.alert = true → (∀ i, i < 140 → v i < s.alertAt - 30) → u.sys.power.alert = false)) ∧
    (s.sys.power.trip = false → (∃ i, i < 140 ∧ 1150 ≤ l.getD i 0 ∧ s.sys.power.hot.contains i = true) →
      ∃ u, exec (.thermalSample l t) s = .next u ∧ u.sys.power.trip = true)) ∧
  (∀ (s : State), s.sys.vaux = true → ∃ u, exec .thermPortRead s = .next u ∧ u.sys.power.port = s.thermPort ∧
    s.thermPort.length = 4 ∧ s.thermPort[1]? = some (BitVec.ofNat 8 s.pwState) ∧ u.regs = s.regs ∧ u.comp = s.comp) ∧
  (∀ (s : State),
    let busy := (∃ p, p < 2048 ∧ s.clState p = clRun) ∨ ∃ j, j < 8 ∧ (s.job j).stage ≠ .free
    (s.pwState = pwActive → s.on PWR.STATE.CHANGING = false → ¬ busy →
      exec .pwrHush s = .next ((s.clustersEnd true).wr PWR.STATE.STATE pwHush)) ∧
    (s.pwState = pwHush → exec .pwrHush s = .next s) ∧
    (s.pwState ≠ pwHush → s.pwState ≠ pwActive ∨ s.on PWR.STATE.CHANGING = true ∨ busy →
      ∃ u, exec .pwrHush s = .next u ∧ s.flagged u PWR.EVENT.CFG_ERR ∧
        s.onlyEvent u [PWR.COUNTS.REFUSED, PWR.EVENT.CFG_ERR, seqOf PWR.EVENT.CFG_ERR]) ∧
    (s.pwState = pwHush → s.on PWR.STATE.CHANGING = false →
      exec .pwrActive s = .next (s.clustersBack.wr PWR.STATE.STATE pwActive)) ∧
    (s.pwState = pwBoot ∨ s.pwState = pwDark → ∃ u, exec .pwrActive s = .next u ∧ s.flagged u PWR.EVENT.CFG_ERR ∧
      s.onlyEvent u [PWR.COUNTS.REFUSED, PWR.EVENT.CFG_ERR, seqOf PWR.EVENT.CFG_ERR])) ∧
  (∀ (s : State) (t : Nat),
    (s.pwState = pwActive ∨ s.pwState = pwHush → s.on PWR.STATE.CHANGING = false →
      let v := (s.advance t).towardsDark true
      exec (.pwrDark t) s = .next ((v.advance (slotStart (slotOf v.now + 1))).goDark.clustersEnd true)) ∧
    (s.pwState = pwBoot → ∃ u, exec (.pwrDark t) s = .next u ∧ s.flagged u PWR.EVENT.CFG_ERR ∧
      u.now = max s.now t ∧ s.regsButEvent u [PWR.COUNTS.REFUSED, PWR.EVENT.CFG_ERR, seqOf PWR.EVENT.CFG_ERR]) ∧
    (∀ b, s.sys.power.toDark = some b → ∃ u, exec (.darkReached t) s = .next u ∧ u.pwState = pwDark ∧
      u.on PWR.STATE.CHANGING = false ∧ u.sys.power.toDark = none ∧ u.sys.boot.good = false ∧ u.mainUp = false))

/-- R13, R417, R424, R430, R435, R438, R446-R453, R509-R512, R519: boot goes from power through the position, NVM, the
cutting list, firmware and power to BRINGUP and DONE; each check that fails falls back once and then stops it. Its
definitions follow the model's choices in log entries 21, 25, 55, 72, 98, 102, 113, 117. -/
def Obligations.BootPhases : Prop :=
  (∀ (s : State) (head : Bool) (b : BitVec 5) (x : NvmSlots), s.sys.vaux = false →
    ∃ t, exec (.vauxPowerOn head b (some x)) s = .next t ∧ t.sys.vaux = true ∧ t.sys.reset = none ∧ t.pwState = pwBoot ∧
      t.phase = (if head then phNvm else phChain) ∧ t.position = (if head then some 0 else none) ∧
      t.on BOOT.STRAPS.CHAIN_HEAD = head ∧ t.rd BOOT.STRAPS.BENCH_ID = b.toNat ∧ t.rd BOOT.COUNTS.BOOTS = 1 ∧
      t.sys.nvm = { s.sys.nvm with fw0 := x.fw0, fw1 := x.fw1, cl0 := x.cl0, cl1 := x.cl1 } ∧
      t.log.nvm = s.log.nvm ∧ t.log.staging = [] ∧ t.patch.entries = s.patch.entries ∧ t.pending = s.pending) ∧
  (∀ (s : State) (t0 : Nat), s.sys.vaux = true → ∃ t, exec (.vauxLow t0) s = .next t ∧ t.sys.vaux = false ∧
    t.sys.mc0 = false ∧ t.regs = s.regs ∧ t.comp = s.comp ∧ t.now = max s.now t0) ∧
  (∀ (s : State) (rails : BitVec 20) (held : Bool) (t0 : Nat), s.sys.vaux = true → s.sys.boot.pwrOk = false →
    let v := State.setBoot (s.advance t0) { s.sys.boot with pwrOk := true }
    (s.pwState ≠ pwDark → s.sys.boot.rstLow = false → exec (.pwrOkRise rails held t0) s = .next (v.checkRails rails.toNat)) ∧
    (s.pwState ≠ pwDark → s.sys.boot.rstLow = true → exec (.pwrOkRise rails held t0) s = .next
      (v.setBoot { v.sys.boot with waits := true })) ∧
    (s.pwState = pwDark → s.sys.boot.rstLow = false → exec (.pwrOkRise rails held t0) s = .next
      ((v.leaveDark held).checkRails rails.toNat))) ∧
  (∀ (s : State) (rails : Nat),
    (railsGood rails = true → s.booting = true → s.phase = phWaitPwr → (s.checkRails rails).phase = phBringup ∧
      (s.checkRails rails).sys.boot.good = true) ∧
    (railsGood rails = false → (s.checkRails rails).sys.power.seqErr = true ∧
      (s.checkRails rails).on PWR.EVENT.SEQ_ERR = true ∧ (s.checkRails rails).phase = s.phase)) ∧
  (∀ (s : State) (rails : BitVec 20) (t0 : Nat), s.sys.vaux = true → s.sys.boot.rstLow = true → s.sys.boot.waits = false →
    s.sys.boot.good = false → ∃ t, exec (.pkgResetNRelease rails t0) s = .next t ∧ t.sys.boot.rstLow = false ∧
      t.sys.reset = (if s.sys.reset = some 1 then none else s.sys.reset) ∧ t.regs = s.regs) ∧
  (∀ (s : State) (o : Bool) (mbit t0 : Nat), s.booting = true → s.sys.boot.nvmOk = false → s.phase = phChain ∨ s.phase = phNvm →
    (512 ≤ mbit → ∃ t, exec (.nvmDiscovery true true o mbit t0) s = .next t ∧ t.sys.boot.nvmOk = true ∧
      t.on BOOT.STATUS.NVM_OCTAL = o ∧ t.phase = (if s.position = none then phChain else phCutlist)) ∧
    (∀ r d, r = false ∨ d = false ∨ mbit < 512 → ∃ t, exec (.nvmDiscovery r d o mbit t0) s = .next t ∧ t.phase = phStuck ∧
      t.rd BOOT.STATUS.STUCK = 2 ∧ t.on BOOT.EVENT.STUCK = true)) ∧
  (∀ (s : State) (t0 : Nat), s.booting = true → s.phase = phChain → s.position = none →
    s.sys.boot.strapAt + Config.ns 2000000000 ≤ t0 → ∃ t, exec (.positionTimeout t0) s = .next t ∧ t.phase = phStuck ∧
      t.rd BOOT.STATUS.STUCK = 1 ∧ t.on BOOT.EVENT.STUCK = true) ∧
  (∀ (s : State) (t0 : Nat), s.booting = true → s.phase = phCutlist →
    let v := s.advance t0
    (s.sys.boot.clBad = none → ∃ t, exec (.cutlistRead t0) s = .next t ∧
      if v.clValid (s.sys.nvm.cl s.clNext) = true then t = v.clAccept s.clNext
      else t.sys.boot.clBad = some s.clNext ∧ t.on BOOT.EVENT.CL_FALLBACK = true ∧ t.phase = phCutlist ∧ t.clNext = 1 - s.clNext) ∧
    (s.sys.boot.clBad ≠ none → ∃ t, exec (.cutlistRead t0) s = .next t ∧
      if v.clValid (s.sys.nvm.cl s.clNext) = true then t = v.clAccept s.clNext
      else t.phase = phStuck ∧ t.rd BOOT.STATUS.STUCK = 3)) ∧
  (∀ (s : State) (t0 : Nat), s.booting = true → s.phase = phFirmware →
    let v := s.advance t0
    let c := fwCheck (s.sys.nvm.fw s.fwNext)
    (s.sys.boot.fwBad = none → ∃ t, exec (.firmwareVerify t0) s = .next t ∧
      if c = 0 then t = (v.wr BOOT.STATUS.FW_SLOT s.fwNext).enterWaitPwr
      else t.sys.boot.fwBad = some (s.fwNext, c) ∧ t.sys.boot.erase = some s.fwNext ∧ t.phase = phFirmware ∧
        t.fwNext = 1 - s.fwNext) ∧
    (∀ b k, s.sys.boot.fwBad = some (b, k) → exec (.firmwareVerify t0) s = .next (
      if c = 0 then ((v.wr BOOT.STATUS.FW_SLOT s.fwNext).patchNote 12 1 b s.fwNext).enterWaitPwr
      else (v.logOpen 24 6 sevWarning BOOT.STATUS.base (leBytes 1 s.fwNext ++ leBytes 1 c)).recover))) ∧
  (∀ (s : State), (s.sys.boot.good = true → s.sys.boot.rstLow = false → s.enterWaitPwr.phase = phBringup) ∧
    (s.sys.boot.good = false → s.enterWaitPwr.phase = phWaitPwr)) ∧
  (∀ (s : State) (fails : List (Fin 2048)) (rows : List (Nat × Nat)) (t0 : Nat), s.booting = true → s.phase = phBringup →
    let u := ((s.advance t0).applyList.wr GAUGE.CTRL.ENABLE 1)
    let w := (((u.applyPatches.initMemory rows).initClusters fails (decide (s.rd BOOT.STATUS.CAUSE = 10))).loadCal.crcCommit).calendarSeen
    let x := w.wrSat BOOT.TIMES.BRINGUP_MS (spanMs w.sys.boot.upFrom w.now)
    let y := x.setBoot { x.sys.boot with cold := false, lockAt := x.now }
    exec (.bringup fails rows t0) s = .next (State.startFabric
      (if bitOf (clFlags y.sys.boot.list) 1 then y.setPhase phLockWait else y.bootDone) s.sys.boot.cold)) ∧
  (∀ (s : State), s.sys.boot.missed = [] → (∀ j, j < 8 → (s.job j).stage ≠ .armed) →
    s.bootDone.phase = phDone ∧ s.bootDone.on BOOT.STATUS.LOCKED = true ∧ s.bootDone.pwState = pwActive ∧
      s.bootDone.sys.mc0 = true ∧ s.regsBut s.bootDone [BOOT.STATUS.LOCKED, BOOT.STATUS.PHASE, PWR.STATE.STATE]) ∧
  (∀ (s : State),
    (s.phase = phLockWait → exec .lockSet s = .next s.bootDone) ∧
    (s.phase ≠ phLockWait → ∃ t, exec .lockSet s = .next t ∧ s.flagged t BOOT.EVENT.CFG_ERR ∧
      s.onlyEvent t [BOOT.EVENT.CFG_ERR, seqOf BOOT.EVENT.CFG_ERR]) ∧
    (∀ t0, s.phase = phLockWait → s.sys.boot.lockAt + Config.ns 60000000000 ≤ t0 →
      exec (.lockWaitTimeout t0) s = .next (s.advance t0).bootDone)) ∧
  (∀ (s : State), s.csrSound →
    (s.on BOOT.OPKEY.FUSED = false → s.rd BOOT.OPKEY.CONFIRM = 0x5A3C → clSigned s.sys.boot.list = true → s.phase = phDone →
      ∃ t, exec .opkeyFuse s = .next t ∧ t.on BOOT.OPKEY.FUSED = true ∧
        t.sys.nvm.opKey = some (sha384 (trailKey s.sys.boot.list (clLength s.sys.boot.list))) ∧
        s.regsBut t [BOOT.OPKEY.FUSED]) ∧
    (s.on BOOT.OPKEY.FUSED = true ∨ s.rd BOOT.OPKEY.CONFIRM ≠ 0x5A3C ∨ clSigned s.sys.boot.list = false ∨ s.phase ≠ phDone →
      ∃ t, exec .opkeyFuse s = .next t ∧ s.flagged t BOOT.EVENT.CFG_ERR ∧
        s.onlyEvent t [BOOT.EVENT.CFG_ERR, seqOf BOOT.EVENT.CFG_ERR]))

/-- R454-R457: which resets are refused, absorbed or begun, and what their completion leaves. Its definitions follow
the model's choices in log entries 6, 23, 103, 104, 105, 113. -/
def Obligations.Resets : Prop :=
  (∀ (s : State) (key : BitVec 16) (i : Instr) (kind : Nat),
    (i = .bootResetCold key ∧ kind = 0) ∨ (i = .bootResetWarm key ∧ kind = 1) ∨ (i = .bootResetFabric key ∧ kind = 2) ∨
      (i = .bootResetCompute key ∧ kind = 3) →
    (key.toNat ≠ 0xA5C3 ∨ s.rstRefused kind = true → ∃ t, exec i s = .next t ∧ s.flagged t BOOT.EVENT.RST_REFUSED ∧
      t.rd BOOT.COUNTS.RST_REFUSED = (s.rd BOOT.COUNTS.RST_REFUSED + 1) % 2 ^ BOOT.COUNTS.RST_REFUSED.width ∧
      s.onlyEvent t [BOOT.COUNTS.RST_REFUSED, BOOT.EVENT.RST_REFUSED, seqOf BOOT.EVENT.RST_REFUSED]) ∧
    (∀ k, key.toNat = 0xA5C3 → s.rstRefused kind = false → s.sys.reset = some k → k ≤ kind → ∃ t, exec i s = .next t ∧
      t.rd BOOT.COUNTS.RST_MERGED = (s.rd BOOT.COUNTS.RST_MERGED + 1) % 2 ^ BOOT.COUNTS.RST_MERGED.width ∧
      s.onlyRegs t [BOOT.COUNTS.RST_MERGED]) ∧
    (key.toNat = 0xA5C3 → s.rstRefused kind = false →
      s.sys.reset = none ∨ (∃ k, s.sys.reset = some k ∧ kind < k ∧ k ≠ 3) →
      exec i s = .next (s.startReset kind (2 * kind + 2))) ∧
    (key.toNat = 0xA5C3 → s.rstRefused kind = false → s.sys.reset = some 3 → kind < 3 →
      exec i s = .next (s.computeEnd.startReset kind (2 * kind + 2)))) ∧
  (∀ (s : State) (kind : Nat), s.rstRefused kind = true ↔
    (s.pwState = pwDark ∧ kind ≠ 0) ∨ (s.phase ≠ phDone ∧ 2 ≤ kind)) ∧
  (∀ (s : State) (c : Nat),
    (s.startReset 0 c).sys.reset = some 0 ∧ (s.startReset 0 c).on HLT.LOG_STAT.FLUSH_BUSY = true ∧
    s.startReset 1 c = s.warmStart c ∧
    s.startReset 2 c = ((s.setReset (some 2)).wr BOOT.STATUS.CAUSE c).fabricBegin ∧
    s.startReset 3 c = ((s.setReset (some 3)).wr BOOT.STATUS.CAUSE c).computeBegin) ∧
  (∀ (s : State) (t0 : Nat), s.sys.vaux = true → s.sys.boot.rstLow = false →
    exec (.pkgResetNLow t0) s = .next (State.requestReset
      (State.setBoot (s.advance t0) { s.sys.boot with rstLow := true }) 1 3)) ∧
  (∀ (s : State) (head : Bool) (b : BitVec 5) (t0 : Nat),
    let v := s.advance t0
    (s.sys.reset = some 0 → exec (.resetComplete head b t0) s = .next
      ((v.log.staging.foldl (fun s r => s.nvmWrite r) v).saveMinutes.coldStart head b.toNat 2 true)) ∧
    (s.sys.reset = some 2 → exec (.resetComplete head b t0) s = .next (v.setReset none).fabricEnd.crcCommit) ∧
    (s.sys.reset = some 3 → exec (.resetComplete head b t0) s = .next (v.setReset none).computeEnd.crcCommit) ∧
    (s.sys.reset = none → exec (.resetComplete head b t0) s = .next v))

/-- R431-R437, R520, R521: the bench chain: frames that are dropped, forwarded, applied once and come round; the
beacon that gives a position; a message; the images that recovery asks for and installs. Its definitions follow the
model's choices in log entries 103, 107, 108, 127. -/
def Obligations.BenchChain : Prop :=
  (∀ (s : State) (b : List Byte) (t : Nat), ∀ i ∈ [Instr.beaconRx b t, .chainSwitch b t, .chainReset b t, .chainMsg b t, .chainImage b t],
    exec i s = .next ((s.advance t).chainIn b)) ∧
  (∀ (s : State) (b : List Byte), s.sys.vaux = true →
    (frOk b = false → (s.chainIn b).rd BOOT.CHN_COUNTS.CRC_DROP =
        (s.rd BOOT.CHN_COUNTS.CRC_DROP + 1) % 2 ^ BOOT.CHN_COUNTS.CRC_DROP.width ∧
      (s.chainIn b).sys.chain.sent = [] ∧ s.regsBut (s.chainIn b) [BOOT.CHAIN.LINK, BOOT.CHN_COUNTS.CRC_DROP]) ∧
    (frOk b = true → frHop1 b = false → s.position ≠ some (frSrc b) → 68 ≤ frHops b → (s.chainIn b).rd BOOT.CHN_COUNTS.LOST =
      (s.rd BOOT.CHN_COUNTS.LOST + 1) % 2 ^ BOOT.CHN_COUNTS.LOST.width ∧ (s.chainIn b).sys.chain.sent = []) ∧
    (frOk b = true → frHop1 b = false → s.position ≠ some (frSrc b) → frHops b < 68 → bytesAt b 0 1 = 4 →
      Tbl.look s.sys.chain.applied (frSrc b) = some (frSeq b) → (s.chainIn b).sys.chain.sent = [frForward b] ∧
        (s.chainIn b).rd BOOT.CHN_COUNTS.DUP = (s.rd BOOT.CHN_COUNTS.DUP + 1) % 2 ^ BOOT.CHN_COUNTS.DUP.width) ∧
    (frOk b = true → frHop1 b = false → s.position ≠ some (frSrc b) → frHops b < 68 → bytesAt b 0 1 = 4 →
      Tbl.look s.sys.chain.applied (frSrc b) ≠ some (frSeq b) → frPayload b ≠ [] → (frPayload b).length ≤ 16 →
        (s.chainIn b).sys.chain.sent = [frForward b] ∧
        Tbl.look (s.chainIn b).sys.chain.applied (frSrc b) = some (frSeq b) ∧
        (s.chainIn b).rd BOOT.CHN_RX.DATA = ofLeBytes (frPayload b) ∧ (s.chainIn b).rd BOOT.CHN_RXH.SRC = frSrc b ∧
        (s.chainIn b).rd BOOT.CHN_RXH.LEN = (frPayload b).length ∧ (s.chainIn b).on BOOT.CHN_RXH.VALID = true ∧
        (s.chainIn b).on BOOT.EVENT.RX_MSG = true) ∧
    (∀ a, frOk b = true → frHop1 b = false → s.position = some (frSrc b) → bytesAt b 0 1 ≠ 3 →
      s.sys.chain.mine = some (frSeq b, a) → (s.chainIn b).sys.chain.mine = none ∧
        (s.chainIn b).on BOOT.CHN_CMD.BUSY = false ∧ (s.chainIn b).sys.chain.sent = []) ∧
    (frOk b = true → frHop1 b = true → bytesAt b 0 1 = 1 → s.chainIn b = State.beacon (s.chainClear.wr BOOT.CHAIN.LINK 1)
      (bytesAt (frPayload b) 0 1) (bytesAt (frPayload b) 1 1) (bytesAt (frPayload b) 2 1))) ∧
  (∀ (s : State) (pos n : Nat), s.on BOOT.STRAPS.CHAIN_HEAD = false → pos < 67 → s.position = none → s.sys.boot.list = [] →
    s.booting = true → s.phase = phChain → n < 256 →
    let t := s.beacon pos n (s.rd BOOT.STRAPS.BENCH_ID)
    t.position = some (pos + 1) ∧ t.rd BOOT.CHAIN.COUNT = n ∧
      t.phase = (if s.sys.boot.nvmOk then phCutlist else phNvm)) ∧
  (∀ (s : State) (src : Nat) (l : List Byte), (s.on PB.CTRL.CHAIN_SW = false → s.chainActs 2 l = false) ∧
    (s.fabUp = true → bitOf (bytesAt l 8 1) 0 = false → s.chainApply 2 src false l =
      State.pbArm ((s.wr PB.SWITCH_LO.SLOT (bytesAt l 0 4)).wr PB.SWITCH_HI.SLOT (bytesAt l 4 4))) ∧
    (∀ k, 1 ≤ k → k ≤ 3 → bytesAt l 0 1 = k → s.chainApply 3 src false l = s.requestReset k (2 * k + 3)) ∧
    s.chainApply 5 src true l = s.chainImage l true) ∧
  (∀ (s : State) (p t0 : Nat), s.position = some p → s.sys.vaux = true → ∃ t, exec (.beaconSend t0) s = .next t ∧
    t.sys.chain.sent = [chainFrame 1 true p 0 s.sys.chain.seq (leBytes 1 p ++ leBytes 1 (s.rd BOOT.CHAIN.COUNT) ++
      leBytes 1 (s.rd BOOT.STRAPS.BENCH_ID) ++ leBytes 1 0)] ∧ t.sys.chain.seq = (s.sys.chain.seq + 1) % 65536 ∧
      t.regs = s.regs) ∧
  (∀ (s : State) (ty n : BitVec 8), s.csrSound →
    (s.on BOOT.CHN_CMD.BUSY = true ∨ s.position = none ∨ sendOk ty.toNat n.toNat = false →
      ∃ t, exec (.chainSend ty n) s = .next t ∧ s.flagged t BOOT.EVENT.CFG_ERR ∧
        s.onlyEvent t [BOOT.CHN_CMD.TYPE, BOOT.CHN_CMD.LEN, BOOT.EVENT.CFG_ERR, seqOf BOOT.EVENT.CFG_ERR]) ∧
    (∀ p, s.on BOOT.CHN_CMD.BUSY = false → s.position = some p → ty.toNat = 4 → 1 ≤ n.toNat → n.toNat ≤ 16 →
      ∃ t, exec (.chainSend ty n) s = .next t ∧ t.on BOOT.CHN_CMD.BUSY = true ∧
        t.sys.chain.mine = some (s.sys.chain.seq, s.now) ∧
        t.sys.chain.sent = [chainFrame 4 false p 0 s.sys.chain.seq
          (((List.range 4).flatMap fun i => leBytes 4 (s.rd (BOOT.CHN_TXD.DATA i))).take n.toNat)])) ∧
  (∀ (s : State) (q a t0 : Nat), s.sys.chain.mine = some (q, a) →
    (max s.now t0 < a + Config.ns 10000000 → exec (.chainTxTimeout t0) s = .next (s.advance t0)) ∧
    (a + Config.ns 10000000 ≤ max s.now t0 → ∃ t, exec (.chainTxTimeout t0) s = .next t ∧ t.sys.chain.mine = none ∧
      t.on BOOT.CHN_CMD.BUSY = false ∧ t.on BOOT.EVENT.TX_LOST = true ∧
      t.rd BOOT.CHN_COUNTS.LOST = (s.rd BOOT.CHN_COUNTS.LOST + 1) % 2 ^ BOOT.CHN_COUNTS.LOST.width)) ∧
  (∀ (s : State) (t0 : Nat), s.chainPathOn = true → s.position ≠ none → exec (.imageReqRetry t0) s = .next
    ((s.sys.recov.asked.filter fun r => decide (r.2 + Config.ns 10000000 ≤ max s.now t0)).foldl (fun s r => s.imageReq r.1)
      (s.advance t0).chainClear)) ∧
  (∀ (s : State) (t0 : Nat), s.recovering = true → s.sys.recUl = true →
    let h := s.comp.lpddr.read 0 64
    let l := s.comp.lpddr.read 0x1000 (min (bytesAt h 4 4) 0x1000000)
    bytesAt h 0 4 = 0x43524A46 → s.sys.recov.seq ≠ some (bytesAt h 8 4) →
    ∃ t, exec (.recoveryHeader t0) s = .next t ∧ t.sys.recov.seq = some (bytesAt h 8 4) ∧ t.sys.recov.urdal = true ∧
      (if fwCheck l = 0 then t.sys.recov.image = some l ∧ t.comp.lpddr.get 12 = 2
        else t.sys.recov.image = s.sys.recov.image ∧ t.comp.lpddr.get 12 = 4) ∧
      (∀ a, a ≠ 12 → t.comp.lpddr.get a = s.comp.lpddr.get a)) ∧
  (∀ (s : State) (l : List Byte) (t0 : Nat), s.recovering = true → s.sys.recov.image = some l →
    s.pwState ≠ pwDark → s.sys.reset = none → ∃ t, exec (.recoveryInstall t0) s = .next t ∧
      if fwCheck l = 0 then t.sys.nvm.fw0 = l ∧ t.sys.nvm.fw1 = l ∧ t.sys.recov.image = none ∧ t.sys.reset = some 0
      else t = (((s.advance t0).setRecov { s.sys.recov with image := none }).chainClear).chainPath)

/-- R459-R478: an access to the register window is checked for its alignment, its address and its block; a register
takes 32 bits; a flag is cleared by its SEQ; a locked field is not written; a posted write lands later; the mailbox
takes a sample. Its definitions follow the model's choices in log entries 24, 111, 114, 115, 116, 117, 120. -/
def Obligations.RegisterAccess : Prop :=
  (∀ (s : State) (b : Bank) (off : BitVec 26) (size : BitVec 2) (v : BitVec 64), s.sys.vaux = true →
    let o := off.toNat
    let n := 2 ^ size.toNat
    (o % n ≠ 0 → ∃ t, exec (.csrWrite b off size v) s = .next t ∧ t.on GLB.EVENT.UNALIGNED = true ∧
      t.rd GLB.ACC_ERR.UNALIGNED = (s.rd GLB.ACC_ERR.UNALIGNED + 1) % 2 ^ GLB.ACC_ERR.UNALIGNED.width ∧
      s.onlyEvent t [GLB.ACC_ERR.UNALIGNED, GLB.EVENT.UNALIGNED, seqOf GLB.EVENT.UNALIGNED]) ∧
    (o % n = 0 → n < 8 → mapped o = false → ∃ t, exec (.csrWrite b off size v) s = .next t ∧
      t.on GLB.EVENT.UNMAPPED = true ∧
      t.rd GLB.ACC_ERR.UNMAPPED = (s.rd GLB.ACC_ERR.UNMAPPED + 1) % 2 ^ GLB.ACC_ERR.UNMAPPED.width ∧
      s.onlyEvent t [GLB.ACC_ERR.UNMAPPED, GLB.EVENT.UNMAPPED, seqOf GLB.EVENT.UNMAPPED]) ∧
    (o % n = 0 → n < 8 → mapped o = true → s.busyReset b (o / 4 * 4) = true → ∃ t, exec (.csrWrite b off size v) s = .next t ∧
      t.rd GLB.ACC_ERR.BUSY_RESET = (s.rd GLB.ACC_ERR.BUSY_RESET + 1) % 2 ^ GLB.ACC_ERR.BUSY_RESET.width ∧
      s.onlyEvent t [GLB.ACC_ERR.BUSY_RESET]) ∧
    (o % n = 0 → n < 4 → mapped o = true → s.busyReset b (o / 4 * 4) = false →
      ∃ t, exec (.csrWrite b off size v) s = .next t ∧ t.on GLB.EVENT.NARROW_WR = true ∧
        s.onlyEvent t [GLB.ACC_ERR.NARROW_WR, GLB.EVENT.NARROW_WR, seqOf GLB.EVENT.NARROW_WR]) ∧
    (o % n = 0 → n = 4 → mapped o = true → s.busyReset b (o / 4 * 4) = false →
      exec (.csrWrite b off size v) s = .next (s.takeWrite b o (v.toNat % 2 ^ 32))) ∧
    (o % 8 = 0 → n = 8 → exec (.csrWrite b off size v) s = .next
      ((s.write32 b o 4 (v.toNat % 2 ^ 32)).1.write32 b (o + 4) 4 (bitsOf v.toNat 32 32)).1)) ∧
  (∀ (s : State) (b : Bank) (off v : Nat) (r : RegRow) (i : List Nat), regAt off = some (r, i) → r.wide = false →
    s.fusedAway off = false → winShows r.win (s.instOf b.num r i) = true →
    let inst := s.instOf b.num r i
    let sq := r.fields.any fun f => f.acc == .sq
    let wp := r.fields.any fun f => f.acc == .wp
    let rw := r.fields.any fun f => accWritable f.acc || f.acc == .ws
    (sq = true → s.takeWrite b off v = s.sqClear r off inst (v / 2 ^ 24)) ∧
    (sq = false → wp = true → s.takeWrite b off v = s.postWrite (blockOf off - 21) off v) ∧
    (sq = false → wp = false → rw = false → s.takeWrite b off v = s) ∧
    (sq = false → wp = false → rw = true → s.violates r off inst v = false → strobes r (s.unlocked r off inst v) ≤ 1 →
      s.takeWrite b off v = s.bySoft off inst (s.unlocked r off inst v) fun s =>
        s.regWrite b r off i inst (s.unlocked r off inst v)) ∧
    (sq = false → wp = false → rw = true → s.violates r off inst v = true →
      (s.lockViol off).on GLB.EVENT.LOCK_VIOL = true ∧
      (s.lockViol off).rd GLB.LOCK_VIOL.LAST = off / 4 % 2 ^ GLB.LOCK_VIOL.LAST.width ∧
      s.onlyEvent (s.lockViol off) [GLB.LOCK_VIOL.COUNT, GLB.LOCK_VIOL.LAST, GLB.EVENT.LOCK_VIOL, seqOf GLB.EVENT.LOCK_VIOL])) ∧
  (∀ (s : State) (b : Bank) (i : Nat) (off : BitVec 26) (v : BitVec 64), s.sys.vaux = true → s.csrSound → i < 4 →
    b = .mgmt ∨ s.phase = phDone → off.toNat = BOOT.CHN_TXD.base + 4 * i →
    ∃ t, exec (.csrWrite b off 2 v) s = .next t ∧ t.rd (BOOT.CHN_TXD.DATA i) = v.toNat % 2 ^ 32 ∧
      s.onlyRegs t [BOOT.CHN_TXD.DATA i]) ∧
  (∀ (s : State) (b : Bank) (off : BitVec 26) (q : BitVec 8) (r : RegRow) (i : List Nat), s.sys.vaux = true →
    regAt off.toNat = some (r, i) → s.fusedAway off.toNat = false → winShows r.win (s.instOf b.num r i) = true →
    (r.fields.any fun f => f.acc == .sq) = true →
    let inst := s.instOf b.num r i
    exec (.sqClear b off q) s = .next (s.sqClear r off.toNat inst q.toNat) ∧
    (s.rd ⟨off.toNat, 24, 8, inst, 0⟩ ≠ q.toNat → s.sqClear r off.toNat inst q.toNat = s) ∧
    (s.rd ⟨off.toNat, 24, 8, inst, 0⟩ = q.toNat → ∀ f ∈ r.fields, f.acc = .sq → f.width = 1 →
      (s.sqClear r off.toNat inst q.toNat).rd (rowField r off.toNat inst f) = 0)) ∧
  (∀ (s : State) (d off v : Nat), d < 2 →
    (s.on (ED.STATUS.BUSY d) = false → (s.postWrite d off v).on (ED.STATUS.BUSY d) = true ∧
      Tbl.look (s.postWrite d off v).sys.posted d = some (off, v) ∧ s.regsBut (s.postWrite d off v) [ED.STATUS.BUSY d]) ∧
    (s.on (ED.STATUS.BUSY d) = true → (s.postWrite d off v).on (ED.EVENT.DROPPED d) = true ∧
      (s.postWrite d off v).on GLB.EVENT.DROPPED = true ∧ (s.postWrite d off v).sys.posted = s.sys.posted)) ∧
  (∀ (s : State) (d : Fin 2) (off v : Nat) (r : RegRow) (i : List Nat), s.csrSound → Tbl.look s.sys.posted d.val = some (off, v) →
    regAt off = some (r, i) → exec (.postedWriteDone d) s = .next (State.plainWrite
      ((s.setSys { s.sys with posted := Tbl.del s.sys.posted d.val }).wr (ED.STATUS.BUSY d) 0) r off i (s.instOf 0 r i) v)) ∧
  (∀ (s : State) (b : Bank) (off : BitVec 26), s.sys.vaux = true → s.csrSound →
    let o := off.toNat / 16 * 16
    (regAt o = none → ∃ t, exec (.mbxSelect b off) s = .next t ∧ t.rd (GLB.MBX_VALID.VALID b.num) = 0 ∧
      Tbl.look t.mbx b.num = some ⟨o, 0, true⟩) ∧
    (∀ r i, regAt o = some (r, i) → r.wide = true → s.inReset (blockOf o) = false → s.unsafeBlock (blockOf o) = false →
      s.fusedAway o = false → r.base ≠ TIO.CAP.base → r.base ≠ TIO.TP_TXQ.base → r.base ≠ GTH.REC.base →
      winShows r.win (s.instOf b.num r i) = true →
      let u := s.refreshWide r b.num
      exec (.mbxSelect b off) s = .next (u.mbxStart b o (u.fieldsOf r o (s.instOf b.num r i)) false))) ∧
  (∀ (s : State) (b : Bank) (x : Sample), Tbl.look s.mbx b.num = some x → ∃ t, exec (.mbxSampleDone b) s = .next t ∧
    t.rd (GLB.MBX_VALID.VALID b.num) = 1 ∧ t.on (GLB.MBX_VALID.ERR b.num) = x.err ∧ Tbl.look t.mbx b.num = none ∧
    (∀ i, i < 4 → t.rd (GLB.MBX_D.DATA i b.num) = if x.err then 0 else bitsOf x.data (32 * i) 32))

/-- R479-R484: parity of registers: a register found wrong is a CSR fault that holds its block in its safe state until
a re-check passes; and the CRC of compatibility mode. Its definitions follow the model's choices in log entries 22,
112, 113. -/
def Obligations.RegisterFaults : Prop :=
  (∀ (s : State), s.sys.vaux = true → s.compat = false →
    (s.sys.bad = [] → ∃ t, exec (.csrParityScrub []) s = .next t ∧
      t.rd GLB.SCRUB.PASSES = (s.rd GLB.SCRUB.PASSES + 1) % 2 ^ GLB.SCRUB.PASSES.width ∧ s.onlyRegs t [GLB.SCRUB.PASSES]) ∧
    (∀ o inst r i, s.sys.bad = [(o, inst)] → regAt (o / 4 * 4) = some (r, i) →
      s.sys.found.contains (o / 4 * 4, inst) = false →
      exec (.csrParityScrub []) s = .next ((if r.banked then s.zeroBank r (o / 4 * 4) inst
        else s.csrFault (o / 4 * 4) inst).bump GLB.SCRUB.PASSES))) ∧
  (∀ (s : State) (u : RegUpset) (r : RegRow) (i : List Nat) (f : FieldRow), regAt u.off = some (r, i) →
    (r.fields.find? fun f => f.acc != .ws && decide (f.lo ≤ u.bit) && decide (u.bit < f.lo + f.width)) = some f →
    s.rd (rowField r u.off u.inst f) < 2 ^ f.width →
    bitOf ((s.upsetReg u).rd (rowField r u.off u.inst f)) (u.bit - f.lo) =
      !bitOf (s.rd (rowField r u.off u.inst f)) (u.bit - f.lo)) ∧
  (∀ (s : State) (off inst : Nat), blockOf off = 8 →
    let t := s.csrFault off inst
    t.on GLB.EVENT.CSR_FAULT = true ∧ t.unsafeBlock 8 = true ∧ t.rd GLB.FAULT_LAST.OFFSET = off / 4 % 2 ^ 24 ∧
      t.sys.held.contains (off, inst) = true ∧ t.sys.found.contains (off, inst) = true) ∧
  (∀ (s : State) (b : BitVec 6), s.sys.vaux = true → s.compat = false →
    (blockNamed b.toNat = true → ∃ t, exec (.faultClr b) s = .next t ∧ b.toNat ∈ t.sys.recheck ∧ t.regs = s.regs) ∧
    (blockNamed b.toNat = false → ∃ t, exec (.faultClr b) s = .next t ∧ s.flagged t GLB.EVENT.CFG_ERR ∧
      s.onlyEvent t [GLB.EVENT.CFG_ERR, seqOf GLB.EVENT.CFG_ERR])) ∧
  (∀ (s : State) (b : BitVec 6), s.sys.recheck.contains b.toNat = true → b.toNat ≠ 63 →
    let v := s.setSys { s.sys with recheck := s.sys.recheck.filter (· != b.toNat) }
    (s.anyBad (fun o => blockOf o == b.toNat) = false → b.toNat < 32 → exec (.faultRecheckDone b) s =
      .next (v.release' b.toNat fun _ => true)) ∧
    (s.anyBad (fun o => blockOf o == b.toNat) = true → b.toNat < 32 → ∃ t, exec (.faultRecheckDone b) s = .next t ∧
      s.flagged t GLB.EVENT.CFG_ERR ∧ t.sys.held = s.sys.held ∧ s.regsButEvent t [GLB.EVENT.CFG_ERR, seqOf GLB.EVENT.CFG_ERR])) ∧
  (∀ (s : State) (b : Nat), b < 26 → b ≠ 1 → b ≠ 17 →
    let t := s.release' b fun _ => true
    t.unsafeBlock b = false ∧ (t.sys.held.any fun x => blockOf x.1 == b) = false ∧ s.regsBut t [GLB.FAULT_LO.BLOCKS]) ∧
  (∀ (s : State),
    (s.compat = false → ∃ t, exec .crcCommit s = .next t ∧ s.flagged t GLB.EVENT.CFG_ERR ∧
      s.onlyEvent t [GLB.EVENT.CFG_ERR, seqOf GLB.EVENT.CFG_ERR]) ∧
    (s.compat = true → ∃ t, exec .crcCommit s = .next t ∧ t.rd GLB.CRC_REF.CRC = s.crcFold.rd GLB.CRC_NOW.CRC % 2 ^ 32 ∧
      t.rd GLB.CRC_CTRL.STALE = 0 ∧ s.onlyRegs t [GLB.CRC_NOW.CRC, GLB.CRC_REF.CRC, GLB.CRC_CTRL.STALE])) ∧
  (∀ (s : State), s.sys.vaux = true → s.compat = true →
    let v := s.crcFold.setSys { s.crcFold.sys with crcSoft := 0 }
    let w := (v.wr GLB.CRC_NOW.CRC v.crcNow).bump GLB.SCRUB.PASSES
    (s.on GLB.CRC_CTRL.STALE = true → exec (.crcRecompute []) s = .next w) ∧
    (s.on GLB.CRC_CTRL.STALE = false → exec (.crcRecompute []) s = .next
      (if w.rd GLB.CRC_NOW.CRC = w.rd GLB.CRC_REF.CRC then w else w.faultAll)))

/-- R486-R507: the counters and their snapshot, the log's way to NVM and its dump, operating time, the management
cores' load, failure and takeover, the patch map and telemetry. Its definitions follow the model's choices in log
entries 6, 51, 94, 95, 96, 97. -/
def Obligations.HealthAndLog : Prop :=
  (∀ (s : State) (dom : Nat × Nat) (src inst w n : Nat), dom.1 + dom.2 ≤ 112 → n < 112 → s.unsafeBlock 23 = false →
    Tbl.rising s.regs = true →
    let t := s.count dom src inst w
    let v := s.rd (HLT.CTR.COUNT n) + w
    let mine := s.on (HLT.CTR_CFG.EN n) = true ∧ s.rd (HLT.CTR_CFG.SRC n) = src ∧
      (s.rd (HLT.CTR_CFG.INST n) = inst ∨ (s.rd (HLT.CTR_CFG.INST n) = 0xFFFF ∧ (src = 0x101 ∨ src = 0x102)))
    (dom.1 ≤ n → n < dom.1 + dom.2 → src ≠ 0 → mine → t.rd (HLT.CTR.COUNT n) = v % 2 ^ 48 ∧
      t.rd (HLT.CTR.OVF n) = if v < 2 ^ 48 then s.rd (HLT.CTR.OVF n) else 1) ∧
    (n < dom.1 ∨ dom.1 + dom.2 ≤ n ∨ ¬ mine → t.rd (HLT.CTR.COUNT n) = s.rd (HLT.CTR.COUNT n) ∧
      t.rd (HLT.CTR.OVF n) = s.rd (HLT.CTR.OVF n))) ∧
  (∀ (s : State),
    (s.on HLT.CTR_STAT.SNAP_PEND = false → ∃ t, exec .snap s = .next t ∧ t.on HLT.CTR_STAT.SNAP_PEND = true ∧
      t.sys.snapAt = s.now ∧ s.regsBut t [HLT.CTR_STAT.SNAP_PEND]) ∧
    (s.on HLT.CTR_STAT.SNAP_PEND = true → ∃ t, exec .snap s = .next t ∧ s.flagged t HLT.EVENT.CFG_ERR ∧
      s.onlyEvent t [HLT.EVENT.CFG_ERR, seqOf HLT.EVENT.CFG_ERR]) ∧
    (∀ t0, s.on HLT.CTR_STAT.SNAP_PEND = true → t0 % Config.cycleTime = 0 → s.sys.snapAt + Config.ns 2000 ≤ t0 →
      ∃ t, exec (.snapshotTake t0) s = .next t ∧ t.on HLT.CTR_STAT.SNAP_PEND = false ∧ t.on HLT.EVENT.SNAP_DONE = true ∧
        ∀ n, n < 112 → t.rd (HLT.SNAP.COUNT n) = s.rd (HLT.CTR.COUNT n) % 2 ^ 48 ∧
          t.rd (HLT.CTR.COUNT n) = s.rd (HLT.CTR.COUNT n)) ∧
    (∃ t, exec .clearAll s = .next t ∧ (∀ n, n < 112 → t.rd (HLT.CTR.COUNT n) = 0 ∧ t.rd (HLT.CTR.OVF n) = 0) ∧
      s.onlyRegs t ((List.range 112).flatMap fun n => [HLT.CTR.COUNT n, HLT.CTR.OVF n]))) ∧
  (∀ (s : State) (n t0 : Nat), s.mcRuns = true → s.on HLT.LOG_STAT.FLUSH_BUSY = true →
    let v := s.advance t0
    let w := ((v.log.staging.take n).foldl (fun s r => s.nvmWrite r) v).saveMinutes
    (w.log.staging ≠ [] → exec (.logFlush n t0) s = .next w.showLog) ∧
    (w.log.staging = [] → exec (.logFlush n t0) s = .next
      (({ w with log := { w.log with lastFlush := w.now } } : State).wr HLT.LOG_STAT.FLUSH_BUSY 0).showLog)) ∧
  (∀ (s : State) (r : LogRec), recBytes s.log.nvm + r.size ≤ nvmLogBytes →
    (s.nvmWrite r).log.nvm = insertRec r s.log.nvm ∧
      (s.nvmWrite r).log.staging = s.log.staging.filter fun x => x.seq != r.seq) ∧
  (∀ (s : State), ∃ t, exec .flush s = .next t ∧ t.on HLT.LOG_STAT.FLUSH_BUSY = true ∧ s.onlyRegs t [HLT.LOG_STAT.FLUSH_BUSY]) ∧
  (∀ (s : State) (t0 : Nat) (r : LogRec), (s.log.staging.filter fun x => x.sev == 3) = [r] →
    exec (.fatalFlush t0) s = .next (((s.advance t0).nvmWrite r).saveMinutes.showLog)) ∧
  (∀ (s : State),
    (s.on HLT.LOG_STAT.DUMP_BUSY = true ∨ s.dumpAddr % 64 ≠ 0 → ∃ t, exec .dump s = .next t ∧ s.flagged t HLT.EVENT.CFG_ERR ∧
      s.onlyEvent t [HLT.EVENT.CFG_ERR, seqOf HLT.EVENT.CFG_ERR]) ∧
    (let l := (s.log.nvm ++ s.log.staging).flatMap LogRec.toBytes
     s.on HLT.LOG_STAT.DUMP_BUSY = false → s.dumpAddr % 64 = 0 → s.region s.dumpAddr = .lpddr →
     exec .dump s = .next (((s.wr HLT.LOG_STAT.DUMP_BUSY 1).wr HLT.DUMP_STAT.BYTES 0).moveBegin mvDump
      { write := true, addr := s.dumpAddr, len := (l.length + 63) / 64 * 64, data := padTo ((l.length + 63) / 64 * 64) l }))) ∧
  (∀ (s u : State) (x : Move), s.move mvDump = some x →
    (∀ l, s.moveEnd mvDump [] = (u, .done l) →
      exec .dumpComplete s = .next ((u.wr HLT.DUMP_STAT.BYTES x.len).wr HLT.LOG_STAT.DUMP_BUSY 0)) ∧
    (s.moveEnd mvDump [] = (u, .failed) → ∃ t, exec .dumpComplete s = .next t ∧ t.on HLT.EVENT.CFG_ERR = true ∧
      t.on HLT.LOG_STAT.DUMP_BUSY = false)) ∧
  (∀ (s : State) (t0 : Nat), s.sys.vaux = true → ∃ t, exec (.optimeTick t0) s = .next t ∧
    t.rd HLT.OPTIME.MINUTES = (s.rd HLT.OPTIME.MINUTES + 1) % 2 ^ 32 ∧ s.regsBut t [HLT.OPTIME.MINUTES] ∧
    t.log.minutes = (if s.log.minutes + 60 ≤ (s.rd HLT.OPTIME.MINUTES + 1) % 2 ^ 32 then
      (s.rd HLT.OPTIME.MINUTES + 1) % 2 ^ 32 else s.log.minutes)) ∧
  (∀ (s : State) (v a : BitVec 8) (t0 : Nat), s.mcRuns = true →
    (s.rd HLT.MC_CFG.SHED_ON ≤ v.toNat → s.on HLT.MC_LOAD.SHED_E = false → ∃ t, exec (.mcLoadWindow v a t0) s = .next t ∧
      t.on HLT.MC_LOAD.SHED_E = true ∧ t.on HLT.EVENT.SHED = true ∧ t.rd HLT.MC_LOAD.LOAD = v.toNat ∧
      t.on HLT.MC_LOAD.SHED_D = s.on HLT.MC_LOAD.SHED_D) ∧
    (s.rd HLT.MC_CFG.SHED_ON ≤ v.toNat → s.on HLT.MC_LOAD.SHED_E = true → s.on HLT.MC_LOAD.SHED_D = false →
      ∃ t, exec (.mcLoadWindow v a t0) s = .next t ∧ t.on HLT.MC_LOAD.SHED_D = true ∧ t.on CAL.STAT.PAUSED = true) ∧
    (v.toNat < s.rd HLT.MC_CFG.SHED_OFF → v.toNat < s.rd HLT.MC_CFG.SHED_ON → 9 ≤ s.sys.calm →
      ∃ t, exec (.mcLoadWindow v a t0) s = .next t ∧ t.on HLT.MC_LOAD.SHED_D = false ∧
        (s.on HLT.MC_LOAD.SHED_D = false → t.on HLT.MC_LOAD.SHED_E = false) ∧
        (s.on HLT.MC_LOAD.SHED_D = true → t.on HLT.MC_LOAD.SHED_E = s.on HLT.MC_LOAD.SHED_E ∧ t.on CAL.STAT.PAUSED = false))) ∧
  (∀ (s : State) (t0 : Nat), s.mcRuns = true →
    (∃ t, exec (.mcSelfCheck t0) s = .next t ∧ t.sys = { s.sys with checked := max s.now t0 } ∧ t.regs = s.regs) ∧
    (∀ w, s.on HLT.MC_LOAD.ACTIVE = false → (w = true → s.sys.checked + Config.ns 5000000 ≤ max s.now t0) →
      ∃ t, exec (.mc0Failure w t0) s = .next t ∧ t.sys.mcFail = some (max s.now t0) ∧ t.mcRuns = false ∧ t.regs = s.regs) ∧
    (s.on HLT.MC_LOAD.ACTIVE = true → ∃ t, exec (.mc1Failure t0) s = .next t ∧ t.sys.mcLost = true ∧ t.mcRuns = false ∧
      t.on HLT.EVENT.MC_LOST = true ∧ t.fab.stopAt ≠ none)) ∧
  (∀ (s : State) (a t0 : Nat), s.sys.mcFail = some a → ∃ t, exec (.mcTakeoverDone t0) s = .next t ∧ t.sys.mcFail = none ∧
    t.on HLT.MC_LOAD.ACTIVE = true ∧ t.on HLT.MC_LOAD.MC1_AVAIL = false ∧ t.on HLT.EVENT.TAKEOVER = true ∧
    t.patch.waiting = s.patch.waiting ++ [⟨2, 1, 0, 1, s.rd HLT.OPTIME.MINUTES⟩]) ∧
  (∀ (s : State) (e : PatchEntry) (l : List PatchEntry) (t0 : Nat), s.patch.waiting = e :: l →
    s.rd BOOT.STATUS.PHASE = phDone ∨ s.rd BOOT.STATUS.PHASE = phLockWait → s.patch.entries.length < 16380 →
    ∃ t, exec (.patchWrite t0) s = .next t ∧ t.patch = ⟨s.patch.entries ++ [e], s.patch.gen + 1, l⟩ ∧
      t.rd HLT.PATCH_STAT.ENTRIES = s.patch.entries.length + 1 ∧ t.on HLT.PATCH_STAT.FULL = false ∧
      t.rd HLT.PATCH_STAT.GEN = (s.patch.gen + 1) % 2 ^ 16) ∧
  (∀ (s : State), s.csrSound → ∃ t, exec .patchNoteAdd s = .next t ∧ t.regs = s.regs ∧
    t.patch.waiting = s.patch.waiting ++ [⟨10, 1, s.rd HLT.PATCH_NOTE.NODE, s.node, s.rd HLT.OPTIME.MINUTES⟩]) ∧
  (∀ (s : State) (t0 : Nat), s.mcRuns = true → s.on HLT.TEL_CFG.EN = true →
    s.sys.telAt + Config.ns (1000000 * s.rd HLT.TEL_CFG.PERIOD) ≤ max s.now t0 →
    (s.on HLT.MC_LOAD.SHED_E = true → ∃ t, exec (.telemetryTick t0) s = .next t ∧ t.sys.telAt = max s.now t0 ∧
      t.rd HLT.MC_SHED.E_DEFERRED = (s.rd HLT.MC_SHED.E_DEFERRED + 1) % 2 ^ HLT.MC_SHED.E_DEFERRED.width) ∧
    (s.on HLT.MC_LOAD.SHED_E = false → ∃ t, exec (.telemetryTick t0) s = .next t ∧ t.sys.telAt = max s.now t0 ∧
      (∀ c, 16 ≤ c → c ≤ 35 → (t.notice c).held = true ∧ (t.notice c).seq = (s.notice c).seq + 1 ∧
        (t.notice c).time = tns (max s.now t0)) ∧ (∀ c, c < 16 → t.notice c = s.notice c)))

/-- R512-R518, R522, R523: the service line is polled; a request is answered BUSY, refused or carried out: an
alteration into the slot that is not in use, the attestation report, the certificate; a refused firmware slot is
erased. Its definitions follow the model's choices in log entries 27, 42, 87, 97, 106, 109, 110. -/
def Obligations.Service : Prop :=
  (∀ (s : State) (t0 : Nat), s.noticesOn = true →
    (s.on HLT.MC_LOAD.SHED_E = true → exec (.servicePoll t0) s = .next (s.advance t0).deferE) ∧
    (s.on HLT.MC_LOAD.SHED_E = false → s.sys.svc.due = none → s.move mvPoll = none → exec (.servicePoll t0) s = .next
      ((s.advance t0).moveBegin mvPoll { write := false, addr := 0x800000000000 + s.noticeBase + 0x1000, len := 64 }))) ∧
  (∀ (s : State) (l : List Byte),
    (s.sys.svc.last = none → (s.takeLine l).sys.svc = { s.sys.svc with last := some (rqSeq l) }) ∧
    (∀ p, s.sys.svc.last = some p → p ≠ rqSeq l → 1 ≤ rqCmd l → rqCmd l ≤ 3 →
      (s.takeLine l).sys.svc = { s.sys.svc with last := some (rqSeq l), due := some l }) ∧
    (s.sys.svc.last = some (rqSeq l) → (s.takeLine l).sys.svc = s.sys.svc)) ∧
  (∀ (s : State) (rq : List Byte) (ups : List Upset) (t0 : Nat), s.mcRuns = true → s.sys.svc.due = some rq →
    let v := s.advance t0
    (rqCmd rq = 1 → exec (.alter ups t0) s = .next ((v.altAccept rq).altFetch ups)) ∧
    (rqCmd rq = 2 → s.sys.svc.result = none →
      let b := v.reportBody (slice rq 24 32)
      exec (.attest t0) s = .next (State.resultEnd (State.resultBegin v.drawMany.2 rq
        (b ++ padTo 96 (Config.identitySig v.drawMany.1 b))))) ∧
    (rqCmd rq = 3 → s.sys.svc.result = none →
      exec (.cert t0) s = .next (v.resultBegin rq (Config.certificate.take 4096)).resultEnd)) ∧
  (∀ (s : State) (rq : List Byte),
    let v := s.setSvc { s.sys.svc with due := none }
    (s.sys.svc.alter ≠ none ∨ s.sys.svc.fetch ≠ none → s.altAccept rq = v.answer rq svRefusedBusy 0) ∧
    (s.sys.svc.alter = none → s.sys.svc.fetch = none → rqClean rq = false →
      s.altAccept rq = (v.answer rq svBusy 0).answer rq svBadfmt 0)) ∧
  (∀ (s : State) (rq l : List Byte) (r : Nat) (list : Bool) (out : List Byte), s.sys.svc.fetch = some rq →
    State.altCheck (s.setSvc { s.sys.svc with fetch := none }) l (rqLen rq) = (r, list, out) →
    (r ≠ svOk → s.altStart rq l = State.answer (s.setSvc { s.sys.svc with fetch := none }) rq r 0) ∧
    (r = svOk → (s.altStart rq l).sys.svc.alter = some { seq := rqSeq rq, list := list, out := out } ∧
      (s.altStart rq l).slotBytes list (s.altSlot list) = eraseFirst (s.slotBytes list (s.altSlot list)) ∧
      (s.altStart rq l).slotBytes list (1 - s.altSlot list) = s.slotBytes list (1 - s.altSlot list))) ∧
  (∀ (s : State) (a : Alter) (t0 : Nat), s.sys.svc.alter = some a → s.altSlot a.list < 2 →
    let new := putSectors a.out (s.slotBytes a.list (s.altSlot a.list))
    (clGen (s.altBase a.list) < clGen (nvTake 24 a.out) → ∃ t, exec (.alterComplete true t0) s = .next t ∧
      t.slotBytes a.list (s.altSlot a.list) = new ∧ t.sys.svc.alter = none) ∧
    (clGen (nvTake 24 a.out) ≤ clGen (s.altBase a.list) → ∃ t, exec (.alterComplete true t0) s = .next t ∧
      t.slotBytes a.list (s.altSlot a.list) = eraseFirst new ∧ t.sys.svc.alter = none) ∧
    (∃ t, exec (.alterComplete false t0) s = .next t ∧ t.slotBytes a.list (s.altSlot a.list) = eraseFirst new ∧
      t.sys.svc.alter = none)) ∧
  (∀ (s : State) (i t0 : Nat), s.sys.boot.erase = some i → i < 2 → s.phase = phDone ∨ s.phase = phLockWait →
    ∃ t, exec (.fwSlotErase t0) s = .next t ∧ t.slotBytes false i = eraseFirst (s.slotBytes false i) ∧
      t.slotBytes false (1 - i) = s.slotBytes false (1 - i) ∧ t.sys.boot.erase = none ∧ t.regs = s.regs)

/-- R476: SEQ of a flag register is 0 after COLD; each event that sets one of its flags adds one to it, modulo 256,
set already or not; SEQ written back clears the one-bit flags and nothing else, another number nothing, and the other
bits of the value written do not matter. Its definitions follow the model's choices in log entries 24, 45, 105, 117,
120. -/
def Obligations.FlagsAndSequence : Prop :=
  (∀ (s : State) (head power : Bool) (bench cause off inst : Nat) (r : RegRow) (i : List Nat), regAt off = some (r, i) →
    (r.fields.any fun f => f.acc == .sq) = true → (s.coldStart head bench cause power).rd ⟨off, 24, 8, inst, 0⟩ = 0) ∧
  (∀ (s : State) (f : Field), 1 ≤ f.width → f.lo ≠ 24 → s.flagged (s.setFlag f) f ∧ s.onlyRegs (s.setFlag f) [f, seqOf f]) ∧
  (∀ (s : State) (f : Field) (sev : Nat) (detail : List Byte), 1 ≤ f.width → f.lo < 24 → f.key ∉ recorderFields.map Field.key →
    (seqOf f).key ∉ recorderFields.map Field.key →
    s.flagged (s.raise f sev detail) f ∧ s.regsButEvent (s.raise f sev detail) [f, seqOf f]) ∧
  (∀ (s : State) (b : Bank) (off : BitVec 26) (r : RegRow) (i : List Nat), s.sys.vaux = true →
    regAt off.toNat = some (r, i) → r.wide = false → s.fusedAway off.toNat = false → winShows r.win (s.instOf b.num r i) = true →
    (r.fields.any fun f => f.acc == .sq) = true →
    let inst := s.instOf b.num r i
    let seq : Field := ⟨off.toNat, 24, 8, inst, 0⟩
    let flags := (r.fields.filter fun f => f.acc == .sq && f.width == 1).map (rowField r off.toNat inst)
    (∀ q : BitVec 8, ∃ t, exec (.sqClear b off q) s = .next t ∧ (s.rd seq ≠ q.toNat → t = s) ∧
      (s.rd seq = q.toNat → (∀ f ∈ flags, t.rd f = 0) ∧ t.rd seq = s.rd seq ∧ s.onlyRegs t flags)) ∧
    (∀ v : BitVec 64, off.toNat % 4 = 0 → mapped off.toNat = true → s.busyReset b off.toNat = false →
      exec (.csrWrite b off 2 v) s = exec (.sqClear b off (BitVec.ofNat 8 (v.toNat / 2 ^ 24))) s))

/-- R487: the setting of a counter is refused where the catalogue does not give its source, the source is another domain's
or the instance is outside its range; a change of source or instance clears the counter and OVF, and it counts on from
there. -/
def Obligations.CounterSetting : Prop :=
  (∀ n src inst, n < 112 → src < 4096 → counterOk n src inst = true →
    src = 0 ∨ (src / 256 = 0 ∧ n < 32) ∨ (src / 256 = 1 ∧ 32 ≤ n ∧ n < 96) ∨ (src / 256 = 2 ∧ 96 ≤ n)) ∧
  (∀ (s : State) (n : Fin 112) (v : BitVec 32), s.csrSound →
    let src := bitsOf v.toNat 16 12
    let inst := bitsOf v.toNat 0 16
    (counterOk n src inst = false → ∃ t, exec (.ctrCfgWrite n v) s = .next t ∧ s.flagged t HLT.EVENT.CFG_ERR ∧
      s.onlyEvent t [HLT.EVENT.CFG_ERR, seqOf HLT.EVENT.CFG_ERR]) ∧
    (counterOk n src inst = true → ∃ t, exec (.ctrCfgWrite n v) s = .next t ∧ t.rd (HLT.CTR_CFG.SRC n) = src ∧
      t.rd (HLT.CTR_CFG.INST n) = inst ∧ t.on (HLT.CTR_CFG.EN n) = bitOf v.toNat 31 ∧
      (if src = s.rd (HLT.CTR_CFG.SRC n) ∧ inst = s.rd (HLT.CTR_CFG.INST n) then
        t.rd (HLT.CTR.COUNT n) = s.rd (HLT.CTR.COUNT n) ∧ t.rd (HLT.CTR.OVF n) = s.rd (HLT.CTR.OVF n)
        else t.rd (HLT.CTR.COUNT n) = 0 ∧ t.rd (HLT.CTR.OVF n) = 0) ∧
      s.onlyRegs t [HLT.CTR_CFG.EN n, HLT.CTR_CFG.SRC n, HLT.CTR_CFG.INST n, HLT.CTR.COUNT n, HLT.CTR.OVF n] ∧
      (∀ (dom : Nat × Nat) (w : Nat), dom.1 ≤ n → n < dom.1 + dom.2 → dom.1 + dom.2 ≤ 112 → src ≠ 0 →
        bitOf v.toNat 31 = true → s.unsafeBlock 23 = false → Tbl.rising s.regs = true →
        (t.count dom src inst w).rd (HLT.CTR.COUNT n) = (t.rd (HLT.CTR.COUNT n) + w) % 2 ^ 48)))

/-- R13: while reset is asserted every register reads its header's value; nothing waits, no time has passed, and every
memory and queue is empty. The values that no header gives are the model's choice (log entries 1 to 4). -/
def Obligations.ResetState : Prop :=
  (∀ (r : RegRow) (off inst : Nat) (f : FieldRow), State.reset.rd (rowField r off inst f) = bitsOf r.reset f.lo f.width) ∧
  (State.reset.rd GAUGE.EST_ERR.PS = 0xFFFFFFFF ∧ State.reset.rd GAUGE.STATUS.STATE = 0 ∧
    State.reset.rd HLT.MC_CFG.SHED_ON = 90 ∧ State.reset.rd HLT.MC_CFG.SHED_OFF = 70 ∧
    (∀ p, State.reset.rd (OPE.P_SPARE.B_FOR p) = 15) ∧ State.reset.rd BOOT.CHAIN.POSITION = 255) ∧
  (State.reset.pending = [] ∧ State.reset.memoryWf ∧ State.reset.timed = false ∧ State.reset.sys.vaux = false)

/-- A step takes the command at the front of the queue and is its effect on the state with the queue's rest; with nothing
waiting the block idles (the model's choice, log entry 5). -/
def Obligations.StepRunsFront : Prop :=
  (∀ (c : Instr) (rest : List Instr) (s : State), step { s with pending := c :: rest } = exec c { s with pending := rest }) ∧
  (∀ s : State, s.pending = [] → step s = .next s)

/-- Every command of the table, in every state, has a next state: no step ends in a fault or a refusal. -/
def Obligations.EveryCommandAnswers : Prop :=
  (∀ (c : Instr) (s : State), ∃ t, exec c s = .next t) ∧ (∀ s : State, ∃ t, step s = .next t)

/-- A command acts on everything but the queue, which only the step that takes it shortens. -/
def Obligations.QueueKept : Prop :=
  (∀ (c : Instr) (s t : State), exec c s = .next t → t.pending = s.pending) ∧
  (∀ s t : State, step s = .next t → t.pending = s.pending.tail)

/-- Main memory stays in its one canonical form over every step. -/
def Obligations.MemoryForm : Prop := ∀ s t : State, s.memoryWf → step s = .next t → t.memoryWf
end

