-- ==== Sys2Proof/Laws/State.lean ====
section
/-! SUPPORT. One lemma for each field of the state and each update of one of its parts: the update leaves the field as it
was. -/
namespace Sys2Proof.Machine
open Sys2Proof

variable (s : State)

/-! ### wr -/
@[simp] theorem State.wr_pending (f : Field) (v : Nat) : (s.wr f v).pending = s.pending := rfl
@[simp] theorem State.wr_now (f : Field) (v : Nat) : (s.wr f v).now = s.now := rfl
@[simp] theorem State.wr_freeCount (f : Field) (v : Nat) : (s.wr f v).freeCount = s.freeCount := rfl
@[simp] theorem State.wr_shadow (f : Field) (v : Nat) : (s.wr f v).shadow = s.shadow := rfl
@[simp] theorem State.wr_wrote (f : Field) (v : Nat) : (s.wr f v).wrote = s.wrote := rfl
@[simp] theorem State.wr_asym (f : Field) (v : Nat) : (s.wr f v).asym = s.asym := rfl
@[simp] theorem State.wr_gauge (f : Field) (v : Nat) : (s.wr f v).gauge = s.gauge := rfl
@[simp] theorem State.wr_tio (f : Field) (v : Nat) : (s.wr f v).tio = s.tio := rfl
@[simp] theorem State.wr_book (f : Field) (v : Nat) : (s.wr f v).book = s.book := rfl
@[simp] theorem State.wr_fab (f : Field) (v : Nat) : (s.wr f v).fab = s.fab := rfl
@[simp] theorem State.wr_sys (f : Field) (v : Nat) : (s.wr f v).sys = s.sys := rfl
@[simp] theorem State.wr_comp (f : Field) (v : Nat) : (s.wr f v).comp = s.comp := rfl
@[simp] theorem State.wr_ulk (f : Field) (v : Nat) : (s.wr f v).ulk = s.ulk := rfl
@[simp] theorem State.wr_mbx (f : Field) (v : Nat) : (s.wr f v).mbx = s.mbx := rfl
@[simp] theorem State.wr_log (f : Field) (v : Nat) : (s.wr f v).log = s.log := rfl
@[simp] theorem State.wr_notices (f : Field) (v : Nat) : (s.wr f v).notices = s.notices := rfl
@[simp] theorem State.wr_patch (f : Field) (v : Nat) : (s.wr f v).patch = s.patch := rfl

/-! ### wrB -/
@[simp] theorem State.wrB_pending (f : Field) (b : Bool) : (s.wrB f b).pending = s.pending := rfl
@[simp] theorem State.wrB_now (f : Field) (b : Bool) : (s.wrB f b).now = s.now := rfl
@[simp] theorem State.wrB_freeCount (f : Field) (b : Bool) : (s.wrB f b).freeCount = s.freeCount := rfl
@[simp] theorem State.wrB_shadow (f : Field) (b : Bool) : (s.wrB f b).shadow = s.shadow := rfl
@[simp] theorem State.wrB_wrote (f : Field) (b : Bool) : (s.wrB f b).wrote = s.wrote := rfl
@[simp] theorem State.wrB_asym (f : Field) (b : Bool) : (s.wrB f b).asym = s.asym := rfl
@[simp] theorem State.wrB_gauge (f : Field) (b : Bool) : (s.wrB f b).gauge = s.gauge := rfl
@[simp] theorem State.wrB_tio (f : Field) (b : Bool) : (s.wrB f b).tio = s.tio := rfl
@[simp] theorem State.wrB_book (f : Field) (b : Bool) : (s.wrB f b).book = s.book := rfl
@[simp] theorem State.wrB_fab (f : Field) (b : Bool) : (s.wrB f b).fab = s.fab := rfl
@[simp] theorem State.wrB_sys (f : Field) (b : Bool) : (s.wrB f b).sys = s.sys := rfl
@[simp] theorem State.wrB_comp (f : Field) (b : Bool) : (s.wrB f b).comp = s.comp := rfl
@[simp] theorem State.wrB_ulk (f : Field) (b : Bool) : (s.wrB f b).ulk = s.ulk := rfl
@[simp] theorem State.wrB_mbx (f : Field) (b : Bool) : (s.wrB f b).mbx = s.mbx := rfl
@[simp] theorem State.wrB_log (f : Field) (b : Bool) : (s.wrB f b).log = s.log := rfl
@[simp] theorem State.wrB_notices (f : Field) (b : Bool) : (s.wrB f b).notices = s.notices := rfl
@[simp] theorem State.wrB_patch (f : Field) (b : Bool) : (s.wrB f b).patch = s.patch := rfl

/-! ### wrI -/
@[simp] theorem State.wrI_pending (f : Field) (v : Int) : (s.wrI f v).pending = s.pending := rfl
@[simp] theorem State.wrI_now (f : Field) (v : Int) : (s.wrI f v).now = s.now := rfl
@[simp] theorem State.wrI_freeCount (f : Field) (v : Int) : (s.wrI f v).freeCount = s.freeCount := rfl
@[simp] theorem State.wrI_shadow (f : Field) (v : Int) : (s.wrI f v).shadow = s.shadow := rfl
@[simp] theorem State.wrI_wrote (f : Field) (v : Int) : (s.wrI f v).wrote = s.wrote := rfl
@[simp] theorem State.wrI_asym (f : Field) (v : Int) : (s.wrI f v).asym = s.asym := rfl
@[simp] theorem State.wrI_gauge (f : Field) (v : Int) : (s.wrI f v).gauge = s.gauge := rfl
@[simp] theorem State.wrI_tio (f : Field) (v : Int) : (s.wrI f v).tio = s.tio := rfl
@[simp] theorem State.wrI_book (f : Field) (v : Int) : (s.wrI f v).book = s.book := rfl
@[simp] theorem State.wrI_fab (f : Field) (v : Int) : (s.wrI f v).fab = s.fab := rfl
@[simp] theorem State.wrI_sys (f : Field) (v : Int) : (s.wrI f v).sys = s.sys := rfl
@[simp] theorem State.wrI_comp (f : Field) (v : Int) : (s.wrI f v).comp = s.comp := rfl
@[simp] theorem State.wrI_ulk (f : Field) (v : Int) : (s.wrI f v).ulk = s.ulk := rfl
@[simp] theorem State.wrI_mbx (f : Field) (v : Int) : (s.wrI f v).mbx = s.mbx := rfl
@[simp] theorem State.wrI_log (f : Field) (v : Int) : (s.wrI f v).log = s.log := rfl
@[simp] theorem State.wrI_notices (f : Field) (v : Int) : (s.wrI f v).notices = s.notices := rfl
@[simp] theorem State.wrI_patch (f : Field) (v : Int) : (s.wrI f v).patch = s.patch := rfl

/-! ### wrSat -/
@[simp] theorem State.wrSat_pending (f : Field) (v : Nat) : (s.wrSat f v).pending = s.pending := rfl
@[simp] theorem State.wrSat_now (f : Field) (v : Nat) : (s.wrSat f v).now = s.now := rfl
@[simp] theorem State.wrSat_freeCount (f : Field) (v : Nat) : (s.wrSat f v).freeCount = s.freeCount := rfl
@[simp] theorem State.wrSat_shadow (f : Field) (v : Nat) : (s.wrSat f v).shadow = s.shadow := rfl
@[simp] theorem State.wrSat_wrote (f : Field) (v : Nat) : (s.wrSat f v).wrote = s.wrote := rfl
@[simp] theorem State.wrSat_asym (f : Field) (v : Nat) : (s.wrSat f v).asym = s.asym := rfl
@[simp] theorem State.wrSat_gauge (f : Field) (v : Nat) : (s.wrSat f v).gauge = s.gauge := rfl
@[simp] theorem State.wrSat_tio (f : Field) (v : Nat) : (s.wrSat f v).tio = s.tio := rfl
@[simp] theorem State.wrSat_book (f : Field) (v : Nat) : (s.wrSat f v).book = s.book := rfl
@[simp] theorem State.wrSat_fab (f : Field) (v : Nat) : (s.wrSat f v).fab = s.fab := rfl
@[simp] theorem State.wrSat_sys (f : Field) (v : Nat) : (s.wrSat f v).sys = s.sys := rfl
@[simp] theorem State.wrSat_comp (f : Field) (v : Nat) : (s.wrSat f v).comp = s.comp := rfl
@[simp] theorem State.wrSat_ulk (f : Field) (v : Nat) : (s.wrSat f v).ulk = s.ulk := rfl
@[simp] theorem State.wrSat_mbx (f : Field) (v : Nat) : (s.wrSat f v).mbx = s.mbx := rfl
@[simp] theorem State.wrSat_log (f : Field) (v : Nat) : (s.wrSat f v).log = s.log := rfl
@[simp] theorem State.wrSat_notices (f : Field) (v : Nat) : (s.wrSat f v).notices = s.notices := rfl
@[simp] theorem State.wrSat_patch (f : Field) (v : Nat) : (s.wrSat f v).patch = s.patch := rfl

/-! ### bump -/
@[simp] theorem State.bump_pending (f : Field) : (s.bump f).pending = s.pending := rfl
@[simp] theorem State.bump_now (f : Field) : (s.bump f).now = s.now := rfl
@[simp] theorem State.bump_freeCount (f : Field) : (s.bump f).freeCount = s.freeCount := rfl
@[simp] theorem State.bump_shadow (f : Field) : (s.bump f).shadow = s.shadow := rfl
@[simp] theorem State.bump_wrote (f : Field) : (s.bump f).wrote = s.wrote := rfl
@[simp] theorem State.bump_asym (f : Field) : (s.bump f).asym = s.asym := rfl
@[simp] theorem State.bump_gauge (f : Field) : (s.bump f).gauge = s.gauge := rfl
@[simp] theorem State.bump_tio (f : Field) : (s.bump f).tio = s.tio := rfl
@[simp] theorem State.bump_book (f : Field) : (s.bump f).book = s.book := rfl
@[simp] theorem State.bump_fab (f : Field) : (s.bump f).fab = s.fab := rfl
@[simp] theorem State.bump_sys (f : Field) : (s.bump f).sys = s.sys := rfl
@[simp] theorem State.bump_comp (f : Field) : (s.bump f).comp = s.comp := rfl
@[simp] theorem State.bump_ulk (f : Field) : (s.bump f).ulk = s.ulk := rfl
@[simp] theorem State.bump_mbx (f : Field) : (s.bump f).mbx = s.mbx := rfl
@[simp] theorem State.bump_log (f : Field) : (s.bump f).log = s.log := rfl
@[simp] theorem State.bump_notices (f : Field) : (s.bump f).notices = s.notices := rfl
@[simp] theorem State.bump_patch (f : Field) : (s.bump f).patch = s.patch := rfl

/-! ### bumpBy -/
@[simp] theorem State.bumpBy_pending (f : Field) (n : Nat) : (s.bumpBy f n).pending = s.pending := rfl
@[simp] theorem State.bumpBy_now (f : Field) (n : Nat) : (s.bumpBy f n).now = s.now := rfl
@[simp] theorem State.bumpBy_freeCount (f : Field) (n : Nat) : (s.bumpBy f n).freeCount = s.freeCount := rfl
@[simp] theorem State.bumpBy_shadow (f : Field) (n : Nat) : (s.bumpBy f n).shadow = s.shadow := rfl
@[simp] theorem State.bumpBy_wrote (f : Field) (n : Nat) : (s.bumpBy f n).wrote = s.wrote := rfl
@[simp] theorem State.bumpBy_asym (f : Field) (n : Nat) : (s.bumpBy f n).asym = s.asym := rfl
@[simp] theorem State.bumpBy_gauge (f : Field) (n : Nat) : (s.bumpBy f n).gauge = s.gauge := rfl
@[simp] theorem State.bumpBy_tio (f : Field) (n : Nat) : (s.bumpBy f n).tio = s.tio := rfl
@[simp] theorem State.bumpBy_book (f : Field) (n : Nat) : (s.bumpBy f n).book = s.book := rfl
@[simp] theorem State.bumpBy_fab (f : Field) (n : Nat) : (s.bumpBy f n).fab = s.fab := rfl
@[simp] theorem State.bumpBy_sys (f : Field) (n : Nat) : (s.bumpBy f n).sys = s.sys := rfl
@[simp] theorem State.bumpBy_comp (f : Field) (n : Nat) : (s.bumpBy f n).comp = s.comp := rfl
@[simp] theorem State.bumpBy_ulk (f : Field) (n : Nat) : (s.bumpBy f n).ulk = s.ulk := rfl
@[simp] theorem State.bumpBy_mbx (f : Field) (n : Nat) : (s.bumpBy f n).mbx = s.mbx := rfl
@[simp] theorem State.bumpBy_log (f : Field) (n : Nat) : (s.bumpBy f n).log = s.log := rfl
@[simp] theorem State.bumpBy_notices (f : Field) (n : Nat) : (s.bumpBy f n).notices = s.notices := rfl
@[simp] theorem State.bumpBy_patch (f : Field) (n : Nat) : (s.bumpBy f n).patch = s.patch := rfl

/-! ### dec -/
@[simp] theorem State.dec_pending (f : Field) : (s.dec f).pending = s.pending := rfl
@[simp] theorem State.dec_now (f : Field) : (s.dec f).now = s.now := rfl
@[simp] theorem State.dec_freeCount (f : Field) : (s.dec f).freeCount = s.freeCount := rfl
@[simp] theorem State.dec_shadow (f : Field) : (s.dec f).shadow = s.shadow := rfl
@[simp] theorem State.dec_wrote (f : Field) : (s.dec f).wrote = s.wrote := rfl
@[simp] theorem State.dec_asym (f : Field) : (s.dec f).asym = s.asym := rfl
@[simp] theorem State.dec_gauge (f : Field) : (s.dec f).gauge = s.gauge := rfl
@[simp] theorem State.dec_tio (f : Field) : (s.dec f).tio = s.tio := rfl
@[simp] theorem State.dec_book (f : Field) : (s.dec f).book = s.book := rfl
@[simp] theorem State.dec_fab (f : Field) : (s.dec f).fab = s.fab := rfl
@[simp] theorem State.dec_sys (f : Field) : (s.dec f).sys = s.sys := rfl
@[simp] theorem State.dec_comp (f : Field) : (s.dec f).comp = s.comp := rfl
@[simp] theorem State.dec_ulk (f : Field) : (s.dec f).ulk = s.ulk := rfl
@[simp] theorem State.dec_mbx (f : Field) : (s.dec f).mbx = s.mbx := rfl
@[simp] theorem State.dec_log (f : Field) : (s.dec f).log = s.log := rfl
@[simp] theorem State.dec_notices (f : Field) : (s.dec f).notices = s.notices := rfl
@[simp] theorem State.dec_patch (f : Field) : (s.dec f).patch = s.patch := rfl

/-! ### setFlag -/
@[simp] theorem State.setFlag_pending (f : Field) : (s.setFlag f).pending = s.pending := rfl
@[simp] theorem State.setFlag_now (f : Field) : (s.setFlag f).now = s.now := rfl
@[simp] theorem State.setFlag_freeCount (f : Field) : (s.setFlag f).freeCount = s.freeCount := rfl
@[simp] theorem State.setFlag_shadow (f : Field) : (s.setFlag f).shadow = s.shadow := rfl
@[simp] theorem State.setFlag_wrote (f : Field) : (s.setFlag f).wrote = s.wrote := rfl
@[simp] theorem State.setFlag_asym (f : Field) : (s.setFlag f).asym = s.asym := rfl
@[simp] theorem State.setFlag_gauge (f : Field) : (s.setFlag f).gauge = s.gauge := rfl
@[simp] theorem State.setFlag_tio (f : Field) : (s.setFlag f).tio = s.tio := rfl
@[simp] theorem State.setFlag_book (f : Field) : (s.setFlag f).book = s.book := rfl
@[simp] theorem State.setFlag_fab (f : Field) : (s.setFlag f).fab = s.fab := rfl
@[simp] theorem State.setFlag_sys (f : Field) : (s.setFlag f).sys = s.sys := rfl
@[simp] theorem State.setFlag_comp (f : Field) : (s.setFlag f).comp = s.comp := rfl
@[simp] theorem State.setFlag_ulk (f : Field) : (s.setFlag f).ulk = s.ulk := rfl
@[simp] theorem State.setFlag_mbx (f : Field) : (s.setFlag f).mbx = s.mbx := rfl
@[simp] theorem State.setFlag_log (f : Field) : (s.setFlag f).log = s.log := rfl
@[simp] theorem State.setFlag_notices (f : Field) : (s.setFlag f).notices = s.notices := rfl
@[simp] theorem State.setFlag_patch (f : Field) : (s.setFlag f).patch = s.patch := rfl

/-! ### advance -/
@[simp] theorem State.advance_pending (t : Nat) : (s.advance t).pending = s.pending := rfl
@[simp] theorem State.advance_freeCount (t : Nat) : (s.advance t).freeCount = s.freeCount := rfl
@[simp] theorem State.advance_regs (t : Nat) : (s.advance t).regs = s.regs := rfl
@[simp] theorem State.advance_shadow (t : Nat) : (s.advance t).shadow = s.shadow := rfl
@[simp] theorem State.advance_wrote (t : Nat) : (s.advance t).wrote = s.wrote := rfl
@[simp] theorem State.advance_asym (t : Nat) : (s.advance t).asym = s.asym := rfl
@[simp] theorem State.advance_gauge (t : Nat) : (s.advance t).gauge = s.gauge := rfl
@[simp] theorem State.advance_tio (t : Nat) : (s.advance t).tio = s.tio := rfl
@[simp] theorem State.advance_book (t : Nat) : (s.advance t).book = s.book := rfl
@[simp] theorem State.advance_fab (t : Nat) : (s.advance t).fab = s.fab := rfl
@[simp] theorem State.advance_sys (t : Nat) : (s.advance t).sys = s.sys := rfl
@[simp] theorem State.advance_comp (t : Nat) : (s.advance t).comp = s.comp := rfl
@[simp] theorem State.advance_ulk (t : Nat) : (s.advance t).ulk = s.ulk := rfl
@[simp] theorem State.advance_mbx (t : Nat) : (s.advance t).mbx = s.mbx := rfl
@[simp] theorem State.advance_log (t : Nat) : (s.advance t).log = s.log := rfl
@[simp] theorem State.advance_notices (t : Nat) : (s.advance t).notices = s.notices := rfl
@[simp] theorem State.advance_patch (t : Nat) : (s.advance t).patch = s.patch := rfl
@[simp] theorem State.advance_rd (t : Nat) (g : Field) : (s.advance t).rd g = s.rd g := rfl

/-! ### setCl -/
@[simp] theorem State.setCl_pending (p : Nat) (c : Cluster) : (s.setCl p c).pending = s.pending := rfl
@[simp] theorem State.setCl_now (p : Nat) (c : Cluster) : (s.setCl p c).now = s.now := rfl
@[simp] theorem State.setCl_freeCount (p : Nat) (c : Cluster) : (s.setCl p c).freeCount = s.freeCount := rfl
@[simp] theorem State.setCl_regs (p : Nat) (c : Cluster) : (s.setCl p c).regs = s.regs := rfl
@[simp] theorem State.setCl_shadow (p : Nat) (c : Cluster) : (s.setCl p c).shadow = s.shadow := rfl
@[simp] theorem State.setCl_wrote (p : Nat) (c : Cluster) : (s.setCl p c).wrote = s.wrote := rfl
@[simp] theorem State.setCl_asym (p : Nat) (c : Cluster) : (s.setCl p c).asym = s.asym := rfl
@[simp] theorem State.setCl_gauge (p : Nat) (c : Cluster) : (s.setCl p c).gauge = s.gauge := rfl
@[simp] theorem State.setCl_tio (p : Nat) (c : Cluster) : (s.setCl p c).tio = s.tio := rfl
@[simp] theorem State.setCl_book (p : Nat) (c : Cluster) : (s.setCl p c).book = s.book := rfl
@[simp] theorem State.setCl_fab (p : Nat) (c : Cluster) : (s.setCl p c).fab = s.fab := rfl
@[simp] theorem State.setCl_sys (p : Nat) (c : Cluster) : (s.setCl p c).sys = s.sys := rfl
@[simp] theorem State.setCl_ulk (p : Nat) (c : Cluster) : (s.setCl p c).ulk = s.ulk := rfl
@[simp] theorem State.setCl_mbx (p : Nat) (c : Cluster) : (s.setCl p c).mbx = s.mbx := rfl
@[simp] theorem State.setCl_log (p : Nat) (c : Cluster) : (s.setCl p c).log = s.log := rfl
@[simp] theorem State.setCl_notices (p : Nat) (c : Cluster) : (s.setCl p c).notices = s.notices := rfl
@[simp] theorem State.setCl_patch (p : Nat) (c : Cluster) : (s.setCl p c).patch = s.patch := rfl
@[simp] theorem State.setCl_rd (p : Nat) (c : Cluster) (g : Field) : (s.setCl p c).rd g = s.rd g := rfl

/-! ### setLp -/
@[simp] theorem State.setLp_pending (m : Mem) : (s.setLp m).pending = s.pending := rfl
@[simp] theorem State.setLp_now (m : Mem) : (s.setLp m).now = s.now := rfl
@[simp] theorem State.setLp_freeCount (m : Mem) : (s.setLp m).freeCount = s.freeCount := rfl
@[simp] theorem State.setLp_regs (m : Mem) : (s.setLp m).regs = s.regs := rfl
@[simp] theorem State.setLp_shadow (m : Mem) : (s.setLp m).shadow = s.shadow := rfl
@[simp] theorem State.setLp_wrote (m : Mem) : (s.setLp m).wrote = s.wrote := rfl
@[simp] theorem State.setLp_asym (m : Mem) : (s.setLp m).asym = s.asym := rfl
@[simp] theorem State.setLp_gauge (m : Mem) : (s.setLp m).gauge = s.gauge := rfl
@[simp] theorem State.setLp_tio (m : Mem) : (s.setLp m).tio = s.tio := rfl
@[simp] theorem State.setLp_book (m : Mem) : (s.setLp m).book = s.book := rfl
@[simp] theorem State.setLp_fab (m : Mem) : (s.setLp m).fab = s.fab := rfl
@[simp] theorem State.setLp_sys (m : Mem) : (s.setLp m).sys = s.sys := rfl
@[simp] theorem State.setLp_ulk (m : Mem) : (s.setLp m).ulk = s.ulk := rfl
@[simp] theorem State.setLp_mbx (m : Mem) : (s.setLp m).mbx = s.mbx := rfl
@[simp] theorem State.setLp_log (m : Mem) : (s.setLp m).log = s.log := rfl
@[simp] theorem State.setLp_notices (m : Mem) : (s.setLp m).notices = s.notices := rfl
@[simp] theorem State.setLp_patch (m : Mem) : (s.setLp m).patch = s.patch := rfl
@[simp] theorem State.setLp_rd (m : Mem) (g : Field) : (s.setLp m).rd g = s.rd g := rfl

/-! ### setJob -/
@[simp] theorem State.setJob_pending (j : Nat) (x : Job) : (s.setJob j x).pending = s.pending := rfl
@[simp] theorem State.setJob_now (j : Nat) (x : Job) : (s.setJob j x).now = s.now := rfl
@[simp] theorem State.setJob_freeCount (j : Nat) (x : Job) : (s.setJob j x).freeCount = s.freeCount := rfl
@[simp] theorem State.setJob_regs (j : Nat) (x : Job) : (s.setJob j x).regs = s.regs := rfl
@[simp] theorem State.setJob_shadow (j : Nat) (x : Job) : (s.setJob j x).shadow = s.shadow := rfl
@[simp] theorem State.setJob_wrote (j : Nat) (x : Job) : (s.setJob j x).wrote = s.wrote := rfl
@[simp] theorem State.setJob_asym (j : Nat) (x : Job) : (s.setJob j x).asym = s.asym := rfl
@[simp] theorem State.setJob_gauge (j : Nat) (x : Job) : (s.setJob j x).gauge = s.gauge := rfl
@[simp] theorem State.setJob_tio (j : Nat) (x : Job) : (s.setJob j x).tio = s.tio := rfl
@[simp] theorem State.setJob_book (j : Nat) (x : Job) : (s.setJob j x).book = s.book := rfl
@[simp] theorem State.setJob_fab (j : Nat) (x : Job) : (s.setJob j x).fab = s.fab := rfl
@[simp] theorem State.setJob_sys (j : Nat) (x : Job) : (s.setJob j x).sys = s.sys := rfl
@[simp] theorem State.setJob_ulk (j : Nat) (x : Job) : (s.setJob j x).ulk = s.ulk := rfl
@[simp] theorem State.setJob_mbx (j : Nat) (x : Job) : (s.setJob j x).mbx = s.mbx := rfl
@[simp] theorem State.setJob_log (j : Nat) (x : Job) : (s.setJob j x).log = s.log := rfl
@[simp] theorem State.setJob_notices (j : Nat) (x : Job) : (s.setJob j x).notices = s.notices := rfl
@[simp] theorem State.setJob_patch (j : Nat) (x : Job) : (s.setJob j x).patch = s.patch := rfl
@[simp] theorem State.setJob_rd (j : Nat) (x : Job) (g : Field) : (s.setJob j x).rd g = s.rd g := rfl

/-! ### setEngine -/
@[simp] theorem State.setEngine_pending (e : Nat) (x : Engine) : (s.setEngine e x).pending = s.pending := rfl
@[simp] theorem State.setEngine_now (e : Nat) (x : Engine) : (s.setEngine e x).now = s.now := rfl
@[simp] theorem State.setEngine_freeCount (e : Nat) (x : Engine) : (s.setEngine e x).freeCount = s.freeCount := rfl
@[simp] theorem State.setEngine_regs (e : Nat) (x : Engine) : (s.setEngine e x).regs = s.regs := rfl
@[simp] theorem State.setEngine_shadow (e : Nat) (x : Engine) : (s.setEngine e x).shadow = s.shadow := rfl
@[simp] theorem State.setEngine_wrote (e : Nat) (x : Engine) : (s.setEngine e x).wrote = s.wrote := rfl
@[simp] theorem State.setEngine_asym (e : Nat) (x : Engine) : (s.setEngine e x).asym = s.asym := rfl
@[simp] theorem State.setEngine_gauge (e : Nat) (x : Engine) : (s.setEngine e x).gauge = s.gauge := rfl
@[simp] theorem State.setEngine_tio (e : Nat) (x : Engine) : (s.setEngine e x).tio = s.tio := rfl
@[simp] theorem State.setEngine_book (e : Nat) (x : Engine) : (s.setEngine e x).book = s.book := rfl
@[simp] theorem State.setEngine_fab (e : Nat) (x : Engine) : (s.setEngine e x).fab = s.fab := rfl
@[simp] theorem State.setEngine_sys (e : Nat) (x : Engine) : (s.setEngine e x).sys = s.sys := rfl
@[simp] theorem State.setEngine_ulk (e : Nat) (x : Engine) : (s.setEngine e x).ulk = s.ulk := rfl
@[simp] theorem State.setEngine_mbx (e : Nat) (x : Engine) : (s.setEngine e x).mbx = s.mbx := rfl
@[simp] theorem State.setEngine_log (e : Nat) (x : Engine) : (s.setEngine e x).log = s.log := rfl
@[simp] theorem State.setEngine_notices (e : Nat) (x : Engine) : (s.setEngine e x).notices = s.notices := rfl
@[simp] theorem State.setEngine_patch (e : Nat) (x : Engine) : (s.setEngine e x).patch = s.patch := rfl
@[simp] theorem State.setEngine_rd (e : Nat) (x : Engine) (g : Field) : (s.setEngine e x).rd g = s.rd g := rfl

/-! ### setBuf -/
@[simp] theorem State.setBuf_pending (q b : Nat) (x : Buf) : (s.setBuf q b x).pending = s.pending := rfl
@[simp] theorem State.setBuf_now (q b : Nat) (x : Buf) : (s.setBuf q b x).now = s.now := rfl
@[simp] theorem State.setBuf_freeCount (q b : Nat) (x : Buf) : (s.setBuf q b x).freeCount = s.freeCount := rfl
@[simp] theorem State.setBuf_regs (q b : Nat) (x : Buf) : (s.setBuf q b x).regs = s.regs := rfl
@[simp] theorem State.setBuf_shadow (q b : Nat) (x : Buf) : (s.setBuf q b x).shadow = s.shadow := rfl
@[simp] theorem State.setBuf_wrote (q b : Nat) (x : Buf) : (s.setBuf q b x).wrote = s.wrote := rfl
@[simp] theorem State.setBuf_asym (q b : Nat) (x : Buf) : (s.setBuf q b x).asym = s.asym := rfl
@[simp] theorem State.setBuf_gauge (q b : Nat) (x : Buf) : (s.setBuf q b x).gauge = s.gauge := rfl
@[simp] theorem State.setBuf_tio (q b : Nat) (x : Buf) : (s.setBuf q b x).tio = s.tio := rfl
@[simp] theorem State.setBuf_fab (q b : Nat) (x : Buf) : (s.setBuf q b x).fab = s.fab := rfl
@[simp] theorem State.setBuf_sys (q b : Nat) (x : Buf) : (s.setBuf q b x).sys = s.sys := rfl
@[simp] theorem State.setBuf_comp (q b : Nat) (x : Buf) : (s.setBuf q b x).comp = s.comp := rfl
@[simp] theorem State.setBuf_ulk (q b : Nat) (x : Buf) : (s.setBuf q b x).ulk = s.ulk := rfl
@[simp] theorem State.setBuf_mbx (q b : Nat) (x : Buf) : (s.setBuf q b x).mbx = s.mbx := rfl
@[simp] theorem State.setBuf_log (q b : Nat) (x : Buf) : (s.setBuf q b x).log = s.log := rfl
@[simp] theorem State.setBuf_notices (q b : Nat) (x : Buf) : (s.setBuf q b x).notices = s.notices := rfl
@[simp] theorem State.setBuf_patch (q b : Nat) (x : Buf) : (s.setBuf q b x).patch = s.patch := rfl
@[simp] theorem State.setBuf_rd (q b : Nat) (x : Buf) (g : Field) : (s.setBuf q b x).rd g = s.rd g := rfl

/-! ### setIncoming -/
@[simp] theorem State.setIncoming_pending (n l : Nat) (x : Incoming) : (s.setIncoming n l x).pending = s.pending := rfl
@[simp] theorem State.setIncoming_now (n l : Nat) (x : Incoming) : (s.setIncoming n l x).now = s.now := rfl
@[simp] theorem State.setIncoming_freeCount (n l : Nat) (x : Incoming) : (s.setIncoming n l x).freeCount = s.freeCount := rfl
@[simp] theorem State.setIncoming_regs (n l : Nat) (x : Incoming) : (s.setIncoming n l x).regs = s.regs := rfl
@[simp] theorem State.setIncoming_shadow (n l : Nat) (x : Incoming) : (s.setIncoming n l x).shadow = s.shadow := rfl
@[simp] theorem State.setIncoming_wrote (n l : Nat) (x : Incoming) : (s.setIncoming n l x).wrote = s.wrote := rfl
@[simp] theorem State.setIncoming_asym (n l : Nat) (x : Incoming) : (s.setIncoming n l x).asym = s.asym := rfl
@[simp] theorem State.setIncoming_gauge (n l : Nat) (x : Incoming) : (s.setIncoming n l x).gauge = s.gauge := rfl
@[simp] theorem State.setIncoming_tio (n l : Nat) (x : Incoming) : (s.setIncoming n l x).tio = s.tio := rfl
@[simp] theorem State.setIncoming_fab (n l : Nat) (x : Incoming) : (s.setIncoming n l x).fab = s.fab := rfl
@[simp] theorem State.setIncoming_sys (n l : Nat) (x : Incoming) : (s.setIncoming n l x).sys = s.sys := rfl
@[simp] theorem State.setIncoming_comp (n l : Nat) (x : Incoming) : (s.setIncoming n l x).comp = s.comp := rfl
@[simp] theorem State.setIncoming_ulk (n l : Nat) (x : Incoming) : (s.setIncoming n l x).ulk = s.ulk := rfl
@[simp] theorem State.setIncoming_mbx (n l : Nat) (x : Incoming) : (s.setIncoming n l x).mbx = s.mbx := rfl
@[simp] theorem State.setIncoming_log (n l : Nat) (x : Incoming) : (s.setIncoming n l x).log = s.log := rfl
@[simp] theorem State.setIncoming_notices (n l : Nat) (x : Incoming) : (s.setIncoming n l x).notices = s.notices := rfl
@[simp] theorem State.setIncoming_patch (n l : Nat) (x : Incoming) : (s.setIncoming n l x).patch = s.patch := rfl
@[simp] theorem State.setIncoming_rd (n l : Nat) (x : Incoming) (g : Field) : (s.setIncoming n l x).rd g = s.rd g := rfl

/-! ### setPlan -/
@[simp] theorem State.setPlan_pending (n : Nat) (x : Plan) : (s.setPlan n x).pending = s.pending := rfl
@[simp] theorem State.setPlan_now (n : Nat) (x : Plan) : (s.setPlan n x).now = s.now := rfl
@[simp] theorem State.setPlan_freeCount (n : Nat) (x : Plan) : (s.setPlan n x).freeCount = s.freeCount := rfl
@[simp] theorem State.setPlan_regs (n : Nat) (x : Plan) : (s.setPlan n x).regs = s.regs := rfl
@[simp] theorem State.setPlan_shadow (n : Nat) (x : Plan) : (s.setPlan n x).shadow = s.shadow := rfl
@[simp] theorem State.setPlan_wrote (n : Nat) (x : Plan) : (s.setPlan n x).wrote = s.wrote := rfl
@[simp] theorem State.setPlan_asym (n : Nat) (x : Plan) : (s.setPlan n x).asym = s.asym := rfl
@[simp] theorem State.setPlan_gauge (n : Nat) (x : Plan) : (s.setPlan n x).gauge = s.gauge := rfl
@[simp] theorem State.setPlan_tio (n : Nat) (x : Plan) : (s.setPlan n x).tio = s.tio := rfl
@[simp] theorem State.setPlan_fab (n : Nat) (x : Plan) : (s.setPlan n x).fab = s.fab := rfl
@[simp] theorem State.setPlan_sys (n : Nat) (x : Plan) : (s.setPlan n x).sys = s.sys := rfl
@[simp] theorem State.setPlan_comp (n : Nat) (x : Plan) : (s.setPlan n x).comp = s.comp := rfl
@[simp] theorem State.setPlan_ulk (n : Nat) (x : Plan) : (s.setPlan n x).ulk = s.ulk := rfl
@[simp] theorem State.setPlan_mbx (n : Nat) (x : Plan) : (s.setPlan n x).mbx = s.mbx := rfl
@[simp] theorem State.setPlan_log (n : Nat) (x : Plan) : (s.setPlan n x).log = s.log := rfl
@[simp] theorem State.setPlan_notices (n : Nat) (x : Plan) : (s.setPlan n x).notices = s.notices := rfl
@[simp] theorem State.setPlan_patch (n : Nat) (x : Plan) : (s.setPlan n x).patch = s.patch := rfl
@[simp] theorem State.setPlan_rd (n : Nat) (x : Plan) (g : Field) : (s.setPlan n x).rd g = s.rd g := rfl

/-! ### setPair -/
@[simp] theorem State.setPair_pending (p j : Nat) (x : Pair) : (s.setPair p j x).pending = s.pending := rfl
@[simp] theorem State.setPair_now (p j : Nat) (x : Pair) : (s.setPair p j x).now = s.now := rfl
@[simp] theorem State.setPair_freeCount (p j : Nat) (x : Pair) : (s.setPair p j x).freeCount = s.freeCount := rfl
@[simp] theorem State.setPair_regs (p j : Nat) (x : Pair) : (s.setPair p j x).regs = s.regs := rfl
@[simp] theorem State.setPair_shadow (p j : Nat) (x : Pair) : (s.setPair p j x).shadow = s.shadow := rfl
@[simp] theorem State.setPair_wrote (p j : Nat) (x : Pair) : (s.setPair p j x).wrote = s.wrote := rfl
@[simp] theorem State.setPair_asym (p j : Nat) (x : Pair) : (s.setPair p j x).asym = s.asym := rfl
@[simp] theorem State.setPair_gauge (p j : Nat) (x : Pair) : (s.setPair p j x).gauge = s.gauge := rfl
@[simp] theorem State.setPair_tio (p j : Nat) (x : Pair) : (s.setPair p j x).tio = s.tio := rfl
@[simp] theorem State.setPair_book (p j : Nat) (x : Pair) : (s.setPair p j x).book = s.book := rfl
@[simp] theorem State.setPair_sys (p j : Nat) (x : Pair) : (s.setPair p j x).sys = s.sys := rfl
@[simp] theorem State.setPair_comp (p j : Nat) (x : Pair) : (s.setPair p j x).comp = s.comp := rfl
@[simp] theorem State.setPair_ulk (p j : Nat) (x : Pair) : (s.setPair p j x).ulk = s.ulk := rfl
@[simp] theorem State.setPair_mbx (p j : Nat) (x : Pair) : (s.setPair p j x).mbx = s.mbx := rfl
@[simp] theorem State.setPair_log (p j : Nat) (x : Pair) : (s.setPair p j x).log = s.log := rfl
@[simp] theorem State.setPair_notices (p j : Nat) (x : Pair) : (s.setPair p j x).notices = s.notices := rfl
@[simp] theorem State.setPair_patch (p j : Nat) (x : Pair) : (s.setPair p j x).patch = s.patch := rfl
@[simp] theorem State.setPair_rd (p j : Nat) (x : Pair) (g : Field) : (s.setPair p j x).rd g = s.rd g := rfl

/-! ### setCu -/
@[simp] theorem State.setCu_pending (k : Nat) (x : CuLink) : (s.setCu k x).pending = s.pending := rfl
@[simp] theorem State.setCu_now (k : Nat) (x : CuLink) : (s.setCu k x).now = s.now := rfl
@[simp] theorem State.setCu_freeCount (k : Nat) (x : CuLink) : (s.setCu k x).freeCount = s.freeCount := rfl
@[simp] theorem State.setCu_regs (k : Nat) (x : CuLink) : (s.setCu k x).regs = s.regs := rfl
@[simp] theorem State.setCu_shadow (k : Nat) (x : CuLink) : (s.setCu k x).shadow = s.shadow := rfl
@[simp] theorem State.setCu_wrote (k : Nat) (x : CuLink) : (s.setCu k x).wrote = s.wrote := rfl
@[simp] theorem State.setCu_asym (k : Nat) (x : CuLink) : (s.setCu k x).asym = s.asym := rfl
@[simp] theorem State.setCu_gauge (k : Nat) (x : CuLink) : (s.setCu k x).gauge = s.gauge := rfl
@[simp] theorem State.setCu_tio (k : Nat) (x : CuLink) : (s.setCu k x).tio = s.tio := rfl
@[simp] theorem State.setCu_book (k : Nat) (x : CuLink) : (s.setCu k x).book = s.book := rfl
@[simp] theorem State.setCu_sys (k : Nat) (x : CuLink) : (s.setCu k x).sys = s.sys := rfl
@[simp] theorem State.setCu_comp (k : Nat) (x : CuLink) : (s.setCu k x).comp = s.comp := rfl
@[simp] theorem State.setCu_ulk (k : Nat) (x : CuLink) : (s.setCu k x).ulk = s.ulk := rfl
@[simp] theorem State.setCu_mbx (k : Nat) (x : CuLink) : (s.setCu k x).mbx = s.mbx := rfl
@[simp] theorem State.setCu_log (k : Nat) (x : CuLink) : (s.setCu k x).log = s.log := rfl
@[simp] theorem State.setCu_notices (k : Nat) (x : CuLink) : (s.setCu k x).notices = s.notices := rfl
@[simp] theorem State.setCu_patch (k : Nat) (x : CuLink) : (s.setCu k x).patch = s.patch := rfl
@[simp] theorem State.setCu_rd (k : Nat) (x : CuLink) (g : Field) : (s.setCu k x).rd g = s.rd g := rfl

/-! ### setCal -/
@[simp] theorem State.setCal_pending (c : Calib) : (s.setCal c).pending = s.pending := rfl
@[simp] theorem State.setCal_now (c : Calib) : (s.setCal c).now = s.now := rfl
@[simp] theorem State.setCal_freeCount (c : Calib) : (s.setCal c).freeCount = s.freeCount := rfl
@[simp] theorem State.setCal_regs (c : Calib) : (s.setCal c).regs = s.regs := rfl
@[simp] theorem State.setCal_shadow (c : Calib) : (s.setCal c).shadow = s.shadow := rfl
@[simp] theorem State.setCal_wrote (c : Calib) : (s.setCal c).wrote = s.wrote := rfl
@[simp] theorem State.setCal_asym (c : Calib) : (s.setCal c).asym = s.asym := rfl
@[simp] theorem State.setCal_gauge (c : Calib) : (s.setCal c).gauge = s.gauge := rfl
@[simp] theorem State.setCal_tio (c : Calib) : (s.setCal c).tio = s.tio := rfl
@[simp] theorem State.setCal_book (c : Calib) : (s.setCal c).book = s.book := rfl
@[simp] theorem State.setCal_sys (c : Calib) : (s.setCal c).sys = s.sys := rfl
@[simp] theorem State.setCal_comp (c : Calib) : (s.setCal c).comp = s.comp := rfl
@[simp] theorem State.setCal_ulk (c : Calib) : (s.setCal c).ulk = s.ulk := rfl
@[simp] theorem State.setCal_mbx (c : Calib) : (s.setCal c).mbx = s.mbx := rfl
@[simp] theorem State.setCal_log (c : Calib) : (s.setCal c).log = s.log := rfl
@[simp] theorem State.setCal_notices (c : Calib) : (s.setCal c).notices = s.notices := rfl
@[simp] theorem State.setCal_patch (c : Calib) : (s.setCal c).patch = s.patch := rfl
@[simp] theorem State.setCal_rd (c : Calib) (g : Field) : (s.setCal c).rd g = s.rd g := rfl

/-! ### setLaser -/
@[simp] theorem State.setLaser_pending (i : Nat) (x : Laser) : (s.setLaser i x).pending = s.pending := rfl
@[simp] theorem State.setLaser_now (i : Nat) (x : Laser) : (s.setLaser i x).now = s.now := rfl
@[simp] theorem State.setLaser_freeCount (i : Nat) (x : Laser) : (s.setLaser i x).freeCount = s.freeCount := rfl
@[simp] theorem State.setLaser_regs (i : Nat) (x : Laser) : (s.setLaser i x).regs = s.regs := rfl
@[simp] theorem State.setLaser_shadow (i : Nat) (x : Laser) : (s.setLaser i x).shadow = s.shadow := rfl
@[simp] theorem State.setLaser_wrote (i : Nat) (x : Laser) : (s.setLaser i x).wrote = s.wrote := rfl
@[simp] theorem State.setLaser_asym (i : Nat) (x : Laser) : (s.setLaser i x).asym = s.asym := rfl
@[simp] theorem State.setLaser_gauge (i : Nat) (x : Laser) : (s.setLaser i x).gauge = s.gauge := rfl
@[simp] theorem State.setLaser_tio (i : Nat) (x : Laser) : (s.setLaser i x).tio = s.tio := rfl
@[simp] theorem State.setLaser_book (i : Nat) (x : Laser) : (s.setLaser i x).book = s.book := rfl
@[simp] theorem State.setLaser_sys (i : Nat) (x : Laser) : (s.setLaser i x).sys = s.sys := rfl
@[simp] theorem State.setLaser_comp (i : Nat) (x : Laser) : (s.setLaser i x).comp = s.comp := rfl
@[simp] theorem State.setLaser_ulk (i : Nat) (x : Laser) : (s.setLaser i x).ulk = s.ulk := rfl
@[simp] theorem State.setLaser_mbx (i : Nat) (x : Laser) : (s.setLaser i x).mbx = s.mbx := rfl
@[simp] theorem State.setLaser_log (i : Nat) (x : Laser) : (s.setLaser i x).log = s.log := rfl
@[simp] theorem State.setLaser_notices (i : Nat) (x : Laser) : (s.setLaser i x).notices = s.notices := rfl
@[simp] theorem State.setLaser_patch (i : Nat) (x : Laser) : (s.setLaser i x).patch = s.patch := rfl
@[simp] theorem State.setLaser_rd (i : Nat) (x : Laser) (g : Field) : (s.setLaser i x).rd g = s.rd g := rfl

/-! ### setLoop -/
@[simp] theorem State.setLoop_pending (l : Nat) (x : Loop) : (s.setLoop l x).pending = s.pending := rfl
@[simp] theorem State.setLoop_now (l : Nat) (x : Loop) : (s.setLoop l x).now = s.now := rfl
@[simp] theorem State.setLoop_freeCount (l : Nat) (x : Loop) : (s.setLoop l x).freeCount = s.freeCount := rfl
@[simp] theorem State.setLoop_regs (l : Nat) (x : Loop) : (s.setLoop l x).regs = s.regs := rfl
@[simp] theorem State.setLoop_shadow (l : Nat) (x : Loop) : (s.setLoop l x).shadow = s.shadow := rfl
@[simp] theorem State.setLoop_wrote (l : Nat) (x : Loop) : (s.setLoop l x).wrote = s.wrote := rfl
@[simp] theorem State.setLoop_asym (l : Nat) (x : Loop) : (s.setLoop l x).asym = s.asym := rfl
@[simp] theorem State.setLoop_gauge (l : Nat) (x : Loop) : (s.setLoop l x).gauge = s.gauge := rfl
@[simp] theorem State.setLoop_tio (l : Nat) (x : Loop) : (s.setLoop l x).tio = s.tio := rfl
@[simp] theorem State.setLoop_book (l : Nat) (x : Loop) : (s.setLoop l x).book = s.book := rfl
@[simp] theorem State.setLoop_sys (l : Nat) (x : Loop) : (s.setLoop l x).sys = s.sys := rfl
@[simp] theorem State.setLoop_comp (l : Nat) (x : Loop) : (s.setLoop l x).comp = s.comp := rfl
@[simp] theorem State.setLoop_ulk (l : Nat) (x : Loop) : (s.setLoop l x).ulk = s.ulk := rfl
@[simp] theorem State.setLoop_mbx (l : Nat) (x : Loop) : (s.setLoop l x).mbx = s.mbx := rfl
@[simp] theorem State.setLoop_log (l : Nat) (x : Loop) : (s.setLoop l x).log = s.log := rfl
@[simp] theorem State.setLoop_notices (l : Nat) (x : Loop) : (s.setLoop l x).notices = s.notices := rfl
@[simp] theorem State.setLoop_patch (l : Nat) (x : Loop) : (s.setLoop l x).patch = s.patch := rfl
@[simp] theorem State.setLoop_rd (l : Nat) (x : Loop) (g : Field) : (s.setLoop l x).rd g = s.rd g := rfl

/-! ### setJig -/
@[simp] theorem State.setJig_pending (j : Jig) : (s.setJig j).pending = s.pending := rfl
@[simp] theorem State.setJig_now (j : Jig) : (s.setJig j).now = s.now := rfl
@[simp] theorem State.setJig_freeCount (j : Jig) : (s.setJig j).freeCount = s.freeCount := rfl
@[simp] theorem State.setJig_regs (j : Jig) : (s.setJig j).regs = s.regs := rfl
@[simp] theorem State.setJig_shadow (j : Jig) : (s.setJig j).shadow = s.shadow := rfl
@[simp] theorem State.setJig_wrote (j : Jig) : (s.setJig j).wrote = s.wrote := rfl
@[simp] theorem State.setJig_asym (j : Jig) : (s.setJig j).asym = s.asym := rfl
@[simp] theorem State.setJig_gauge (j : Jig) : (s.setJig j).gauge = s.gauge := rfl
@[simp] theorem State.setJig_tio (j : Jig) : (s.setJig j).tio = s.tio := rfl
@[simp] theorem State.setJig_book (j : Jig) : (s.setJig j).book = s.book := rfl
@[simp] theorem State.setJig_sys (j : Jig) : (s.setJig j).sys = s.sys := rfl
@[simp] theorem State.setJig_comp (j : Jig) : (s.setJig j).comp = s.comp := rfl
@[simp] theorem State.setJig_ulk (j : Jig) : (s.setJig j).ulk = s.ulk := rfl
@[simp] theorem State.setJig_mbx (j : Jig) : (s.setJig j).mbx = s.mbx := rfl
@[simp] theorem State.setJig_log (j : Jig) : (s.setJig j).log = s.log := rfl
@[simp] theorem State.setJig_notices (j : Jig) : (s.setJig j).notices = s.notices := rfl
@[simp] theorem State.setJig_patch (j : Jig) : (s.setJig j).patch = s.patch := rfl
@[simp] theorem State.setJig_rd (j : Jig) (g : Field) : (s.setJig j).rd g = s.rd g := rfl

/-! ### setDom -/
@[simp] theorem State.setDom_pending (d : Dom) (x : Domain) : (s.setDom d x).pending = s.pending := by cases d <;> rfl
@[simp] theorem State.setDom_now (d : Dom) (x : Domain) : (s.setDom d x).now = s.now := by cases d <;> rfl
@[simp] theorem State.setDom_freeCount (d : Dom) (x : Domain) : (s.setDom d x).freeCount = s.freeCount := by cases d <;> rfl
@[simp] theorem State.setDom_regs (d : Dom) (x : Domain) : (s.setDom d x).regs = s.regs := by cases d <;> rfl
@[simp] theorem State.setDom_shadow (d : Dom) (x : Domain) : (s.setDom d x).shadow = s.shadow := by cases d <;> rfl
@[simp] theorem State.setDom_wrote (d : Dom) (x : Domain) : (s.setDom d x).wrote = s.wrote := by cases d <;> rfl
@[simp] theorem State.setDom_asym (d : Dom) (x : Domain) : (s.setDom d x).asym = s.asym := by cases d <;> rfl
@[simp] theorem State.setDom_tio (d : Dom) (x : Domain) : (s.setDom d x).tio = s.tio := by cases d <;> rfl
@[simp] theorem State.setDom_book (d : Dom) (x : Domain) : (s.setDom d x).book = s.book := by cases d <;> rfl
@[simp] theorem State.setDom_fab (d : Dom) (x : Domain) : (s.setDom d x).fab = s.fab := by cases d <;> rfl
@[simp] theorem State.setDom_sys (d : Dom) (x : Domain) : (s.setDom d x).sys = s.sys := by cases d <;> rfl
@[simp] theorem State.setDom_comp (d : Dom) (x : Domain) : (s.setDom d x).comp = s.comp := by cases d <;> rfl
@[simp] theorem State.setDom_ulk (d : Dom) (x : Domain) : (s.setDom d x).ulk = s.ulk := by cases d <;> rfl
@[simp] theorem State.setDom_mbx (d : Dom) (x : Domain) : (s.setDom d x).mbx = s.mbx := by cases d <;> rfl
@[simp] theorem State.setDom_log (d : Dom) (x : Domain) : (s.setDom d x).log = s.log := by cases d <;> rfl
@[simp] theorem State.setDom_notices (d : Dom) (x : Domain) : (s.setDom d x).notices = s.notices := by cases d <;> rfl
@[simp] theorem State.setDom_patch (d : Dom) (x : Domain) : (s.setDom d x).patch = s.patch := by cases d <;> rfl
@[simp] theorem State.setDom_rd (d : Dom) (x : Domain) (g : Field) : (s.setDom d x).rd g = s.rd g := by cases d <;> rfl

/-! ### setSeam -/
@[simp] theorem State.setSeam_pending (i : Nat) (p : Seam) : (s.setSeam i p).pending = s.pending := rfl
@[simp] theorem State.setSeam_now (i : Nat) (p : Seam) : (s.setSeam i p).now = s.now := rfl
@[simp] theorem State.setSeam_freeCount (i : Nat) (p : Seam) : (s.setSeam i p).freeCount = s.freeCount := rfl
@[simp] theorem State.setSeam_regs (i : Nat) (p : Seam) : (s.setSeam i p).regs = s.regs := rfl
@[simp] theorem State.setSeam_shadow (i : Nat) (p : Seam) : (s.setSeam i p).shadow = s.shadow := rfl
@[simp] theorem State.setSeam_wrote (i : Nat) (p : Seam) : (s.setSeam i p).wrote = s.wrote := rfl
@[simp] theorem State.setSeam_asym (i : Nat) (p : Seam) : (s.setSeam i p).asym = s.asym := rfl
@[simp] theorem State.setSeam_tio (i : Nat) (p : Seam) : (s.setSeam i p).tio = s.tio := rfl
@[simp] theorem State.setSeam_book (i : Nat) (p : Seam) : (s.setSeam i p).book = s.book := rfl
@[simp] theorem State.setSeam_fab (i : Nat) (p : Seam) : (s.setSeam i p).fab = s.fab := rfl
@[simp] theorem State.setSeam_sys (i : Nat) (p : Seam) : (s.setSeam i p).sys = s.sys := rfl
@[simp] theorem State.setSeam_comp (i : Nat) (p : Seam) : (s.setSeam i p).comp = s.comp := rfl
@[simp] theorem State.setSeam_ulk (i : Nat) (p : Seam) : (s.setSeam i p).ulk = s.ulk := rfl
@[simp] theorem State.setSeam_mbx (i : Nat) (p : Seam) : (s.setSeam i p).mbx = s.mbx := rfl
@[simp] theorem State.setSeam_log (i : Nat) (p : Seam) : (s.setSeam i p).log = s.log := rfl
@[simp] theorem State.setSeam_notices (i : Nat) (p : Seam) : (s.setSeam i p).notices = s.notices := rfl
@[simp] theorem State.setSeam_patch (i : Nat) (p : Seam) : (s.setSeam i p).patch = s.patch := rfl
@[simp] theorem State.setSeam_rd (i : Nat) (p : Seam) (g : Field) : (s.setSeam i p).rd g = s.rd g := rfl

/-! ### setPort -/
@[simp] theorem State.setPort_pending (d : Dom) (x : TimePort) : (s.setPort d x).pending = s.pending := by cases d <;> rfl
@[simp] theorem State.setPort_now (d : Dom) (x : TimePort) : (s.setPort d x).now = s.now := by cases d <;> rfl
@[simp] theorem State.setPort_freeCount (d : Dom) (x : TimePort) : (s.setPort d x).freeCount = s.freeCount := by cases d <;> rfl
@[simp] theorem State.setPort_regs (d : Dom) (x : TimePort) : (s.setPort d x).regs = s.regs := by cases d <;> rfl
@[simp] theorem State.setPort_shadow (d : Dom) (x : TimePort) : (s.setPort d x).shadow = s.shadow := by cases d <;> rfl
@[simp] theorem State.setPort_wrote (d : Dom) (x : TimePort) : (s.setPort d x).wrote = s.wrote := by cases d <;> rfl
@[simp] theorem State.setPort_asym (d : Dom) (x : TimePort) : (s.setPort d x).asym = s.asym := by cases d <;> rfl
@[simp] theorem State.setPort_gauge (d : Dom) (x : TimePort) : (s.setPort d x).gauge = s.gauge := by cases d <;> rfl
@[simp] theorem State.setPort_book (d : Dom) (x : TimePort) : (s.setPort d x).book = s.book := by cases d <;> rfl
@[simp] theorem State.setPort_fab (d : Dom) (x : TimePort) : (s.setPort d x).fab = s.fab := by cases d <;> rfl
@[simp] theorem State.setPort_sys (d : Dom) (x : TimePort) : (s.setPort d x).sys = s.sys := by cases d <;> rfl
@[simp] theorem State.setPort_comp (d : Dom) (x : TimePort) : (s.setPort d x).comp = s.comp := by cases d <;> rfl
@[simp] theorem State.setPort_ulk (d : Dom) (x : TimePort) : (s.setPort d x).ulk = s.ulk := by cases d <;> rfl
@[simp] theorem State.setPort_mbx (d : Dom) (x : TimePort) : (s.setPort d x).mbx = s.mbx := by cases d <;> rfl
@[simp] theorem State.setPort_log (d : Dom) (x : TimePort) : (s.setPort d x).log = s.log := by cases d <;> rfl
@[simp] theorem State.setPort_notices (d : Dom) (x : TimePort) : (s.setPort d x).notices = s.notices := by cases d <;> rfl
@[simp] theorem State.setPort_patch (d : Dom) (x : TimePort) : (s.setPort d x).patch = s.patch := by cases d <;> rfl
@[simp] theorem State.setPort_rd (d : Dom) (x : TimePort) (g : Field) : (s.setPort d x).rd g = s.rd g := by cases d <;> rfl

/-! ### setPulse -/
@[simp] theorem State.setPulse_pending (n : Nat) (x : Pulse) : (s.setPulse n x).pending = s.pending := rfl
@[simp] theorem State.setPulse_now (n : Nat) (x : Pulse) : (s.setPulse n x).now = s.now := rfl
@[simp] theorem State.setPulse_freeCount (n : Nat) (x : Pulse) : (s.setPulse n x).freeCount = s.freeCount := rfl
@[simp] theorem State.setPulse_regs (n : Nat) (x : Pulse) : (s.setPulse n x).regs = s.regs := rfl
@[simp] theorem State.setPulse_shadow (n : Nat) (x : Pulse) : (s.setPulse n x).shadow = s.shadow := rfl
@[simp] theorem State.setPulse_wrote (n : Nat) (x : Pulse) : (s.setPulse n x).wrote = s.wrote := rfl
@[simp] theorem State.setPulse_asym (n : Nat) (x : Pulse) : (s.setPulse n x).asym = s.asym := rfl
@[simp] theorem State.setPulse_gauge (n : Nat) (x : Pulse) : (s.setPulse n x).gauge = s.gauge := rfl
@[simp] theorem State.setPulse_book (n : Nat) (x : Pulse) : (s.setPulse n x).book = s.book := rfl
@[simp] theorem State.setPulse_fab (n : Nat) (x : Pulse) : (s.setPulse n x).fab = s.fab := rfl
@[simp] theorem State.setPulse_sys (n : Nat) (x : Pulse) : (s.setPulse n x).sys = s.sys := rfl
@[simp] theorem State.setPulse_comp (n : Nat) (x : Pulse) : (s.setPulse n x).comp = s.comp := rfl
@[simp] theorem State.setPulse_ulk (n : Nat) (x : Pulse) : (s.setPulse n x).ulk = s.ulk := rfl
@[simp] theorem State.setPulse_mbx (n : Nat) (x : Pulse) : (s.setPulse n x).mbx = s.mbx := rfl
@[simp] theorem State.setPulse_log (n : Nat) (x : Pulse) : (s.setPulse n x).log = s.log := rfl
@[simp] theorem State.setPulse_notices (n : Nat) (x : Pulse) : (s.setPulse n x).notices = s.notices := rfl
@[simp] theorem State.setPulse_patch (n : Nat) (x : Pulse) : (s.setPulse n x).patch = s.patch := rfl
@[simp] theorem State.setPulse_rd (n : Nat) (x : Pulse) (g : Field) : (s.setPulse n x).rd g = s.rd g := rfl

/-! ### setSys -/
@[simp] theorem State.setSys_pending (x : Sys) : (s.setSys x).pending = s.pending := rfl
@[simp] theorem State.setSys_now (x : Sys) : (s.setSys x).now = s.now := rfl
@[simp] theorem State.setSys_freeCount (x : Sys) : (s.setSys x).freeCount = s.freeCount := rfl
@[simp] theorem State.setSys_regs (x : Sys) : (s.setSys x).regs = s.regs := rfl
@[simp] theorem State.setSys_shadow (x : Sys) : (s.setSys x).shadow = s.shadow := rfl
@[simp] theorem State.setSys_wrote (x : Sys) : (s.setSys x).wrote = s.wrote := rfl
@[simp] theorem State.setSys_asym (x : Sys) : (s.setSys x).asym = s.asym := rfl
@[simp] theorem State.setSys_gauge (x : Sys) : (s.setSys x).gauge = s.gauge := rfl
@[simp] theorem State.setSys_tio (x : Sys) : (s.setSys x).tio = s.tio := rfl
@[simp] theorem State.setSys_book (x : Sys) : (s.setSys x).book = s.book := rfl
@[simp] theorem State.setSys_fab (x : Sys) : (s.setSys x).fab = s.fab := rfl
@[simp] theorem State.setSys_comp (x : Sys) : (s.setSys x).comp = s.comp := rfl
@[simp] theorem State.setSys_ulk (x : Sys) : (s.setSys x).ulk = s.ulk := rfl
@[simp] theorem State.setSys_mbx (x : Sys) : (s.setSys x).mbx = s.mbx := rfl
@[simp] theorem State.setSys_log (x : Sys) : (s.setSys x).log = s.log := rfl
@[simp] theorem State.setSys_notices (x : Sys) : (s.setSys x).notices = s.notices := rfl
@[simp] theorem State.setSys_patch (x : Sys) : (s.setSys x).patch = s.patch := rfl
@[simp] theorem State.setSys_rd (x : Sys) (g : Field) : (s.setSys x).rd g = s.rd g := rfl

/-! ### setBoot -/
@[simp] theorem State.setBoot_pending (b : Boot) : (s.setBoot b).pending = s.pending := rfl
@[simp] theorem State.setBoot_now (b : Boot) : (s.setBoot b).now = s.now := rfl
@[simp] theorem State.setBoot_freeCount (b : Boot) : (s.setBoot b).freeCount = s.freeCount := rfl
@[simp] theorem State.setBoot_regs (b : Boot) : (s.setBoot b).regs = s.regs := rfl
@[simp] theorem State.setBoot_shadow (b : Boot) : (s.setBoot b).shadow = s.shadow := rfl
@[simp] theorem State.setBoot_wrote (b : Boot) : (s.setBoot b).wrote = s.wrote := rfl
@[simp] theorem State.setBoot_asym (b : Boot) : (s.setBoot b).asym = s.asym := rfl
@[simp] theorem State.setBoot_gauge (b : Boot) : (s.setBoot b).gauge = s.gauge := rfl
@[simp] theorem State.setBoot_tio (b : Boot) : (s.setBoot b).tio = s.tio := rfl
@[simp] theorem State.setBoot_book (b : Boot) : (s.setBoot b).book = s.book := rfl
@[simp] theorem State.setBoot_fab (b : Boot) : (s.setBoot b).fab = s.fab := rfl
@[simp] theorem State.setBoot_comp (b : Boot) : (s.setBoot b).comp = s.comp := rfl
@[simp] theorem State.setBoot_ulk (b : Boot) : (s.setBoot b).ulk = s.ulk := rfl
@[simp] theorem State.setBoot_mbx (b : Boot) : (s.setBoot b).mbx = s.mbx := rfl
@[simp] theorem State.setBoot_log (b : Boot) : (s.setBoot b).log = s.log := rfl
@[simp] theorem State.setBoot_notices (b : Boot) : (s.setBoot b).notices = s.notices := rfl
@[simp] theorem State.setBoot_patch (b : Boot) : (s.setBoot b).patch = s.patch := rfl
@[simp] theorem State.setBoot_rd (b : Boot) (g : Field) : (s.setBoot b).rd g = s.rd g := rfl

/-! ### setNvm -/
@[simp] theorem State.setNvm_pending (n : Nvm) : (s.setNvm n).pending = s.pending := rfl
@[simp] theorem State.setNvm_now (n : Nvm) : (s.setNvm n).now = s.now := rfl
@[simp] theorem State.setNvm_freeCount (n : Nvm) : (s.setNvm n).freeCount = s.freeCount := rfl
@[simp] theorem State.setNvm_regs (n : Nvm) : (s.setNvm n).regs = s.regs := rfl
@[simp] theorem State.setNvm_shadow (n : Nvm) : (s.setNvm n).shadow = s.shadow := rfl
@[simp] theorem State.setNvm_wrote (n : Nvm) : (s.setNvm n).wrote = s.wrote := rfl
@[simp] theorem State.setNvm_asym (n : Nvm) : (s.setNvm n).asym = s.asym := rfl
@[simp] theorem State.setNvm_gauge (n : Nvm) : (s.setNvm n).gauge = s.gauge := rfl
@[simp] theorem State.setNvm_tio (n : Nvm) : (s.setNvm n).tio = s.tio := rfl
@[simp] theorem State.setNvm_book (n : Nvm) : (s.setNvm n).book = s.book := rfl
@[simp] theorem State.setNvm_fab (n : Nvm) : (s.setNvm n).fab = s.fab := rfl
@[simp] theorem State.setNvm_comp (n : Nvm) : (s.setNvm n).comp = s.comp := rfl
@[simp] theorem State.setNvm_ulk (n : Nvm) : (s.setNvm n).ulk = s.ulk := rfl
@[simp] theorem State.setNvm_mbx (n : Nvm) : (s.setNvm n).mbx = s.mbx := rfl
@[simp] theorem State.setNvm_log (n : Nvm) : (s.setNvm n).log = s.log := rfl
@[simp] theorem State.setNvm_notices (n : Nvm) : (s.setNvm n).notices = s.notices := rfl
@[simp] theorem State.setNvm_patch (n : Nvm) : (s.setNvm n).patch = s.patch := rfl
@[simp] theorem State.setNvm_rd (n : Nvm) (g : Field) : (s.setNvm n).rd g = s.rd g := rfl

/-! ### setPower -/
@[simp] theorem State.setPower_pending (p : Power) : (s.setPower p).pending = s.pending := rfl
@[simp] theorem State.setPower_now (p : Power) : (s.setPower p).now = s.now := rfl
@[simp] theorem State.setPower_freeCount (p : Power) : (s.setPower p).freeCount = s.freeCount := rfl
@[simp] theorem State.setPower_regs (p : Power) : (s.setPower p).regs = s.regs := rfl
@[simp] theorem State.setPower_shadow (p : Power) : (s.setPower p).shadow = s.shadow := rfl
@[simp] theorem State.setPower_wrote (p : Power) : (s.setPower p).wrote = s.wrote := rfl
@[simp] theorem State.setPower_asym (p : Power) : (s.setPower p).asym = s.asym := rfl
@[simp] theorem State.setPower_gauge (p : Power) : (s.setPower p).gauge = s.gauge := rfl
@[simp] theorem State.setPower_tio (p : Power) : (s.setPower p).tio = s.tio := rfl
@[simp] theorem State.setPower_book (p : Power) : (s.setPower p).book = s.book := rfl
@[simp] theorem State.setPower_fab (p : Power) : (s.setPower p).fab = s.fab := rfl
@[simp] theorem State.setPower_comp (p : Power) : (s.setPower p).comp = s.comp := rfl
@[simp] theorem State.setPower_ulk (p : Power) : (s.setPower p).ulk = s.ulk := rfl
@[simp] theorem State.setPower_mbx (p : Power) : (s.setPower p).mbx = s.mbx := rfl
@[simp] theorem State.setPower_log (p : Power) : (s.setPower p).log = s.log := rfl
@[simp] theorem State.setPower_notices (p : Power) : (s.setPower p).notices = s.notices := rfl
@[simp] theorem State.setPower_patch (p : Power) : (s.setPower p).patch = s.patch := rfl
@[simp] theorem State.setPower_rd (p : Power) (g : Field) : (s.setPower p).rd g = s.rd g := rfl

/-! ### setChain -/
@[simp] theorem State.setChain_pending (c : Chain) : (s.setChain c).pending = s.pending := rfl
@[simp] theorem State.setChain_now (c : Chain) : (s.setChain c).now = s.now := rfl
@[simp] theorem State.setChain_freeCount (c : Chain) : (s.setChain c).freeCount = s.freeCount := rfl
@[simp] theorem State.setChain_regs (c : Chain) : (s.setChain c).regs = s.regs := rfl
@[simp] theorem State.setChain_shadow (c : Chain) : (s.setChain c).shadow = s.shadow := rfl
@[simp] theorem State.setChain_wrote (c : Chain) : (s.setChain c).wrote = s.wrote := rfl
@[simp] theorem State.setChain_asym (c : Chain) : (s.setChain c).asym = s.asym := rfl
@[simp] theorem State.setChain_gauge (c : Chain) : (s.setChain c).gauge = s.gauge := rfl
@[simp] theorem State.setChain_tio (c : Chain) : (s.setChain c).tio = s.tio := rfl
@[simp] theorem State.setChain_book (c : Chain) : (s.setChain c).book = s.book := rfl
@[simp] theorem State.setChain_fab (c : Chain) : (s.setChain c).fab = s.fab := rfl
@[simp] theorem State.setChain_comp (c : Chain) : (s.setChain c).comp = s.comp := rfl
@[simp] theorem State.setChain_ulk (c : Chain) : (s.setChain c).ulk = s.ulk := rfl
@[simp] theorem State.setChain_mbx (c : Chain) : (s.setChain c).mbx = s.mbx := rfl
@[simp] theorem State.setChain_log (c : Chain) : (s.setChain c).log = s.log := rfl
@[simp] theorem State.setChain_notices (c : Chain) : (s.setChain c).notices = s.notices := rfl
@[simp] theorem State.setChain_patch (c : Chain) : (s.setChain c).patch = s.patch := rfl
@[simp] theorem State.setChain_rd (c : Chain) (g : Field) : (s.setChain c).rd g = s.rd g := rfl

/-! ### setRecov -/
@[simp] theorem State.setRecov_pending (r : Recov) : (s.setRecov r).pending = s.pending := rfl
@[simp] theorem State.setRecov_now (r : Recov) : (s.setRecov r).now = s.now := rfl
@[simp] theorem State.setRecov_freeCount (r : Recov) : (s.setRecov r).freeCount = s.freeCount := rfl
@[simp] theorem State.setRecov_regs (r : Recov) : (s.setRecov r).regs = s.regs := rfl
@[simp] theorem State.setRecov_shadow (r : Recov) : (s.setRecov r).shadow = s.shadow := rfl
@[simp] theorem State.setRecov_wrote (r : Recov) : (s.setRecov r).wrote = s.wrote := rfl
@[simp] theorem State.setRecov_asym (r : Recov) : (s.setRecov r).asym = s.asym := rfl
@[simp] theorem State.setRecov_gauge (r : Recov) : (s.setRecov r).gauge = s.gauge := rfl
@[simp] theorem State.setRecov_tio (r : Recov) : (s.setRecov r).tio = s.tio := rfl
@[simp] theorem State.setRecov_book (r : Recov) : (s.setRecov r).book = s.book := rfl
@[simp] theorem State.setRecov_fab (r : Recov) : (s.setRecov r).fab = s.fab := rfl
@[simp] theorem State.setRecov_comp (r : Recov) : (s.setRecov r).comp = s.comp := rfl
@[simp] theorem State.setRecov_ulk (r : Recov) : (s.setRecov r).ulk = s.ulk := rfl
@[simp] theorem State.setRecov_mbx (r : Recov) : (s.setRecov r).mbx = s.mbx := rfl
@[simp] theorem State.setRecov_log (r : Recov) : (s.setRecov r).log = s.log := rfl
@[simp] theorem State.setRecov_notices (r : Recov) : (s.setRecov r).notices = s.notices := rfl
@[simp] theorem State.setRecov_patch (r : Recov) : (s.setRecov r).patch = s.patch := rfl
@[simp] theorem State.setRecov_rd (r : Recov) (g : Field) : (s.setRecov r).rd g = s.rd g := rfl

/-! ### setSvc -/
@[simp] theorem State.setSvc_pending (x : Svc) : (s.setSvc x).pending = s.pending := rfl
@[simp] theorem State.setSvc_now (x : Svc) : (s.setSvc x).now = s.now := rfl
@[simp] theorem State.setSvc_freeCount (x : Svc) : (s.setSvc x).freeCount = s.freeCount := rfl
@[simp] theorem State.setSvc_regs (x : Svc) : (s.setSvc x).regs = s.regs := rfl
@[simp] theorem State.setSvc_shadow (x : Svc) : (s.setSvc x).shadow = s.shadow := rfl
@[simp] theorem State.setSvc_wrote (x : Svc) : (s.setSvc x).wrote = s.wrote := rfl
@[simp] theorem State.setSvc_asym (x : Svc) : (s.setSvc x).asym = s.asym := rfl
@[simp] theorem State.setSvc_gauge (x : Svc) : (s.setSvc x).gauge = s.gauge := rfl
@[simp] theorem State.setSvc_tio (x : Svc) : (s.setSvc x).tio = s.tio := rfl
@[simp] theorem State.setSvc_book (x : Svc) : (s.setSvc x).book = s.book := rfl
@[simp] theorem State.setSvc_fab (x : Svc) : (s.setSvc x).fab = s.fab := rfl
@[simp] theorem State.setSvc_comp (x : Svc) : (s.setSvc x).comp = s.comp := rfl
@[simp] theorem State.setSvc_ulk (x : Svc) : (s.setSvc x).ulk = s.ulk := rfl
@[simp] theorem State.setSvc_mbx (x : Svc) : (s.setSvc x).mbx = s.mbx := rfl
@[simp] theorem State.setSvc_log (x : Svc) : (s.setSvc x).log = s.log := rfl
@[simp] theorem State.setSvc_notices (x : Svc) : (s.setSvc x).notices = s.notices := rfl
@[simp] theorem State.setSvc_patch (x : Svc) : (s.setSvc x).patch = s.patch := rfl
@[simp] theorem State.setSvc_rd (x : Svc) (g : Field) : (s.setSvc x).rd g = s.rd g := rfl

/-! ### setReset -/
@[simp] theorem State.setReset_pending (k : Option Nat) : (s.setReset k).pending = s.pending := rfl
@[simp] theorem State.setReset_now (k : Option Nat) : (s.setReset k).now = s.now := rfl
@[simp] theorem State.setReset_freeCount (k : Option Nat) : (s.setReset k).freeCount = s.freeCount := rfl
@[simp] theorem State.setReset_regs (k : Option Nat) : (s.setReset k).regs = s.regs := rfl
@[simp] theorem State.setReset_shadow (k : Option Nat) : (s.setReset k).shadow = s.shadow := rfl
@[simp] theorem State.setReset_wrote (k : Option Nat) : (s.setReset k).wrote = s.wrote := rfl
@[simp] theorem State.setReset_asym (k : Option Nat) : (s.setReset k).asym = s.asym := rfl
@[simp] theorem State.setReset_gauge (k : Option Nat) : (s.setReset k).gauge = s.gauge := rfl
@[simp] theorem State.setReset_tio (k : Option Nat) : (s.setReset k).tio = s.tio := rfl
@[simp] theorem State.setReset_book (k : Option Nat) : (s.setReset k).book = s.book := rfl
@[simp] theorem State.setReset_fab (k : Option Nat) : (s.setReset k).fab = s.fab := rfl
@[simp] theorem State.setReset_comp (k : Option Nat) : (s.setReset k).comp = s.comp := rfl
@[simp] theorem State.setReset_ulk (k : Option Nat) : (s.setReset k).ulk = s.ulk := rfl
@[simp] theorem State.setReset_mbx (k : Option Nat) : (s.setReset k).mbx = s.mbx := rfl
@[simp] theorem State.setReset_log (k : Option Nat) : (s.setReset k).log = s.log := rfl
@[simp] theorem State.setReset_notices (k : Option Nat) : (s.setReset k).notices = s.notices := rfl
@[simp] theorem State.setReset_patch (k : Option Nat) : (s.setReset k).patch = s.patch := rfl
@[simp] theorem State.setReset_rd (k : Option Nat) (g : Field) : (s.setReset k).rd g = s.rd g := rfl

/-! ### setMove -/
@[simp] theorem State.setMove_pending (n : Nat) (x : Move) : (s.setMove n x).pending = s.pending := rfl
@[simp] theorem State.setMove_now (n : Nat) (x : Move) : (s.setMove n x).now = s.now := rfl
@[simp] theorem State.setMove_freeCount (n : Nat) (x : Move) : (s.setMove n x).freeCount = s.freeCount := rfl
@[simp] theorem State.setMove_regs (n : Nat) (x : Move) : (s.setMove n x).regs = s.regs := rfl
@[simp] theorem State.setMove_shadow (n : Nat) (x : Move) : (s.setMove n x).shadow = s.shadow := rfl
@[simp] theorem State.setMove_wrote (n : Nat) (x : Move) : (s.setMove n x).wrote = s.wrote := rfl
@[simp] theorem State.setMove_asym (n : Nat) (x : Move) : (s.setMove n x).asym = s.asym := rfl
@[simp] theorem State.setMove_gauge (n : Nat) (x : Move) : (s.setMove n x).gauge = s.gauge := rfl
@[simp] theorem State.setMove_tio (n : Nat) (x : Move) : (s.setMove n x).tio = s.tio := rfl
@[simp] theorem State.setMove_book (n : Nat) (x : Move) : (s.setMove n x).book = s.book := rfl
@[simp] theorem State.setMove_fab (n : Nat) (x : Move) : (s.setMove n x).fab = s.fab := rfl
@[simp] theorem State.setMove_comp (n : Nat) (x : Move) : (s.setMove n x).comp = s.comp := rfl
@[simp] theorem State.setMove_ulk (n : Nat) (x : Move) : (s.setMove n x).ulk = s.ulk := rfl
@[simp] theorem State.setMove_mbx (n : Nat) (x : Move) : (s.setMove n x).mbx = s.mbx := rfl
@[simp] theorem State.setMove_log (n : Nat) (x : Move) : (s.setMove n x).log = s.log := rfl
@[simp] theorem State.setMove_notices (n : Nat) (x : Move) : (s.setMove n x).notices = s.notices := rfl
@[simp] theorem State.setMove_patch (n : Nat) (x : Move) : (s.setMove n x).patch = s.patch := rfl
@[simp] theorem State.setMove_rd (n : Nat) (x : Move) (g : Field) : (s.setMove n x).rd g = s.rd g := rfl

end Sys2Proof.Machine
end

