-- ==== Sys2Proof/Laws/Tbl.lean ====
section
/-! SUPPORT. The laws of sparse tables: a read after a write, and the canonical form kept by every operation. -/
namespace Sys2Proof

variable {β : Type}

@[simp] theorem Tbl.look_nil (k : Nat) : Tbl.look ([] : Tbl β) k = none := rfl

@[simp] theorem Tbl.lookD_nil (d : β) (k : Nat) : Tbl.lookD ([] : Tbl β) d k = d := rfl

@[simp] theorem Tbl.look_del_self (t : Tbl β) (k : Nat) : Tbl.look (Tbl.del t k) k = none := by
  induction t with
  | nil => rfl
  | cons r t ih =>
    by_cases h : r.1 = k
    · simp [Tbl.del, h, ih]
    · simp [Tbl.del, h, Tbl.look, ih]

theorem Tbl.look_del_ne (t : Tbl β) {j k : Nat} (h : j ≠ k) : Tbl.look (Tbl.del t k) j = Tbl.look t j := by
  induction t with
  | nil => rfl
  | cons r t ih =>
    by_cases hk : r.1 = k
    · have : r.1 ≠ j := fun e => h (e.symm.trans hk)
      simp [Tbl.del, hk, Tbl.look, ih, hk ▸ this]
    · simp [Tbl.del, hk, Tbl.look, ih]

@[simp] theorem Tbl.look_set_self (t : Tbl β) (k : Nat) (v : β) : Tbl.look (Tbl.set t k v) k = some v := by
  induction t with
  | nil => simp [Tbl.set, Tbl.look]
  | cons r t ih =>
    by_cases h1 : k < r.1
    · simp [Tbl.set, h1, Tbl.look]
    · by_cases h2 : r.1 = k
      · simp [Tbl.set, h2, Tbl.look]
      · simp [Tbl.set, h1, h2, Tbl.look, ih]

theorem Tbl.look_set_ne (t : Tbl β) {j k : Nat} (v : β) (h : j ≠ k) :
    Tbl.look (Tbl.set t k v) j = Tbl.look t j := by
  induction t with
  | nil => simp [Tbl.set, Tbl.look, h.symm]
  | cons r t ih =>
    by_cases h1 : k < r.1
    · simp [Tbl.set, h1, Tbl.look, h.symm]
    · by_cases h2 : r.1 = k
      · simp [Tbl.set, h2, Tbl.look, h.symm]
      · simp [Tbl.set, h1, h2, Tbl.look, ih]

@[simp] theorem Tbl.lookD_put_self [DecidableEq β] (t : Tbl β) (d : β) (k : Nat) (v : β) :
    Tbl.lookD (Tbl.put t d k v) d k = v := by
  by_cases h : v = d <;> simp [Tbl.put, Tbl.lookD, h]

theorem Tbl.lookD_put_ne [DecidableEq β] (t : Tbl β) (d e : β) {j k : Nat} (v : β) (h : j ≠ k) :
    Tbl.lookD (Tbl.put t d k v) e j = Tbl.lookD t e j := by
  by_cases hv : v = d <;> simp [Tbl.put, Tbl.lookD, hv, Tbl.look_del_ne _ h, Tbl.look_set_ne _ _ h]

/-! ### The canonical form -/

theorem Tbl.rising_tail {r : Nat × β} {t : Tbl β} (h : Tbl.rising (r :: t) = true) : Tbl.rising t = true := by
  cases t with
  | nil => rfl
  | cons q t => simp only [Tbl.rising, Bool.and_eq_true] at h; exact h.2

theorem Tbl.rising_head {r : Nat × β} {t : Tbl β} (h : Tbl.rising (r :: t) = true) : ∀ q ∈ t, r.1 < q.1 := by
  induction t generalizing r with
  | nil => intro q hq; cases hq
  | cons p t ih =>
    simp only [Tbl.rising, Bool.and_eq_true, decide_eq_true_eq] at h
    intro q hq
    rcases List.mem_cons.1 hq with rfl | hq
    · exact h.1
    · exact Nat.lt_trans h.1 (ih h.2 q hq)

theorem Tbl.rising_cons {r : Nat × β} {t : Tbl β} (h : Tbl.rising t = true) (hr : ∀ q ∈ t, r.1 < q.1) :
    Tbl.rising (r :: t) = true := by
  cases t with
  | nil => rfl
  | cons q t => simp [Tbl.rising, hr q (by simp), h]

theorem Tbl.mem_del {t : Tbl β} {k : Nat} {q : Nat × β} (h : q ∈ Tbl.del t k) : q ∈ t := by
  induction t with
  | nil => exact h
  | cons r t ih =>
    by_cases hk : r.1 = k
    · simp only [Tbl.del, hk, if_true] at h; exact List.mem_cons_of_mem _ (ih h)
    · simp only [Tbl.del, hk, if_false, List.mem_cons] at h ⊢; exact h.imp id ih

theorem Tbl.mem_set {t : Tbl β} {k : Nat} {v : β} {q : Nat × β} (h : q ∈ Tbl.set t k v) : q = (k, v) ∨ q ∈ t := by
  induction t with
  | nil => simpa [Tbl.set] using h
  | cons r t ih =>
    by_cases h1 : k < r.1
    · simpa [Tbl.set, h1] using h
    · by_cases h2 : r.1 = k
      · rcases (by simpa [Tbl.set, h2] using h : q = (k, v) ∨ q ∈ t) with h | h
        · exact .inl h
        · exact .inr (List.mem_cons_of_mem _ h)
      · rcases (by simpa [Tbl.set, h1, h2] using h : q = r ∨ q ∈ Tbl.set t k v) with h | h
        · exact .inr (by simp [h])
        · exact (ih h).imp id (List.mem_cons_of_mem _)

theorem Tbl.rising_del {t : Tbl β} {k : Nat} (h : Tbl.rising t = true) : Tbl.rising (Tbl.del t k) = true := by
  induction t with
  | nil => rfl
  | cons r t ih =>
    by_cases hk : r.1 = k
    · simpa [Tbl.del, hk] using ih (Tbl.rising_tail h)
    · simp only [Tbl.del, hk, if_false]
      exact Tbl.rising_cons (ih (Tbl.rising_tail h)) fun q hq => Tbl.rising_head h q (Tbl.mem_del hq)

theorem Tbl.rising_set {t : Tbl β} {k : Nat} {v : β} (h : Tbl.rising t = true) : Tbl.rising (Tbl.set t k v) = true := by
  induction t with
  | nil => rfl
  | cons r t ih =>
    by_cases h1 : k < r.1
    · simp only [Tbl.set, h1, if_true]
      refine Tbl.rising_cons h fun q hq => ?_
      rcases List.mem_cons.1 hq with rfl | hq
      · exact h1
      · exact Nat.lt_trans h1 (Tbl.rising_head h q hq)
    · by_cases h2 : r.1 = k
      · rw [Tbl.set, if_neg h1, if_pos h2]
        exact Tbl.rising_cons (r := (k, v)) (Tbl.rising_tail h) fun q hq => h2 ▸ Tbl.rising_head h q hq
      · simp only [Tbl.set, h1, h2, if_false]
        refine Tbl.rising_cons (ih (Tbl.rising_tail h)) fun q hq => ?_
        rcases Tbl.mem_set hq with rfl | hq
        · exact Nat.lt_of_le_of_ne (Nat.le_of_not_lt h1) h2
        · exact Tbl.rising_head h q hq

theorem Tbl.rising_put [DecidableEq β] {t : Tbl β} {d : β} {k : Nat} {v : β} (h : Tbl.rising t = true) :
    Tbl.rising (Tbl.put t d k v) = true := by
  unfold Tbl.put
  split
  · exact Tbl.rising_del h
  · exact Tbl.rising_set h

theorem Tbl.rising_filter {t : Tbl β} {p : Nat × β → Bool} (h : Tbl.rising t = true) :
    Tbl.rising (t.filter p) = true := by
  induction t with
  | nil => rfl
  | cons r t ih =>
    by_cases hp : p r
    · simp only [List.filter_cons, hp, if_true]
      exact Tbl.rising_cons (ih (Tbl.rising_tail h)) fun q hq => Tbl.rising_head h q (List.mem_filter.1 hq).1
    · simpa [List.filter_cons, hp] using ih (Tbl.rising_tail h)

/-- A write keeps the canonical form. -/
theorem Tbl.canon_put [DecidableEq β] {t : Tbl β} {d : Nat → β} {k : Nat} {v : β} (h : Tbl.canon t d = true) :
    Tbl.canon (Tbl.put t (d k) k v) d = true := by
  simp only [Tbl.canon, Bool.and_eq_true, List.all_eq_true, decide_eq_true_eq] at h ⊢
  refine ⟨Tbl.rising_put h.1, fun q hq => ?_⟩
  unfold Tbl.put at hq
  split at hq
  · exact h.2 q (Tbl.mem_del hq)
  · rename_i hv
    rcases Tbl.mem_set hq with rfl | hq
    · exact hv
    · exact h.2 q hq

end Sys2Proof
end

