-- ==== Sys2Proof/Laws/Regs.lean ====
section
/-! SUPPORT. The laws of register fields: what a field reads after a write of it, or of another; what a flag, an event
and a notice write. -/
namespace Sys2Proof.Machine
open Sys2Proof

variable (s : State)

/-! ### Fields -/

@[simp] theorem State.rd_wr_self (f : Field) (v : Nat) : (s.wr f v).rd f = v % 2 ^ f.width := by
  simp [State.rd, State.wr]

theorem State.rd_wr_ne {f g : Field} (v : Nat) (h : g.key ≠ f.key) : (s.wr f v).rd g = s.rd g := by
  simp only [State.rd, State.wr]
  exact Tbl.lookD_put_ne _ _ _ _ h

@[simp] theorem State.rd_bump_self (f : Field) : (s.bump f).rd f = (s.rd f + 1) % 2 ^ f.width := State.rd_wr_self s f _

theorem State.rd_bump_ne {f g : Field} (h : g.key ≠ f.key) : (s.bump f).rd g = s.rd g := State.rd_wr_ne s _ h

@[simp] theorem State.rd_bumpBy_self (f : Field) (n : Nat) : (s.bumpBy f n).rd f = (s.rd f + n) % 2 ^ f.width :=
  State.rd_wr_self s f _

theorem State.rd_bumpBy_ne {f g : Field} (n : Nat) (h : g.key ≠ f.key) : (s.bumpBy f n).rd g = s.rd g :=
  State.rd_wr_ne s _ h

@[simp] theorem State.rd_dec_self (f : Field) : (s.dec f).rd f = (s.rd f - 1) % 2 ^ f.width := State.rd_wr_self s f _

theorem State.rd_dec_ne {f g : Field} (h : g.key ≠ f.key) : (s.dec f).rd g = s.rd g := State.rd_wr_ne s _ h

@[simp] theorem State.rd_wrB_self (f : Field) (b : Bool) : (s.wrB f b).rd f = bit b % 2 ^ f.width :=
  State.rd_wr_self s f _

theorem State.rd_wrB_ne {f g : Field} (b : Bool) (h : g.key ≠ f.key) : (s.wrB f b).rd g = s.rd g :=
  State.rd_wr_ne s _ h

@[simp] theorem State.rd_wrSat_self (f : Field) (v : Nat) : (s.wrSat f v).rd f = min v (2 ^ f.width - 1) := by
  have h : 0 < 2 ^ f.width := Nat.two_pow_pos _
  rw [State.wrSat, State.rd_wr_self]
  exact Nat.mod_eq_of_lt (by omega)

theorem State.rd_wrSat_ne {f g : Field} (v : Nat) (h : g.key ≠ f.key) : (s.wrSat f v).rd g = s.rd g :=
  State.rd_wr_ne s _ h

theorem State.rd_wrI_ne {f g : Field} (v : Int) (h : g.key ≠ f.key) : (s.wrI f v).rd g = s.rd g :=
  State.rd_wr_ne s _ h

theorem State.rising_wr {f : Field} {v : Nat} (h : Tbl.rising s.regs = true) : Tbl.rising (s.wr f v).regs = true :=
  Tbl.rising_put h

/-! ### Flags (R476) -/

theorem seqOf_key (f : Field) : (seqOf f).key = (f.inst * 2 ^ 26 + f.off) * 128 + 24 := rfl

/-- A flag set reads 1, where it is not in SEQ's place. -/
theorem State.rd_setFlag_self {f : Field} (hw : f.width = 1) (hl : f.lo ≠ 24) : (s.setFlag f).rd f = 1 := by
  have h : f.key ≠ (seqOf f).key := by simp only [Field.key]; omega
  rw [State.setFlag, State.rd_bump_ne _ h, State.rd_wr_self]; simp [hw]

/-- SEQ advances by one, modulo 256. -/
theorem State.rd_setFlag_seq {f : Field} (hl : f.lo ≠ 24) :
    (s.setFlag f).rd (seqOf f) = (s.rd (seqOf f) + 1) % 256 := by
  have h : (seqOf f).key ≠ f.key := by simp only [Field.key]; omega
  rw [State.setFlag, State.rd_bump_self, State.rd_wr_ne _ _ h]; rfl

theorem State.rd_setFlag_ne {f g : Field} (h : g.key ≠ f.key) (hs : g.key ≠ (seqOf f).key) :
    (s.setFlag f).rd g = s.rd g := by
  rw [State.setFlag, State.rd_bump_ne _ hs, State.rd_wr_ne _ _ h]

end Sys2Proof.Machine
end

