-- ==== Sys2Proof/Laws/Events.lean ====
section
/-! SUPPORT. What the event recorder and the notices write, and what they leave alone: the one place where the staging of
a record is unfolded. -/
namespace Sys2Proof.Machine
open Sys2Proof

variable (s : State)

/-! ### Frames over register fields -/

theorem State.regsBut_refl (l : List Field) : s.regsBut s l := fun _ _ => rfl

theorem State.regsBut_trans {s t u : State} {l : List Field} (h : s.regsBut t l) (k : t.regsBut u l) : s.regsBut u l :=
  fun g hg => (k g hg).trans (h g hg)

theorem State.regsBut_mono {s t : State} {l k : List Field} (h : s.regsBut t l) (hl : ∀ f ∈ l, f ∈ k) : s.regsBut t k :=
  fun g hg => h g fun hm => hg (by
    obtain ⟨f, hf, e⟩ := List.mem_map.1 hm
    exact List.mem_map.2 ⟨f, hl f hf, e⟩)

theorem State.regsBut_wr {l : List Field} {f : Field} (v : Nat) (h : f ∈ l) : s.regsBut (s.wr f v) l :=
  fun _ hg => State.rd_wr_ne s v fun e => hg (List.mem_map.2 ⟨f, h, e.symm⟩)

theorem State.regsBut_bump {l : List Field} {f : Field} (h : f ∈ l) : s.regsBut (s.bump f) l := State.regsBut_wr s _ h

/-- A state whose registers are those of another differs from it in no field. -/
theorem State.regsBut_of_regs {s t : State} (h : t.regs = s.regs) (l : List Field) : s.regsBut t l := fun g _ => by
  simp [State.rd, h]

theorem State.setFlag_regsBut {f : Field} {l : List Field} (h : f ∈ l) (hs : seqOf f ∈ l) : s.regsBut (s.setFlag f) l :=
  State.regsBut_trans (State.regsBut_wr s 1 h) (State.regsBut_bump _ hs)

/-! ### The recorder -/

theorem State.compose_regsBut (c : Nat) (b : List Byte) : s.regsBut (s.compose c b) recorderFields :=
  State.regsBut_trans (State.regsBut_of_regs rfl _) (State.regsBut_wr _ _ (by decide))

theorem State.dropRecord_regsBut (r : LogRec) : s.regsBut (s.dropRecord r) recorderFields := by
  refine State.regsBut_trans (t := if r.sev = 3 then (s.bump HLT.LOG_COUNTS.FATAL_DROP).setFlag HLT.EVENT.FATAL_DROP
    else s.bump HLT.LOG_COUNTS.DROPPED) ?_ (State.setFlag_regsBut _ (by decide) (by decide))
  split
  · exact State.regsBut_trans (State.regsBut_bump _ (by decide)) (State.setFlag_regsBut _ (by decide) (by decide))
  · exact State.regsBut_bump _ (by decide)

theorem State.numbered_regs (v : Nat) : (s.numbered v).regs = s.regs := by unfold State.numbered; split <;> rfl

theorem State.place_regsBut (r : LogRec) : s.regsBut (s.place r) recorderFields := by
  unfold State.place
  dsimp only
  split
  · exact State.regsBut_trans (State.regsBut_of_regs rfl _) (State.regsBut_wr _ _ (by decide))
  · exact State.regsBut_trans (State.regsBut_trans (State.regsBut_of_regs rfl _) (State.regsBut_wr _ _ (by decide)))
      (State.dropRecord_regsBut _ _)

theorem State.stageNew_regsBut (c v u : Nat) (d : List Byte) (b : Bool) : s.regsBut (s.stageNew c v u d b) recorderFields := by
  have h : s.regsBut ((s.numbered v).place (s.newRecord c v u d)).stageFill recorderFields :=
    State.regsBut_trans (State.regsBut_trans (State.regsBut_of_regs (State.numbered_regs s v) _) (State.place_regsBut _ _))
      (State.regsBut_wr _ _ (by decide))
  unfold State.stageNew
  split
  · exact State.regsBut_trans h (State.compose_regsBut _ _ _)
  · exact h

theorem State.merge_regsBut (r : LogRec) : s.regsBut (s.merge r) recorderFields :=
  State.regsBut_trans (State.regsBut_of_regs rfl _) (State.regsBut_bump _ (by decide))

/-- The recorder writes its own register fields only. -/
theorem State.logEvent_regsBut (c v u : Nat) (d : List Byte) (b : Bool) :
    s.regsBut (s.logEvent c v u d b) recorderFields := by
  unfold State.logEvent
  dsimp only
  split
  · exact State.regsBut_refl _ _
  · split
    · split
      · exact State.merge_regsBut _ _
      · exact State.stageNew_regsBut _ _ _ _ _ _
    · exact State.stageNew_regsBut _ _ _ _ _ _

/-- A field that the recorder does not keep reads the same after an event. -/
theorem State.logEvent_rd (c v u : Nat) (d : List Byte) (b : Bool) {g : Field}
    (h : g.key ∉ recorderFields.map Field.key) : (s.logEvent c v u d b).rd g = s.rd g :=
  State.logEvent_regsBut s c v u d b g h

@[simp] theorem State.compose_pending (c : Nat) (b : List Byte) : (s.compose c b).pending = s.pending := rfl
@[simp] theorem State.stageFill_pending : s.stageFill.pending = s.pending := rfl
@[simp] theorem State.setStaging_pending (l : List LogRec) : (s.setStaging l).pending = s.pending := rfl
@[simp] theorem State.merge_pending (r : LogRec) : (s.merge r).pending = s.pending := rfl
@[simp] theorem State.numbered_pending (v : Nat) : (s.numbered v).pending = s.pending := by unfold State.numbered; split <;> rfl
@[simp] theorem State.dropRecord_pending (r : LogRec) : (s.dropRecord r).pending = s.pending := by
  unfold State.dropRecord; split <;> simp
@[simp] theorem State.place_pending (r : LogRec) : (s.place r).pending = s.pending := by unfold State.place; dsimp only; split <;> simp
@[simp] theorem State.stageNew_pending (c v u : Nat) (d : List Byte) (b : Bool) : (s.stageNew c v u d b).pending = s.pending := by
  unfold State.stageNew; split <;> simp
@[simp] theorem State.logEvent_pending (c v u : Nat) (d : List Byte) (b : Bool) : (s.logEvent c v u d b).pending = s.pending := by
  unfold State.logEvent; dsimp only; split
  · rfl
  · split
    · split <;> simp
    · simp
@[simp] theorem State.raise_pending (g : Field) (v : Nat) (d : List Byte) : (s.raise g v d).pending = s.pending :=
  (State.logEvent_pending _ _ _ _ _ _).trans (State.setFlag_pending _ _)
@[simp] theorem State.report_pending (g : Field) (v : Nat) (d : List Byte) : (s.report g v d).pending = s.pending :=
  (State.logEvent_pending _ _ _ _ _ _).trans (State.setFlag_pending _ _)

@[simp] theorem State.compose_now (c : Nat) (b : List Byte) : (s.compose c b).now = s.now := rfl
@[simp] theorem State.stageFill_now : s.stageFill.now = s.now := rfl
@[simp] theorem State.setStaging_now (l : List LogRec) : (s.setStaging l).now = s.now := rfl
@[simp] theorem State.merge_now (r : LogRec) : (s.merge r).now = s.now := rfl
@[simp] theorem State.numbered_now (v : Nat) : (s.numbered v).now = s.now := by unfold State.numbered; split <;> rfl
@[simp] theorem State.dropRecord_now (r : LogRec) : (s.dropRecord r).now = s.now := by
  unfold State.dropRecord; split <;> simp
@[simp] theorem State.place_now (r : LogRec) : (s.place r).now = s.now := by unfold State.place; dsimp only; split <;> simp
@[simp] theorem State.stageNew_now (c v u : Nat) (d : List Byte) (b : Bool) : (s.stageNew c v u d b).now = s.now := by
  unfold State.stageNew; split <;> simp
@[simp] theorem State.logEvent_now (c v u : Nat) (d : List Byte) (b : Bool) : (s.logEvent c v u d b).now = s.now := by
  unfold State.logEvent; dsimp only; split
  · rfl
  · split
    · split <;> simp
    · simp
@[simp] theorem State.raise_now (g : Field) (v : Nat) (d : List Byte) : (s.raise g v d).now = s.now :=
  (State.logEvent_now _ _ _ _ _ _).trans (State.setFlag_now _ _)
@[simp] theorem State.report_now (g : Field) (v : Nat) (d : List Byte) : (s.report g v d).now = s.now :=
  (State.logEvent_now _ _ _ _ _ _).trans (State.setFlag_now _ _)

@[simp] theorem State.compose_freeCount (c : Nat) (b : List Byte) : (s.compose c b).freeCount = s.freeCount := rfl
@[simp] theorem State.stageFill_freeCount : s.stageFill.freeCount = s.freeCount := rfl
@[simp] theorem State.setStaging_freeCount (l : List LogRec) : (s.setStaging l).freeCount = s.freeCount := rfl
@[simp] theorem State.merge_freeCount (r : LogRec) : (s.merge r).freeCount = s.freeCount := rfl
@[simp] theorem State.numbered_freeCount (v : Nat) : (s.numbered v).freeCount = s.freeCount := by unfold State.numbered; split <;> rfl
@[simp] theorem State.dropRecord_freeCount (r : LogRec) : (s.dropRecord r).freeCount = s.freeCount := by
  unfold State.dropRecord; split <;> simp
@[simp] theorem State.place_freeCount (r : LogRec) : (s.place r).freeCount = s.freeCount := by unfold State.place; dsimp only; split <;> simp
@[simp] theorem State.stageNew_freeCount (c v u : Nat) (d : List Byte) (b : Bool) : (s.stageNew c v u d b).freeCount = s.freeCount := by
  unfold State.stageNew; split <;> simp
@[simp] theorem State.logEvent_freeCount (c v u : Nat) (d : List Byte) (b : Bool) : (s.logEvent c v u d b).freeCount = s.freeCount := by
  unfold State.logEvent; dsimp only; split
  · rfl
  · split
    · split <;> simp
    · simp
@[simp] theorem State.raise_freeCount (g : Field) (v : Nat) (d : List Byte) : (s.raise g v d).freeCount = s.freeCount :=
  (State.logEvent_freeCount _ _ _ _ _ _).trans (State.setFlag_freeCount _ _)
@[simp] theorem State.report_freeCount (g : Field) (v : Nat) (d : List Byte) : (s.report g v d).freeCount = s.freeCount :=
  (State.logEvent_freeCount _ _ _ _ _ _).trans (State.setFlag_freeCount _ _)

@[simp] theorem State.compose_shadow (c : Nat) (b : List Byte) : (s.compose c b).shadow = s.shadow := rfl
@[simp] theorem State.stageFill_shadow : s.stageFill.shadow = s.shadow := rfl
@[simp] theorem State.setStaging_shadow (l : List LogRec) : (s.setStaging l).shadow = s.shadow := rfl
@[simp] theorem State.merge_shadow (r : LogRec) : (s.merge r).shadow = s.shadow := rfl
@[simp] theorem State.numbered_shadow (v : Nat) : (s.numbered v).shadow = s.shadow := by unfold State.numbered; split <;> rfl
@[simp] theorem State.dropRecord_shadow (r : LogRec) : (s.dropRecord r).shadow = s.shadow := by
  unfold State.dropRecord; split <;> simp
@[simp] theorem State.place_shadow (r : LogRec) : (s.place r).shadow = s.shadow := by unfold State.place; dsimp only; split <;> simp
@[simp] theorem State.stageNew_shadow (c v u : Nat) (d : List Byte) (b : Bool) : (s.stageNew c v u d b).shadow = s.shadow := by
  unfold State.stageNew; split <;> simp
@[simp] theorem State.logEvent_shadow (c v u : Nat) (d : List Byte) (b : Bool) : (s.logEvent c v u d b).shadow = s.shadow := by
  unfold State.logEvent; dsimp only; split
  · rfl
  · split
    · split <;> simp
    · simp
@[simp] theorem State.raise_shadow (g : Field) (v : Nat) (d : List Byte) : (s.raise g v d).shadow = s.shadow :=
  (State.logEvent_shadow _ _ _ _ _ _).trans (State.setFlag_shadow _ _)
@[simp] theorem State.report_shadow (g : Field) (v : Nat) (d : List Byte) : (s.report g v d).shadow = s.shadow :=
  (State.logEvent_shadow _ _ _ _ _ _).trans (State.setFlag_shadow _ _)

@[simp] theorem State.compose_wrote (c : Nat) (b : List Byte) : (s.compose c b).wrote = s.wrote := rfl
@[simp] theorem State.stageFill_wrote : s.stageFill.wrote = s.wrote := rfl
@[simp] theorem State.setStaging_wrote (l : List LogRec) : (s.setStaging l).wrote = s.wrote := rfl
@[simp] theorem State.merge_wrote (r : LogRec) : (s.merge r).wrote = s.wrote := rfl
@[simp] theorem State.numbered_wrote (v : Nat) : (s.numbered v).wrote = s.wrote := by unfold State.numbered; split <;> rfl
@[simp] theorem State.dropRecord_wrote (r : LogRec) : (s.dropRecord r).wrote = s.wrote := by
  unfold State.dropRecord; split <;> simp
@[simp] theorem State.place_wrote (r : LogRec) : (s.place r).wrote = s.wrote := by unfold State.place; dsimp only; split <;> simp
@[simp] theorem State.stageNew_wrote (c v u : Nat) (d : List Byte) (b : Bool) : (s.stageNew c v u d b).wrote = s.wrote := by
  unfold State.stageNew; split <;> simp
@[simp] theorem State.logEvent_wrote (c v u : Nat) (d : List Byte) (b : Bool) : (s.logEvent c v u d b).wrote = s.wrote := by
  unfold State.logEvent; dsimp only; split
  · rfl
  · split
    · split <;> simp
    · simp
@[simp] theorem State.raise_wrote (g : Field) (v : Nat) (d : List Byte) : (s.raise g v d).wrote = s.wrote :=
  (State.logEvent_wrote _ _ _ _ _ _).trans (State.setFlag_wrote _ _)
@[simp] theorem State.report_wrote (g : Field) (v : Nat) (d : List Byte) : (s.report g v d).wrote = s.wrote :=
  (State.logEvent_wrote _ _ _ _ _ _).trans (State.setFlag_wrote _ _)

@[simp] theorem State.compose_asym (c : Nat) (b : List Byte) : (s.compose c b).asym = s.asym := rfl
@[simp] theorem State.stageFill_asym : s.stageFill.asym = s.asym := rfl
@[simp] theorem State.setStaging_asym (l : List LogRec) : (s.setStaging l).asym = s.asym := rfl
@[simp] theorem State.merge_asym (r : LogRec) : (s.merge r).asym = s.asym := rfl
@[simp] theorem State.numbered_asym (v : Nat) : (s.numbered v).asym = s.asym := by unfold State.numbered; split <;> rfl
@[simp] theorem State.dropRecord_asym (r : LogRec) : (s.dropRecord r).asym = s.asym := by
  unfold State.dropRecord; split <;> simp
@[simp] theorem State.place_asym (r : LogRec) : (s.place r).asym = s.asym := by unfold State.place; dsimp only; split <;> simp
@[simp] theorem State.stageNew_asym (c v u : Nat) (d : List Byte) (b : Bool) : (s.stageNew c v u d b).asym = s.asym := by
  unfold State.stageNew; split <;> simp
@[simp] theorem State.logEvent_asym (c v u : Nat) (d : List Byte) (b : Bool) : (s.logEvent c v u d b).asym = s.asym := by
  unfold State.logEvent; dsimp only; split
  · rfl
  · split
    · split <;> simp
    · simp
@[simp] theorem State.raise_asym (g : Field) (v : Nat) (d : List Byte) : (s.raise g v d).asym = s.asym :=
  (State.logEvent_asym _ _ _ _ _ _).trans (State.setFlag_asym _ _)
@[simp] theorem State.report_asym (g : Field) (v : Nat) (d : List Byte) : (s.report g v d).asym = s.asym :=
  (State.logEvent_asym _ _ _ _ _ _).trans (State.setFlag_asym _ _)

@[simp] theorem State.compose_gauge (c : Nat) (b : List Byte) : (s.compose c b).gauge = s.gauge := rfl
@[simp] theorem State.stageFill_gauge : s.stageFill.gauge = s.gauge := rfl
@[simp] theorem State.setStaging_gauge (l : List LogRec) : (s.setStaging l).gauge = s.gauge := rfl
@[simp] theorem State.merge_gauge (r : LogRec) : (s.merge r).gauge = s.gauge := rfl
@[simp] theorem State.numbered_gauge (v : Nat) : (s.numbered v).gauge = s.gauge := by unfold State.numbered; split <;> rfl
@[simp] theorem State.dropRecord_gauge (r : LogRec) : (s.dropRecord r).gauge = s.gauge := by
  unfold State.dropRecord; split <;> simp
@[simp] theorem State.place_gauge (r : LogRec) : (s.place r).gauge = s.gauge := by unfold State.place; dsimp only; split <;> simp
@[simp] theorem State.stageNew_gauge (c v u : Nat) (d : List Byte) (b : Bool) : (s.stageNew c v u d b).gauge = s.gauge := by
  unfold State.stageNew; split <;> simp
@[simp] theorem State.logEvent_gauge (c v u : Nat) (d : List Byte) (b : Bool) : (s.logEvent c v u d b).gauge = s.gauge := by
  unfold State.logEvent; dsimp only; split
  · rfl
  · split
    · split <;> simp
    · simp
@[simp] theorem State.raise_gauge (g : Field) (v : Nat) (d : List Byte) : (s.raise g v d).gauge = s.gauge :=
  (State.logEvent_gauge _ _ _ _ _ _).trans (State.setFlag_gauge _ _)
@[simp] theorem State.report_gauge (g : Field) (v : Nat) (d : List Byte) : (s.report g v d).gauge = s.gauge :=
  (State.logEvent_gauge _ _ _ _ _ _).trans (State.setFlag_gauge _ _)

@[simp] theorem State.compose_tio (c : Nat) (b : List Byte) : (s.compose c b).tio = s.tio := rfl
@[simp] theorem State.stageFill_tio : s.stageFill.tio = s.tio := rfl
@[simp] theorem State.setStaging_tio (l : List LogRec) : (s.setStaging l).tio = s.tio := rfl
@[simp] theorem State.merge_tio (r : LogRec) : (s.merge r).tio = s.tio := rfl
@[simp] theorem State.numbered_tio (v : Nat) : (s.numbered v).tio = s.tio := by unfold State.numbered; split <;> rfl
@[simp] theorem State.dropRecord_tio (r : LogRec) : (s.dropRecord r).tio = s.tio := by
  unfold State.dropRecord; split <;> simp
@[simp] theorem State.place_tio (r : LogRec) : (s.place r).tio = s.tio := by unfold State.place; dsimp only; split <;> simp
@[simp] theorem State.stageNew_tio (c v u : Nat) (d : List Byte) (b : Bool) : (s.stageNew c v u d b).tio = s.tio := by
  unfold State.stageNew; split <;> simp
@[simp] theorem State.logEvent_tio (c v u : Nat) (d : List Byte) (b : Bool) : (s.logEvent c v u d b).tio = s.tio := by
  unfold State.logEvent; dsimp only; split
  · rfl
  · split
    · split <;> simp
    · simp
@[simp] theorem State.raise_tio (g : Field) (v : Nat) (d : List Byte) : (s.raise g v d).tio = s.tio :=
  (State.logEvent_tio _ _ _ _ _ _).trans (State.setFlag_tio _ _)
@[simp] theorem State.report_tio (g : Field) (v : Nat) (d : List Byte) : (s.report g v d).tio = s.tio :=
  (State.logEvent_tio _ _ _ _ _ _).trans (State.setFlag_tio _ _)

@[simp] theorem State.compose_book (c : Nat) (b : List Byte) : (s.compose c b).book = s.book := rfl
@[simp] theorem State.stageFill_book : s.stageFill.book = s.book := rfl
@[simp] theorem State.setStaging_book (l : List LogRec) : (s.setStaging l).book = s.book := rfl
@[simp] theorem State.merge_book (r : LogRec) : (s.merge r).book = s.book := rfl
@[simp] theorem State.numbered_book (v : Nat) : (s.numbered v).book = s.book := by unfold State.numbered; split <;> rfl
@[simp] theorem State.dropRecord_book (r : LogRec) : (s.dropRecord r).book = s.book := by
  unfold State.dropRecord; split <;> simp
@[simp] theorem State.place_book (r : LogRec) : (s.place r).book = s.book := by unfold State.place; dsimp only; split <;> simp
@[simp] theorem State.stageNew_book (c v u : Nat) (d : List Byte) (b : Bool) : (s.stageNew c v u d b).book = s.book := by
  unfold State.stageNew; split <;> simp
@[simp] theorem State.logEvent_book (c v u : Nat) (d : List Byte) (b : Bool) : (s.logEvent c v u d b).book = s.book := by
  unfold State.logEvent; dsimp only; split
  · rfl
  · split
    · split <;> simp
    · simp
@[simp] theorem State.raise_book (g : Field) (v : Nat) (d : List Byte) : (s.raise g v d).book = s.book :=
  (State.logEvent_book _ _ _ _ _ _).trans (State.setFlag_book _ _)
@[simp] theorem State.report_book (g : Field) (v : Nat) (d : List Byte) : (s.report g v d).book = s.book :=
  (State.logEvent_book _ _ _ _ _ _).trans (State.setFlag_book _ _)

@[simp] theorem State.compose_fab (c : Nat) (b : List Byte) : (s.compose c b).fab = s.fab := rfl
@[simp] theorem State.stageFill_fab : s.stageFill.fab = s.fab := rfl
@[simp] theorem State.setStaging_fab (l : List LogRec) : (s.setStaging l).fab = s.fab := rfl
@[simp] theorem State.merge_fab (r : LogRec) : (s.merge r).fab = s.fab := rfl
@[simp] theorem State.numbered_fab (v : Nat) : (s.numbered v).fab = s.fab := by unfold State.numbered; split <;> rfl
@[simp] theorem State.dropRecord_fab (r : LogRec) : (s.dropRecord r).fab = s.fab := by
  unfold State.dropRecord; split <;> simp
@[simp] theorem State.place_fab (r : LogRec) : (s.place r).fab = s.fab := by unfold State.place; dsimp only; split <;> simp
@[simp] theorem State.stageNew_fab (c v u : Nat) (d : List Byte) (b : Bool) : (s.stageNew c v u d b).fab = s.fab := by
  unfold State.stageNew; split <;> simp
@[simp] theorem State.logEvent_fab (c v u : Nat) (d : List Byte) (b : Bool) : (s.logEvent c v u d b).fab = s.fab := by
  unfold State.logEvent; dsimp only; split
  · rfl
  · split
    · split <;> simp
    · simp
@[simp] theorem State.raise_fab (g : Field) (v : Nat) (d : List Byte) : (s.raise g v d).fab = s.fab :=
  (State.logEvent_fab _ _ _ _ _ _).trans (State.setFlag_fab _ _)
@[simp] theorem State.report_fab (g : Field) (v : Nat) (d : List Byte) : (s.report g v d).fab = s.fab :=
  (State.logEvent_fab _ _ _ _ _ _).trans (State.setFlag_fab _ _)

@[simp] theorem State.compose_comp (c : Nat) (b : List Byte) : (s.compose c b).comp = s.comp := rfl
@[simp] theorem State.stageFill_comp : s.stageFill.comp = s.comp := rfl
@[simp] theorem State.setStaging_comp (l : List LogRec) : (s.setStaging l).comp = s.comp := rfl
@[simp] theorem State.merge_comp (r : LogRec) : (s.merge r).comp = s.comp := rfl
@[simp] theorem State.numbered_comp (v : Nat) : (s.numbered v).comp = s.comp := by unfold State.numbered; split <;> rfl
@[simp] theorem State.dropRecord_comp (r : LogRec) : (s.dropRecord r).comp = s.comp := by
  unfold State.dropRecord; split <;> simp
@[simp] theorem State.place_comp (r : LogRec) : (s.place r).comp = s.comp := by unfold State.place; dsimp only; split <;> simp
@[simp] theorem State.stageNew_comp (c v u : Nat) (d : List Byte) (b : Bool) : (s.stageNew c v u d b).comp = s.comp := by
  unfold State.stageNew; split <;> simp
@[simp] theorem State.logEvent_comp (c v u : Nat) (d : List Byte) (b : Bool) : (s.logEvent c v u d b).comp = s.comp := by
  unfold State.logEvent; dsimp only; split
  · rfl
  · split
    · split <;> simp
    · simp
@[simp] theorem State.raise_comp (g : Field) (v : Nat) (d : List Byte) : (s.raise g v d).comp = s.comp :=
  (State.logEvent_comp _ _ _ _ _ _).trans (State.setFlag_comp _ _)
@[simp] theorem State.report_comp (g : Field) (v : Nat) (d : List Byte) : (s.report g v d).comp = s.comp :=
  (State.logEvent_comp _ _ _ _ _ _).trans (State.setFlag_comp _ _)

@[simp] theorem State.compose_ulk (c : Nat) (b : List Byte) : (s.compose c b).ulk = s.ulk := rfl
@[simp] theorem State.stageFill_ulk : s.stageFill.ulk = s.ulk := rfl
@[simp] theorem State.setStaging_ulk (l : List LogRec) : (s.setStaging l).ulk = s.ulk := rfl
@[simp] theorem State.merge_ulk (r : LogRec) : (s.merge r).ulk = s.ulk := rfl
@[simp] theorem State.numbered_ulk (v : Nat) : (s.numbered v).ulk = s.ulk := by unfold State.numbered; split <;> rfl
@[simp] theorem State.dropRecord_ulk (r : LogRec) : (s.dropRecord r).ulk = s.ulk := by
  unfold State.dropRecord; split <;> simp
@[simp] theorem State.place_ulk (r : LogRec) : (s.place r).ulk = s.ulk := by unfold State.place; dsimp only; split <;> simp
@[simp] theorem State.stageNew_ulk (c v u : Nat) (d : List Byte) (b : Bool) : (s.stageNew c v u d b).ulk = s.ulk := by
  unfold State.stageNew; split <;> simp
@[simp] theorem State.logEvent_ulk (c v u : Nat) (d : List Byte) (b : Bool) : (s.logEvent c v u d b).ulk = s.ulk := by
  unfold State.logEvent; dsimp only; split
  · rfl
  · split
    · split <;> simp
    · simp
@[simp] theorem State.raise_ulk (g : Field) (v : Nat) (d : List Byte) : (s.raise g v d).ulk = s.ulk :=
  (State.logEvent_ulk _ _ _ _ _ _).trans (State.setFlag_ulk _ _)
@[simp] theorem State.report_ulk (g : Field) (v : Nat) (d : List Byte) : (s.report g v d).ulk = s.ulk :=
  (State.logEvent_ulk _ _ _ _ _ _).trans (State.setFlag_ulk _ _)

@[simp] theorem State.compose_mbx (c : Nat) (b : List Byte) : (s.compose c b).mbx = s.mbx := rfl
@[simp] theorem State.stageFill_mbx : s.stageFill.mbx = s.mbx := rfl
@[simp] theorem State.setStaging_mbx (l : List LogRec) : (s.setStaging l).mbx = s.mbx := rfl
@[simp] theorem State.merge_mbx (r : LogRec) : (s.merge r).mbx = s.mbx := rfl
@[simp] theorem State.numbered_mbx (v : Nat) : (s.numbered v).mbx = s.mbx := by unfold State.numbered; split <;> rfl
@[simp] theorem State.dropRecord_mbx (r : LogRec) : (s.dropRecord r).mbx = s.mbx := by
  unfold State.dropRecord; split <;> simp
@[simp] theorem State.place_mbx (r : LogRec) : (s.place r).mbx = s.mbx := by unfold State.place; dsimp only; split <;> simp
@[simp] theorem State.stageNew_mbx (c v u : Nat) (d : List Byte) (b : Bool) : (s.stageNew c v u d b).mbx = s.mbx := by
  unfold State.stageNew; split <;> simp
@[simp] theorem State.logEvent_mbx (c v u : Nat) (d : List Byte) (b : Bool) : (s.logEvent c v u d b).mbx = s.mbx := by
  unfold State.logEvent; dsimp only; split
  · rfl
  · split
    · split <;> simp
    · simp
@[simp] theorem State.raise_mbx (g : Field) (v : Nat) (d : List Byte) : (s.raise g v d).mbx = s.mbx :=
  (State.logEvent_mbx _ _ _ _ _ _).trans (State.setFlag_mbx _ _)
@[simp] theorem State.report_mbx (g : Field) (v : Nat) (d : List Byte) : (s.report g v d).mbx = s.mbx :=
  (State.logEvent_mbx _ _ _ _ _ _).trans (State.setFlag_mbx _ _)

@[simp] theorem State.compose_patch (c : Nat) (b : List Byte) : (s.compose c b).patch = s.patch := rfl
@[simp] theorem State.stageFill_patch : s.stageFill.patch = s.patch := rfl
@[simp] theorem State.setStaging_patch (l : List LogRec) : (s.setStaging l).patch = s.patch := rfl
@[simp] theorem State.merge_patch (r : LogRec) : (s.merge r).patch = s.patch := rfl
@[simp] theorem State.numbered_patch (v : Nat) : (s.numbered v).patch = s.patch := by unfold State.numbered; split <;> rfl
@[simp] theorem State.dropRecord_patch (r : LogRec) : (s.dropRecord r).patch = s.patch := by
  unfold State.dropRecord; split <;> simp
@[simp] theorem State.place_patch (r : LogRec) : (s.place r).patch = s.patch := by unfold State.place; dsimp only; split <;> simp
@[simp] theorem State.stageNew_patch (c v u : Nat) (d : List Byte) (b : Bool) : (s.stageNew c v u d b).patch = s.patch := by
  unfold State.stageNew; split <;> simp
@[simp] theorem State.logEvent_patch (c v u : Nat) (d : List Byte) (b : Bool) : (s.logEvent c v u d b).patch = s.patch := by
  unfold State.logEvent; dsimp only; split
  · rfl
  · split
    · split <;> simp
    · simp
@[simp] theorem State.raise_patch (g : Field) (v : Nat) (d : List Byte) : (s.raise g v d).patch = s.patch :=
  (State.logEvent_patch _ _ _ _ _ _).trans (State.setFlag_patch _ _)
@[simp] theorem State.report_patch (g : Field) (v : Nat) (d : List Byte) : (s.report g v d).patch = s.patch :=
  (State.logEvent_patch _ _ _ _ _ _).trans (State.setFlag_patch _ _)

/-! ### An event of a flag (R476, R490) -/

/-- A flag's event sets the flag. -/
theorem State.raise_rd_self {f : Field} (v : Nat) (d : List Byte) (hw : f.width = 1) (hl : f.lo ≠ 24)
    (h : f.key ∉ recorderFields.map Field.key) : (s.raise f v d).rd f = 1 := by
  rw [State.raise, State.logEvent_rd _ _ _ _ _ _ h, State.rd_setFlag_self s hw hl]

/-- A flag's event advances its register's SEQ. -/
theorem State.raise_rd_seq {f : Field} (v : Nat) (d : List Byte) (hl : f.lo ≠ 24)
    (h : (seqOf f).key ∉ recorderFields.map Field.key) :
    (s.raise f v d).rd (seqOf f) = (s.rd (seqOf f) + 1) % 256 := by
  rw [State.raise, State.logEvent_rd _ _ _ _ _ _ h, State.rd_setFlag_seq s hl]

theorem State.raise_rd_ne {f g : Field} (v : Nat) (d : List Byte) (hf : g.key ≠ f.key) (hs : g.key ≠ (seqOf f).key)
    (h : g.key ∉ recorderFields.map Field.key) : (s.raise f v d).rd g = s.rd g := by
  rw [State.raise, State.logEvent_rd _ _ _ _ _ _ h, State.rd_setFlag_ne s hf hs]

/-- A flag's event writes the flag, its SEQ and the recorder's own fields. -/
theorem State.raise_regsBut {f : Field} (v : Nat) (d : List Byte) {l : List Field} (hf : f ∈ l) (hs : seqOf f ∈ l)
    (hr : ∀ g ∈ recorderFields, g ∈ l) : s.regsBut (s.raise f v d) l :=
  State.regsBut_trans (State.setFlag_regsBut s hf hs) (State.regsBut_mono (State.logEvent_regsBut _ _ _ _ _ _) hr)

theorem State.place_sys (r : LogRec) : (s.place r).sys = s.sys := by
  unfold State.place; dsimp only; split
  · rfl
  · unfold State.dropRecord; split <;> (simp; rfl)

theorem State.stageNew_sys (c v u : Nat) (d : List Byte) (b : Bool) (hv : v ≠ 3) : (s.stageNew c v u d b).sys = s.sys := by
  have h : ((s.numbered v).place (s.newRecord c v u d)).stageFill.sys = s.sys := by
    rw [State.stageFill, State.wr_sys, State.place_sys, State.numbered, if_neg hv]
  unfold State.stageNew; split <;> exact h

theorem State.logEvent_sys (c v u : Nat) (d : List Byte) (b : Bool) (hv : v ≠ 3) : (s.logEvent c v u d b).sys = s.sys := by
  unfold State.logEvent
  dsimp only
  split
  · rfl
  · split
    · split
      · rfl
      · exact State.stageNew_sys _ _ _ _ _ _ hv
    · exact State.stageNew_sys _ _ _ _ _ _ hv

theorem State.raise_sys (g : Field) (v : Nat) (d : List Byte) (hv : v ≠ 3) : (s.raise g v d).sys = s.sys :=
  (State.logEvent_sys _ _ _ _ _ _ hv).trans (State.setFlag_sys _ _)

/-- What an event that is not FATAL leaves alone, in one equation. -/
theorem State.raise_frame (g : Field) (v : Nat) (d : List Byte) (hv : v ≠ 3) :
    s.raise g v d = { s with regs := (s.raise g v d).regs, log := (s.raise g v d).log, notices := (s.raise g v d).notices } := by
  have h := State.raise_sys s g v d hv
  generalize ht : s.raise g v d = t at h
  have e : ∀ {α : Type} (p : State → α), p (s.raise g v d) = p s → p t = p s := fun p h => ht ▸ h
  cases t
  simp only [State.mk.injEq]
  exact ⟨e State.pending (by simp), e State.now (by simp), e State.freeCount (by simp), trivial, e State.shadow (by simp),
    e State.wrote (by simp), e State.asym (by simp), e State.gauge (by simp), e State.tio (by simp), e State.book (by simp),
    e State.fab (by simp), h, e State.comp (by simp), e State.ulk (by simp), e State.mbx (by simp), trivial, trivial,
    e State.patch (by simp)⟩

end Sys2Proof.Machine
end

