-- ==== Sys2Proof/Laws/Exec.lean ====
section
/-! SUPPORT. Each command is its own meaning: one lemma for each constructor, so that no proof unfolds the dispatch. -/
namespace Sys2Proof.Machine
open Sys2Proof

variable (s : State)

@[simp] theorem exec_frameBoundary (frame : Nat) (powers : List PortPower) : exec (.frameBoundary frame powers) s = execFrameBoundary frame powers s := rfl
@[simp] theorem exec_slotGateRise (copper : Bool) : exec (.slotGateRise copper) s = execSlotGateRise copper s := rfl
@[simp] theorem exec_refplsEdge (d : Dom) (t : Nat) : exec (.refplsEdge d t) s = execRefplsEdge d t s := rfl
@[simp] theorem exec_pulseWindowClose (d : Dom) (frame : Nat) : exec (.pulseWindowClose d frame) s = execPulseWindowClose d frame s := rfl
@[simp] theorem exec_domainQualify (d : Dom) (ppm : Bool) : exec (.domainQualify d ppm) s = execDomainQualify d ppm s := rfl
@[simp] theorem exec_domainDisqualify (d : Dom) (ppm : Bool) : exec (.domainDisqualify d ppm) s = execDomainDisqualify d ppm s := rfl
@[simp] theorem exec_gearComplete : exec (.gearComplete) s = execGearComplete s := rfl
@[simp] theorem exec_disagreement : exec (.disagreement) s = execDisagreement s := rfl
@[simp] theorem exec_revert : exec (.revert) s = execRevert s := rfl
@[simp] theorem exec_refclkGap (d : Dom) (t : Nat) : exec (.refclkGap d t) s = execRefclkGap d t s := rfl
@[simp] theorem exec_dcoLock (d : Dom) (t : Nat) : exec (.dcoLock d t) s = execDcoLock d t s := rfl
@[simp] theorem exec_settleEntry (t : Nat) : exec (.settleEntry t) s = execSettleEntry t s := rfl
@[simp] theorem exec_reseat : exec (.reseat) s = execReseat s := rfl
@[simp] theorem exec_toA : exec (.toA) s = execToA s := rfl
@[simp] theorem exec_toB : exec (.toB) s = execToB s := rfl
@[simp] theorem exec_loopHold (hold : Bool) : exec (.loopHold hold) s = execLoopHold hold s := rfl
@[simp] theorem exec_gaugeCoefWrite (trk : Bool) (value : BitVec 32) : exec (.gaugeCoefWrite trk value) s = execGaugeCoefWrite trk value s := rfl
@[simp] theorem exec_sync (p : Dom) (t : Nat) (twoStep : Bool) (domain : Nat) (sender : Nat) (seqId : Nat) : exec (.sync p t twoStep domain sender seqId) s = execSync p t twoStep domain sender seqId s := rfl
@[simp] theorem exec_followUp (p : Dom) (t : Nat) (domain : Nat) (sender : Nat) (seqId : Nat) (origin : Nat) : exec (.followUp p t domain sender seqId origin) s = execFollowUp p t domain sender seqId origin s := rfl
@[simp] theorem exec_delayReq (p : Dom) (t : Nat) (seqId : Nat) : exec (.delayReq p t seqId) s = execDelayReq p t seqId s := rfl
@[simp] theorem exec_delayResp (p : Dom) (t : Nat) (domain : Nat) (seqId : Nat) (receive : Nat) : exec (.delayResp p t domain seqId receive) s = execDelayResp p t domain seqId receive s := rfl
@[simp] theorem exec_announce (p : Dom) (t : Nat) (domain : Nat) (m : AnnounceMsg) : exec (.announce p t domain m) s = execAnnounce p t domain m s := rfl
@[simp] theorem exec_announceReceiptTimeout (p : Dom) (t : Nat) : exec (.announceReceiptTimeout p t) s = execAnnounceReceiptTimeout p t s := rfl
@[simp] theorem exec_ptpSampleTimeout (p : Dom) (t : Nat) : exec (.ptpSampleTimeout p t) s = execPtpSampleTimeout p t s := rfl
@[simp] theorem exec_tpoArm (n : Fin 8) : exec (.tpoArm n) s = execTpoArm n s := rfl
@[simp] theorem exec_tpoDisarm (n : Fin 8) : exec (.tpoDisarm n) s = execTpoDisarm n s := rfl
@[simp] theorem exec_tpoConfigWrite (n : Fin 8) (reg : TpoReg) (value : BitVec 32) : exec (.tpoConfigWrite n reg value) s = execTpoConfigWrite n reg value s := rfl
@[simp] theorem exec_tpoStartWrite (n : Fin 8) (hi : Bool) (value : BitVec 32) : exec (.tpoStartWrite n hi value) s = execTpoStartWrite n hi value s := rfl
@[simp] theorem exec_tpoEdgeCommit (n : Fin 8) (t : Nat) : exec (.tpoEdgeCommit n t) s = execTpoEdgeCommit n t s := rfl
@[simp] theorem exec_tpoEdge (n : Fin 8) (t : Nat) : exec (.tpoEdge n t) s = execTpoEdge n t s := rfl
@[simp] theorem exec_tpoIdleReturn (n : Fin 8) (t : Nat) : exec (.tpoIdleReturn n t) s = execTpoIdleReturn n t s := rfl
@[simp] theorem exec_tciEdge (n : Fin 4) (t : Nat) (rising : Bool) : exec (.tciEdge n t rising) s = execTciEdge n t rising s := rfl
@[simp] theorem exec_tciCapSelect (n : Fin 4) (b : Bank) : exec (.tciCapSelect n b) s = execTciCapSelect n b s := rfl
@[simp] theorem exec_txqSelect (p : Dom) (b : Bank) : exec (.txqSelect p b) s = execTxqSelect p b s := rfl
@[simp] theorem exec_jobStartTrigger (j : Fin 8) (t : Nat) : exec (.jobStartTrigger j t) s = execJobStartTrigger j t s := rfl
@[simp] theorem exec_jigCycleBoundary (k : Nat) : exec (.jigCycleBoundary k) s = execJigCycleBoundary k s := rfl
@[simp] theorem exec_conversionStart (c j : Nat) : exec (.conversionStart c j) s = execConversionStart c j s := rfl
@[simp] theorem exec_conversionResult (die : Fin 2) (rs : List ChannelResult) : exec (.conversionResult die rs) s = execConversionResult die rs s := rfl
@[simp] theorem exec_jigCompute (c : Nat) (ms : List LoopMeas) (voltA voltB : BitVec 16) : exec (.jigCompute c ms voltA voltB) s = execJigCompute c ms voltA voltB s := rfl
@[simp] theorem exec_ringJumpDone (l : Fin 176) : exec (.ringJumpDone l) s = execRingJumpDone l s := rfl
@[simp] theorem exec_ringLock (l : Fin 176) : exec (.ringLock l) s = execRingLock l s := rfl
@[simp] theorem exec_ringCaptureLimit (l : Fin 176) : exec (.ringCaptureLimit l) s = execRingCaptureLimit l s := rfl
@[simp] theorem exec_ringUnlock (l : Fin 176) : exec (.ringUnlock l) s = execRingUnlock l s := rfl
@[simp] theorem exec_ringWindowFail (l : Fin 176) : exec (.ringWindowFail l) s = execRingWindowFail l s := rfl
@[simp] theorem exec_ringClampFault (l : Fin 176) : exec (.ringClampFault l) s = execRingClampFault l s := rfl
@[simp] theorem exec_heaterCompliance (l : Fin 176) : exec (.heaterCompliance l) s = execHeaterCompliance l s := rfl
@[simp] theorem exec_takeoverRelease (p : Fin 16) : exec (.takeoverRelease p) s = execTakeoverRelease p s := rfl
@[simp] theorem exec_mislockCountReset (l : Fin 176) (t : Nat) : exec (.mislockCountReset l t) s = execMislockCountReset l t s := rfl
@[simp] theorem exec_verifyProbeSend (p : Fin 16) (n : Nat) : exec (.verifyProbeSend p n) s = execVerifyProbeSend p n s := rfl
@[simp] theorem exec_verifyTimeout (l : Fin 176) (t : Nat) : exec (.verifyTimeout l t) s = execVerifyTimeout l t s := rfl
@[simp] theorem exec_lCmdHold (b : Bank) : exec (.lCmdHold b) s = execLCmdHold b s := rfl
@[simp] theorem exec_lCmdRelease (b : Bank) : exec (.lCmdRelease b) s = execLCmdRelease b s := rfl
@[simp] theorem exec_lCmdJump (b : Bank) : exec (.lCmdJump b) s = execLCmdJump b s := rfl
@[simp] theorem exec_lCmdSweep (b : Bank) : exec (.lCmdSweep b) s = execLCmdSweep b s := rfl
@[simp] theorem exec_lCmdReset (b : Bank) : exec (.lCmdReset b) s = execLCmdReset b s := rfl
@[simp] theorem exec_jigCoefWrite (b : Bank) (dith : Bool) (value : BitVec 32) : exec (.jigCoefWrite b dith value) s = execJigCoefWrite b dith value s := rfl
@[simp] theorem exec_cmatCommit (engines : BitVec 4) : exec (.cmatCommit engines) s = execCmatCommit engines s := rfl
@[simp] theorem exec_cmatCopy (engines : BitVec 4) : exec (.cmatCopy engines) s = execCmatCopy engines s := rfl
@[simp] theorem exec_postedWriteDone (d : Fin 2) : exec (.postedWriteDone d) s = execPostedWriteDone d s := rfl
@[simp] theorem exec_slotCutoff (n : Nat) : exec (.slotCutoff n) s = execSlotCutoff n s := rfl
@[simp] theorem exec_slotStart (n : Nat) (res : List (Nat × Int)) : exec (.slotStart n res) s = execSlotStart n res s := rfl
@[simp] theorem exec_slotEnd (n : Nat) : exec (.slotEnd n) s = execSlotEnd n s := rfl
@[simp] theorem exec_slotArrival (l : Fin 22) (n : Nat) (a : Arrival) : exec (.slotArrival l n a) s = execSlotArrival l n a s := rfl
@[simp] theorem exec_phaseCacheInvalid (p : Fin 16) (j : Fin 32) : exec (.phaseCacheInvalid p j) s = execPhaseCacheInvalid p j s := rfl
@[simp] theorem exec_headerDecode (l : Fin 22) (n : Nat) (w : Codeword) (delay : Int) (f : FifoFault) (ups : List Upset) : exec (.headerDecode l n w delay f ups) s = execHeaderDecode l n w delay f ups s := rfl
@[simp] theorem exec_codewordDecode (l : Fin 22) (n word : Nat) (w : Codeword) (f : FifoFault) (ups : List Upset) : exec (.codewordDecode l n word w f ups) s = execCodewordDecode l n word w f ups s := rfl
@[simp] theorem exec_relayCommit (l : Fin 22) (n : Nat) : exec (.relayCommit l n) s = execRelayCommit l n s := rfl
@[simp] theorem exec_tblHiWrite (value : BitVec 32) : exec (.tblHiWrite value) s = execTblHiWrite value s := rfl
@[simp] theorem exec_leafRegisterWrite (reg : LeafReg) (value : BitVec 32) : exec (.leafRegisterWrite reg value) s = execLeafRegisterWrite reg value s := rfl
@[simp] theorem exec_pbLoad : exec (.pbLoad) s = execPbLoad s := rfl
@[simp] theorem exec_leafLoadDone (ups : List Upset) : exec (.leafLoadDone ups) s = execLeafLoadDone ups s := rfl
@[simp] theorem exec_pbClear : exec (.pbClear) s = execPbClear s := rfl
@[simp] theorem exec_pbCheck : exec (.pbCheck) s = execPbCheck s := rfl
@[simp] theorem exec_checkComplete (ups : List LeafUpset) : exec (.checkComplete ups) s = execCheckComplete ups s := rfl
@[simp] theorem exec_pbArm : exec (.pbArm) s = execPbArm s := rfl
@[simp] theorem exec_pbCancel : exec (.pbCancel) s = execPbCancel s := rfl
@[simp] theorem exec_switchDecision (slot : Nat) : exec (.switchDecision slot) s = execSwitchDecision slot s := rfl
@[simp] theorem exec_leafSwitch (slot : Nat) : exec (.leafSwitch slot) s = execLeafSwitch slot s := rfl
@[simp] theorem exec_pbScrub (ups : List LeafUpset) : exec (.pbScrub ups) s = execPbScrub ups s := rfl
@[simp] theorem exec_wardrobeWrite (p : Fin 16) (hi : Bool) (value : BitVec 32) : exec (.wardrobeWrite p hi value) s = execWardrobeWrite p hi value s := rfl
@[simp] theorem exec_spareWrite (p : Fin 16) (value : BitVec 32) : exec (.spareWrite p value) s = execSpareWrite p value s := rfl
@[simp] theorem exec_probeGo (e : Fin 4) (value : BitVec 32) : exec (.probeGo e value) s = execProbeGo e value s := rfl
@[simp] theorem exec_probeSend (p : Fin 16) (n : Nat) : exec (.probeSend p n) s = execProbeSend p n s := rfl
@[simp] theorem exec_probeRx (p : Fin 16) (n : Nat) (phase : BitVec 6) (gain : BitVec 4) (w : Codeword) : exec (.probeRx p n phase gain w) s = execProbeRx p n phase gain w s := rfl
@[simp] theorem exec_probeReplyRx (p : Fin 16) (n : Nat) (w : Codeword) : exec (.probeReplyRx p n w) s = execProbeReplyRx p n w s := rfl
@[simp] theorem exec_probeNoReply (p : Fin 16) (n : Nat) : exec (.probeNoReply p n) s = execProbeNoReply p n s := rfl
@[simp] theorem exec_probeNotSent (e : Fin 4) (t : Nat) : exec (.probeNotSent e t) s = execProbeNotSent e t s := rfl
@[simp] theorem exec_rcbStageWrite (p : Fin 16) (hi : Bool) (value : BitVec 32) : exec (.rcbStageWrite p hi value) s = execRcbStageWrite p hi value s := rfl
@[simp] theorem exec_rcbArm : exec (.rcbArm) s = execRcbArm s := rfl
@[simp] theorem exec_rcbCancel : exec (.rcbCancel) s = execRcbCancel s := rfl
@[simp] theorem exec_recableStart : exec (.recableStart) s = execRecableStart s := rfl
@[simp] theorem exec_recablePhase : exec (.recablePhase) s = execRecablePhase s := rfl
@[simp] theorem exec_learningSlot (n : Nat) (found : List (Nat × Nat × Nat)) : exec (.learningSlot n found) s = execLearningSlot n found s := rfl
@[simp] theorem exec_recableEnd : exec (.recableEnd) s = execRecableEnd s := rfl
@[simp] theorem exec_ringReplace (p : Fin 16) (n : Fin 8) : exec (.ringReplace p n) s = execRingReplace p n s := rfl
@[simp] theorem exec_channelFaultSpare (monitor : Bool) (l : Fin 176) : exec (.channelFaultSpare monitor l) s = execChannelFaultSpare monitor l s := rfl
@[simp] theorem exec_portFailed (p : Fin 16) : exec (.portFailed p) s = execPortFailed p s := rfl
@[simp] theorem exec_laserLevelUp (src : Fin 2) : exec (.laserLevelUp src) s = execLaserLevelUp src s := rfl
@[simp] theorem exec_laserLevelDown (src : Fin 2) : exec (.laserLevelDown src) s = execLaserLevelDown src s := rfl
@[simp] theorem exec_spareReady (src : Fin 2) (ready fault : Bool) : exec (.spareReady src ready fault) s = execSpareReady src ready fault s := rfl
@[simp] theorem exec_spareWarmTimeout (src : Fin 2) (warm : BitVec 8) : exec (.spareWarmTimeout src warm) s = execSpareWarmTimeout src warm s := rfl
@[simp] theorem exec_spareMeasurePort (src : Fin 2) (offset : Int) : exec (.spareMeasurePort src offset) s = execSpareMeasurePort src offset s := rfl
@[simp] theorem exec_spareInRetry (src : Fin 2) : exec (.spareInRetry src) s = execSpareInRetry src s := rfl
@[simp] theorem exec_laserFlip (src : Fin 2) (n : Nat) : exec (.laserFlip src n) s = execLaserFlip src n s := rfl
@[simp] theorem exec_flipTrackStep (src : Fin 2) : exec (.flipTrackStep src) s = execFlipTrackStep src s := rfl
@[simp] theorem exec_lostTrackRestart (src : Fin 2) (volt : BitVec 16) : exec (.lostTrackRestart src volt) s = execLostTrackRestart src volt s := rfl
@[simp] theorem exec_lsrForce (src : Fin 2) : exec (.lsrForce src) s = execLsrForce src s := rfl
@[simp] theorem exec_lsrAbort (src : Fin 2) : exec (.lsrAbort src) s = execLsrAbort src s := rfl
@[simp] theorem exec_fabricStop (t : Nat) : exec (.fabricStop t) s = execFabricStop t s := rfl
@[simp] theorem exec_neighbourLost (l : Fin 22) (j : Fin 32) : exec (.neighbourLost l j) s = execNeighbourLost l j s := rfl
@[simp] theorem exec_calTempTrigger (copper : Bool) (u : Fin 6) (temp : Int) : exec (.calTempTrigger copper u temp) s = execCalTempTrigger copper u temp s := rfl
@[simp] theorem exec_calIntervalTrigger (kind : BitVec 4) (unit : BitVec 12) (t : Nat) : exec (.calIntervalTrigger kind unit t) s = execCalIntervalTrigger kind unit t s := rfl
@[simp] theorem exec_calRun (kind : BitVec 4) (unit : BitVec 12) : exec (.calRun kind unit) s = execCalRun kind unit s := rfl
@[simp] theorem exec_calUnitStart (cu : Bool) : exec (.calUnitStart cu) s = execCalUnitStart cu s := rfl
@[simp] theorem exec_calRunComplete (cu : Bool) (r : CalResult) : exec (.calRunComplete cu r) s = execCalRunComplete cu r s := rfl
@[simp] theorem exec_calLockTimeout : exec (.calLockTimeout) s = execCalLockTimeout s := rfl
@[simp] theorem exec_calSave : exec (.calSave) s = execCalSave s := rfl
@[simp] theorem exec_calAutoSave (t : Nat) : exec (.calAutoSave t) s = execCalAutoSave t s := rfl
@[simp] theorem exec_calSaveComplete (good : Bool) : exec (.calSaveComplete good) s = execCalSaveComplete good s := rfl
@[simp] theorem exec_calRestore : exec (.calRestore) s = execCalRestore s := rfl
@[simp] theorem exec_calAbort : exec (.calAbort) s = execCalAbort s := rfl
@[simp] theorem exec_restoreWaitExpiry : exec (.restoreWaitExpiry) s = execRestoreWaitExpiry s := rfl
@[simp] theorem exec_cuDownDelay (k : Fin 6) : exec (.cuDownDelay k) s = execCuDownDelay k s := rfl
@[simp] theorem exec_cuSignalDetect (k : Fin 6) (lanes : BitVec 9) : exec (.cuSignalDetect k lanes) s = execCuSignalDetect k lanes s := rfl
@[simp] theorem exec_cuDetectTimeout (k : Fin 6) : exec (.cuDetectTimeout k) s = execCuDetectTimeout k s := rfl
@[simp] theorem exec_cuTrainAdapted (k : Fin 6) (lanes : BitVec 9) : exec (.cuTrainAdapted k lanes) s = execCuTrainAdapted k lanes s := rfl
@[simp] theorem exec_cuTrainTimeout (k : Fin 6) : exec (.cuTrainTimeout k) s = execCuTrainTimeout k s := rfl
@[simp] theorem exec_cuIdentRx (k : Fin 6) (b : IdBlock) (ls : List LaneId) : exec (.cuIdentRx k b ls) s = execCuIdentRx k b ls s := rfl
@[simp] theorem exec_cuIdentTimeout (k : Fin 6) : exec (.cuIdentTimeout k) s = execCuIdentTimeout k s := rfl
@[simp] theorem exec_cuAlignDone (k : Fin 6) (lock : BitVec 9) : exec (.cuAlignDone k lock) s = execCuAlignDone k lock s := rfl
@[simp] theorem exec_cuAlignTimeout (k : Fin 6) : exec (.cuAlignTimeout k) s = execCuAlignTimeout k s := rfl
@[simp] theorem exec_cuFramingLoss (k : Fin 6) : exec (.cuFramingLoss k) s = execCuFramingLoss k s := rfl
@[simp] theorem exec_cuQuarantineExit (k : Fin 6) (b : Option IdBlock) : exec (.cuQuarantineExit k b) s = execCuQuarantineExit k b s := rfl
@[simp] theorem exec_cuRetrain (k : Fin 6) : exec (.cuRetrain k) s = execCuRetrain k s := rfl
@[simp] theorem exec_cuSpare (k : Fin 6) (lane : BitVec 4) (perm : Bool) : exec (.cuSpare k lane perm) s = execCuSpare k lane perm s := rfl
@[simp] theorem exec_cuBack (k : Fin 6) (lane : BitVec 4) : exec (.cuBack k lane) s = execCuBack k lane s := rfl
@[simp] theorem exec_handoverPeerCopy (k : Fin 6) (lane : Fin 8) (back : Bool) : exec (.handoverPeerCopy k lane back) s = execHandoverPeerCopy k lane back s := rfl
@[simp] theorem exec_handoverRxSwitch (k : Fin 6) : exec (.handoverRxSwitch k) s = execHandoverRxSwitch k s := rfl
@[simp] theorem exec_laneLockLoss (k : Fin 6) (lane : Fin 8) : exec (.laneLockLoss k lane) s = execLaneLockLoss k lane s := rfl
@[simp] theorem exec_laneWorn (k : Fin 6) (lane : Fin 8) : exec (.laneWorn k lane) s = execLaneWorn k lane s := rfl
@[simp] theorem exec_clStop (c : Fin 2048) : exec (.clStop c) s = execClStop c s := rfl
@[simp] theorem exec_clUngate (c : Fin 2048) : exec (.clUngate c) s = execClUngate c s := rfl
@[simp] theorem exec_clGate (c : Fin 2048) : exec (.clGate c) s = execClGate c s := rfl
@[simp] theorem exec_clQuarantine (c : Fin 2048) : exec (.clQuarantine c) s = execClQuarantine c s := rfl
@[simp] theorem exec_watchdog (c : Fin 2048) (t : Nat) : exec (.watchdog c t) s = execWatchdog c t s := rfl
@[simp] theorem exec_rampStage (c : Fin 2048) (t : Nat) : exec (.rampStage c t) s = execRampStage c t s := rfl
@[simp] theorem exec_clusterSpareAssign (n : Fin 2000) (passed : Bool) : exec (.clusterSpareAssign n passed) s = execClusterSpareAssign n passed s := rfl
@[simp] theorem exec_nop (c : Fin 2048) (upset : Bool) : exec (.nop c upset) s = execNop c upset s := rfl
@[simp] theorem exec_endProg (c : Fin 2048) : exec (.endProg c) s = execEndProg c s := rfl
@[simp] theorem exec_br (c : Fin 2048) : exec (.br c) s = execBr c s := rfl
@[simp] theorem exec_jal (c : Fin 2048) : exec (.jal c) s = execJal c s := rfl
@[simp] theorem exec_jr (c : Fin 2048) : exec (.jr c) s = execJr c s := rfl
@[simp] theorem exec_brk (c : Fin 2048) : exec (.brk c) s = execBrk c s := rfl
@[simp] theorem exec_rdfl (c : Fin 2048) : exec (.rdfl c) s = execRdfl c s := rfl
@[simp] theorem exec_clrfl (c : Fin 2048) : exec (.clrfl c) s = execClrfl c s := rfl
@[simp] theorem exec_aadd (c : Fin 2048) : exec (.aadd c) s = execAadd c s := rfl
@[simp] theorem exec_aaddi (c : Fin 2048) : exec (.aaddi c) s = execAaddi c s := rfl
@[simp] theorem exec_asub (c : Fin 2048) : exec (.asub c) s = execAsub c s := rfl
@[simp] theorem exec_amul (c : Fin 2048) : exec (.amul c) s = execAmul c s := rfl
@[simp] theorem exec_aand (c : Fin 2048) : exec (.aand c) s = execAand c s := rfl
@[simp] theorem exec_aor (c : Fin 2048) : exec (.aor c) s = execAor c s := rfl
@[simp] theorem exec_axor (c : Fin 2048) : exec (.axor c) s = execAxor c s := rfl
@[simp] theorem exec_ashli (c : Fin 2048) : exec (.ashli c) s = execAshli c s := rfl
@[simp] theorem exec_ashri (c : Fin 2048) : exec (.ashri c) s = execAshri c s := rfl
@[simp] theorem exec_amovi (c : Fin 2048) : exec (.amovi c) s = execAmovi c s := rfl
@[simp] theorem exec_acmp (c : Fin 2048) : exec (.acmp c) s = execAcmp c s := rfl
@[simp] theorem exec_acmpi (c : Fin 2048) : exec (.acmpi c) s = execAcmpi c s := rfl
@[simp] theorem exec_pand (c : Fin 2048) : exec (.pand c) s = execPand c s := rfl
@[simp] theorem exec_por (c : Fin 2048) : exec (.por c) s = execPor c s := rfl
@[simp] theorem exec_pxor (c : Fin 2048) : exec (.pxor c) s = execPxor c s := rfl
@[simp] theorem exec_pnot (c : Fin 2048) : exec (.pnot c) s = execPnot c s := rfl
@[simp] theorem exec_pcnt (c : Fin 2048) : exec (.pcnt c) s = execPcnt c s := rfl
@[simp] theorem exec_pfroma (c : Fin 2048) : exec (.pfroma c) s = execPfroma c s := rfl
@[simp] theorem exec_vadd (c : Fin 2048) : exec (.vadd c) s = execVadd c s := rfl
@[simp] theorem exec_vsub (c : Fin 2048) : exec (.vsub c) s = execVsub c s := rfl
@[simp] theorem exec_vmul (c : Fin 2048) : exec (.vmul c) s = execVmul c s := rfl
@[simp] theorem exec_vfma (c : Fin 2048) : exec (.vfma c) s = execVfma c s := rfl
@[simp] theorem exec_vmin (c : Fin 2048) : exec (.vmin c) s = execVmin c s := rfl
@[simp] theorem exec_vmax (c : Fin 2048) : exec (.vmax c) s = execVmax c s := rfl
@[simp] theorem exec_vabs (c : Fin 2048) : exec (.vabs c) s = execVabs c s := rfl
@[simp] theorem exec_vneg (c : Fin 2048) : exec (.vneg c) s = execVneg c s := rfl
@[simp] theorem exec_vexp2 (c : Fin 2048) : exec (.vexp2 c) s = execVexp2 c s := rfl
@[simp] theorem exec_vlog2 (c : Fin 2048) : exec (.vlog2 c) s = execVlog2 c s := rfl
@[simp] theorem exec_vrcp (c : Fin 2048) : exec (.vrcp c) s = execVrcp c s := rfl
@[simp] theorem exec_vrsq (c : Fin 2048) : exec (.vrsq c) s = execVrsq c s := rfl
@[simp] theorem exec_vcmp (c : Fin 2048) : exec (.vcmp c) s = execVcmp c s := rfl
@[simp] theorem exec_vrsum (c : Fin 2048) : exec (.vrsum c) s = execVrsum c s := rfl
@[simp] theorem exec_vrmax (c : Fin 2048) : exec (.vrmax c) s = execVrmax c s := rfl
@[simp] theorem exec_vsel (c : Fin 2048) : exec (.vsel c) s = execVsel c s := rfl
@[simp] theorem exec_viadd (c : Fin 2048) : exec (.viadd c) s = execViadd c s := rfl
@[simp] theorem exec_visub (c : Fin 2048) : exec (.visub c) s = execVisub c s := rfl
@[simp] theorem exec_vimul (c : Fin 2048) : exec (.vimul c) s = execVimul c s := rfl
@[simp] theorem exec_vand (c : Fin 2048) : exec (.vand c) s = execVand c s := rfl
@[simp] theorem exec_vor (c : Fin 2048) : exec (.vor c) s = execVor c s := rfl
@[simp] theorem exec_vxor (c : Fin 2048) : exec (.vxor c) s = execVxor c s := rfl
@[simp] theorem exec_vshl (c : Fin 2048) : exec (.vshl c) s = execVshl c s := rfl
@[simp] theorem exec_vshr (c : Fin 2048) : exec (.vshr c) s = execVshr c s := rfl
@[simp] theorem exec_vsra (c : Fin 2048) : exec (.vsra c) s = execVsra c s := rfl
@[simp] theorem exec_vicmp (c : Fin 2048) : exec (.vicmp c) s = execVicmp c s := rfl
@[simp] theorem exec_vperm (c : Fin 2048) : exec (.vperm c) s = execVperm c s := rfl
@[simp] theorem exec_vlane (c : Fin 2048) : exec (.vlane c) s = execVlane c s := rfl
@[simp] theorem exec_pfromv (c : Fin 2048) : exec (.pfromv c) s = execPfromv c s := rfl
@[simp] theorem exec_vld (c : Fin 2048) (ups : List Upset) : exec (.vld c ups) s = execVld c ups s := rfl
@[simp] theorem exec_vst (c : Fin 2048) : exec (.vst c) s = execVst c s := rfl
@[simp] theorem exec_vbci (c : Fin 2048) : exec (.vbci c) s = execVbci c s := rfl
@[simp] theorem exec_vbca (c : Fin 2048) : exec (.vbca c) s = execVbca c s := rfl
@[simp] theorem exec_vtoa (c : Fin 2048) : exec (.vtoa c) s = execVtoa c s := rfl
@[simp] theorem exec_cvt (c : Fin 2048) : exec (.cvt c) s = execCvt c s := rfl
@[simp] theorem exec_cvtmx (c : Fin 2048) : exec (.cvtmx c) s = execCvtmx c s := rfl
@[simp] theorem exec_cvtxf (c : Fin 2048) : exec (.cvtxf c) s = execCvtxf c s := rfl
@[simp] theorem exec_mma (c : Fin 2048) (ups : List Upset) : exec (.mma c ups) s = execMma c ups s := rfl
@[simp] theorem exec_tzero (c : Fin 2048) : exec (.tzero c) s = execTzero c s := rfl
@[simp] theorem exec_tld (c : Fin 2048) (ups : List Upset) : exec (.tld c ups) s = execTld c ups s := rfl
@[simp] theorem exec_tst (c : Fin 2048) : exec (.tst c) s = execTst c s := rfl
@[simp] theorem exec_trv (c : Fin 2048) : exec (.trv c) s = execTrv c s := rfl
@[simp] theorem exec_vtr (c : Fin 2048) : exec (.vtr c) s = execVtr c s := rfl
@[simp] theorem exec_put (c : Fin 2048) : exec (.put c) s = execPut c s := rfl
@[simp] theorem exec_get (c : Fin 2048) : exec (.get c) s = execGet c s := rfl
@[simp] theorem exec_cpy (c : Fin 2048) : exec (.cpy c) s = execCpy c s := rfl
@[simp] theorem exec_cwait (c : Fin 2048) : exec (.cwait c) s = execCwait c s := rfl
@[simp] theorem exec_qget (c : Fin 2048) : exec (.qget c) s = execQget c s := rfl
@[simp] theorem exec_qcmt (c : Fin 2048) : exec (.qcmt c) s = execQcmt c s := rfl
@[simp] theorem exec_rwait (c : Fin 2048) : exec (.rwait c) s = execRwait c s := rfl
@[simp] theorem exec_rdone (c : Fin 2048) : exec (.rdone c) s = execRdone c s := rfl
@[simp] theorem exec_fwait (c : Fin 2048) : exec (.fwait c) s = execFwait c s := rfl
@[simp] theorem exec_twait (c : Fin 2048) : exec (.twait c) s = execTwait c s := rfl
@[simp] theorem exec_tnow (c : Fin 2048) : exec (.tnow c) s = execTnow c s := rfl
@[simp] theorem exec_gbar (c : Fin 2048) : exec (.gbar c) s = execGbar c s := rfl
@[simp] theorem exec_gred (c : Fin 2048) : exec (.gred c) s = execGred c s := rfl
@[simp] theorem exec_tagDrain (c : Fin 2048) (tag : Fin 8) (ups : List Upset) : exec (.tagDrain c tag ups) s = execTagDrain c tag ups s := rfl
@[simp] theorem exec_externalWaitTimeout (c : Fin 2048) (t : Nat) : exec (.externalWaitTimeout c t) s = execExternalWaitTimeout c t s := rfl
@[simp] theorem exec_qgetWake (who : Waiter) : exec (.qgetWake who) s = execQgetWake who s := rfl
@[simp] theorem exec_rwaitWake (c : Fin 2048) : exec (.rwaitWake c) s = execRwaitWake c s := rfl
@[simp] theorem exec_fwaitWake (c : Fin 2048) : exec (.fwaitWake c) s = execFwaitWake c s := rfl
@[simp] theorem exec_twaitWake (c : Fin 2048) (t : Nat) : exec (.twaitWake c t) s = execTwaitWake c t s := rfl
@[simp] theorem exec_barrierRelease (j : Fin 8) : exec (.barrierRelease j) s = execBarrierRelease j s := rfl
@[simp] theorem exec_tagStallWake (c : Fin 2048) (ups : List Upset) : exec (.tagStallWake c ups) s = execTagStallWake c ups s := rfl
@[simp] theorem exec_cpyQueueWake (c : Fin 2048) : exec (.cpyQueueWake c) s = execCpyQueueWake c s := rfl
@[simp] theorem exec_programLoadDone (j : Fin 8) (ups : List Upset) (t : Nat) : exec (.programLoadDone j ups t) s = execProgramLoadDone j ups t s := rfl
@[simp] theorem exec_copyComplete (e : Fin 80) (ups : List Upset) : exec (.copyComplete e ups) s = execCopyComplete e ups s := rfl
@[simp] theorem exec_cpyProdWrite (n : Fin 12) (value : BitVec 16) : exec (.cpyProdWrite n value) s = execCpyProdWrite n value s := rfl
@[simp] theorem exec_ringConfigWrite (b : Bank) (reg : RingReg) (value : BitVec 32) : exec (.ringConfigWrite b reg value) s = execRingConfigWrite b reg value s := rfl
@[simp] theorem exec_ringClaim (b : Bank) : exec (.ringClaim b) s = execRingClaim b s := rfl
@[simp] theorem exec_ringRelease (b : Bank) (index : BitVec 11) : exec (.ringRelease b index) s = execRingRelease b index s := rfl
@[simp] theorem exec_fellRegisterWrite (b : Bank) (reg : FellReg) (value : BitVec 32) : exec (.fellRegisterWrite b reg value) s = execFellRegisterWrite b reg value s := rfl
@[simp] theorem exec_memScrub (ups : List Upset) : exec (.memScrub ups) s = execMemScrub ups s := rfl
@[simp] theorem exec_completionRecord (j : Fin 8) (t : Nat) : exec (.completionRecord j t) s = execCompletionRecord j t s := rfl
@[simp] theorem exec_gthRecSelect (b : Bank) : exec (.gthRecSelect b) s = execGthRecSelect b s := rfl
@[simp] theorem exec_flitRx (bytes : List Byte) (decoded : Bool) : exec (.flitRx bytes decoded) s = execFlitRx bytes decoded s := rfl
@[simp] theorem exec_rdS (tag : BitVec 12) (line : BitVec 42) (ups : List Upset) : exec (.rdS tag line ups) s = execRdS tag line ups s := rfl
@[simp] theorem exec_rdO (tag : BitVec 12) (line : BitVec 42) (ups : List Upset) : exec (.rdO tag line ups) s = execRdO tag line ups s := rfl
@[simp] theorem exec_rdNc (tag : BitVec 12) (line : BitVec 42) (ups : List Upset) : exec (.rdNc tag line ups) s = execRdNc tag line ups s := rfl
@[simp] theorem exec_evict (tag : BitVec 12) (line : BitVec 42) : exec (.evict tag line) s = execEvict tag line s := rfl
@[simp] theorem exec_wb (tag : BitVec 12) (line : BitVec 42) (data : List Byte) : exec (.wb tag line data) s = execWb tag line data s := rfl
@[simp] theorem exec_wrNc (tag : BitVec 12) (line : BitVec 42) (mask : BitVec 64) (data : List Byte) (ups : List Upset) : exec (.wrNc tag line mask data ups) s = execWrNc tag line mask data ups s := rfl
@[simp] theorem exec_csrRd (tag : BitVec 12) (off : BitVec 26) (size : BitVec 2) (ups : List RegUpset) : exec (.csrRd tag off size ups) s = execCsrRd tag off size ups s := rfl
@[simp] theorem exec_csrWr (tag : BitVec 12) (off : BitVec 26) (size : BitVec 2) (value : BitVec 64) : exec (.csrWr tag off size value) s = execCsrWr tag off size value s := rfl
@[simp] theorem exec_data (tag : BitVec 12) (data : List Byte) : exec (.data tag data) s = execData tag data s := rfl
@[simp] theorem exec_ack (tag : BitVec 12) : exec (.ack tag) s = execAck tag s := rfl
@[simp] theorem exec_err (tag : BitVec 12) : exec (.err tag) s = execErr tag s := rfl
@[simp] theorem exec_snpI (tag : BitVec 12) (ups : List Upset) : exec (.snpI tag ups) s = execSnpI tag ups s := rfl
@[simp] theorem exec_snpS (tag : BitVec 12) (ups : List Upset) : exec (.snpS tag ups) s = execSnpS tag ups s := rfl
@[simp] theorem exec_snpDi (tag : BitVec 12) (data : List Byte) (ups : List Upset) : exec (.snpDi tag data ups) s = execSnpDi tag data ups s := rfl
@[simp] theorem exec_snpDs (tag : BitVec 12) (data : List Byte) (ups : List Upset) : exec (.snpDs tag data ups) s = execSnpDs tag data ups s := rfl
@[simp] theorem exec_snpTimeout (line : BitVec 42) (ups : List Upset) (t : Nat) : exec (.snpTimeout line ups t) s = execSnpTimeout line ups t s := rfl
@[simp] theorem exec_cohWinWrite (base size : BitVec 16) : exec (.cohWinWrite base size) s = execCohWinWrite base size s := rfl
@[simp] theorem exec_calendarExamine (entry : Fin 255) (ups : List Upset) (t : Nat) : exec (.calendarExamine entry ups t) s = execCalendarExamine entry ups t s := rfl
@[simp] theorem exec_noticeWrite (c : Fin 64) : exec (.noticeWrite c) s = execNoticeWrite c s := rfl
@[simp] theorem exec_ulkSignalDetect (t : Nat) : exec (.ulkSignalDetect t) s = execUlkSignalDetect t s := rfl
@[simp] theorem exec_ulkTrainDone (lanes : BitVec 16) (x : UlParams) (t : Nat) : exec (.ulkTrainDone lanes x t) s = execUlkTrainDone lanes x t s := rfl
@[simp] theorem exec_ulkTrainTimeout (t : Nat) : exec (.ulkTrainTimeout t) s = execUlkTrainTimeout t s := rfl
@[simp] theorem exec_ulkRecoverEntry (cause : UlCause) (t : Nat) : exec (.ulkRecoverEntry cause t) s = execUlkRecoverEntry cause t s := rfl
@[simp] theorem exec_ulkRecoverDone (lanes : BitVec 16) (t : Nat) : exec (.ulkRecoverDone lanes t) s = execUlkRecoverDone lanes t s := rfl
@[simp] theorem exec_ulkFailed (three : Bool) (t : Nat) : exec (.ulkFailed three t) s = execUlkFailed three t s := rfl
@[simp] theorem exec_ulkFailedTimeout (t : Nat) : exec (.ulkFailedTimeout t) s = execUlkFailedTimeout t s := rfl
@[simp] theorem exec_ulkRetrain : exec (.ulkRetrain) s = execUlkRetrain s := rfl
@[simp] theorem exec_vauxPowerOn (head : Bool) (bench : BitVec 5) (slots : Option NvmSlots) : exec (.vauxPowerOn head bench slots) s = execVauxPowerOn head bench slots s := rfl
@[simp] theorem exec_vauxLow (t : Nat) : exec (.vauxLow t) s = execVauxLow t s := rfl
@[simp] theorem exec_pwrOkRise (rails : BitVec 20) (memHeld : Bool) (t : Nat) : exec (.pwrOkRise rails memHeld t) s = execPwrOkRise rails memHeld t s := rfl
@[simp] theorem exec_pwrOkLow (t : Nat) : exec (.pwrOkLow t) s = execPwrOkLow t s := rfl
@[simp] theorem exec_pkgResetNLow (t : Nat) : exec (.pkgResetNLow t) s = execPkgResetNLow t s := rfl
@[simp] theorem exec_railFault (rail : Fin 20) (t : Nat) : exec (.railFault rail t) s = execRailFault rail t s := rfl
@[simp] theorem exec_vhtrOutOfRange (t : Nat) : exec (.vhtrOutOfRange t) s = execVhtrOutOfRange t s := rfl
@[simp] theorem exec_thermalSample (readings : List Int) (t : Nat) : exec (.thermalSample readings t) s = execThermalSample readings t s := rfl
@[simp] theorem exec_thermPortRead : exec (.thermPortRead) s = execThermPortRead s := rfl
@[simp] theorem exec_pwrHush : exec (.pwrHush) s = execPwrHush s := rfl
@[simp] theorem exec_pwrActive : exec (.pwrActive) s = execPwrActive s := rfl
@[simp] theorem exec_pwrDark (t : Nat) : exec (.pwrDark t) s = execPwrDark t s := rfl
@[simp] theorem exec_darkReached (t : Nat) : exec (.darkReached t) s = execDarkReached t s := rfl
@[simp] theorem exec_beaconRx (bytes : List Byte) (t : Nat) : exec (.beaconRx bytes t) s = execBeaconRx bytes t s := rfl
@[simp] theorem exec_beaconSend (t : Nat) : exec (.beaconSend t) s = execBeaconSend t s := rfl
@[simp] theorem exec_positionTimeout (t : Nat) : exec (.positionTimeout t) s = execPositionTimeout t s := rfl
@[simp] theorem exec_chainSwitch (bytes : List Byte) (t : Nat) : exec (.chainSwitch bytes t) s = execChainSwitch bytes t s := rfl
@[simp] theorem exec_chainReset (bytes : List Byte) (t : Nat) : exec (.chainReset bytes t) s = execChainReset bytes t s := rfl
@[simp] theorem exec_chainMsg (bytes : List Byte) (t : Nat) : exec (.chainMsg bytes t) s = execChainMsg bytes t s := rfl
@[simp] theorem exec_chainImage (bytes : List Byte) (t : Nat) : exec (.chainImage bytes t) s = execChainImage bytes t s := rfl
@[simp] theorem exec_chainSend (type len : BitVec 8) : exec (.chainSend type len) s = execChainSend type len s := rfl
@[simp] theorem exec_chainTxTimeout (t : Nat) : exec (.chainTxTimeout t) s = execChainTxTimeout t s := rfl
@[simp] theorem exec_cutlistRead (t : Nat) : exec (.cutlistRead t) s = execCutlistRead t s := rfl
@[simp] theorem exec_firmwareVerify (t : Nat) : exec (.firmwareVerify t) s = execFirmwareVerify t s := rfl
@[simp] theorem exec_bringup (fails : List (Fin 2048)) (noPpr : List (Nat × Nat)) (t : Nat) : exec (.bringup fails noPpr t) s = execBringup fails noPpr t s := rfl
@[simp] theorem exec_lockSet : exec (.lockSet) s = execLockSet s := rfl
@[simp] theorem exec_lockWaitTimeout (t : Nat) : exec (.lockWaitTimeout t) s = execLockWaitTimeout t s := rfl
@[simp] theorem exec_bootResetCold (key : BitVec 16) : exec (.bootResetCold key) s = execBootResetCold key s := rfl
@[simp] theorem exec_bootResetWarm (key : BitVec 16) : exec (.bootResetWarm key) s = execBootResetWarm key s := rfl
@[simp] theorem exec_bootResetFabric (key : BitVec 16) : exec (.bootResetFabric key) s = execBootResetFabric key s := rfl
@[simp] theorem exec_bootResetCompute (key : BitVec 16) : exec (.bootResetCompute key) s = execBootResetCompute key s := rfl
@[simp] theorem exec_resetComplete (head : Bool) (bench : BitVec 5) (t : Nat) : exec (.resetComplete head bench t) s = execResetComplete head bench t s := rfl
@[simp] theorem exec_opkeyFuse : exec (.opkeyFuse) s = execOpkeyFuse s := rfl
@[simp] theorem exec_csrWrite (b : Bank) (off : BitVec 26) (size : BitVec 2) (value : BitVec 64) : exec (.csrWrite b off size value) s = execCsrWrite b off size value s := rfl
@[simp] theorem exec_mbxSelect (b : Bank) (off : BitVec 26) : exec (.mbxSelect b off) s = execMbxSelect b off s := rfl
@[simp] theorem exec_mbxSampleDone (b : Bank) : exec (.mbxSampleDone b) s = execMbxSampleDone b s := rfl
@[simp] theorem exec_sqClear (b : Bank) (off : BitVec 26) (seq : BitVec 8) : exec (.sqClear b off seq) s = execSqClear b off seq s := rfl
@[simp] theorem exec_csrParityScrub (ups : List RegUpset) : exec (.csrParityScrub ups) s = execCsrParityScrub ups s := rfl
@[simp] theorem exec_faultClr (block : BitVec 6) : exec (.faultClr block) s = execFaultClr block s := rfl
@[simp] theorem exec_faultRecheckDone (block : BitVec 6) : exec (.faultRecheckDone block) s = execFaultRecheckDone block s := rfl
@[simp] theorem exec_crcRecompute (ups : List RegUpset) : exec (.crcRecompute ups) s = execCrcRecompute ups s := rfl
@[simp] theorem exec_crcCommit : exec (.crcCommit) s = execCrcCommit s := rfl
@[simp] theorem exec_ctrCfgWrite (n : Fin 112) (value : BitVec 32) : exec (.ctrCfgWrite n value) s = execCtrCfgWrite n value s := rfl
@[simp] theorem exec_snap : exec (.snap) s = execSnap s := rfl
@[simp] theorem exec_snapshotTake (t : Nat) : exec (.snapshotTake t) s = execSnapshotTake t s := rfl
@[simp] theorem exec_clearAll : exec (.clearAll) s = execClearAll s := rfl
@[simp] theorem exec_logFlush (n t : Nat) : exec (.logFlush n t) s = execLogFlush n t s := rfl
@[simp] theorem exec_flush : exec (.flush) s = execFlush s := rfl
@[simp] theorem exec_fatalFlush (t : Nat) : exec (.fatalFlush t) s = execFatalFlush t s := rfl
@[simp] theorem exec_dump : exec (.dump) s = execDump s := rfl
@[simp] theorem exec_dumpComplete : exec (.dumpComplete) s = execDumpComplete s := rfl
@[simp] theorem exec_optimeTick (t : Nat) : exec (.optimeTick t) s = execOptimeTick t s := rfl
@[simp] theorem exec_mcLoadWindow (load aToC : BitVec 8) (t : Nat) : exec (.mcLoadWindow load aToC t) s = execMcLoadWindow load aToC t s := rfl
@[simp] theorem exec_mcSelfCheck (t : Nat) : exec (.mcSelfCheck t) s = execMcSelfCheck t s := rfl
@[simp] theorem exec_mc0Failure (watchdog : Bool) (t : Nat) : exec (.mc0Failure watchdog t) s = execMc0Failure watchdog t s := rfl
@[simp] theorem exec_mcTakeoverDone (t : Nat) : exec (.mcTakeoverDone t) s = execMcTakeoverDone t s := rfl
@[simp] theorem exec_mc1Failure (t : Nat) : exec (.mc1Failure t) s = execMc1Failure t s := rfl
@[simp] theorem exec_patchWrite (t : Nat) : exec (.patchWrite t) s = execPatchWrite t s := rfl
@[simp] theorem exec_patchNoteAdd : exec (.patchNoteAdd) s = execPatchNoteAdd s := rfl
@[simp] theorem exec_telemetryTick (t : Nat) : exec (.telemetryTick t) s = execTelemetryTick t s := rfl
@[simp] theorem exec_servicePoll (t : Nat) : exec (.servicePoll t) s = execServicePoll t s := rfl
@[simp] theorem exec_alter (ups : List Upset) (t : Nat) : exec (.alter ups t) s = execAlter ups t s := rfl
@[simp] theorem exec_alterComplete (good : Bool) (t : Nat) : exec (.alterComplete good t) s = execAlterComplete good t s := rfl
@[simp] theorem exec_attest (t : Nat) : exec (.attest t) s = execAttest t s := rfl
@[simp] theorem exec_cert (t : Nat) : exec (.cert t) s = execCert t s := rfl
@[simp] theorem exec_fwSlotErase (t : Nat) : exec (.fwSlotErase t) s = execFwSlotErase t s := rfl
@[simp] theorem exec_recoveryHeader (t : Nat) : exec (.recoveryHeader t) s = execRecoveryHeader t s := rfl
@[simp] theorem exec_imageReqRetry (t : Nat) : exec (.imageReqRetry t) s = execImageReqRetry t s := rfl
@[simp] theorem exec_recoveryInstall (t : Nat) : exec (.recoveryInstall t) s = execRecoveryInstall t s := rfl
@[simp] theorem exec_pkgResetNRelease (rails : BitVec 20) (t : Nat) : exec (.pkgResetNRelease rails t) s = execPkgResetNRelease rails t s := rfl
@[simp] theorem exec_nvmDiscovery (readable sfdp octal : Bool) (mbit : Nat) (t : Nat) : exec (.nvmDiscovery readable sfdp octal mbit t) s = execNvmDiscovery readable sfdp octal mbit t s := rfl
@[simp] theorem exec_tportBlockLock (p : Dom) (locked : Bool) : exec (.tportBlockLock p locked) s = execTportBlockLock p locked s := rfl
@[simp] theorem exec_monitorChannelFault (l : Fin 176) : exec (.monitorChannelFault l) s = execMonitorChannelFault l s := rfl
@[simp] theorem exec_handoverComplete (k : Fin 6) : exec (.handoverComplete k) s = execHandoverComplete k s := rfl

end Sys2Proof.Machine
end

