-- ==== Sys2Proof/Laws/Issue.lean ====
section
/-! SUPPORT. The laws of a cluster's register files and of the issue of an instruction: what each file reads after a
write, and what an instruction that is legal and executes leaves. -/
namespace Sys2Proof.Machine
open Sys2Proof
variable (s : State)

/-! ### Register files -/

@[simp] theorem Cluster.areg_setA_self (x : Cluster) (r : Nat) (v : AWord) : (x.setA r v).areg r = v :=
  Tbl.lookD_put_self _ _ _ _

theorem Cluster.areg_setA_ne (x : Cluster) {r q : Nat} (v : AWord) (h : q ≠ r) : (x.setA r v).areg q = x.areg q := by
  simp only [Cluster.areg, Cluster.setA]; exact Tbl.lookD_put_ne _ _ _ _ h

@[simp] theorem Cluster.preg_setP_self (x : Cluster) (r : Nat) (v : Pred) :
    (x.setP r v).preg r = if r = 0 then BitVec.allOnes 64 else v := by
  by_cases h : r = 0 <;> simp [Cluster.preg, Cluster.setP, Cluster.unread, h]

theorem Cluster.preg_setP_ne (x : Cluster) {r q : Nat} (v : Pred) (h : q ≠ r) : (x.setP r v).preg q = x.preg q := by
  by_cases hr : r = 0
  · simp [Cluster.setP, hr]
  · simp only [Cluster.preg, Cluster.setP, hr, if_false]; split
    · rfl
    · exact Tbl.lookD_put_ne _ _ _ _ h

@[simp] theorem Cluster.lane_setLane_self (x : Cluster) (r i : Nat) (v : Lane) : (x.setLane r i v).lane r i = v :=
  Tbl.lookD_put_self _ _ _ _

theorem Cluster.lane_setLane_ne (x : Cluster) {r i q j : Nat} (v : Lane) (h : 64 * q + j ≠ 64 * r + i) :
    (x.setLane r i v).lane q j = x.lane q j := by
  simp only [Cluster.lane, Cluster.setLane]; exact Tbl.lookD_put_ne _ _ _ _ h

@[simp] theorem Cluster.elem_setElem_self (x : Cluster) (t m n : Nat) (v : Lane) : (x.setElem t m n v).elem t m n = v :=
  Tbl.lookD_put_self _ _ _ _

theorem Cluster.elem_setElem_ne (x : Cluster) {t m n t' m' n' : Nat} (v : Lane)
    (h : 2048 * t' + 64 * m' + n' ≠ 2048 * t + 64 * m + n) : (x.setElem t m n v).elem t' m' n' = x.elem t' m' n' := by
  simp only [Cluster.elem, Cluster.setElem]; exact Tbl.lookD_put_ne _ _ _ _ h

/-- Writing lanes changes the vector file alone. -/
theorem Cluster.setLanes_frame (x : Cluster) (r : Nat) (l : List Nat) (f : Nat → Lane) :
    x.setLanes r l f = { x with v := (x.setLanes r l f).v } := by
  unfold Cluster.setLanes
  induction l generalizing x with
  | nil => rfl
  | cons i l ih => rw [List.foldl_cons, ih]; rfl

/-- Each written lane holds its value, and every other lane what it held. -/
theorem Cluster.lane_setLanes (x : Cluster) (r : Nat) (l : List Nat) (f : Nat → Lane) (hl : ∀ i ∈ l, i < 64) (q j : Nat)
    (hj : j < 64) : (x.setLanes r l f).lane q j = if q = r ∧ j ∈ l then f j else x.lane q j := by
  unfold Cluster.setLanes
  induction l generalizing x with
  | nil => simp
  | cons i l ih =>
    rw [List.foldl_cons, ih _ fun k hk => hl k (List.mem_cons_of_mem _ hk)]
    have hi := hl i (List.mem_cons_self ..)
    by_cases hq : q = r ∧ j ∈ l
    · rw [if_pos hq, if_pos ⟨hq.1, List.mem_cons_of_mem _ hq.2⟩]
    · rw [if_neg hq]
      by_cases hp : q = r ∧ j = i
      · rw [hp.1, hp.2, if_pos ⟨rfl, List.mem_cons_self ..⟩]; exact Cluster.lane_setLane_self ..
      · rw [if_neg fun h => ?_]
        · exact Cluster.lane_setLane_ne _ _ (by omega)
        · rcases List.mem_cons.1 h.2 with e | e
          · exact hp ⟨h.1, e⟩
          · exact hq ⟨h.1, e⟩

theorem mem_lanesOn (p : Pred) (i : Nat) : i ∈ lanesOn p ↔ i < 64 ∧ enabled p i = true := by
  simp [lanesOn]

theorem lanesOn_lt (p : Pred) : ∀ i ∈ lanesOn p, i < 64 := fun i h => ((mem_lanesOn p i).1 h).1

/-- Lanes written where a predicate enables them: what a lane-wise instruction does to its cluster. -/
theorem Cluster.lanesWritten_setLanes (x : Cluster) (r : Nat) (e : Pred) (f : Nat → Lane) :
    x.lanesWritten (x.setLanes r (lanesOn e) f) r e f := by
  refine ⟨fun i hi => ?_, fun q i hq hi => ?_, fun q => ?_, fun q => ?_, fun t m n _ _ => ?_⟩
  · rw [Cluster.lane_setLanes _ _ _ _ (lanesOn_lt e) _ _ hi]; simp [mem_lanesOn, hi]
  · rw [Cluster.lane_setLanes _ _ _ _ (lanesOn_lt e) _ _ hi]; simp [hq]
  all_goals rw [Cluster.setLanes_frame]; rfl

/-! ### Clusters in the state -/

@[simp] theorem State.cl_setCl_self (p : Nat) (x : Cluster) : (s.setCl p x).cl p = x := by
  simp [State.cl, State.setCl]

theorem State.cl_setCl_ne {p q : Nat} (x : Cluster) (h : q ≠ p) : (s.setCl p x).cl q = s.cl q := by
  simp only [State.cl, State.setCl]; exact Tbl.lookD_put_ne _ _ _ _ h

@[simp] theorem State.cl_wr (f : Field) (v p : Nat) : (s.wr f v).cl p = s.cl p := rfl
@[simp] theorem State.cl_wrB (f : Field) (b : Bool) (p : Nat) : (s.wrB f b).cl p = s.cl p := rfl
@[simp] theorem State.cl_bump (f : Field) (p : Nat) : (s.bump f).cl p = s.cl p := rfl
@[simp] theorem State.cl_bumpBy (f : Field) (n p : Nat) : (s.bumpBy f n).cl p = s.cl p := rfl

/-! ### Issue -/

@[simp] theorem State.issued_cl (c : Nat) : (s.issued c).cl c = { s.cl c with shake := s.now } :=
  State.cl_setCl_self s c _

/-- An instruction that is legal and executes, whose effect is done, leaves that effect's state with the program counter
one further on. -/
theorem State.issue_done {c w op : Nat} {fs : List (Nat × Nat)} {legal : Nat → Bool} {gated : Bool}
    {f : Nat → State → Cluster → Effect} {t : State} (h : s.issuing c w op fs) (hl : legal w = true)
    (hg : gated = true → s.permitted c w) (hf : f w (s.issued c) { s.cl c with shake := s.now } = .done t) :
    s.issue c op legal gated f = s.doneAt c t := by
  obtain ⟨h1, h2, -, h4⟩ := h
  have hp : (gated && !enabled ((s.cl c).pred w) 0) = false := by
    cases gated with
    | false => rfl
    | true => rw [show enabled ((s.cl c).pred w) 0 = true from hg rfl]; rfl
  have he : f w ((s.setCl c { s.cl c with shake := s.now }).wr (CL.STATE.PC c) (s.cl c).pc)
      (((s.setCl c { s.cl c with shake := s.now }).wr (CL.STATE.PC c) (s.cl c).pc).cl c) = .done t := by
    rw [State.cl_wr, State.cl_setCl_self]; exact hf
  unfold State.issue State.execute
  simp only [h1, h2, hl, hp, he, if_true, Bool.not_true, Bool.false_eq_true, if_false]
  rw [if_neg (by omega)]; rfl

/-- An instruction that does not execute under its predicate moves the program on. -/
theorem State.issue_off {c w op : Nat} {fs : List (Nat × Nat)} {legal : Nat → Bool}
    {f : Nat → State → Cluster → Effect} (h : s.issuing c w op fs) (hl : legal w = true) (hg : ¬ s.permitted c w) :
    s.issue c op legal true f = s.doneAt c (s.issued c) := by
  obtain ⟨h1, h2, -, h4⟩ := h
  have hp : enabled ((s.cl c).pred w) 0 = false := by simpa [State.permitted] using hg
  unfold State.issue State.execute
  simp only [h1, h2, hl, hp, if_true, Bool.not_true, Bool.not_false, Bool.and_self, Bool.false_eq_true, if_false]
  rw [if_neg (by omega)]; rfl

/-- A cluster's record after an effect that wrote only it: the effect's record, one further on. -/
theorem State.doneAt_cl (c : Nat) (t : State) : (s.doneAt c t).cl c = { t.cl c with pc := (s.cl c).pc + 1 } :=
  State.cl_setCl_self t c _

/-- What holds of an effect that writes one cluster's register files, when it is done. -/
theorem State.movedOn_intro (c : Nat) (x : Cluster)
    (hx : x = { s.cl c with shake := s.now, a := x.a, p := x.p, v := x.v, t := x.t }) :
    s.movedOn (s.doneAt c ((s.issued c).setCl c x)) c := by
  refine ⟨⟨rfl, fun p hp => ?_, fun g hg => ?_⟩, ?_⟩
  · exact (State.cl_setCl_ne _ _ hp).trans ((State.cl_setCl_ne _ _ hp).trans (State.cl_setCl_ne _ _ hp))
  · exact State.rd_wr_ne _ _ fun e => hg (by simp [e])
  · rw [State.doneAt_cl, State.cl_setCl_self]; rw [hx]

/-- An instruction that does nothing but move on. -/
theorem State.doneAt_frame (c : Fin 2048) : (s.doneAt c (s.issued c)).cl c = { s.cl c with pc := (s.cl c).pc + 1, shake := s.now }  ∧
      s.onlyCluster (s.doneAt c (s.issued c)) c [CL.STATE.PC c] := by
  refine ⟨?_, rfl, ?_, ?_⟩
  · rw [State.doneAt_cl, State.issued_cl]
  · intro p hp; exact (State.cl_setCl_ne _ _ hp).trans (State.cl_setCl_ne _ _ hp)
  · intro g hg; exact State.rd_wr_ne _ _ fun e => hg (by simp [e])

/-- An instruction that does nothing but set the program counter. -/
theorem State.jumpAt_frame (c : Fin 2048) (n : Nat) : ((s.issued c).setPc c n).cl c = { s.cl c with pc := n, shake := s.now }  ∧
      s.onlyCluster ((s.issued c).setPc c n) c [CL.STATE.PC c] := by
  refine ⟨?_, rfl, ?_, ?_⟩
  · simp only [State.setPc, State.cl_setCl_self, State.issued_cl]
  · intro p hp; exact (State.cl_setCl_ne _ _ hp).trans (State.cl_setCl_ne _ _ hp)
  · intro g hg; exact State.rd_wr_ne _ _ fun e => hg (by simp [e])

/-- A legal instruction that jumps. -/
theorem State.issue_jump {c : Nat} {w op : Nat} {legal : Nat → Bool} 
    {f : Nat → State → Cluster → Effect} {t : State} {n : Nat} (h1 : s.fetch c = some w) (h2 : w / 2^56 = op) (hl : legal w = true)
    (hf : f w (s.issued c) { s.cl c with shake := s.now } = .jump t n) :
    s.issue c op legal false f = t.setPc c n := by
  have he : f w ((s.setCl c { s.cl c with shake := s.now }).wr (CL.STATE.PC c) (s.cl c).pc)
      (((s.setCl c { s.cl c with shake := s.now }).wr (CL.STATE.PC c) (s.cl c).pc).cl c) = .jump t n := by
    rw [State.cl_wr, State.cl_setCl_self]; exact hf
  unfold State.issue State.execute
  simp only [h1, h2, hl, he, if_true, Bool.not_true, Bool.false_eq_true, if_false, Bool.false_and]

/-- A legal instruction that waits. -/
theorem State.issue_wait {c : Nat} {w op : Nat} {fs} {legal : Nat → Bool} {gated}
    {f : Nat → State → Cluster → Effect} {t : State} {k n u} (h : s.issuing c w op fs) (hl : legal w = true) (hg : gated = true → s.permitted c w)
    (hf : f w (s.issued c) { s.cl c with shake := s.now } = .wait t k n u) :
    s.issue c op legal gated f = t.beginWait c ⟨k, BitVec.ofNat 64 w, u, t.now⟩ n := by
  obtain ⟨h1, h2, -, h4⟩ := h
  have hp : (gated && !enabled ((s.cl c).pred w) 0) = false := by
    cases gated with
    | false => rfl
    | true => rw [show enabled ((s.cl c).pred w) 0 = true from hg rfl]; rfl
  have he : f w ((s.setCl c { s.cl c with shake := s.now }).wr (CL.STATE.PC c) (s.cl c).pc)
      (((s.setCl c { s.cl c with shake := s.now }).wr (CL.STATE.PC c) (s.cl c).pc).cl c) = .wait t k n u := by
    rw [State.cl_wr, State.cl_setCl_self]; exact hf
  unfold State.issue State.execute
  simp only [h1, h2, hl, hp, he, if_true, Bool.not_true, Bool.false_eq_true, if_false]
  rw [if_neg (by omega)]

/-- A legal instruction that ends the program. -/
theorem State.issue_ended {c : Nat} {w op : Nat} {fs} {legal : Nat → Bool} 
    {f : Nat → State → Cluster → Effect} {t : State} (h : s.issuing c w op fs) (hl : legal w = true) 
    (hf : f w (s.issued c) { s.cl c with shake := s.now } = .ended t) :
    s.issue c op legal false f = t := by
  obtain ⟨h1, h2, -, h4⟩ := h
  have he : f w ((s.setCl c { s.cl c with shake := s.now }).wr (CL.STATE.PC c) (s.cl c).pc)
      (((s.setCl c { s.cl c with shake := s.now }).wr (CL.STATE.PC c) (s.cl c).pc).cl c) = .ended t := by
    rw [State.cl_wr, State.cl_setCl_self]; exact hf
  unfold State.issue State.execute
  simp only [h1, h2, hl, he, if_true, Bool.not_true, Bool.false_eq_true, if_false, Bool.false_and]
  rw [if_neg (by omega)]

/-! ### Counters -/

/-- Changes of the registers, the log and the notices compose. -/
theorem State.recorded_trans {s t u : State} (h : t = { s with regs := t.regs, log := t.log, notices := t.notices })
    (k : u = { t with regs := u.regs, log := u.log, notices := u.notices }) :
    u = { s with regs := u.regs, log := u.log, notices := u.notices } := by
  cases s; cases t; cases u
  simp only [State.mk.injEq, true_and] at h k ⊢
  simp_all

/-- Counting changes the counters, and what the recorder keeps where one wraps, alone. -/
theorem State.ctrAdd_frame {n : Nat} (w : Nat) (hn : n < 112) :
    s.ctrAdd n w = { s with regs := (s.ctrAdd n w).regs, log := (s.ctrAdd n w).log, notices := (s.ctrAdd n w).notices } ∧
      s.regsBut (s.ctrAdd n w) counterFields := by
  have hc : HLT.CTR.COUNT n ∈ counterFields := by
    simp only [counterFields, List.mem_append, List.mem_flatMap, List.mem_range]; exact .inl (.inl ⟨n, hn, by simp⟩)
  have ho : HLT.CTR.OVF n ∈ counterFields := by
    simp only [counterFields, List.mem_append, List.mem_flatMap, List.mem_range]; exact .inl (.inl ⟨n, hn, by simp⟩)
  have hm : ∀ f ∈ [HLT.CTR_STAT.WRAPS, HLT.EVENT.CTR_OVF] ++ recorderFields, f ∈ counterFields := fun f hf => by
    simp only [counterFields, List.mem_append] at hf ⊢
    rcases hf with h | h
    · exact .inl (.inr h)
    · exact .inr h
  unfold State.ctrAdd; dsimp only
  split
  · exact ⟨rfl, State.regsBut_wr s _ hc⟩
  · constructor
    · conv => lhs; rw [State.raise_frame _ _ _ _ (by decide)]
      rfl
    · refine State.regsBut_trans (State.regsBut_wr s _ hc) (State.regsBut_trans (State.regsBut_wr _ _ ho)
        (State.regsBut_trans (State.regsBut_bump _ (hm _ (by simp))) (State.raise_regsBut _ _ _ (hm _ (by simp)) ?_ ?_)))
      · exact hm _ (by decide)
      · exact fun f hf => hm f (List.mem_append_right _ hf)

/-- An event counted changes the counters, and what the recorder keeps where one wraps, alone. -/
theorem State.count_frame (dom : Nat × Nat) (src inst w : Nat) (hd : dom.1 + dom.2 ≤ 112) :
    s.count dom src inst w = { s with regs := (s.count dom src inst w).regs, log := (s.count dom src inst w).log,
                                      notices := (s.count dom src inst w).notices } ∧
      s.regsBut (s.count dom src inst w) counterFields := by
  unfold State.count
  split
  · exact ⟨rfl, State.regsBut_refl s _⟩
  · have hb : ∀ i ∈ List.range dom.2, dom.1 + i < 112 := fun i hi => by have := List.mem_range.1 hi; omega
    rename_i hu
    clear hu
    revert hb
    generalize List.range dom.2 = l
    induction l generalizing s with
    | nil => intro _; exact ⟨rfl, State.regsBut_refl s _⟩
    | cons i l ih =>
      intro hb
      rw [List.foldl_cons]
      dsimp only
      split
      · have h1 := State.ctrAdd_frame s w (hb i (List.mem_cons_self ..))
        have h2 := ih (s.ctrAdd (dom.1 + i) w) fun k hk => hb k (List.mem_cons_of_mem _ hk)
        exact ⟨State.recorded_trans h1.1 h2.1, State.regsBut_trans h1.2 h2.2⟩
      · exact ih s fun k hk => hb k (List.mem_cons_of_mem _ hk)

/-- A vector operation counted: VOPS one further on, the counters, and nothing else. -/
theorem State.vop_frame (c : Fin 2048) :
    s.vop c = { s with regs := (s.vop c).regs, log := (s.vop c).log, notices := (s.vop c).notices } ∧
      s.regsBut (s.vop c) (CL.STEPS.VOPS c :: counterFields) :=
  have h := State.count_frame (s.bump (CL.STEPS.VOPS c)) (ctrDie (c / 256)) 0x102 (c % 256) 1 (by simp [ctrDie]; omega)
  ⟨State.recorded_trans rfl h.1, State.regsBut_trans (State.regsBut_bump s (List.mem_cons_self ..))
    (State.regsBut_mono h.2 fun _ hf => List.mem_cons_of_mem _ hf)⟩

/-- A cluster's window lies outside the counters. -/
theorem clusterField_notCounter (c : Fin 2048) {f : Field} (hi : f.inst = 0) (hl : f.lo < 128)
    (ho : f.off < 0x200000 + 0x100000 * (c / 256) + 0x1000 * (c % 256) + 0x1000) : f.key ∉ counterFields.map Field.key := by
  have hc := c.isLt
  simp only [counterFields, List.mem_map, List.mem_append, List.mem_flatMap, not_exists, not_and]
  rintro g hg e
  simp only [Field.key, hi] at e
  rcases hg with (⟨n, -, hg⟩ | hg) | hg
  · simp only [List.mem_cons, List.not_mem_nil, or_false] at hg
    rcases hg with rfl | rfl <;> simp only [HLT.CTR.COUNT, HLT.CTR.OVF] at e <;> omega
  · simp only [List.mem_cons, List.not_mem_nil, or_false] at hg
    rcases hg with rfl | rfl <;> simp only [HLT.CTR_STAT.WRAPS, HLT.EVENT.CTR_OVF] at e <;> omega
  · simp only [recorderFields, List.mem_cons, List.not_mem_nil, or_false] at hg
    rcases hg with rfl | rfl | rfl | rfl | rfl | rfl | rfl | rfl | rfl <;>
      simp only [HLT.LOG_STAT.STAGE_PCT, HLT.LOG_COUNTS.OVERWRITTEN, HLT.LOG_COUNTS.DROPPED, HLT.LOG_COUNTS.FATAL_DROP,
        HLT.LOG_COUNTS.MERGED, HLT.EVENT.FATAL_DROP, HLT.EVENT.LOG_FULL, HLT.EVENT.SEQ, ULK.NOTICE_STAT.PENDING] at e <;>
      omega

/-- VOPS after a vector operation is counted. -/
theorem State.vop_vops (c : Fin 2048) :
    (s.vop c).rd (CL.STEPS.VOPS c) = (s.rd (CL.STEPS.VOPS c) + 1) % 2 ^ (CL.STEPS.VOPS c).width := by
  have h := State.count_frame (s.bump (CL.STEPS.VOPS c)) (ctrDie (c / 256)) 0x102 (c % 256) 1 (by simp [ctrDie]; omega)
  rw [State.vop, h.2 _ (clusterField_notCounter c rfl (by decide : 64 < 128) (by simp only [CL.STEPS.VOPS]; omega))]
  exact State.rd_bump_self _ _

/-- Flags written where their results have them. -/
def State.wrFlags (s : State) (l : List (Bool × Field)) : State := l.foldl (fun s r => if r.1 then s.wr r.2 1 else s) s

theorem State.wrFlags_frame (l : List (Bool × Field)) : s.wrFlags l = { s with regs := (s.wrFlags l).regs } := by
  induction l generalizing s with
  | nil => rfl
  | cons r l ih =>
    have h := ih (if r.1 then s.wr r.2 1 else s)
    show State.wrFlags (if r.1 then s.wr r.2 1 else s) l =
      { s with regs := (State.wrFlags (if r.1 then s.wr r.2 1 else s) l).regs }
    rw [h]; cases r.1 <;> rfl

theorem State.wrFlags_rd (l : List (Bool × Field)) {g : Field} (h : ∀ r ∈ l, g.key ≠ r.2.key) :
    (s.wrFlags l).rd g = s.rd g := by
  induction l generalizing s with
  | nil => rfl
  | cons r l ih =>
    refine (ih (if r.1 then s.wr r.2 1 else s) fun q hq => h q (List.mem_cons_of_mem _ hq)).trans ?_
    cases r.1
    · rfl
    · exact State.rd_wr_ne s 1 (h r (List.mem_cons_self ..))

theorem State.wrFlags_on (l : List (Bool × Field)) (hw : ∀ r ∈ l, r.2.width = 1)
    (hd : l.Pairwise fun r q => r.2.key ≠ q.2.key) : ∀ r ∈ l, (s.wrFlags l).on r.2 = (s.on r.2 || r.1) := by
  induction l generalizing s with
  | nil => intro r hr; cases hr
  | cons r l ih =>
    intro q hq
    have hc := List.pairwise_cons.1 hd
    rcases List.mem_cons.1 hq with rfl | hq'
    · show State.on (State.wrFlags (if q.1 then s.wr q.2 1 else s) l) q.2 = _
      rw [State.on, State.wrFlags_rd _ _ hc.1]
      have hw' := hw q (List.mem_cons_self ..)
      cases q.1
      · simp [State.on]
      · simp [State.on, hw']
    · refine (ih (if r.1 then s.wr r.2 1 else s) (fun x hx => hw x (List.mem_cons_of_mem _ hx)) hc.2 q hq').trans ?_
      cases r.1
      · rfl
      · rw [if_pos rfl, State.on, State.rd_wr_ne s 1 (hc.1 q hq').symm]; rfl

/-- A cluster's flags beside those of a result. -/
def flagList (c : Nat) (f : Flags) : List (Bool × Field) :=
  [(f.nv, CL.FLAGS.NV c), (f.dz, CL.FLAGS.DZ c), (f.ovf, CL.FLAGS.OF c), (f.uf, CL.FLAGS.UF c), (f.nx, CL.FLAGS.NX c),
    (f.sat, CL.FLAGS.SAT c)]

/-- Adding results' flags sets those that they have, and changes nothing but the flags. -/
theorem State.addFlags_frame (c : Nat) (f : Flags) :
    s.addFlags c f = { s with regs := (s.addFlags c f).regs } ∧ s.regsBut (s.addFlags c f) (flagFields c) ∧
      s.flagsSet (s.addFlags c f) c f := by
  by_cases h : f.any = true
  · have he : s.addFlags c f = (s.wrFlags (flagList c f)).bump (CL.FLAGS.SEQ c) := by
      unfold State.addFlags; rw [if_pos h]; rfl
    have hs : ∀ r ∈ flagList c f, r.2.key ≠ (CL.FLAGS.SEQ c).key := by
      intro r hr
      simp only [flagList, List.mem_cons, List.not_mem_nil, or_false] at hr
      rcases hr with rfl | rfl | rfl | rfl | rfl | rfl <;>
        simp only [Field.key, CL.FLAGS.NV, CL.FLAGS.DZ, CL.FLAGS.OF, CL.FLAGS.UF, CL.FLAGS.NX, CL.FLAGS.SAT,
          CL.FLAGS.SEQ] <;> omega
    have ho := State.wrFlags_on s (flagList c f) (by simp [flagList, CL.FLAGS.NV, CL.FLAGS.DZ, CL.FLAGS.OF, CL.FLAGS.UF,
      CL.FLAGS.NX, CL.FLAGS.SAT]) (by
        simp only [flagList, List.pairwise_cons, List.mem_cons, List.not_mem_nil, or_false, forall_eq_or_imp, forall_eq,
          Field.key, CL.FLAGS.NV, CL.FLAGS.DZ, CL.FLAGS.OF, CL.FLAGS.UF, CL.FLAGS.NX, CL.FLAGS.SAT]
        simp)
    have hb : ∀ r ∈ flagList c f, (s.addFlags c f).on r.2 = (s.on r.2 || r.1) := fun r hr => by
      rw [he, State.on, State.rd_bump_ne _ (hs r hr)]; exact ho r hr
    refine ⟨?_, fun g hg => ?_, hb (f.nv, CL.FLAGS.NV c) ?_, hb (f.dz, CL.FLAGS.DZ c) ?_,
      hb (f.ovf, CL.FLAGS.OF c) ?_, hb (f.uf, CL.FLAGS.UF c) ?_, hb (f.nx, CL.FLAGS.NX c) ?_,
      hb (f.sat, CL.FLAGS.SAT c) ?_⟩
    · rw [he, State.bump, State.wrFlags_frame]; rfl
    · rw [he, State.rd_bump_ne _ fun e => hg (by simp [flagFields, e])]
      refine State.wrFlags_rd s _ fun r hr e => hg ?_
      rw [e]
      exact List.mem_map_of_mem (f := Field.key) (by
        simp only [flagList, List.mem_cons, List.not_mem_nil, or_false] at hr
        rcases hr with rfl | rfl | rfl | rfl | rfl | rfl <;> simp [flagFields])
    all_goals simp [flagList]
  · rw [State.addFlags, if_neg h]
    simp only [Flags.any, Bool.not_eq_true, Bool.or_eq_false_iff] at h
    exact ⟨rfl, State.regsBut_refl s _, by simp [State.flagsSet, h]⟩

end Sys2Proof.Machine
end

