-- ==== Sys2Proof/Laws/Mem.lean ====
section
/-! SUPPORT. The laws of byte memories: a byte read after a write, and the canonical form kept by every operation. -/
namespace Sys2Proof.Machine
open Sys2Proof

@[simp] theorem Mem.unread_put (m : Mem) (a : Nat) (b : Byte) (k : Nat) : (m.put a b).unread k = m.unread k := rfl

@[simp] theorem Mem.get_put_self (m : Mem) (a : Nat) (b : Byte) : (m.put a b).get a = b := by
  simp [Mem.get, Mem.put, Mem.unread]

theorem Mem.get_put_ne (m : Mem) {a k : Nat} (b : Byte) (h : k ≠ a) : (m.put a b).get k = m.get k := by
  simp only [Mem.get, Mem.put, Mem.unread]
  exact Tbl.lookD_put_ne _ _ _ _ h

/-- A byte below the written ones is unchanged. -/
theorem Mem.get_write_below (m : Mem) (l : List Byte) {a k : Nat} (h : k < a) : (m.write a l).get k = m.get k := by
  induction l generalizing m a with
  | nil => rfl
  | cons b r ih => rw [Mem.write, ih _ (Nat.lt_succ_of_lt h), Mem.get_put_ne _ _ (Nat.ne_of_lt h)]

/-- A byte above the written ones is unchanged. -/
theorem Mem.get_write_above (m : Mem) (l : List Byte) {a k : Nat} (h : a + l.length ≤ k) :
    (m.write a l).get k = m.get k := by
  induction l generalizing m a with
  | nil => rfl
  | cons b r ih =>
    have h' : a + 1 + r.length ≤ k := by simp only [List.length_cons] at h; omega
    rw [Mem.write, ih _ h', Mem.get_put_ne _ _ (by omega)]

/-- The bytes just written are read. -/
theorem Mem.read_write (m : Mem) (l : List Byte) (a : Nat) : (m.write a l).read a l.length = l := by
  induction l generalizing m a with
  | nil => rfl
  | cons b r ih =>
    simp only [List.length_cons, Mem.read, Mem.write]
    rw [Mem.get_write_below _ _ (Nat.lt_succ_self a), Mem.get_put_self, ih]

/-! ### The canonical form -/

theorem Mem.wf_empty : ({} : Mem).wf = true := rfl

theorem Mem.wf_lost (d : Nat) : (Mem.lost d).wf = true := rfl

theorem Mem.wf_put {m : Mem} (h : m.wf = true) (a : Nat) (b : Byte) : (m.put a b).wf = true :=
  Tbl.canon_put (d := m.unread) h

theorem Mem.wf_write {m : Mem} (h : m.wf = true) (a : Nat) (l : List Byte) : (m.write a l).wf = true := by
  induction l generalizing m a with
  | nil => exact h
  | cons b r ih => exact ih (Mem.wf_put h a b) (a + 1)

theorem Mem.wf_setBad {m : Mem} (h : m.wf = true) (k : Nat) : (m.setBad k).wf = true := h

theorem Mem.wf_clearBad {m : Mem} (h : m.wf = true) (k : Nat) : (m.clearBad k).wf = true := h

theorem Mem.wf_writePiece {m : Mem} (h : m.wf = true) (u a : Nat) (l : List Byte) : (m.writePiece u a l).1.wf = true := by
  unfold Mem.writePiece
  split
  · exact Mem.wf_write (Mem.wf_clearBad h _) a l
  · split
    · exact h
    · exact Mem.wf_write h a l

theorem Mem.wf_writePieces {m : Mem} (h : m.wf = true) (u : Nat) (l : List Byte) (ps : List (Nat × Nat)) :
    (m.writePieces u l ps).1.wf = true := by
  induction ps generalizing m l with
  | nil => exact h
  | cons p r ih => exact ih (Mem.wf_writePiece h u p.1 (l.take p.2)) (l.drop p.2)

theorem Mem.wf_store {m : Mem} (h : m.wf = true) (u a : Nat) (l : List Byte) : (m.store u a l).1.wf = true :=
  Mem.wf_writePieces h u l _

end Sys2Proof.Machine
end

