-- ==== Sys2Proof/WellFormed.lean ====
section
/-! DEFINITION. Which operands a command can carry: the ranges that its types leave wider than the spec's. The meanings
are total and do not ask for it. -/
namespace Sys2Proof

/-- A number of `w` bits. -/
def fits (w v : Nat) : Bool := decide (v < 2 ^ w)

/-- A transfer of `n` bytes. -/
def bytesIs (n : Nat) (l : List Byte) : Bool := l.length == n

/-- What a PTP Announce message can carry (R81). -/
def AnnounceMsg.wf (m : AnnounceMsg) : Bool :=
  fits 80 m.sender && fits 8 m.priority1 && fits 8 m.clkClass && fits 8 m.accuracy && fits 16 m.variance &&
  fits 8 m.priority2 && fits 64 m.gm && fits 16 m.steps && decide (-128 ≤ m.logPeriod) && decide (m.logPeriod ≤ 127) &&
  decide (-32768 ≤ m.utcOffset) && decide (m.utcOffset ≤ 32767)

/-- A codeword that decodes gives 320 bytes, of which at most 8 symbols of 10 bits were corrected (R141, R144). -/
def Codeword.wf : Codeword → Bool
  | .good l k b => bytesIs 320 l && decide (k ≤ 8) && decide (b ≤ 10 * k)
  | .bad => true

/-- A lane block's fields (R268). -/
def LaneBlock.wf (b : LaneBlock) : Bool := decide (b.plane < 9) && decide (b.llane < 8) && fits 4 b.req && fits 4 b.qlane

/-- A received slot's lane blocks: one from each of at most 9 lanes. -/
def Arrival.wf : Arrival → Bool
  | .copper _ _ l => decide (l.length ≤ 9) && l.all LaneBlock.wf
  | .optical _ _ => true
  | .dark => true

/-- An identity block's fields (R274). -/
def IdBlock.wf (b : IdBlock) : Bool :=
  fits 5 b.node && fits 3 b.link && fits 4 b.spare && fits 8 b.verMinor && fits 8 b.verMajor && fits 32 b.fw &&
  fits 64 b.serial && fits 128 b.digest

/-- A lane on which identity blocks arrive (R277). -/
def LaneId.wf (x : LaneId) : Bool := decide (x.rx < 9) && decide (x.plane < 9)

/-- A loop's measurement. -/
def LoopMeas.wf (m : LoopMeas) : Bool := decide (m.loop < 176)

/-- A converter channel of R171. -/
def ChannelResult.wf (r : ChannelResult) : Bool := fits 9 r.channel

/-- An upset's register and bit lie in the CSR window (R459). -/
def RegUpset.wf (u : RegUpset) : Bool := fits 26 u.off && u.off % 4 == 0 && decide (u.bit < 32)

/-- An upset's byte address lies in the device space (R304). -/
def Upset.wf (u : Upset) : Bool := fits 48 u.addr

/-- A leaf has 2,048 entries (R89). -/
def LeafUpset.wf (u : LeafUpset) : Bool := decide (u.index < 2048)

/-- A port's power names a port. -/
def PortPower.wf (p : PortPower) : Bool := decide (p.port < 16)

/-- The companion's parameters (R405): its credits are 16-bit numbers. -/
def UlParams.wf (p : UlParams) : Bool :=
  fits 8 p.major && fits 16 p.req && fits 16 p.snp && fits 16 p.rsp && fits 16 p.dat

/-- The slots of NVM hold the board programmer's bytes (R439): a firmware slot 16 MiB, a cutting-list slot 8 MiB. -/
def NvmSlots.wf (n : NvmSlots) : Bool :=
  decide (n.fw0.length ≤ 0x1000000) && decide (n.fw1.length ≤ 0x1000000) &&
  decide (n.cl0.length ≤ 0x800000) && decide (n.cl1.length ≤ 0x800000)

/-- What a learning slot found: ports, phases and gains (R153). -/
def foundWf (x : Nat × Nat × Nat) : Bool := decide (x.1 < 16) && fits 6 x.2.1 && fits 4 x.2.2

/-- The operands that a command can carry. -/
def Instr.wf : Instr → Bool
  | .frameBoundary _ powers => powers.all PortPower.wf
  | .slotGateRise _ => true
  | .refplsEdge _ _ => true
  | .pulseWindowClose _ _ => true
  | .domainQualify _ _ => true
  | .domainDisqualify _ _ => true
  | .gearComplete => true
  | .disagreement => true
  | .revert => true
  | .refclkGap _ _ => true
  | .dcoLock _ _ => true
  | .settleEntry _ => true
  | .reseat => true
  | .toA => true
  | .toB => true
  | .loopHold _ => true
  | .gaugeCoefWrite _ _ => true
  | .sync _ _ _ domain sender seqId => fits 8 domain && fits 80 sender && fits 16 seqId
  | .followUp _ _ domain sender seqId _ => fits 8 domain && fits 80 sender && fits 16 seqId
  | .delayReq _ _ seqId => fits 16 seqId
  | .delayResp _ _ domain seqId _ => fits 8 domain && fits 16 seqId
  | .announce _ _ domain m => fits 8 domain && m.wf
  | .announceReceiptTimeout _ _ => true
  | .ptpSampleTimeout _ _ => true
  | .tpoArm _ => true
  | .tpoDisarm _ => true
  | .tpoConfigWrite _ _ _ => true
  | .tpoStartWrite _ _ _ => true
  | .tpoEdgeCommit _ _ => true
  | .tpoEdge _ _ => true
  | .tpoIdleReturn _ _ => true
  | .tciEdge _ _ _ => true
  | .tciCapSelect _ _ => true
  | .txqSelect _ _ => true
  | .jobStartTrigger _ _ => true
  | .jigCycleBoundary _ => true
  | .conversionStart _ j => decide (1 ≤ j)
  | .conversionResult _ rs => rs.all ChannelResult.wf
  | .jigCompute _ ms _ _ => ms.all LoopMeas.wf
  | .ringJumpDone _ => true
  | .ringLock _ => true
  | .ringCaptureLimit _ => true
  | .ringUnlock _ => true
  | .ringWindowFail _ => true
  | .ringClampFault _ => true
  | .heaterCompliance _ => true
  | .takeoverRelease _ => true
  | .mislockCountReset _ _ => true
  | .verifyProbeSend _ _ => true
  | .verifyTimeout _ _ => true
  | .lCmdHold _ => true
  | .lCmdRelease _ => true
  | .lCmdJump _ => true
  | .lCmdSweep _ => true
  | .lCmdReset _ => true
  | .jigCoefWrite _ _ _ => true
  | .cmatCommit _ => true
  | .cmatCopy _ => true
  | .postedWriteDone _ => true
  | .slotCutoff _ => true
  | .slotStart _ _ => true
  | .slotEnd _ => true
  | .slotArrival _ _ a => a.wf
  | .phaseCacheInvalid _ _ => true
  | .headerDecode _ _ w _ _ ups => w.wf && ups.all Upset.wf
  | .codewordDecode _ _ _ w _ ups => w.wf && ups.all Upset.wf
  | .relayCommit _ _ => true
  | .tblHiWrite _ => true
  | .leafRegisterWrite _ _ => true
  | .pbLoad => true
  | .leafLoadDone ups => ups.all Upset.wf
  | .pbClear => true
  | .pbCheck => true
  | .checkComplete ups => ups.all LeafUpset.wf
  | .pbArm => true
  | .pbCancel => true
  | .switchDecision _ => true
  | .leafSwitch _ => true
  | .pbScrub ups => ups.all LeafUpset.wf
  | .wardrobeWrite _ _ _ => true
  | .spareWrite _ _ => true
  | .probeGo _ _ => true
  | .probeSend _ _ => true
  | .probeRx _ _ _ _ w => w.wf
  | .probeReplyRx _ _ w => w.wf
  | .probeNoReply _ _ => true
  | .probeNotSent _ _ => true
  | .rcbStageWrite _ _ _ => true
  | .rcbArm => true
  | .rcbCancel => true
  | .recableStart => true
  | .recablePhase => true
  | .learningSlot _ found => found.all foundWf
  | .recableEnd => true
  | .ringReplace _ _ => true
  | .channelFaultSpare _ _ => true
  | .portFailed _ => true
  | .laserLevelUp _ => true
  | .laserLevelDown _ => true
  | .spareReady _ _ _ => true
  | .spareWarmTimeout _ _ => true
  | .spareMeasurePort _ _ => true
  | .spareInRetry _ => true
  | .laserFlip _ _ => true
  | .flipTrackStep _ => true
  | .lostTrackRestart _ _ => true
  | .lsrForce _ => true
  | .lsrAbort _ => true
  | .fabricStop _ => true
  | .neighbourLost _ _ => true
  | .calTempTrigger _ _ _ => true
  | .calIntervalTrigger _ _ _ => true
  | .calRun _ _ => true
  | .calUnitStart _ => true
  | .calRunComplete _ _ => true
  | .calLockTimeout => true
  | .calSave => true
  | .calAutoSave _ => true
  | .calSaveComplete _ => true
  | .calRestore => true
  | .calAbort => true
  | .restoreWaitExpiry => true
  | .cuDownDelay _ => true
  | .cuSignalDetect _ _ => true
  | .cuDetectTimeout _ => true
  | .cuTrainAdapted _ _ => true
  | .cuTrainTimeout _ => true
  | .cuIdentRx _ b ls => b.wf && decide (ls.length ≤ 9) && ls.all LaneId.wf
  | .cuIdentTimeout _ => true
  | .cuAlignDone _ _ => true
  | .cuAlignTimeout _ => true
  | .cuFramingLoss _ => true
  | .cuQuarantineExit _ b => b.all IdBlock.wf
  | .cuRetrain _ => true
  | .cuSpare _ _ _ => true
  | .cuBack _ _ => true
  | .handoverPeerCopy _ _ _ => true
  | .handoverRxSwitch _ => true
  | .laneLockLoss _ _ => true
  | .laneWorn _ _ => true
  | .clStop _ => true
  | .clUngate _ => true
  | .clGate _ => true
  | .clQuarantine _ => true
  | .watchdog _ _ => true
  | .rampStage _ _ => true
  | .clusterSpareAssign _ _ => true
  | .nop _ _ => true
  | .endProg _ => true
  | .br _ => true
  | .jal _ => true
  | .jr _ => true
  | .brk _ => true
  | .rdfl _ => true
  | .clrfl _ => true
  | .aadd _ => true
  | .aaddi _ => true
  | .asub _ => true
  | .amul _ => true
  | .aand _ => true
  | .aor _ => true
  | .axor _ => true
  | .ashli _ => true
  | .ashri _ => true
  | .amovi _ => true
  | .acmp _ => true
  | .acmpi _ => true
  | .pand _ => true
  | .por _ => true
  | .pxor _ => true
  | .pnot _ => true
  | .pcnt _ => true
  | .pfroma _ => true
  | .vadd _ => true
  | .vsub _ => true
  | .vmul _ => true
  | .vfma _ => true
  | .vmin _ => true
  | .vmax _ => true
  | .vabs _ => true
  | .vneg _ => true
  | .vexp2 _ => true
  | .vlog2 _ => true
  | .vrcp _ => true
  | .vrsq _ => true
  | .vcmp _ => true
  | .vrsum _ => true
  | .vrmax _ => true
  | .vsel _ => true
  | .viadd _ => true
  | .visub _ => true
  | .vimul _ => true
  | .vand _ => true
  | .vor _ => true
  | .vxor _ => true
  | .vshl _ => true
  | .vshr _ => true
  | .vsra _ => true
  | .vicmp _ => true
  | .vperm _ => true
  | .vlane _ => true
  | .pfromv _ => true
  | .vld _ ups => ups.all Upset.wf
  | .vst _ => true
  | .vbci _ => true
  | .vbca _ => true
  | .vtoa _ => true
  | .cvt _ => true
  | .cvtmx _ => true
  | .cvtxf _ => true
  | .mma _ ups => ups.all Upset.wf
  | .tzero _ => true
  | .tld _ ups => ups.all Upset.wf
  | .tst _ => true
  | .trv _ => true
  | .vtr _ => true
  | .put _ => true
  | .get _ => true
  | .cpy _ => true
  | .cwait _ => true
  | .qget _ => true
  | .qcmt _ => true
  | .rwait _ => true
  | .rdone _ => true
  | .fwait _ => true
  | .twait _ => true
  | .tnow _ => true
  | .gbar _ => true
  | .gred _ => true
  | .tagDrain _ _ ups => ups.all Upset.wf
  | .externalWaitTimeout _ _ => true
  | .qgetWake _ => true
  | .rwaitWake _ => true
  | .fwaitWake _ => true
  | .twaitWake _ _ => true
  | .barrierRelease _ => true
  | .tagStallWake _ ups => ups.all Upset.wf
  | .cpyQueueWake _ => true
  | .programLoadDone _ ups _ => ups.all Upset.wf
  | .copyComplete _ ups => ups.all Upset.wf
  | .cpyProdWrite _ _ => true
  | .ringConfigWrite _ _ _ => true
  | .ringClaim _ => true
  | .ringRelease _ _ => true
  | .fellRegisterWrite _ _ _ => true
  | .memScrub ups => ups.all Upset.wf
  | .completionRecord _ _ => true
  | .gthRecSelect _ => true
  | .flitRx bytes _ => bytesIs 256 bytes
  | .rdS _ _ ups => ups.all Upset.wf
  | .rdO _ _ ups => ups.all Upset.wf
  | .rdNc _ _ ups => ups.all Upset.wf
  | .evict _ _ => true
  | .wb _ _ l => bytesIs 64 l
  | .wrNc _ _ _ l ups => bytesIs 64 l && ups.all Upset.wf
  | .csrRd _ _ _ ups => ups.all RegUpset.wf
  | .csrWr _ _ _ _ => true
  | .data _ l => bytesIs 64 l
  | .ack _ => true
  | .err _ => true
  | .snpI _ ups => ups.all Upset.wf
  | .snpS _ ups => ups.all Upset.wf
  | .snpDi _ l ups => bytesIs 64 l && ups.all Upset.wf
  | .snpDs _ l ups => bytesIs 64 l && ups.all Upset.wf
  | .snpTimeout _ ups _ => ups.all Upset.wf
  | .cohWinWrite _ _ => true
  | .calendarExamine _ ups _ => ups.all Upset.wf
  | .noticeWrite _ => true
  | .ulkSignalDetect _ => true
  | .ulkTrainDone _ x _ => x.wf
  | .ulkTrainTimeout _ => true
  | .ulkRecoverEntry _ _ => true
  | .ulkRecoverDone _ _ => true
  | .ulkFailed _ _ => true
  | .ulkFailedTimeout _ => true
  | .ulkRetrain => true
  | .vauxPowerOn _ _ slots => slots.all NvmSlots.wf
  | .vauxLow _ => true
  | .pwrOkRise _ _ _ => true
  | .pwrOkLow _ => true
  | .pkgResetNLow _ => true
  | .railFault _ _ => true
  | .vhtrOutOfRange _ => true
  | .thermalSample readings _ => readings.length == 140
  | .thermPortRead => true
  | .pwrHush => true
  | .pwrActive => true
  | .pwrDark _ => true
  | .darkReached _ => true
  | .beaconRx bytes _ => decide (bytes.length ≤ 524)
  | .beaconSend _ => true
  | .positionTimeout _ => true
  | .chainSwitch bytes _ => decide (bytes.length ≤ 524)
  | .chainReset bytes _ => decide (bytes.length ≤ 524)
  | .chainMsg bytes _ => decide (bytes.length ≤ 524)
  | .chainImage bytes _ => decide (bytes.length ≤ 524)
  | .chainSend _ _ => true
  | .chainTxTimeout _ => true
  | .cutlistRead _ => true
  | .firmwareVerify _ => true
  | .bringup _ _ _ => true
  | .lockSet => true
  | .lockWaitTimeout _ => true
  | .bootResetCold _ => true
  | .bootResetWarm _ => true
  | .bootResetFabric _ => true
  | .bootResetCompute _ => true
  | .resetComplete _ _ _ => true
  | .opkeyFuse => true
  | .csrWrite _ _ _ _ => true
  | .mbxSelect _ _ => true
  | .mbxSampleDone _ => true
  | .sqClear _ _ _ => true
  | .csrParityScrub ups => ups.all RegUpset.wf
  | .faultClr _ => true
  | .faultRecheckDone _ => true
  | .crcRecompute ups => ups.all RegUpset.wf
  | .crcCommit => true
  | .ctrCfgWrite _ _ => true
  | .snap => true
  | .snapshotTake _ => true
  | .clearAll => true
  | .logFlush _ _ => true
  | .flush => true
  | .fatalFlush _ => true
  | .dump => true
  | .dumpComplete => true
  | .optimeTick _ => true
  | .mcLoadWindow _ _ _ => true
  | .mcSelfCheck _ => true
  | .mc0Failure _ _ => true
  | .mcTakeoverDone _ => true
  | .mc1Failure _ => true
  | .patchWrite _ => true
  | .patchNoteAdd => true
  | .telemetryTick _ => true
  | .servicePoll _ => true
  | .alter ups _ => ups.all Upset.wf
  | .alterComplete _ _ => true
  | .attest _ => true
  | .cert _ => true
  | .fwSlotErase _ => true
  | .recoveryHeader _ => true
  | .imageReqRetry _ => true
  | .recoveryInstall _ => true
  | .pkgResetNRelease _ _ => true
  | .nvmDiscovery _ _ _ _ _ => true
  | .tportBlockLock _ _ => true
  | .monitorChannelFault _ => true
  | .handoverComplete _ => true

end Sys2Proof
end

