-- ==== Sys2Proof/Tests/Slice0.lean ====
section
/-! SUPPORT. Tests: ill-formed commands, the spec's worked examples, and for every statement states and operands that meet
its hypotheses. -/
set_option maxRecDepth 40000
set_option linter.unusedVariables false
namespace Sys2Proof.Tests
open Sys2Proof Sys2Proof.Machine

/-! ### Small states -/

/-- The reset state with register fields written. -/
def st (l : List (Field × Nat)) : State := l.foldl (fun s x => s.wr x.1 x.2) State.reset

/-- Register fields written over a state. -/
def put (s : State) (l : List (Field × Nat)) : State := l.foldl (fun s x => s.wr x.1 x.2) s

/-- VAUX in range, boot complete, the firmware running. -/
def running : State := { st [(BOOT.STATUS.PHASE, phDone), (PWR.STATE.STATE, pwActive)] with sys := { vaux := true, mc0 := true } }

/-- Both time ports enabled, with their links up. -/
def port : State := st [(TIO.TP_CFG.EN 0, 1), (TIO.TP_STAT.LINK 0, 1), (TIO.TP_CFG.EN 1, 1), (TIO.TP_STAT.LINK 1, 1)]

/-- An Announce message of sender 7. -/
def announce : AnnounceMsg := ⟨7, 0, 128, 6, 33, 100, 128, 5, 1, 37, true, false, false⟩

/-- Cluster 5 in RUN, about to issue instruction word `w`; its P1 has lane 0 alone. -/
def code (w : Nat) : State :=
  { st [(CL.STATE.STATE 5, clRun)] with
    comp := { clusters := [(5, { store := [(0, BitVec.ofNat 64 w)], p := [(1, 1)] })] } }

/-- Cluster 5 about to issue `w`, with `x` for the rest of it. -/
def with5 (w : Nat) (x : Cluster) : State :=
  { code w with comp := { clusters := [(5, { x with store := [(0, BitVec.ofNat 64 w)], p := [(1, 1)] })] } }

/-- Cluster 5 in RUN, waiting. -/
def waiting (k : WaitKind) (w : Nat) (u : Option Nat) : State :=
  with5 0 { wait := some ⟨k, BitVec.ofNat 64 w, u, 0⟩ }

/-- 64 bytes, zero but for those listed. -/
def bytesOf (l : List (Nat × Nat)) : List Byte := (List.range 64).map fun i => BitVec.ofNat 8 (Tbl.lookD l 0 i)

/-- The fabric at work: a leaf worn that claims nothing, every port enabled. -/
def fab : State :=
  put running [(PB.STATUS.WORN_VALID, 1), (GAUGE.STATUS.OPT_OK, 1), (GAUGE.STATUS.CU_OK, 1), (GAUGE.STATUS.STATE, gLocked),
    (OPE.CTRL.PORT_EN 0, 15), (OPE.CTRL.PORT_EN 1, 15), (OPE.CTRL.PORT_EN 2, 15), (OPE.CTRL.PORT_EN 3, 15)]

/-- A ring's record in a state. -/
def ringWith (s : State) (l : Nat) (x : Loop) (k : Option Nat) : State :=
  { s with fab := { s.fab with jig := { s.fab.jig with loops := [(l, x)], done := k } } }

/-- A codeword that carries a header and the payload. -/
def wordOf (h : Header) (l : List Byte) : Codeword := .good (h.toBytes ++ padTo 288 l) 0 0

/-- The fabric at work with one calibration unit queued. -/
def calFab (l : List (Field × Nat)) (u : CalUnit) : State := { put fab l with fab := { cal := { queue := [u] } } }

/-- The fabric at work with a calibration unit running. -/
def calRunning (cu : Bool) (x : CalRun) : State :=
  { fab with fab := { cal := if cu then { cu := some x } else { opt := some x } } }

/-- A copper link, enabled and cabled, in one of its states. -/
def cuAt (k s : Nat) : State := put fab [(CU.CTRL.EN k, 1), (CU.CTRL.CABLED k, 1), (CU.STAT.STATE k, s)]

/-- Eight receive lanes with identity blocks. -/
def lanes8 : List LaneId := (List.range 8).map fun i => ⟨i, i, false⟩


/-- The table leaf in one of its states. -/
def leafAt (n : Nat) : State := put running [(PB.STATUS.TBL_STATE, n)]

/-- The Urdal link in one of its states, the package at work. -/
def ul (n : Nat) : State := put running [(ULK.STAT.STATE, n), (PWR.STATE.STATE, pwActive)]

/-- The Urdal link up in recovery mode. -/
def ulRec : State := put (ul ulUp) [(BOOT.STATUS.PHASE, phStuck), (BOOT.STATUS.STUCK, 5)]

/-- The link up, with a coherence window from 0 of 1 GiB, and a record of the directory's and of LPDDR5. -/
def coh (d : Tbl DirEntry) (q : Tbl Snoop) (bad : Tbl Nat) : State :=
  { put (ul ulUp) [(ULK.COH_WIN.SIZE, 1)] with ulk := { dir := d, snoops := q }, comp := { lpddr := { bad := bad } } }

/-- A sound flit of a TYPE and a SEQ. -/
def flit (type seq : Nat) : List Byte :=
  let l := padTo 252 (leBytes 2 (4096 * type + seq))
  l ++ leBytes 4 (crc32c l)

/-- Calendar entry 0 waits to be examined; the cells are its bytes. -/
def cal (l : List Host.Cell) (seqs : Tbl Nat) : State :=
  { put (ul ulUp) [(ULK.CAL_CFG.ENTRIES, 1), (GAUGE.STATUS.STATE, gLocked), (ULK.CAL_CFG.LEAD, 0)] with
    ulk := { calWait := [0], calSeq := seqs }, comp := { lpddr := { cells := l } } }

/-- A calendar entry with SEQ 7 and a mask of one cluster. -/
def entryBytes : List Byte := (List.range 512).map fun i => if i = 18 then 1 else if i = 20 then 7 else if i = 64 then 1 else 0

/-- Trigger 3 in one of its stages, from entry 5. -/
def trig (x : JobStage) : State := { State.reset with comp := { jobs := [(3, { stage := x, entry := 5, eseq := 7, start := 10000 })] } }

/-- VAUX in range and boot under way, in one of its phases. -/
def bootAt (n : Nat) : State := { st [(BOOT.STATUS.PHASE, n), (PWR.STATE.STATE, pwBoot)] with sys := { vaux := true } }

/-- It, with its own boot record. -/
def bootWith (n : Nat) (x : Boot) : State := { bootAt n with sys := { vaux := true, boot := x } }

/-- The package at work with a power record, in one of the power states. -/
def powered (n : Nat) (x : Power) : State :=
  { put running [(PWR.STATE.STATE, n)] with sys := { vaux := true, boot := { pwrOk := true }, power := x } }

/-- The package at work with a reset in progress. -/
def resetting (k : Nat) : State := { running with sys := { vaux := true, reset := some k } }

/-- The package at work at position 5 of the chain, with a chain record. -/
def chained (x : Chain) : State := { put running [(BOOT.CHAIN.POSITION, 5)] with sys := { vaux := true, chain := x } }

/-- Recovery, with its record. -/
def recWith (x : Recov) : State :=
  { st [(BOOT.STATUS.PHASE, phStuck), (BOOT.STATUS.STUCK, 5), (PWR.STATE.STATE, pwBoot), (BOOT.CHAIN.POSITION, 5)] with
    sys := { vaux := true, recUl := true, recov := x } }

/-- The package at work with a parity record. -/
def faulted (bad : List (Nat × Nat)) (recheck : List Nat) : State :=
  { running with sys := { vaux := true, bad := bad, recheck := recheck } }

/-- An alteration of the cutting list with no operations, against an empty base. -/
def altBytes : List Byte :=
  let l := leBytes 4 0x4C414A46 ++ leBytes 2 1 ++ leBytes 2 2 ++ leBytes 4 0 ++ leBytes 4 84 ++ leBytes 4 0 ++ sha384 [] ++ leBytes 12 0
  l ++ leBytes 4 (crc32c l)

/-- The package at work with a service record. -/
def served (x : Svc) : State := { running with sys := { running.sys with svc := x } }

/-- The firmware running, with its transfers. -/
def moving (l : Tbl Move) : State := { running with sys := { running.sys with moves := l } }

/-- The command's next state. -/
def after (i : Instr) (s : State) : Option State := match exec i s with | .next t => some t | _ => none

/-- A measurement of a loop, all zero. -/
def meas0 : LoopMeas := ⟨0, 0, 0, 0, 0, 0, 0⟩

/-- The five oldest records of 17_health_log.md's example. -/
def flood : List LogRec := [(3, 20), (3, 16), (1, 0), (0, 8), (2, 24)].map fun r =>
  ⟨0, r.1, false, 0, 0, 0, 0, 0, 0, 0, List.replicate r.2 0⟩

/-! ### Ill-formed commands: one for each check of WellFormed -/

/-- A sound lane block, identity block and set of NVM slots, to spoil field by field. -/
def blk : LaneBlock := ⟨8, 7, 15, true, true, 15⟩
def idb : IdBlock := ⟨31, 7, 15, 255, 255, 1, 1, 1⟩
def ulp : UlParams := ⟨1, true, true, 65535, 65535, 65535, 65535⟩

theorem test_wf_numbers : fits 8 255 = true ∧ fits 8 256 = false ∧ bytesIs 64 (List.replicate 63 0) = false := by decide

theorem test_wf_announce : announce.wf = true ∧
    ([{ announce with sender := 2 ^ 80 }, { announce with priority1 := 256 }, { announce with clkClass := 256 },
      { announce with accuracy := 256 }, { announce with variance := 65536 }, { announce with priority2 := 256 },
      { announce with gm := 2 ^ 64 }, { announce with steps := 65536 }, { announce with logPeriod := -129 },
      { announce with logPeriod := 128 }, { announce with utcOffset := -32769 },
      { announce with utcOffset := 32768 }] : List AnnounceMsg).all (fun m => !m.wf) = true := by decide

theorem test_wf_codeword : (Codeword.good [] 0 0).wf = false ∧ (Codeword.good (List.replicate 320 0) 9 0).wf = false ∧
    (Codeword.good (List.replicate 320 0) 1 11).wf = false ∧ (Codeword.good (List.replicate 320 0) 8 80).wf = true := by decide

theorem test_wf_lane_block : blk.wf = true ∧ (Arrival.copper 0 false (List.replicate 10 blk)).wf = false ∧
    ([{ blk with plane := 9 }, { blk with llane := 8 }, { blk with req := 16 }, { blk with qlane := 16 }] : List LaneBlock).all
      (fun x => !x.wf && !(Arrival.copper 0 false [x]).wf) = true := by decide

theorem test_wf_identity : idb.wf = true ∧ LaneId.wf ⟨9, 0, false⟩ = false ∧ LaneId.wf ⟨0, 9, false⟩ = false ∧
    ([{ idb with node := 32 }, { idb with link := 8 }, { idb with spare := 16 }, { idb with verMinor := 256 },
      { idb with verMajor := 256 }, { idb with fw := 2 ^ 32 }, { idb with serial := 2 ^ 64 },
      { idb with digest := 2 ^ 128 }] : List IdBlock).all (fun x => !x.wf) = true := by decide

theorem test_wf_small : ChannelResult.wf ⟨512, 0, false⟩ = false ∧ RegUpset.wf ⟨2 ^ 26, 0, 0⟩ = false ∧
    RegUpset.wf ⟨2, 0, 0⟩ = false ∧ RegUpset.wf ⟨0, 0, 32⟩ = false ∧ Upset.wf ⟨2 ^ 48, false⟩ = false ∧
    LeafUpset.wf ⟨false, 2048, false⟩ = false ∧ PortPower.wf ⟨16, 0, 0⟩ = false ∧ foundWf (16, 0, 0) = false ∧
    foundWf (0, 64, 0) = false ∧ foundWf (0, 0, 16) = false ∧ LoopMeas.wf { meas0 with loop := 176 } = false := by decide

theorem test_wf_companion : ulp.wf = true ∧
    ([{ ulp with major := 256 }, { ulp with req := 65536 }, { ulp with snp := 65536 }, { ulp with rsp := 65536 },
      { ulp with dat := 65536 }] : List UlParams).all (fun x => !x.wf) = true := by decide

/-- R439: a list of 16 MiB + 1 is too long to build; the bound is shown on the lengths. -/
theorem test_wf_slots (l : List Byte) (h : 0x1000000 < l.length) : NvmSlots.wf ⟨l, [], [], []⟩ = false ∧
    NvmSlots.wf ⟨[], l, [], []⟩ = false ∧ NvmSlots.wf ⟨[], [], l, []⟩ = false ∧ NvmSlots.wf ⟨[], [], [], l⟩ = false := by
  have h2 : ¬ l.length ≤ 0x800000 := by omega
  have h1 : ¬ l.length ≤ 0x1000000 := by omega
  simp [NvmSlots.wf, h1, h2]

theorem test_wf_commands_time : (Instr.sync .a 0 false 256 0 0).wf = false ∧ (Instr.sync .a 0 false 0 (2 ^ 80) 0).wf = false ∧
    (Instr.sync .a 0 false 0 0 65536).wf = false ∧ (Instr.followUp .a 0 256 0 0 0).wf = false ∧
    (Instr.delayReq .a 0 65536).wf = false ∧ (Instr.delayResp .a 0 256 0 0).wf = false ∧
    (Instr.announce .a 0 256 announce).wf = false ∧ (Instr.conversionStart 0 0).wf = false ∧
    (Instr.frameBoundary 0 [⟨16, 0, 0⟩]).wf = false := by decide

theorem test_wf_commands_bytes : (Instr.flitRx [] true).wf = false ∧ (Instr.wb 0 0 []).wf = false ∧
    (Instr.wrNc 0 0 0 [] []).wf = false ∧ (Instr.data 0 []).wf = false ∧ (Instr.snpDi 0 [] []).wf = false ∧
    (Instr.snpDs 0 [] []).wf = false ∧ (Instr.thermalSample [] 0).wf = false ∧
    (Instr.chainMsg (List.replicate 525 0) 0).wf = false ∧ (Instr.beaconRx (List.replicate 525 0) 0).wf = false ∧
    (Instr.cuIdentRx 0 idb (List.replicate 10 ⟨0, 0, false⟩)).wf = false := by decide

theorem test_wf_commands_upsets : (Instr.vld 0 [⟨2 ^ 48, false⟩]).wf = false ∧ (Instr.mma 0 [⟨2 ^ 48, false⟩]).wf = false ∧
    (Instr.memScrub [⟨2 ^ 48, false⟩]).wf = false ∧ (Instr.rdS 0 0 [⟨2 ^ 48, false⟩]).wf = false ∧
    (Instr.csrRd 0 0 0 [⟨0, 0, 32⟩]).wf = false ∧ (Instr.pbScrub [⟨true, 2048, false⟩]).wf = false ∧
    (Instr.csrParityScrub [⟨2, 0, 0⟩]).wf = false := by decide

/-! ### The spec's worked examples -/

/-- 04_pattern_book.md and 09_copper_bench.md: entries as their tables encode them. -/
theorem test_entry_encodings :
    Entry.ofBits 0x100000081F800001 = ⟨0, 16, 0, 0, 64, 4032, 0, 1⟩ ∧
    Entry.ofBits 0x5200400840040060 = ⟨2, 18, 0, 2, 66, 2, 3, 0⟩ ∧
    Entry.ofBits 0x9308007D00280001 = ⟨4, 19, 1, 0, 1000, 20, 0, 1⟩ ∧
    Entry.ofBits 0x9018007D00280001 = ⟨4, 16, 3, 0, 1000, 20, 0, 1⟩ ∧
    Entry.ofBits 0x3200E07D00280001 = ⟨1, 18, 0, 7, 1000, 20, 0, 1⟩ := by decide

/-- 04_pattern_book.md: YP fell head, runs and tail, and YP take, at the cycle slots that the table lists. -/
theorem test_entry_slots :
    ([66, 67, 4092, 4093].all fun c => Entry.claims ⟨2, 18, 0, 2, 66, 2, 3, 0⟩ 4096 c) = true ∧
    ([64, 65, 68, 4094, 4095].any fun c => Entry.claims ⟨2, 18, 0, 2, 66, 2, 3, 0⟩ 4096 c) = false ∧
    Entry.claims ⟨1, 18, 0, 2, 65, 1, 3, 0⟩ 4096 4094 = true ∧
    Entry.claims ⟨1, 18, 0, 2, 65, 1, 3, 0⟩ 4096 4095 = false := by decide

/-- 05_colour_ports.md: port O3 of the misrouted probe's end takes index 21 to index 11 with colour 22. -/
theorem test_probe_colour : colourTo 21 11 = 22 := by decide

/-- 11_cluster_instructions.md: the fields of instructions 4, 6 and 11. -/
theorem test_instruction_fields :
    (let w := 0xA00066CE00030400
     [bitsOf w 56 8, fTD w, fFA w, fFB w, fRA w, fRB w, fRSA w, fRSB w, fK w, bit (fZero w)] = [0xA0, 0, 3, 3, 6, 7, 0, 0, 96, 1]) ∧
    (let w := 0x8000400200000000
     [bitsOf w 56 8, fVD w, fVA w, fFrom w, fTo w, fRnd w, fOvf w] = [0x80, 1, 0, 0, 2, 0, 0]) := by decide

/-- The same page: BR of index 11, taken with a lane of P1 set, goes to index 5. -/
theorem test_branch_taken : (after (.br 5) (code 0x0200028000000005)).map (fun s => (s.cl 5).pc) = some 5 := by decide

/-- 10_clusters.md: 32 products of 2^-26 and 1.0 in FP32. -/
theorem test_block_sum : f32Of ((blockSum (List.replicate 32 ((FpVal.fin false 1 (-13)).mul (.fin false 1 (-13))))).1.add
    (ofF32 0x3F800000)) = (0x3F800004, {}) := by decide

/-- The same page: 1 + 4 × 2^-23 to BF16 under RNE and SR. -/
theorem test_to_bf16 : cvtTo bf16 .rne .inf (ofF32 0x3F800004) = (0x3F80, { nx := true }) ∧
    (cvtTo bf16 (.sr 0xFFFC) .inf (ofF32 0x3F800004)).1 = 0x3F81 ∧
    (cvtTo bf16 (.sr 0x1234) .inf (ofF32 0x3F800004)).1 = 0x3F80 := by decide

/-- The same page: MX4 with largest magnitude 5.0; 2.7 is 0x402CCCCD in FP32. -/
theorem test_to_mx4 : mxScale 2 [ofF32 0x40A00000, ofF32 0x402CCCCD] = 0x7F ∧
    mxElem e2m1 .rne 0x7F (ofF32 0x40A00000) = (6, { nx := true }) ∧
    mxElem e2m1 .rne 0x7F (ofF32 0x402CCCCD) = (5, { nx := true }) := by decide

/-- 13_urdal_link.md: the low 64 bits of the record of job 3, whose 2,000 tokens are all OK. -/
theorem test_record : (Job.record { done := 2 ^ 2000 - 1, start := 7 } 3) % 2 ^ 64 = 0x00FFFF4000180000 := by decide

/-- 16_register_interface.md: a clear with an old SEQ loses; with SEQ as read it clears both flags. -/
theorem test_event_clear :
    (let s := put running [(PB.EVENT.SW_MISSED, 1), (PB.EVENT.CHECK_DONE, 1), (seqOf PB.EVENT.SW_MISSED, 0x18)]
     ((s.csrWrite .link PB.EVENT.base 4 0x17000000).1.csrRead .link PB.EVENT.base 4).2.toOption = some 0x18000012 ∧
     ((s.csrWrite .link PB.EVENT.base 4 0x18000000).1.csrRead .link PB.EVENT.base 4).2.toOption = some 0x18000000) := by decide

/-- 17_health_log.md: 52 bytes for an ERROR record where 20 are free: the WARNING record goes. -/
theorem test_log_room : (makeRoom 308 52 2 5 flood).map (fun p => (p.1.map LogRec.size, p.2)) = some ([64, 60, 52, 68], 1) := by decide

/-! ### Standards that the spec names -/

/-- The check values of CRC-32C and CRC-32 over the nine digits. -/
theorem test_crc : crc32c [0x31, 0x32, 0x33, 0x34, 0x35, 0x36, 0x37, 0x38, 0x39] = 0xE3069283 ∧
    crc32 [0x31, 0x32, 0x33, 0x34, 0x35, 0x36, 0x37, 0x38, 0x39] = 0xCBF43926 := by decide

/-- FIPS 180-4: SHA-384 of "abc". -/
theorem test_sha384 : ofBeBytes (sha384 [0x61, 0x62, 0x63]) =
    0xCB00753F45A35E8BB5A03D699AC65007272C32AB0EDED1631A8B605A43FF5BED8086072BA1E7CC2358BAECA134C825A7 := by decide

/-- RFC 5639: the base point lies on the curve. -/
theorem test_curve : bpKeyOk bpX bpY = true := by decide

/-! ### A cutting list -/

/-- HALL records that give every CL field that refuses zero another value. -/
def hall : List Byte :=
  [(0x10018, 1, 1), (0x80000, 0x10, 0x10), (0x90000, 0x100, 0x100), (0xA4000C, 1, 1)].flatMap fun r =>
    leBytes 4 r.1 ++ leBytes 4 r.2.1 ++ leBytes 4 r.2.2

/-- An unsigned list with HALL, ROUTERS and FLIGHT sections, up to its trailer. -/
def listBody : List Byte :=
  leBytes 4 0x4C434A46 ++ leBytes 2 1 ++ leBytes 2 3 ++ leBytes 8 400 ++ leBytes 48 0 ++
    [(1, 112, 48), (3, 160, 0), (4, 160, 0)].flatMap (fun k => leBytes 2 k.1 ++ leBytes 2 0 ++ leBytes 4 k.2.1 ++ leBytes 4 k.2.2 ++
      leBytes 4 (if k.1 = 1 then crc32 hall else 0)) ++ hall

/-- R445, R446: all checks but that of the records' values, which its four records are chosen for. -/
theorem test_cutting_list : (let l := listBody ++ sha384 listBody ++ List.replicate 192 0
    clHeaderOk l && clSectionsOk l && clCrcOk l && digestOk l (clLength l) && clSigOk none l && clTypesOk l) = true := by decide

/-! ### For every statement with hypotheses, a state and operands that meet them -/

theorem wit_gaugeSwitchReseat :
  (∃ s : State, s.gState = gLocked ∧ s.valid .a = true ∧ s.active = .b) ∧
  (∃ s : State, s.gState = gLocked ∧ s.valid .b = true ∧ s.active = .a) ∧
  (∃ s : State, s.on GAUGE.CTRL.REVERT = true ∧ s.gState = gLocked ∧ s.active ≠ s.pref ∧ s.valid s.pref = true ∧ s.rd GAUGE.REVERT.FRAMES ≤ (s.dom s.pref).validRun) ∧
  (∃ (s : State) (c : Instr), c = .reseat ∧ s.gState = gLocked ∧ s.validDom.isSome = true) ∧
  (∃ (s : State) (c : Instr), c = .reseat ∧ s.gState = gSeamHeld ∧ s.validDom.isSome = true) ∧
  (∃ (s : State) (c : Instr), c = .reseat ∧ s.gState = gHoldover ∧ s.validDom.isSome = true) ∧
  (∃ (s : State) (c : Instr), c = .disagreement ∧ s.gState = gLocked ∧ 8 ≤ s.gauge.disRun ∧ s.gauge.disSeam = false) :=
  ⟨⟨st [(GAUGE.STATUS.STATE, gLocked), (validField .a, 1), (GAUGE.STATUS.ACTIVE, 1)], by decide, by decide, by decide⟩,
    ⟨st [(GAUGE.STATUS.STATE, gLocked), (validField .b, 1)], by decide, by decide, by decide⟩,
    ⟨{ st [(GAUGE.CTRL.REVERT, 1), (GAUGE.STATUS.STATE, gLocked), (GAUGE.CTRL.PREF, 1), (validField .b, 1), (GAUGE.REVERT.FRAMES, 3)] with gauge := { domB := { validRun := 3 } } }, by decide, by decide, by decide, by decide, by decide⟩,
    ⟨st [(GAUGE.STATUS.STATE, gLocked), (validField .a, 1)], .reseat, rfl, by decide, by decide⟩,
    ⟨st [(GAUGE.STATUS.STATE, gSeamHeld), (validField .b, 1)], .reseat, rfl, by decide, by decide⟩,
    ⟨st [(GAUGE.STATUS.STATE, gHoldover), (validField .a, 1)], .reseat, rfl, by decide, by decide⟩,
    ⟨{ st [(GAUGE.STATUS.STATE, gLocked)] with gauge := { disRun := 8, disSeam := false } }, .disagreement, rfl, by decide, by decide, by decide⟩⟩

theorem wit_domainRecords :
  (∃ (s : State) (d : Dom) (at' : Nat), s.gState = gLocked ∧ s.now ≤ at' ∧ (edgeFrame at' (s.cable d)).2.natAbs ≤ winHalf ∧ 0 ≤ (edgeFrame at' (s.cable d)).1 ∧ (s.dom d).frame ≠ (edgeFrame at' (s.cable d)).1.toNat) ∧
  (∃ (s : State) (d : Dom) (f : Nat), s.gState = gLocked ∧ (s.dom d).frame ≠ f ∧ s.unsafeBlock 23 = true) ∧
  (∃ (s : State) (d : Dom), s.gState = gFree ∧ s.valid d = false ∧ (s.dom d).clk = true ∧ (s.port d).results = List.replicate 8 true ∧ s.rd GAUGE.QUAL.PLS_GOOD ≤ (s.dom d).goodNow) ∧
  (∃ (s : State) (d : Dom), s.gState = gFree ∧ s.valid d = true) ∧
  (∃ (s : State) (d : Dom) (at' : Nat), s.gauge.dco = dcoOf d ∧ s.valid d.other = false) ∧
  (∃ (s : State) (d : Dom) (at' : Nat), s.gState ≠ gFree ∧ s.gState ≠ gHoldover ∧ s.active = d) :=
  ⟨⟨st [(GAUGE.STATUS.STATE, gLocked)], .a, Config.frameTime + winHalf, by decide, by decide, by decide, by decide, by decide⟩,
    ⟨st [(GAUGE.STATUS.STATE, gLocked), (GLB.FAULT_LO.BLOCKS, 2 ^ 23)], .b, 5, by decide, by decide, by decide⟩,
    ⟨{ State.reset with gauge := { domA := { clk := true, goodRun := 8 } }, tio := { portA := { results := List.replicate 8 true } } }, .a, by decide, by decide, by decide, by decide, by decide⟩,
    ⟨st [(validField .b, 1)], .b, by decide, by decide⟩,
    ⟨{ State.reset with gauge := { dco := .a } }, .a, 7, by decide, by decide⟩,
    ⟨st [(GAUGE.STATUS.STATE, gLocked)], .a, 7, by decide, by decide, by decide⟩⟩

theorem wit_gaugeSettleGates :
  (∃ (s : State) (at' m c : Nat), s.gState = gFree ∧ s.on GAUGE.CTRL.ENABLE = true ∧ s.settleFit s.pref = true ∧ (s.port s.pref).prov = some (m, c) ∧ s.loopOpen = false) ∧
  (∃ s : State, s.gState = gSettle ∧ s.valid s.active = true ∧ s.rd GAUGE.GEAR.FRAMES ≤ s.gauge.gearRun ∧ s.rd GAUGE.GEAR.FRAMES ≠ 0) ∧
  (∃ s : State, s.csrSound ∧ s.gState = gLocked) ∧
  (∃ s : State, s.gState = gLocked ∧ 4 ≤ s.gauge.optRun) ∧
  (∃ s : State, s.gState = gLocked ∧ 4 ≤ s.gauge.cuRun) ∧
  (∃ (s : State) (v : BitVec 32), s.csrSound ∧ s.on GAUGE.CTRL.LOOP_HOLD = true) ∧
  (∃ (s : State) (trk : Bool) (v : BitVec 32), s.csrSound ∧ s.on GAUGE.CTRL.LOOP_HOLD = false ∧ s.gState ≠ gFree) :=
  ⟨⟨{ st [(GAUGE.CTRL.ENABLE, 1)] with gauge := { domA := { clk := true } }, tio := { portA := { results := [true], prov := some (5, 3) } } }, 4, 5, 3, by decide, by decide, by decide, by decide, by decide⟩,
    ⟨{ st [(GAUGE.STATUS.STATE, gSettle), (validField .a, 1), (GAUGE.GEAR.FRAMES, 4)] with gauge := { gearRun := 4 } }, by decide, by decide, by decide, by decide⟩,
    ⟨st [(GAUGE.STATUS.STATE, gLocked)], And.intro (by decide) (by decide), by decide⟩,
    ⟨{ st [(GAUGE.STATUS.STATE, gLocked)] with gauge := { optRun := 4 } }, by decide, by decide⟩,
    ⟨{ st [(GAUGE.STATUS.STATE, gLocked)] with gauge := { cuRun := 4 } }, by decide, by decide⟩,
    ⟨st [(GAUGE.CTRL.LOOP_HOLD, 1)], 9, And.intro (by decide) (by decide), by decide⟩,
    ⟨st [(GAUGE.STATUS.STATE, gLocked)], true, 9, And.intro (by decide) (by decide), by decide, by decide⟩⟩

theorem wit_timePorts :
  (∃ (s : State) (p : Dom) (t domain sender seqId : Nat), s.portUp p = true ∧ domain = s.rd (TIO.TP_CFG.DOMAIN (portNum p)) ∧ (s.port p).parent = some sender) ∧
  (∃ (s : State) (p : Dom) (t domain sender seqId origin rx : Nat), s.portUp p = true ∧ domain = s.rd (TIO.TP_CFG.DOMAIN (portNum p)) ∧ (s.port p).parent = some sender ∧ (s.port p).sync = some (seqId, rx)) ∧
  (∃ (s : State) (p : Dom) (t seqId : Nat), s.portUp p = true ∧ (s.port p).gm.isSome = true ∧ (s.port p).txq.length < 8) ∧
  (∃ (s : State) (p : Dom) (t domain seqId receive tx : Nat) (d : Int), s.portUp p = true ∧ domain = s.rd (TIO.TP_CFG.DOMAIN (portNum p)) ∧ (s.port p).dreq = some (seqId, tx) ∧ (s.port p).pair = some d) ∧
  (∃ (s : State) (p : Dom) (t domain : Nat) (m : AnnounceMsg), s.portUp p = true ∧ domain = s.rd (TIO.TP_CFG.DOMAIN (portNum p)) ∧ (s.port p).masters = [] ∧ (s.port p).lastGm = none ∧ (s.port p).gm = none ∧ s.active ≠ p) ∧
  (∃ (s : State) (p : Dom) (t at' : Nat) (m : AnnounceMsg) (r : List (AnnounceMsg × Nat)), (s.port p).masters = (m, at') :: r ∧ (s.port p).parent = some m.sender ∧ at' + 3 * logSeconds m.logPeriod ≤ t ∧ s.on (TIO.TP_CFG.EN (portNum p)) = true ∧ s.on (TIO.TP_STAT.LINK (portNum p)) = true) ∧
  (∃ (s : State) (p : Dom) (t : Nat), s.portUp p = true ∧ (s.port p).gm.isSome = true ∧ (s.port p).lastPair + Config.ns 2000000000 ≤ t) ∧
  (∃ (s : State) (p : Dom), s.on (TIO.TP_CFG.EN (portNum p)) = true) :=
  ⟨⟨{ port with tio := { portA := { parent := some 9 } } }, .a, 0, 0, 9, 4, by decide, by decide, by decide⟩,
    ⟨{ port with tio := { portA := { parent := some 9, sync := some (4, 10) } } }, .a, 0, 0, 9, 4, 6, 10, by decide, by decide, by decide, by decide⟩,
    ⟨{ port with tio := { portA := { gm := some 1 } } }, .a, 0, 65535, by decide, by decide, by decide⟩,
    ⟨{ port with tio := { portA := { dreq := some (4, 8), pair := some (-2) } } }, .a, 0, 0, 4, 6, 8, -2, by decide, by decide, by decide, by decide⟩,
    ⟨{ port with gauge := {} }, .b, 0, 0, announce, by decide, by decide, by decide, by decide, by decide, by decide⟩,
    ⟨{ port with tio := { portA := { masters := [(announce, 0)], parent := some 7 } } }, .a, 3 * logSeconds 0, 0, announce, [], by decide, by decide, by decide, by decide, by decide⟩,
    ⟨{ port with tio := { portA := { gm := some 1 } } }, .a, Config.ns 2000000000, by decide, by decide, by decide⟩,
    ⟨port, .b, by decide⟩⟩

theorem wit_pulseOutputs :
  (∃ (s : State) (n : Fin 8), s.csrSound ∧ s.rd (TIO.TPO_CTRL.MODE n) = 2 ∧ s.unsafeBlock 2 = false) ∧
  (∃ (s : State) (n : Fin 8) (v : BitVec 32), s.csrSound ∧ v ≠ 0 ∧ s.rd (TIO.TPO_CTRL.MODE n) ≠ 2) ∧
  (∃ (s : State) (n : Fin 8) (v : BitVec 32), s.csrSound ∧ s.on (TIO.TPO_CTRL.ARMED n) = false) ∧
  (∃ (s : State) (n : Fin 8) (t : Nat), s.on (TIO.TPO_CTRL.ARMED n) = true ∧ s.gState = gLocked ∧ s.tpoOnGrid n (t + Config.ns 1000) = true ∧ (s.pulse n).fresh (t + Config.ns 1000) = true) ∧
  (∃ (s : State) (n : Fin 8) (c : PulseEdge) (r : List PulseEdge), (s.pulse n).committed = c :: r ∧ (s.pulse n).active = false ∧ (s.pulse n).idleAt = 0 ∧ s.rd (TIO.TPO_CTRL.MODE n) = 2) ∧
  (∃ (s : State) (n : Fin 8) (t : Nat), (s.pulse n).active = true ∧ (s.pulse n).idleAt ≤ t) :=
  ⟨⟨st [(TIO.TPO_CTRL.MODE 7, 2)], 7, And.intro (by decide) (by decide), by decide, by decide⟩,
    ⟨State.reset, 0, 1, And.intro (by decide) (by decide), by decide, by decide⟩,
    ⟨State.reset, 7, 0xFFFFFFFF, And.intro (by decide) (by decide), by decide⟩,
    ⟨st [(TIO.TPO_CTRL.ARMED 0, 1), (TIO.TPO_CTRL.MODE 0, 1), (GAUGE.STATUS.STATE, gLocked), (TIO.TPO_START_LO.TNS_LO 0, 1000)], 0, 0, by decide, by decide, by decide, by decide⟩,
    ⟨{ st [(TIO.TPO_CTRL.MODE 0, 2)] with tio := { pulses := [(0, { committed := [⟨5, 6, false⟩] })] } }, 0, ⟨5, 6, false⟩, [], by decide, by decide, by decide, by decide⟩,
    ⟨{ State.reset with tio := { pulses := [(7, { active := true, idleAt := 9 })] } }, 7, 9, by decide, by decide⟩⟩

theorem wit_stampsAndTriggers :
  (∃ (s : State) (n : Fin 4) (t : Nat) (rising : Bool), tciSelects (s.rd (TIO.TCI_CTRL.IN n)) rising = true ∧ s.unsafeBlock 2 = false ∧ (s.cap n).last = none ∧ (s.cap n).fifo.length < 4) ∧
  (∃ (s : State) (n : Fin 4) (b : Bank) (c : Stamp) (r : List Stamp), (s.cap n).fifo = c :: r ∧ r.length < 4) ∧
  (∃ (s : State) (p : Dom) (b : Bank) (c : TxStamp) (r : List TxStamp), (s.port p).txq = c :: r) ∧
  (∃ (s : State) (j : Fin 8) (t : Nat), (s.job j).stage = .armed ∧ (s.job j).start * 65536 ≤ max s.now t ∧ s.gState = gLocked) ∧
  (∃ (s : State) (j : Fin 8) (t : Nat), (s.job j).stage = .armed ∧ (s.job j).start * 65536 ≤ max s.now t ∧ s.gState = gFree) ∧
  (∃ (s : State) (f : Nat) (powers : List PortPower), s.sys.vaux = true ∧ frameOf s.now ≤ f ∧ ((s.advance (f * Config.frameTime)).gaugeFrame f).mainUp = true) :=
  ⟨⟨st [(TIO.TCI_CTRL.IN 3, 1)], 3, 5, true, by decide, by decide, by decide, by decide⟩,
    ⟨{ State.reset with tio := { caps := [(3, { fifo := [⟨5, 2⟩] })] } }, 3, .link, ⟨5, 2⟩, [], by decide, by decide⟩,
    ⟨{ State.reset with tio := { portB := { txq := [⟨5, 0, 4⟩] } } }, .b, .mgmt, ⟨5, 0, 4⟩, [], by decide⟩,
    ⟨{ st [(GAUGE.STATUS.STATE, gLocked)] with comp := { jobs := [(7, { stage := .armed, start := 2 })] } }, 7, 2 * 65536, by decide, by decide, by decide⟩,
    ⟨{ State.reset with comp := { jobs := [(0, { stage := .armed, start := 2 })] } }, 0, 2 * 65536, by decide, by decide, by decide⟩,
    ⟨{ running with log := {} }, 0, [], by decide, by decide, by decide⟩⟩

theorem wit_scalarResults :
  (∃ (s : State) (c : Fin 2048) (w : Nat) (i : Instr) (v : AWord), s.permitted c w ∧ s.issuing c w 0x20 [predField, (48, 4), (44, 4), (40, 4)] ∧ i = .aadd c ∧ v = (s.cl c).areg (fAA w) + (s.cl c).areg (fAB w)) ∧
  (∃ (s : State) (c : Fin 2048) (w : Nat) (i : Instr) (v : AWord), s.permitted c w ∧ s.issuing c w 0x21 [predField, (48, 4), (44, 4), (0, 28)] ∧ i = .aaddi c ∧ v = (s.cl c).areg (fAA w) + BitVec.ofInt 48 (fImm28 w)) ∧
  (∃ (s : State) (c : Fin 2048) (w : Nat) (i : Instr) (v : AWord), s.permitted c w ∧ s.issuing c w 0x22 [predField, (48, 4), (44, 4), (40, 4)] ∧ i = .asub c ∧ v = (s.cl c).areg (fAA w) - (s.cl c).areg (fAB w)) ∧
  (∃ (s : State) (c : Fin 2048) (w : Nat) (i : Instr) (v : AWord), s.permitted c w ∧ s.issuing c w 0x23 [predField, (48, 4), (44, 4), (40, 4)] ∧ i = .amul c ∧ v = (s.cl c).areg (fAA w) * (s.cl c).areg (fAB w)) ∧
  (∃ (s : State) (c : Fin 2048) (w : Nat) (i : Instr) (v : AWord), s.permitted c w ∧ s.issuing c w 0x24 [predField, (48, 4), (44, 4), (40, 4)] ∧ i = .aand c ∧ v = (s.cl c).areg (fAA w) &&& (s.cl c).areg (fAB w)) ∧
  (∃ (s : State) (c : Fin 2048) (w : Nat) (i : Instr) (v : AWord), s.permitted c w ∧ s.issuing c w 0x25 [predField, (48, 4), (44, 4), (40, 4)] ∧ i = .aor c ∧ v = (s.cl c).areg (fAA w) ||| (s.cl c).areg (fAB w)) ∧
  (∃ (s : State) (c : Fin 2048) (w : Nat) (i : Instr) (v : AWord), s.permitted c w ∧ s.issuing c w 0x26 [predField, (48, 4), (44, 4), (40, 4)] ∧ i = .axor c ∧ v = (s.cl c).areg (fAA w) ^^^ (s.cl c).areg (fAB w)) ∧
  (∃ (s : State) (c : Fin 2048) (w : Nat) (i : Instr) (v : AWord), s.permitted c w ∧ s.issuing c w 0x27 [predField, (48, 4), (44, 4), (0, 28)] ∧ 0 ≤ fImm28 w ∧ fImm28 w ≤ 47 ∧ i = .ashli c ∧ v = (s.cl c).areg (fAA w) <<< (fImm28 w).toNat) ∧
  (∃ (s : State) (c : Fin 2048) (w : Nat) (i : Instr) (v : AWord), s.permitted c w ∧ s.issuing c w 0x28 [predField, (48, 4), (44, 4), (0, 28)] ∧ 0 ≤ fImm28 w ∧ fImm28 w ≤ 47 ∧ i = .ashri c ∧ v = (s.cl c).areg (fAA w) >>> (fImm28 w).toNat) ∧
  (∃ (s : State) (c : Fin 2048) (w : Nat) (i : Instr) (v : AWord), s.permitted c w ∧ s.issuing c w 0x29 [predField, (48, 4), (0, 48)] ∧ i = .amovi c ∧ v = BitVec.ofNat 48 (w % 2 ^ 48)) ∧
  (∃ (s : State) (c : Fin 2048) (w : Nat) (i : Instr) (v : AWord), s.permitted c w ∧ s.issuing c w 0x30 [predField, (48, 4), (34, 3)] ∧ i = .pcnt c ∧ v = BitVec.ofNat 48 (popCount ((s.cl c).preg (fPA w)))) :=
  ⟨⟨code 0x2020000000000000, 5, 0x2020000000000000, _, _, (show enabled _ 0 = true by decide), And.intro (by decide) (And.intro (by decide) (And.intro (by decide) (by decide))), rfl, rfl⟩,
    ⟨code 0x2120000008000000, 5, 0x2120000008000000, _, _, (show enabled _ 0 = true by decide), And.intro (by decide) (And.intro (by decide) (And.intro (by decide) (by decide))), rfl, rfl⟩,
    ⟨code 0x2220000000000000, 5, 0x2220000000000000, _, _, (show enabled _ 0 = true by decide), And.intro (by decide) (And.intro (by decide) (And.intro (by decide) (by decide))), rfl, rfl⟩,
    ⟨code 0x2320000000000000, 5, 0x2320000000000000, _, _, (show enabled _ 0 = true by decide), And.intro (by decide) (And.intro (by decide) (And.intro (by decide) (by decide))), rfl, rfl⟩,
    ⟨code 0x2420000000000000, 5, 0x2420000000000000, _, _, (show enabled _ 0 = true by decide), And.intro (by decide) (And.intro (by decide) (And.intro (by decide) (by decide))), rfl, rfl⟩,
    ⟨code 0x2520000000000000, 5, 0x2520000000000000, _, _, (show enabled _ 0 = true by decide), And.intro (by decide) (And.intro (by decide) (And.intro (by decide) (by decide))), rfl, rfl⟩,
    ⟨code 0x2620000000000000, 5, 0x2620000000000000, _, _, (show enabled _ 0 = true by decide), And.intro (by decide) (And.intro (by decide) (And.intro (by decide) (by decide))), rfl, rfl⟩,
    ⟨code 0x272000000000002f, 5, 0x272000000000002f, _, _, (show enabled _ 0 = true by decide), And.intro (by decide) (And.intro (by decide) (And.intro (by decide) (by decide))), by decide, by decide, rfl, rfl⟩,
    ⟨code 0x282000000000002f, 5, 0x282000000000002f, _, _, (show enabled _ 0 = true by decide), And.intro (by decide) (And.intro (by decide) (And.intro (by decide) (by decide))), by decide, by decide, rfl, rfl⟩,
    ⟨code 0x2920000000000000, 5, 0x2920000000000000, _, _, (show enabled _ 0 = true by decide), And.intro (by decide) (And.intro (by decide) (And.intro (by decide) (by decide))), rfl, rfl⟩,
    ⟨code 0x3020000000000000, 5, 0x3020000000000000, _, _, (show enabled _ 0 = true by decide), And.intro (by decide) (And.intro (by decide) (And.intro (by decide) (by decide))), rfl, rfl⟩⟩

theorem wit_predicates :
  (∃ (s : State) (c : Fin 2048) (w : Nat) (i : Instr), ¬ s.permitted c w ∧ s.issuing c w 0x20 [predField, (48, 4), (44, 4), (40, 4)] ∧ i = .aadd c) ∧
  (∃ (s : State) (c : Fin 2048) (w : Nat) (i : Instr), ¬ s.permitted c w ∧ s.issuing c w 0x29 [predField, (48, 4), (0, 48)] ∧ i = .amovi c) ∧
  (∃ (s : State) (c : Fin 2048) (w : Nat) (i : Instr), ¬ s.permitted c w ∧ s.issuing c w 0x2C [predField, (37, 3), (34, 3), (31, 3)] ∧ i = .pand c) ∧
  (∃ (s : State) (c : Fin 2048) (w : Nat) (i : Instr), ¬ s.permitted c w ∧ s.issuing c w 0xC0 [predField, (44, 4), (40, 4), (31, 3), (0, 25)] ∧ i = .put c) ∧
  (∃ (s : State) (c : Fin 2048) (w : Nat) (i : Instr), ¬ s.permitted c w ∧ s.issuing c w 0xCB [predField, (48, 4), (34, 6)] ∧ i = .gbar c) ∧
  (∃ (s : State) (c : Fin 2048) (w : Nat) (i : Instr) (v : Pred), s.permitted c w ∧ s.issuing c w 0x2A [predField, (44, 4), (40, 4), (37, 3), (28, 3)] ∧ i = .acmp c ∧ v = allOf (cmpBits (fCond w) ((s.cl c).areg (fAA w)) ((s.cl c).areg (fAB w)))) ∧
  (∃ (s : State) (c : Fin 2048) (w : Nat) (i : Instr) (v : Pred), s.permitted c w ∧ s.issuing c w 0x2B [predField, (44, 4), (37, 3), (28, 3), (0, 28)] ∧ i = .acmpi c ∧ v = allOf (cmpBits (fCond w) ((s.cl c).areg (fAA w)) (BitVec.ofInt 48 (fImm28 w)))) ∧
  (∃ (s : State) (c : Fin 2048) (w : Nat) (i : Instr) (v : Pred), s.permitted c w ∧ s.issuing c w 0x2C [predField, (37, 3), (34, 3), (31, 3)] ∧ i = .pand c ∧ v = (s.cl c).preg (fPA w) &&& (s.cl c).preg (fPB w)) ∧
  (∃ (s : State) (c : Fin 2048) (w : Nat) (i : Instr) (v : Pred), s.permitted c w ∧ s.issuing c w 0x2D [predField, (37, 3), (34, 3), (31, 3)] ∧ i = .por c ∧ v = (s.cl c).preg (fPA w) ||| (s.cl c).preg (fPB w)) ∧
  (∃ (s : State) (c : Fin 2048) (w : Nat) (i : Instr) (v : Pred), s.permitted c w ∧ s.issuing c w 0x2E [predField, (37, 3), (34, 3), (31, 3)] ∧ i = .pxor c ∧ v = (s.cl c).preg (fPA w) ^^^ (s.cl c).preg (fPB w)) ∧
  (∃ (s : State) (c : Fin 2048) (w : Nat) (i : Instr) (v : Pred), s.permitted c w ∧ s.issuing c w 0x2F [predField, (37, 3), (34, 3)] ∧ i = .pnot c ∧ v = ~~~ (s.cl c).preg (fPA w)) ∧
  (∃ (s : State) (c : Fin 2048) (w : Nat) (i : Instr) (v : Pred), s.permitted c w ∧ s.issuing c w 0x31 [predField, (44, 4), (37, 3)] ∧ i = .pfroma c ∧ v = BitVec.ofNat 64 ((s.cl c).areg (fAA w)).toNat) ∧
  (∃ (s : State) (c : Fin 2048) (w : Nat) (i : Instr) (f : Nat → Bool), s.issuing c w 0x4C [predField, (40, 6), (34, 6), (25, 3), (22, 3)] ∧ i = .vcmp c ∧ (f = fun n => f32Cmp (fVCond w) ((s.cl c).lane (fVA w) n) ((s.cl c).lane (fVB w) n))) ∧
  (∃ (s : State) (c : Fin 2048) (w : Nat) (i : Instr) (f : Nat → Bool), s.issuing c w 0x59 [predField, (40, 6), (34, 6), (25, 3), (22, 3)] ∧ i = .vicmp c ∧ (f = fun n => cmpBits (fVCond w) ((s.cl c).lane (fVA w) n) ((s.cl c).lane (fVB w) n))) ∧
  (∃ (s : State) (c : Fin 2048) (w : Nat) (i : Instr) (f : Nat → Bool), s.issuing c w 0x5C [predField, (40, 6), (25, 3)] ∧ i = .pfromv c ∧ (f = fun n => (s.cl c).lane (fVA w) n != 0)) :=
  ⟨⟨code 0x2040000000000000, 5, 0x2040000000000000, _, (show ¬ enabled _ 0 = true by decide), And.intro (by decide) (And.intro (by decide) (And.intro (by decide) (by decide))), rfl⟩,
    ⟨code 0x2940000000000000, 5, 0x2940000000000000, _, (show ¬ enabled _ 0 = true by decide), And.intro (by decide) (And.intro (by decide) (And.intro (by decide) (by decide))), rfl⟩,
    ⟨code 0x2c40000000000000, 5, 0x2c40000000000000, _, (show ¬ enabled _ 0 = true by decide), And.intro (by decide) (And.intro (by decide) (And.intro (by decide) (by decide))), rfl⟩,
    ⟨code 0xc040000000000000, 5, 0xc040000000000000, _, (show ¬ enabled _ 0 = true by decide), And.intro (by decide) (And.intro (by decide) (And.intro (by decide) (by decide))), rfl⟩,
    ⟨code 0xcb40000000000000, 5, 0xcb40000000000000, _, (show ¬ enabled _ 0 = true by decide), And.intro (by decide) (And.intro (by decide) (And.intro (by decide) (by decide))), rfl⟩,
    ⟨code 0x2a20000000000000, 5, 0x2a20000000000000, _, _, (show enabled _ 0 = true by decide), And.intro (by decide) (And.intro (by decide) (And.intro (by decide) (by decide))), rfl, rfl⟩,
    ⟨code 0x2b20000000000000, 5, 0x2b20000000000000, _, _, (show enabled _ 0 = true by decide), And.intro (by decide) (And.intro (by decide) (And.intro (by decide) (by decide))), rfl, rfl⟩,
    ⟨code 0x2c20000000000000, 5, 0x2c20000000000000, _, _, (show enabled _ 0 = true by decide), And.intro (by decide) (And.intro (by decide) (And.intro (by decide) (by decide))), rfl, rfl⟩,
    ⟨code 0x2d20000000000000, 5, 0x2d20000000000000, _, _, (show enabled _ 0 = true by decide), And.intro (by decide) (And.intro (by decide) (And.intro (by decide) (by decide))), rfl, rfl⟩,
    ⟨code 0x2e20000000000000, 5, 0x2e20000000000000, _, _, (show enabled _ 0 = true by decide), And.intro (by decide) (And.intro (by decide) (And.intro (by decide) (by decide))), rfl, rfl⟩,
    ⟨code 0x2f20000000000000, 5, 0x2f20000000000000, _, _, (show enabled _ 0 = true by decide), And.intro (by decide) (And.intro (by decide) (And.intro (by decide) (by decide))), rfl, rfl⟩,
    ⟨code 0x3120000000000000, 5, 0x3120000000000000, _, _, (show enabled _ 0 = true by decide), And.intro (by decide) (And.intro (by decide) (And.intro (by decide) (by decide))), rfl, rfl⟩,
    ⟨code 0x4c20000000000000, 5, 0x4c20000000000000, _, _, And.intro (by decide) (And.intro (by decide) (And.intro (by decide) (by decide))), rfl, rfl⟩,
    ⟨code 0x5920000000000000, 5, 0x5920000000000000, _, _, And.intro (by decide) (And.intro (by decide) (And.intro (by decide) (by decide))), rfl, rfl⟩,
    ⟨code 0x5c20000000000000, 5, 0x5c20000000000000, _, _, And.intro (by decide) (And.intro (by decide) (And.intro (by decide) (by decide))), rfl, rfl⟩⟩

theorem wit_lanewiseResults :
  (∃ (s : State) (c : Fin 2048) (w : Nat) (i : Instr) (f : Nat → Lane × Flags), s.issuing c w 0x40 [predField, (46, 6), (40, 6), (34, 6)] ∧ i = .vadd c ∧ (f = fun n => f32Add ((s.cl c).lane (fVA w) n) ((s.cl c).lane (fVB w) n))) ∧
  (∃ (s : State) (c : Fin 2048) (w : Nat) (i : Instr) (f : Nat → Lane × Flags), s.issuing c w 0x41 [predField, (46, 6), (40, 6), (34, 6)] ∧ i = .vsub c ∧ (f = fun n => f32Sub ((s.cl c).lane (fVA w) n) ((s.cl c).lane (fVB w) n))) ∧
  (∃ (s : State) (c : Fin 2048) (w : Nat) (i : Instr) (f : Nat → Lane × Flags), s.issuing c w 0x42 [predField, (46, 6), (40, 6), (34, 6)] ∧ i = .vmul c ∧ (f = fun n => f32Mul ((s.cl c).lane (fVA w) n) ((s.cl c).lane (fVB w) n))) ∧
  (∃ (s : State) (c : Fin 2048) (w : Nat) (i : Instr) (f : Nat → Lane × Flags), s.issuing c w 0x43 [predField, (46, 6), (40, 6), (34, 6), (28, 6)] ∧ i = .vfma c ∧ (f = fun n => f32Fma ((s.cl c).lane (fVA w) n) ((s.cl c).lane (fVB w) n) ((s.cl c).lane (fVC w) n))) ∧
  (∃ (s : State) (c : Fin 2048) (w : Nat) (i : Instr) (f : Nat → Lane × Flags), s.issuing c w 0x44 [predField, (46, 6), (40, 6), (34, 6)] ∧ i = .vmin c ∧ (f = fun n => (f32Min ((s.cl c).lane (fVA w) n) ((s.cl c).lane (fVB w) n), {}))) ∧
  (∃ (s : State) (c : Fin 2048) (w : Nat) (i : Instr) (f : Nat → Lane × Flags), s.issuing c w 0x45 [predField, (46, 6), (40, 6), (34, 6)] ∧ i = .vmax c ∧ (f = fun n => (f32Max ((s.cl c).lane (fVA w) n) ((s.cl c).lane (fVB w) n), {}))) ∧
  (∃ (s : State) (c : Fin 2048) (w : Nat) (i : Instr) (f : Nat → Lane × Flags), s.issuing c w 0x46 [predField, (46, 6), (40, 6)] ∧ i = .vabs c ∧ (f = fun n => ((s.cl c).lane (fVA w) n &&& 0x7FFFFFFF, {}))) ∧
  (∃ (s : State) (c : Fin 2048) (w : Nat) (i : Instr) (f : Nat → Lane × Flags), s.issuing c w 0x47 [predField, (46, 6), (40, 6)] ∧ i = .vneg c ∧ (f = fun n => ((s.cl c).lane (fVA w) n ^^^ 0x80000000, {}))) ∧
  (∃ (s : State) (c : Fin 2048) (w : Nat) (i : Instr) (f : Nat → Lane × Flags), s.issuing c w 0x48 [predField, (46, 6), (40, 6)] ∧ i = .vexp2 c ∧ (f = fun n => f32Exp2 ((s.cl c).lane (fVA w) n))) ∧
  (∃ (s : State) (c : Fin 2048) (w : Nat) (i : Instr) (f : Nat → Lane × Flags), s.issuing c w 0x49 [predField, (46, 6), (40, 6)] ∧ i = .vlog2 c ∧ (f = fun n => f32Log2 ((s.cl c).lane (fVA w) n))) ∧
  (∃ (s : State) (c : Fin 2048) (w : Nat) (i : Instr) (f : Nat → Lane × Flags), s.issuing c w 0x4A [predField, (46, 6), (40, 6)] ∧ i = .vrcp c ∧ (f = fun n => f32Rcp ((s.cl c).lane (fVA w) n))) ∧
  (∃ (s : State) (c : Fin 2048) (w : Nat) (i : Instr) (f : Nat → Lane × Flags), s.issuing c w 0x4B [predField, (46, 6), (40, 6)] ∧ i = .vrsq c ∧ (f = fun n => f32Rsq ((s.cl c).lane (fVA w) n))) ∧
  (∃ (s : State) (c : Fin 2048) (w : Nat) (i : Instr) (f : Nat → Lane × Flags), s.issuing c w 0x4F [predField, (46, 6), (40, 6), (34, 6), (25, 3)] ∧ i = .vsel c ∧ (f = fun n => (if enabled ((s.cl c).preg (fVPD w)) n then (s.cl c).lane (fVA w) n else (s.cl c).lane (fVB w) n, {}))) :=
  ⟨⟨code 0x4020000000000000, 5, 0x4020000000000000, _, _, And.intro (by decide) (And.intro (by decide) (And.intro (by decide) (by decide))), rfl, rfl⟩,
    ⟨code 0x4120000000000000, 5, 0x4120000000000000, _, _, And.intro (by decide) (And.intro (by decide) (And.intro (by decide) (by decide))), rfl, rfl⟩,
    ⟨code 0x4220000000000000, 5, 0x4220000000000000, _, _, And.intro (by decide) (And.intro (by decide) (And.intro (by decide) (by decide))), rfl, rfl⟩,
    ⟨code 0x4320000000000000, 5, 0x4320000000000000, _, _, And.intro (by decide) (And.intro (by decide) (And.intro (by decide) (by decide))), rfl, rfl⟩,
    ⟨code 0x4420000000000000, 5, 0x4420000000000000, _, _, And.intro (by decide) (And.intro (by decide) (And.intro (by decide) (by decide))), rfl, rfl⟩,
    ⟨code 0x4520000000000000, 5, 0x4520000000000000, _, _, And.intro (by decide) (And.intro (by decide) (And.intro (by decide) (by decide))), rfl, rfl⟩,
    ⟨code 0x4620000000000000, 5, 0x4620000000000000, _, _, And.intro (by decide) (And.intro (by decide) (And.intro (by decide) (by decide))), rfl, rfl⟩,
    ⟨code 0x4720000000000000, 5, 0x4720000000000000, _, _, And.intro (by decide) (And.intro (by decide) (And.intro (by decide) (by decide))), rfl, rfl⟩,
    ⟨code 0x4820000000000000, 5, 0x4820000000000000, _, _, And.intro (by decide) (And.intro (by decide) (And.intro (by decide) (by decide))), rfl, rfl⟩,
    ⟨code 0x4920000000000000, 5, 0x4920000000000000, _, _, And.intro (by decide) (And.intro (by decide) (And.intro (by decide) (by decide))), rfl, rfl⟩,
    ⟨code 0x4a20000000000000, 5, 0x4a20000000000000, _, _, And.intro (by decide) (And.intro (by decide) (And.intro (by decide) (by decide))), rfl, rfl⟩,
    ⟨code 0x4b20000000000000, 5, 0x4b20000000000000, _, _, And.intro (by decide) (And.intro (by decide) (And.intro (by decide) (by decide))), rfl, rfl⟩,
    ⟨code 0x4f20000000000000, 5, 0x4f20000000000000, _, _, And.intro (by decide) (And.intro (by decide) (And.intro (by decide) (by decide))), rfl, rfl⟩⟩

theorem wit_lanewiseInteger :
  (∃ (s : State) (c : Fin 2048) (w : Nat) (i : Instr) (f : Nat → Lane), (∃ (g : Lane → Lane → Lane) (op : Nat), s.issuing c w op [predField, (46, 6), (40, 6), (34, 6)] ∧ (f = fun n => g ((s.cl c).lane (fVA w) n) ((s.cl c).lane (fVB w) n)) ∧ ((i = .viadd c ∧ op = 0x50 ∧ g = fun (a b : Lane) => a + b) ∨ (i = .visub c ∧ op = 0x51 ∧ g = fun (a b : Lane) => a - b) ∨ (i = .vimul c ∧ op = 0x52 ∧ g = fun (a b : Lane) => a * b) ∨ (i = .vand c ∧ op = 0x53 ∧ g = fun (a b : Lane) => a &&& b) ∨ (i = .vor c ∧ op = 0x54 ∧ g = fun (a b : Lane) => a ||| b) ∨ (i = .vxor c ∧ op = 0x55 ∧ g = fun (a b : Lane) => a ^^^ b) ∨ (i = .vshl c ∧ op = 0x56 ∧ g = fun (a b : Lane) => a <<< (b.toNat % 32)) ∨ (i = .vshr c ∧ op = 0x57 ∧ g = fun (a b : Lane) => a >>> (b.toNat % 32)) ∨ (i = .vsra c ∧ op = 0x58 ∧ g = fun (a b : Lane) => a.sshiftRight (b.toNat % 32))))) ∧
  (∃ (s : State) (c : Fin 2048) (w : Nat) (i : Instr) (f : Nat → Lane), s.issuing c w 0x5A [predField, (46, 6), (40, 6), (34, 6)] ∧ i = .vperm c ∧ (f = fun n => (s.cl c).lane (fVA w) (((s.cl c).lane (fVB w) n).toNat % 64))) ∧
  (∃ (s : State) (c : Fin 2048) (w : Nat) (i : Instr) (f : Nat → Lane), s.issuing c w 0x5B [predField, (46, 6)] ∧ i = .vlane c ∧ (f = fun n => BitVec.ofNat 32 n)) :=
  ⟨⟨code 0x5020000000000000, 5, 0x5020000000000000, _, _, ⟨_, _, And.intro (by decide) (And.intro (by decide) (And.intro (by decide) (by decide))), rfl, .inl ⟨rfl, rfl, rfl⟩⟩⟩,
    ⟨code 0x5a20000000000000, 5, 0x5a20000000000000, _, _, And.intro (by decide) (And.intro (by decide) (And.intro (by decide) (by decide))), rfl, rfl⟩,
    ⟨code 0x5b20000000000000, 5, 0x5b20000000000000, _, _, And.intro (by decide) (And.intro (by decide) (And.intro (by decide) (by decide))), rfl, rfl⟩⟩

theorem wit_reductionsAndConversions :
  (∃ (s : State) (c : Fin 2048) (w : Nat) (i : Instr) (idle : Lane) (f : Lane → Lane → Lane × Flags), s.issuing c w 0x4D [predField, (46, 6), (40, 6)] ∧ i = .vrsum c ∧ idle = 0x80000000 ∧ f = f32Add) ∧
  (∃ (s : State) (c : Fin 2048) (w : Nat) (i : Instr) (idle : Lane) (f : Lane → Lane → Lane × Flags), s.issuing c w 0x4E [predField, (46, 6), (40, 6)] ∧ i = .vrmax c ∧ idle = 0xFF800000 ∧ (f = fun a b => (f32Max a b, {}))) ∧
  (∃ (s : State) (c : Fin 2048) (w : Nat) (i : Instr) (f : List (BitVec 64) → Nat → Lane × Flags), s.issuing c w 0x80 [predField, (46, 6), (40, 6), (36, 4), (32, 4), (30, 2), (28, 2)] ∧ cvtOk w = true ∧ i = .cvt c ∧ (f = fun d n => cvtLane w (rndMode (fRnd w) d n) ((s.cl c).lane (fVA w) n))) ∧
  (∃ (s : State) (c : Fin 2048) (w : Nat) (i : Instr) (f : List (BitVec 64) → Nat → Lane × Flags), s.issuing c w 0x81 [predField, (46, 6), (40, 6), (36, 4), (32, 4), (30, 2), (28, 2)] ∧ fFrom w = 0 ∧ fTo w = 5 ∧ fRnd w ≤ 2 ∧ fOvf w = 0 ∧ i = .cvtmx c ∧ (f = fun d n => let sc := mxScale (mxFmt (fTo w)).2 ((List.range 32).map fun j => ofF32 ((s.cl c).lane (fVA w) (n / 32 * 32 + j))); let r := mxElem (mxFmt (fTo w)).1 (rndMode (fRnd w) d n) sc (ofF32 ((s.cl c).lane (fVA w) n)); (BitVec.ofNat 32 (r.1 + 256 * sc), r.2))) ∧
  (∃ (s : State) (c : Fin 2048) (w : Nat) (i : Instr) (f : List (BitVec 64) → Nat → Lane × Flags), s.issuing c w 0x81 [predField, (46, 6), (40, 6), (36, 4), (32, 4), (30, 2), (28, 2)] ∧ fFrom w = 0 ∧ fTo w = 6 ∧ fRnd w ≤ 2 ∧ fOvf w = 0 ∧ i = .cvtmx c ∧ (f = fun d n => let sc := mxScale (mxFmt (fTo w)).2 ((List.range 32).map fun j => ofF32 ((s.cl c).lane (fVA w) (n / 32 * 32 + j))); let r := mxElem (mxFmt (fTo w)).1 (rndMode (fRnd w) d n) sc (ofF32 ((s.cl c).lane (fVA w) n)); (BitVec.ofNat 32 (r.1 + 256 * sc), r.2))) ∧
  (∃ (s : State) (c : Fin 2048) (w : Nat) (i : Instr) (f : List (BitVec 64) → Nat → Lane × Flags), s.issuing c w 0x82 [predField, (46, 6), (40, 6), (36, 4), (32, 4), (30, 2), (28, 2)] ∧ fFrom w = 5 ∧ fTo w = 0 ∧ fRnd w = 0 ∧ fOvf w = 0 ∧ i = .cvtxf c ∧ (f = fun _ n => toF32 (mxVal (mxFmt (fFrom w)).1 (((s.cl c).lane (fVA w) n).toNat % 256) (bitsOf ((s.cl c).lane (fVA w) n).toNat 8 8)))) ∧
  (∃ (s : State) (c : Fin 2048) (w : Nat) (i : Instr) (f : List (BitVec 64) → Nat → Lane × Flags), s.issuing c w 0x82 [predField, (46, 6), (40, 6), (36, 4), (32, 4), (30, 2), (28, 2)] ∧ fFrom w = 6 ∧ fTo w = 0 ∧ fRnd w = 0 ∧ fOvf w = 0 ∧ i = .cvtxf c ∧ (f = fun _ n => toF32 (mxVal (mxFmt (fFrom w)).1 (((s.cl c).lane (fVA w) n).toNat % 256) (bitsOf ((s.cl c).lane (fVA w) n).toNat 8 8)))) :=
  ⟨⟨code 0x4d20000000000000, 5, 0x4d20000000000000, _, _, _, And.intro (by decide) (And.intro (by decide) (And.intro (by decide) (by decide))), rfl, rfl, rfl⟩,
    ⟨code 0x4e20000000000000, 5, 0x4e20000000000000, _, _, _, And.intro (by decide) (And.intro (by decide) (And.intro (by decide) (by decide))), rfl, rfl, rfl⟩,
    ⟨code 0x8020000100000000, 5, 0x8020000100000000, _, _, And.intro (by decide) (And.intro (by decide) (And.intro (by decide) (by decide))), by decide, rfl, rfl⟩,
    ⟨code 0x8120000500000000, 5, 0x8120000500000000, _, _, And.intro (by decide) (And.intro (by decide) (And.intro (by decide) (by decide))), by decide, by decide, by decide, by decide, rfl, rfl⟩,
    ⟨code 0x8120000680000000, 5, 0x8120000680000000, _, _, And.intro (by decide) (And.intro (by decide) (And.intro (by decide) (by decide))), by decide, by decide, by decide, by decide, rfl, rfl⟩,
    ⟨code 0x8220005000000000, 5, 0x8220005000000000, _, _, And.intro (by decide) (And.intro (by decide) (And.intro (by decide) (by decide))), by decide, by decide, by decide, by decide, rfl, rfl⟩,
    ⟨code 0x8220006000000000, 5, 0x8220006000000000, _, _, And.intro (by decide) (And.intro (by decide) (And.intro (by decide) (by decide))), by decide, by decide, by decide, by decide, rfl, rfl⟩⟩

theorem wit_vectorLoads :
  (∃ (s : State) (c : Fin 2048) (w : Nat) (ups : List Upset), s.issuing c w 0x60 [predField, (46, 6), (42, 4), (36, 6), (32, 4), (0, 32)] ∧ wOk 4 w = true ∧ localAddr (s.cl c) w % 8 = 0 ∧ let on := (wLanes (fW w) (fLane w)).filter (enabled ((s.cl c).pred w)); let a := localAddr (s.cl c) w; let r := (s.issued c).readWords c (wordsAt a (reached (fW w) (fLane w) on)) ups; reachEnd a (reached (fW w) (fLane w) on) ≤ sramBytes ∧ r.2 = true) :=
  ⟨code 0x6020000000000000, 5, 0x6020000000000000, [], And.intro (by decide) (And.intro (by decide) (And.intro (by decide) (by decide))), by decide, by decide, by decide, by decide⟩

theorem wit_broadcastsAndTiles :
  (∃ (s : State) (c : Fin 2048) (w : Nat) (i : Instr) (x : Lane), s.issuing c w 0x62 [predField, (46, 6), (0, 32)] ∧ i = .vbci c ∧ x = BitVec.ofNat 32 (w % 2 ^ 32)) ∧
  (∃ (s : State) (c : Fin 2048) (w : Nat) (i : Instr) (x : Lane), s.issuing c w 0x63 [predField, (46, 6), (42, 4)] ∧ i = .vbca c ∧ x = ((s.cl c).areg (fLA w)).setWidth 32) ∧
  (∃ (s : State) (c : Fin 2048) (w : Nat), s.permitted c w ∧ s.issuing c w 0x64 [predField, (46, 6), (42, 4), (36, 6)]) ∧
  (∃ (s : State) (c : Fin 2048) (w : Nat), s.issuing c w 0xA1 [predField, (49, 3)]) ∧
  (∃ (s : State) (c : Fin 2048) (w : Nat) (ups : List Upset), s.issuing c w 0xA2 [predField, (49, 3), (34, 4), (0, 32)] ∧ let a := tileAddr (s.cl c) w; let cols := lanesOn ((s.cl c).pred w); a % 64 = 0 ∧ rangesOk (tileRanges a cols) = true ∧ ((s.issued c).readWords c (rangeWords (tileRanges a cols)) ups).2 = true) ∧
  (∃ (s : State) (c : Fin 2048) (w : Nat), s.issuing c w 0xA4 [predField, (49, 3), (43, 6), (38, 5), (34, 4)]) ∧
  (∃ (s : State) (c : Fin 2048) (w : Nat), s.issuing c w 0xA5 [predField, (49, 3), (43, 6), (38, 5), (34, 4)]) :=
  ⟨⟨code 0x6220000000000000, 5, 0x6220000000000000, _, _, And.intro (by decide) (And.intro (by decide) (And.intro (by decide) (by decide))), rfl, rfl⟩,
    ⟨code 0x6320000000000000, 5, 0x6320000000000000, _, _, And.intro (by decide) (And.intro (by decide) (And.intro (by decide) (by decide))), rfl, rfl⟩,
    ⟨code 0x6420000000000000, 5, 0x6420000000000000, (show enabled _ 0 = true by decide), And.intro (by decide) (And.intro (by decide) (And.intro (by decide) (by decide)))⟩,
    ⟨code 0xa120000000000000, 5, 0xa120000000000000, And.intro (by decide) (And.intro (by decide) (And.intro (by decide) (by decide)))⟩,
    ⟨code 0xa220000000000000, 5, 0xa220000000000000, [], And.intro (by decide) (And.intro (by decide) (And.intro (by decide) (by decide))), by decide, by decide, by decide⟩,
    ⟨code 0xa420000000000000, 5, 0xa420000000000000, And.intro (by decide) (And.intro (by decide) (And.intro (by decide) (by decide)))⟩,
    ⟨code 0xa520000000000000, 5, 0xa520000000000000, And.intro (by decide) (And.intro (by decide) (And.intro (by decide) (by decide)))⟩⟩

theorem wit_storingInstructions :
  (∃ (s : State) (c : Fin 2048) (w : Nat), s.issuing c w 0x61 [predField, (46, 6), (42, 4), (36, 6), (32, 4), (0, 32)] ∧ wOk 5 w = true ∧ ((fW w ≠ 5 → localAddr (s.cl c) w % 8 = 0)) ∧ let on := (wLanes (fW w) (fLane w)).filter (enabled ((s.cl c).pred w)); let a := localAddr (s.cl c) w; let l := reached (fW w) (fLane w) on; reachEnd a l ≤ sramBytes) ∧
  (∃ (s : State) (c : Fin 2048) (w : Nat), s.issuing c w 0xA3 [predField, (49, 3), (34, 4), (0, 32)] ∧ let a := tileAddr (s.cl c) w; let cols := lanesOn ((s.cl c).pred w); a % 64 = 0 ∧ rangesOk (tileRanges a cols) = true) :=
  ⟨⟨code 0x6120000000000000, 5, 0x6120000000000000, And.intro (by decide) (And.intro (by decide) (And.intro (by decide) (by decide))), by decide, by decide, by decide⟩,
    ⟨code 0xa320000000000000, 5, 0xa320000000000000, And.intro (by decide) (And.intro (by decide) (And.intro (by decide) (by decide))), by decide, by decide⟩⟩

theorem wit_matrixMultiply :
  (∃ (s : State) (c : Fin 2048) (w : Nat) (ups : List Upset), s.issuing c w 0xA0 [predField, (49, 3), (45, 4), (41, 4), (37, 4), (33, 4), (29, 4), (25, 4), (11, 14), (10, 1)] ∧ fFA w ≤ 7 ∧ fFB w ≤ 7 ∧ (isMx (fFA w) = false → fRSA w = 0) ∧ fRSB w = 0 ∧ fFA w = fFB w ∧ ((isMx (fFA w) = true → fK w % 32 = 0)) ∧ fK w ≠ 0 ∧ let x := s.cl c; let o : MmaOp := ⟨fFA w, fFB w, (x.areg (fRA w)).toNat, (x.areg (fRB w)).toNat, (x.areg (fRSA w)).toNat, (x.areg (fRSB w)).toNat, fK w⟩; let cols := lanesOn (x.pred w); let start (m n : Nat) : Lane := if fZero w then 0 else x.elem (fTD w) m n; let res (m n : Nat) : Lane × Flags := if fFA w = 7 then o.accumulateInt x.sram m n (start m n) else o.accumulate x.sram m n (start m n); o.a % 64 = 0 ∧ o.b % 64 = 0 ∧ rangesOk (o.ranges cols) = true ∧ ((s.issued c).readWords c (rangeWords (o.ranges cols)) ups).2 = true) ∧
  (∃ (s : State) (c : Fin 2048) (w : Nat) (ups : List Upset), s.issuing c w 0xA0 [predField, (49, 3), (45, 4), (41, 4), (37, 4), (33, 4), (29, 4), (25, 4), (11, 14), (10, 1)] ∧ fFA w ≤ 7 ∧ fFB w ≤ 7 ∧ (isMx (fFA w) = false → fRSA w = 0) ∧ fRSB w = 0 ∧ fFA w = fFB w ∧ fK w = 0) :=
  ⟨⟨code 0xa020000000000800, 5, 0xa020000000000800, [], And.intro (by decide) (And.intro (by decide) (And.intro (by decide) (by decide))), by decide, by decide, by decide, by decide, by decide, by decide, by decide, by decide, by decide, by decide, by decide⟩,
    ⟨code 0xa000000000000000, 5, 0xa000000000000000, [], And.intro (by decide) (And.intro (by decide) (And.intro (by decide) (by decide))), by decide, by decide, by decide, by decide, by decide, by decide⟩⟩

theorem wit_controlFlow :
  (∃ (s : State) (c : Fin 2048) (w : Nat), s.issuing c w 0x00 []) ∧
  (∃ (s : State) (c : Fin 2048) (w : Nat), s.fetch c = some w ∧ w / 2 ^ 56 = 0x02 ∧ onlyFields w [(41, 3), (39, 2), (0, 13)] = true ∧ brTaken (bitsOf w 39 2) ((s.cl c).preg (bitsOf w 41 3)) = true) ∧
  (∃ (s : State) (c : Fin 2048) (w : Nat), s.issuing c w 0x02 [(41, 3), (39, 2), (0, 13)] ∧ brTaken (bitsOf w 39 2) ((s.cl c).preg (bitsOf w 41 3)) = false) ∧
  (∃ (s : State) (c : Fin 2048) (w : Nat), s.fetch c = some w ∧ w / 2 ^ 56 = 0x03 ∧ onlyFields w [(48, 4), (0, 13)] = true) ∧
  (∃ (s : State) (c : Fin 2048) (w : Nat), s.fetch c = some w ∧ w / 2 ^ 56 = 0x04 ∧ onlyFields w [(44, 4)] = true ∧ ((s.cl c).areg (fAA w)).toNat ≤ 8191) ∧
  (∃ (s : State) (c : Fin 2048) (w : Nat), s.issuing c w 0x06 [(48, 4)]) ∧
  (∃ (s : State) (c : Fin 2048) (w : Nat), s.issuing c w 0x07 []) ∧
  (∃ (s : State) (c : Fin 2048) (w : Nat), s.issuing c w 0x01 [] ∧ (s.cl c).handles = [] ∧ s.allDrained c = true) ∧
  (∃ (s : State) (c : Fin 2048) (w : Nat), s.issuing c w 0x01 [] ∧ (s.cl c).handles = [] ∧ s.allDrained c = false) :=
  ⟨⟨code 0x0, 5, 0x0, And.intro (by decide) (And.intro (by decide) (And.intro (by decide) (by decide)))⟩,
    ⟨code 0x200000000000000, 5, 0x200000000000000, by decide, by decide, by decide, by decide⟩,
    ⟨code 0x200048000000000, 5, 0x200048000000000, And.intro (by decide) (And.intro (by decide) (And.intro (by decide) (by decide))), by decide⟩,
    ⟨code 0x300000000000000, 5, 0x300000000000000, by decide, by decide, by decide⟩,
    ⟨code 0x400000000000000, 5, 0x400000000000000, by decide, by decide, by decide, by decide⟩,
    ⟨code 0x600000000000000, 5, 0x600000000000000, And.intro (by decide) (And.intro (by decide) (And.intro (by decide) (by decide)))⟩,
    ⟨code 0x700000000000000, 5, 0x700000000000000, And.intro (by decide) (And.intro (by decide) (And.intro (by decide) (by decide)))⟩,
    ⟨code 0x100000000000000, 5, 0x100000000000000, And.intro (by decide) (And.intro (by decide) (And.intro (by decide) (by decide))), by decide, by decide⟩,
    ⟨put (code 0x100000000000000) [(tagField 5 7, 1)], 5, 0x100000000000000, And.intro (by decide) (And.intro (by decide) (And.intro (by decide) (by decide))), by decide, by decide⟩⟩

theorem wit_programFaults :
  (∃ (s : State) (c : Fin 2048) (w : Nat) (i : Instr) (code : Nat), s.fetch c = some w ∧ w / 2 ^ 56 = 0x05 ∧ onlyFields w [] = true ∧ i = .brk c ∧ code = pfUser) ∧
  (∃ (s : State) (c : Fin 2048) (w : Nat) (i : Instr) (code : Nat), s.fetch c = some w ∧ opListed (w / 2 ^ 56) = false ∧ i = .nop c false ∧ code = pfIllegal) ∧
  (∃ (s : State) (c : Fin 2048) (w : Nat) (i : Instr) (code : Nat), s.fetch c = some w ∧ w / 2 ^ 56 = 0x20 ∧ onlyFields w [predField, (48, 4), (44, 4), (40, 4)] = false ∧ i = .aadd c ∧ code = pfIllegal) ∧
  (∃ (s : State) (c : Fin 2048) (w : Nat) (i : Instr) (code : Nat), s.fetch c = some w ∧ w / 2 ^ 56 = 0x00 ∧ onlyFields w [] = true ∧ (s.cl c).pc = 8191 ∧ i = .nop c false ∧ code = pfPcEnd) ∧
  (∃ (s : State) (c : Fin 2048) (w : Nat) (i : Instr) (code : Nat), s.fetch c = some w ∧ w / 2 ^ 56 = 0x04 ∧ onlyFields w [(44, 4)] = true ∧ 8191 < ((s.cl c).areg (fAA w)).toNat ∧ i = .jr c ∧ code = pfPcEnd) ∧
  (∃ (s : State) (c : Fin 2048) (w : Nat) (i : Instr) (code : Nat), s.fetch c = some w ∧ w / 2 ^ 56 = 0x01 ∧ onlyFields w [] = true ∧ (s.cl c).handles ≠ [] ∧ i = .endProg c ∧ code = pfHeld) ∧
  (∃ (s : State) (c : Fin 2048) (w : Nat) (i : Instr) (code : Nat), s.fetch c = some w ∧ w / 2 ^ 56 = 0x61 ∧ onlyFields w [predField, (46, 6), (42, 4), (36, 6), (32, 4), (0, 32)] = true ∧ wOk 5 w = true ∧ fW w ≠ 5 ∧ localAddr (s.cl c) w % 8 ≠ 0 ∧ i = .vst c ∧ code = pfAlign) ∧
  (∃ (s : State) (c : Fin 2048) (w : Nat) (i : Instr) (code : Nat), s.fetch c = some w ∧ w / 2 ^ 56 = 0xA3 ∧ onlyFields w [predField, (49, 3), (34, 4), (0, 32)] = true ∧ tileAddr (s.cl c) w % 64 = 0 ∧ rangesOk (tileRanges (tileAddr (s.cl c) w) (lanesOn ((s.cl c).pred w))) = false ∧ i = .tst c ∧ code = pfRange) ∧
  (∃ (s : State) (c : Fin 2048) (w : Nat) (i : Instr) (code : Nat), s.fetch c = some w ∧ w / 2 ^ 56 = 0xC4 ∧ onlyFields w [predField, (48, 4), (34, 6)] = true ∧ s.permitted c w ∧ 8 ≤ (s.cl c).handles.length ∧ i = .qget c ∧ code = pfHandle) ∧
  (∃ (s : State) (c : Fin 2048) (w : Nat) (i : Instr) (code : Nat), s.fetch c = some w ∧ w / 2 ^ 56 = 0xCB ∧ onlyFields w [predField, (48, 4), (34, 6)] = true ∧ s.permitted c w ∧ (s.issued c).arrive c (fNum w) none 0 = none ∧ i = .gbar c ∧ code = pfBarrier) :=
  ⟨⟨code 0x500000000000000, 5, 0x500000000000000, _, _, by decide, by decide, by decide, rfl, rfl⟩,
    ⟨code 0x800000000000000, 5, 0x800000000000000, _, _, by decide, by decide, rfl, rfl⟩,
    ⟨code 0x2020000000000001, 5, 0x2020000000000001, _, _, by decide, by decide, by decide, rfl, rfl⟩,
    ⟨{ code 0 with comp := { clusters := [(5, { store := [(8191, 0)], pc := 8191 })] } }, 5, 0x0, _, _, by decide, by decide, by decide, by decide, rfl, rfl⟩,
    ⟨with5 0x400000000000000 { a := [(0, 8192)] }, 5, 0x400000000000000, _, _, by decide, by decide, by decide, by decide, rfl, rfl⟩,
    ⟨with5 0x100000000000000 { handles := [(1, 2)] }, 5, 0x100000000000000, _, _, by decide, by decide, by decide, by decide, rfl, rfl⟩,
    ⟨code 0x6120000000000001, 5, 0x6120000000000001, _, _, by decide, by decide, by decide, by decide, by decide, by decide, rfl, rfl⟩,
    ⟨code 0xa320000000180000, 5, 0xa320000000180000, _, _, by decide, by decide, by decide, by decide, by decide, rfl, rfl⟩,
    ⟨with5 0xc420000000000000 { handles := List.replicate 8 (1, 2) }, 5, 0xc420000000000000, _, _, by decide, by decide, by decide, (show enabled _ 0 = true by decide), by decide, rfl, rfl⟩,
    ⟨{ code 0xcb20000000000000 with comp := { (code 0xcb20000000000000).comp with jobs := [(0, { barrier := some { num := 1, op := none, came := [] } })] } }, 5, 0xcb20000000000000, _, _, by decide, by decide, by decide, (show enabled _ 0 = true by decide), by decide, rfl, rfl⟩⟩

theorem wit_externalResults :
  (∃ (s : State) (c : Fin 2048) (w : Nat) (i : Instr) (u : State), s.permitted c w ∧ (∃ put : Bool, s.issuing c w (if put then 0xC0 else 0xC1) [predField, (44, 4), (40, 4), (31, 3), (0, 25)] ∧ i = (if put then .put c else .get c) ∧ s.aval c (fAA w) % 8 = 0 ∧ s.aval c (fAB w) % 8 = 0 ∧ fImm25 w % 8 = 0 ∧ fImm25 w ≠ 0 ∧ s.aval c (fAB w) + fImm25 w ≤ sramBytes ∧ (s.issued c).putGetOk c put (s.aval c (fAA w)) (fImm25 w) = true ∧ (s.issued c).tagCount c (fTag w) < 63 ∧ u = (s.issued c).startXfer c (fTag w) put (s.aval c (fAA w)) (s.aval c (fAB w)) (fImm25 w))) ∧
  (∃ (s : State) (c : Fin 2048) (w : Nat) (i : Instr) (u : State), s.permitted c w ∧ s.issuing c w 0xC2 [predField, (44, 4), (31, 3), (0, 25)] ∧ i = .cpy c ∧ (s.issued c).cpy w c = .done u) ∧
  (∃ (s : State) (c : Fin 2048) (w : Nat) (i : Instr) (u : State), s.permitted c w ∧ s.issuing c w 0xC3 [predField, (48, 4), (31, 3), (0, 25)] ∧ i = .cwait c ∧ (s.issued c).tagCount c (fTag w) = 0 ∧ u = (s.issued c).takeReport c (fTag w) (fAD w)) ∧
  (∃ (s : State) (c : Fin 2048) (w : Nat) (i : Instr) (u : State), s.permitted c w ∧ s.issuing c w 0xC3 [predField, (48, 4), (31, 3), (0, 25)] ∧ i = .cwait c ∧ (s.issued c).tagCount c (fTag w) ≠ 0 ∧ fImm25 w = 0 ∧ u = (s.issued c).setAreg c (fAD w) (s.tagReport c (fTag w) + 2 ^ 47)) ∧
  (∃ (s : State) (c : Fin 2048) (w : Nat) (i : Instr) (u : State), s.permitted c w ∧ s.issuing c w 0xC4 [predField, (48, 4), (34, 6)] ∧ i = .qget c ∧ (s.cl c).handles.length < 8 ∧ (s.issued c).takeBuffer c w = some u) ∧
  (∃ (s : State) (c : Fin 2048) (w : Nat) (i : Instr) (u : State), s.permitted c w ∧ s.issuing c w 0xC5 [predField, (48, 4), (44, 4), (40, 4), (31, 3)] ∧ i = .qcmt c ∧ (∃ y ∈ (s.cl c).handles ++ (s.cl c).lostHnd, handleOf y.1 y.2 = s.aval c (fAA w)) ∧ s.aval c (fAB w) ≤ bufBytes ∧ (s.issued c).tagCount c (fTag w) = 0 ∧ u = (s.issued c).finishCommit c w) ∧
  (∃ (s : State) (c : Fin 2048) (w : Nat) (i : Instr) (u : State), s.permitted c w ∧ s.issuing c w 0xC6 [predField, (48, 4), (34, 6), (0, 25)] ∧ i = .rwait c ∧ (s.issued c).takeEntry c w = some u) ∧
  (∃ (s : State) (c : Fin 2048) (w : Nat) (i : Instr) (u : State), s.permitted c w ∧ s.issuing c w 0xC6 [predField, (48, 4), (34, 6), (0, 25)] ∧ i = .rwait c ∧ (s.issued c).takeEntry c w = none ∧ fImm25 w = 0 ∧ u = (s.issued c).setAreg c (fAD w) 0) ∧
  (∃ (s : State) (c : Fin 2048) (w : Nat) (i : Instr) (u : State), s.permitted c w ∧ (∃ y, s.issuing c w 0xC7 [predField, (48, 4), (44, 4)] ∧ i = .rdone c ∧ (s.cl c).claims.find? (fun y => y.addr == s.aval c (fAA w)) = some y ∧ (s.issued c).overwritten y = false ∧ u = (((s.issued c).setCl c { s.cl c with shake := s.now, claims := (s.cl c).claims.filter fun z => z != y }).freeEntry y.ring y.idx).setAreg c (fAD w) 0)) ∧
  (∃ (s : State) (c : Fin 2048) (w : Nat) (i : Instr) (u : State), s.permitted c w ∧ s.issuing c w 0xC8 [predField, (48, 4), (44, 4), (34, 6), (0, 25)] ∧ i = .fwait c ∧ (s.issued c).fellReached c w = true ∧ u = (s.issued c).fellReport c w false) ∧
  (∃ (s : State) (c : Fin 2048) (w : Nat) (i : Instr) (u : State), s.permitted c w ∧ s.issuing c w 0xC9 [predField, (44, 4)] ∧ i = .twait c ∧ s.twaitAt c w ≤ s.now ∧ u = s.issued c) ∧
  (∃ (s : State) (c : Fin 2048) (w : Nat) (i : Instr) (u : State), s.permitted c w ∧ s.issuing c w 0xCA [predField, (48, 4)] ∧ i = .tnow c ∧ u = (s.issued c).setCl c (((s.issued c).cl c).setA (fAD w) (BitVec.ofInt 48 (((s.now / 65536 : Nat) : Int) - (s.cl c).t0)))) :=
  ⟨⟨code 0xc020000000000008, 5, 0xc020000000000008, _, _, (show enabled _ 0 = true by decide), ⟨true, And.intro (by decide) (And.intro (by decide) (And.intro (by decide) (by decide))), rfl, by decide, by decide, by decide, by decide, by decide, by decide, by decide, rfl⟩⟩,
    ⟨code 0xc220000000000000, 5, 0xc220000000000000, _, _, (show enabled _ 0 = true by decide), And.intro (by decide) (And.intro (by decide) (And.intro (by decide) (by decide))), rfl, rfl⟩,
    ⟨code 0xc320000380000000, 5, 0xc320000380000000, _, _, (show enabled _ 0 = true by decide), And.intro (by decide) (And.intro (by decide) (And.intro (by decide) (by decide))), rfl, by decide, rfl⟩,
    ⟨put (code 0xc320000380000000) [(tagField 5 7, 63)], 5, 0xc320000380000000, _, _, (show enabled _ 0 = true by decide), And.intro (by decide) (And.intro (by decide) (And.intro (by decide) (by decide))), rfl, by decide, by decide, rfl⟩,
    ⟨code 0xc42000fc00000000, 5, 0xc42000fc00000000, _, _, (show enabled _ 0 = true by decide), And.intro (by decide) (And.intro (by decide) (And.intro (by decide) (by decide))), rfl, by decide, rfl⟩,
    ⟨with5 0xc520100000000000 { handles := [(63, 7)], a := [(1, BitVec.ofNat 48 (handleOf 63 7))] }, 5, 0xc520100000000000, _, _, (show enabled _ 0 = true by decide), And.intro (by decide) (And.intro (by decide) (And.intro (by decide) (by decide))), rfl, ⟨(63, 7), by decide, by decide⟩, by decide, by decide, rfl⟩,
    ⟨{ code 0xc62000fc00000000 with comp := { (code 0xc62000fc00000000).comp with rings := [(63, { entries := [(0, ⟨.written, 1⟩)], pos := 1, gen := 1 })] } }, 5, 0xc62000fc00000000, _, _, (show enabled _ 0 = true by decide), And.intro (by decide) (And.intro (by decide) (And.intro (by decide) (by decide))), rfl, rfl⟩,
    ⟨code 0xc62000fc00000000, 5, 0xc62000fc00000000, _, _, (show enabled _ 0 = true by decide), And.intro (by decide) (And.intro (by decide) (And.intro (by decide) (by decide))), rfl, by decide, by decide, rfl⟩,
    ⟨{ with5 0xc720100000000000 { claims := [⟨0, 63, 0, 1⟩] } with comp := { (with5 0xc720100000000000 { claims := [⟨0, 63, 0, 1⟩] }).comp with rings := [(63, { entries := [(0, ⟨.claimed, 1⟩)] })] } }, 5, 0xc720100000000000, _, _, (show enabled _ 0 = true by decide), ⟨⟨0, 63, 0, 1⟩, And.intro (by decide) (And.intro (by decide) (And.intro (by decide) (by decide))), rfl, by decide, by decide, rfl⟩⟩,
    ⟨code 0xc820000000000000, 5, 0xc820000000000000, _, _, (show enabled _ 0 = true by decide), And.intro (by decide) (And.intro (by decide) (And.intro (by decide) (by decide))), rfl, by decide, rfl⟩,
    ⟨code 0xc920000000000000, 5, 0xc920000000000000, _, _, (show enabled _ 0 = true by decide), And.intro (by decide) (And.intro (by decide) (And.intro (by decide) (by decide))), rfl, by decide, rfl⟩,
    ⟨code 0xca20000000000000, 5, 0xca20000000000000, _, _, (show enabled _ 0 = true by decide), And.intro (by decide) (And.intro (by decide) (And.intro (by decide) (by decide))), rfl, rfl⟩⟩

theorem wit_externalWaits :
  (∃ (s : State) (c : Fin 2048) (w : Nat) (i : Instr) (u : State) (k : WaitKind) (num : Nat) (e : Option Nat), s.permitted c w ∧ s.issuing c w 0xC0 [predField, (44, 4), (40, 4), (31, 3), (0, 25)] ∧ i = .put c ∧ s.aval c (fAA w) % 8 = 0 ∧ s.aval c (fAB w) % 8 = 0 ∧ fImm25 w % 8 = 0 ∧ fImm25 w ≠ 0 ∧ s.aval c (fAB w) + fImm25 w ≤ sramBytes ∧ (s.issued c).putGetOk c true (s.aval c (fAA w)) (fImm25 w) = true ∧ 63 ≤ (s.issued c).tagCount c (fTag w) ∧ u = s.issued c ∧ k = .tagFull ∧ num = fTag w ∧ e = none) ∧
  (∃ (s : State) (c : Fin 2048) (w : Nat) (i : Instr) (u : State) (k : WaitKind) (num : Nat) (e : Option Nat), s.permitted c w ∧ s.issuing c w 0xC3 [predField, (48, 4), (31, 3), (0, 25)] ∧ i = .cwait c ∧ (s.issued c).tagCount c (fTag w) ≠ 0 ∧ fImm25 w ≠ 0 ∧ u = s.issued c ∧ k = .tag ∧ num = fTag w ∧ e = some (s.now + Config.ns (1000 * fImm25 w))) ∧
  (∃ (s : State) (c : Fin 2048) (w : Nat) (i : Instr) (u : State) (k : WaitKind) (num : Nat) (e : Option Nat), s.permitted c w ∧ s.issuing c w 0xC4 [predField, (48, 4), (34, 6)] ∧ i = .qget c ∧ (s.cl c).handles.length < 8 ∧ (s.issued c).takeBuffer c w = none ∧ u = s.issued c ∧ k = .buffer ∧ num = fNum w ∧ e = none) ∧
  (∃ (s : State) (c : Fin 2048) (w : Nat) (i : Instr) (u : State) (k : WaitKind) (num : Nat) (e : Option Nat), s.permitted c w ∧ s.issuing c w 0xC6 [predField, (48, 4), (34, 6), (0, 25)] ∧ i = .rwait c ∧ (s.issued c).takeEntry c w = none ∧ fImm25 w ≠ 0 ∧ u = s.issued c ∧ k = .ring ∧ num = fNum w ∧ e = some (s.now + Config.ns (1000 * fImm25 w))) ∧
  (∃ (s : State) (c : Fin 2048) (w : Nat) (i : Instr) (u : State) (k : WaitKind) (num : Nat) (e : Option Nat), s.permitted c w ∧ s.issuing c w 0xC8 [predField, (48, 4), (44, 4), (34, 6), (0, 25)] ∧ i = .fwait c ∧ (s.issued c).fellReached c w = false ∧ fImm25 w ≠ 0 ∧ u = s.issued c ∧ k = .fell ∧ num = fNum w ∧ e = some (s.now + Config.ns (1000 * fImm25 w))) ∧
  (∃ (s : State) (c : Fin 2048) (w : Nat) (i : Instr) (u : State) (k : WaitKind) (num : Nat) (e : Option Nat), s.permitted c w ∧ s.issuing c w 0xC9 [predField, (44, 4)] ∧ i = .twait c ∧ s.now < s.twaitAt c w ∧ u = s.issued c ∧ k = .hallTime ∧ num = 0 ∧ e = some (s.twaitAt c w)) ∧
  (∃ (s : State) (c : Fin 2048) (w : Nat) (i : Instr) (u : State) (k : WaitKind) (num : Nat) (e : Option Nat), s.permitted c w ∧ s.issuing c w 0xCB [predField, (48, 4), (34, 6)] ∧ i = .gbar c ∧ (s.issued c).arrive c (fNum w) none 0 = some u ∧ k = .barrier ∧ num = fNum w ∧ e = none) ∧
  (∃ (s : State) (c : Fin 2048) (w : Nat) (i : Instr) (u : State) (k : WaitKind) (num : Nat) (e : Option Nat), s.permitted c w ∧ s.issuing c w 0xCC [predField, (48, 4), (44, 4), (34, 6), (28, 3)] ∧ fOp w ≤ 4 ∧ i = .gred c ∧ (s.issued c).arrive c (fNum w) (some (fOp w)) (s.aval c (fAA w) % 2 ^ 32) = some u ∧ k = .barrier ∧ num = fNum w ∧ e = none) :=
  ⟨⟨put (code 0xc020000380000008) [(tagField 5 7, 63)], 5, 0xc020000380000008, _, _, _, _, _, (show enabled _ 0 = true by decide), And.intro (by decide) (And.intro (by decide) (And.intro (by decide) (by decide))), rfl, by decide, by decide, by decide, by decide, by decide, by decide, by decide, rfl, rfl, rfl, rfl⟩,
    ⟨put (code 0xc320000001ffffff) [(tagField 5 0, 1)], 5, 0xc320000001ffffff, _, _, _, _, _, (show enabled _ 0 = true by decide), And.intro (by decide) (And.intro (by decide) (And.intro (by decide) (by decide))), rfl, by decide, by decide, rfl, rfl, rfl, rfl⟩,
    ⟨{ code 0xc420000000000000 with book := { bufs := (List.range 8).map fun b => (b, { held := .full }) } }, 5, 0xc420000000000000, _, _, _, _, _, (show enabled _ 0 = true by decide), And.intro (by decide) (And.intro (by decide) (And.intro (by decide) (by decide))), rfl, by decide, by decide, rfl, rfl, rfl, rfl⟩,
    ⟨code 0xc620000000000001, 5, 0xc620000000000001, _, _, _, _, _, (show enabled _ 0 = true by decide), And.intro (by decide) (And.intro (by decide) (And.intro (by decide) (by decide))), rfl, by decide, by decide, rfl, rfl, rfl, rfl⟩,
    ⟨with5 0xc820100000000001 { a := [(1, 1)] }, 5, 0xc820100000000001, _, _, _, _, _, (show enabled _ 0 = true by decide), And.intro (by decide) (And.intro (by decide) (And.intro (by decide) (by decide))), rfl, by decide, by decide, rfl, rfl, rfl, rfl⟩,
    ⟨with5 0xc920100000000000 { a := [(1, 1)] }, 5, 0xc920100000000000, _, _, _, _, _, (show enabled _ 0 = true by decide), And.intro (by decide) (And.intro (by decide) (And.intro (by decide) (by decide))), rfl, by decide, rfl, rfl, rfl, rfl⟩,
    ⟨code 0xcb20000000000000, 5, 0xcb20000000000000, _, _, _, _, _, (show enabled _ 0 = true by decide), And.intro (by decide) (And.intro (by decide) (And.intro (by decide) (by decide))), rfl, rfl, rfl, rfl, rfl⟩,
    ⟨code 0xcc20000040000000, 5, 0xcc20000040000000, _, _, _, _, _, (show enabled _ 0 = true by decide), And.intro (by decide) (And.intro (by decide) (And.intro (by decide) (by decide))), by decide, rfl, rfl, rfl, rfl, rfl⟩⟩

theorem wit_wakes :
  (∃ (s : State) (c : Fin 2048) (tag : Fin 8) (x : Wait), (s.cl c).xfers = [] ∧ s.tagCount c tag = 0 ∧ (s.cl c).wait = some x ∧ x.kind = .tag ∧ fTag x.word.toNat = tag) ∧
  (∃ (s : State) (c : Fin 2048) (t u : Nat) (x : Wait), (s.cl c).wait = some x ∧ x.until_ = some u ∧ u ≤ max s.now t ∧ x.kind = .tag) ∧
  (∃ (s : State) (c : Fin 2048) (t u : Nat) (x : Wait), (s.cl c).wait = some x ∧ x.until_ = some u ∧ u ≤ max s.now t ∧ x.kind = .ring) ∧
  (∃ (s : State) (c : Fin 2048) (t u : Nat) (x : Wait), (s.cl c).wait = some x ∧ x.until_ = some u ∧ u ≤ max s.now t ∧ x.kind = .fell) ∧
  (∃ (s u : State) (c : Fin 2048) (x : Wait), (s.cl c).wait = some x ∧ x.kind = .buffer ∧ s.takeBuffer c x.word.toNat = some u) ∧
  (∃ (s u : State) (c : Fin 2048) (x : Wait), (s.cl c).wait = some x ∧ x.kind = .ring ∧ s.takeEntry c x.word.toNat = some u) ∧
  (∃ (s u : State) (c : Fin 2048) (x : Wait), (s.cl c).wait = some x ∧ x.kind = .fell ∧ s.fellReached c x.word.toNat = true) ∧
  (∃ (s u : State) (c : Fin 2048) (x : Wait), (s.cl c).wait = some x ∧ ∃ t : Nat, x.kind = .hallTime ∧ s.twaitAt c x.word.toNat ≤ max s.now t) ∧
  (∃ (s u : State) (c : Fin 2048) (x : Wait), (s.cl c).wait = some x ∧ x.kind = .tagFull ∧ x.word.toNat / 2 ^ 56 = 0xC0 ∧ s.tagCount c (fTag x.word.toNat) < 63 ∧ (s.endWait c).putGet true x.word.toNat c = .done u) ∧
  (∃ (s u : State) (c : Fin 2048) (x : Wait), (s.cl c).wait = some x ∧ x.kind = .engines ∧ x.word.toNat / 2 ^ 56 = 0xC2 ∧ (s.pickEngine (c / 256)).isSome = true ∧ (s.endWait c).cpy x.word.toNat c = .done u) ∧
  (∃ (s : State) (j : Fin 8) (b : Barrier) (p : Fin 2048) (n : Nat) (x : Wait), (s.job j).barrier = some b ∧ ((∀ k ∈ maskList (s.job j).mask, bitOf (s.job j).done k = false ∧ ∃ q, s.physOf k = some q ∧ (Tbl.look b.came q).isSome = true)) ∧ n ∈ maskList (s.job j).mask ∧ s.physOf n = some p.val ∧ (s.cl p).wait = some x ∧ b.op = none) :=
  ⟨⟨waiting .tag 0xc320000380000000 none, 5, 7, _, by decide, by decide, rfl, by decide, by decide⟩,
    ⟨waiting .tag 0 (some 9), 5, 9, 9, _, rfl, rfl, by decide, by decide⟩,
    ⟨waiting .ring 0 (some 9), 5, 9, 9, _, rfl, rfl, by decide, by decide⟩,
    ⟨waiting .fell 0 (some 9), 5, 9, 9, _, rfl, rfl, by decide, by decide⟩,
    ⟨waiting .buffer 0 none, _, 5, _, rfl, by decide, rfl⟩,
    ⟨{ waiting .ring 0xc62000fc00000000 none with comp := { (waiting .ring 0xc62000fc00000000 none).comp with rings := [(63, { entries := [(0, ⟨.written, 1⟩)], pos := 1, gen := 1 })] } }, _, 5, _, rfl, by decide, rfl⟩,
    ⟨waiting .fell 0 none, State.reset, 5, _, rfl, by decide, by decide⟩,
    ⟨waiting .hallTime 0 none, State.reset, 5, _, rfl, 0, by decide, by decide⟩,
    ⟨waiting .tagFull 0xc020000000000008 none, _, 5, _, rfl, by decide, by decide, by decide, rfl⟩,
    ⟨waiting .engines 0xc220000000000000 none, _, 5, _, rfl, by decide, by decide, by decide, rfl⟩,
    ⟨{ put (waiting .barrier 0 none) [(CL.ID.LOGICAL 5, 0)] with comp := { (waiting .barrier 0 none).comp with jobs := [(7, { mask := 1, barrier := some { num := 1, op := none, came := [(5, 0)] } })] } }, 7, _, 5, 0, _, rfl, (by intro k hk; have e : maskList 1 = [0] := (by decide); have h : k ∈ maskList 1 := hk; rw [e] at h; simp only [List.mem_singleton] at h; subst h; exact ⟨by decide, 5, by decide, by decide⟩), by decide, by decide, rfl, by decide⟩⟩

theorem wit_clusterShell :
  (∃ (s : State) (c : Fin 2048), s.clState c = clRun) ∧
  (∃ (s : State) (c : Fin 2048), s.clState c = clGated) ∧
  (∃ (s : State) (c : Fin 2048), s.clState c = clIdle) ∧
  (∃ (s : State) (c : Fin 2048), s.clState c = clDone) ∧
  (∃ (s : State) (c : Fin 2048), s.clState c = clFaulted) ∧
  (∃ (s : State) (c : Fin 2048), s.clState c ≠ clRun ∧ s.rd (CL.ID.LOGICAL c) ≠ 2047) ∧
  (∃ (s : State) (c : Fin 2048) (t : Nat), s.clState c = clRun ∧ s.on (CL.STATE.WAITING c) = false ∧ (s.cl c).shake + Config.ns (1000 * s.rd (CL.WDOG.US c)) ≤ max s.now t) ∧
  (∃ (s : State) (c : Fin 2048) (t : Nat), 0 < (s.cl c).stage ∧ (s.cl c).stage < 16) ∧
  (∃ (s : State) (c : Fin 2048) (t : Nat), 0 < (s.cl c).stage ∧ 16 ≤ (s.cl c).stage) ∧
  (∃ (s : State) (n : Fin 2000) (old p : Nat), Tbl.look s.comp.vacant n = some old ∧ s.jobNames n = false ∧ s.reserveFor (old / 256) = some p) :=
  ⟨⟨st [(CL.STATE.STATE 2047, clRun)], 2047, by decide⟩,
    ⟨st [(CL.STATE.STATE 2047, clGated)], 2047, by decide⟩,
    ⟨st [(CL.STATE.STATE 2047, clIdle)], 2047, by decide⟩,
    ⟨st [(CL.STATE.STATE 2047, clDone)], 2047, by decide⟩,
    ⟨st [(CL.STATE.STATE 2047, clFaulted)], 2047, by decide⟩,
    ⟨st [(CL.STATE.STATE 2047, clIdle), (CL.ID.LOGICAL 2047, 1999)], 2047, by decide, by decide⟩,
    ⟨code 0, 5, Config.ns (1000 * State.reset.rd (CL.WDOG.US 5)), by decide, by decide, by decide⟩,
    ⟨{ State.reset with comp := { clusters := [(5, { stage := 15 })] } }, 5, 0, by decide, by decide⟩,
    ⟨{ State.reset with comp := { clusters := [(5, { stage := 16 })] } }, 5, 0, by decide, by decide⟩,
    ⟨{ st [(CL.ID.ROLE 3, 1)] with comp := { vacant := [(1999, 2047)] } }, 1999, 2047, 3, by decide, by decide, by decide⟩⟩

theorem wit_jobsAndRecords :
  (∃ (s v : State) (j : Fin 8) (ups : List Upset) (t n e : Nat) (l : List Byte), (s.job j).stage = .loading ∧ (s.advance t).heldLines false (s.job j).image (64 + 65536) = [] ∧ (s.advance t).readImage (s.job j).image ups = (v, some (n, e, l)) ∧ (v.loadClusters j n e l).now + Config.ns 2000 ≤ ((v.loadClusters j n e l).job j).start * 65536) ∧
  (∃ (s v : State) (j : Fin 8) (ups : List Upset) (t : Nat), (s.job j).stage = .loading ∧ (s.advance t).heldLines false (s.job j).image (64 + 65536) = [] ∧ (s.advance t).readImage (s.job j).image ups = (v, none)) ∧
  (∃ (s : State) (j : Fin 8) (t : Nat), (s.job j).stage = .running ∧ ((∀ n ∈ maskList (s.job j).mask, bitOf (s.job j).done n = true)) ∧ ((∀ q ∈ s.comp.stalled, bitsOf q 19 3 ≠ j)) ∧ s.comp.records.length < 16) ∧
  (∃ (s : State) (j : Fin 8) (t : Nat), (s.job j).stage = .running ∧ ((∀ n ∈ maskList (s.job j).mask, bitOf (s.job j).done n = true)) ∧ ((∀ q ∈ s.comp.stalled, bitsOf q 19 3 ≠ j)) ∧ 16 ≤ s.comp.records.length) ∧
  (∃ (s : State) (b : Bank), ∃ (r : Record) (l : List Record), s.comp.records = r :: l ∧ s.comp.stalled = []) ∧
  (∃ (s : State) (b : Bank), s.comp.records = []) ∧
  (∃ (s : State), s.on MEM.CTRL.SCRUB_EN = true ∧ s.sys.held = [] ∧ s.comp.lpddr.isBad s.comp.scrub = false) ∧
  (∃ (s : State), s.on MEM.CTRL.SCRUB_EN = true ∧ s.sys.held = [] ∧ s.comp.lpddr.isBad s.comp.scrub = true) :=
  ⟨⟨{ State.reset with comp := { jobs := [(7, { stage := .loading, mask := 1, start := 2000 })], lpddr := { cells := [(0, 70), (1, 74), (2, 77), (3, 71), (4, 1), (6, 1), (16, 138), (17, 178), (18, 40), (19, 140)] } } }, _, 7, [], 0, 1, 0, List.replicate 8 0, by decide, by decide, Prod.ext rfl (by decide), (by decide)⟩,
    ⟨{ State.reset with comp := { jobs := [(7, { stage := .loading, mask := 1, start := 2000 })] } }, _, 7, [], 0, by decide, by decide, Prod.ext rfl (by decide)⟩,
    ⟨{ State.reset with comp := { jobs := [(7, { stage := .running, mask := 1, done := 1 })], records := List.replicate 15 0 } }, 7, 0, by decide, by decide, by decide, by decide⟩,
    ⟨{ State.reset with comp := { jobs := [(7, { stage := .running, mask := 1, done := 1 })], records := List.replicate 16 0 } }, 7, 0, by decide, by decide, by decide, by decide⟩,
    ⟨{ State.reset with comp := { records := [9] } }, .mgmt, 9, [], by decide, by decide⟩,
    ⟨State.reset, .link, by decide⟩,
    ⟨st [(MEM.CTRL.SCRUB_EN, 1)], by decide, by decide, by decide⟩,
    ⟨{ st [(MEM.CTRL.SCRUB_EN, 1)] with comp := { lpddr := { bad := [(0, 1)] } } }, by decide, by decide, by decide⟩⟩

theorem wit_copies :
  (∃ (s : State) (e : Fin 80) (ups : List Upset) (d : Desc), s.queued e ≠ 0 ∧ s.curDesc e = some d ∧ (s.engine e).code = none ∧ d.empty = false ∧ ((d.op = 2 → (s.engine e).held ≠ none)) ∧ s.copyLink d = false ∧ s.copyHeld d = false) ∧
  (∃ (s : State) (e : Fin 80) (ups : List Upset) (d : Desc) (k : CopyCode), s.queued e ≠ 0 ∧ s.curDesc e = some d ∧ (s.engine e).code = some k ∧ d.len ≠ 0) ∧
  (∃ (s : State) (e : Fin 80), s.queued e = 0) ∧
  (∃ (s : State) (n : Fin 12) (v : BitVec 16), s.csrSound ∧ s.queued (ftdEngine n) ≠ 0) :=
  ⟨⟨{ State.reset with comp := { engines := [(63, { queue := [⟨5, 0, true, bytesOf [(9, 1), (16, 8), (20, 1)]⟩] })] } }, 63, [], _, by decide, rfl, by decide, by decide, by decide, by decide, by decide⟩,
    ⟨{ State.reset with comp := { engines := [(63, { queue := [⟨5, 0, true, bytesOf [(9, 1), (16, 8), (20, 1)]⟩], code := some .range })] } }, 63, [], _, .range, by decide, rfl, by decide, by decide⟩,
    ⟨State.reset, 79, by decide⟩,
    ⟨st [(CPY.E_RING_HI.LOG2N 11, 1), (CPY.E_PROD.PROD 11, 1)], 11, 0xFFFF, And.intro (by decide) (by decide), by decide⟩⟩

theorem wit_ringsAndStreams :
  (∃ (s : State) (b : Bank) (v : BitVec 32), s.csrSound ∧ let r := s.rd (MEM.RING_SEL.RING b.num); s.ringRefused (v.toNat + 2 ^ 32 * s.rd (MEM.RING_BASE_HI.ADDR r)) (s.rd (MEM.RING_CFG.ENTRIES r)) (s.rd (MEM.RING_CFG.SLOT64 r)) = false) ∧
  (∃ (s : State) (b : Bank) (v : BitVec 32), s.csrSound ∧ let r := s.rd (MEM.RING_SEL.RING b.num); s.ringRefused (v.toNat + 2 ^ 32 * s.rd (MEM.RING_BASE_HI.ADDR r)) (s.rd (MEM.RING_CFG.ENTRIES r)) (s.rd (MEM.RING_CFG.SLOT64 r)) = true) ∧
  (∃ (s : State) (b : Bank) (v : BitVec 32), s.csrSound ∧ let r := s.rd (MEM.RING_SEL.RING b.num); s.ringRefused (s.rd (MEM.RING_BASE_LO.ADDR r) + 2 ^ 32 * s.rd (MEM.RING_BASE_HI.ADDR r)) (bitsOf v.toNat 16 11) (bitsOf v.toNat 0 9) = false) ∧
  (∃ (s u : State) (b : Bank) (k : Claim), s.claim (s.rd (MEM.RING_SEL.RING b.num)) = some (k, u)) ∧
  (∃ (s : State) (b : Bank), s.claim (s.rd (MEM.RING_SEL.RING b.num)) = none) ∧
  (∃ (s : State) (b : Bank) (i : BitVec 11) (g : Nat), let r := s.rd (MEM.RING_SEL.RING b.num); Tbl.look (s.ring r).entries i.toNat = some ⟨.claimed, g⟩) ∧
  (∃ (s : State) (b : Bank) (i : BitVec 11), ((∀ g, Tbl.look (s.ring (s.rd (MEM.RING_SEL.RING b.num))).entries i.toNat ≠ some ⟨.claimed, g⟩))) ∧
  (∃ (s : State) (b : Bank) (v : BitVec 32), s.csrSound ∧ let f := s.rd (MEM.FELL_SEL.STREAM b.num); s.fellBaseBad (v.toNat + 2 ^ 32 * s.rd (MEM.FELL_BASE_HI.ADDR f)) = false) ∧
  (∃ (s : State) (b : Bank) (v : BitVec 32), s.csrSound ∧ let f := s.rd (MEM.FELL_SEL.STREAM b.num); bitsOf v.toNat 0 14 = 0) ∧
  (∃ (s : State) (b : Bank) (v : BitVec 32), s.csrSound ∧ let f := s.rd (MEM.FELL_SEL.STREAM b.num); v.toNat < s.rd (MEM.FELL_LEN.LENGTH f)) ∧
  (∃ (s : State) (b : Bank) (v : BitVec 32), s.csrSound ∧ let f := s.rd (MEM.FELL_SEL.STREAM b.num); v.toNat ≤ s.rd (MEM.FELL_CUR.CURSOR f)) :=
  ⟨⟨st [(MEM.RING_SEL.RING 1, 63), (MEM.RING_CFG.SLOT64 63, 392)], .link, 64, And.intro (by decide) (by decide), by decide⟩,
    ⟨State.reset, .link, 0xFFFFFFFF, And.intro (by decide) (by decide), by decide⟩,
    ⟨State.reset, .mgmt, 1, And.intro (by decide) (by decide), by decide⟩,
    ⟨{ State.reset with comp := { rings := [(0, { entries := [(0, ⟨.written, 1⟩)], pos := 1, gen := 1 })] } }, _, .mgmt, _, rfl⟩,
    ⟨State.reset, .link, by decide⟩,
    ⟨{ State.reset with comp := { rings := [(0, { entries := [(1023, ⟨.claimed, 1⟩)] })] } }, .mgmt, 1023, 1, by decide⟩,
    ⟨State.reset, .mgmt, 0, (fun g h => by cases h)⟩,
    ⟨State.reset, .mgmt, 4, And.intro (by decide) (by decide), by decide⟩,
    ⟨State.reset, .link, 0x4000, And.intro (by decide) (by decide), by decide⟩,
    ⟨st [(MEM.FELL_LEN.LENGTH 0, 1)], .link, 0, And.intro (by decide) (by decide), by decide⟩,
    ⟨st [(MEM.FELL_CUR.CURSOR 0, 1)], .link, 1, And.intro (by decide) (by decide), by decide⟩⟩

theorem wit_ringTransitions :
  (∃ (s : State) (l : Fin 176) (k : Nat), s.fabUp = true ∧ s.fab.jig.done = some k ∧ s.now ≤ k * Config.cycleTime ∧ s.loopFrozen l = false ∧ (s.loop l).due = some .jumpDone) ∧
  (∃ (s : State) (l : Fin 176) (k : Nat), s.fabUp = true ∧ s.fab.jig.done = some k ∧ s.now ≤ k * Config.cycleTime ∧ s.loopFrozen l = false ∧ (s.loop l).due = some .lock ∧ s.on (JIG.L_STAT.WIN_OK l) = true) ∧
  (∃ (s : State) (l : Fin 176) (k : Nat), s.fabUp = true ∧ s.fab.jig.done = some k ∧ s.now ≤ k * Config.cycleTime ∧ s.loopFrozen l = false ∧ (s.loop l).due = some .lock ∧ s.on (JIG.L_STAT.WIN_OK l) = false) ∧
  (∃ (s : State) (l : Fin 176) (k : Nat), s.fabUp = true ∧ s.fab.jig.done = some k ∧ s.now ≤ k * Config.cycleTime ∧ s.loopFrozen l = false ∧ (s.loop l).due = some .capLimit ∧ s.ringSt l = rgCapture) ∧
  (∃ (s : State) (l : Fin 176) (k : Nat), s.fabUp = true ∧ s.fab.jig.done = some k ∧ s.now ≤ k * Config.cycleTime ∧ s.loopFrozen l = false ∧ (s.loop l).due = some .unlock) ∧
  (∃ (s : State) (l : Fin 176) (k : Nat), s.fabUp = true ∧ s.fab.jig.done = some k ∧ s.now ≤ k * Config.cycleTime ∧ s.loopFrozen l = false ∧ (s.loop l).due = some .winFail) ∧
  (∃ (s : State) (l : Fin 176) (k : Nat), s.fabUp = true ∧ s.fab.jig.done = some k ∧ s.now ≤ k * Config.cycleTime ∧ s.loopFrozen l = false ∧ (s.loop l).due = some .clampFault) ∧
  (∃ (s : State) (l : Fin 176) (k : Nat), s.fabUp = true ∧ s.fab.jig.done = some k ∧ s.now ≤ k * Config.cycleTime ∧ s.loopFrozen l = false ∧ s.ringSt l = rgCapture ∧ (ringOf l).isNone = true) :=
  ⟨⟨ringWith fab 175 { due := some .jumpDone } (some 3), 175, 3, by decide, by decide, by decide, by decide, by decide⟩,
    ⟨ringWith (put fab [(JIG.L_STAT.WIN_OK 0, 1)]) 0 { due := some .lock } (some 3), 0, 3, by decide, by decide, by decide, by decide, by decide, by decide⟩,
    ⟨ringWith fab 0 { due := some .lock } (some 3), 0, 3, by decide, by decide, by decide, by decide, by decide, by decide⟩,
    ⟨ringWith (put fab [(JIG.L_STAT.STATE 0, rgCapture)]) 0 { due := some .capLimit } (some 3), 0, 3, by decide, by decide, by decide, by decide, by decide, by decide⟩,
    ⟨ringWith fab 0 { due := some .unlock } (some 3), 0, 3, by decide, by decide, by decide, by decide, by decide⟩,
    ⟨ringWith fab 0 { due := some .winFail } (some 3), 0, 3, by decide, by decide, by decide, by decide, by decide⟩,
    ⟨ringWith fab 0 { due := some .clampFault } (some 3), 0, 3, by decide, by decide, by decide, by decide, by decide⟩,
    ⟨ringWith (put fab [(JIG.L_STAT.STATE 43, rgCapture)]) 43 {} (some 3), 43, 3, by decide, by decide, by decide, by decide, by decide, by decide⟩⟩

theorem wit_sampleCycle :
  (∃ (s : State) (c j : Nat), s.fabUp = true ∧ 0 < j ∧ j ≤ s.nsub) ∧
  (∃ (s : State) (die : Fin 2) (rs : List ChannelResult), s.fabUp = true) ∧
  (∃ (s : State) (c : Nat) (ms : List LoopMeas) (a b : BitVec 16), s.fabUp = true ∧ s.fab.jig.arrived = (c, s.nsub) ∧ s.fab.jig.done ≠ some (c + 2) ∧ max s.now ((c + 1) * Config.cycleTime) ≤ (c + 2) * Config.cycleTime) ∧
  (∃ (s : State) (c : Nat) (ms : List LoopMeas) (a b : BitVec 16), s.fab.jig.done = some (c + 2)) ∧
  (∃ (s : State) (l k : Nat), s.on (JIG.L_STAT.CLAMPED l) = false) ∧
  (∃ (s : State) (k f : Nat), s.fabUp = true ∧ s.fab.jig.since = some f ∧ ((∀ m, s.fab.jig.edge = some m → m < k)) ∧ s.fab.jig.done ≠ some k ∧ f + 2 ≤ k ∧ s.fab.cal.opt = none) ∧
  (∃ (s : State) (k f : Nat), s.fabUp = true ∧ s.fab.jig.since = some f ∧ ((∀ m, s.fab.jig.edge = some m → m < k)) ∧ s.fab.jig.done ≠ some k ∧ k < f + 2 ∧ s.fab.cal.opt = none) ∧
  (∃ (s : State) (k : Nat), s.fabUp = true ∧ s.fab.jig.edge = some k) :=
  ⟨⟨fab, 5, 1, by decide, by decide, by decide⟩,
    ⟨fab, 1, [], by decide⟩,
    ⟨{ fab with fab := { jig := { arrived := (0, 1) } } }, 0, [], 0, 0, by decide, by decide, by decide, by decide⟩,
    ⟨{ fab with fab := { jig := { done := some 2 } } }, 0, [], 0, 0, by decide⟩,
    ⟨fab, 175, 0, by decide⟩,
    ⟨{ fab with fab := { jig := { since := some 1, edge := some 2 } } }, 3, 1, by decide, by decide, (fun m h => by cases h; decide), by decide, by decide, by decide⟩,
    ⟨{ fab with fab := { jig := { since := some 2 } } }, 3, 2, by decide, by decide, (fun m h => by cases h), by decide, by decide, by decide⟩,
    ⟨{ fab with fab := { jig := { edge := some 3 } } }, 3, by decide, by decide⟩⟩

theorem wit_ringCommands :
  (∃ (s : State) (b : Bank) (i : Instr) (k : RingCmd), s.rd (JIG.L_SEL.LOOP b.num) < 176 ∧ i = .lCmdHold b ∧ k = .hold ∧ let l := s.rd (JIG.L_SEL.LOOP b.num); s.cmdAllowed l k = true) ∧
  (∃ (s : State) (b : Bank) (i : Instr) (k : RingCmd), s.rd (JIG.L_SEL.LOOP b.num) < 176 ∧ i = .lCmdRelease b ∧ k = .release ∧ let l := s.rd (JIG.L_SEL.LOOP b.num); s.cmdAllowed l k = true) ∧
  (∃ (s : State) (b : Bank) (i : Instr) (k : RingCmd), s.rd (JIG.L_SEL.LOOP b.num) < 176 ∧ i = .lCmdJump b ∧ k = .jump ∧ let l := s.rd (JIG.L_SEL.LOOP b.num); s.cmdAllowed l k = true) ∧
  (∃ (s : State) (b : Bank) (i : Instr) (k : RingCmd), s.rd (JIG.L_SEL.LOOP b.num) < 176 ∧ i = .lCmdSweep b ∧ k = .sweep ∧ let l := s.rd (JIG.L_SEL.LOOP b.num); s.cmdAllowed l k = true) ∧
  (∃ (s : State) (b : Bank) (i : Instr) (k : RingCmd), s.rd (JIG.L_SEL.LOOP b.num) < 176 ∧ i = .lCmdReset b ∧ k = .reset ∧ let l := s.rd (JIG.L_SEL.LOOP b.num); s.cmdAllowed l k = true) ∧
  (∃ (s : State) (b : Bank) (i : Instr) (k : RingCmd), s.rd (JIG.L_SEL.LOOP b.num) < 176 ∧ i = .lCmdHold b ∧ k = .hold ∧ let l := s.rd (JIG.L_SEL.LOOP b.num); s.cmdAllowed l k = false) ∧
  (∃ (s : State) (b : Bank) (i : Instr) (k : RingCmd), s.rd (JIG.L_SEL.LOOP b.num) < 176 ∧ i = .lCmdRelease b ∧ k = .release ∧ let l := s.rd (JIG.L_SEL.LOOP b.num); s.cmdAllowed l k = false) ∧
  (∃ (s : State) (b : Bank) (i : Instr) (k : RingCmd), s.rd (JIG.L_SEL.LOOP b.num) < 176 ∧ i = .lCmdJump b ∧ k = .jump ∧ let l := s.rd (JIG.L_SEL.LOOP b.num); s.cmdAllowed l k = false) ∧
  (∃ (s : State) (b : Bank) (i : Instr) (k : RingCmd), s.rd (JIG.L_SEL.LOOP b.num) < 176 ∧ i = .lCmdSweep b ∧ k = .sweep ∧ let l := s.rd (JIG.L_SEL.LOOP b.num); s.cmdAllowed l k = false) ∧
  (∃ (s : State) (b : Bank) (i : Instr) (k : RingCmd), s.rd (JIG.L_SEL.LOOP b.num) < 176 ∧ i = .lCmdReset b ∧ k = .reset ∧ let l := s.rd (JIG.L_SEL.LOOP b.num); s.cmdAllowed l k = false) ∧
  (∃ (s : State) (b : Bank) (v : BitVec 32), s.csrSound ∧ s.rd (JIG.L_SEL.LOOP b.num) < 176 ∧ let l := s.rd (JIG.L_SEL.LOOP b.num); s.ringSt l = rgParked ∧ v.toNat % 65536 = 0) ∧
  (∃ (s : State) (b : Bank) (v : BitVec 32), s.csrSound ∧ s.rd (JIG.L_SEL.LOOP b.num) < 176 ∧ let l := s.rd (JIG.L_SEL.LOOP b.num); s.ringSt l = rgHold ∧ v.toNat % 65536 = 0) ∧
  (∃ (s : State) (b : Bank) (v : BitVec 32), s.csrSound ∧ s.rd (JIG.L_SEL.LOOP b.num) < 176 ∧ let l := s.rd (JIG.L_SEL.LOOP b.num); s.ringSt l = rgFault ∧ v.toNat % 65536 = 0) ∧
  (∃ (s : State) (b : Bank) (v : BitVec 32), s.csrSound ∧ s.rd (JIG.L_SEL.LOOP b.num) < 176 ∧ let l := s.rd (JIG.L_SEL.LOOP b.num); s.ringSt l ≠ rgParked ∧ s.ringSt l ≠ rgHold ∧ s.ringSt l ≠ rgFault) ∧
  (∃ (s : State) (p : Fin 16) (k : Nat), s.fabUp = true ∧ Tbl.look s.fab.jig.release p = some k ∧ p.val ∈ s.fab.jig.takeovers) ∧
  (∃ (s : State) (l : Fin 176) (t : Nat), s.fabUp = true ∧ s.ringSt l = rgLocked ∧ (s.loop l).lockedAt + tenSeconds ≤ max s.now t) :=
  ⟨⟨st [(JIG.L_STAT.STATE 0, rgLocked)], .mgmt, _, _, by decide, rfl, rfl, by decide⟩,
    ⟨st [(JIG.L_STAT.STATE 0, rgHold)], .mgmt, _, _, by decide, rfl, rfl, by decide⟩,
    ⟨st [(JIG.L_STAT.STATE 175, rgHold), (JIG.L_SEL.LOOP 1, 175), (JIG.L_STAT.TGT_VALID 175, 1)], .link, _, _, by decide, rfl, rfl, by decide⟩,
    ⟨st [(JIG.L_STAT.STATE 175, rgHold), (JIG.L_SEL.LOOP 1, 175), (JIG.L_STAT.TGT_VALID 175, 1)], .link, _, _, by decide, rfl, rfl, by decide⟩,
    ⟨st [(JIG.L_STAT.STATE 0, rgFault)], .mgmt, _, _, by decide, rfl, rfl, by decide⟩,
    ⟨st [(JIG.L_STAT.STATE 0, rgFault)], .mgmt, _, _, by decide, rfl, rfl, by decide⟩,
    ⟨State.reset, .mgmt, _, _, by decide, rfl, rfl, by decide⟩,
    ⟨State.reset, .mgmt, _, _, by decide, rfl, rfl, by decide⟩,
    ⟨State.reset, .mgmt, _, _, by decide, rfl, rfl, by decide⟩,
    ⟨st [(JIG.L_STAT.STATE 0, rgHold)], .mgmt, _, _, by decide, rfl, rfl, by decide⟩,
    ⟨st [(JIG.L_STAT.STATE 0, rgParked)], .mgmt, 0x10000, And.intro (by decide) (by decide), by decide, by decide, by decide⟩,
    ⟨st [(JIG.L_STAT.STATE 0, rgHold)], .mgmt, 0, And.intro (by decide) (by decide), by decide, by decide, by decide⟩,
    ⟨st [(JIG.L_STAT.STATE 0, rgFault)], .mgmt, 0, And.intro (by decide) (by decide), by decide, by decide, by decide⟩,
    ⟨st [(JIG.L_STAT.STATE 0, rgLocked)], .mgmt, 0, And.intro (by decide) (by decide), by decide, by decide, by decide, by decide⟩,
    ⟨{ fab with fab := { jig := { release := [(15, 3)], takeovers := [15] } } }, 15, 3, by decide, by decide, by decide⟩,
    ⟨put fab [(JIG.L_STAT.STATE 0, rgLocked)], 0, tenSeconds, by decide, by decide, by decide⟩⟩

theorem wit_probes :
  (∃ (s : State) (e : Fin 4) (v : BitVec 32), s.csrSound ∧ bitsOf v.toNat 8 4 < 10 ∧ s.rd (OPE.PROBE_RES.RESULT e) ≠ prPending) ∧
  (∃ (s : State) (e : Fin 4) (v : BitVec 32), s.csrSound ∧ s.rd (OPE.PROBE_RES.RESULT e) = prPending) ∧
  (∃ (s : State) (p : Fin 16) (n : Nat) (x : Probe), s.fabUp = true ∧ s.askedProbe p = some x ∧ s.probeOk p x.ring n = true) ∧
  (∃ (s : State) (p : Fin 16) (n r : Nat), s.fabUp = true ∧ s.verifyRing p n = some r ∧ s.probeTakes p n = false ∧ Tbl.look s.fab.jig.verify p = none) ∧
  (∃ (s : State) (p : Fin 16) (n r : Nat) (ph : BitVec 6) (ga : BitVec 4) (w : Codeword) (h : Header) (body : List Byte) (f : Nat), s.fabUp = true ∧ n % 2 = 0 ∧ s.portQuiet p n = true ∧ s.portOff p = false ∧ s.flight p (n % 64 / 2) = some f ∧ probeWord n w = some (h, body) ∧ h.probe = true ∧ let v := (s.advance (s.probeTime p n (n % 64 / 2))).framedQuiet p (n % 64 / 2) ph.toNat ga.toNat; v.replyRing p ((n % 64 / 2 + 32 - v.portIndex p) % 32) = some r ∧ v.portQuiet p (n + 1) = true ∧ v.now < slotStart (n + 1)) ∧
  (∃ (s : State) (p : Fin 16) (n : Nat) (w : Codeword) (h : Header) (body : List Byte) (x : Probe) (res : Nat) (reply : Option Site), s.fabUp = true ∧ probeWord n w = some (h, body) ∧ Tbl.look s.fab.probes (p / 4) = some x ∧ x.port = p ∧ s.judge x n h body = some (res, reply)) ∧
  (∃ (s : State) (p : Fin 16) (n m : Nat) (x : Probe), s.fabUp = true ∧ Tbl.look s.fab.probes (p / 4) = some x ∧ x.port = p ∧ x.sent = some m ∧ m + 1 = n) ∧
  (∃ (s : State) (e : Fin 4) (t : Nat) (x : Probe), s.fabUp = true ∧ Tbl.look s.fab.probes e = some x ∧ x.sent = none ∧ slotStart (lastProbeSlot x.since (s.portIndex x.port) + 1) ≤ max s.now t) ∧
  (∃ (s : State) (l : Fin 176) (t : Nat), s.fabUp = true ∧ s.ringSt l = rgLocked ∧ s.on (JIG.L_STAT.VERIFIED l) = false ∧ (s.loop l).asked = false ∧ (ringOf l).isSome = true ∧ s.triesLeft l = false ∧ s.probing l = false) ∧
  (∃ (s : State) (e : Nat) (x : Probe) (res : Nat), res < 8) :=
  ⟨⟨State.reset, 3, 0x900, And.intro (by decide) (by decide), by decide, by decide⟩,
    ⟨st [(OPE.PROBE_RES.RESULT 3, prPending)], 3, 0x900, And.intro (by decide) (by decide), by decide⟩,
    ⟨{ put fab [(JIG.L_STAT.STATE (loopOf 0 9), rgLocked)] with fab := { probes := [(0, { port := 0, ring := 9, nonce := 5, since := 0 })] } }, 0, 64, _, by decide, rfl, by decide⟩,
    ⟨put fab [(JIG.L_STAT.STATE (loopOf 0 9), rgLocked), (JIG.VER_CFG.TRIES, 1)], 0, 64, 9, by decide, by decide, by decide, by decide⟩,
    ⟨{ put fab [(JIG.L_STAT.STATE (loopOf 0 7), rgLocked), (JIG.L_STAT.TGT_VALID (loopOf 0 7), 1), (JIG.L_STAT.TARGET (loopOf 0 7), 1), (OPE.P_WARD1.V7 0, 1), (OPE.P_WARD1.COL7 0, 1)] with fab := { cut := { flight := [(32, 5)] } } }, 0, 66, 7, 0, 0, wordOf { slot := 66, len := 8, probe := true } [9], _, _, 5, by decide, by decide, by decide, by decide, by decide, rfl, by decide, by decide, by decide, by decide⟩,
    ⟨{ fab with fab := { probes := [(3, { port := 15, ring := 0, nonce := 9, since := 0, sent := some 63 })] } }, 15, 64, wordOf { slot := 64, len := 8, reply := true } [9], _, _, _, _, _, by decide, rfl, rfl, by decide, rfl⟩,
    ⟨{ fab with fab := { probes := [(3, { port := 15, ring := 0, nonce := 9, since := 0, sent := some 63 })] } }, 15, 64, 63, _, by decide, rfl, by decide, by decide, by decide⟩,
    ⟨{ fab with fab := { probes := [(3, { port := 15, ring := 0, nonce := 9, since := 0 })] } }, 3, slotStart 4097, _, by decide, rfl, by decide, by decide⟩,
    ⟨put fab [(JIG.L_STAT.STATE 0, rgLocked), (JIG.VER_CFG.TRIES, 0)], 0, 0, by decide, by decide, by decide, by decide, by decide, by decide, by decide⟩,
    ⟨State.reset, 3, { port := 15, ring := 0, nonce := 9, since := 0 }, 7, by decide⟩⟩

theorem wit_wardrobes :
  (∃ (s : State) (p : Fin 16) (hi : Bool) (v : BitVec 32), s.csrSound ∧ let all := if hi then (s.wardrobe p).take 4 ++ (List.range 4).map (wardOf v.toNat) else (List.range 4).map (wardOf v.toNat) ++ (s.wardrobe p).drop 4; wardClash all = false) ∧
  (∃ (s : State) (p : Fin 16) (hi : Bool) (v : BitVec 32), s.csrSound ∧ let all := if hi then (s.wardrobe p).take 4 ++ (List.range 4).map (wardOf v.toNat) else (List.range 4).map (wardOf v.toNat) ++ (s.wardrobe p).drop 4; wardClash all = true) ∧
  (∃ (s : State) (p : Fin 16) (hi : Bool) (v i : Nat), i < 4) ∧
  (∃ (s : State) (p : Fin 16) (v : BitVec 32), s.csrSound ∧ let b := bitsOf v.toNat 0 4; let w := bitsOf v.toNat 8 4; b < 8 ∧ w < 8 ∧ b = s.bFor p) ∧
  (∃ (s : State) (p : Fin 16) (v : BitVec 32), s.csrSound ∧ let b := bitsOf v.toNat 0 4; let w := bitsOf v.toNat 8 4; b < 8 ∧ w = 15 ∧ b = s.bFor p) ∧
  (∃ (s : State) (p : Fin 16) (v : BitVec 32), s.csrSound ∧ let b := bitsOf v.toNat 0 4; let w := bitsOf v.toNat 8 4; b = 15 ∧ w < 8 ∧ b = s.bFor p) ∧
  (∃ (s : State) (p : Fin 16) (v : BitVec 32), s.csrSound ∧ let b := bitsOf v.toNat 0 4; let w := bitsOf v.toNat 8 4; b = 15 ∧ w = 15 ∧ b = s.bFor p) ∧
  (∃ (s : State) (p : Fin 16) (v : BitVec 32), s.csrSound ∧ let b := bitsOf v.toNat 0 4; let w := bitsOf v.toNat 8 4; 8 ≤ b ∧ b ≠ 15) ∧
  (∃ (s : State) (p : Fin 16) (v : BitVec 32), s.csrSound ∧ s.rcState ≠ rcCommitted ∧ s.rcState ≠ rcRunning ∧ wardClash ((List.range 4).map (wardOf v.toNat) ++ (s.staged p).drop 4) = false) ∧
  (∃ (s : State) (p : Fin 16) (v : BitVec 32), s.csrSound ∧ s.rcState ≠ rcCommitted ∧ s.rcState ≠ rcRunning ∧ wardClash ((s.staged p).take 4 ++ (List.range 4).map (wardOf v.toNat)) = true) ∧
  (∃ (s : State) (p : Fin 16) (v : BitVec 32), s.csrSound ∧ s.rcState = rcCommitted) ∧
  (∃ (s : State) (p : Fin 16) (v : BitVec 32), s.csrSound ∧ s.rcState = rcRunning) ∧
  (∃ (s : State), s.unsafeBlock 9 = false ∧ s.swState = swArmed ∧ s.swSlot % 64 = 0 ∧ s.rcState = rcIdle) ∧
  (∃ (s : State), s.unsafeBlock 9 = false ∧ s.swState = swArmed ∧ s.swSlot % 64 = 0 ∧ s.rcState = rcDone) ∧
  (∃ (s : State), s.swState ≠ swArmed) ∧
  (∃ (s : State), s.swSlot % 64 ≠ 0) ∧
  (∃ (s : State), s.rcState = rcArmed) ∧
  (∃ (s : State), s.rcState = rcRunning) :=
  ⟨⟨State.reset, 15, true, 0x9F, And.intro (by decide) (by decide), by decide⟩,
    ⟨State.reset, 15, false, 0x8080, And.intro (by decide) (by decide), by decide⟩,
    ⟨State.reset, 15, true, 0xFF, 3, by decide⟩,
    ⟨st [(OPE.P_SPARE.B_FOR 15, 7)], 15, 0x307, And.intro (by decide) (by decide), by decide, by decide, by decide⟩,
    ⟨st [(OPE.P_SPARE.B_FOR 15, 7)], 15, 0xF07, And.intro (by decide) (by decide), by decide, by decide, by decide⟩,
    ⟨State.reset, 15, 0x70F, And.intro (by decide) (by decide), by decide, by decide, by decide⟩,
    ⟨State.reset, 0, 0xF0F, And.intro (by decide) (by decide), by decide, by decide, by decide⟩,
    ⟨State.reset, 0, 8, And.intro (by decide) (by decide), by decide, by decide⟩,
    ⟨State.reset, 15, 0x9F, And.intro (by decide) (by decide), by decide, by decide, by decide⟩,
    ⟨State.reset, 15, 0x8080, And.intro (by decide) (by decide), by decide, by decide, by decide⟩,
    ⟨st [(CAL.RCB_STAT.STATE, rcCommitted)], 15, 0, And.intro (by decide) (by decide), by decide⟩,
    ⟨st [(CAL.RCB_STAT.STATE, rcRunning)], 15, 0, And.intro (by decide) (by decide), by decide⟩,
    ⟨st [(PB.STATUS.SW_STATE, swArmed), (PB.SWITCH_LO.SLOT, 64)], by decide, by decide, by decide, by decide⟩,
    ⟨st [(PB.STATUS.SW_STATE, swArmed), (CAL.RCB_STAT.STATE, rcDone)], by decide, by decide, by decide, by decide⟩,
    ⟨State.reset, by decide⟩,
    ⟨st [(PB.SWITCH_LO.SLOT, 63)], by decide⟩,
    ⟨st [(CAL.RCB_STAT.STATE, rcArmed)], by decide⟩,
    ⟨st [(CAL.RCB_STAT.STATE, rcRunning)], by decide⟩⟩

theorem wit_recabling :
  (∃ (s : State), s.fabUp = true ∧ s.rcState = rcCommitted) ∧
  (∃ (s : State), s.fabUp = true ∧ s.rcState = rcRunning ∧ 0 < s.rd CAL.RCB_STAT.PHASE ∧ s.rd CAL.RCB_STAT.PHASE ≤ 3) ∧
  (∃ (s : State) (n : Nat), s.fabUp = true ∧ s.rcState = rcRunning ∧ s.rcSlot + 3712 ≤ n ∧ n < s.rcSlot + 5760 ∧ n % 16 = 8 ∧ s.now < slotStart (n + 1)) ∧
  (∃ (s : State) (n k p r : Nat), s.lockedOn p k = some r ∧ s.portOff p = false ∧ s.on GAUGE.STATUS.OPT_OK = true) ∧
  (∃ (s : State), s.fabUp = true ∧ s.rcState = rcRunning ∧ s.rd (CAL.LSR_STAT.STEP 0) ≠ stMeasure ∧ s.rd (CAL.LSR_STAT.STEP 1) ≠ stMeasure) :=
  ⟨⟨put fab [(CAL.RCB_STAT.STATE, rcCommitted)], by decide, by decide⟩,
    ⟨put fab [(CAL.RCB_STAT.STATE, rcRunning), (CAL.RCB_STAT.PHASE, 3)], by decide, by decide, by decide, by decide⟩,
    ⟨put fab [(CAL.RCB_STAT.STATE, rcRunning)], 3720, by decide, by decide, by decide, by decide, by decide, by decide⟩,
    ⟨put fab [(JIG.L_STAT.STATE 9, rgLocked), (JIG.L_STAT.TGT_VALID 9, 1)], 0, 0, 0, 9, by decide, by decide, by decide⟩,
    ⟨put fab [(CAL.RCB_STAT.STATE, rcRunning)], by decide, by decide, by decide, by decide⟩⟩

theorem wit_wear :
  (∃ (s : State) (p : Fin 16) (n : Fin 8), s.fabUp = true ∧ s.on (wardField p n).1 = true ∧ s.sFor p = n ∧ s.ringSt (loopOf p 9) = rgFault) ∧
  (∃ (s : State) (p : Fin 16) (n : Fin 8), s.fabUp = true ∧ s.on (wardField p n).1 = true ∧ s.sFor p = 15 ∧ s.ringSt (loopOf p n) = rgFault ∧ s.ringSt (loopOf p 9) ≠ rgFault) ∧
  (∃ (s : State) (p : Fin 16) (n : Fin 8), s.fabUp = true ∧ s.on (wardField p n).1 = true ∧ s.sFor p = 15 ∧ s.ringSt (loopOf p n) ≠ rgFault ∧ s.worn p n = true ∧ s.bFor p = 15 ∧ s.ringSt (loopOf p 8) = rgParked) ∧
  (∃ (s : State) (m : Bool) (l : Fin 176) (x : Nat), s.fabUp = true ∧ (m, l.val) ∈ s.fab.jig.faulty ∧ s.spareChannel m (l / 44) = some x) ∧
  (∃ (s : State) (l : Fin 176), s.fabUp = true) ∧
  (∃ (s : State) (p : Fin 16), s.fabUp = true ∧ s.portEn p = true ∧ 16 ≤ Tbl.lookD s.fab.dead 0 p ∧ p.val ∈ s.fab.noLoop) ∧
  (∃ (s : State) (l : Nat) (m : Bool), s.fab.cal.opt = none ∧ s.ringSt l ≠ rgFault ∧ ringOf l = none) :=
  ⟨⟨put fab [((wardField 15 7).1, 1), (OPE.P_SPARE.S_FOR 15, 7), (JIG.L_STAT.STATE (loopOf 15 9), rgFault)], 15, 7, by decide, by decide, by decide, by decide⟩,
    ⟨put fab [((wardField 15 7).1, 1), (JIG.L_STAT.STATE (loopOf 15 7), rgFault)], 15, 7, by decide, by decide, by decide, by decide, by decide⟩,
    ⟨{ put fab [((wardField 15 7).1, 1), (JIG.L_STAT.STATE (loopOf 15 8), rgParked)] with fab := { recable := { marked := [127] } } }, 15, 7, by decide, by decide, by decide, by decide, by decide, by decide, by decide⟩,
    ⟨{ fab with fab := { jig := { faulty := [(true, 175)] } } }, true, 175, 48, by decide, by decide, by decide⟩,
    ⟨fab, 175, by decide⟩,
    ⟨{ fab with fab := { dead := [(15, 16)], noLoop := [15] } }, 15, by decide, by decide, by decide, by decide⟩,
    ⟨State.reset, 43, true, by decide, by decide, by decide⟩⟩

theorem wit_lasers :
  (∃ (s : State) (i : Fin 2), s.fabUp = true ∧ s.rd (CAL.LSR_STAT.LEVEL i) = 0 ∧ (s.laser i).lostRun = 0 ∧ (s.laser i).spareRun < 4 ∧ 16 ≤ (s.laser i).warnRun) ∧
  (∃ (s : State) (i : Fin 2), s.fabUp = true ∧ s.rd (CAL.LSR_STAT.LEVEL i) < 2 ∧ (s.laser i).lostRun = 0 ∧ 4 ≤ (s.laser i).spareRun ∧ s.spareAvail i = true ∧ s.rd (CAL.LSR_STAT.STEP i) = stNone) ∧
  (∃ (s : State) (i : Fin 2), s.fabUp = true ∧ s.rd (CAL.LSR_STAT.LEVEL i) < 3 ∧ 1 ≤ (s.laser i).lostRun) ∧
  (∃ (s : State) (i : Fin 2), s.fabUp = true ∧ 0 < s.rd (CAL.LSR_STAT.LEVEL i) ∧ s.rd (CAL.LSR_STAT.LEVEL i) ≤ 3 ∧ 1024 ≤ (s.laser i).calmRun) ∧
  (∃ (s : State) (i : Fin 2), s.mainUp = true ∧ ∃ w : BitVec 8, s.rd (CAL.LSR_STAT.STEP i) = stPrewarm) ∧
  (∃ (s : State) (i : Fin 2), s.mainUp = true ∧ ∃ t : Nat, (s.laser i).retryAt = some t ∧ s.rd (CAL.LSR_STAT.STEP i) = stFailed ∧ s.rd (CAL.LSR_STAT.LEVEL i) = 2 ∧ s.spareAvail i = true) ∧
  (∃ (s : State) (i : Fin 2) (p t : Nat) (r : List Nat) (o : Int), s.fabUp = true ∧ (s.laser i).ports = p :: r ∧ (s.laser i).begun = some t ∧ s.rd (CAL.LSR_STAT.STEP i) = stMeasure ∧ s.rcState ≠ rcRunning) ∧
  (∃ (s : State) (i : Fin 2) (n : Nat), s.fabUp = true ∧ s.now ≤ slotStart n ∧ s.spareAvail i = true ∧ s.rd (CAL.LSR_STAT.LEVEL i) ≠ 3 ∧ s.rd (CAL.LSR_STAT.STEP i) = stWait ∧ (s.laser i).after ≤ slotStart n ∧ s.windowStart n = true ∧ s.unsafeBlock 9 = false) ∧
  (∃ (s : State) (i : Fin 2) (w : Nat), s.fabUp = true ∧ (s.laser i).stepAt = some w) ∧
  (∃ (s : State) (i : Fin 2) (w : Nat) (v : BitVec 16), s.fabUp = true ∧ (s.laser i).restart = some w) ∧
  (∃ (s : State) (i : Fin 2), s.spareAvail i = false) ∧
  (∃ (s : State) (i : Fin 2), s.rd (CAL.LSR_STAT.STEP i) = stWait) ∧
  (∃ (s : State) (k : Fin 6) (b : IdBlock) (j : Fin 32) (l : Fin 22), s.mainUp = true ∧ l.val = 16 + k.val ∧ (s.cuLink k).peer = some b ∧ (s.cuLink k).told = false ∧ s.cuUp k = false) :=
  ⟨⟨{ fab with fab := { lasers := [(1, { warnRun := 16, spareRun := 3 })] } }, 1, by decide, by decide, by decide, by decide, by decide⟩,
    ⟨{ put fab [(CAL.LSR_STAT.SPARE_AVAIL 1, 1)] with fab := { lasers := [(1, { spareRun := 4 })] } }, 1, by decide, by decide, by decide, by decide, by decide, by decide⟩,
    ⟨{ fab with fab := { lasers := [(1, { lostRun := 1 })] } }, 1, by decide, by decide, by decide⟩,
    ⟨{ put fab [(CAL.LSR_STAT.LEVEL 1, 3)] with fab := { lasers := [(1, { calmRun := 1024 })] } }, 1, by decide, by decide, by decide, by decide⟩,
    ⟨put running [(CAL.LSR_STAT.STEP 1, stPrewarm)], 1, by decide, 0, by decide⟩,
    ⟨{ put running [(CAL.LSR_STAT.STEP 1, stFailed), (CAL.LSR_STAT.LEVEL 1, 2), (CAL.LSR_STAT.SPARE_AVAIL 1, 1)] with fab := { lasers := [(1, { retryAt := some 5 })] } }, 1, by decide, 5, by decide, by decide, by decide, by decide⟩,
    ⟨{ put fab [(CAL.LSR_STAT.STEP 1, stMeasure)] with fab := { lasers := [(1, { ports := [15], begun := some 5 })] } }, 1, 15, 5, [], 0, by decide, by decide, by decide, by decide, by decide⟩,
    ⟨put fab [(CAL.LSR_STAT.SPARE_AVAIL 1, 1), (CAL.LSR_STAT.STEP 1, stWait), (PB.WORN_CYCLE.LEN, 1024)], 1, 0, by decide, by decide, by decide, by decide, by decide, by decide, by decide, by decide⟩,
    ⟨{ fab with fab := { lasers := [(1, { stepAt := some 5 })] } }, 1, 5, by decide, by decide⟩,
    ⟨{ fab with fab := { lasers := [(1, { restart := some 5 })] } }, 1, 5, 9, by decide, by decide⟩,
    ⟨State.reset, 0, by decide⟩,
    ⟨st [(CAL.LSR_STAT.STEP 0, stWait)], 0, by decide⟩,
    ⟨{ running with fab := { cu := [(5, { peer := some ⟨0, 0, 0, 0, 0, 0, 0, 0⟩, told := false })] } }, 5, _, 0, 21, by decide, by decide, rfl, by decide, by decide⟩⟩

theorem wit_calibrationQueue :
  (∃ (s : State) (u : Fin 6) (temp : Int), s.fabUp = true ∧ s.on CAL.CTRL.TEMP_EN = true ∧ u.val < 4 ∧ s.rd CAL.TRIG_CFG.ENG_DT < (s.engineDelta u).natAbs) ∧
  (∃ (s : State) (u : Fin 6) (temp : Int), s.fabUp = true ∧ s.on CAL.CTRL.TEMP_EN = true ∧ let v := s.showInt (CAL.CU_T.NOW u) temp; v.rd CAL.TRIG_CFG.CU_DT < (v.rdI (CAL.CU_T.NOW u) - v.rdI (CAL.CU_T.AT_RUN u)).natAbs ∧ s.fab.cal.tdcDue = false) ∧
  (∃ (s : State) (k : BitVec 4) (u : BitVec 12) (t : Nat), s.fabUp = true ∧ s.on CAL.CTRL.INT_EN = true ∧ 3 ≤ k.toNat ∧ calValid k.toNat u.toNat = true ∧ Tbl.lookD s.fab.cal.lastAt 0 (calKey k.toNat u.toNat) + Config.ns (1000000000 * s.rd CAL.INTERVAL.SECONDS) ≤ t) ∧
  (∃ (s : State) (k : BitVec 4) (u : BitVec 12), s.csrSound ∧ calValid k.toNat u.toNat = true) ∧
  (∃ (s : State) (k : BitVec 4) (u : BitVec 12), s.csrSound ∧ calValid k.toNat u.toNat = false) ∧
  (∃ (s : State) (u : CalUnit), ((∀ x ∈ s.fab.cal.queue, x.kind ≠ u.kind ∨ x.unit ≠ u.unit)) ∧ s.fab.cal.queue.length < 255) ∧
  (∃ (s : State) (u : CalUnit), ∃ x ∈ s.fab.cal.queue, x.kind = u.kind ∧ x.unit = u.unit) ∧
  (∃ (s : State) (u : CalUnit), ((∀ x ∈ s.fab.cal.queue, x.kind ≠ u.kind ∨ x.unit ≠ u.unit)) ∧ 255 ≤ s.fab.cal.queue.length) ∧
  (∃ (s : State) (cu : Bool) (u : CalUnit), s.fabUp = true ∧ s.unsafeBlock 9 = false ∧ cu = true ∧ s.calRun cu = none ∧ ((s.fab.cal.queue.find? fun x => calElectric x == cu) = some u) ∧ s.on (if cu then CAL.CTRL.CU_EN else CAL.CTRL.OPT_EN) = true ∧ let rest := s.fab.cal.queue.filter (· != u); s.on CAL.STAT.PAUSED = true) ∧
  (∃ (s : State) (cu : Bool) (u : CalUnit), s.fabUp = true ∧ s.unsafeBlock 9 = false ∧ s.rcState ≠ rcRunning ∧ s.calRun cu = none ∧ ((s.fab.cal.queue.find? fun x => calElectric x == cu) = some u) ∧ s.on (if cu then CAL.CTRL.CU_EN else CAL.CTRL.OPT_EN) = true ∧ let rest := s.fab.cal.queue.filter (· != u); s.on CAL.STAT.PAUSED = true) ∧
  (∃ (s : State) (cu : Bool) (u : CalUnit), s.fabUp = true ∧ s.unsafeBlock 9 = false ∧ cu = true ∧ s.calRun cu = none ∧ ((s.fab.cal.queue.find? fun x => calElectric x == cu) = some u) ∧ s.on (if cu then CAL.CTRL.CU_EN else CAL.CTRL.OPT_EN) = true ∧ let rest := s.fab.cal.queue.filter (· != u); s.on CAL.STAT.PAUSED = false ∧ s.unitShut u = true) ∧
  (∃ (s : State) (cu : Bool) (u : CalUnit), s.fabUp = true ∧ s.unsafeBlock 9 = false ∧ cu = true ∧ s.calRun cu = none ∧ ((s.fab.cal.queue.find? fun x => calElectric x == cu) = some u) ∧ s.on (if cu then CAL.CTRL.CU_EN else CAL.CTRL.OPT_EN) = true ∧ let rest := s.fab.cal.queue.filter (· != u); s.on CAL.STAT.PAUSED = false ∧ s.unitShut u = false ∧ s.unitFree u = true) ∧
  (∃ (s : State) (cu : Bool) (u : CalUnit), s.fabUp = true ∧ s.unsafeBlock 9 = false ∧ s.rcState ≠ rcRunning ∧ s.calRun cu = none ∧ ((s.fab.cal.queue.find? fun x => calElectric x == cu) = some u) ∧ s.on (if cu then CAL.CTRL.CU_EN else CAL.CTRL.OPT_EN) = true ∧ let rest := s.fab.cal.queue.filter (· != u); s.on CAL.STAT.PAUSED = false ∧ s.unitShut u = false ∧ s.unitFree u = true) ∧
  (∃ (s : State) (cu : Bool) (u : CalUnit), s.fabUp = true ∧ s.unsafeBlock 9 = false ∧ cu = true ∧ s.calRun cu = none ∧ ((s.fab.cal.queue.find? fun x => calElectric x == cu) = some u) ∧ s.on (if cu then CAL.CTRL.CU_EN else CAL.CTRL.OPT_EN) = true ∧ let rest := s.fab.cal.queue.filter (· != u); s.on CAL.STAT.PAUSED = false ∧ s.unitShut u = false ∧ s.unitFree u = false ∧ u.defer < 63) ∧
  (∃ (s : State) (cu : Bool) (u : CalUnit), s.fabUp = true ∧ s.unsafeBlock 9 = false ∧ s.rcState ≠ rcRunning ∧ s.calRun cu = none ∧ ((s.fab.cal.queue.find? fun x => calElectric x == cu) = some u) ∧ s.on (if cu then CAL.CTRL.CU_EN else CAL.CTRL.OPT_EN) = true ∧ let rest := s.fab.cal.queue.filter (· != u); s.on CAL.STAT.PAUSED = false ∧ s.unitShut u = false ∧ s.unitFree u = false ∧ u.defer < 63) ∧
  (∃ (s : State) (x : CalRun) (k n : Nat), x.lane = some (k, n) ∧ s.cuUp k = true ∧ s.spareIdle k = true) :=
  ⟨⟨{ put fab [(CAL.CTRL.TEMP_EN, 1), (CAL.CM_PER_C.UW, 1)] with fab := { cal := { cmAt := [(3, 1000 * uW)] } } }, 3, 0, by decide, by decide, by decide, by decide⟩,
    ⟨put fab [(CAL.CTRL.TEMP_EN, 1), (CAL.TRIG_CFG.CU_DT, 1)], 5, -2, by decide, by decide, by decide, by decide⟩,
    ⟨put fab [(CAL.CTRL.INT_EN, 1), (CAL.INTERVAL.SECONDS, 1)], 8, 5, Config.ns 1000000000, by decide, by decide, by decide, by decide, by decide⟩,
    ⟨State.reset, 1, 175, And.intro (by decide) (by decide), by decide⟩,
    ⟨State.reset, 1, 176, And.intro (by decide) (by decide), by decide⟩,
    ⟨{ State.reset with fab := { cal := { queue := List.replicate 254 ⟨1, 0, .command, 0⟩ } } }, ⟨1, 1, .command, 0⟩, by decide, by decide⟩,
    ⟨{ State.reset with fab := { cal := { queue := [⟨1, 1, .interval, 0⟩] } } }, ⟨1, 1, .command, 0⟩, ⟨1, 1, .interval, 0⟩, by decide, by decide, by decide⟩,
    ⟨{ State.reset with fab := { cal := { queue := List.replicate 255 ⟨1, 0, .command, 0⟩ } } }, ⟨1, 1, .command, 0⟩, by decide, by decide⟩,
    ⟨calFab [(CAL.CTRL.CU_EN, 1), (CAL.STAT.PAUSED, 1)] ⟨3, 0, .command, 0⟩, true, ⟨3, 0, .command, 0⟩, by decide, by decide, by decide, by decide, by decide, by decide, by decide⟩,
    ⟨calFab [(CAL.CTRL.OPT_EN, 1), (CAL.STAT.PAUSED, 1)] ⟨6, 0, .command, 0⟩, false, ⟨6, 0, .command, 0⟩, by decide, by decide, by decide, by decide, by decide, by decide, by decide⟩,
    ⟨calFab [(CAL.CTRL.CU_EN, 1), (CU.STAT.SPARE_FOR 5, 3)] ⟨8, 5, .command, 0⟩, true, ⟨8, 5, .command, 0⟩, by decide, by decide, by decide, by decide, by decide, by decide, by decide, by decide⟩,
    ⟨calFab [(CAL.CTRL.CU_EN, 1)] ⟨3, 0, .command, 0⟩, true, ⟨3, 0, .command, 0⟩, by decide, by decide, by decide, by decide, by decide, by decide, by decide, by decide, by decide⟩,
    ⟨calFab [(CAL.CTRL.OPT_EN, 1)] ⟨6, 0, .command, 0⟩, false, ⟨6, 0, .command, 0⟩, by decide, by decide, by decide, by decide, by decide, by decide, by decide, by decide, by decide⟩,
    ⟨calFab [(CAL.CTRL.CU_EN, 1), (CU.STAT.SPARE_FOR 5, 15)] ⟨8, 5, .command, 62⟩, true, ⟨8, 5, .command, 62⟩, by decide, by decide, by decide, by decide, by decide, by decide, by decide, by decide, by decide, by decide⟩,
    ⟨calFab [(CAL.CTRL.OPT_EN, 1), (JIG.L_STAT.TGT_VALID 3, 1), (OPE.P_SPARE.B_FOR 0, 5)] ⟨1, 3, .command, 62⟩, false, ⟨1, 3, .command, 62⟩, by decide, by decide, by decide, by decide, by decide, by decide, by decide, by decide, by decide, by decide⟩,
    ⟨st [(CU.STAT.STATE 5, 5), (CU.STAT.SPARE_FOR 5, 15)], { item := ⟨8, 5, .command, 0⟩, part := 7 }, 5, 7, by decide, by decide, by decide⟩⟩

theorem wit_calibrationRuns :
  (∃ (s : State) (x : CalRun) (l : Nat) (peaks : List PeakMeas) (dark rh : Nat) (slope gOn gOff : Int) (peak phi : Nat) (col : List (Nat × Int)), s.fabUp = true ∧ s.fab.cal.opt = some x ∧ x.begun = true ∧ x.loop = some l ∧ x.locking = none ∧ x.held = true) ∧
  (∃ (s : State) (x : CalRun) (l : Nat) (v : RingVals) (r : Nat), x.item.kind = 1 ∧ x.item.unit = l ∧ x.bad = 0 ∧ s.ringReason l v = r ∧ r ≠ 0) ∧
  (∃ (s : State) (x : CalRun) (l t0 r : Nat), s.fabUp = true ∧ s.fab.cal.opt = some x ∧ x.begun = true ∧ x.item.kind = 1 ∧ x.item.unit = l ∧ x.locking = some t0 ∧ s.ringSt l = rgLocked) ∧
  (∃ (s : State) (x : CalRun) (l t0 : Nat) (c : LoopCal), s.fabUp = true ∧ s.fab.cal.opt = some x ∧ x.item.kind = 1 ∧ x.item.unit = l ∧ x.locking = some t0 ∧ x.old = some c ∧ s.ringSt l ≠ rgLocked) ∧
  (∃ (s : State) (x : CalRun), s.fabUp = true ∧ s.fab.cal.cu = some x ∧ x.begun = true ∧ ∃ (k n w h : Nat) (tx rx : Int) (trims : List Int), x.lane = some (k, n) ∧ (s.cuLink k).loan = some n) ∧
  (∃ (s : State) (x : CalRun), s.fabUp = true ∧ s.fab.cal.cu = some x ∧ x.begun = true ∧ ∃ (tx rx : Int) (rms : Nat) (ft asym : Int) (n : Nat), x.partUnit.kind = 4) ∧
  (∃ (s : State) (x : CalRun), s.fabUp = true ∧ s.fab.cal.cu = some x ∧ x.begun = true ∧ ∃ (big small : Nat) (tbl : List Int), x.item.kind = 3 ∧ x.bad = 0 ∧ 50 ≤ small ∧ big ≤ 150) ∧
  (∃ (s : State) (x : CalRun), s.fabUp = true ∧ s.fab.cal.cu = some x ∧ x.begun = true ∧ ∃ (big small : Nat) (tbl : List Int), x.item.kind = 3 ∧ x.bad = 0 ∧ small < 50) ∧
  (∃ (s : State) (x : CalRun), s.fabUp = true ∧ s.fab.cal.cu = some x ∧ x.begun = true ∧ ∃ (big small : Nat) (tbl : List Int), x.item.kind = 3 ∧ x.bad = 0 ∧ 150 < big) ∧
  (∃ (s : State) (x : CalRun) (k n w h : Nat) (tx rx : Int) (trims : List Int), x.item.kind = 2 ∧ x.item.unit = 16 * k + n ∧ n < 16 ∧ x.bad = 0 ∧ s.cuUp k = true ∧ (s.cuLink k).loan = some n ∧ (s.cuLink k).hov = none ∧ w < s.rd CAL.LIM_LANE.EYE_W_MIN) ∧
  (∃ (s : State), s.csrSound ∧ s.fab.cal.opt = none ∧ s.fab.cal.cu = none) ∧
  (∃ (s : State), ∃ x, s.csrSound ∧ s.fab.cal.opt = none ∧ s.fab.cal.cu = some x ∧ x.lane = none) ∧
  (∃ (s : State), ∃ x, s.fab.cal.cu = some x) ∧
  (∃ (s : State) (t : Nat), s.fabUp = true ∧ s.fab.cal.waitTo = some t) :=
  ⟨⟨calRunning false { item := ⟨1, 175, .command, 0⟩, begun := true, held := true }, _, 175, [], 0, 0, 0, 0, 0, 0, 0, [], by decide, rfl, by decide, by decide, by decide, by decide⟩,
    ⟨State.reset, { item := ⟨1, 43, .command, 0⟩ }, 43, ⟨0, 0, 0, 0, 0, 0, 0, 0, 0, [], []⟩, 4, by decide, by decide, by decide, by decide, by decide⟩,
    ⟨{ put fab [(JIG.L_STAT.STATE 175, rgLocked)] with fab := { cal := { opt := some { item := ⟨1, 175, .command, 0⟩, begun := true, locking := some 5 } } } }, _, 175, 5, 0, by decide, rfl, by decide, by decide, by decide, by decide, by decide⟩,
    ⟨calRunning false { item := ⟨1, 175, .command, 0⟩, begun := true, locking := some 5, old := some {} }, _, 175, 5, {}, by decide, rfl, by decide, by decide, by decide, by decide, by decide⟩,
    ⟨{ fab with fab := { cal := { cu := some { item := ⟨2, 87, .command, 0⟩, begun := true } }, cu := [(5, { loan := some 7 })] } }, _, by decide, rfl, by decide, 5, 7, 0, 0, 0, 0, [], by decide, by decide⟩,
    ⟨calRunning true { item := ⟨4, 21, .command, 0⟩, begun := true }, _, by decide, rfl, by decide, 0, 0, 0, 0, 0, 0, by decide⟩,
    ⟨calRunning true { item := ⟨3, 0, .command, 0⟩, begun := true }, _, by decide, rfl, by decide, 150, 50, [], by decide, by decide, by decide, by decide⟩,
    ⟨calRunning true { item := ⟨3, 0, .command, 0⟩, begun := true }, _, by decide, rfl, by decide, 150, 49, [], by decide, by decide, by decide⟩,
    ⟨calRunning true { item := ⟨3, 0, .command, 0⟩, begun := true }, _, by decide, rfl, by decide, 151, 50, [], by decide, by decide, by decide⟩,
    ⟨{ st [(CU.STAT.STATE 5, 5), (CAL.LIM_LANE.EYE_W_MIN, 1)] with fab := { cu := [(5, { loan := some 7 })] } }, { item := ⟨2, 87, .command, 0⟩ }, 5, 7, 0, 0, 0, 0, [], by decide, by decide, by decide, by decide, by decide, by decide, by decide, by decide⟩,
    ⟨State.reset, And.intro (by decide) (by decide), by decide, by decide⟩,
    ⟨calRunning true { item := ⟨3, 0, .command, 0⟩ }, _, And.intro (by decide) (by decide), by decide, rfl, by decide⟩,
    ⟨calRunning true { item := ⟨3, 0, .command, 0⟩ }, _, rfl⟩,
    ⟨{ fab with fab := { cal := { waitTo := some 9 } } }, 9, by decide, by decide⟩⟩

theorem wit_calibrationImages :
  (∃ (s : State), s.csrSound ∧ s.fab.cal.saving = none ∧ s.calVolatile = false) ∧
  (∃ (s : State), s.csrSound ∧ s.fab.cal.saving = none ∧ s.calVolatile = true ∧ s.imgAddr = 0) ∧
  (∃ (s : State) (t : Nat), s.mainUp = true ∧ s.on CAL.STORE_STAT.DIRTY = true ∧ ((∀ a, s.fab.cal.saveAt = some a → a + Config.ns 60000000000 ≤ max s.now t)) ∧ s.fab.cal.opt = none ∧ ((∀ u ∈ s.fab.cal.queue, calElectric u = true))) ∧
  (∃ (s : State) (x : CalImage), s.fab.cal.saving = some x ∧ s.calVolatile = false) ∧
  (∃ (s : State) (x : CalImage) (u : State), s.fab.cal.saving = some x ∧ s.calVolatile = true ∧ ∃ l, s.moveEnd mvSave [] = (u, .done l)) ∧
  (∃ (s : State) (x : CalImage) (u : State), s.fab.cal.saving = some x ∧ s.calVolatile = true ∧ s.moveEnd mvSave [] = (u, .failed)) ∧
  (∃ (s : State), s.csrSound ∧ s.calVolatile = true ∧ s.move mvRestore = none ∧ s.isComp s.imgAddr = true) ∧
  (∃ (s : State) (x : CalImage), x.recs = []) :=
  ⟨⟨State.reset, And.intro (by decide) (by decide), by decide, by decide⟩,
    ⟨st [(CAL.CTRL.MODE, 1)], And.intro (by decide) (by decide), by decide, by decide, by decide⟩,
    ⟨put running [(CAL.STORE_STAT.DIRTY, 1)], 0, by decide, by decide, (fun a h => by cases h), by decide, by decide⟩,
    ⟨{ State.reset with fab := { cal := { saving := some ⟨1, 0, []⟩ } } }, _, rfl, by decide⟩,
    ⟨{ st [(CAL.CTRL.MODE, 1)] with fab := { cal := { saving := some ⟨1, 0, []⟩ } }, sys := { moves := [(mvSave, ⟨true, 64, 0, [], 0, false⟩)] } }, _, _, rfl, by decide, _, rfl⟩,
    ⟨{ st [(CAL.CTRL.MODE, 1)] with fab := { cal := { saving := some ⟨1, 0, []⟩ } } }, _, _, rfl, by decide, rfl⟩,
    ⟨st [(CAL.CTRL.MODE, 1), (CAL.IMG_ADDR_HI.ADDR, 0x8000)], And.intro (by decide) (by decide), by decide, by decide, by decide⟩,
    ⟨State.reset, ⟨1, 0, []⟩, by decide⟩⟩

theorem wit_copperTraining :
  (∃ (s : State) (k : Fin 6), s.cuRuns k = true ∧ s.on (CU.CTRL.CABLED k) = true ∧ s.cuSt k = cuDown) ∧
  (∃ (s : State) (k : Fin 6), s.cuRuns k = true ∧ ∃ m : BitVec 9, s.cuSt k = cuDetect ∧ 8 ≤ lanesIn m) ∧
  (∃ (s : State) (k : Fin 6), s.cuRuns k = true ∧ ∃ m : BitVec 9, s.cuSt k = cuTrain ∧ 8 ≤ lanesIn m) ∧
  (∃ (s : State) (k : Fin 6), s.cuRuns k = true ∧ s.cuSt k = cuIdent) ∧
  (∃ (s : State) (k : Fin 6), s.cuRuns k = true ∧ s.cuSt k = cuAlign) ∧
  (∃ (s : State) (k : Fin 6) (b : IdBlock) (ls : List LaneId), s.cuRuns k = true ∧ s.cuSt k = cuIdent ∧ 8 ≤ ls.length ∧ let v := s.showPeer k b; v.identCheck k b ls ≠ 0) ∧
  (∃ (s : State) (k : Fin 6) (b : IdBlock) (ls : List LaneId), s.cuRuns k = true ∧ s.cuSt k = cuIdent ∧ 8 ≤ ls.length ∧ let v := s.showPeer k b; v.identCheck k b ls = 0 ∧ b.digest = s.ownDigest) ∧
  (∃ (s : State) (k : Fin 6) (b : IdBlock) (ls : List LaneId), s.cuRuns k = true ∧ s.cuSt k = cuIdent ∧ 8 ≤ ls.length ∧ let v := s.showPeer k b; v.identCheck k b ls = 0 ∧ b.digest ≠ s.ownDigest) ∧
  (∃ (s : State) (k : Fin 6) (b : IdBlock) (ls : List LaneId), b.node ≠ s.rd (CU.CTRL.EXPECT k)) ∧
  (∃ (s : State) (k : Fin 6) (m : BitVec 9), s.cuRuns k = true ∧ s.cuSt k = cuAlign ∧ ((∀ n, n < 8 → ∃ i, i < 9 ∧ m.getLsbD i = true ∧ s.rd (CU.LANE_STAT.LOGICAL k i) = n))) ∧
  (∃ (s : State) (k : Fin 6), s.cuRuns k = true ∧ s.cuUp k = true ∧ 4 ≤ (s.cuLink k).fails ∧ s.laneRun k = false) ∧
  (∃ (s : State) (k : Fin 6), s.cuRuns k = true ∧ s.cuSt k = cuQuar ∧ ∃ b, (s.cuLink k).peer = some b) ∧
  (∃ (s : State) (k : Fin 6), s.cuRuns k = true ∧ s.cuSt k = cuQuar ∧ ∃ b, (s.cuLink k).peer ≠ some b) ∧
  (∃ (s : State) (k : Fin 6), s.csrSound ∧ s.laneRun k = false) :=
  ⟨⟨cuAt 5 cuDown, 5, by decide, by decide, by decide⟩,
    ⟨cuAt 5 cuDetect, 5, by decide, 0xFF, by decide, by decide⟩,
    ⟨cuAt 5 cuTrain, 5, by decide, 0xFF, by decide, by decide⟩,
    ⟨cuAt 5 cuIdent, 5, by decide, by decide⟩,
    ⟨cuAt 5 cuAlign, 5, by decide, by decide⟩,
    ⟨cuAt 5 cuIdent, 5, ⟨1, 0, 15, 0, 0, 0, 0, 0⟩, lanes8, by decide, by decide, by decide, by decide⟩,
    ⟨cuAt 0 cuIdent, 0, ⟨0, peerLink 0, 15, 0, 1, 0, 0, 0⟩, lanes8, by decide, by decide, by decide, by decide, by decide⟩,
    ⟨put (cuAt 0 cuIdent) [(CU.CTRL.DIGEST_LAX 0, 1)], 0, ⟨0, peerLink 0, 15, 0, 1, 0, 0, 9⟩, lanes8, by decide, by decide, by decide, by decide, by decide⟩,
    ⟨State.reset, 0, ⟨1, 0, 15, 0, 1, 0, 0, 0⟩, [], by decide⟩,
    ⟨put (cuAt 5 cuAlign) ((List.range 9).map fun i => (CU.LANE_STAT.LOGICAL 5 i, i)), 5, 0xFF, by decide, by decide, (fun n h => ⟨n, by omega, by revert n h; decide⟩)⟩,
    ⟨{ cuAt 5 5 with fab := { cu := [(5, { fails := 4 })] } }, 5, by decide, by decide, by decide, by decide⟩,
    ⟨{ cuAt 5 cuQuar with fab := { cu := [(5, { peer := some ⟨0, 0, 0, 0, 0, 0, 0, 0⟩ })] } }, 5, by decide, by decide, _, rfl⟩,
    ⟨cuAt 5 cuQuar, 5, by decide, by decide, ⟨0, 0, 0, 0, 0, 0, 0, 0⟩, by decide⟩,
    ⟨State.reset, 5, And.intro (by decide) (by decide), by decide⟩⟩

theorem wit_copperHandovers :
  (∃ (s : State) (k : Fin 6) (n : BitVec 4) (p : Bool), s.csrSound ∧ n.toNat < 8 ∧ s.cuUp k = true ∧ s.spareIdle k = true) ∧
  (∃ (s : State) (k : Fin 6) (n : BitVec 4) (p : Bool), s.csrSound ∧ 8 ≤ n.toNat) ∧
  (∃ (s : State) (k : Fin 6) (n : BitVec 4) (p : Bool), s.csrSound ∧ s.cuUp k = false) ∧
  (∃ (s : State) (k : Fin 6) (n : BitVec 4) (p : Bool), s.csrSound ∧ s.spareIdle k = false) ∧
  (∃ (s : State) (k : Fin 6) (n : BitVec 4) (p : Bool), s.csrSound ∧ s.cuUp k = true ∧ (s.cuLink k).loan = some n.toNat ∧ (s.cuLink k).hov = none) ∧
  (∃ (s : State) (k : Fin 6) (n : BitVec 4) (p : Bool), s.csrSound ∧ (s.cuLink k).loan ≠ some n.toNat) ∧
  (∃ (s : State) (k : Fin 6) (n : Fin 8) (back : Bool), s.cuRuns k = true ∧ s.cuUp k = true ∧ (s.cuLink k).hov = none ∧ (if back then (s.cuLink k).loan = some n.val else s.spareIdle k = true)) ∧
  (∃ (s : State) (k : Fin 6) (n : Fin 8) (back : Bool), s.cuRuns k = true ∧ s.cuUp k = true ∧ ∃ y, (s.cuLink k).hov = some y ∧ y.mine = true ∧ y.moved = false ∧ s.rd (CU.PEER_ID.NODE k) < s.node) ∧
  (∃ (s : State) (k : Fin 6) (h : Handover), s.cuRuns k = true ∧ s.cuUp k = true ∧ (s.cuLink k).hov = some h ∧ h.moved = false) ∧
  (∃ (s : State) (k : Fin 6) (h : Handover), s.cuRuns k = true ∧ s.cuUp k = true ∧ (s.cuLink k).hov = some h ∧ h.moved = true) ∧
  (∃ (s : State) (k : Nat) (h : Handover) (i j : Nat), k < 6 ∧ i ≠ j ∧ i < 9 ∧ j < 9 ∧ h.lane < 8 ∧ s.rxOf k h.lane = some i ∧ s.rxOf k 8 = some j) ∧
  (∃ (s : State) (k : Fin 6) (n : Fin 8), s.cuRuns k = true ∧ s.cuUp k = true ∧ s.laneRun k = false ∧ s.spareIdle k = true) ∧
  (∃ (s : State) (k : Fin 6) (n : Fin 8), s.cuRuns k = true ∧ s.cuUp k = true ∧ s.laneRun k = false ∧ s.spareIdle k = false) ∧
  (∃ (s : State) (k : Fin 6) (n : Fin 8), s.cuRuns k = true ∧ s.cuUp k = true ∧ s.laneWorn k n = true ∧ let i := (s.rxOf k n).getD n.val; s.on (CU.LANE_STAT.WORN k i) = false ∧ s.rd (CU.STAT.SPARE_FOR k) = 15 ∧ s.spareIdle k = true) ∧
  (∃ (s : State) (k : Fin 6) (n : Fin 8), s.cuRuns k = true ∧ s.cuUp k = true ∧ s.laneWorn k n = true ∧ let i := (s.rxOf k n).getD n.val; s.on (CU.LANE_STAT.WORN k i) = false ∧ s.rd (CU.STAT.SPARE_FOR k) ≠ 15) ∧
  (∃ (s : State) (t a : Nat), s.fab.stopAt = some a) :=
  ⟨⟨put (cuAt 5 5) [(CU.STAT.SPARE_FOR 5, 15)], 5, 7, true, And.intro (by decide) (by decide), by decide, by decide, by decide⟩,
    ⟨State.reset, 5, 8, false, And.intro (by decide) (by decide), by decide⟩,
    ⟨State.reset, 5, 7, false, And.intro (by decide) (by decide), by decide⟩,
    ⟨put (cuAt 5 5) [(CU.STAT.SPARE_FOR 5, 3)], 5, 7, false, And.intro (by decide) (by decide), by decide⟩,
    ⟨{ cuAt 5 5 with fab := { cu := [(5, { loan := some 7 })] } }, 5, 7, false, And.intro (by decide) (by decide), by decide, by decide, by decide⟩,
    ⟨cuAt 5 5, 5, 7, false, And.intro (by decide) (by decide), by decide⟩,
    ⟨{ cuAt 5 5 with fab := { cu := [(5, { loan := some 7 })] } }, 5, 7, true, by decide, by decide, by decide, by decide⟩,
    ⟨{ put (cuAt 5 5) [(BOOT.NODE.NODE_ID, 1)] with fab := { cu := [(5, { hov := some { lane := 3, mine := true } })] } }, 5, 7, false, by decide, by decide, _, rfl, by decide, by decide, by decide⟩,
    ⟨{ cuAt 5 5 with fab := { cu := [(5, { hov := some { lane := 3 } })] } }, 5, _, by decide, by decide, rfl, by decide⟩,
    ⟨{ cuAt 5 5 with fab := { cu := [(5, { hov := some { lane := 3, moved := true } })] } }, 5, _, by decide, by decide, rfl, by decide⟩,
    ⟨st ((List.range 9).map fun i => (CU.LANE_STAT.PEER_LANE 5 i, i)), 5, { lane := 7 }, 7, 8, by decide, by decide, by decide, by decide, by decide, by decide, by decide⟩,
    ⟨put (cuAt 5 5) [(CU.STAT.SPARE_FOR 5, 15)], 5, 7, by decide, by decide, by decide, by decide⟩,
    ⟨put (cuAt 5 5) [(CU.STAT.SPARE_FOR 5, 3)], 5, 7, by decide, by decide, by decide, by decide⟩,
    ⟨{ put (cuAt 5 5) [(CU.STAT.SPARE_FOR 5, 15)] with fab := { cu := [(5, { lost := [7] })] } }, 5, 7, by decide, by decide, by decide, by decide, by decide, by decide⟩,
    ⟨{ put (cuAt 5 5) [(CU.STAT.SPARE_FOR 5, 3)] with fab := { cu := [(5, { lost := [7] })] } }, 5, 7, by decide, by decide, by decide, by decide, by decide⟩,
    ⟨{ State.reset with fab := { stopAt := some 5 } }, 0, 5, by decide⟩⟩

theorem wit_slotsSent :
  (∃ (s : State) (n : Nat), s.fabUp = true ∧ s.now ≤ slotStart n ∧ Tbl.look s.book.plans n = none) ∧
  (∃ (s : State) (l n : Nat) (e : Entry), l < 16 ∧ let bad := s.faultFor n || s.pbOff || s.portOff l || s.sourceLost l e.peer; let reason := if bad then 5 else if s.staleFor n then 3 else if s.rcCovers n then 4 else if s.on GAUGE.STATUS.OPT_OK = false then 1 else 2; bad = true) ∧
  (∃ (s : State) (l n : Nat) (e : Entry), l < 16 ∧ let bad := s.faultFor n || s.pbOff || s.portOff l || s.sourceLost l e.peer; let reason := if bad then 5 else if s.staleFor n then 3 else if s.rcCovers n then 4 else if s.on GAUGE.STATUS.OPT_OK = false then 1 else 2; s.staleFor n = true) ∧
  (∃ (s : State) (l n : Nat) (e : Entry), l < 16 ∧ let bad := s.faultFor n || s.pbOff || s.portOff l || s.sourceLost l e.peer; let reason := if bad then 5 else if s.staleFor n then 3 else if s.rcCovers n then 4 else if s.on GAUGE.STATUS.OPT_OK = false then 1 else 2; s.rcCovers n = true) ∧
  (∃ (s : State) (l n : Nat) (e : Entry), l < 16 ∧ let bad := s.faultFor n || s.pbOff || s.portOff l || s.sourceLost l e.peer; let reason := if bad then 5 else if s.staleFor n then 3 else if s.rcCovers n then 4 else if s.on GAUGE.STATUS.OPT_OK = false then 1 else 2; s.on GAUGE.STATUS.OPT_OK = false) ∧
  (∃ (s : State) (l n : Nat) (e : Entry), l < 16 ∧ let bad := s.faultFor n || s.pbOff || s.portOff l || s.sourceLost l e.peer; let reason := if bad then 5 else if s.staleFor n then 3 else if s.rcCovers n then 4 else if s.on GAUGE.STATUS.OPT_OK = false then 1 else 2; s.serving l e.peer = none) ∧
  (∃ (s : State) (l n : Nat) (e : Entry), l < 16 ∧ let bad := s.faultFor n || s.pbOff || s.portOff l || s.sourceLost l e.peer; let reason := if bad then 5 else if s.staleFor n then 3 else if s.rcCovers n then 4 else if s.on GAUGE.STATUS.OPT_OK = false then 1 else 2; ∃ r k, bad = false ∧ s.staleFor n = false ∧ s.rcCovers n = false ∧ s.on GAUGE.STATUS.OPT_OK = true ∧ s.serving l e.peer = some (r, k)) ∧
  (∃ (s : State) (l n q r k : Nat), ∃ p u, s.inTime q n = (some p, u) ∧ p.len ≤ slotCap l) ∧
  (∃ (s : State) (l n q r k : Nat), s.queue q = []) ∧
  (∃ (s : State) (l n q r k : Nat), ∃ p w, s.queue q = p :: w ∧ p.time + Config.ns 2 ≤ cutoffOf n) ∧
  (∃ (s : State) (l n q r k : Nat), ∃ p w, s.queue q = p :: w ∧ cutoffOf n < p.time) ∧
  (∃ (s : State) (n : Nat) (res : List (Nat × Int)), s.fabUp = true ∧ s.now < slotStart (n + 1)) ∧
  (∃ (s : State) (n l q r k : Nat) (res : Int) (p : Payload), l < 16 ∧ (s.plan n).cut.contains l = false ∧ (s.plan n).txOf l = .send q r k p) ∧
  (∃ (s : State) (n : Nat), s.mainUp = true ∧ Tbl.look s.book.plans n = none) ∧
  (∃ (s : State) (n l q r k b len at_ : Nat) (x : Plan), s.mainUp = true ∧ Tbl.look s.book.plans n = some x ∧ x.tx = [(l, .send q r k (.buffer b len at_))]) :=
  ⟨⟨fab, 0, by decide, by decide, by decide⟩,
    ⟨put fab [(OPE.CTRL.PORT_EN 3, 7)], 15, 0, ⟨0, 0, 0, 0, 0, 1, 0, 0⟩, by decide, by decide⟩,
    ⟨{ fab with book := { missed := some 5 } }, 0, 5, ⟨0, 0, 0, 0, 0, 1, 0, 0⟩, by decide, by decide⟩,
    ⟨put fab [(CAL.RCB_STAT.STATE, rcCommitted)], 0, 5, ⟨0, 0, 0, 0, 0, 1, 0, 0⟩, by decide, by decide⟩,
    ⟨put fab [(GAUGE.STATUS.OPT_OK, 0)], 0, 0, ⟨0, 0, 0, 0, 0, 1, 0, 0⟩, by decide, by decide⟩,
    ⟨fab, 0, 0, ⟨0, 0, 0, 0, 0, 1, 0, 0⟩, by decide, by decide⟩,
    ⟨put fab [((wardField 0 0).1, 1), (JIG.L_STAT.STATE 0, rgLocked), (JIG.L_STAT.TGT_VALID 0, 1)], 0, 0, ⟨0, 0, 0, 0, 0, 1, 0, 0⟩, by decide, 0, 0, by decide, by decide, by decide, by decide, by decide⟩,
    ⟨{ fab with book := { queues := [(63, [.buffer 7 2848 0])] } }, 0, 5, 63, 0, 0, _, _, rfl, by decide⟩,
    ⟨fab, 0, 0, 63, 0, 0, by decide⟩,
    ⟨{ fab with book := { queues := [(63, [.buffer 7 2848 0])] } }, 0, 5, 63, 0, 0, _, _, rfl, by decide⟩,
    ⟨{ fab with book := { queues := [(63, [.buffer 7 2848 1])] } }, 0, 0, 63, 0, 0, _, _, rfl, by decide⟩,
    ⟨fab, 0, [], by decide, by decide⟩,
    ⟨{ fab with book := { plans := [(5, { tx := [(15, .send 63 9 3 (.buffer 7 2848 0))] })] } }, 5, 15, 63, 9, 3, 0, .buffer 7 2848 0, by decide, by decide, by decide⟩,
    ⟨fab, 5, by decide, by decide⟩,
    ⟨{ fab with book := { plans := [(5, { tx := [(15, .send 63 9 3 (.buffer 7 2848 0))] })] } }, 5, 15, 63, 9, 3, 7, 2848, 0, _, by decide, rfl, by decide⟩⟩

theorem wit_slotsReceived :
  (∃ (s : State) (l : Fin 22) (n : Nat), s.fabUp = true ∧ (s.plan n).closed.contains l.val = false ∧ s.incoming n l = none ∧ ∃ (ph : BitVec 6) (g : BitVec 4) (f : Nat), l.val < 16 ∧ ((s.plan n).rxOf l).live = true ∧ s.flight l ((s.plan n).rxOf l).peer = some f) ∧
  (∃ (s : State) (l : Fin 22) (n : Nat), s.fabUp = true ∧ (s.plan n).closed.contains l.val = false ∧ s.incoming n l = none ∧ ∃ (ph : BitVec 6) (g : BitVec 4), l.val < 16 ∧ (s.plan n).rxOf l = .none) ∧
  (∃ (s : State) (l : Fin 22) (n : Nat), s.fabUp = true ∧ (s.plan n).closed.contains l.val = false ∧ s.incoming n l = none ∧ l.val < 16 ∧ (s.plan n).rxOf l = .quiet) ∧
  (∃ (s : State) (l : Fin 22) (n : Nat), s.fabUp = true ∧ (s.plan n).closed.contains l.val = false ∧ s.incoming n l = none ∧ ∃ (h : BitVec 2) (bs : List LaneBlock), 16 ≤ l.val ∧ s.cuUp (l.val - 16) = true ∧ ((s.plan n).rxOf l).live = true) ∧
  (∃ (s : State) (l : Fin 22) (n : Nat), s.fabUp = true ∧ (s.plan n).closed.contains l.val = false ∧ s.incoming n l = none ∧ 16 ≤ l.val ∧ s.cuUp (l.val - 16) = false) ∧
  (∃ (s : State) (p : Fin 16) (j : Fin 32), s.fabUp = true ∧ 4 ≤ (s.pair p j).fails ∧ s.on (OPE.P_PC.VALID p j) = true) ∧
  (∃ (s : State) (l : Fin 22) (n : Nat) (x : Incoming) (d : Int) (f : FifoFault) (ups : List Upset) (bytes : List Byte) (sy bi : Nat), s.fabUp = true ∧ s.incoming n l = some x ∧ x.next = 0 ∧ let u := fun w => (s.advance (s.decodeTime n l 0 x)).wordStats l 0 x.act.peer w; let w : Codeword := .good bytes sy bi; let good := (u w).headerGood n l { x with next := 1 } (Header.ofBytes bytes) d; let bad := (u .bad).headerBad n l { x with next := 1 }; ∃ y, headerOk bytes = true ∧ good.incoming n l = some y) ∧
  (∃ (s : State) (l : Fin 22) (n : Nat) (x : Incoming) (d : Int) (f : FifoFault) (ups : List Upset) (bytes : List Byte) (sy bi : Nat), s.fabUp = true ∧ s.incoming n l = some x ∧ x.next = 0 ∧ let u := fun w => (s.advance (s.decodeTime n l 0 x)).wordStats l 0 x.act.peer w; let w : Codeword := .good bytes sy bi; let good := (u w).headerGood n l { x with next := 1 } (Header.ofBytes bytes) d; let bad := (u .bad).headerBad n l { x with next := 1 }; ∃ y, bad.incoming n l = some y) ∧
  (∃ (s : State) (n l : Nat) (x : Incoming) (h : Header) (d : Int), h.ver ≠ 1) ∧
  (∃ (s : State) (n l : Nat) (x : Incoming) (h : Header) (d : Int), slotCap l < h.len) ∧
  (∃ (s : State) (n l : Nat) (x : Incoming) (h : Header) (d : Int), h.slot ≠ n) ∧
  (∃ (s : State) (l r : Nat) (x : Incoming) (h : Header), s.ringHeld r = false ∧ r < 64 ∧ 0 < s.rd (MEM.RING_CFG.ENTRIES r) ∧ h.len ≤ s.rd (MEM.RING_CFG.SLOT64 r) * 64 ∧ let q := s.takeHeader l r x h; Tbl.look (s.ring r).entries (s.ring r).pos ≠ none) ∧
  (∃ (s : State) (l r : Nat) (x : Incoming) (h : Header), s.rd (MEM.RING_CFG.ENTRIES r) = 0) ∧
  (∃ (s : State) (l : Fin 22) (n i : Nat) (x : Incoming) (w : Codeword) (f : FifoFault) (ups : List Upset), s.fabUp = true ∧ s.incoming n l = some x ∧ 0 < i ∧ x.next = i) ∧
  (∃ (s : State) (l : Fin 22) (n q j k : Nat) (x : Incoming) (r : List Nat), s.fabUp = true ∧ s.incoming n l = some x ∧ x.act = .relay q j ∧ x.pocket = k :: r ∧ x.ended = false ∧ lastWord l < x.next) :=
  ⟨⟨{ fab with book := { plans := [(5, { rx := [(15, .take 63 3)] })] }, fab := { cut := { flight := [(96, 7)] } } }, 15, 5, by decide, by decide, by decide, 0, 0, 7, by decide, by decide, by decide⟩,
    ⟨fab, 0, 5, by decide, by decide, by decide, 0, 0, by decide, by decide⟩,
    ⟨{ fab with book := { plans := [(5, { rx := [(15, .quiet)] })] } }, 15, 5, by decide, by decide, by decide, by decide, by decide⟩,
    ⟨{ put fab [(CU.STAT.STATE 5, 5)] with book := { plans := [(5, { rx := [(21, .take 63 3)] })] } }, 21, 5, by decide, by decide, by decide, 0, [], by decide, by decide, by decide⟩,
    ⟨fab, 21, 5, by decide, by decide, by decide, by decide, by decide⟩,
    ⟨{ put fab [(OPE.P_PC.VALID 15 31, 1)] with fab := { pairs := [(32 * 15 + 31, { fails := 4 })] } }, 15, 31, by decide, by decide, by decide⟩,
    ⟨{ fab with book := { rx := [(rxKey 5 16, { act := .transit 17 })] } }, 16, 5, _, 0, {}, [], ({ slot := 5, qvalid := true } : Header).toBytes, 0, 0, by decide, rfl, by decide, _, by decide, rfl⟩,
    ⟨{ fab with book := { rx := [(rxKey 5 16, { act := .take 0 0 })] } }, 16, 5, _, 0, {}, [], [], 0, 0, by decide, rfl, by decide, _, rfl⟩,
    ⟨fab, 5, 16, { act := .take 0 0 }, { ver := 2 }, 0, by decide⟩,
    ⟨fab, 5, 15, { act := .take 0 0 }, { len := 2849 }, 0, by decide⟩,
    ⟨fab, 5, 16, { act := .take 0 0 }, { slot := 4 }, 0, by decide⟩,
    ⟨{ st [(MEM.RING_CFG.ENTRIES 63, 1), (MEM.RING_CFG.SLOT64 63, 1)] with comp := { rings := [(63, { entries := [(0, ⟨.written, 1⟩)] })] } }, 0, 63, { act := .take 63 0 }, { len := 64 }, by decide, by decide, by decide, by decide, by decide⟩,
    ⟨State.reset, 0, 63, { act := .take 63 0 }, {}, by decide⟩,
    ⟨{ fab with book := { rx := [(rxKey 5 16, { act := .take 0 0, next := 79 })] } }, 16, 5, 79, _, .bad, {}, [], by decide, rfl, by decide, by decide⟩,
    ⟨{ fab with book := { rx := [(rxKey 5 16, { act := .relay 63 0, pocket := [63], next := 80 })] } }, 16, 5, 63, 0, 63, _, [], by decide, rfl, by decide, by decide, by decide, by decide⟩⟩

theorem wit_tableLeaf :
  (∃ (s : State) (v : BitVec 32), s.csrSound ∧ s.tblState ≠ tbCommitted ∧ s.on PB.STATUS.LOAD_BUSY = false) ∧
  (∃ (s : State) (v : BitVec 32), s.csrSound ∧ s.tblState ≠ tbCommitted ∧ s.on PB.STATUS.LOAD_BUSY = true) ∧
  (∃ (s : State) (v : BitVec 32), s.csrSound ∧ s.tblState = tbCommitted) ∧
  (∃ (s : State) (v : BitVec 32), s.csrSound ∧ s.tblState ≠ tbCommitted ∧ 0 < bitsOf v.toNat 0 17 ∧ bitsOf v.toNat 0 17 ≤ 65536) ∧
  (∃ (s : State) (v : BitVec 32), s.csrSound ∧ s.tblState ≠ tbCommitted ∧ bitsOf v.toNat 0 17 = 0) ∧
  (∃ (s : State) (v : BitVec 32), s.csrSound ∧ s.tblState ≠ tbCommitted ∧ 65536 < bitsOf v.toNat 0 17) ∧
  (∃ (s : State) (v : BitVec 32), s.csrSound ∧ s.tblState ≠ tbCommitted ∧ ∃ r f, (r, f) ∈ [(LeafReg.maint, PB.TBL_MAINT.OFF), (LeafReg.alignLo, PB.TBL_ALIGN_LO.ALIGN), (LeafReg.alignHi, PB.TBL_ALIGN_HI.ALIGN)]) ∧
  (∃ (s : State), let i := s.rd PB.TBL_INDEX.INDEX; let n := s.rd PB.LOAD_CNT.COUNT; let a := s.rd PB.LOAD_ADDR_LO.ADDR + 2 ^ 32 * s.rd PB.LOAD_ADDR_HI.ADDR; s.tblState ≠ tbCommitted ∧ s.on PB.STATUS.LOAD_BUSY = true) ∧
  (∃ (s : State), let i := s.rd PB.TBL_INDEX.INDEX; let n := s.rd PB.LOAD_CNT.COUNT; let a := s.rd PB.LOAD_ADDR_LO.ADDR + 2 ^ 32 * s.rd PB.LOAD_ADDR_HI.ADDR; s.tblState ≠ tbCommitted ∧ 2048 < i + n) ∧
  (∃ (s : State), let i := s.rd PB.TBL_INDEX.INDEX; let n := s.rd PB.LOAD_CNT.COUNT; let a := s.rd PB.LOAD_ADDR_LO.ADDR + 2 ^ 32 * s.rd PB.LOAD_ADDR_HI.ADDR; s.tblState ≠ tbCommitted ∧ a % 64 ≠ 0) ∧
  (∃ (s : State), let i := s.rd PB.TBL_INDEX.INDEX; let n := s.rd PB.LOAD_CNT.COUNT; let a := s.rd PB.LOAD_ADDR_LO.ADDR + 2 ^ 32 * s.rd PB.LOAD_ADDR_HI.ADDR; s.tblState ≠ tbCommitted ∧ s.on PB.STATUS.LOAD_BUSY = false ∧ i + n ≤ 2048 ∧ a % 64 = 0 ∧ 0 < n ∧ s.inRegion a (8 * n) = true ∧ s.region a = .lpddr) ∧
  (∃ (s : State) (x : LeafLoad) (ups : List Upset), s.book.load = some x ∧ s.region x.addr = .lpddr ∧ s.heldLines false x.addr (8 * x.left) = []) ∧
  (∃ (s : State) (x : LeafLoad) (ups : List Upset), s.book.load = some x ∧ ∃ c, s.region x.addr = .companion c ∧ s.linkServes = false) ∧
  (∃ (s u : State) (ups : List Upset) (i a n : Nat), s.devRead .ftdEngine a 8 ups = (u, none)) ∧
  (∃ (s u : State) (ups : List Upset) (i a n : Nat), ∃ l, s.devRead .ftdEngine a 8 ups = (u, some l) ∧ u.tblState ≠ tbCommitted) ∧
  (∃ (s : State), s.tblState = tbCommitted ∧ ∃ (i : Instr), i = .pbLoad) ∧
  (∃ (s : State), s.tblState = tbCommitted ∧ ∃ (i : Instr), i = .pbClear) ∧
  (∃ (s : State), s.tblState = tbCommitted ∧ ∃ (i : Instr), i = .pbCheck) ∧
  (∃ (s : State) (ups : List LeafUpset), s.tblState = tbChecking) ∧
  (∃ (s : State), s.book.table.loadFail = true) ∧
  (∃ (s : State), s.book.table.loadFail = false ∧ s.rd PB.TBL_CYCLE.LEN = 0) ∧
  (∃ (s : State), s.book.table.loadFail = false ∧ s.rd PB.TBL_CYCLE.LEN ≤ s.rd PB.TBL_MAINT.OFF) ∧
  (∃ (s : State) (x : LeafUpset), s.mainUp = true ∧ s.on PB.CTRL.SCRUB_EN = true ∧ x.index < 2048 ∧ Tbl.look (if x.worn then s.book.worn else s.book.table).bad x.index = none ∧ x.hard = false) ∧
  (∃ (s : State) (x : LeafUpset), s.mainUp = true ∧ s.on PB.CTRL.SCRUB_EN = true ∧ x.index < 2048 ∧ Tbl.look (if x.worn then s.book.worn else s.book.table).bad x.index = none ∧ x.hard = true ∧ x.worn = false) :=
  ⟨⟨leafAt tbReady, 0, And.intro (by decide) (by decide), by decide, by decide⟩,
    ⟨put (leafAt tbLoading) [(PB.STATUS.LOAD_BUSY, 1)], 0, And.intro (by decide) (by decide), by decide, by decide⟩,
    ⟨leafAt tbCommitted, 0, And.intro (by decide) (by decide), by decide⟩,
    ⟨leafAt tbReady, 65536, And.intro (by decide) (by decide), by decide, by decide, by decide⟩,
    ⟨leafAt tbReady, 0, And.intro (by decide) (by decide), by decide, by decide⟩,
    ⟨leafAt tbReady, 65537, And.intro (by decide) (by decide), by decide, by decide⟩,
    ⟨leafAt tbReady, 1, And.intro (by decide) (by decide), by decide, .maint, PB.TBL_MAINT.OFF, by decide⟩,
    ⟨put (leafAt tbLoading) [(PB.STATUS.LOAD_BUSY, 1)], by decide, by decide⟩,
    ⟨put (leafAt tbReady) [(PB.TBL_INDEX.INDEX, 2047), (PB.LOAD_CNT.COUNT, 2)], by decide, by decide⟩,
    ⟨put (leafAt tbReady) [(PB.LOAD_CNT.COUNT, 2), (PB.LOAD_ADDR_LO.ADDR, 32)], by decide, by decide⟩,
    ⟨put (leafAt tbReady) [(PB.TBL_INDEX.INDEX, 2047), (PB.LOAD_CNT.COUNT, 1)], by decide, by decide, by decide, by decide, by decide, by decide, by decide⟩,
    ⟨{ leafAt tbLoading with book := { load := some ⟨0, 1, 64⟩ } }, ⟨0, 1, 64⟩, [], by decide, by decide, by decide⟩,
    ⟨{ leafAt tbLoading with book := { load := some ⟨0, 1, 0x800000000000⟩ } }, ⟨0, 1, 0x800000000000⟩, [], by decide, 0, by decide, by decide⟩,
    ⟨{ State.reset with comp := { lpddr := { bad := [(0, 1)] } } }, _, [], 0, 0, 1, rfl⟩,
    ⟨State.reset, _, [], 0, 0, 1, _, rfl, by decide⟩,
    ⟨leafAt tbCommitted, by decide, Instr.pbLoad, rfl⟩,
    ⟨leafAt tbCommitted, by decide, Instr.pbClear, rfl⟩,
    ⟨leafAt tbCommitted, by decide, Instr.pbCheck, rfl⟩,
    ⟨leafAt tbChecking, [], by decide⟩,
    ⟨{ State.reset with book := { table := { loadFail := true } } }, by decide⟩,
    ⟨State.reset, by decide, by decide⟩,
    ⟨st [(PB.TBL_CYCLE.LEN, 5), (PB.TBL_MAINT.OFF, 5)], by decide, by decide⟩,
    ⟨put running [(PB.CTRL.SCRUB_EN, 1)], ⟨false, 5, false⟩, by decide, by decide, by decide, by decide, by decide⟩,
    ⟨put running [(PB.CTRL.SCRUB_EN, 1)], ⟨false, 2047, true⟩, by decide, by decide, by decide, by decide, by decide, by decide⟩⟩

theorem wit_leaves :
  (∃ (len align n k : Nat), 0 < len ∧ align ≤ n ∧ n = align + k) ∧
  (∃ (len align n : Nat), 0 < len) ∧
  (∃ (e : Entry) (len c : Nat), 0 < e.run ∧ 1 ≤ e.times ∧ e.times = 1) ∧
  (∃ (e : Entry) (len c : Nat), 0 < e.run ∧ 1 ≤ e.times ∧ e.run ≤ e.stride) ∧
  (∃ (e : Entry) (len c : Nat), 0 < e.run ∧ e.times = 0 ∧ e.run ≤ e.stride) ∧
  (∃ (e : Entry) (len c : Nat), e.run = 0) ∧
  (∃ (s : State), let n := s.swSlot; let refused := s.swState = swCommitted ∨ boundary (s.rd PB.TBL_CYCLE.LEN) s.tblAlign n = false ∨ (s.on PB.STATUS.WORN_VALID = true ∧ boundary (s.rd PB.WORN_CYCLE.LEN) (s.rd PB.WORN_ALIGN.ALIGN) n = false); refused) ∧
  (∃ (s : State), let n := s.swSlot; let refused := s.swState = swCommitted ∨ boundary (s.rd PB.TBL_CYCLE.LEN) s.tblAlign n = false ∨ (s.on PB.STATUS.WORN_VALID = true ∧ boundary (s.rd PB.WORN_CYCLE.LEN) (s.rd PB.WORN_ALIGN.ALIGN) n = false); ¬ refused ∧ s.now + slotStart 4096 ≤ slotStart n) ∧
  (∃ (s : State), let n := s.swSlot; let refused := s.swState = swCommitted ∨ boundary (s.rd PB.TBL_CYCLE.LEN) s.tblAlign n = false ∨ (s.on PB.STATUS.WORN_VALID = true ∧ boundary (s.rd PB.WORN_CYCLE.LEN) (s.rd PB.WORN_ALIGN.ALIGN) n = false); ¬ refused ∧ s.now < slotStart n ∧ slotStart n < s.now + slotStart 4096) ∧
  (∃ (s : State), s.swState = swCommitted) ∧
  (∃ (s : State), s.swState = swArmed) ∧
  (∃ (s : State), s.swState = swMissed) ∧
  (∃ (s : State) (n : Nat), s.fabUp = true ∧ s.swState = swArmed ∧ s.book.swAt = n ∧ s.rcState ≠ rcArmed ∧ s.tblState = tbReady) ∧
  (∃ (s : State) (n : Nat), s.fabUp = true ∧ s.swState = swArmed ∧ s.book.swAt = n ∧ s.rcState ≠ rcArmed ∧ s.tblState ≠ tbReady) ∧
  (∃ (s : State) (n : Nat), s.fabUp = true ∧ s.swState ≠ swArmed ∧ s.rcState = rcArmed ∧ s.rd CAL.RCB_SLOT.R = n) ∧
  (∃ (s : State) (n : Nat), s.fabUp = true ∧ s.swState = swCommitted ∧ s.book.swAt = n) :=
  ⟨⟨80, 5, 85, 80, by decide, by decide, by decide⟩,
    ⟨80, 5, 4, by decide⟩,
    ⟨⟨0, 0, 0, 0, 3, 2, 0, 1⟩, 80, 4, by decide, by decide, by decide⟩,
    ⟨⟨0, 0, 0, 0, 3, 2, 5, 3⟩, 80, 14, by decide, by decide, by decide⟩,
    ⟨⟨0, 0, 0, 0, 3, 2, 5, 0⟩, 80, 4, by decide, by decide, by decide⟩,
    ⟨⟨0, 0, 0, 0, 3, 0, 5, 0⟩, 80, 4, by decide⟩,
    ⟨running, by decide⟩,
    ⟨put running [(PB.SWITCH_LO.SLOT, 4096), (PB.TBL_CYCLE.LEN, 1)], by decide, by decide⟩,
    ⟨put running [(PB.SWITCH_LO.SLOT, 4095), (PB.TBL_CYCLE.LEN, 1)], by decide, by decide, by decide⟩,
    ⟨put running [(PB.STATUS.SW_STATE, swCommitted)], by decide⟩,
    ⟨put running [(PB.STATUS.SW_STATE, swArmed)], by decide⟩,
    ⟨put running [(PB.STATUS.SW_STATE, swMissed)], by decide⟩,
    ⟨{ put (leafAt tbReady) [(PB.STATUS.SW_STATE, swArmed)] with book := { swAt := 5 } }, 5, by decide, by decide, by decide, by decide, by decide⟩,
    ⟨{ put running [(PB.STATUS.SW_STATE, swArmed)] with book := { swAt := 5 } }, 5, by decide, by decide, by decide, by decide, by decide⟩,
    ⟨put running [(CAL.RCB_STAT.STATE, rcArmed), (CAL.RCB_SLOT.R, 5)], 5, by decide, by decide, by decide, by decide⟩,
    ⟨{ put running [(PB.STATUS.SW_STATE, swCommitted)] with book := { swAt := 5 } }, 5, by decide, by decide, by decide⟩⟩

theorem wit_companionLines :
  (∃ (s : State) (tag : BitVec 12) (line : BitVec 42) (ups : List Upset) (own : Bool), s.serves line.toNat ∧ let i : Instr := if own then .rdO tag line ups else .rdS tag line ups; let r := (s.strikeLp (64 * line.toNat) 64 ups).lpRead .companion (64 * line.toNat) 64; s.inCohWin line.toNat = true ∧ Tbl.look s.ulk.snoops line.toNat = none ∧ Tbl.look s.ulk.dir line.toNat ≠ none ∧ ∃ l, r.2 = some l) ∧
  (∃ (s : State) (tag : BitVec 12) (line : BitVec 42) (ups : List Upset) (own : Bool), s.serves line.toNat ∧ let i : Instr := if own then .rdO tag line ups else .rdS tag line ups; let r := (s.strikeLp (64 * line.toNat) 64 ups).lpRead .companion (64 * line.toNat) 64; s.inCohWin line.toNat = true ∧ Tbl.look s.ulk.snoops line.toNat = none ∧ (s.dirSet line.toNat).length < 16 ∧ ∃ l, r.2 = some l) ∧
  (∃ (s : State) (tag : BitVec 12) (line : BitVec 42) (ups : List Upset) (own : Bool), s.serves line.toNat ∧ let i : Instr := if own then .rdO tag line ups else .rdS tag line ups; let r := (s.strikeLp (64 * line.toNat) 64 ups).lpRead .companion (64 * line.toNat) 64; s.inCohWin line.toNat = true ∧ Tbl.look s.ulk.snoops line.toNat = none ∧ Tbl.look s.ulk.dir line.toNat ≠ none ∧ r.2 = none) ∧
  (∃ (s : State) (tag : BitVec 12) (line : BitVec 42) (ups : List Upset) (own : Bool), s.serves line.toNat ∧ let i : Instr := if own then .rdO tag line ups else .rdS tag line ups; let r := (s.strikeLp (64 * line.toNat) 64 ups).lpRead .companion (64 * line.toNat) 64; s.inCohWin line.toNat = true ∧ (Tbl.look s.ulk.snoops line.toNat).isSome = true) ∧
  (∃ (s : State) (tag : BitVec 12) (line : BitVec 42) (ups : List Upset) (own : Bool), s.serves line.toNat ∧ let i : Instr := if own then .rdO tag line ups else .rdS tag line ups; let r := (s.strikeLp (64 * line.toNat) 64 ups).lpRead .companion (64 * line.toNat) 64; ∃ v, s.inCohWin line.toNat = true ∧ Tbl.look s.ulk.snoops line.toNat = none ∧ Tbl.look s.ulk.dir line.toNat = none ∧ 16 ≤ (s.dirSet line.toNat).length ∧ oldestWay (s.dirSet line.toNat) = some v) ∧
  (∃ (s : State) (tag : BitVec 12) (line : BitVec 42) (ups : List Upset) (own : Bool), s.serves line.toNat ∧ let i : Instr := if own then .rdO tag line ups else .rdS tag line ups; let r := (s.strikeLp (64 * line.toNat) 64 ups).lpRead .companion (64 * line.toNat) 64; s.inCohWin line.toNat = false) ∧
  (∃ (s : State) (tag : BitVec 12) (line : BitVec 42) (ups : List Upset) (mask : BitVec 64) (data : List Byte) (i : Instr), s.ulState = ulUp ∧ i = .rdS tag line ups ∧ s.recovering = false ∧ s.lpEnd < 64 * line.toNat + 64) ∧
  (∃ (s : State) (tag : BitVec 12) (line : BitVec 42) (ups : List Upset) (mask : BitVec 64) (data : List Byte) (i : Instr), s.ulState = ulUp ∧ i = .wrNc tag line mask data ups ∧ s.recovering = false ∧ s.lpEnd < 64 * line.toNat + 64) ∧
  (∃ (s : State) (tag : BitVec 12) (line : BitVec 42) (ups : List Upset) (mask : BitVec 64) (data : List Byte) (i : Instr), s.ulState = ulUp ∧ i = .rdS tag line ups ∧ s.recovering = true ∧ 0x2000000 ≤ 64 * line.toNat) ∧
  (∃ (s : State) (tag : BitVec 12) (line : BitVec 42) (ups : List Upset), s.serves line.toNat ∧ let r := (s.strikeLp (64 * line.toNat) 64 ups).lpRead .companion (64 * line.toNat) 64; ∃ l, r.2 = some l) ∧
  (∃ (s : State) (tag : BitVec 12) (line : BitVec 42) (ups : List Upset), s.ulState = ulUp ∧ s.recovering = true ∧ 64 * line.toNat < 0x2000000 ∧ let r := (s.strikeLp (64 * line.toNat) 64 ups).lpRead .companion (64 * line.toNat) 64; ∃ l, r.2 = some l) ∧
  (∃ (s : State) (tag : BitVec 12) (line : BitVec 42) (ups : List Upset), s.serves line.toNat ∧ let r := (s.strikeLp (64 * line.toNat) 64 ups).lpRead .companion (64 * line.toNat) 64; r.2 = none) ∧
  (∃ (s : State) (tag : BitVec 12) (line : BitVec 42), s.serves line.toNat) ∧
  (∃ (s : State) (tag : BitVec 12) (line : BitVec 42) (data : List Byte), s.serves line.toNat) ∧
  (∃ (s : State) (tag : BitVec 12) (line : BitVec 42) (mask : BitVec 64) (data : List Byte) (ups : List Upset), s.serves line.toNat ∧ let u := s.strikeLp (64 * line.toNat) 64 ups; mask.toNat = 2 ^ 64 - 1) ∧
  (∃ (s : State) (tag : BitVec 12) (line : BitVec 42) (mask : BitVec 64) (data : List Byte) (ups : List Upset), s.serves line.toNat ∧ let u := s.strikeLp (64 * line.toNat) 64 ups; u.comp.lpddr.isBad line.toNat = false) ∧
  (∃ (s : State) (tag : BitVec 12) (line : BitVec 42) (mask : BitVec 64) (data : List Byte) (ups : List Upset), s.ulState = ulUp ∧ s.recovering = true ∧ 64 * line.toNat < 0x2000000 ∧ let u := s.strikeLp (64 * line.toNat) 64 ups; u.comp.lpddr.isBad line.toNat = false) ∧
  (∃ (s : State) (tag : BitVec 12) (line : BitVec 42) (mask : BitVec 64) (data : List Byte) (ups : List Upset), s.serves line.toNat ∧ let u := s.strikeLp (64 * line.toNat) 64 ups; mask.toNat ≠ 2 ^ 64 - 1 ∧ u.comp.lpddr.isBad line.toNat = true) :=
  ⟨⟨coh [(5, ⟨false, 0⟩)] [] [], 9, 5, [], true, And.intro (by decide) (And.intro (by decide) (by decide)), by decide, by decide, by decide, _, rfl⟩,
    ⟨coh [] [] [], 9, 5, [], false, And.intro (by decide) (And.intro (by decide) (by decide)), by decide, by decide, by decide, _, rfl⟩,
    ⟨coh [(5, ⟨false, 0⟩)] [] [(5, 1)], 9, 5, [], true, And.intro (by decide) (And.intro (by decide) (by decide)), by decide, by decide, by decide, by decide⟩,
    ⟨coh [] [(5, ⟨true, 0, 0, [], false⟩)] [], 9, 5, [], true, And.intro (by decide) (And.intro (by decide) (by decide)), by decide, by decide⟩,
    ⟨coh ((List.range 16).map fun i => (5 + 65536 * (i + 1), ⟨false, i⟩)) [] [], 9, 5, [], true, And.intro (by decide) (And.intro (by decide) (by decide)), (65541, ⟨false, 0⟩), by decide, by decide, by decide, by decide, by decide⟩,
    ⟨ul ulUp, 9, 5, [], false, And.intro (by decide) (And.intro (by decide) (by decide)), by decide⟩,
    ⟨ul ulUp, 9, 0x3E0000000, [], 0, [], _, by decide, rfl, by decide, by decide⟩,
    ⟨ul ulUp, 9, 0x3E0000000, [], 0, [], _, by decide, rfl, by decide, by decide⟩,
    ⟨ulRec, 9, 0x80000, [], 0, [], _, by decide, rfl, by decide, by decide⟩,
    ⟨ul ulUp, 9, 5, [], And.intro (by decide) (And.intro (by decide) (by decide)), _, rfl⟩,
    ⟨ulRec, 9, 0x7FFFF, [], by decide, by decide, by decide, _, rfl⟩,
    ⟨coh [] [] [(5, 1)], 9, 5, [], And.intro (by decide) (And.intro (by decide) (by decide)), by decide⟩,
    ⟨ul ulUp, 9, 5, And.intro (by decide) (And.intro (by decide) (by decide))⟩,
    ⟨ul ulUp, 9, 5, [], And.intro (by decide) (And.intro (by decide) (by decide))⟩,
    ⟨ul ulUp, 9, 5, 0xFFFFFFFFFFFFFFFF, [], [], And.intro (by decide) (And.intro (by decide) (by decide)), by decide⟩,
    ⟨ul ulUp, 9, 5, 1, [], [], And.intro (by decide) (And.intro (by decide) (by decide)), by decide⟩,
    ⟨ulRec, 9, 0x7FFFF, 1, [], [], by decide, by decide, by decide, by decide⟩,
    ⟨coh [] [] [(5, 1)], 9, 5, 0x7FFFFFFFFFFFFFFF, [], [], And.intro (by decide) (And.intro (by decide) (by decide)), by decide, by decide⟩⟩

theorem wit_companionAnswers :
  (∃ (s u : State) (tag : BitVec 12) (off : BitVec 26) (size : BitVec 2) (v : BitVec 64), s.ulState = ulUp ∧ s.recovering = true) ∧
  (∃ (s u : State) (tag : BitVec 12) (off : BitVec 26) (size : BitVec 2) (v : BitVec 64), s.ulState = ulUp ∧ s.recovering = false ∧ s.csrWrite .link off.toNat (2 ^ size.toNat) v.toNat = (u, none) ∧ u.ulState = ulUp) ∧
  (∃ (s u : State) (tag : BitVec 12) (off : BitVec 26) (size : BitVec 2) (v : BitVec 64), s.ulState = ulUp ∧ ∃ e, s.recovering = false ∧ s.csrWrite .link off.toNat (2 ^ size.toNat) v.toNat = (u, some e)) ∧
  (∃ (s u : State) (tag : BitVec 12) (off : BitVec 26) (size : BitVec 2) (ups : List RegUpset), s.ulState = ulUp ∧ s.recovering = false ∧ ∃ v, (ups.foldl State.upsetReg s).csrRead .link off.toNat (2 ^ size.toNat) = (u, .ok v) ∧ u.ulState = ulUp) ∧
  (∃ (s u : State) (tag : BitVec 12) (off : BitVec 26) (size : BitVec 2) (ups : List RegUpset), s.ulState = ulUp ∧ s.recovering = false ∧ ∃ e, (ups.foldl State.upsetReg s).csrRead .link off.toNat (2 ^ size.toNat) = (u, .error e)) ∧
  (∃ (s : State) (tag : BitVec 12) (r : PReq), s.ulState = ulUp ∧ Tbl.look s.ulk.reqs tag.toNat = some r ∧ let v : State := { s with ulk := { s.ulk with reqs := Tbl.del s.ulk.reqs tag.toNat } }; r.write = false) ∧
  (∃ (s : State) (tag : BitVec 12) (r : PReq), s.ulState = ulUp ∧ Tbl.look s.ulk.reqs tag.toNat = some r ∧ let v : State := { s with ulk := { s.ulk with reqs := Tbl.del s.ulk.reqs tag.toNat } }; r.write = true) ∧
  (∃ (s : State) (tag : BitVec 12), s.ulState ≠ ulUp) ∧
  (∃ (s : State) (tag : BitVec 12), Tbl.look s.ulk.reqs tag.toNat = none) ∧
  (∃ (s : State) (tag : BitVec 12) (line : Nat) (x : Snoop) (e : DirEntry) (d : List Byte) (ups : List Upset), s.ulState = ulUp ∧ ((s.ulk.snoops.find? fun r => r.2.tag == tag.toNat) = some (line, x)) ∧ x.taken = false ∧ Tbl.look s.ulk.dir line = some e) ∧
  (∃ (s : State) (line : Nat) (ups : List Upset) (x : Snoop), Tbl.look s.ulk.snoops line = some x ∧ x.grants = [] ∧ s.ulk.deferred = [] ∧ s.move mvRestore = none) ∧
  (∃ (s : State) (line : BitVec 42) (ups : List Upset) (t : Nat) (x : Snoop), Tbl.look s.ulk.snoops line.toNat = some x ∧ let v := s.advance t; v.now < x.since + Config.ns (1000 * s.rd ULK.SNP_CFG.TIMEOUT)) ∧
  (∃ (s : State) (line : BitVec 42) (ups : List Upset) (t : Nat) (x : Snoop), Tbl.look s.ulk.snoops line.toNat = some x ∧ let v := s.advance t; x.since + Config.ns (1000 * s.rd ULK.SNP_CFG.TIMEOUT) ≤ v.now) ∧
  (∃ (s : State) (b n : BitVec 16), s.csrSound ∧ n.toNat ≠ 0 ∧ s.lpEnd < (b.toNat + n.toNat) * 2 ^ 30) ∧
  (∃ (s : State) (b n : BitVec 16), s.csrSound ∧ n.toNat = 0) ∧
  (∃ (s : State) (b n : BitVec 16), s.csrSound ∧ (b.toNat + n.toNat) * 2 ^ 30 ≤ s.lpEnd) :=
  ⟨⟨ulRec, State.reset, 9, 0, 2, 0, by decide, by decide⟩,
    ⟨ul ulUp, _, 9, 0xb00014, 2, 0, by decide, by decide, rfl, by decide⟩,
    ⟨ul ulUp, _, 9, 2, 2, 0, by decide, _, by decide, rfl⟩,
    ⟨ul ulUp, _, 9, 0xb00014, 2, [], by decide, by decide, _, rfl, by decide⟩,
    ⟨ul ulUp, _, 9, 2, 2, [], by decide, by decide, _, rfl⟩,
    ⟨{ ul ulUp with ulk := { reqs := [(9, ⟨false, 64, 64, .posted, []⟩)] } }, 9, ⟨false, 64, 64, .posted, []⟩, by decide, by decide, by decide⟩,
    ⟨{ ul ulUp with ulk := { reqs := [(9, ⟨true, 64, 64, .posted, []⟩)] } }, 9, ⟨true, 64, 64, .posted, []⟩, by decide, by decide, by decide⟩,
    ⟨State.reset, 9, by decide⟩,
    ⟨ul ulUp, 9, by decide⟩,
    ⟨coh [(5, ⟨true, 0⟩)] [(5, ⟨true, 9, 0, [], false⟩)] [], 9, 5, ⟨true, 9, 0, [], false⟩, ⟨true, 0⟩, [], [], by decide, by decide, by decide, by decide⟩,
    ⟨coh [] [(5, ⟨true, 9, 0, [], false⟩)] [], 5, [], ⟨true, 9, 0, [], false⟩, by decide, by decide, by decide, by decide⟩,
    ⟨coh [] [(5, ⟨true, 9, 0, [], false⟩)] [], 5, [], 0, ⟨true, 9, 0, [], false⟩, by decide, by decide⟩,
    ⟨coh [] [(5, ⟨true, 9, 0, [], false⟩)] [], 5, [], 100000000000, ⟨true, 9, 0, [], false⟩, by decide, by decide⟩,
    ⟨State.reset, 0, 993, And.intro (by decide) (by decide), by decide, by decide⟩,
    ⟨State.reset, 5, 0, And.intro (by decide) (by decide), by decide⟩,
    ⟨State.reset, 0, 992, And.intro (by decide) (by decide), by decide⟩⟩

theorem wit_urdalLink :
  (∃ (s : State) (b : List Byte) (d : Bool), s.ulState = ulUp ∧ let l := padTo 256 b; let seq := bytesAt l 0 2 % 4096; let sound := bytesAt l 252 4 = crc32c (l.take 252); let v : State := { s with ulk := s.ulk.take l }; ¬ sound) ∧
  (∃ (s : State) (b : List Byte) (d : Bool), s.ulState = ulUp ∧ let l := padTo 256 b; let seq := bytesAt l 0 2 % 4096; let sound := bytesAt l 252 4 = crc32c (l.take 252); let v : State := { s with ulk := s.ulk.take l }; sound ∧ bytesAt l 0 2 / 4096 = 0 ∧ d = true ∧ seq = (s.ulk.rxSeq + 1) % 4096) ∧
  (∃ (s : State) (b : List Byte) (d : Bool), s.ulState = ulUp ∧ let l := padTo 256 b; let seq := bytesAt l 0 2 % 4096; let sound := bytesAt l 252 4 = crc32c (l.take 252); let v : State := { s with ulk := s.ulk.take l }; sound ∧ bytesAt l 0 2 / 4096 = 0 ∧ d = false) ∧
  (∃ (s : State) (b : List Byte) (d : Bool), s.ulState = ulUp ∧ let l := padTo 256 b; let seq := bytesAt l 0 2 % 4096; let sound := bytesAt l 252 4 = crc32c (l.take 252); let v : State := { s with ulk := s.ulk.take l }; sound ∧ bytesAt l 0 2 / 4096 = 0 ∧ seq ≠ (s.ulk.rxSeq + 1) % 4096) ∧
  (∃ (s : State) (b : List Byte) (d : Bool), s.ulState = ulUp ∧ let l := padTo 256 b; let seq := bytesAt l 0 2 % 4096; let sound := bytesAt l 252 4 = crc32c (l.take 252); let v : State := { s with ulk := s.ulk.take l }; sound ∧ bytesAt l 0 2 / 4096 = 2) ∧
  (∃ (s : State) (c : Fin 64), s.noticesOn = true ∧ (s.notice c).held = true) ∧
  (∃ (s : State) (t0 : Nat), s.ulState = ulDown ∧ s.on ULK.CTRL.EN = true ∧ s.ulRuns = true) ∧
  (∃ (s : State) (t0 : Nat), s.ulState = ulTrain ∧ s.ulk.entered + Config.ns 50000000 ≤ max s.now t0) ∧
  (∃ (s : State) (t0 : Nat), ∃ (c : UlCause), s.ulState = ulUp ∧ ((c = .naks → 16 ≤ s.ulk.nakRun))) ∧
  (∃ (s : State) (t0 : Nat), s.ulState = ulFailed ∧ s.ulk.entered + Config.ns 1000000000 ≤ max s.now t0) ∧
  (∃ (s : State) (t0 : Nat), s.ulState ≠ ulFailed) ∧
  (∃ (s : State) (t0 : Nat), ∃ three, s.ulState = ulRecover ∧ three = true) ∧
  (∃ (s : State) (t0 : Nat), s.ulState = ulRecover ∧ s.ulk.entered + Config.ns (1000000 * s.rd ULK.CTRL.RECOVER_LIM) ≤ max s.now t0) ∧
  (∃ (s : State) (lanes : BitVec 16) (x : UlParams) (t0 w : Nat), s.ulState = ulTrain ∧ x.major = 1 ∧ widthOf lanes.toNat = some w ∧ ((w = 0 → x.wide = true)) ∧ (w = 1 → x.narrow = true) ∧ s.on ULK.CTRL.W8_OK = true ∧ s.ulk.out = []) ∧
  (∃ (s : State) (lanes : BitVec 16) (t0 w : Nat), s.ulState = ulRecover ∧ widthOf lanes.toNat = some w ∧ ((w = 1 → s.on ULK.CTRL.W8_OK = true))) ∧
  (∃ (s : State), s.ulk.reqs = [] ∧ s.ulk.waiting = [] ∧ s.ulk.deferred = [] ∧ ((∃ r ∈ s.ulk.dir, r.2.owned = true))) :=
  ⟨⟨ul ulUp, [1], true, by decide, by decide⟩,
    ⟨ul ulUp, flit 0 0, true, by decide, by decide, by decide, by decide, by decide⟩,
    ⟨ul ulUp, flit 0 0, false, by decide, by decide, by decide, by decide⟩,
    ⟨ul ulUp, flit 0 1, true, by decide, by decide, by decide, by decide⟩,
    ⟨ul ulUp, flit 2 0, true, by decide, by decide, by decide⟩,
    ⟨{ put (ul ulUp) [(ULK.NOTICE_HI.EN, 1)] with notices := [(63, ⟨1, [], 0, true⟩)] }, 63, by decide, by decide⟩,
    ⟨ul ulDown, 0, by decide, by decide, by decide⟩,
    ⟨ul ulTrain, 3276800000000, by decide, by decide⟩,
    ⟨{ ul ulUp with ulk := { nakRun := 16 } }, 0, UlCause.naks, by decide, by decide⟩,
    ⟨ul ulFailed, 65536000000000, by decide, by decide⟩,
    ⟨ul ulUp, 0, by decide⟩,
    ⟨ul ulRecover, 0, true, by decide, by decide⟩,
    ⟨ul ulRecover, 6553600000000, by decide, by decide⟩,
    ⟨ul ulTrain, 0xFF00, ⟨1, true, true, 1, 1, 1, 1⟩, 0, 1, by decide, by decide, by decide, by decide, by decide, by decide, by decide⟩,
    ⟨ul ulRecover, 0xFFFF, 0, 0, by decide, by decide, by decide⟩,
    ⟨coh [(5, ⟨true, 0⟩)] [] [], by decide, by decide, by decide, by decide⟩⟩

theorem wit_calendar :
  (∃ (s : State) (i : Fin 255) (ups : List Upset) (t : Nat), let v := s.advance t; let u : State := { v with ulk := { v.ulk with calWait := s.ulk.calWait.filter fun k => k != i.val } }; let a := s.rd ULK.CAL_LO.ADDR + 2 ^ 32 * s.rd ULK.CAL_HI.ADDR + 512 * i.val; let r := u.readEntry a ups; let l := r.2.1; s.mcRuns = true ∧ s.ulk.calWait.contains i.val = true ∧ i.val < s.calEntries ∧ s.heldLines false a 512 = [] ∧ r.2.2.contains 0 = false ∧ bitOf (bytesAt l 18 1) 0 = true ∧ bytesAt l 20 4 ≠ Tbl.lookD r.1.ulk.calSeq 0 i.val) ∧
  (∃ (s : State) (i : Fin 255) (ups : List Upset) (t : Nat), let v := s.advance t; let u : State := { v with ulk := { v.ulk with calWait := s.ulk.calWait.filter fun k => k != i.val } }; let a := s.rd ULK.CAL_LO.ADDR + 2 ^ 32 * s.rd ULK.CAL_HI.ADDR + 512 * i.val; let r := u.readEntry a ups; let l := r.2.1; s.mcRuns = true ∧ s.ulk.calWait.contains i.val = true ∧ i.val < s.calEntries ∧ s.heldLines false a 512 = [] ∧ r.2.2.contains 0 = false ∧ bitOf (bytesAt l 18 1) 0 = true ∧ bytesAt l 20 4 = Tbl.lookD r.1.ulk.calSeq 0 i.val ∧ bitOf (bytesAt l 18 1) 1 = true) ∧
  (∃ (s : State) (i : Fin 255) (ups : List Upset) (t : Nat), let v := s.advance t; let u : State := { v with ulk := { v.ulk with calWait := s.ulk.calWait.filter fun k => k != i.val } }; let a := s.rd ULK.CAL_LO.ADDR + 2 ^ 32 * s.rd ULK.CAL_HI.ADDR + 512 * i.val; let r := u.readEntry a ups; let l := r.2.1; s.mcRuns = true ∧ s.ulk.calWait.contains i.val = true ∧ i.val < s.calEntries ∧ s.heldLines false a 512 = [] ∧ r.2.2.contains 0 = false ∧ bitOf (bytesAt l 18 1) 0 = false) ∧
  (∃ (s : State) (i : Fin 255) (ups : List Upset) (t : Nat), s.mcRuns = false) ∧
  (∃ (s : State) (i : Fin 255) (ups : List Upset) (t : Nat), s.ulk.calWait.contains i.val = false) ∧
  (∃ (s : State) (e a j : Nat) (l : List Byte) (bad : List Nat), Tbl.look s.ulk.calSeq e = none ∧ let u : State := { s with ulk := { s.ulk with calSeq := Tbl.set s.ulk.calSeq e (bytesAt l 20 4) } }; u.entryReason l bad = 0 ∧ (((List.range 8).find? fun j => (s.job j).stage == .free) = some j)) ∧
  (∃ (s : State) (e a j : Nat) (l : List Byte) (bad : List Nat), Tbl.look s.ulk.calSeq e = none ∧ let u : State := { s with ulk := { s.ulk with calSeq := Tbl.set s.ulk.calSeq e (bytesAt l 20 4) } }; u.entryReason l bad ≠ 0 ∧ u.entryReason l bad ≠ 10) ∧
  (∃ (s : State) (l : List Byte) (bad : List Nat), s.entryReason l bad = 0) ∧
  (∃ (s : State) (e q start : Nat), ∃ j, s.trigOf e q = some j ∧ (s.job j).stage ≠ .running ∧ s.now + Config.ns 10000 ≤ (s.job j).start * 65536) ∧
  (∃ (s : State) (e q start : Nat), ∃ j, s.trigOf e q = some j ∧ (s.job j).stage = .running) :=
  ⟨⟨cal [(18, 1), (20, 7)] [], 0, [], 0, by decide, by decide, by decide, by decide, by decide, by decide, by decide⟩,
    ⟨cal [(18, 3), (20, 7)] [(0, 7)], 0, [], 0, by decide, by decide, by decide, by decide, by decide, by decide, by decide, by decide⟩,
    ⟨cal [] [], 0, [], 0, by decide, by decide, by decide, by decide, by decide, by decide⟩,
    ⟨State.reset, 0, [], 0, by decide⟩,
    ⟨running, 254, [], 0, by decide⟩,
    ⟨cal [] [], 0, 0, 0, entryBytes, [], by decide, by decide, by decide⟩,
    ⟨cal [] [], 0, 0, 0, [], [], by decide, by decide, by decide⟩,
    ⟨cal [] [], entryBytes, [], by decide⟩,
    ⟨trig .armed, 5, 7, 100, 3, by decide, by decide, by decide⟩,
    ⟨trig .running, 5, 7, 100, 3, by decide, by decide⟩⟩

theorem wit_powerStates :
  (∃ (s : State) (t : Nat), s.sys.vaux = true ∧ s.sys.boot.pwrOk = true ∧ let v := State.setBoot (s.advance t) { s.sys.boot with pwrOk := false, good := false, waits := false }; s.pwState = pwDark) ∧
  (∃ (s : State) (t : Nat), s.sys.vaux = true ∧ s.sys.boot.pwrOk = true ∧ let v := State.setBoot (s.advance t) { s.sys.boot with pwrOk := false, good := false, waits := false }; s.sys.power.toDark = some true) ∧
  (∃ (s : State) (t : Nat), s.sys.vaux = true ∧ s.sys.boot.pwrOk = true ∧ let v := State.setBoot (s.advance t) { s.sys.boot with pwrOk := false, good := false, waits := false }; s.pwState ≠ pwDark ∧ s.sys.power.toDark ≠ some true) ∧
  (∃ (s : State) (t : Nat), s.sys.vaux = true ∧ s.sys.boot.pwrOk = true ∧ s.pwState ≠ pwDark ∧ ∃ r : Fin 20, r.val ≠ 14 ∧ r.val ≠ 19) ∧
  (∃ (s : State) (r : Nat), r < 20 ∧ ∃ k, k < 20 ∧ k ≠ r) ∧
  (∃ (s : State), s.sys.power.toDark = some false) ∧
  (∃ (s : State), s.pwState ≠ pwDark ∧ s.sys.power.toDark ≠ some false) ∧
  (∃ (s : State) (l : List Int) (t : Nat), s.sys.vaux = true ∧ let v := fun i => clampInt (-32768) 32767 (l.getD i 0); ((∀ i, i < 140 → l.getD i 0 < 1150)) ∧ s.sys.power.sampled = true) ∧
  (∃ (s : State) (l : List Int) (t : Nat), s.sys.vaux = true ∧ let v := fun i => clampInt (-32768) 32767 (l.getD i 0); s.sys.power.trip = false ∧ ((∃ i, i < 140 ∧ 1150 ≤ l.getD i 0 ∧ s.sys.power.hot.contains i = true))) ∧
  (∃ (s : State), s.sys.vaux = true) ∧
  (∃ (s : State), let busy := (∃ p, p < 2048 ∧ s.clState p = clRun) ∨ ∃ j, j < 8 ∧ (s.job j).stage ≠ .free; s.pwState = pwActive ∧ s.on PWR.STATE.CHANGING = false ∧ ¬ busy) ∧
  (∃ (s : State), let busy := (∃ p, p < 2048 ∧ s.clState p = clRun) ∨ ∃ j, j < 8 ∧ (s.job j).stage ≠ .free; s.pwState ≠ pwHush ∧ s.pwState ≠ pwActive) ∧
  (∃ (s : State), let busy := (∃ p, p < 2048 ∧ s.clState p = clRun) ∨ ∃ j, j < 8 ∧ (s.job j).stage ≠ .free; s.pwState ≠ pwHush ∧ s.on PWR.STATE.CHANGING = true) ∧
  (∃ (s : State), let busy := (∃ p, p < 2048 ∧ s.clState p = clRun) ∨ ∃ j, j < 8 ∧ (s.job j).stage ≠ .free; s.pwState ≠ pwHush ∧ busy) ∧
  (∃ (s : State), let busy := (∃ p, p < 2048 ∧ s.clState p = clRun) ∨ ∃ j, j < 8 ∧ (s.job j).stage ≠ .free; s.pwState = pwHush ∧ s.on PWR.STATE.CHANGING = false) ∧
  (∃ (s : State), let busy := (∃ p, p < 2048 ∧ s.clState p = clRun) ∨ ∃ j, j < 8 ∧ (s.job j).stage ≠ .free; s.pwState = pwBoot) ∧
  (∃ (s : State), let busy := (∃ p, p < 2048 ∧ s.clState p = clRun) ∨ ∃ j, j < 8 ∧ (s.job j).stage ≠ .free; s.pwState = pwDark) ∧
  (∃ (s : State) (t : Nat), s.pwState = pwActive ∧ s.on PWR.STATE.CHANGING = false) ∧
  (∃ (s : State) (t : Nat), s.pwState = pwHush ∧ s.on PWR.STATE.CHANGING = false) ∧
  (∃ (s : State) (t : Nat), s.pwState = pwBoot) ∧
  (∃ (s : State) (t : Nat), ∃ b, s.sys.power.toDark = some b) :=
  ⟨⟨powered pwDark {}, 0, by decide, by decide, by decide⟩,
    ⟨powered pwActive { toDark := some true }, 0, by decide, by decide, by decide⟩,
    ⟨powered pwActive {}, 0, by decide, by decide, by decide, by decide⟩,
    ⟨powered pwActive {}, 0, by decide, by decide, by decide, 0, by decide, by decide⟩,
    ⟨State.reset, 5, by decide, 6, by decide, by decide⟩,
    ⟨powered pwActive { toDark := some false }, by decide⟩,
    ⟨powered pwActive {}, by decide, by decide⟩,
    ⟨powered pwActive { sampled := true }, [], 0, by decide, by decide, by decide⟩,
    ⟨powered pwActive { hot := [139] }, List.replicate 140 1150, 0, by decide, by decide, ⟨139, by decide, by decide, by decide⟩⟩,
    ⟨running, by decide⟩,
    ⟨running, by decide, by decide, (by intro h; revert h; decide)⟩,
    ⟨powered pwDark {}, by decide, by decide⟩,
    ⟨put running [(PWR.STATE.CHANGING, 1)], by decide, by decide⟩,
    ⟨{ State.reset with comp := { jobs := [(3, { stage := .armed })] } }, by decide, Or.inr ⟨3, by decide, by decide⟩⟩,
    ⟨powered pwHush {}, by decide, by decide⟩,
    ⟨powered pwBoot {}, by decide⟩,
    ⟨powered pwDark {}, by decide⟩,
    ⟨running, 0, by decide, by decide⟩,
    ⟨powered pwHush {}, 0, by decide, by decide⟩,
    ⟨powered pwBoot {}, 0, by decide⟩,
    ⟨powered pwActive { toDark := some true }, 0, true, by decide⟩⟩

theorem wit_bootPhases :
  (∃ (s : State) (head : Bool) (b : BitVec 5) (x : NvmSlots), s.sys.vaux = false) ∧
  (∃ (s : State) (t0 : Nat), s.sys.vaux = true) ∧
  (∃ (s : State) (rails : BitVec 20) (held : Bool) (t0 : Nat), s.sys.vaux = true ∧ s.sys.boot.pwrOk = false ∧ let v := State.setBoot (s.advance t0) { s.sys.boot with pwrOk := true }; s.pwState ≠ pwDark ∧ s.sys.boot.rstLow = false) ∧
  (∃ (s : State) (rails : BitVec 20) (held : Bool) (t0 : Nat), s.sys.vaux = true ∧ s.sys.boot.pwrOk = false ∧ let v := State.setBoot (s.advance t0) { s.sys.boot with pwrOk := true }; s.pwState ≠ pwDark ∧ s.sys.boot.rstLow = true) ∧
  (∃ (s : State) (rails : BitVec 20) (held : Bool) (t0 : Nat), s.sys.vaux = true ∧ s.sys.boot.pwrOk = false ∧ let v := State.setBoot (s.advance t0) { s.sys.boot with pwrOk := true }; s.pwState = pwDark ∧ s.sys.boot.rstLow = false) ∧
  (∃ (s : State) (rails : Nat), railsGood rails = true ∧ s.booting = true ∧ s.phase = phWaitPwr) ∧
  (∃ (s : State) (rails : Nat), railsGood rails = false) ∧
  (∃ (s : State) (rails : BitVec 20) (t0 : Nat), s.sys.vaux = true ∧ s.sys.boot.rstLow = true ∧ s.sys.boot.waits = false ∧ s.sys.boot.good = false) ∧
  (∃ (s : State) (o : Bool) (mbit t0 : Nat), s.booting = true ∧ s.sys.boot.nvmOk = false ∧ s.phase = phChain ∧ 512 ≤ mbit) ∧
  (∃ (s : State) (o : Bool) (mbit t0 : Nat), s.booting = true ∧ s.sys.boot.nvmOk = false ∧ s.phase = phChain ∧ ∃ r, r = false) ∧
  (∃ (s : State) (t0 : Nat), s.booting = true ∧ s.phase = phChain ∧ s.position = none ∧ s.sys.boot.strapAt + Config.ns 2000000000 ≤ t0) ∧
  (∃ (s : State) (t0 : Nat), s.booting = true ∧ s.phase = phCutlist ∧ let v := s.advance t0; s.sys.boot.clBad = none) ∧
  (∃ (s : State) (t0 : Nat), s.booting = true ∧ s.phase = phCutlist ∧ let v := s.advance t0; s.sys.boot.clBad ≠ none) ∧
  (∃ (s : State) (t0 : Nat), s.booting = true ∧ s.phase = phFirmware ∧ let v := s.advance t0; let c := fwCheck (s.sys.nvm.fw s.fwNext); s.sys.boot.fwBad = none) ∧
  (∃ (s : State) (t0 : Nat), s.booting = true ∧ s.phase = phFirmware ∧ let v := s.advance t0; let c := fwCheck (s.sys.nvm.fw s.fwNext); ∃ b k, s.sys.boot.fwBad = some (b, k)) ∧
  (∃ (s : State), s.sys.boot.good = true ∧ s.sys.boot.rstLow = false) ∧
  (∃ (s : State), s.sys.boot.good = false) ∧
  (∃ (s : State) (fails : List (Fin 2048)) (rows : List (Nat × Nat)) (t0 : Nat), s.booting = true ∧ s.phase = phBringup) ∧
  (∃ (s : State), s.sys.boot.missed = [] ∧ ((∀ j, j < 8 → (s.job j).stage ≠ .armed))) ∧
  (∃ (s : State), s.phase ≠ phLockWait) ∧
  (∃ (s : State), ∃ t0, s.phase = phLockWait ∧ s.sys.boot.lockAt + Config.ns 60000000000 ≤ t0) ∧
  (∃ (s : State), s.csrSound ∧ s.on BOOT.OPKEY.FUSED = false ∧ s.rd BOOT.OPKEY.CONFIRM = 0x5A3C ∧ clSigned s.sys.boot.list = true ∧ s.phase = phDone) ∧
  (∃ (s : State), s.csrSound ∧ s.on BOOT.OPKEY.FUSED = true) ∧
  (∃ (s : State), s.csrSound ∧ s.rd BOOT.OPKEY.CONFIRM ≠ 0x5A3C) ∧
  (∃ (s : State), s.csrSound ∧ clSigned s.sys.boot.list = false) ∧
  (∃ (s : State), s.csrSound ∧ s.phase ≠ phDone) :=
  ⟨⟨State.reset, true, 5, ⟨[], [], [], []⟩, by decide⟩,
    ⟨running, 0, by decide⟩,
    ⟨running, 0, false, 0, by decide, by decide, by decide, by decide⟩,
    ⟨bootWith phWaitPwr { rstLow := true }, 0, false, 0, by decide, by decide, by decide, by decide⟩,
    ⟨{ powered pwDark {} with sys := { vaux := true } }, 0, false, 0, by decide, by decide, by decide, by decide⟩,
    ⟨bootAt phWaitPwr, 0x7FFFF, by decide, by decide, by decide⟩,
    ⟨State.reset, 0, by decide⟩,
    ⟨bootWith phWaitPwr { rstLow := true }, 0, 0, by decide, by decide, by decide, by decide⟩,
    ⟨bootAt phChain, true, 512, 0, by decide, by decide, by decide, by decide⟩,
    ⟨bootAt phChain, true, 512, 0, by decide, by decide, by decide, false, by decide⟩,
    ⟨put (bootAt phChain) [(BOOT.CHAIN.POSITION, 0xFF)], 131072000000000, by decide, by decide, by decide, by decide⟩,
    ⟨bootAt phCutlist, 0, by decide, by decide, by decide⟩,
    ⟨bootWith phCutlist { clBad := some 1 }, 0, by decide, by decide, by decide⟩,
    ⟨bootAt phFirmware, 0, by decide, by decide, by decide⟩,
    ⟨bootWith phFirmware { fwBad := some (0, 3) }, 0, by decide, by decide, 0, 3, by decide⟩,
    ⟨bootWith phWaitPwr { good := true }, by decide, by decide⟩,
    ⟨State.reset, by decide⟩,
    ⟨bootAt phBringup, [], [], 0, by decide, by decide⟩,
    ⟨bootAt phBringup, by decide, by decide⟩,
    ⟨State.reset, by decide⟩,
    ⟨put running [(BOOT.STATUS.PHASE, phLockWait)], 3932160000000000, by decide, by decide⟩,
    ⟨{ put running [(BOOT.OPKEY.CONFIRM, 0x5A3C)] with sys := { vaux := true, boot := { list := List.replicate 14 0 ++ [4] } } }, And.intro (by decide) (by decide), by decide, by decide, by decide, by decide⟩,
    ⟨put running [(BOOT.OPKEY.FUSED, 1)], And.intro (by decide) (by decide), by decide⟩,
    ⟨State.reset, And.intro (by decide) (by decide), by decide⟩,
    ⟨State.reset, And.intro (by decide) (by decide), by decide⟩,
    ⟨State.reset, And.intro (by decide) (by decide), by decide⟩⟩

theorem wit_resets :
  (∃ (s : State) (key : BitVec 16) (i : Instr) (kind : Nat), i = .bootResetCold key ∧ kind = 0 ∧ key.toNat ≠ 0xA5C3) ∧
  (∃ (s : State) (key : BitVec 16) (i : Instr) (kind : Nat), i = .bootResetWarm key ∧ kind = 1 ∧ s.rstRefused kind = true) ∧
  (∃ (s : State) (key : BitVec 16) (i : Instr) (kind : Nat), i = .bootResetFabric key ∧ kind = 2 ∧ s.rstRefused kind = true) ∧
  (∃ (s : State) (key : BitVec 16) (i : Instr) (kind : Nat), i = .bootResetFabric key ∧ kind = 2 ∧ ∃ k, key.toNat = 0xA5C3 ∧ s.rstRefused kind = false ∧ s.sys.reset = some k ∧ k ≤ kind) ∧
  (∃ (s : State) (key : BitVec 16) (i : Instr) (kind : Nat), i = .bootResetCold key ∧ kind = 0 ∧ key.toNat = 0xA5C3 ∧ s.rstRefused kind = false ∧ (∃ k, s.sys.reset = some k ∧ kind < k ∧ k ≠ 3)) ∧
  (∃ (s : State) (key : BitVec 16) (i : Instr) (kind : Nat), i = .bootResetWarm key ∧ kind = 1 ∧ key.toNat = 0xA5C3 ∧ s.rstRefused kind = false ∧ s.sys.reset = none) ∧
  (∃ (s : State) (key : BitVec 16) (i : Instr) (kind : Nat), i = .bootResetFabric key ∧ kind = 2 ∧ key.toNat = 0xA5C3 ∧ s.rstRefused kind = false ∧ s.sys.reset = some 3 ∧ kind < 3) ∧
  (∃ (s : State) (t0 : Nat), s.sys.vaux = true ∧ s.sys.boot.rstLow = false) ∧
  (∃ (s : State) (head : Bool) (b : BitVec 5) (t0 : Nat), let v := s.advance t0; s.sys.reset = some 0) ∧
  (∃ (s : State) (head : Bool) (b : BitVec 5) (t0 : Nat), let v := s.advance t0; s.sys.reset = some 2) ∧
  (∃ (s : State) (head : Bool) (b : BitVec 5) (t0 : Nat), let v := s.advance t0; s.sys.reset = some 3) ∧
  (∃ (s : State) (head : Bool) (b : BitVec 5) (t0 : Nat), let v := s.advance t0; s.sys.reset = none) :=
  ⟨⟨running, 0, .bootResetCold 0, 0, rfl, by decide, by decide⟩,
    ⟨powered pwDark {}, 0xA5C3, .bootResetWarm 0xA5C3, 1, rfl, by decide, by decide⟩,
    ⟨bootAt phChain, 0xA5C3, .bootResetFabric 0xA5C3, 2, rfl, by decide, by decide⟩,
    ⟨resetting 2, 0xA5C3, .bootResetFabric 0xA5C3, 2, rfl, by decide, 2, by decide, by decide, by decide, by decide⟩,
    ⟨resetting 2, 0xA5C3, .bootResetCold 0xA5C3, 0, rfl, by decide, by decide, by decide, ⟨2, by decide, by decide, by decide⟩⟩,
    ⟨running, 0xA5C3, .bootResetWarm 0xA5C3, 1, rfl, by decide, by decide, by decide, by decide⟩,
    ⟨resetting 3, 0xA5C3, .bootResetFabric 0xA5C3, 2, rfl, by decide, by decide, by decide, by decide, by decide⟩,
    ⟨running, 0, by decide, by decide⟩,
    ⟨resetting 0, true, 5, 0, by decide⟩,
    ⟨resetting 2, true, 5, 0, by decide⟩,
    ⟨resetting 3, true, 5, 0, by decide⟩,
    ⟨running, true, 5, 0, by decide⟩⟩

theorem wit_benchChain :
  (∃ (s : State) (b : List Byte), s.sys.vaux = true ∧ frOk b = false) ∧
  (∃ (s : State) (b : List Byte), s.sys.vaux = true ∧ frOk b = true ∧ frHop1 b = false ∧ s.position ≠ some (frSrc b) ∧ 68 ≤ frHops b) ∧
  (∃ (s : State) (b : List Byte), s.sys.vaux = true ∧ frOk b = true ∧ frHop1 b = false ∧ s.position ≠ some (frSrc b) ∧ frHops b < 68 ∧ bytesAt b 0 1 = 4 ∧ Tbl.look s.sys.chain.applied (frSrc b) = some (frSeq b)) ∧
  (∃ (s : State) (b : List Byte), s.sys.vaux = true ∧ frOk b = true ∧ frHop1 b = false ∧ s.position ≠ some (frSrc b) ∧ frHops b < 68 ∧ bytesAt b 0 1 = 4 ∧ Tbl.look s.sys.chain.applied (frSrc b) ≠ some (frSeq b) ∧ frPayload b ≠ [] ∧ (frPayload b).length ≤ 16) ∧
  (∃ (s : State) (b : List Byte), s.sys.vaux = true ∧ ∃ a, frOk b = true ∧ frHop1 b = false ∧ s.position = some (frSrc b) ∧ bytesAt b 0 1 ≠ 3 ∧ s.sys.chain.mine = some (frSeq b, a)) ∧
  (∃ (s : State) (b : List Byte), s.sys.vaux = true ∧ frOk b = true ∧ frHop1 b = true ∧ bytesAt b 0 1 = 1) ∧
  (∃ (s : State) (pos n : Nat), s.on BOOT.STRAPS.CHAIN_HEAD = false ∧ pos < 67 ∧ s.position = none ∧ s.sys.boot.list = [] ∧ s.booting = true ∧ s.phase = phChain ∧ n < 256) ∧
  (∃ (s : State) (src : Nat) (l : List Byte), s.on PB.CTRL.CHAIN_SW = false) ∧
  (∃ (s : State) (src : Nat) (l : List Byte), s.fabUp = true ∧ bitOf (bytesAt l 8 1) 0 = false) ∧
  (∃ (s : State) (src : Nat) (l : List Byte), ∃ k, 1 ≤ k ∧ k ≤ 3 ∧ bytesAt l 0 1 = k) ∧
  (∃ (s : State) (p t0 : Nat), s.position = some p ∧ s.sys.vaux = true) ∧
  (∃ (s : State) (ty n : BitVec 8), s.csrSound ∧ s.on BOOT.CHN_CMD.BUSY = true) ∧
  (∃ (s : State) (ty n : BitVec 8), s.csrSound ∧ s.position = none) ∧
  (∃ (s : State) (ty n : BitVec 8), s.csrSound ∧ sendOk ty.toNat n.toNat = false) ∧
  (∃ (s : State) (ty n : BitVec 8), s.csrSound ∧ ∃ p, s.on BOOT.CHN_CMD.BUSY = false ∧ s.position = some p ∧ ty.toNat = 4 ∧ 1 ≤ n.toNat ∧ n.toNat ≤ 16) ∧
  (∃ (s : State) (q a t0 : Nat), s.sys.chain.mine = some (q, a) ∧ max s.now t0 < a + Config.ns 10000000) ∧
  (∃ (s : State) (q a t0 : Nat), s.sys.chain.mine = some (q, a) ∧ a + Config.ns 10000000 ≤ max s.now t0) ∧
  (∃ (s : State) (t0 : Nat), s.chainPathOn = true ∧ s.position ≠ none) ∧
  (∃ (s : State) (t0 : Nat), s.recovering = true ∧ s.sys.recUl = true ∧ let h := s.comp.lpddr.read 0 64; let l := s.comp.lpddr.read 0x1000 (min (bytesAt h 4 4) 0x1000000); bytesAt h 0 4 = 0x43524A46 ∧ s.sys.recov.seq ≠ some (bytesAt h 8 4)) ∧
  (∃ (s : State) (l : List Byte) (t0 : Nat), s.recovering = true ∧ s.sys.recov.image = some l ∧ s.pwState ≠ pwDark ∧ s.sys.reset = none) :=
  ⟨⟨running, [], by decide, by decide⟩,
    ⟨chained {}, chainFrame 4 false 7 68 0 [1], by decide, by decide, by decide, by decide, by decide⟩,
    ⟨chained { applied := [(7, 9)] }, chainFrame 4 false 7 67 9 [1], by decide, by decide, by decide, by decide, by decide, by decide, by decide⟩,
    ⟨chained { applied := [(7, 8)] }, chainFrame 4 false 7 67 9 (List.replicate 16 1), by decide, by decide, by decide, by decide, by decide, by decide, by decide, by decide, by decide⟩,
    ⟨chained { mine := some (9, 0) }, chainFrame 4 false 5 9 9 [1], by decide, 0, by decide, by decide, by decide, by decide, by decide⟩,
    ⟨chained {}, chainFrame 1 true 7 0 9 [4, 9, 0, 0], by decide, by decide, by decide, by decide⟩,
    ⟨put (bootAt phChain) [(BOOT.CHAIN.POSITION, 0xFF)], 66, 255, by decide, by decide, by decide, by decide, by decide, by decide, by decide⟩,
    ⟨State.reset, 7, [], by decide⟩,
    ⟨running, 7, [], by decide, by decide⟩,
    ⟨running, 7, [3], 3, by decide, by decide, by decide⟩,
    ⟨chained {}, 5, 0, by decide, by decide⟩,
    ⟨put running [(BOOT.CHN_CMD.BUSY, 1)], 4, 16, And.intro (by decide) (by decide), by decide⟩,
    ⟨st [(BOOT.CHAIN.POSITION, 0xFF)], 4, 16, And.intro (by decide) (by decide), by decide⟩,
    ⟨State.reset, 4, 17, And.intro (by decide) (by decide), by decide⟩,
    ⟨chained {}, 4, 16, And.intro (by decide) (by decide), 5, by decide, by decide, by decide, by decide, by decide⟩,
    ⟨chained { mine := some (9, 0) }, 9, 0, 655359999999, by decide, by decide⟩,
    ⟨chained { mine := some (9, 0) }, 9, 0, 655360000000, by decide, by decide⟩,
    ⟨recWith {}, 0, by decide, by decide⟩,
    ⟨{ recWith {} with comp := { lpddr := { cells := [(0, 0x46), (1, 0x4A), (2, 0x52), (3, 0x43)] } } }, 0, by decide, by decide, by decide, by decide⟩,
    ⟨recWith { image := some [] }, [], 0, by decide, by decide, by decide, by decide⟩⟩

theorem wit_registerAccess :
  (∃ (s : State) (b : Bank) (off : BitVec 26) (size : BitVec 2) (v : BitVec 64), s.sys.vaux = true ∧ let o := off.toNat; let n := 2 ^ size.toNat; o % n ≠ 0) ∧
  (∃ (s : State) (b : Bank) (off : BitVec 26) (size : BitVec 2) (v : BitVec 64), s.sys.vaux = true ∧ let o := off.toNat; let n := 2 ^ size.toNat; o % n = 0 ∧ n < 8 ∧ mapped o = false) ∧
  (∃ (s : State) (b : Bank) (off : BitVec 26) (size : BitVec 2) (v : BitVec 64), s.sys.vaux = true ∧ let o := off.toNat; let n := 2 ^ size.toNat; o % n = 0 ∧ n < 8 ∧ mapped o = true ∧ s.busyReset b (o / 4 * 4) = true) ∧
  (∃ (s : State) (b : Bank) (off : BitVec 26) (size : BitVec 2) (v : BitVec 64), s.sys.vaux = true ∧ let o := off.toNat; let n := 2 ^ size.toNat; o % n = 0 ∧ n < 4 ∧ mapped o = true ∧ s.busyReset b (o / 4 * 4) = false) ∧
  (∃ (s : State) (b : Bank) (off : BitVec 26) (size : BitVec 2) (v : BitVec 64), s.sys.vaux = true ∧ let o := off.toNat; let n := 2 ^ size.toNat; o % n = 0 ∧ n = 4 ∧ mapped o = true ∧ s.busyReset b (o / 4 * 4) = false) ∧
  (∃ (s : State) (b : Bank) (off : BitVec 26) (size : BitVec 2) (v : BitVec 64), s.sys.vaux = true ∧ let o := off.toNat; let n := 2 ^ size.toNat; o % 8 = 0 ∧ n = 8) ∧
  (∃ (s : State) (b : Bank) (off v : Nat) (r : RegRow) (i : List Nat), regAt off = some (r, i) ∧ r.wide = false ∧ s.fusedAway off = false ∧ winShows r.win (s.instOf b.num r i) = true ∧ let inst := s.instOf b.num r i; let sq := r.fields.any fun f => f.acc == .sq; let wp := r.fields.any fun f => f.acc == .wp; let rw := r.fields.any fun f => accWritable f.acc || f.acc == .ws; sq = true) ∧
  (∃ (s : State) (b : Bank) (off v : Nat) (r : RegRow) (i : List Nat), regAt off = some (r, i) ∧ r.wide = false ∧ s.fusedAway off = false ∧ winShows r.win (s.instOf b.num r i) = true ∧ let inst := s.instOf b.num r i; let sq := r.fields.any fun f => f.acc == .sq; let wp := r.fields.any fun f => f.acc == .wp; let rw := r.fields.any fun f => accWritable f.acc || f.acc == .ws; sq = false ∧ wp = true) ∧
  (∃ (s : State) (b : Bank) (off v : Nat) (r : RegRow) (i : List Nat), regAt off = some (r, i) ∧ r.wide = false ∧ s.fusedAway off = false ∧ winShows r.win (s.instOf b.num r i) = true ∧ let inst := s.instOf b.num r i; let sq := r.fields.any fun f => f.acc == .sq; let wp := r.fields.any fun f => f.acc == .wp; let rw := r.fields.any fun f => accWritable f.acc || f.acc == .ws; sq = false ∧ wp = false ∧ rw = false) ∧
  (∃ (s : State) (b : Bank) (off v : Nat) (r : RegRow) (i : List Nat), regAt off = some (r, i) ∧ r.wide = false ∧ s.fusedAway off = false ∧ winShows r.win (s.instOf b.num r i) = true ∧ let inst := s.instOf b.num r i; let sq := r.fields.any fun f => f.acc == .sq; let wp := r.fields.any fun f => f.acc == .wp; let rw := r.fields.any fun f => accWritable f.acc || f.acc == .ws; sq = false ∧ wp = false ∧ rw = true ∧ s.violates r off inst v = false ∧ strobes r (s.unlocked r off inst v) ≤ 1) ∧
  (∃ (s : State) (b : Bank) (i : Nat) (off : BitVec 26) (v : BitVec 64), s.sys.vaux = true ∧ s.csrSound ∧ i < 4 ∧ b = .mgmt ∧ off.toNat = BOOT.CHN_TXD.base + 4 * i) ∧
  (∃ (s : State) (b : Bank) (off : BitVec 26) (q : BitVec 8) (r : RegRow) (i : List Nat), s.sys.vaux = true ∧ regAt off.toNat = some (r, i) ∧ s.fusedAway off.toNat = false ∧ winShows r.win (s.instOf b.num r i) = true ∧ ((r.fields.any fun f => f.acc == .sq) = true) ∧ let inst := s.instOf b.num r i; s.rd ⟨off.toNat, 24, 8, inst, 0⟩ ≠ q.toNat) ∧
  (∃ (s : State) (b : Bank) (off : BitVec 26) (q : BitVec 8) (r : RegRow) (i : List Nat), s.sys.vaux = true ∧ regAt off.toNat = some (r, i) ∧ s.fusedAway off.toNat = false ∧ winShows r.win (s.instOf b.num r i) = true ∧ ((r.fields.any fun f => f.acc == .sq) = true) ∧ let inst := s.instOf b.num r i; s.rd ⟨off.toNat, 24, 8, inst, 0⟩ = q.toNat ∧ ∃ f ∈ r.fields, f.acc = .sq ∧ f.width = 1) ∧
  (∃ (s : State) (d off v : Nat), d < 2 ∧ s.on (ED.STATUS.BUSY d) = false) ∧
  (∃ (s : State) (d off v : Nat), d < 2 ∧ s.on (ED.STATUS.BUSY d) = true) ∧
  (∃ (s : State) (d : Fin 2) (off v : Nat) (r : RegRow) (i : List Nat), s.csrSound ∧ Tbl.look s.sys.posted d.val = some (off, v) ∧ regAt off = some (r, i)) ∧
  (∃ (s : State) (b : Bank) (off : BitVec 26), s.sys.vaux = true ∧ s.csrSound ∧ let o := off.toNat / 16 * 16; regAt o = none) ∧
  (∃ (s : State) (b : Bank) (off : BitVec 26), s.sys.vaux = true ∧ s.csrSound ∧ let o := off.toNat / 16 * 16; ∃ r i, regAt o = some (r, i) ∧ r.wide = true ∧ s.inReset (blockOf o) = false ∧ s.unsafeBlock (blockOf o) = false ∧ s.fusedAway o = false ∧ r.base ≠ TIO.CAP.base ∧ r.base ≠ TIO.TP_TXQ.base ∧ r.base ≠ GTH.REC.base ∧ winShows r.win (s.instOf b.num r i) = true) ∧
  (∃ (s : State) (b : Bank) (x : Sample), Tbl.look s.mbx b.num = some x) :=
  ⟨⟨running, .mgmt, 2, 2, 0, by decide, by decide⟩,
    ⟨running, .mgmt, 0x3FFFFFC, 2, 0, by decide, by decide, by decide, by decide⟩,
    ⟨bootAt phChain, .mgmt, 0x30000, 2, 0, by decide, by decide, by decide, by decide, by decide⟩,
    ⟨running, .mgmt, 2, 1, 0, by decide, by decide, by decide, by decide, by decide⟩,
    ⟨running, .mgmt, 0x30010, 2, 5, by decide, by decide, by decide, by decide, by decide⟩,
    ⟨running, .mgmt, 0x30010, 3, 5, by decide, by decide, by decide⟩,
    ⟨running, .mgmt, ULK.EVENT.LOST.off, 0, _, _, rfl, by decide, by decide, by decide, by decide⟩,
    ⟨running, .mgmt, 0xc0000c, 0, _, _, rfl, by decide, by decide, by decide, by decide, by decide⟩,
    ⟨running, .mgmt, 0, 0, _, _, rfl, by decide, by decide, by decide, by decide, by decide, by decide⟩,
    ⟨running, .mgmt, 0x30010, 0, _, _, rfl, by decide, by decide, by decide, by decide, by decide, by decide, by decide, by decide⟩,
    ⟨running, .mgmt, 3, BitVec.ofNat 26 (BOOT.CHN_TXD.base + 12), 7, by decide, And.intro (by decide) (by decide), by decide, by decide, by decide⟩,
    ⟨running, .mgmt, BitVec.ofNat 26 ULK.EVENT.LOST.off, 1, _, _, by decide, rfl, by decide, by decide, by decide, by decide⟩,
    ⟨running, .mgmt, BitVec.ofNat 26 ULK.EVENT.LOST.off, 0, _, _, by decide, rfl, by decide, by decide, by decide, by decide, ⟨0, 1, .sq, false⟩, by decide, by decide, by decide⟩,
    ⟨running, 1, 0, 0, by decide, by decide⟩,
    ⟨st [(ED.STATUS.BUSY 1, 1)], 1, 0, 0, by decide, by decide⟩,
    ⟨{ running with sys := { vaux := true, posted := [(1, (0x30010, 5))] } }, 1, 0x30010, 5, _, _, And.intro (by decide) (by decide), by decide, rfl⟩,
    ⟨running, .mgmt, 0x3FFFFFC, by decide, And.intro (by decide) (by decide), by decide⟩,
    ⟨running, .mgmt, BitVec.ofNat 26 PB.WORN_ALIGN.base, by decide, And.intro (by decide) (by decide), _, _, rfl, by decide, by decide, by decide, by decide, by decide, by decide, by decide, by decide⟩,
    ⟨{ running with mbx := [(1, ⟨0, 5, false⟩)] }, .link, ⟨0, 5, false⟩, by decide⟩⟩

theorem wit_registerFaults :
  (∃ (s : State), s.sys.vaux = true ∧ s.compat = false ∧ s.sys.bad = []) ∧
  (∃ (s : State), s.sys.vaux = true ∧ s.compat = false ∧ ∃ o inst r i, s.sys.bad = [(o, inst)] ∧ regAt (o / 4 * 4) = some (r, i) ∧ s.sys.found.contains (o / 4 * 4, inst) = false) ∧
  (∃ (s : State) (u : RegUpset) (r : RegRow) (i : List Nat) (f : FieldRow), regAt u.off = some (r, i) ∧ ((r.fields.find? fun f => f.acc != .ws && decide (f.lo ≤ u.bit) && decide (u.bit < f.lo + f.width)) = some f) ∧ s.rd (rowField r u.off u.inst f) < 2 ^ f.width) ∧
  (∃ (s : State) (off inst : Nat), blockOf off = 8) ∧
  (∃ (s : State) (b : BitVec 6), s.sys.vaux = true ∧ s.compat = false ∧ blockNamed b.toNat = true) ∧
  (∃ (s : State) (b : BitVec 6), s.sys.vaux = true ∧ s.compat = false ∧ blockNamed b.toNat = false) ∧
  (∃ (s : State) (b : BitVec 6), s.sys.recheck.contains b.toNat = true ∧ b.toNat ≠ 63 ∧ let v := s.setSys { s.sys with recheck := s.sys.recheck.filter (· != b.toNat) }; (s.anyBad (fun o => blockOf o == b.toNat) = false) ∧ b.toNat < 32) ∧
  (∃ (s : State) (b : BitVec 6), s.sys.recheck.contains b.toNat = true ∧ b.toNat ≠ 63 ∧ let v := s.setSys { s.sys with recheck := s.sys.recheck.filter (· != b.toNat) }; (s.anyBad (fun o => blockOf o == b.toNat) = true) ∧ b.toNat < 32) ∧
  (∃ (s : State) (b : Nat), b < 26 ∧ b ≠ 1 ∧ b ≠ 17) ∧
  (∃ (s : State), s.sys.vaux = true ∧ s.compat = true ∧ let v := s.crcFold.setSys { s.crcFold.sys with crcSoft := 0 }; let w := (v.wr GLB.CRC_NOW.CRC v.crcNow).bump GLB.SCRUB.PASSES; s.on GLB.CRC_CTRL.STALE = true) ∧
  (∃ (s : State), s.sys.vaux = true ∧ s.compat = true ∧ let v := s.crcFold.setSys { s.crcFold.sys with crcSoft := 0 }; let w := (v.wr GLB.CRC_NOW.CRC v.crcNow).bump GLB.SCRUB.PASSES; s.on GLB.CRC_CTRL.STALE = false) :=
  ⟨⟨running, by decide, by decide, by decide⟩,
    ⟨faulted [(0x30010, 0)] [], by decide, by decide, 0x30010, 0, _, _, by decide, rfl, by decide⟩,
    ⟨running, ⟨0x30010, 0, 0⟩, _, _, _, rfl, rfl, by decide⟩,
    ⟨running, 0x80000, 0, by decide⟩,
    ⟨running, 39, by decide, by decide, by decide⟩,
    ⟨running, 63, by decide, by decide, by decide⟩,
    ⟨faulted [] [8], 8, by decide, by decide, by decide, by decide⟩,
    ⟨faulted [(0x80000, 0)] [8], 8, by decide, by decide, by decide, by decide⟩,
    ⟨faulted [] [], 25, by decide, by decide, by decide⟩,
    ⟨put running [(GLB.CRC_CTRL.ACTIVE, 1), (GLB.CRC_CTRL.STALE, 1)], by decide, by decide, by decide⟩,
    ⟨put running [(GLB.CRC_CTRL.ACTIVE, 1)], by decide, by decide, by decide⟩⟩

theorem wit_healthAndLog :
  (∃ (s : State) (dom : Nat × Nat) (src inst w n : Nat), dom.1 + dom.2 ≤ 112 ∧ n < 112 ∧ s.unsafeBlock 23 = false ∧ Tbl.rising s.regs = true ∧ let t := s.count dom src inst w; let v := s.rd (HLT.CTR.COUNT n) + w; let mine := s.on (HLT.CTR_CFG.EN n) = true ∧ s.rd (HLT.CTR_CFG.SRC n) = src ∧ (s.rd (HLT.CTR_CFG.INST n) = inst ∨ (s.rd (HLT.CTR_CFG.INST n) = 0xFFFF ∧ (src = 0x101 ∨ src = 0x102))); dom.1 ≤ n ∧ n < dom.1 + dom.2 ∧ src ≠ 0 ∧ mine) ∧
  (∃ (s : State) (dom : Nat × Nat) (src inst w n : Nat), dom.1 + dom.2 ≤ 112 ∧ n < 112 ∧ s.unsafeBlock 23 = false ∧ Tbl.rising s.regs = true ∧ let t := s.count dom src inst w; let v := s.rd (HLT.CTR.COUNT n) + w; let mine := s.on (HLT.CTR_CFG.EN n) = true ∧ s.rd (HLT.CTR_CFG.SRC n) = src ∧ (s.rd (HLT.CTR_CFG.INST n) = inst ∨ (s.rd (HLT.CTR_CFG.INST n) = 0xFFFF ∧ (src = 0x101 ∨ src = 0x102))); n < dom.1) ∧
  (∃ (s : State) (dom : Nat × Nat) (src inst w n : Nat), dom.1 + dom.2 ≤ 112 ∧ n < 112 ∧ s.unsafeBlock 23 = false ∧ Tbl.rising s.regs = true ∧ let t := s.count dom src inst w; let v := s.rd (HLT.CTR.COUNT n) + w; let mine := s.on (HLT.CTR_CFG.EN n) = true ∧ s.rd (HLT.CTR_CFG.SRC n) = src ∧ (s.rd (HLT.CTR_CFG.INST n) = inst ∨ (s.rd (HLT.CTR_CFG.INST n) = 0xFFFF ∧ (src = 0x101 ∨ src = 0x102))); dom.1 + dom.2 ≤ n) ∧
  (∃ (s : State) (dom : Nat × Nat) (src inst w n : Nat), dom.1 + dom.2 ≤ 112 ∧ n < 112 ∧ s.unsafeBlock 23 = false ∧ Tbl.rising s.regs = true ∧ let t := s.count dom src inst w; let v := s.rd (HLT.CTR.COUNT n) + w; let mine := s.on (HLT.CTR_CFG.EN n) = true ∧ s.rd (HLT.CTR_CFG.SRC n) = src ∧ (s.rd (HLT.CTR_CFG.INST n) = inst ∨ (s.rd (HLT.CTR_CFG.INST n) = 0xFFFF ∧ (src = 0x101 ∨ src = 0x102))); ¬ mine) ∧
  (∃ (s : State), s.on HLT.CTR_STAT.SNAP_PEND = false) ∧
  (∃ (s : State) (n t0 : Nat), s.mcRuns = true ∧ s.on HLT.LOG_STAT.FLUSH_BUSY = true ∧ let v := s.advance t0; let w := ((v.log.staging.take n).foldl (fun s r => s.nvmWrite r) v).saveMinutes; w.log.staging ≠ []) ∧
  (∃ (s : State) (n t0 : Nat), s.mcRuns = true ∧ s.on HLT.LOG_STAT.FLUSH_BUSY = true ∧ let v := s.advance t0; let w := ((v.log.staging.take n).foldl (fun s r => s.nvmWrite r) v).saveMinutes; w.log.staging = []) ∧
  (∃ (s : State) (r : LogRec), recBytes s.log.nvm + r.size ≤ nvmLogBytes) ∧
  (∃ (s : State) (t0 : Nat) (r : LogRec), ((s.log.staging.filter fun x => x.sev == 3) = [r])) ∧
  (∃ (s : State), s.on HLT.LOG_STAT.DUMP_BUSY = true) ∧
  (∃ (s : State), s.dumpAddr % 64 ≠ 0) ∧
  (∃ (s : State), let l := (s.log.nvm ++ s.log.staging).flatMap LogRec.toBytes; s.on HLT.LOG_STAT.DUMP_BUSY = false ∧ s.dumpAddr % 64 = 0 ∧ s.region s.dumpAddr = .lpddr) ∧
  (∃ (s u : State) (x : Move), s.move mvDump = some x ∧ ∃ l, s.moveEnd mvDump [] = (u, .done l)) ∧
  (∃ (s u : State) (x : Move), s.move mvDump = some x ∧ s.moveEnd mvDump [] = (u, .failed)) ∧
  (∃ (s : State) (t0 : Nat), s.sys.vaux = true) ∧
  (∃ (s : State) (v a : BitVec 8) (t0 : Nat), s.mcRuns = true ∧ s.rd HLT.MC_CFG.SHED_ON ≤ v.toNat ∧ s.on HLT.MC_LOAD.SHED_E = false) ∧
  (∃ (s : State) (v a : BitVec 8) (t0 : Nat), s.mcRuns = true ∧ s.rd HLT.MC_CFG.SHED_ON ≤ v.toNat ∧ s.on HLT.MC_LOAD.SHED_E = true ∧ s.on HLT.MC_LOAD.SHED_D = false) ∧
  (∃ (s : State) (v a : BitVec 8) (t0 : Nat), s.mcRuns = true ∧ v.toNat < s.rd HLT.MC_CFG.SHED_OFF ∧ v.toNat < s.rd HLT.MC_CFG.SHED_ON ∧ 9 ≤ s.sys.calm) ∧
  (∃ (s : State) (t0 : Nat), s.mcRuns = true ∧ ∃ w, s.on HLT.MC_LOAD.ACTIVE = false ∧ ((w = true → s.sys.checked + Config.ns 5000000 ≤ max s.now t0))) ∧
  (∃ (s : State) (t0 : Nat), s.mcRuns = true ∧ s.on HLT.MC_LOAD.ACTIVE = true) ∧
  (∃ (s : State) (a t0 : Nat), s.sys.mcFail = some a) ∧
  (∃ (s : State) (e : PatchEntry) (l : List PatchEntry) (t0 : Nat), s.patch.waiting = e :: l ∧ s.rd BOOT.STATUS.PHASE = phDone ∧ s.patch.entries.length < 16380) ∧
  (∃ (s : State), s.csrSound) ∧
  (∃ (s : State) (t0 : Nat), s.mcRuns = true ∧ s.on HLT.TEL_CFG.EN = true ∧ s.sys.telAt + Config.ns (1000000 * s.rd HLT.TEL_CFG.PERIOD) ≤ max s.now t0 ∧ s.on HLT.MC_LOAD.SHED_E = true) ∧
  (∃ (s : State) (t0 : Nat), s.mcRuns = true ∧ s.on HLT.TEL_CFG.EN = true ∧ s.sys.telAt + Config.ns (1000000 * s.rd HLT.TEL_CFG.PERIOD) ≤ max s.now t0 ∧ s.on HLT.MC_LOAD.SHED_E = false) :=
  ⟨⟨st [(HLT.CTR_CFG.EN 111, 1), (HLT.CTR_CFG.SRC 111, 0x101), (HLT.CTR_CFG.INST 111, 0xFFFF)], (32, 80), 0x101, 7, 1, 111, by decide, by decide, by decide, by decide, by decide, by decide, by decide, ⟨by decide, by decide, Or.inr (by decide)⟩⟩,
    ⟨State.reset, (32, 80), 5, 0, 1, 31, by decide, by decide, by decide, by decide, by decide⟩,
    ⟨State.reset, (0, 32), 5, 0, 1, 32, by decide, by decide, by decide, by decide, by decide⟩,
    ⟨State.reset, (0, 112), 5, 0, 1, 111, by decide, by decide, by decide, by decide, (by intro h; revert h; decide)⟩,
    ⟨running, by decide⟩,
    ⟨{ put running [(HLT.LOG_STAT.FLUSH_BUSY, 1)] with log := { staging := [⟨0, 0, false, 1, 0, 0, 0, 0, 0, 0, []⟩] } }, 0, 0, by decide, by decide, by decide⟩,
    ⟨put running [(HLT.LOG_STAT.FLUSH_BUSY, 1)], 1, 0, by decide, by decide, by decide⟩,
    ⟨State.reset, ⟨0, 0, false, 1, 0, 0, 0, 0, 0, 0, []⟩, by decide⟩,
    ⟨{ State.reset with log := { staging := [⟨0, 3, false, 1, 0, 0, 0, 0, 0, 0, []⟩] } }, 0, ⟨0, 3, false, 1, 0, 0, 0, 0, 0, 0, []⟩, by decide⟩,
    ⟨st [(HLT.LOG_STAT.DUMP_BUSY, 1)], by decide⟩,
    ⟨st [(HLT.DUMP_LO.ADDR, 32)], by decide⟩,
    ⟨running, by decide, by decide, by decide⟩,
    ⟨moving [(mvDump, ⟨true, 0x800000000000, 64, [], 64, false⟩)], _, ⟨true, 0x800000000000, 64, [], 64, false⟩, by decide, _, rfl⟩,
    ⟨moving [(mvDump, ⟨true, 0x800000000000, 64, [], 0, true⟩)], _, ⟨true, 0x800000000000, 64, [], 0, true⟩, by decide, rfl⟩,
    ⟨running, 0, by decide⟩,
    ⟨running, 255, 0, 0, by decide, by decide, by decide⟩,
    ⟨put running [(HLT.MC_LOAD.SHED_E, 1)], 255, 0, 0, by decide, by decide, by decide, by decide⟩,
    ⟨{ running with sys := { running.sys with calm := 9 } }, 0, 0, 0, by decide, by decide, by decide, by decide⟩,
    ⟨running, 327680000000, by decide, true, by decide, by decide⟩,
    ⟨put running [(HLT.MC_LOAD.ACTIVE, 1)], 0, by decide, by decide⟩,
    ⟨{ running with sys := { running.sys with mcFail := some 5 } }, 5, 0, by decide⟩,
    ⟨{ running with patch := ⟨[], 0, [⟨2, 1, 0, 1, 0⟩]⟩ }, ⟨2, 1, 0, 1, 0⟩, [], 0, by decide, by decide, by decide⟩,
    ⟨running, And.intro (by decide) (by decide)⟩,
    ⟨put running [(HLT.TEL_CFG.EN, 1), (HLT.TEL_CFG.PERIOD, 1), (HLT.MC_LOAD.SHED_E, 1)], 65536000000, by decide, by decide, by decide, by decide⟩,
    ⟨put running [(HLT.TEL_CFG.EN, 1), (HLT.TEL_CFG.PERIOD, 1)], 65536000000, by decide, by decide, by decide, by decide⟩⟩

theorem wit_service :
  (∃ (s : State) (t0 : Nat), s.noticesOn = true ∧ s.on HLT.MC_LOAD.SHED_E = true) ∧
  (∃ (s : State) (t0 : Nat), s.noticesOn = true ∧ s.on HLT.MC_LOAD.SHED_E = false ∧ s.sys.svc.due = none ∧ s.move mvPoll = none) ∧
  (∃ (s : State) (l : List Byte), s.sys.svc.last = none) ∧
  (∃ (s : State) (l : List Byte), ∃ p, s.sys.svc.last = some p ∧ p ≠ rqSeq l ∧ 1 ≤ rqCmd l ∧ rqCmd l ≤ 3) ∧
  (∃ (s : State) (l : List Byte), s.sys.svc.last = some (rqSeq l)) ∧
  (∃ (s : State) (rq : List Byte) (ups : List Upset) (t0 : Nat), s.mcRuns = true ∧ s.sys.svc.due = some rq ∧ let v := s.advance t0; rqCmd rq = 1) ∧
  (∃ (s : State) (rq : List Byte) (ups : List Upset) (t0 : Nat), s.mcRuns = true ∧ s.sys.svc.due = some rq ∧ let v := s.advance t0; rqCmd rq = 2 ∧ s.sys.svc.result = none) ∧
  (∃ (s : State) (rq : List Byte) (ups : List Upset) (t0 : Nat), s.mcRuns = true ∧ s.sys.svc.due = some rq ∧ let v := s.advance t0; rqCmd rq = 3 ∧ s.sys.svc.result = none) ∧
  (∃ (s : State) (rq : List Byte), let v := s.setSvc { s.sys.svc with due := none }; s.sys.svc.alter ≠ none) ∧
  (∃ (s : State) (rq : List Byte), let v := s.setSvc { s.sys.svc with due := none }; s.sys.svc.alter = none ∧ s.sys.svc.fetch = none ∧ rqClean rq = false) ∧
  (∃ (s : State) (rq l : List Byte) (r : Nat) (list : Bool) (out : List Byte), s.sys.svc.fetch = some rq ∧ State.altCheck (s.setSvc { s.sys.svc with fetch := none }) l (rqLen rq) = (r, list, out) ∧ r ≠ svOk) ∧
  (∃ (s : State) (rq l : List Byte) (r : Nat) (list : Bool) (out : List Byte), s.sys.svc.fetch = some rq ∧ State.altCheck (s.setSvc { s.sys.svc with fetch := none }) l (rqLen rq) = (r, list, out) ∧ r = svOk) ∧
  (∃ (s : State) (a : Alter) (t0 : Nat), s.sys.svc.alter = some a ∧ s.altSlot a.list < 2 ∧ let new := putSectors a.out (s.slotBytes a.list (s.altSlot a.list)); clGen (s.altBase a.list) < clGen (nvTake 24 a.out)) ∧
  (∃ (s : State) (a : Alter) (t0 : Nat), s.sys.svc.alter = some a ∧ s.altSlot a.list < 2 ∧ let new := putSectors a.out (s.slotBytes a.list (s.altSlot a.list)); clGen (nvTake 24 a.out) ≤ clGen (s.altBase a.list)) ∧
  (∃ (s : State) (i t0 : Nat), s.sys.boot.erase = some i ∧ i < 2 ∧ s.phase = phDone) :=
  ⟨⟨put (ul ulUp) [(ULK.NOTICE_HI.EN, 1), (HLT.MC_LOAD.SHED_E, 1)], 0, by decide, by decide⟩,
    ⟨put (ul ulUp) [(ULK.NOTICE_HI.EN, 1)], 0, by decide, by decide, by decide, by decide⟩,
    ⟨State.reset, [], by decide⟩,
    ⟨served { last := some 5 }, leBytes 4 1 ++ leBytes 4 1 ++ leBytes 4 1 ++ leBytes 4 1, 5, by decide, by decide, by decide, by decide⟩,
    ⟨served { last := some 0 }, [], by decide⟩,
    ⟨served { due := some [1, 1, 1, 1, 1, 1, 1, 1] }, [1, 1, 1, 1, 1, 1, 1, 1], [], 0, by decide, by decide, by decide⟩,
    ⟨served { due := some [2, 2, 2, 2, 2, 2, 2, 2] }, [2, 2, 2, 2, 2, 2, 2, 2], [], 0, by decide, by decide, by decide, by decide⟩,
    ⟨served { due := some [3, 3, 3, 3, 3, 3, 3, 3] }, [3, 3, 3, 3, 3, 3, 3, 3], [], 0, by decide, by decide, by decide, by decide⟩,
    ⟨served { alter := some ⟨1, true, []⟩ }, [], by decide⟩,
    ⟨served {}, List.replicate 64 1, by decide, by decide, by decide⟩,
    ⟨served { fetch := some [] }, [], [], _, _, _, by decide, rfl, by decide⟩,
    ⟨served { fetch := some (leBytes 16 0 ++ leBytes 4 84) }, leBytes 16 0 ++ leBytes 4 84, altBytes, svOk, true, [], by decide, by decide, by decide⟩,
    ⟨served { alter := some ⟨1, true, List.replicate 16 0 ++ [1]⟩ }, ⟨1, true, List.replicate 16 0 ++ [1]⟩, 0, by decide, by decide, by decide⟩,
    ⟨served { alter := some ⟨1, true, List.replicate 24 0⟩ }, ⟨1, true, List.replicate 24 0⟩, 0, by decide, by decide, by decide⟩,
    ⟨{ running with sys := { running.sys with boot := { erase := some 1 } } }, 1, 0, by decide, by decide, by decide⟩⟩

theorem wit_flagsAndSequence :
  (∃ (s : State) (head power : Bool) (bench cause off inst : Nat) (r : RegRow) (i : List Nat), regAt off = some (r, i) ∧ ((r.fields.any fun f => f.acc == .sq) = true)) ∧
  (∃ (s : State) (f : Field), 1 ≤ f.width ∧ f.lo ≠ 24) ∧
  (∃ (s : State) (f : Field) (sev : Nat) (detail : List Byte), 1 ≤ f.width ∧ f.lo < 24 ∧ f.key ∉ recorderFields.map Field.key ∧ (seqOf f).key ∉ recorderFields.map Field.key) ∧
  (∃ (s : State) (b : Bank) (off : BitVec 26) (r : RegRow) (i : List Nat), s.sys.vaux = true ∧ regAt off.toNat = some (r, i) ∧ r.wide = false ∧ s.fusedAway off.toNat = false ∧ winShows r.win (s.instOf b.num r i) = true ∧ ((r.fields.any fun f => f.acc == .sq) = true)) ∧
  (∃ (s : State) (b : Bank) (off : BitVec 26) (r : RegRow) (i : List Nat), s.sys.vaux = true ∧ regAt off.toNat = some (r, i) ∧ r.wide = false ∧ s.fusedAway off.toNat = false ∧ winShows r.win (s.instOf b.num r i) = true ∧ ((r.fields.any fun f => f.acc == .sq) = true) ∧ let inst := s.instOf b.num r i; let seq : Field := ⟨off.toNat, 24, 8, inst, 0⟩; let flags := (r.fields.filter fun f => f.acc == .sq && f.width == 1).map (rowField r off.toNat inst); ∃ v : BitVec 64, off.toNat % 4 = 0 ∧ mapped off.toNat = true ∧ s.busyReset b off.toNat = false) :=
  ⟨⟨State.reset, true, true, 5, 10, ULK.EVENT.LOST.off, 0, _, _, rfl, by decide⟩,
    ⟨State.reset, ULK.EVENT.LOST, by decide, by decide⟩,
    ⟨State.reset, ULK.EVENT.LOST, 2, [], by decide, by decide, by decide, by decide⟩,
    ⟨running, .mgmt, BitVec.ofNat 26 ULK.EVENT.LOST.off, _, _, by decide, rfl, by decide, by decide, by decide, by decide⟩,
    ⟨running, .mgmt, BitVec.ofNat 26 ULK.EVENT.LOST.off, _, _, by decide, rfl, by decide, by decide, by decide, by decide, 9, by decide, by decide, by decide⟩⟩

theorem wit_counterSetting :
  (∃ n src inst, n < 112 ∧ src < 4096 ∧ counterOk n src inst = true) ∧
  (∃ (s : State) (n : Fin 112) (v : BitVec 32), s.csrSound ∧ let src := bitsOf v.toNat 16 12; let inst := bitsOf v.toNat 0 16; counterOk n src inst = false) ∧
  (∃ (s : State) (n : Fin 112) (v : BitVec 32), s.csrSound ∧ let src := bitsOf v.toNat 16 12; let inst := bitsOf v.toNat 0 16; counterOk n src inst = true) :=
  ⟨⟨95, 0x101, 0xFFFF, by decide, by decide, by decide⟩,
    ⟨running, 0, 0xFFFFFFF, And.intro (by decide) (by decide), by decide⟩,
    ⟨running, 111, 0, And.intro (by decide) (by decide), by decide⟩⟩


theorem wit_stepRunsFront :
  (∃ s : State, s.pending = []) :=
  ⟨running, by decide⟩


theorem wit_queueKept :
  (∃ (c : Instr) (s t : State), exec c s = .next t) ∧
  (∃ s t : State, step s = .next t) :=
  ⟨⟨.snap, State.reset, _, rfl⟩,
    ⟨State.reset, _, rfl⟩⟩

theorem wit_memoryForm :
  (∃ s t : State, s.memoryWf ∧ step s = .next t) :=
  ⟨State.reset, _, (show Mem.wf _ = true by decide), rfl⟩

end Sys2Proof.Tests
end

section
/-! SUPPORT. The Gauge's changes of state (02_hall_time.md): what each writes and what it leaves alone, and the statements
about them. -/
namespace Sys2Proof.Machine
open Sys2Proof

/-! ### Frames that every chapter shares -/

/-- An event that is not FATAL changes its flag, SEQ and what the recorder keeps, and nothing else. -/
theorem State.raise_onlyEvent (s : State) {f : Field} {v : Nat} (d : List Byte) {l : List Field} (hv : v ≠ 3)
    (hf : f ∈ l) (hs : seqOf f ∈ l) : s.onlyEvent (s.raise f v d) l :=
  ⟨State.raise_frame s f v d hv, State.raise_regsBut s v d (List.mem_append_left _ hf) (List.mem_append_left _ hs)
    fun _ hg => List.mem_append_right _ hg⟩

/-- An event that is not FATAL after a count changes the counter, the flag and SEQ, and what the recorder keeps. -/
theorem State.bump_raise_onlyEvent (s : State) (n : Field) {f : Field} {v : Nat} (d : List Byte) (hv : v ≠ 3) :
    s.onlyEvent ((s.bump n).raise f v d) [n, f, seqOf f] := by
  obtain ⟨hframe, hregs⟩ :=
    State.raise_onlyEvent (s.bump n) (f := f) (l := [n, f, seqOf f]) d hv (by simp) (by simp)
  exact ⟨hframe, State.regsBut_trans (State.regsBut_bump s (by simp)) hregs⟩

/-- A list of fields that an event may change may grow. -/
theorem State.regsButEvent_mono {s t : State} {l k : List Field} (h : s.regsButEvent t l) (hl : ∀ f ∈ l, f ∈ k) :
    s.regsButEvent t k :=
  State.regsBut_mono h fun f hf => (List.mem_append.1 hf).elim (fun h => List.mem_append_left _ (hl f h))
    (List.mem_append_right _)

/-- Where compatibility mode is off and no parity is wrong, a software write that leaves parity as it was is its own
meaning. -/
theorem State.bySoft_of_csrSound {s : State} {f : State → State} (off inst v : Nat) (h : s.csrSound)
    (hf : (f s).sys = s.sys) : s.bySoft off inst v f = f s := by
  obtain ⟨hc, hb⟩ := h
  simp [State.bySoft, hc, hf, hb]

/-! ### Readings of the registers -/

/-- Which domain a state calls active follows from its registers. -/
theorem State.active_congr {s t : State} (h : t.rd GAUGE.STATUS.ACTIVE = s.rd GAUGE.STATUS.ACTIVE) :
    t.active = s.active := congrArg domOf h

/-- Whether the loop is held open follows from LOOP_HOLD and the low word of the safe states. -/
theorem State.loopOpen_congr {s t : State} (h : t.rd GAUGE.CTRL.LOOP_HOLD = s.rd GAUGE.CTRL.LOOP_HOLD)
    (k : t.rd GLB.FAULT_LO.BLOCKS = s.rd GLB.FAULT_LO.BLOCKS) : t.loopOpen = s.loopOpen := by
  simp [State.loopOpen, State.on, State.unsafeBlock, h, k]

@[simp] theorem domOf_num (d : Dom) : domOf (d.num % 2) = d := by cases d <;> rfl

/-! ### Changes of the registers, the Gauge's own state and the recorder -/

/-- The Gauge's own state replaced. -/
def State.setGauge (s : State) (g : Gauge) : State := { s with gauge := g }

/-- Hall time replaced. -/
def State.setNow (s : State) (t : Nat) : State := { s with now := t }

@[simp] theorem State.setGauge_gauge (s : State) (g : Gauge) : (s.setGauge g).gauge = g := rfl
@[simp] theorem State.setGauge_now (s : State) (g : Gauge) : (s.setGauge g).now = s.now := rfl
@[simp] theorem State.setGauge_rd (s : State) (g : Gauge) (f : Field) : (s.setGauge g).rd f = s.rd f := rfl
@[simp] theorem State.setNow_now (s : State) (t : Nat) : (s.setNow t).now = t := rfl
@[simp] theorem State.setNow_rd (s : State) (t : Nat) (f : Field) : (s.setNow t).rd f = s.rd f := rfl

theorem State.setGauge_regsBut (s : State) (g : Gauge) (l : List Field) : s.regsBut (s.setGauge g) l := fun _ _ => rfl

/-- Nothing differs but registers, the Gauge's own state, and what the recorder and the notices keep. -/
def State.onlyGauge (s t : State) : Prop :=
  t = { s with regs := t.regs, log := t.log, notices := t.notices, gauge := t.gauge }

theorem State.onlyGauge_trans {s t u : State} (h : s.onlyGauge t) (k : t.onlyGauge u) : s.onlyGauge u := by
  unfold State.onlyGauge at *
  rw [k, h]

theorem State.wr_onlyGauge (s : State) (f : Field) (v : Nat) : s.onlyGauge (s.wr f v) := rfl

theorem State.setGauge_onlyGauge (s : State) (g : Gauge) : s.onlyGauge (s.setGauge g) := rfl

theorem State.raise_onlyGauge (s : State) (f : Field) {v : Nat} (d : List Byte) (hv : v ≠ 3) :
    s.onlyGauge (s.raise f v d) := by
  unfold State.onlyGauge
  rw [State.raise_gauge]
  exact State.raise_frame s f v d hv

theorem State.onlyGauge_sys {s t : State} (h : s.onlyGauge t) : t.sys = s.sys := by
  unfold State.onlyGauge at h; rw [h]

/-! ### The slot gates (R62) -/

/-- Closing the optical gate ends its run; a gate that was open falls with its event. -/
theorem State.closeOpt_eq (s : State) : s.closeOpt =
    if s.on GAUGE.STATUS.OPT_OK then
      ((s.setGauge { s.gauge with optRun := 0 }).wr GAUGE.STATUS.OPT_OK 0).raise GAUGE.EVENT.OPT_GATE
    else s.setGauge { s.gauge with optRun := 0 } := rfl

theorem State.closeOpt_onlyGauge (s : State) : s.onlyGauge s.closeOpt := by
  rw [State.closeOpt_eq]
  split
  · exact State.onlyGauge_trans (State.onlyGauge_trans (State.setGauge_onlyGauge _ _) (State.wr_onlyGauge _ _ _))
      (State.raise_onlyGauge _ _ _ (by decide))
  · exact State.setGauge_onlyGauge _ _

theorem State.closeOpt_regsButEvent (s : State) :
    s.regsButEvent s.closeOpt [GAUGE.STATUS.OPT_OK, GAUGE.EVENT.OPT_GATE, seqOf GAUGE.EVENT.OPT_GATE] := by
  rw [State.closeOpt_eq]
  split
  · refine State.regsBut_trans ?_ (State.raise_onlyEvent _ _ (by decide) (by decide) (by decide)).2
    exact State.regsBut_trans (State.setGauge_regsBut _ _ _) (State.regsBut_wr _ _ (by decide))
  · exact State.setGauge_regsBut _ _ _

/-- The optical gate reads 0 once it has been closed. -/
theorem State.closeOpt_optOk (s : State) : s.closeOpt.rd GAUGE.STATUS.OPT_OK = 0 := by
  rw [State.closeOpt_eq]
  split
  · rw [State.raise_rd_ne _ _ _ (by decide) (by decide) (by decide), State.rd_wr_self]; rfl
  · next h => simpa [State.on] using h

/-- Closing the copper gate ends its run. -/
theorem State.closeCu_eq (s : State) :
    s.closeCu = (s.setGauge { s.gauge with cuRun := 0 }).wr GAUGE.STATUS.CU_OK 0 := rfl

theorem State.closeCu_onlyGauge (s : State) : s.onlyGauge s.closeCu := rfl

theorem State.closeCu_rd_ne (s : State) {g : Field} (h : g.key ≠ GAUGE.STATUS.CU_OK.key) : s.closeCu.rd g = s.rd g := by
  rw [State.closeCu_eq, State.rd_wr_ne _ _ h, State.setGauge_rd]

@[simp] theorem State.closeCu_cuOk (s : State) : s.closeCu.rd GAUGE.STATUS.CU_OK = 0 := State.rd_wr_self _ _ _

theorem State.closeCu_regsBut (s : State) {l : List Field} (h : GAUGE.STATUS.CU_OK ∈ l) : s.regsBut s.closeCu l :=
  State.regsBut_trans (State.setGauge_regsBut _ _ _) (State.regsBut_wr _ _ h)

/-- SLOT_GATE_RISE in LOCKED after four boundaries within its bound: the gate is open, and nothing else changes. -/
theorem execSlotGateRise_of_locked {s : State} {copper : Bool} (h : s.gState = gLocked)
    (hr : 4 ≤ if copper then s.gauge.cuRun else s.gauge.optRun) :
    execSlotGateRise copper s = .next (s.wr (if copper then GAUGE.STATUS.CU_OK else GAUGE.STATUS.OPT_OK) 1) := by
  have hne : ¬ (s.gState = gFree ∨ s.gState = gReseat) := by rw [h]; decide
  rw [execSlotGateRise, if_neg hne]
  cases copper with
  | false => exact if_pos hr
  | true => exact if_pos hr

/-- A one-bit field written 1 is on, and no other register field changes. -/
theorem State.wr_one_onlyRegs (s : State) {f : Field} (h : f.width = 1) :
    (s.wr f 1).on f = true ∧ s.onlyRegs (s.wr f 1) [f] :=
  ⟨by simp [State.on, h], rfl, State.regsBut_wr s 1 (List.mem_singleton.2 rfl)⟩

/-! ### RESEAT (R46, R47) -/

/-- RESEAT's entry, step by step. -/
theorem State.enterReseat_eq (s : State) : ∃ g : Gauge, s.enterReseat =
    (((s.wr GAUGE.STATUS.STATE gReseat).setGauge g).closeOpt.closeCu.wr GAUGE.EST_ERR.PS 0xFFFFFFFF).raise
      GAUGE.EVENT.RESEAT sevError := ⟨_, rfl⟩

theorem State.enterReseat_onlyGauge (s : State) : s.onlyGauge s.enterReseat := by
  obtain ⟨g, h⟩ := s.enterReseat_eq
  rw [h]
  refine State.onlyGauge_trans ?_ (State.raise_onlyGauge _ _ _ (by decide))
  refine State.onlyGauge_trans ?_ (State.wr_onlyGauge _ _ _)
  refine State.onlyGauge_trans ?_ (State.closeCu_onlyGauge _)
  refine State.onlyGauge_trans ?_ (State.closeOpt_onlyGauge _)
  exact State.onlyGauge_trans (State.wr_onlyGauge _ _ _) (State.setGauge_onlyGauge _ _)

theorem State.enterReseat_regsButEvent (s : State) :
    s.regsButEvent s.enterReseat [GAUGE.STATUS.STATE, GAUGE.STATUS.OPT_OK, GAUGE.STATUS.CU_OK, GAUGE.EST_ERR.PS,
      GAUGE.EVENT.RESEAT, GAUGE.EVENT.OPT_GATE, seqOf GAUGE.EVENT.RESEAT, seqOf GAUGE.EVENT.OPT_GATE] := by
  obtain ⟨g, h⟩ := s.enterReseat_eq
  rw [h]
  refine State.regsBut_trans ?_ (State.raise_onlyEvent _ _ (by decide) (by decide) (by decide)).2
  refine State.regsBut_trans ?_ (State.regsBut_wr _ _ (by decide))
  refine State.regsBut_trans ?_ (State.closeCu_regsBut _ (by decide))
  refine State.regsBut_trans ?_ (State.regsButEvent_mono (State.closeOpt_regsButEvent _) (by decide))
  exact State.regsBut_trans (State.regsBut_wr s _ (by decide)) (State.setGauge_regsBut _ _ _)

/-- What RESEAT shows: its state, both slot gates closed, its flag, and at once an unbounded error (the model's choice in
log entry 9). -/
theorem State.enterReseat_shows (s : State) :
    s.enterReseat.gState = gReseat ∧ s.enterReseat.on GAUGE.STATUS.OPT_OK = false ∧
      s.enterReseat.on GAUGE.STATUS.CU_OK = false ∧ s.enterReseat.rd GAUGE.EST_ERR.PS = 0xFFFFFFFF ∧
      s.enterReseat.rd GAUGE.EVENT.RESEAT = 1 := by
  obtain ⟨g, h⟩ := s.enterReseat_eq
  rw [h]
  refine ⟨?state, ?optical, ?copper, ?error, State.raise_rd_self _ _ _ rfl (by decide) (by decide)⟩
  case state =>
    rw [State.gState, State.raise_rd_ne _ _ _ (by decide) (by decide) (by decide), State.rd_wr_ne _ _ (by decide),
      State.closeCu_rd_ne _ (by decide), State.closeOpt_regsButEvent _ _ (by decide), State.setGauge_rd, State.rd_wr_self]
    rfl
  case optical =>
    rw [State.on, State.raise_rd_ne _ _ _ (by decide) (by decide) (by decide), State.rd_wr_ne _ _ (by decide),
      State.closeCu_rd_ne _ (by decide), State.closeOpt_optOk]
    rfl
  case copper =>
    rw [State.on, State.raise_rd_ne _ _ _ (by decide) (by decide) (by decide), State.rd_wr_ne _ _ (by decide),
      State.closeCu_cuOk]
    rfl
  case error =>
    rw [State.raise_rd_ne _ _ _ (by decide) (by decide) (by decide), State.rd_wr_self]
    rfl

/-- The command RESEAT in a state that runs on a valid domain, and a disagreement of eight frames that the seams do not
vouch for in LOCKED, both enter RESEAT. -/
theorem exec_eq_enterReseat {s : State} {c : Instr}
    (h : (c = .reseat ∧ (s.gState = gLocked ∨ s.gState = gSeamHeld ∨ s.gState = gHoldover) ∧ s.validDom.isSome = true) ∨
      (c = .disagreement ∧ s.gState = gLocked ∧ 8 ≤ s.gauge.disRun ∧ s.gauge.disSeam = false)) :
    exec c s = .next s.enterReseat := by
  rcases h with ⟨rfl, hst, hv⟩ | ⟨rfl, hst, hrun, hseam⟩
  · rw [exec_reseat, execReseat, State.cmdReseat, if_pos ⟨hst, hv⟩]
  · rw [exec_disagreement, execDisagreement, if_pos ⟨hst, hrun⟩, if_neg (by simp [hseam])]

/-! ### A switch of domain (R46, R48, R57) -/

/-- In LOCKED a switch to the valid domain that is not active waits for the frame boundary. -/
theorem State.cmdTo_of_locked {s : State} {d : Dom} (hst : s.gState = gLocked) (hv : s.valid d = true)
    (ha : s.active ≠ d) : s.cmdTo d = { s with gauge := { s.gauge with switchTo := some (d == Dom.b) } } := by
  simp [State.cmdTo, hst, hv, ha, gLocked, gFree, gSettle, gSeamHeld, gReseat]

/-- Settles O1: each switch only notes the domain, and every way into RESEAT is `State.enterReseat`. -/
theorem gaugeSwitchReseat : Obligations.GaugeSwitchReseat := by
  unfold Obligations.GaugeSwitchReseat
  refine ⟨fun s hst hv ha => ?toA, fun s hst hv ha => ?toB, fun s hon hst ha hv hrun => ?revert, fun s c hc => ?reseat⟩
  case toA =>
    rw [exec_toA, execToA, State.cmdTo_of_locked hst hv (by simp [ha])]; rfl
  case toB =>
    rw [exec_toB, execToB, State.cmdTo_of_locked hst hv (by simp [ha])]; rfl
  case revert =>
    rw [exec_revert, execRevert]
    exact if_pos ⟨hon, .inl hst, ha, hv, hrun⟩
  case reseat =>
    obtain ⟨hst, hopt, hcu, hest, hflag⟩ := State.enterReseat_shows s
    exact ⟨s.enterReseat, exec_eq_enterReseat hc, hst, hopt, hcu, hest, hflag, State.enterReseat_onlyGauge s,
      State.enterReseat_regsButEvent s⟩

/-! ### The pulse outputs after a phase step (R73) -/

/-- What every output's step keeps, all eight keep. -/
theorem State.tpoStepped_keeps {α : Type} (p : State → α) (h : ∀ (s : State) (n : Nat), p (s.tpoAfterStep n) = p s)
    (s : State) : p s.tpoStepped = p s :=
  List.foldlRecOn (motive := fun t => p t = p s) _ _ rfl fun t ht n _ => (h t n).trans ht

@[simp] theorem State.tpoStepped_now (s : State) : s.tpoStepped.now = s.now :=
  State.tpoStepped_keeps State.now (fun _ _ => rfl) s

theorem State.tpoStepped_regsBut (s : State) {l : List Field} (h : TIO.COUNTS.TPO_SKIP ∈ l) :
    s.regsBut s.tpoStepped l := fun g hg =>
  State.tpoStepped_keeps (·.rd g) (fun t n =>
    State.regsBut_trans (State.regsBut_of_regs (t := t.setPulse n _) rfl l) (State.regsBut_wr _ _ h) g hg) s

/-! ### SETTLE (R46) -/

@[simp] theorem State.dcoTo_regs (s : State) (d : Dom) : (s.dcoTo d).regs = s.regs := by
  unfold State.dcoTo; split <;> rfl

@[simp] theorem State.dcoTo_rd (s : State) (d : Dom) (g : Field) : (s.dcoTo d).rd g = s.rd g :=
  congrArg (Tbl.lookD · g.reset g.key) (State.dcoTo_regs s d)

@[simp] theorem State.dcoTo_now (s : State) (d : Dom) : (s.dcoTo d).now = s.now := by
  unfold State.dcoTo; split <;> rfl

/-- SETTLE's entry writes STATE, ACTIVE and GEAR, steers the DCO, and sets the Gauge's own state. -/
theorem State.enterSettle_eq (s : State) (d : Dom) : ∃ g : Gauge, s.enterSettle d =
    ((((s.wr GAUGE.STATUS.STATE gSettle).wr GAUGE.STATUS.ACTIVE d.num).wr GAUGE.STATUS.GEAR 0).dcoTo d).setGauge g :=
  ⟨_, rfl⟩

@[simp] theorem State.enterSettle_now (s : State) (d : Dom) : (s.enterSettle d).now = s.now := by
  obtain ⟨g, h⟩ := s.enterSettle_eq d
  simp [h]

theorem State.enterSettle_rd (s : State) (d : Dom) (g : Field) : (s.enterSettle d).rd g =
    (((s.wr GAUGE.STATUS.STATE gSettle).wr GAUGE.STATUS.ACTIVE d.num).wr GAUGE.STATUS.GEAR 0).rd g := by
  obtain ⟨x, h⟩ := s.enterSettle_eq d
  rw [h, State.setGauge_rd, State.dcoTo_rd]

theorem State.enterSettle_regsBut (s : State) (d : Dom) {l : List Field} (hs : GAUGE.STATUS.STATE ∈ l)
    (ha : GAUGE.STATUS.ACTIVE ∈ l) (hg : GAUGE.STATUS.GEAR ∈ l) : s.regsBut (s.enterSettle d) l := fun g h =>
  (State.enterSettle_rd s d g).trans <| State.regsBut_trans
    (State.regsBut_trans (State.regsBut_wr s _ hs) (State.regsBut_wr _ _ ha)) (State.regsBut_wr _ _ hg) g h

@[simp] theorem State.enterSettle_gState (s : State) (d : Dom) : (s.enterSettle d).gState = gSettle := by
  rw [State.gState, State.enterSettle_rd, State.rd_wr_ne _ _ (by decide), State.rd_wr_ne _ _ (by decide),
    State.rd_wr_self]; rfl

@[simp] theorem State.enterSettle_active (s : State) (d : Dom) : (s.enterSettle d).active = d := by
  rw [State.active, State.enterSettle_rd, State.rd_wr_ne _ _ (by decide), State.rd_wr_self]; exact domOf_num d

@[simp] theorem State.enterSettle_gear (s : State) (d : Dom) : (s.enterSettle d).rd GAUGE.STATUS.GEAR = 0 := by
  rw [State.enterSettle_rd, State.rd_wr_self]; rfl

@[simp] theorem State.clearSum_now (s : State) : s.clearSum.now = s.now := rfl

@[simp] theorem State.clearSum_rd (s : State) (g : Field) : s.clearSum.rd g = s.rd g := rfl

/-- SETTLE entered from FREE on domain `d`, whose provisional time was `m` when the counter read `c` (R83). -/
def State.settled (s : State) (d : Dom) (m c : Nat) : State :=
  let t := ((s.setNow ((m + (s.now - c)) / 65536 * 65536 + s.now % 65536)).tpoStepped.enterSettle d).clearSum
  t.setGauge { t.gauge with eHist := [], thHist := [] }

theorem State.settled_now (s : State) (d : Dom) (m c : Nat) :
    (s.settled d m c).now = (m + (s.now - c)) / 65536 * 65536 + s.now % 65536 := by simp [State.settled]

/-- What SETTLE's entry leaves in the registers is what `enterSettle` leaves. -/
theorem State.settled_rd (s : State) (d : Dom) (m c : Nat) (g : Field) : (s.settled d m c).rd g =
    ((s.setNow ((m + (s.now - c)) / 65536 * 65536 + s.now % 65536)).tpoStepped.enterSettle d).rd g := by
  rw [State.settled, State.setGauge_rd, State.clearSum_rd]

theorem State.settled_gState (s : State) (d : Dom) (m c : Nat) : (s.settled d m c).gState = gSettle :=
  (State.settled_rd s d m c _).trans (State.enterSettle_gState _ d)

theorem State.settled_active (s : State) (d : Dom) (m c : Nat) : (s.settled d m c).active = d :=
  (State.active_congr (State.settled_rd s d m c _)).trans (State.enterSettle_active _ d)

theorem State.settled_gear (s : State) (d : Dom) (m c : Nat) : (s.settled d m c).rd GAUGE.STATUS.GEAR = 0 := by
  rw [State.settled_rd, State.enterSettle_gear]

theorem State.settled_errSum (s : State) (d : Dom) (m c : Nat) : (s.settled d m c).gauge.errSum = 0 := rfl

theorem State.settled_regsBut (s : State) (d : Dom) (m c : Nat) : s.regsBut (s.settled d m c)
    [GAUGE.STATUS.STATE, GAUGE.STATUS.ACTIVE, GAUGE.STATUS.GEAR, GAUGE.EST_ERR.PS, TIO.COUNTS.TPO_SKIP] := fun g h => by
  rw [State.settled_rd, State.enterSettle_regsBut _ d (by decide) (by decide) (by decide) g h,
    State.tpoStepped_regsBut _ (by decide) g h, State.setNow_rd]

/-- Entering SETTLE does not hold the loop open or close it. -/
theorem State.settled_loopOpen (s : State) (d : Dom) (m c : Nat) : (s.settled d m c).loopOpen = s.loopOpen :=
  State.loopOpen_congr (State.settled_regsBut s d m c _ (by decide)) (State.settled_regsBut s d m c _ (by decide))

/-- SETTLE_ENTRY where the preferred domain fits and the loop is closed. -/
theorem execSettleEntry_of_fit {s : State} {t m c : Nat} (hst : s.gState = gFree) (hen : s.on GAUGE.CTRL.ENABLE = true)
    (hfit : s.settleFit s.pref = true) (hprov : (s.port s.pref).prov = some (m, c)) (hopen : s.loopOpen = false) :
    execSettleEntry t s = .next ((s.advance t).settled s.pref m c) := by
  have hfit' : (s.advance t).settleFit (s.advance t).pref = true := hfit
  have hprov' : ((s.advance t).port (s.advance t).pref).prov = some (m, c) := hprov
  have hopen' : ((s.advance t).settled s.pref m c).loopOpen = false := (State.settled_loopOpen _ _ _ _).trans hopen
  unfold execSettleEntry
  dsimp only
  rw [if_pos hfit', if_pos ⟨hst, hen, hfit'⟩, hprov']
  exact congrArg Host.Outcome.next (if_neg (by rw [Bool.not_eq_true]; exact hopen'))

/-! ### LOCKED and HOLDOVER (R46) -/

/-- GEAR_COMPLETE once the gear's frames have run on a valid domain. -/
theorem execGearComplete_of_run {s : State} (hst : s.gState = gSettle) (hv : s.valid s.active = true)
    (hrun : s.rd GAUGE.GEAR.FRAMES ≤ s.gauge.gearRun) (hn : s.rd GAUGE.GEAR.FRAMES ≠ 0) :
    execGearComplete s = .next s.enterLocked.clearSum :=
  if_pos ⟨hst, hv, hrun, .inl hn⟩

/-- LOCKED's entry writes STATE and GEAR and sets the Gauge's own state. -/
theorem State.enterLocked_eq (s : State) : ∃ g : Gauge,
    s.enterLocked = ((s.wr GAUGE.STATUS.STATE gLocked).wr GAUGE.STATUS.GEAR 1).setGauge g := ⟨_, rfl⟩

theorem State.enterLocked_gState (s : State) : s.enterLocked.gState = gLocked := by
  obtain ⟨g, h⟩ := s.enterLocked_eq
  rw [h, State.gState, State.setGauge_rd, State.rd_wr_ne _ _ (by decide), State.rd_wr_self]; rfl

theorem State.enterLocked_gear (s : State) : s.enterLocked.rd GAUGE.STATUS.GEAR = 1 := by
  obtain ⟨g, h⟩ := s.enterLocked_eq
  rw [h, State.setGauge_rd, State.rd_wr_self]; rfl

theorem State.enterLocked_regsBut (s : State) : s.regsBut s.enterLocked [GAUGE.STATUS.STATE, GAUGE.STATUS.GEAR] := by
  obtain ⟨g, h⟩ := s.enterLocked_eq
  rw [h]
  refine State.regsBut_trans ?_ (State.setGauge_regsBut _ _ _)
  exact State.regsBut_trans (State.regsBut_wr s _ (by decide)) (State.regsBut_wr _ _ (by decide))

/-- HOLDOVER's entry writes STATE, sets the Gauge's own state and raises its event. -/
theorem State.enterHoldover_eq (s : State) (marked : Bool) (est : Nat) : ∃ g : Gauge,
    g.marked = marked ∧ g.holdEst = est ∧
      s.enterHoldover marked est = ((s.wr GAUGE.STATUS.STATE gHoldover).setGauge g).raise GAUGE.EVENT.HOLDOVER :=
  ⟨_, rfl, rfl, rfl⟩

theorem State.enterHoldover_onlyGauge (s : State) (marked : Bool) (est : Nat) :
    s.onlyGauge (s.enterHoldover marked est) := by
  obtain ⟨g, -, -, h⟩ := s.enterHoldover_eq marked est
  rw [h]
  refine State.onlyGauge_trans ?_ (State.raise_onlyGauge _ _ _ (by decide))
  exact State.onlyGauge_trans (State.wr_onlyGauge _ _ _) (State.setGauge_onlyGauge _ _)

theorem State.enterHoldover_regsButEvent (s : State) (marked : Bool) (est : Nat) :
    s.regsButEvent (s.enterHoldover marked est)
      [GAUGE.STATUS.STATE, GAUGE.EVENT.HOLDOVER, seqOf GAUGE.EVENT.HOLDOVER] := by
  obtain ⟨g, -, -, h⟩ := s.enterHoldover_eq marked est
  rw [h]
  refine State.regsBut_trans ?_ (State.raise_onlyEvent _ _ (by decide) (by decide) (by decide)).2
  exact State.regsBut_trans (State.regsBut_wr s _ (by decide)) (State.setGauge_regsBut _ _ _)

theorem State.enterHoldover_gState (s : State) (marked : Bool) (est : Nat) :
    (s.enterHoldover marked est).gState = gHoldover := by
  obtain ⟨g, -, -, h⟩ := s.enterHoldover_eq marked est
  rw [h, State.gState, State.raise_rd_ne _ _ _ (by decide) (by decide) (by decide), State.setGauge_rd, State.rd_wr_self]
  rfl

theorem State.enterHoldover_marked (s : State) (marked : Bool) (est : Nat) :
    (s.enterHoldover marked est).gauge.marked = marked := by
  obtain ⟨g, hm, -, h⟩ := s.enterHoldover_eq marked est
  rw [h, State.raise_gauge, State.setGauge_gauge, hm]

theorem State.enterHoldover_holdEst (s : State) (marked : Bool) (est : Nat) :
    (s.enterHoldover marked est).gauge.holdEst = est := by
  obtain ⟨g, -, he, h⟩ := s.enterHoldover_eq marked est
  rw [h, State.raise_gauge, State.setGauge_gauge, he]

theorem State.enterHoldover_flag (s : State) (marked : Bool) (est : Nat) :
    (s.enterHoldover marked est).rd GAUGE.EVENT.HOLDOVER = 1 := by
  obtain ⟨g, -, -, h⟩ := s.enterHoldover_eq marked est
  rw [h]
  exact State.raise_rd_self _ _ _ rfl (by decide) (by decide)

/-- LOOP_HOLD set in LOCKED: HOLDOVER is entered, unmarked, with the estimate that is shown. -/
theorem execLoopHold_of_locked {s : State} (hs : s.csrSound) (hst : s.gState = gLocked) :
    execLoopHold true s =
      .next ((s.wrB GAUGE.CTRL.LOOP_HOLD true).enterHoldover false (s.rd GAUGE.EST_ERR.PS)) := by
  have hst' : (s.wrB GAUGE.CTRL.LOOP_HOLD true).gState = gLocked := (State.rd_wrB_ne s _ (by decide)).trans hst
  have hest : (s.wrB GAUGE.CTRL.LOOP_HOLD true).rd GAUGE.EST_ERR.PS = s.rd GAUGE.EST_ERR.PS :=
    State.rd_wrB_ne s _ (by decide)
  have hw : s.writeLoopHold true =
      (s.wrB GAUGE.CTRL.LOOP_HOLD true).enterHoldover false (s.rd GAUGE.EST_ERR.PS) := by
    simp [State.writeLoopHold, hst', hest, gLocked, gSettle]
  rw [execLoopHold, State.bySoft_of_csrSound _ _ _ hs, hw]
  rw [hw]; exact (State.onlyGauge_sys (State.enterHoldover_onlyGauge _ _ _)).trans (State.wrB_sys s _ _)

/-! ### The loop coefficients (R45) -/

/-- The tracking coefficients written under LOOP_HOLD. -/
theorem execGaugeCoefWrite_of_held {s : State} (v : BitVec 32) (hs : s.csrSound)
    (hon : s.on GAUGE.CTRL.LOOP_HOLD = true) : execGaugeCoefWrite true v s =
      .next ((s.wr GAUGE.LOOP_TRK.KP (v.toNat / 65536)).wr GAUGE.LOOP_TRK.KI (v.toNat % 65536)) := by
  have hw : s.writeGaugeCoef true v.toNat =
      (s.wr GAUGE.LOOP_TRK.KP (v.toNat / 65536)).wr GAUGE.LOOP_TRK.KI (v.toNat % 65536) := by
    simp [State.writeGaugeCoef, hon]
  rw [execGaugeCoefWrite, State.bySoft_of_csrSound _ _ _ hs, hw]
  rw [hw]; rfl

/-- A write of coefficients outside FREE and without LOOP_HOLD is counted and flagged. -/
theorem execGaugeCoefWrite_of_refused {s : State} (trk : Bool) (v : BitVec 32) (hs : s.csrSound)
    (hoff : s.on GAUGE.CTRL.LOOP_HOLD = false) (hst : s.gState ≠ gFree) : execGaugeCoefWrite trk v s =
      .next ((s.bump GAUGE.COUNTS.COEF_REFUSED).raise GAUGE.EVENT.COEF_REFUSED) := by
  have hw : s.writeGaugeCoef trk v.toNat = (s.bump GAUGE.COUNTS.COEF_REFUSED).raise GAUGE.EVENT.COEF_REFUSED := by
    simp [State.writeGaugeCoef, hoff, hst]
  rw [execGaugeCoefWrite, State.bySoft_of_csrSound _ _ _ hs, hw]
  rw [hw]; exact State.raise_sys _ _ _ _ (by decide)

/-- Settles O3: each command answers one named change of state, whose laws stand above. -/
theorem gaugeSettleGates : Obligations.GaugeSettleGates := by
  unfold Obligations.GaugeSettleGates
  refine ⟨fun s t m c hst hen hfit hprov hopen => ?settle, fun s hst hv hrun hn => ?gear, fun s hs hst => ?hold,
    fun s hst hr => ?optical, fun s hst hr => ?copper, fun s v hs hon => ?taken, fun s trk v hs hoff hst => ?refused⟩
  case settle =>
    exact ⟨(s.advance t).settled s.pref m c, execSettleEntry_of_fit hst hen hfit hprov hopen, State.settled_gState _ _ _ _,
      State.settled_active _ _ _ _, State.settled_gear _ _ _ _, State.settled_now _ _ _ _, State.settled_errSum _ _ _ _,
      State.settled_regsBut (s.advance t) _ _ _⟩
  case gear =>
    exact ⟨_, execGearComplete_of_run hst hv hrun hn, State.enterLocked_gState s, State.enterLocked_gear s, rfl, rfl,
      State.enterLocked_regsBut s⟩
  case hold =>
    refine ⟨_, execLoopHold_of_locked hs hst, State.enterHoldover_gState _ _ _, ?_, State.enterHoldover_marked _ _ _,
      State.enterHoldover_holdEst _ _ _, State.enterHoldover_flag _ _ _, ?_⟩
    · rw [State.on, State.enterHoldover_regsButEvent _ _ _ _ (by decide), State.rd_wrB_self]; rfl
    · exact State.regsBut_trans (State.regsBut_wr s _ (by decide))
        (State.regsButEvent_mono (State.enterHoldover_regsButEvent _ _ _) (by decide))
  case optical =>
    exact ⟨_, execSlotGateRise_of_locked (copper := false) hst hr, State.wr_one_onlyRegs s rfl⟩
  case copper =>
    exact ⟨_, execSlotGateRise_of_locked (copper := true) hst hr, State.wr_one_onlyRegs s rfl⟩
  case taken =>
    refine ⟨_, execGaugeCoefWrite_of_held v hs hon, ?_, ?_, rfl, ?_⟩
    · have hlt := v.isLt
      rw [State.rd_wr_ne _ _ (by decide), State.rd_wr_self]
      exact Nat.mod_eq_of_lt (by change v.toNat / 65536 < 65536; omega)
    · rw [State.rd_wr_self]; exact Nat.mod_mod _ _
    · exact State.regsBut_trans (State.regsBut_wr s _ (by decide)) (State.regsBut_wr _ _ (by decide))
  case refused =>
    refine ⟨_, execGaugeCoefWrite_of_refused trk v hs hoff hst, State.raise_rd_self _ _ _ rfl (by decide) (by decide), ?_,
      State.bump_raise_onlyEvent s _ _ (by decide)⟩
    rw [State.raise_rd_ne _ _ _ (by decide) (by decide) (by decide), State.rd_bump_self]

end Sys2Proof.Machine
end

section
/-! SUPPORT. Time at the edges (03_time_edges.md): what the operations of the pulse outputs, the capture inputs, the time
ports and the job triggers write and what they leave alone, and the statements about them. -/
namespace Sys2Proof.Machine
open Sys2Proof

/-! ### Readings that time and other parts do not touch -/

theorem State.on_wr_ne (s : State) {f g : Field} (v : Nat) (h : g.key ≠ f.key) : (s.wr f v).on g = s.on g :=
  congrArg (· != 0) (State.rd_wr_ne s v h)

@[simp] theorem State.advance_gState (s : State) (t : Nat) : (s.advance t).gState = s.gState := rfl
@[simp] theorem State.advance_unsafeBlock (s : State) (t b : Nat) : (s.advance t).unsafeBlock b = s.unsafeBlock b := rfl
@[simp] theorem State.advance_port (s : State) (t : Nat) (p : Dom) : (s.advance t).port p = s.port p := rfl
@[simp] theorem State.advance_pulse (s : State) (t n : Nat) : (s.advance t).pulse n = s.pulse n := rfl
@[simp] theorem State.advance_cap (s : State) (t n : Nat) : (s.advance t).cap n = s.cap n := rfl
@[simp] theorem State.advance_portUp (s : State) (t : Nat) (p : Dom) : (s.advance t).portUp p = s.portUp p := rfl

/-! ### Time ports: the record and its registers -/

@[simp] theorem State.setPort_port_self (s : State) (p : Dom) (x : TimePort) : (s.setPort p x).port p = x := by
  cases p <;> rfl

@[simp] theorem State.wr_port (s : State) (f : Field) (v : Nat) (p : Dom) : (s.wr f v).port p = s.port p := rfl

@[simp] theorem State.wrSat_port (s : State) (f : Field) (v : Nat) (p : Dom) : (s.wrSat f v).port p = s.port p := rfl

theorem State.setPort_regsBut (s : State) (p : Dom) (x : TimePort) (l : List Field) : s.regsBut (s.setPort p x) l :=
  State.regsBut_of_regs (State.setPort_regs s p x) l

@[simp] theorem State.setPort_on (s : State) (p : Dom) (x : TimePort) (f : Field) : (s.setPort p x).on f = s.on f :=
  congrArg (· != 0) (State.setPort_rd s p x f)

@[simp] theorem State.portState_port (s : State) (p q : Dom) : (s.portState p).port q = s.port q := rfl

theorem State.portState_rd_ne (s : State) (p : Dom) {g : Field} (h : g.key ≠ (TIO.TP_STAT.PSTATE (portNum p)).key) :
    (s.portState p).rd g = s.rd g := State.rd_wr_ne s _ h

theorem State.portState_regsBut (s : State) (p : Dom) {l : List Field} (h : TIO.TP_STAT.PSTATE (portNum p) ∈ l) :
    s.regsBut (s.portState p) l := State.regsBut_wr s _ h

/-- An enabled port without block lock shows PSTATE 1 (R527). -/
theorem State.portState_of_unlinked {s : State} {p : Dom} (hen : s.on (TIO.TP_CFG.EN (portNum p)) = true)
    (hlink : s.on (TIO.TP_STAT.LINK (portNum p)) = false) :
    (s.portState p).rd (TIO.TP_STAT.PSTATE (portNum p)) = 1 := by
  simp [State.portState, hen, hlink, TIO.TP_STAT.PSTATE]

/-- A port with block lock and no master shows PSTATE 2 (R527). -/
theorem State.portState_of_noMaster {s : State} {p : Dom} (hen : s.on (TIO.TP_CFG.EN (portNum p)) = true)
    (hlink : s.on (TIO.TP_STAT.LINK (portNum p)) = true) (hgm : (s.port p).gm = none) :
    (s.portState p).rd (TIO.TP_STAT.PSTATE (portNum p)) = 2 := by
  simp [State.portState, hen, hlink, hgm, TIO.TP_STAT.PSTATE]

/-! ### Time ports: a sample recorded (R83, R40) -/

/-- A void sample, step by step. -/
theorem State.ptpRecord_void (s : State) (p : Dom) : ∃ good : Nat, s.ptpRecord p none =
    ((s.setPort p { s.port p with
      results := (false :: (s.port p).results).take 8, lastOff := none, lastPair := s.now }).wr
        (TIO.TP_STAT.GOOD8 (portNum p)) good).wr (TIO.TP_STAT.PSTATE (portNum p)) 3 := ⟨_, rfl⟩

/-- A sample with an offset, step by step. -/
theorem State.ptpRecord_offset (s : State) (p : Dom) (o : Int) : ∃ (r : List Bool) (good off state : Nat),
    s.ptpRecord p (some o) =
      (((s.setPort p { s.port p with results := r, lastOff := some o, lastPair := s.now }).wr
        (TIO.TP_STAT.GOOD8 (portNum p)) good).wr (TIO.TP_OFFSET.OFFSET (portNum p)) off).wr
          (TIO.TP_STAT.PSTATE (portNum p)) state := ⟨_, _, _, _, rfl⟩

@[simp] theorem State.ptpRecord_lastOff (s : State) (p : Dom) (off : Option Int) :
    ((s.ptpRecord p off).port p).lastOff = off := by
  cases off with
  | none => obtain ⟨good, h⟩ := s.ptpRecord_void p; simp [h]
  | some o => obtain ⟨r, good, o', state, h⟩ := s.ptpRecord_offset p o; simp [h]

theorem State.ptpRecord_void_regsBut (s : State) (p : Dom) {l : List Field} (hg : TIO.TP_STAT.GOOD8 (portNum p) ∈ l)
    (hs : TIO.TP_STAT.PSTATE (portNum p) ∈ l) : s.regsBut (s.ptpRecord p none) l := by
  obtain ⟨good, h⟩ := s.ptpRecord_void p
  rw [h]
  exact State.regsBut_trans (State.regsBut_trans (State.setPort_regsBut s _ _ _) (State.regsBut_wr _ _ hg))
    (State.regsBut_wr _ _ hs)

theorem State.ptpRecord_regsBut (s : State) (p : Dom) (off : Option Int) {l : List Field}
    (hg : TIO.TP_STAT.GOOD8 (portNum p) ∈ l) (hs : TIO.TP_STAT.PSTATE (portNum p) ∈ l)
    (ho : TIO.TP_OFFSET.OFFSET (portNum p) ∈ l) : s.regsBut (s.ptpRecord p off) l := by
  cases off with
  | none => exact State.ptpRecord_void_regsBut s p hg hs
  | some o =>
    obtain ⟨r, good, o', state, h⟩ := s.ptpRecord_offset p o
    rw [h]
    refine State.regsBut_trans (State.regsBut_trans ?_ (State.regsBut_wr _ _ ho)) (State.regsBut_wr _ _ hs)
    exact State.regsBut_trans (State.setPort_regsBut s _ _ _) (State.regsBut_wr _ _ hg)

/-! ### Time ports: the messages (R81-R84) -/

/-- A two-step Sync of the selected master waits for its Follow_Up (R82; the model's choice in log entry 31). -/
theorem execSync_of_twoStep {s : State} {p : Dom} {domain sender : Nat} (t seqId : Nat) (hup : s.portUp p = true)
    (hdom : domain = s.rd (TIO.TP_CFG.DOMAIN (portNum p))) (hpar : (s.port p).parent = some sender) :
    execSync p t true domain sender seqId s = .next ((s.advance t).setPort p { s.port p with sync := some (seqId, t) }) := by
  simp [execSync, hup, hdom, hpar]

/-- The state that a completed pair leaves: the sample recorded, then the pair and the provisional time (R83). -/
def State.paired (s : State) (p : Dom) (origin rx : Nat) : State :=
  let u := s.ptpRecord p (s.ptpOffset p rx origin)
  u.setPort p { u.port p with
    sync := none, pair := some ((rx : Int) - origin)
    prov := some (((origin : Int) + s.rd (TIO.TP_MPD.MPD (portNum p)) + s.asymmetry p).toNat, rx) }

/-- A Follow_Up of the Sync that waits for it completes the pair. -/
theorem execFollowUp_of_waiting {s : State} {p : Dom} {domain sender seqId rx : Nat} (t origin : Nat)
    (hup : s.portUp p = true) (hdom : domain = s.rd (TIO.TP_CFG.DOMAIN (portNum p)))
    (hpar : (s.port p).parent = some sender) (hsync : (s.port p).sync = some (seqId, rx)) :
    execFollowUp p t domain sender seqId origin s = .next ((s.advance t).paired p origin rx) := by
  simp [execFollowUp, State.paired, hup, hdom, hpar, hsync]

/-- A completed pair waits for nothing more, and holds its difference and the master's time of its receive stamp. -/
theorem State.paired_port (s : State) (p : Dom) (origin rx : Nat) :
    ((s.paired p origin rx).port p).sync = none ∧
      ((s.paired p origin rx).port p).pair = some ((rx : Int) - origin) ∧
      ((s.paired p origin rx).port p).prov =
        some (((origin : Int) + s.rd (TIO.TP_MPD.MPD (portNum p)) + s.asymmetry p).toNat, rx) := by
  rw [State.paired, State.setPort_port_self]
  exact ⟨rfl, rfl, rfl⟩

theorem State.paired_lastOff (s : State) (p : Dom) (origin rx : Nat) :
    ((s.paired p origin rx).port p).lastOff = s.ptpOffset p rx origin := by simp [State.paired]

theorem State.paired_regsBut (s : State) (p : Dom) (origin rx : Nat) : s.regsBut (s.paired p origin rx)
    [TIO.TP_STAT.GOOD8 (portNum p), TIO.TP_STAT.PSTATE (portNum p), TIO.TP_OFFSET.OFFSET (portNum p)] :=
  State.regsBut_trans (State.ptpRecord_regsBut s p _ (by simp) (by simp) (by simp)) (State.setPort_regsBut _ _ _ _)

/-- A Delay_Req with room in the queue: its stamp is queued, and it waits for its answer (R84). -/
theorem execDelayReq_of_room {s : State} {p : Dom} (t seqId : Nat) (hup : s.portUp p = true)
    (hgm : (s.port p).gm.isSome = true) (hroom : (s.port p).txq.length < 8) :
    execDelayReq p t seqId s = .next ((s.advance t).setPort p
      { s.port p with txq := (s.port p).txq ++ [⟨t, 1, seqId⟩], dreq := some (seqId, t) }) := by
  have hgm' : (s.port p).gm.isNone = false := by simpa using hgm
  simp [execDelayReq, hup, hgm', Nat.not_le.2 hroom]

/-- The answer of the Delay_Req that waits for it gives meanPathDelay, held to what the register takes (R83). -/
theorem execDelayResp_of_waiting {s : State} {p : Dom} {domain seqId tx : Nat} {d : Int} (t receive : Nat)
    (hup : s.portUp p = true) (hdom : domain = s.rd (TIO.TP_CFG.DOMAIN (portNum p)))
    (hreq : (s.port p).dreq = some (seqId, tx)) (hpair : (s.port p).pair = some d) :
    execDelayResp p t domain seqId receive s =
      .next (((s.advance t).setPort p { s.port p with dreq := none, hasMpd := true }).wrSat
        (TIO.TP_MPD.MPD (portNum p)) ((d + ((receive : Int) - tx)) / 2).toNat) := by
  simp [execDelayResp, hup, hdom, hreq, hpair]

/-! ### Time ports: the master (R81, R83, R527) -/

/-- The state in which the first grandmaster of a port is selected: no GM_CHANGE (the model's choice in log entry 30). -/
def State.firstMaster (s : State) (p : Dom) (m : AnnounceMsg) : State :=
  ((s.wr (TIO.TP_GM.CLOCK_ID (portNum p)) m.gm).setPort p { s.port p with
    parent := some m.sender, gm := some m.gm, lastGm := some m.gm, sync := none, hasMpd := false }).wr
      (TIO.TP_STAT.PSTATE (portNum p)) 3

theorem State.selectMaster_of_first {s : State} {p : Dom} (m : AnnounceMsg) (hgm : (s.port p).gm = none)
    (hlast : (s.port p).lastGm = none) : s.selectMaster p m = s.firstMaster p m := by
  simp [State.selectMaster, State.firstMaster, hgm, hlast]

@[simp] theorem State.firstMaster_port (s : State) (p : Dom) (m : AnnounceMsg) :
    (s.firstMaster p m).port p = { s.port p with
      parent := some m.sender, gm := some m.gm, lastGm := some m.gm, sync := none, hasMpd := false } := by
  simp [State.firstMaster]

theorem State.firstMaster_clockId (s : State) (p : Dom) (m : AnnounceMsg) :
    (s.firstMaster p m).rd (TIO.TP_GM.CLOCK_ID (portNum p)) = m.gm % 2 ^ 64 := by
  rw [State.firstMaster, State.rd_wr_ne _ _ (by cases p <;> decide), State.setPort_rd, State.rd_wr_self]; rfl

theorem State.firstMaster_pstate (s : State) (p : Dom) (m : AnnounceMsg) :
    (s.firstMaster p m).rd (TIO.TP_STAT.PSTATE (portNum p)) = 3 := State.rd_wr_self _ _ _

theorem State.firstMaster_regsBut (s : State) (p : Dom) (m : AnnounceMsg) :
    s.regsBut (s.firstMaster p m) [TIO.TP_GM.CLOCK_ID (portNum p), TIO.TP_STAT.PSTATE (portNum p)] := by
  refine State.regsBut_trans ?_ (State.regsBut_wr _ _ (by simp))
  exact State.regsBut_trans (State.regsBut_wr s _ (by simp)) (State.setPort_regsBut _ _ _ _)

theorem State.firstMaster_active (s : State) (p : Dom) (m : AnnounceMsg) : (s.firstMaster p m).active = s.active :=
  State.active_congr (State.firstMaster_regsBut s p m _ (by cases p <;> decide))

/-- The first Announce of a port whose domain is not active selects its master; the UTC report stays as it was. -/
theorem execAnnounce_of_first {s : State} {p : Dom} {domain : Nat} (t : Nat) (m : AnnounceMsg) (hup : s.portUp p = true)
    (hdom : domain = s.rd (TIO.TP_CFG.DOMAIN (portNum p))) (hms : (s.port p).masters = [])
    (hlast : (s.port p).lastGm = none) (hgm : (s.port p).gm = none) (hact : s.active ≠ p) :
    execAnnounce p t domain m s =
      .next (((s.advance t).setPort p { s.port p with masters := [(m, t)] }).firstMaster p m) := by
  have hsel := State.selectMaster_of_first (s := (s.advance t).setPort p { s.port p with masters := [(m, t)] }) (p := p) m
    (by simp [hgm]) (by simp [hlast])
  have hact' : (((s.advance t).setPort p { s.port p with masters := [(m, t)] }).firstMaster p m).active ≠ p := by
    rw [State.firstMaster_active, State.active, State.setPort_rd]; exact hact
  simp [execAnnounce, hup, hdom, hms, bestMaster, hsel, hact']

/-- The state that a port without its master is left in: `x` its record, CLOCK_ID zero, PSTATE settled. -/
def State.masterLost (s : State) (p : Dom) (x : TimePort) : State :=
  ((s.setPort p x).wr (TIO.TP_GM.CLOCK_ID (portNum p)) 0).portState p

@[simp] theorem State.masterLost_port (s : State) (p : Dom) (x : TimePort) : (s.masterLost p x).port p = x := by
  simp [State.masterLost]

theorem State.masterLost_clockId (s : State) (p : Dom) (x : TimePort) :
    (s.masterLost p x).rd (TIO.TP_GM.CLOCK_ID (portNum p)) = 0 := by
  rw [State.masterLost, State.portState_rd_ne _ _ (by cases p <;> decide), State.rd_wr_self]; exact Nat.zero_mod _

/-- Losing the master leaves every register but CLOCK_ID and PSTATE. -/
theorem State.masterLost_regsBut (s : State) (p : Dom) (x : TimePort) {l : List Field}
    (hc : TIO.TP_GM.CLOCK_ID (portNum p) ∈ l) (hs : TIO.TP_STAT.PSTATE (portNum p) ∈ l) :
    s.regsBut (s.masterLost p x) l :=
  State.regsBut_trans (State.regsBut_trans (State.setPort_regsBut s _ _ _) (State.regsBut_wr _ _ hc))
    (State.portState_regsBut _ _ hs)

theorem State.masterLost_pstate_of_unlinked {s : State} {p : Dom} (x : TimePort)
    (hen : s.on (TIO.TP_CFG.EN (portNum p)) = true) (hlink : s.on (TIO.TP_STAT.LINK (portNum p)) = false) :
    (s.masterLost p x).rd (TIO.TP_STAT.PSTATE (portNum p)) = 1 := by
  refine State.portState_of_unlinked ?_ ?_
  · rwa [State.on_wr_ne _ _ (by cases p <;> decide), State.setPort_on]
  · rwa [State.on_wr_ne _ _ (by cases p <;> decide), State.setPort_on]

theorem State.masterLost_pstate_of_linked {s : State} {p : Dom} {x : TimePort}
    (hen : s.on (TIO.TP_CFG.EN (portNum p)) = true) (hlink : s.on (TIO.TP_STAT.LINK (portNum p)) = true)
    (hgm : x.gm = none) : (s.masterLost p x).rd (TIO.TP_STAT.PSTATE (portNum p)) = 2 := by
  refine State.portState_of_noMaster ?_ ?_ (by simpa using hgm)
  · rwa [State.on_wr_ne _ _ (by cases p <;> decide), State.setPort_on]
  · rwa [State.on_wr_ne _ _ (by cases p <;> decide), State.setPort_on]

/-- Three intervals without an Announce of the selected master lose it (R81, R527). -/
theorem execAnnounceReceiptTimeout_of_silent {s : State} {p : Dom} {t at' : Nat} {m : AnnounceMsg}
    {r : List (AnnounceMsg × Nat)} (hms : (s.port p).masters = (m, at') :: r) (hpar : (s.port p).parent = some m.sender)
    (hsil : at' + 3 * logSeconds m.logPeriod ≤ t) :
    execAnnounceReceiptTimeout p t s = .next ((s.advance t).masterLost p { s.port p with
      masters := (s.port p).masters.filter (fun q => q.1.sender != m.sender), parent := none, gm := none, sync := none }) := by
  have hfind : (s.port p).masters.find? (fun q => some q.1.sender == (s.port p).parent) = some (m, at') := by
    rw [hms, hpar]; exact List.find?_cons_of_pos (by simp)
  simp [execAnnounceReceiptTimeout, State.masterLost, hfind, hsil]

/-- Two seconds without a completed pair record a void sample (R83). -/
theorem execPtpSampleTimeout_of_silent {s : State} {p : Dom} {t : Nat} (hup : s.portUp p = true)
    (hgm : (s.port p).gm.isSome = true) (hsil : (s.port p).lastPair + Config.ns 2000000000 ≤ t) :
    execPtpSampleTimeout p t s = .next ((s.advance t).ptpRecord p none) := if_pos ⟨hup, hgm, hsil⟩

/-- Loss of block lock empties the port of its masters and of the messages that wait (R527). -/
theorem execTportBlockLock_of_lost (s : State) (p : Dom) : execTportBlockLock p false s =
    .next ((s.wrB (TIO.TP_STAT.LINK (portNum p)) false).masterLost p
      { s.port p with masters := [], parent := none, gm := none, sync := none, dreq := none }) := rfl

/-- Settles O4: each message's lemma gives the state it leaves, and the laws of that state give the clause. -/
theorem timePorts : Obligations.TimePorts := by
  unfold Obligations.TimePorts
  refine ⟨fun s p t domain sender seqId hup hdom hpar => ?sync,
    fun s p t domain sender seqId origin rx hup hdom hpar hsync => ?followUp,
    fun s p t seqId hup hgm hroom => ?delayReq,
    fun s p t domain seqId receive tx d hup hdom hreq hpair => ?delayResp,
    fun s p t domain m hup hdom hms hlast hgm hact => ?announce,
    fun s p t at' m r hms hpar hsil hen hlink => ?masterSilent,
    fun s p t hup hgm hsil => ?pairSilent,
    fun s p hen => ?unlock⟩
  case sync => exact execSync_of_twoStep t seqId hup hdom hpar
  case followUp =>
    obtain ⟨hnone, hpair, hprov⟩ := State.paired_port (s.advance t) p origin rx
    exact ⟨_, execFollowUp_of_waiting t origin hup hdom hpar hsync, hnone, hpair, hprov, State.paired_lastOff _ _ _ _,
      State.paired_regsBut (s.advance t) _ _ _⟩
  case delayReq => exact execDelayReq_of_room t seqId hup hgm hroom
  case delayResp =>
    refine ⟨_, execDelayResp_of_waiting t receive hup hdom hreq hpair, ?_, ?_, State.rd_wrSat_self _ _ _, ?_⟩
    · rw [State.wrSat_port, State.setPort_port_self]
    · rw [State.wrSat_port, State.setPort_port_self]
    · exact State.regsBut_trans (State.setPort_regsBut (s.advance t) _ _ _) (State.regsBut_wr _ _ (by simp))
  case announce =>
    refine ⟨_, execAnnounce_of_first t m hup hdom hms hlast hgm hact, by simp, by simp, by simp,
      State.firstMaster_clockId _ _ _, State.firstMaster_pstate _ _ _, ?_⟩
    exact State.regsBut_trans (State.setPort_regsBut (s.advance t) _ _ _) (State.firstMaster_regsBut _ _ _)
  case masterSilent =>
    exact ⟨_, execAnnounceReceiptTimeout_of_silent hms hpar hsil, by simp, by simp, State.masterLost_clockId _ _ _,
      State.masterLost_pstate_of_linked hen hlink rfl, State.masterLost_regsBut (s.advance t) _ _ (by simp) (by simp)⟩
  case pairSilent =>
    obtain ⟨good, hrec⟩ := (s.advance t).ptpRecord_void p
    refine ⟨_, execPtpSampleTimeout_of_silent hup hgm hsil, ?_, State.ptpRecord_lastOff _ _ _, ?_,
      State.ptpRecord_void_regsBut (s.advance t) p (by simp) (by simp)⟩
    · simp [hrec]
    · rw [hrec, State.rd_wr_self]; rfl
  case unlock =>
    have hlink : (s.wrB (TIO.TP_STAT.LINK (portNum p)) false).on (TIO.TP_STAT.LINK (portNum p)) = false := by
      rw [State.on, State.rd_wrB_self]; rfl
    have hen' : (s.wrB (TIO.TP_STAT.LINK (portNum p)) false).on (TIO.TP_CFG.EN (portNum p)) = true :=
      (State.on_wr_ne s _ (by cases p <;> decide)).trans hen
    refine ⟨_, execTportBlockLock_of_lost s p, by simp, by simp, ?_, State.masterLost_pstate_of_unlinked _ hen' hlink, ?_⟩
    · rw [State.on, State.masterLost_regsBut (l := [TIO.TP_GM.CLOCK_ID (portNum p), TIO.TP_STAT.PSTATE (portNum p)])
        _ _ _ (by simp) (by simp) _ (by cases p <;> decide)]
      exact hlink
    · exact State.regsBut_trans (State.regsBut_wr s _ (by simp)) (State.masterLost_regsBut _ _ _ (by simp) (by simp))

/-! ### Pulse outputs: software's writes (R68-R72) -/

/-- A field written with a value it can hold reads that value, and no other register changes. -/
theorem State.wr_onlyRegs {s : State} {f : Field} {v : Nat} (h : v < 2 ^ f.width) :
    (s.wr f v).rd f = v ∧ s.onlyRegs (s.wr f v) [f] :=
  ⟨(State.rd_wr_self s f v).trans (Nat.mod_eq_of_lt h), rfl, State.regsBut_wr s v (List.mem_singleton.2 rfl)⟩

/-- A software write that writes one field does so and no more where parity is sound. -/
theorem State.bySoft_of_wr {s : State} {f : State → State} {g : Field} {x : Nat} (off inst v : Nat) (hs : s.csrSound)
    (h : f s = s.wr g x) : s.bySoft off inst v f = s.wr g x :=
  (State.bySoft_of_csrSound off inst v hs (by rw [h, State.wr_sys])).trans h

/-- Arming a periodic output out of TIO's safe state needs no start in the future (R70). -/
theorem State.tpoArm_of_periodic {s : State} {n : Nat} (hmode : s.rd (TIO.TPO_CTRL.MODE n) = 2)
    (hsafe : s.unsafeBlock 2 = false) : s.tpoArm n = s.wr (TIO.TPO_CTRL.ARMED n) 1 := by
  simp [State.tpoArm, hmode, hsafe]

theorem execTpoArm_of_periodic {s : State} {n : Fin 8} (hs : s.csrSound) (hmode : s.rd (TIO.TPO_CTRL.MODE n) = 2)
    (hsafe : s.unsafeBlock 2 = false) : execTpoArm n s = .next (s.wr (TIO.TPO_CTRL.ARMED n) 1) := by
  rw [execTpoArm, State.byCmd, State.bySoft_of_wr _ _ _ hs (State.tpoArm_of_periodic hmode hsafe)]

theorem execTpoDisarm_of_csrSound {s : State} (n : Fin 8) (hs : s.csrSound) :
    execTpoDisarm n s = .next (s.wr (TIO.TPO_CTRL.ARMED n) 0) := by
  rw [execTpoDisarm, State.byCmd, State.bySoft_of_wr _ _ _ hs rfl]

/-- Outside the periodic mode any period but zero is taken (R72). -/
theorem execTpoConfigWrite_period {s : State} {n : Fin 8} {v : BitVec 32} (hs : s.csrSound) (hv : v ≠ 0)
    (hmode : s.rd (TIO.TPO_CTRL.MODE n) ≠ 2) :
    execTpoConfigWrite n .period v s = .next (s.wr (TIO.TPO_PERIOD.PERIOD n) v.toNat) := by
  have hv' : v.toNat ≠ 0 := fun h => hv (BitVec.eq_of_toNat_eq h)
  have h : s.tpoWrite n .period v.toNat = s.wr (TIO.TPO_PERIOD.PERIOD n) v.toNat :=
    if_neg (not_or.2 ⟨hv', fun hp => hmode hp.1⟩)
  rw [execTpoConfigWrite, State.bySoft_of_wr _ _ _ hs h]

/-- A new START of an output that is not armed is stored and no more (R69, R70). -/
theorem State.tpoRestart_of_disarmed {s : State} {n : Nat} (h : s.on (TIO.TPO_CTRL.ARMED n) = false) :
    s.tpoRestart n = s := by simp [State.tpoRestart, h]

theorem execTpoStartWrite_of_disarmed {s : State} {n : Fin 8} (v : BitVec 32) (hs : s.csrSound)
    (harm : s.on (TIO.TPO_CTRL.ARMED n) = false) :
    execTpoStartWrite n false v s = .next (s.wr (TIO.TPO_START_LO.TNS_LO n) v.toNat) := by
  have hkey : (TIO.TPO_CTRL.ARMED n).key ≠ (TIO.TPO_START_LO.TNS_LO n).key := by
    simp only [Field.key, TIO.TPO_CTRL.ARMED, TIO.TPO_START_LO.TNS_LO]; omega
  have h : s.tpoWriteStart n false v.toNat = s.wr (TIO.TPO_START_LO.TNS_LO n) v.toNat :=
    State.tpoRestart_of_disarmed ((State.on_wr_ne s _ hkey).trans harm)
  rw [execTpoStartWrite, State.bySoft_of_wr _ _ _ hs h]

/-! ### Pulse outputs: an edge committed, placed, and idle again (R68, R69, R71) -/

/-- In LOCKED a fresh grid point of an armed output is committed, 1,000 ns before it falls. -/
theorem execTpoEdgeCommit_of_locked {s : State} {n : Fin 8} {t : Nat} (harm : s.on (TIO.TPO_CTRL.ARMED n) = true)
    (hst : s.gState = gLocked) (hgrid : s.tpoOnGrid n (t + Config.ns 1000) = true)
    (hfresh : (s.pulse n).fresh (t + Config.ns 1000) = true) :
    execTpoEdgeCommit n t s = .next ((s.advance t).setPulse n { s.pulse n with
      last := some (t + Config.ns 1000),
      committed := (s.pulse n).committed ++
        [⟨t + Config.ns 1000, s.rd (TIO.TPO_CTRL.WIDTH n), s.on (TIO.TPO_CTRL.POL n)⟩] }) := by
  have hfree : s.gState ≠ gFree := by rw [hst]; decide
  have hreseat : s.gState ≠ gReseat := by rw [hst]; decide
  rw [execTpoEdgeCommit]
  dsimp only
  rw [if_pos ⟨harm, hfree, hgrid, hfresh⟩]
  exact if_neg hreseat

/-- An output that is not in once mode is not disarmed by its edges. -/
theorem State.tpoOnceDone_of_mode {s : State} {n : Nat} (h : s.rd (TIO.TPO_CTRL.MODE n) ≠ 1) : s.tpoOnceDone n = s :=
  if_neg fun hd => h hd.1

/-- The oldest committed edge of an idle periodic output that has made no pulse is placed at its instant. -/
theorem execTpoEdge_of_idle {s : State} {n : Fin 8} {c : PulseEdge} {r : List PulseEdge}
    (hc : (s.pulse n).committed = c :: r) (hact : (s.pulse n).active = false) (hidle : (s.pulse n).idleAt = 0)
    (hmode : s.rd (TIO.TPO_CTRL.MODE n) = 2) :
    execTpoEdge n c.time s = .next ((s.advance c.time).setPulse n { s.pulse n with
      committed := r, active := true, low := c.low, idleAt := c.time + Config.ns c.width }) := by
  have honce (x : Pulse) : ((s.advance c.time).setPulse n x).tpoOnceDone n = (s.advance c.time).setPulse n x :=
    State.tpoOnceDone_of_mode (by rw [State.setPulse_rd, State.advance_rd, hmode]; decide)
  simp [execTpoEdge, hc, hact, hidle, honce]

/-- A pulse whose width has run returns to idle. -/
theorem execTpoIdleReturn_of_ended {s : State} {n : Fin 8} {t : Nat} (hact : (s.pulse n).active = true)
    (hend : (s.pulse n).idleAt ≤ t) :
    execTpoIdleReturn n t s = .next ((s.advance t).setPulse n { s.pulse n with active := false }) := if_pos ⟨hact, hend⟩

/-- Settles O5: each command's lemma gives the one register written or the one record set. -/
theorem pulseOutputs : Obligations.PulseOutputs := by
  unfold Obligations.PulseOutputs
  refine ⟨fun s n hs hmode hsafe => ?arm, fun s n hs => ?disarm, fun s n v hs hv hmode => ?period,
    fun s n v hs harm => ?start, fun s n t harm hst hgrid hfresh => ?commit,
    fun s n c r hc hact hidle hmode => ?edge, fun s n t hact hend => ?idle⟩
  case arm => exact ⟨_, execTpoArm_of_periodic hs hmode hsafe, State.wr_one_onlyRegs s rfl⟩
  case disarm =>
    obtain ⟨hrd, honly⟩ := State.wr_onlyRegs (s := s) (f := TIO.TPO_CTRL.ARMED n) (v := 0) (Nat.two_pow_pos _)
    exact ⟨_, execTpoDisarm_of_csrSound n hs, by rw [State.on, hrd]; rfl, honly⟩
  case period => exact ⟨_, execTpoConfigWrite_period hs hv hmode, State.wr_onlyRegs v.isLt⟩
  case start => exact ⟨_, execTpoStartWrite_of_disarmed v hs harm, State.wr_onlyRegs v.isLt⟩
  case commit => exact execTpoEdgeCommit_of_locked harm hst hgrid hfresh
  case edge => exact execTpoEdge_of_idle hc hact hidle hmode
  case idle => exact execTpoIdleReturn_of_ended hact hend

/-! ### The mailbox (R469, R470) -/

/-- The register fields of a bank's mailbox. -/
def mailboxFields (b : Bank) : List Field :=
  [GLB.MBX_SEL.OFFSET b.num, GLB.MBX_VALID.VALID b.num, GLB.MBX_VALID.ERR b.num, GLB.MBX_VALID.OFFSET b.num,
    GLB.MBX_D.DATA 0 b.num, GLB.MBX_D.DATA 1 b.num, GLB.MBX_D.DATA 2 b.num, GLB.MBX_D.DATA 3 b.num]

/-- The mailbox samples that are on their way are in no register. -/
theorem State.regsBut_setMbx {s t : State} {l : List Field} (h : s.regsBut t l) (m : Tbl Sample) :
    s.regsBut { t with mbx := m } l := h

theorem State.mbxStart_regsBut (s : State) (b : Bank) (off data : Nat) (err : Bool) :
    s.regsBut (s.mbxStart b off data err) (mailboxFields b) := by
  have hwr (t : State) (f : Field) (v : Nat) (h : f ∈ mailboxFields b) (hst : s.regsBut t (mailboxFields b)) :
      s.regsBut (t.wr f v) (mailboxFields b) := State.regsBut_trans hst (State.regsBut_wr t v h)
  unfold State.mbxStart
  refine State.regsBut_setMbx ?_ _
  iterate 8 refine hwr _ _ _ (by simp [mailboxFields]) ?_
  exact State.regsBut_refl s _

/-- A selection puts its sample on its way. -/
@[simp] theorem State.mbxStart_look (s : State) (b : Bank) (off data : Nat) (err : Bool) :
    Tbl.look (s.mbxStart b off data err).mbx b.num = some ⟨off, data, err⟩ := by simp [State.mbxStart]

@[simp] theorem State.mbxStart_tio (s : State) (b : Bank) (off data : Nat) (err : Bool) :
    (s.mbxStart b off data err).tio = s.tio := by simp [State.mbxStart]

@[simp] theorem State.mbxStart_port (s : State) (b : Bank) (off data : Nat) (err : Bool) (p : Dom) :
    (s.mbxStart b off data err).port p = s.port p := by simp [State.port]

@[simp] theorem State.mbxStart_cap (s : State) (b : Bank) (off data : Nat) (err : Bool) (n : Nat) :
    (s.mbxStart b off data err).cap n = s.cap n := by simp [State.cap]

/-- No capture input's FILL stands in a mailbox. -/
theorem fill_notMem_mailboxFields (n : Fin 4) (b : Bank) :
    (TIO.TCI_STAT.FILL n).key ∉ (mailboxFields b).map Field.key := by
  cases b <;> revert n <;> decide

/-! ### Capture inputs (R74-R76) -/

@[simp] theorem State.setCap_cap_self (s : State) (n : Nat) (x : Capture) : (s.setCap n x).cap n = x :=
  Tbl.lookD_put_self _ _ _ _

theorem State.setCap_regsBut (s : State) (n : Nat) (x : Capture) {l : List Field} (h : TIO.TCI_STAT.FILL n ∈ l) :
    s.regsBut (s.setCap n x) l :=
  State.regsBut_trans (State.regsBut_of_regs rfl l) (State.regsBut_wr _ _ h)

/-- FILL shows how many stamps wait, at most four. -/
theorem State.setCap_fill (s : State) (n : Nat) {x : Capture} (h : x.fifo.length ≤ 4) :
    (s.setCap n x).rd (TIO.TCI_STAT.FILL n) = x.fifo.length :=
  (State.rd_wr_self _ _ _).trans (Nat.mod_eq_of_lt (show x.fifo.length < 16 by omega))

/-- The first edge that an input's setting selects, out of TIO's safe state and with room, is stamped. -/
theorem execTciEdge_of_first {s : State} {n : Fin 4} {rising : Bool} (t : Nat)
    (hsel : tciSelects (s.rd (TIO.TCI_CTRL.IN n)) rising = true) (hsafe : s.unsafeBlock 2 = false)
    (hlast : (s.cap n).last = none) (hroom : (s.cap n).fifo.length < 4) :
    execTciEdge n t rising s =
      .next ((s.advance t).setCap n { fifo := (s.cap n).fifo ++ [⟨t, s.gState⟩], last := some t }) := by
  simp [execTciEdge, hsel, hsafe, hlast, Nat.not_le.2 hroom]

/-- The state before the mailbox's sample of a stamp: CAP_LAST filled, and the stamp removed. -/
def State.capTaken (s : State) (n : Nat) (c : Stamp) (r : List Stamp) : State :=
  (((s.wr TIO.CAP_LAST.INPUT n).wr TIO.CAP_LAST.EMPTY 0).wr TIO.CAP_LAST.STATE c.state).setCap n { s.cap n with fifo := r }

theorem State.selectCap_of_cons {s : State} {n : Nat} {c : Stamp} {r : List Stamp} (b : Bank)
    (h : (s.cap n).fifo = c :: r) : s.selectCap n b =
      (s.capTaken n c r).mbxStart b (TIO.CAP.base + 0x10 * n) (hallTime c.time) false := by
  simp only [State.selectCap, h, State.capTaken]

theorem State.capTaken_empty (s : State) (n : Fin 4) (c : Stamp) (r : List Stamp) :
    (s.capTaken n c r).rd TIO.CAP_LAST.EMPTY = 0 := by
  rw [State.capTaken, State.setCap_regsBut (l := [TIO.TCI_STAT.FILL n]) _ _ _ (by simp) _ (by revert n; decide),
    State.rd_wr_ne _ _ (by decide), State.rd_wr_self]
  rfl

/-! ### Time ports: a transmit stamp selected (R84, R471) -/

theorem State.selectTxq_of_cons {s : State} {p : Dom} {c : TxStamp} {r : List TxStamp} (b : Bank)
    (h : (s.port p).txq = c :: r) : ∃ data : Nat, s.selectTxq p b =
      (s.setPort p { s.port p with txq := r }).mbxStart b (TIO.TP_TXQ.base + 0x40 * portNum p) data false := by
  unfold State.selectTxq
  dsimp only
  rw [h]
  exact ⟨_, rfl⟩

/-! ### Job triggers (R46, R78) -/

/-- An armed trigger whose start is reached in LOCKED fires. -/
theorem execJobStartTrigger_of_locked {s : State} {j : Fin 8} {t : Nat} (harm : (s.job j).stage = .armed)
    (hstart : (s.job j).start * 65536 ≤ max s.now t) (hst : s.gState = gLocked) :
    execJobStartTrigger j t s = .next ((s.advance t).fireJob j) :=
  (if_pos ⟨harm, hstart⟩ : execJobStartTrigger j t s = _).trans (if_pos (.inl hst))

/-- A trigger missed: counted and flagged, its notice composed, and freed. -/
def State.triggerMissed (s : State) (j : Nat) : State :=
  (((s.bump TIO.PTRIG_STAT.JOB_MISSED).raise TIO.EVENT.PTRIG_MISSED).jobNotice j 3 1 0).freeTrigger j

/-- An armed trigger whose start is reached in FREE is missed. -/
theorem execJobStartTrigger_of_free {s : State} {j : Fin 8} {t : Nat} (harm : (s.job j).stage = .armed)
    (hstart : (s.job j).start * 65536 ≤ max s.now t) (hst : s.gState = gFree) :
    execJobStartTrigger j t s = .next ((s.advance t).triggerMissed j) := by
  have hst' : (s.advance t).rd GAUGE.STATUS.STATE = 0 := hst
  rw [execJobStartTrigger]
  dsimp only
  rw [if_pos ⟨harm, hstart⟩, if_neg (by rw [hst']; decide), State.triggerMissed]

theorem State.freeTrigger_stage (s : State) (j : Nat) : ((s.freeTrigger j).job j).stage = .free :=
  congrArg Job.stage (Tbl.lookD_put_self s.comp.jobs {} j _)

theorem State.freeTrigger_regsBut (s : State) (j : Nat) :
    s.regsBut (s.freeTrigger j) [TIO.PTRIG_STAT.JOB_ARMED, GTH.STAT.OPEN] :=
  State.regsBut_trans (State.regsBut_trans (State.regsBut_of_regs rfl _) (State.regsBut_wr _ _ (by decide)))
    (State.regsBut_wr _ _ (by decide))

theorem State.jobNotice_regsBut (s : State) (j stage reason rec : Nat) :
    s.regsBut (s.jobNotice j stage reason rec) recorderFields := State.compose_regsBut s _ _

theorem State.triggerMissed_stage (s : State) (j : Nat) : ((s.triggerMissed j).job j).stage = .free :=
  State.freeTrigger_stage _ j

theorem State.triggerMissed_flag (s : State) (j : Nat) : (s.triggerMissed j).rd TIO.EVENT.PTRIG_MISSED = 1 := by
  rw [State.triggerMissed, State.freeTrigger_regsBut _ _ _ (by decide), State.jobNotice_regsBut _ _ _ _ _ _ (by decide)]
  exact State.raise_rd_self _ _ _ rfl (by decide) (by decide)

/-! ### The frame boundary (R60) -/

/-- A boundary that is not in the past, with the main domain up: the Gauge's part, then the fabric's, then its count. -/
theorem execFrameBoundary_of_mainUp {s : State} {f : Nat} (powers : List PortPower) (hv : s.sys.vaux = true)
    (hf : frameOf s.now ≤ f) (hup : ((s.advance (f * Config.frameTime)).gaugeFrame f).mainUp = true) :
    execFrameBoundary f powers s =
      .next ((((s.advance (f * Config.frameTime)).gaugeFrame f).fabricFrame f powers).count ctrFtd 0x002 0) := by
  have hgo : ¬ (¬ s.sys.vaux = true ∨ f < frameOf s.now) := by simp [hv, hf]
  rw [execFrameBoundary, if_neg hgo, State.frameBoundary]
  rw [if_pos hup]

/-- Settles O6: a stamp is a record set, a selection is a record set and a sample sent, and a trigger fires or is
missed by the Gauge's state. -/
theorem stampsAndTriggers : Obligations.StampsAndTriggers := by
  unfold Obligations.StampsAndTriggers
  refine ⟨fun s n t rising hsel hsafe hlast hroom => ?edge, fun s n b c r hfifo hr => ?capture, fun s p b c r htxq => ?txq,
    fun s j t harm hstart hst => ?fires, fun s j t harm hstart hst => ?missed, fun s f powers hv hf hup => ?boundary⟩
  case edge =>
    have hlen : ((s.cap n).fifo ++ [Stamp.mk t s.gState]).length = (s.cap n).fifo.length + 1 := List.length_append
    refine ⟨_, execTciEdge_of_first t hsel hsafe hlast hroom, State.setCap_cap_self _ _ _, ?_,
      State.setCap_regsBut (s.advance t) _ _ (List.mem_singleton.2 rfl)⟩
    exact (State.setCap_fill _ _ (Nat.le_trans (Nat.le_of_eq hlen) hroom)).trans hlen
  case capture =>
    refine ⟨_, congrArg Host.Outcome.next (State.selectCap_of_cons b hfifo), ?_, ?_, ?_, State.mbxStart_look _ _ _ _ _⟩
    · rw [State.mbxStart_cap, State.capTaken, State.setCap_cap_self]
    · rw [State.mbxStart_regsBut _ _ _ _ _ _ (fill_notMem_mailboxFields n b), State.capTaken,
        State.setCap_fill _ _ (Nat.le_of_lt hr)]
    · rw [State.mbxStart_regsBut _ _ _ _ _ _ (by cases b <;> decide), State.capTaken_empty]
  case txq =>
    obtain ⟨data, hsel⟩ := State.selectTxq_of_cons b htxq
    refine ⟨_, congrArg Host.Outcome.next hsel, ?_, ?_⟩
    · rw [State.mbxStart_port, State.setPort_port_self]
    · rw [State.mbxStart_look]; rfl
  case fires => exact execJobStartTrigger_of_locked harm hstart hst
  case missed =>
    exact ⟨_, execJobStartTrigger_of_free harm hstart hst, State.triggerMissed_stage _ _, State.triggerMissed_flag _ _⟩
  case boundary => exact execFrameBoundary_of_mainUp powers hv hf hup

end Sys2Proof.Machine
end

section
/-! SUPPORT. Slots and leaves (04_pattern_book.md, 05_colour_ports.md): what the operations of the slot store, of slots on
their way out and in, and of the leaves write and what they leave alone, and the statements about them. -/
namespace Sys2Proof.Machine
open Sys2Proof

/-! ### Register fields apart -/

/-- Fields that begin at different bits are different fields. -/
theorem Field.key_ne_of_lo {f g : Field} (h : (f.lo % 128 == g.lo % 128) = false) : f.key ≠ g.key := fun e => by
  have hmod (x : Field) : x.key % 128 = x.lo % 128 := Nat.mul_add_mod_self_right _ _ _
  simp [← hmod, e] at h

/-- The event counters, and what the recorder keeps, stand above the fabric's and the memories' registers. -/
theorem counterFields_above : ∀ g ∈ counterFields,
    g.inst = 0 ∧ g.lo < 128 ∧ 0xB00000 ≤ g.off ∧ g.off < 2 ^ 26 := by
  have hrest : ∀ g ∈ [HLT.CTR_STAT.WRAPS, HLT.EVENT.CTR_OVF] ++ recorderFields,
      g.inst = 0 ∧ g.lo < 128 ∧ 0xB00000 ≤ g.off ∧ g.off < 2 ^ 26 := by decide
  intro g hg
  rw [counterFields, List.append_assoc] at hg
  rcases List.mem_append.1 hg with hctr | hg
  · obtain ⟨n, hn, hctr⟩ := List.mem_flatMap.1 hctr
    have hn := List.mem_range.1 hn
    simp only [List.mem_cons, List.not_mem_nil, or_false] at hctr
    rcases hctr with rfl | rfl
    · exact ⟨rfl, (by decide : 0 < 128), by simp only [HLT.CTR.COUNT]; omega, by simp only [HLT.CTR.COUNT]; omega⟩
    · exact ⟨rfl, (by decide : 63 < 128), by simp only [HLT.CTR.OVF]; omega, by simp only [HLT.CTR.OVF]; omega⟩
  · exact hrest g hg

theorem notMem_counterFields {f : Field} (hl : f.lo < 128) (ho : f.off < 0xB00000) :
    f.key ∉ counterFields.map Field.key := fun hm => by
  obtain ⟨g, hg, e⟩ := List.mem_map.1 hm
  obtain ⟨hinst, hlo, hoff, hlt⟩ := counterFields_above g hg
  simp only [Field.key, hinst] at e
  omega

theorem notMem_recorderFields {f : Field} (hl : f.lo < 128) (ho : f.off < 0xB00000) :
    f.key ∉ recorderFields.map Field.key := fun hm => by
  refine notMem_counterFields hl ho ?_
  rw [counterFields, List.map_append]
  exact List.mem_append_right _ hm

/-! ### The FTD's counters -/

/-- An event counted in the FTD changes the counters and what the recorder keeps. -/
theorem State.countFtd_frame (s : State) (src inst w : Nat) :
    s.count ctrFtd src inst w = { s with
      regs := (s.count ctrFtd src inst w).regs, log := (s.count ctrFtd src inst w).log,
      notices := (s.count ctrFtd src inst w).notices } ∧
    s.regsBut (s.count ctrFtd src inst w) counterFields := State.count_frame s ctrFtd src inst w (by decide)

@[simp] theorem State.countFtd_book (s : State) (src inst w : Nat) : (s.count ctrFtd src inst w).book = s.book :=
  (congrArg State.book (State.countFtd_frame s src inst w).1 :)

theorem State.countFtd_rd (s : State) (src inst w : Nat) {f : Field} (hl : f.lo < 128) (ho : f.off < 0xB00000) :
    (s.count ctrFtd src inst w).rd f = s.rd f := (State.countFtd_frame s src inst w).2 f (notMem_counterFields hl ho)

/-! ### The slot store (R114-R117) -/

@[simp] theorem State.setQueue_queue_self (s : State) (q : Nat) (l : List Payload) : (s.setQueue q l).queue q = l :=
  Tbl.lookD_put_self _ _ _ _

@[simp] theorem State.setBuf_buf_self (s : State) (q b : Nat) (x : Buf) : (s.setBuf q b x).buf q b = x :=
  Tbl.lookD_put_self _ _ _ _

@[simp] theorem State.setPlan_plan_self (s : State) (n : Nat) (x : Plan) : (s.setPlan n x).plan n = x :=
  Tbl.lookD_put_self _ _ _ _

@[simp] theorem State.setPlan_buf (s : State) (n : Nat) (x : Plan) (q b : Nat) : (s.setPlan n x).buf q b = s.buf q b := rfl

/-- A queue's list is the Book's. -/
theorem State.queue_congr {s t : State} (h : t.book = s.book) (q : Nat) : t.queue q = s.queue q :=
  congrArg (fun b : Book => Tbl.lookD b.queues [] q) h

/-- A resolved slot's plan is its row. -/
theorem State.plan_of_look {s : State} {n : Nat} {x : Plan} (h : Tbl.look s.book.plans n = some x) : s.plan n = x := by
  simp [State.plan, Tbl.lookD, h]

theorem State.plan_of_none {s : State} {n : Nat} (h : Tbl.look s.book.plans n = none) : s.plan n = {} := by
  simp [State.plan, Tbl.lookD, h]

theorem State.release_plans (s : State) (q b : Nat) : (s.release q b).book.plans = s.book.plans := rfl

/-- A buffer that is released is free. -/
theorem State.release_buf (s : State) (q b : Nat) : (s.release q b).buf q b = {} := State.setBuf_buf_self s q b {}

/-! ### The cut-off: a STITCH slot refused, missed or bound (R116, R118) -/

/-- A refusal shows its reason, counts, and leaves the Book alone. -/
theorem State.refuse_shows (s : State) (q : Nat) {reason : Nat} (h : reason < 16) :
    (s.refuse q reason).rd (PB.Q_STAT.LAST_REFUSE q) = reason ∧
      (s.refuse q reason).rd (PB.Q_COUNTS.REFUSED q) =
        (s.rd (PB.Q_COUNTS.REFUSED q) + 1) % 2 ^ (PB.Q_COUNTS.REFUSED q).width ∧
      (s.refuse q reason).book = s.book := by
  refine ⟨?_, ?_, State.countFtd_book _ _ _ _⟩
  · rw [State.refuse, State.countFtd_rd _ _ _ _ (by decide : 16 < 128) (by decide : 0x30068 < 0xB00000), State.rd_wr_self]
    exact Nat.mod_eq_of_lt h
  · rw [State.refuse, State.countFtd_rd _ _ _ _ (by decide : 48 < 128) (by decide : 0x30070 < 0xB00000),
      State.rd_wr_ne _ _ (Field.key_ne_of_lo rfl), State.rd_bump_self]

/-- A miss counts, and leaves the Book alone. -/
theorem State.missSlot_shows (s : State) (q : Nat) :
    (s.missSlot q).rd (PB.Q_COUNTS.MISSED q) =
        (s.rd (PB.Q_COUNTS.MISSED q) + 1) % 2 ^ (PB.Q_COUNTS.MISSED q).width ∧
      (s.missSlot q).book = s.book := by
  refine ⟨?_, State.countFtd_book _ _ _ _⟩
  rw [State.missSlot, State.countFtd_rd _ _ _ _ (by decide : 0 < 128) (by decide : 0x30070 < 0xB00000), State.rd_bump_self]

/-- What refuses an optical STITCH slot as FAULT (R118). -/
def State.stitchFault (s : State) (l n peer : Nat) : Bool := s.faultFor n || s.pbOff || s.portOff l || s.sourceLost l peer

/-- The first reason that holds against an optical STITCH slot, in the order of R118; RING where none before it does. -/
def State.stitchReason (s : State) (l n peer : Nat) : Nat :=
  if s.stitchFault l n peer then 5 else if s.staleFor n then 3 else if s.rcCovers n then 4
  else if s.on GAUGE.STATUS.OPT_OK = false then 1 else 2

theorem State.stitchReason_lt (s : State) (l n peer : Nat) : s.stitchReason l n peer < 16 := by
  unfold State.stitchReason
  repeat' split
  all_goals decide

/-- A STITCH slot of an optical port: its reasons for refusal in order, and then the queue's contents. -/
theorem State.stitch_optical (s : State) {l : Nat} (n : Nat) (e : Entry) (hl : l < 16) : s.stitch l n e =
    if s.stitchFault l n e.peer then (s.refuse e.queue 5, .quiet)
    else if s.staleFor n then (s.refuse e.queue 3, .quiet)
    else if s.rcCovers n then (s.refuse e.queue 4, .quiet)
    else if s.on GAUGE.STATUS.OPT_OK = false then (s.refuse e.queue 1, .quiet)
    else (s.serving l e.peer).elim (s.refuse e.queue 2, .quiet) fun x => s.bindSlot l n e.queue x.1 x.2 := by
  simp [State.stitch, State.stitchFault, State.linkOff, State.gateOpen, optical, hl, rfFault, rfStale, rfRecable, rfGate,
    rfRing]
  cases s.serving l e.peer <;> rfl

/-- An optical STITCH slot against which a reason holds is refused with the first. -/
theorem State.stitch_of_refused {s : State} {l n : Nat} {e : Entry} (hl : l < 16)
    (h : s.stitchFault l n e.peer = true ∨ s.staleFor n = true ∨ s.rcCovers n = true ∨
      s.on GAUGE.STATUS.OPT_OK = false ∨ s.serving l e.peer = none) :
    s.stitch l n e = (s.refuse e.queue (s.stitchReason l n e.peer), .quiet) := by
  rw [State.stitch_optical s n e hl, State.stitchReason]
  by_cases hbad : s.stitchFault l n e.peer = true
  · rw [if_pos hbad, if_pos hbad]
  by_cases hstale : s.staleFor n = true
  · rw [if_neg hbad, if_neg hbad, if_pos hstale, if_pos hstale]
  by_cases hrc : s.rcCovers n = true
  · rw [if_neg hbad, if_neg hbad, if_neg hstale, if_neg hstale, if_pos hrc, if_pos hrc]
  rw [if_neg hbad, if_neg hbad, if_neg hstale, if_neg hstale, if_neg hrc, if_neg hrc]
  by_cases hgate : s.on GAUGE.STATUS.OPT_OK = false
  · rw [if_pos hgate, if_pos hgate]
  have hring : s.serving l e.peer = none :=
    h.elim (absurd · hbad) fun h => h.elim (absurd · hstale) fun h => h.elim (absurd · hrc) fun h =>
      h.elim (absurd · hgate) id
  rw [if_neg hgate, if_neg hgate, hring, Option.elim_none]

/-- An optical STITCH slot against which no reason holds goes to its queue's contents. -/
theorem State.stitch_of_served {s : State} {l n r k : Nat} {e : Entry} (hl : l < 16)
    (hbad : s.stitchFault l n e.peer = false) (hstale : s.staleFor n = false) (hrc : s.rcCovers n = false)
    (hgate : s.on GAUGE.STATUS.OPT_OK = true) (hring : s.serving l e.peer = some (r, k)) :
    s.stitch l n e = s.bindSlot l n e.queue r k := by
  simp [State.stitch_optical s n e hl, hbad, hstale, hrc, hgate, hring]

/-- An empty queue has no payload in time. -/
theorem State.inTime_of_empty {s : State} {q : Nat} (n : Nat) (h : s.queue q = []) : s.inTime q n = (none, s) := by
  rw [State.inTime, h]

/-- A payload committed 2 ns or more before the cut-off is in time. -/
theorem State.inTime_of_early {s : State} {q n : Nat} {p : Payload} {w : List Payload} (h : s.queue q = p :: w)
    (ht : p.time + Config.ns 2 ≤ cutoffOf n) : s.inTime q n = (some p, s) := by
  rw [State.inTime, h]
  exact if_pos ht

/-- A payload committed after the cut-off is not in time. -/
theorem State.inTime_of_late {s : State} {q n : Nat} {p : Payload} {w : List Payload} (h : s.queue q = p :: w)
    (ht : cutoffOf n < p.time) : s.inTime q n = (none, s) := by
  rw [State.inTime, h]
  exact (if_neg (by omega)).trans (if_pos ht)

/-- A payload in time that fits the slot is bound to it, and leaves its queue. -/
theorem State.bindSlot_of_fit {s u : State} {l n q : Nat} {p : Payload} (r k : Nat) (h : s.inTime q n = (some p, u))
    (hlen : p.len ≤ slotCap l) :
    (s.bindSlot l n q r k).2 = .send q r k p ∧ (s.bindSlot l n q r k).1.queue q = (u.queue q).drop 1 := by
  rw [State.bindSlot, h]
  dsimp only
  rw [if_neg (Nat.not_lt.2 hlen)]
  exact ⟨rfl, (State.queue_congr (by simp) q).trans (State.setQueue_queue_self u q _)⟩

/-- A slot whose queue has no payload in time is missed, and idles. -/
theorem State.bindSlot_of_none {s u : State} {l n q : Nat} (r k : Nat) (h : s.inTime q n = (none, u)) :
    s.bindSlot l n q r k = (u.missSlot q, .idle q r k) := by
  rw [State.bindSlot, h]

/-! ### A slot's start and end (R117, R135, R137, R147) -/

/-- An optical port that begins a slot drives its ring and sends. -/
theorem State.light_shows (s : State) (p : Nat) (x : Sent) :
    (s.light p x).rd (OPE.P_STAT.OSEL p) = x.ring % 2 ^ (OPE.P_STAT.OSEL p).width ∧
      (s.light p x).rd (OPE.P_STAT.TX_ACTIVE p) = 1 ∧ Tbl.look (s.light p x).book.sent p = some x := by
  refine ⟨?_, State.rd_wr_self _ _ _, ?_⟩
  · rw [State.light, State.rd_wr_ne _ _ (Field.key_ne_of_lo rfl), State.rd_wr_self]
  · rw [State.light, State.wr_book, State.wr_book]
    split <;> exact Tbl.look_set_self _ _ _

/-- An optical slot's header names its sender, slot, queue, colour and port. -/
theorem State.slotHeader_optical (s : State) {l : Nat} (n q k : Nat) (res : Int) (hl : l < 16) :
    (s.slotHeader l n q k res).1.src = s.node ∧ (s.slotHeader l n q k res).1.slot = n ∧
      (s.slotHeader l n q k res).1.queue = q ∧ (s.slotHeader l n q k res).1.colour = k ∧
      (s.slotHeader l n q k res).1.port = l := by
  simp [State.slotHeader, optical, hl, State.withSeam, State.opHeader]

/-- What a link sends of a payload of queue `q`: its header, completed, and its bytes. -/
def State.sentOf (s : State) (l n q r k : Nat) (p : Payload) (res : Int) : Sent :=
  let h := s.slotHeader l n q k res
  ⟨n, r, some { h.1 with len := p.len, relayed := p.relayed }, (h.2.payloadBytes q p).map some, 0⟩

/-- An optical port whose slot has a payload, and has not been ended early, begins to send it. -/
theorem State.startLink_of_send {s : State} {n l q r k : Nat} {p : Payload} (res : Int) (hl : l < 16)
    (hcut : (s.plan n).cut.contains l = false) (htx : (s.plan n).txOf l = .send q r k p) :
    s.startLink n res l = (s.slotHeader l n q k res).2.light l (s.sentOf l n q r k p res) := by
  have hopt : optical l = true := decide_eq_true hl
  rw [State.startLink]
  dsimp only
  rw [if_neg (by rw [hcut]; decide), htx]
  exact if_pos hopt

theorem execSlotCutoff_of_unresolved {s : State} {n : Nat} (hup : s.fabUp = true) (hnow : s.now ≤ slotStart n)
    (hplan : Tbl.look s.book.plans n = none) :
    let u := s.advance (cutoffOf n)
    let v : State := { u with book := { u.book with
      plans := Tbl.set (u.book.plans.filter fun r => decide (n < r.1 + planKeep)) n {} } }
    execSlotCutoff n s = .next ((List.range 22).foldl (fun s l => s.resolveRx n (v.claimants n) l)
      ((List.range 22).foldl (fun s l => s.resolveTx n (v.claimants n) l) v)) :=
  if_neg (by simp [hup, hplan, hnow])

theorem execSlotStart_of_due {s : State} {n : Nat} (res : List (Nat × Int)) (hup : s.fabUp = true)
    (hnow : s.now < slotStart (n + 1)) :
    execSlotStart n res s = .next ((List.range 22).foldl (fun s l => s.startLink n ((res.lookup l).getD 0) l)
      ((s.advance (slotStart n)).count ctrFtd 0x001 0)) :=
  if_neg (by simp [hup, hnow])

/-- SLOT_END of a slot that is not resolved takes its time alone. -/
theorem execSlotEnd_of_unresolved {s : State} {n : Nat} (hup : s.mainUp = true) (hplan : Tbl.look s.book.plans n = none) :
    execSlotEnd n s = .next (s.advance (slotStart (n + 1))) := by
  have hempty : (s.advance (slotStart (n + 1))).plan n = {} := State.plan_of_none hplan
  rw [execSlotEnd, if_neg (by simp [hup])]
  dsimp only
  rw [hempty]
  exact if_neg (by simp [hplan])

/-- SLOT_END of a slot in which one link sent a buffer's payload frees the buffer, and the plan has nothing to send. -/
theorem execSlotEnd_of_buffer {s : State} {n l q r k b len time : Nat} {x : Plan} (hup : s.mainUp = true)
    (hplan : Tbl.look s.book.plans n = some x) (htx : x.tx = [(l, .send q r k (.buffer b len time))]) :
    execSlotEnd n s = .next (((s.advance (slotStart (n + 1))).release q b).setPlan n
      { ((s.advance (slotStart (n + 1))).release q b).plan n with tx := [] }) := by
  have hp : (s.advance (slotStart (n + 1))).plan n = x := State.plan_of_look hplan
  rw [execSlotEnd, if_neg (by simp [hup])]
  dsimp only
  rw [hp, htx]
  exact if_pos (by
    show (Tbl.look ((s.advance (slotStart (n + 1))).release q b).book.plans n).isSome = true
    rw [State.release_plans, State.advance_book, hplan]; rfl)

/-- Settles O38: the cut-off refuses a STITCH slot with the first reason that holds and else binds or misses it by its
queue's contents; a start sends what is bound; an end frees it. -/
theorem slotsSent : Obligations.SlotsSent := by
  unfold Obligations.SlotsSent
  refine ⟨fun s n hup hnow hplan => ?cutoff, fun s l n e hl => ⟨fun hrefused => ?refused, fun r k => ?served⟩,
    fun s l n q r k => ⟨fun p u => ?bound, fun hempty => ?missed, fun p w => ?early, fun p w => ?late⟩,
    fun s n res hup hnow => ?start, fun s n l q r k res p hl hcut htx => ?begins, fun s n hup hplan => ?endNone,
    fun s n l q r k b len time x hup hplan htx => ?endBuffer⟩
  case cutoff => exact execSlotCutoff_of_unresolved hup hnow hplan
  case refused =>
    rw [State.stitch_of_refused hl hrefused]
    exact ⟨rfl, State.refuse_shows s e.queue (State.stitchReason_lt s l n e.peer)⟩
  case served => exact State.stitch_of_served hl
  case bound => exact State.bindSlot_of_fit r k
  case missed =>
    rw [State.bindSlot_of_none r k (State.inTime_of_empty n hempty)]
    exact ⟨rfl, State.missSlot_shows s q⟩
  case early => exact State.inTime_of_early
  case late => exact State.inTime_of_late
  case start => exact execSlotStart_of_due res hup hnow
  case begins =>
    obtain ⟨hosel, hactive, hsent⟩ := State.light_shows (s.slotHeader l n q k res).2 l (s.sentOf l n q r k p res)
    rw [State.startLink_of_send res hl hcut htx]
    exact ⟨hosel, hactive, hsent, State.slotHeader_optical s n q k res hl⟩
  case endNone => exact ⟨_, execSlotEnd_of_unresolved hup hplan, rfl, rfl, rfl⟩
  case endBuffer =>
    refine ⟨_, execSlotEnd_of_buffer hup hplan htx, ?_, congrArg Plan.tx (State.setPlan_plan_self _ n _)⟩
    rw [State.setPlan_buf, State.release_buf]

/-! ### A claim as its slot arrives (R121, R151-R153, R271) -/

@[simp] theorem State.setIncoming_incoming_self (s : State) (n l : Nat) (x : Incoming) :
    (s.setIncoming n l x).incoming n l = some x := Tbl.look_set_self _ _ _

@[simp] theorem State.endIncoming_incoming_self (s : State) (n l : Nat) : (s.endIncoming n l).incoming n l = none :=
  Tbl.look_del_self _ _

@[simp] theorem State.setIncoming_cuLink (s : State) (n l : Nat) (x : Incoming) (k : Nat) :
    (s.setIncoming n l x).cuLink k = s.cuLink k := rfl

@[simp] theorem State.setCu_cuLink_self (s : State) (k : Nat) (x : CuLink) : (s.setCu k x).cuLink k = x :=
  Tbl.lookD_put_self _ _ _ _

@[simp] theorem State.setPair_pair_self (s : State) (p j : Nat) (x : Pair) : (s.setPair p j x).pair p j = x :=
  Tbl.lookD_put_self _ _ _ _

/-- The phase cache's entry of a sender, and the quality's mark, as a framed slot leaves them. -/
def State.cached (s : State) (p j phase gain : Nat) : State :=
  ((((s.wr (OPE.P_PC.VALID p j) 1).wr (OPE.P_PC.PHASE p j) phase).wr (OPE.P_PC.GAIN p j) gain).wr (OPE.P_PC.AGE p j) 0).wr
    (OPE.P_QUAL.RX_VALID p j) 1

/-- What a port knows of a sender, its failures forgotten. -/
def State.pairFramed (s : State) (p j : Nat) : State :=
  s.setPair p j { s.pair p j with fails := 0, dark := 0, told := false, framedAt := some (frameOf s.now) }

/-- A port among those that have received in the frame. -/
def State.markLit (s : State) (p : Nat) : State :=
  if s.fab.lit.contains p then s else { s with fab := { s.fab with lit := s.fab.lit ++ [p] } }

theorem State.pairFramed_fails (s : State) (p j : Nat) : ((s.pairFramed p j).pair p j).fails = 0 := by
  rw [State.pairFramed, State.setPair_pair_self]

@[simp] theorem State.markLit_regs (s : State) (p : Nat) : (s.markLit p).regs = s.regs := by
  unfold State.markLit; split <;> rfl

@[simp] theorem State.markLit_now (s : State) (p : Nat) : (s.markLit p).now = s.now := by
  unfold State.markLit; split <;> rfl

@[simp] theorem State.markLit_pair (s : State) (p q j : Nat) : (s.markLit p).pair q j = s.pair q j := by
  unfold State.markLit; split <;> rfl

@[simp] theorem State.wr_pair (s : State) (f : Field) (v p j : Nat) : (s.wr f v).pair p j = s.pair p j := rfl

/-- A framed slot fills the cache entry, clears what the port knows of failures, and shows the sender. -/
theorem State.framed_eq (s : State) (p j phase gain : Nat) : s.framed p j phase gain =
    ((((s.cached p j phase gain).pairFramed p j).markLit p).wr (OPE.P_STAT.RX_FRAMED p) 1).wr (OPE.P_STAT.LAST_PEER p) j :=
  rfl

theorem State.framed_now (s : State) (p j phase gain : Nat) : (s.framed p j phase gain).now = s.now := by
  simp [State.framed_eq, State.pairFramed, State.cached]

theorem State.framed_fails (s : State) (p j phase gain : Nat) : ((s.framed p j phase gain).pair p j).fails = 0 := by
  simp [State.framed_eq, State.pairFramed_fails]

/-- A field apart from RX_FRAMED and LAST_PEER reads after a framed slot as the cache's filling leaves it. -/
theorem State.framed_rd (s : State) (p j phase gain : Nat) {g : Field} (hf : g.key ≠ (OPE.P_STAT.RX_FRAMED p).key)
    (hp : g.key ≠ (OPE.P_STAT.LAST_PEER p).key) : (s.framed p j phase gain).rd g = (s.cached p j phase gain).rd g := by
  rw [State.framed_eq, State.rd_wr_ne _ _ hp, State.rd_wr_ne _ _ hf, State.rd, State.rd, State.markLit_regs]
  rfl

/-- A framed slot's registers. -/
theorem State.framed_shows (s : State) (p j phase gain : Nat) :
    (s.framed p j phase gain).rd (OPE.P_PC.VALID p j) = 1 ∧
      (s.framed p j phase gain).rd (OPE.P_PC.PHASE p j) = phase % 2 ^ (OPE.P_PC.PHASE p j).width ∧
      (s.framed p j phase gain).rd (OPE.P_PC.GAIN p j) = gain % 2 ^ (OPE.P_PC.GAIN p j).width ∧
      (s.framed p j phase gain).rd (OPE.P_STAT.RX_FRAMED p) = 1 := by
  refine ⟨?_, ?_, ?_, ?_⟩
  · rw [State.framed_rd _ _ _ _ _ (Field.key_ne_of_lo rfl) (Field.key_ne_of_lo rfl), State.cached,
      State.rd_wr_ne _ _ (Field.key_ne_of_lo rfl), State.rd_wr_ne _ _ (Field.key_ne_of_lo rfl),
      State.rd_wr_ne _ _ (Field.key_ne_of_lo rfl), State.rd_wr_ne _ _ (Field.key_ne_of_lo rfl), State.rd_wr_self]
    rfl
  · rw [State.framed_rd _ _ _ _ _ (Field.key_ne_of_lo rfl) (Field.key_ne_of_lo rfl), State.cached,
      State.rd_wr_ne _ _ (Field.key_ne_of_lo rfl), State.rd_wr_ne _ _ (Field.key_ne_of_lo rfl),
      State.rd_wr_ne _ _ (Field.key_ne_of_lo rfl), State.rd_wr_self]
  · rw [State.framed_rd _ _ _ _ _ (Field.key_ne_of_lo rfl) (Field.key_ne_of_lo rfl), State.cached,
      State.rd_wr_ne _ _ (Field.key_ne_of_lo rfl), State.rd_wr_ne _ _ (Field.key_ne_of_lo rfl), State.rd_wr_self]
  · rw [State.framed, State.rd_wr_ne _ _ (Field.key_ne_of_lo rfl), State.rd_wr_self]
    rfl

/-- An arrival that is looked at, on an optical port. -/
theorem execSlotArrival_of_optical {s : State} {l : Fin 22} {n : Nat} (a : Arrival) (hup : s.fabUp = true)
    (hopen : (s.plan n).closed.contains l.val = false) (hnew : s.incoming n l = none) (hl : l.val < 16) :
    execSlotArrival l n a s = .next (s.arriveOptical l n a) :=
  (if_neg (by rw [hup, hopen, hnew]; decide)).trans (if_pos (decide_eq_true hl))

/-- An arrival that is looked at, on a copper link. -/
theorem execSlotArrival_of_copper {s : State} {l : Fin 22} {n : Nat} (a : Arrival) (hup : s.fabUp = true)
    (hopen : (s.plan n).closed.contains l.val = false) (hnew : s.incoming n l = none) (hl : 16 ≤ l.val) :
    execSlotArrival l n a s = .next (s.arriveCopper l n a) :=
  (if_neg (by rw [hup, hopen, hnew]; decide)).trans (if_neg (by simp [optical, Nat.not_lt.2 hl]))

/-- A claim of an optical port whose slot is framed. -/
theorem State.arriveOptical_of_framed {s : State} {l n f : Nat} (ph : BitVec 6) (g : BitVec 4)
    (hlive : ((s.plan n).rxOf l).live = true) (hflight : s.flight l ((s.plan n).rxOf l).peer = some f) :
    s.arriveOptical l n (.optical ph g) =
      ((s.advance (slotStart n + f + tenths 256)).framed l ((s.plan n).rxOf l).peer ph.toNat g.toNat).setIncoming n l
        { act := (s.plan n).rxOf l } := by
  unfold State.arriveOptical
  generalize (s.plan n).rxOf l = act at hlive hflight ⊢
  cases act with
  | none => cases hlive
  | quiet => cases hlive
  | take r j => simp only [hflight]
  | fell r j => simp only [hflight]
  | relay q j => simp only [hflight]
  | transit k => simp only [hflight]

/-- A slot framed on an optical port that no claim expects. -/
theorem State.arriveOptical_of_unclaimed {s : State} {l n : Nat} (ph : BitVec 6) (g : BitVec 4)
    (h : (s.plan n).rxOf l = .none) : s.arriveOptical l n (.optical ph g) = s.rxUnsched l := by
  unfold State.arriveOptical
  rw [h]

/-- A claim executed as QUIET meets nothing. -/
theorem State.arriveOptical_of_quiet {s : State} {l n : Nat} (a : Arrival) (h : (s.plan n).rxOf l = .quiet) :
    s.arriveOptical l n a = s := by
  unfold State.arriveOptical
  rw [h]

/-- The lanes' qualities change registers alone. -/
@[simp] theorem State.laneQuality_cuLink (s : State) (k : Nat) (bs : List LaneBlock) (m : Nat) :
    (s.laneQuality k bs).cuLink m = s.cuLink m := by
  unfold State.laneQuality
  induction bs generalizing s with
  | nil => rfl
  | cons b bs ih =>
    rw [List.foldl_cons, ih]
    split <;> rfl

/-- A claim of a trained copper link whose slot is framed and is no filler. -/
theorem State.arriveCopper_of_framed {s : State} {l n : Nat} (h : BitVec 2) (bs : List LaneBlock)
    (hcu : s.cuUp (l - 16) = true) (hlive : ((s.plan n).rxOf l).live = true) :
    let u := s.advance (slotStart n + s.cuFlight (l - 16) + tenths (768 * h.toNat))
    s.arriveCopper l n (.copper h false bs) =
      ((u.setCu (l - 16) { u.cuLink (l - 16) with fails := 0 }).laneQuality (l - 16) bs).setIncoming n l
        { act := (s.plan n).rxOf l, hops := h.toNat } := by
  rw [State.arriveCopper]
  dsimp only
  rw [if_neg (by simp [hcu]), if_pos hlive]
  rfl

theorem State.arriveCopper_of_untrained {s : State} {l : Nat} (n : Nat) (a : Arrival) (hcu : s.cuUp (l - 16) = false) :
    s.arriveCopper l n a = s := if_pos (by simp [hcu])

/-- The phase cache's entry of a sender that has failed framing four times is invalid, with the port's event. -/
theorem execPhaseCacheInvalid_of_failed {s : State} {p : Fin 16} {j : Fin 32} (hup : s.fabUp = true)
    (hfails : 4 ≤ (s.pair p j).fails) (hvalid : s.on (OPE.P_PC.VALID p j) = true) :
    execPhaseCacheInvalid p j s = .next ((s.wr (OPE.P_PC.VALID p j) 0).raise (OPE.EVENT.PC_INVALID (p.val / 4))) :=
  if_neg (by simp [hup, hvalid, hfails])

/-- An optical engine's registers lie below the counters'. -/
theorem pcInvalid_off_lt (p : Fin 16) : (OPE.EVENT.PC_INVALID (p.val / 4)).off < 0xB00000 := by
  simp only [OPE.EVENT.PC_INVALID]; omega

theorem pcValid_off_lt (p : Fin 16) (j : Nat) : (OPE.P_PC.VALID p j).off < 0xB00000 := by
  simp only [OPE.P_PC.VALID]; omega

/-- What the invalidation of a cache entry shows and what it leaves alone. -/
theorem State.pcInvalid_shows (s : State) (p : Fin 16) (j : Nat) :
    let t := (s.wr (OPE.P_PC.VALID p j) 0).raise (OPE.EVENT.PC_INVALID (p.val / 4))
    t.rd (OPE.P_PC.VALID p j) = 0 ∧ s.flagged t (OPE.EVENT.PC_INVALID (p.val / 4)) ∧
      s.onlyEvent t [OPE.P_PC.VALID p j, OPE.EVENT.PC_INVALID (p.val / 4), seqOf (OPE.EVENT.PC_INVALID (p.val / 4))] := by
  have hoff := pcInvalid_off_lt p
  refine ⟨?_, ⟨?_, ?_⟩, ?_⟩
  · rw [State.raise_rd_ne _ _ _ (Field.key_ne_of_lo rfl) (Field.key_ne_of_lo rfl)
      (notMem_recorderFields (by decide : 31 < 128) (pcValid_off_lt p j)), State.rd_wr_self]
    rfl
  · exact State.raise_rd_self _ _ _ rfl (by decide : 3 ≠ 24) (notMem_recorderFields (by decide : 3 < 128) hoff)
  · rw [State.raise_rd_seq _ _ _ (by decide : 3 ≠ 24) (notMem_recorderFields (by decide : 24 < 128) hoff),
      State.rd_wr_ne _ _ (Field.key_ne_of_lo rfl)]
  · obtain ⟨hframe, hregs⟩ := State.raise_onlyEvent (s.wr (OPE.P_PC.VALID p j) 0)
      (f := OPE.EVENT.PC_INVALID (p.val / 4)) (v := 0) [] (l := [OPE.P_PC.VALID p j, OPE.EVENT.PC_INVALID (p.val / 4),
        seqOf (OPE.EVENT.PC_INVALID (p.val / 4))]) (by decide) (by simp) (by simp)
    exact ⟨hframe, State.regsBut_trans (State.regsBut_wr s 0 (by simp)) hregs⟩

/-! ### Codewords and the header (R123-R128, R150, R365-R367) -/

/-- The header codeword's own part: it is counted and timed. -/
def State.headerCounted (s : State) (n l : Nat) (x : Incoming) (w : Codeword) : State :=
  (s.advance (s.decodeTime n l 0 x)).wordStats l 0 x.act.peer w

/-- A header codeword that holds is acted on, and its payload is delivered while the claim goes on. -/
theorem execHeaderDecode_of_good {s : State} {l : Fin 22} {n : Nat} {x y : Incoming} {bytes : List Byte} {sy bi : Nat}
    (d : Int) (f : FifoFault) (ups : List Upset) (hup : s.fabUp = true) (hin : s.incoming n l = some x) (hnext : x.next = 0)
    (hok : headerOk bytes = true)
    (hy : ((s.headerCounted n l x (.good bytes sy bi)).headerGood n l { x with next := 1 } (Header.ofBytes bytes)
      d).incoming n l = some y) :
    execHeaderDecode l n (.good bytes sy bi) d f ups s = .next
      (((s.headerCounted n l x (.good bytes sy bi)).headerGood n l { x with next := 1 } (Header.ofBytes bytes)
        d).wordPayload n l 0 y (.good bytes sy bi) f ups) := by
  unfold State.headerCounted at *
  rw [execHeaderDecode, hin]
  dsimp only
  rw [if_neg (by simp [hup, hnext]), if_pos hok, hy]

/-- A header codeword beyond correction fails its operation. -/
theorem execHeaderDecode_of_bad {s : State} {l : Fin 22} {n : Nat} {x y : Incoming}
    (d : Int) (f : FifoFault) (ups : List Upset) (hup : s.fabUp = true) (hin : s.incoming n l = some x) (hnext : x.next = 0)
    (hy : ((s.headerCounted n l x .bad).headerBad n l { x with next := 1 }).incoming n l = some y) :
    execHeaderDecode l n .bad d f ups s = .next
      (((s.headerCounted n l x .bad).headerBad n l { x with next := 1 }).wordPayload n l 0 y .bad f ups) := by
  unfold State.headerCounted at *
  rw [execHeaderDecode, hin]
  dsimp only
  rw [if_neg (by simp [hup, hnext]), hy]

/-- A header of another version, too long for its link or of another slot is dropped. -/
theorem State.headerGood_of_refused {n l : Nat} {h : Header} (s : State) (x : Incoming) (d : Int)
    (hbad : h.ver ≠ 1 ∨ slotCap l < h.len ∨ h.slot ≠ n) : s.headerGood n l x h d = s.dropSlot n l x :=
  if_pos (hbad.imp_right fun h => h.imp_right .inl)

theorem State.dropSlot_incoming (s : State) (n l : Nat) (x : Incoming) :
    (s.dropSlot n l x).incoming n l = some { x with ended := true } := State.setIncoming_incoming_self _ n l _

theorem execCodewordDecode_of_next {s : State} {l : Fin 22} {n i : Nat} {x : Incoming} (w : Codeword) (f : FifoFault)
    (ups : List Upset) (hup : s.fabUp = true) (hin : s.incoming n l = some x) (hi : 0 < i) (hnext : x.next = i) :
    execCodewordDecode l n i w f ups s = .next
      (((s.advance (s.decodeTime n l i x)).wordStats l i x.act.peer w).wordPayload n l i x w f ups) := by
  rw [execCodewordDecode, hin]
  exact if_neg (by simp [hup, hnext, Nat.pos_iff_ne_zero.1 hi])

@[simp] theorem State.setRing_ring_self (s : State) (r : Nat) (x : Ring) : (s.setRing r x).ring r = x :=
  Tbl.lookD_put_self _ _ _ _

/-- The counts that RING_STAT shows are all that a ring's change writes of the registers. -/
theorem State.setRing_on (s : State) (r : Nat) (x : Ring) {g : Field} (hw : g.key ≠ (MEM.RING_STAT.WRITTEN r).key)
    (hc : g.key ≠ (MEM.RING_STAT.CLAIMED r).key) : (s.setRing r x).on g = s.on g :=
  (State.on_wr_ne _ _ hc).trans (State.on_wr_ne _ _ hw)

/-- A ring whose next entry is not free has overrun: counted and flagged. -/
def State.ringOverrun (s : State) (r : Nat) : State :=
  ((s.bump (MEM.RING_COUNTS.OVERRUNS r)).setFlag (MEM.RING_STAT.OVR r)).raise MEM.EVENT.RING_OVR

theorem State.ringOverrun_flags (s : State) (r : Nat) :
    (s.ringOverrun r).on MEM.EVENT.RING_OVR = true ∧ (s.ringOverrun r).on (MEM.RING_STAT.OVR r) = true := by
  constructor
  · rw [State.on, State.ringOverrun, State.raise_rd_self _ _ _ rfl (by decide) (by decide)]
    rfl
  · rw [State.on, State.ringOverrun, State.raise_rd_ne _ _ _ (Field.key_ne_of_lo rfl) (Field.key_ne_of_lo rfl)
      (notMem_recorderFields (by decide : 23 < 128) (by decide : 0xA40010 < 0xB00000)),
      State.rd_setFlag_self _ rfl (by decide : 23 ≠ 24)]
    rfl

/-- A TAKE's header that fits takes the ring's next entry, overrun or not. -/
theorem State.takeHeader_of_fit {s : State} {l r : Nat} {x : Incoming} {h : Header} (hheld : s.ringHeld r = false)
    (hen : 0 < s.rd (MEM.RING_CFG.ENTRIES r)) (hlen : h.len ≤ s.rd (MEM.RING_CFG.SLOT64 r) * 64) :
    s.takeHeader l r x h =
      ((if (Tbl.look (s.ring r).entries (s.ring r).pos).isSome then s.ringOverrun r else s).setRing r
          { s.ring r with entries := Tbl.del (s.ring r).entries (s.ring r).pos,
                          pos := ((s.ring r).pos + 1) % s.rd (MEM.RING_CFG.ENTRIES r), gen := (s.ring r).gen + 1 },
        { x with target := (s.ring r).pos, gen := (s.ring r).gen + 1 }) := by
  have hgo : ¬ (s.rd (MEM.RING_CFG.ENTRIES r) = 0 ∨ s.rd (MEM.RING_CFG.SLOT64 r) * 64 < h.len) := by omega
  rw [State.takeHeader]
  dsimp only
  rw [if_neg (show ¬ s.ringHeld r = true by simp [hheld]), if_neg hgo]
  rfl

/-- A TAKE of a ring with no entries has nowhere to go. -/
theorem State.takeHeader_of_empty {s : State} {r : Nat} (l : Nat) (x : Incoming) (h : Header)
    (hen : s.rd (MEM.RING_CFG.ENTRIES r) = 0) : (s.takeHeader l r x h).2 = { x with ended := true } := by
  rw [State.takeHeader]
  dsimp only
  rw [if_pos (.inl (by simp [hen]))]

/-- What a TAKE's header that fits leaves: the entry it is for, the ring's next entry, and the overrun's flags. -/
theorem State.takeHeader_shows {s : State} {l r : Nat} {x : Incoming} {h : Header} (hheld : s.ringHeld r = false)
    (hen : 0 < s.rd (MEM.RING_CFG.ENTRIES r)) (hlen : h.len ≤ s.rd (MEM.RING_CFG.SLOT64 r) * 64) :
    let q := s.takeHeader l r x h
    q.2.target = (s.ring r).pos ∧ (q.1.ring r).pos = ((s.ring r).pos + 1) % s.rd (MEM.RING_CFG.ENTRIES r) ∧
      (Tbl.look (s.ring r).entries (s.ring r).pos ≠ none → q.1.on MEM.EVENT.RING_OVR = true ∧
        q.1.on (MEM.RING_STAT.OVR r) = true) := by
  intro q
  rw [show q = _ from State.takeHeader_of_fit hheld hen hlen]
  refine ⟨rfl, by rw [State.setRing_ring_self], fun hused => ?_⟩
  have hkeep {g : Field} (hon : (s.ringOverrun r).on g = true) (hw : g.key ≠ (MEM.RING_STAT.WRITTEN r).key)
      (hc : g.key ≠ (MEM.RING_STAT.CLAIMED r).key) (x : Ring) : ((s.ringOverrun r).setRing r x).on g = true :=
    (State.setRing_on _ r x hw hc).trans hon
  obtain ⟨hevent, hstat⟩ := State.ringOverrun_flags s r
  rw [if_pos (Option.isSome_iff_ne_none.2 hused)]
  exact ⟨hkeep hevent (Field.key_ne_of_lo rfl) (Field.key_ne_of_lo rfl) _,
    hkeep hstat (Field.key_ne_of_lo rfl) (Field.key_ne_of_lo rfl) _⟩

/-- A relayed payload that is complete is committed to its queue at its delivery time. -/
theorem execRelayCommit_of_complete {s : State} {l : Fin 22} {n q j k : Nat} {x : Incoming} {r : List Nat}
    (hup : s.fabUp = true) (hin : s.incoming n l = some x) (hact : x.act = .relay q j) (hpocket : x.pocket = k :: r)
    (hended : x.ended = false) (hnext : lastWord l < x.next) :
    let u := s.advance (s.deliveryTime n l x)
    execRelayCommit l n s = .next ((u.setQueue q (u.queue q ++
      [.relay (k :: r) (x.bytes.map fun b => b.getD 0) u.now])).endIncoming n l) := by
  rw [execRelayCommit, hin]
  dsimp only
  rw [hact, hpocket]
  exact if_neg (by simp [hup, hended, hnext])

@[simp] theorem State.endIncoming_now (s : State) (n l : Nat) : (s.endIncoming n l).now = s.now := rfl

@[simp] theorem State.endIncoming_queue (s : State) (n l q : Nat) : (s.endIncoming n l).queue q = s.queue q := rfl

/-- Settles O39: a claim meets a slot framed, a slot that it does not want or none; its header is checked and acted on,
its payload goes on codeword by codeword, and a relayed one is committed. -/
theorem slotsReceived : Obligations.SlotsReceived := by
  unfold Obligations.SlotsReceived
  refine ⟨fun s l n hup hopen hnew => ⟨fun ph g f hl hlive hflight => ?framed, fun ph g hl hnone => ?unclaimed,
      fun a hl hquiet => ?quiet, fun h bs hl hcu hlive => ?copper, fun a hl hcu => ?untrained⟩,
    fun s p j hup hfails hvalid => ⟨_, execPhaseCacheInvalid_of_failed hup hfails hvalid, State.pcInvalid_shows s p j⟩,
    fun s l n x d f ups bytes sy bi hup hin hnext => ⟨fun y hok => execHeaderDecode_of_good d f ups hup hin hnext hok,
      fun y => execHeaderDecode_of_bad d f ups hup hin hnext⟩,
    fun s n l x h d => ⟨State.headerGood_of_refused s x d, State.dropSlot_incoming s n l x⟩,
    fun s l r x h hheld _ hen hlen => State.takeHeader_shows hheld hen hlen,
    fun s l r x h hen => State.takeHeader_of_empty l x h hen,
    fun s l n i x w f ups hup hin hi hnext => execCodewordDecode_of_next w f ups hup hin hi hnext,
    fun s l n q j k x r hup hin hact hpocket hended hnext => ?relay⟩
  case framed =>
    obtain ⟨hpc, hphase, hgain, hframed⟩ := State.framed_shows (s.advance (slotStart n + f + tenths 256)) l
      ((s.plan n).rxOf l).peer ph.toNat g.toNat
    refine ⟨_, (execSlotArrival_of_optical _ hup hopen hnew hl).trans (congrArg _
      (State.arriveOptical_of_framed ph g hlive hflight)), State.framed_now _ _ _ _ _,
      State.setIncoming_incoming_self _ n l _, hpc, hphase, hgain, hframed, State.framed_fails _ _ _ _ _⟩
  case unclaimed =>
    rw [exec_slotArrival, execSlotArrival_of_optical _ hup hopen hnew hl, State.arriveOptical_of_unclaimed ph g hnone]
  case quiet => rw [exec_slotArrival, execSlotArrival_of_optical a hup hopen hnew hl, State.arriveOptical_of_quiet a hquiet]
  case copper =>
    refine ⟨_, (execSlotArrival_of_copper _ hup hopen hnew hl).trans (congrArg _
      (State.arriveCopper_of_framed h bs hcu hlive)), State.setIncoming_incoming_self _ n l _, ?_⟩
    rw [State.setIncoming_cuLink, State.laneQuality_cuLink, State.setCu_cuLink_self]
  case untrained =>
    rw [exec_slotArrival, execSlotArrival_of_copper a hup hopen hnew hl, State.arriveCopper_of_untrained n a hcu]
  case relay =>
    refine ⟨_, execRelayCommit_of_complete hup hin hact hpocket hended hnext, State.endIncoming_incoming_self _ n l, rfl, ?_⟩
    rw [State.endIncoming_queue, State.setQueue_queue_self]
    rfl

/-! ### A switch missed (R109, R111, R112) -/

/-- R111 applies from the missed slot on, or from that of an earlier miss where that one comes first. -/
theorem State.swMiss_missed (s : State) (n : Nat) :
    (s.swMiss n).book.missed = some (s.book.missed.elim n fun m => min m n) := by
  rw [State.swMiss, State.raise_book]
  cases hm : s.book.missed <;> simp [hm]

/-- An arm that comes between its decision instant and its slot is a missed switch. -/
theorem State.pbArm_of_late {s : State} (hc : s.swState ≠ swCommitted)
    (htbl : boundary (s.rd PB.TBL_CYCLE.LEN) s.tblAlign s.swSlot = true)
    (hworn : s.on PB.STATUS.WORN_VALID = true →
      boundary (s.rd PB.WORN_CYCLE.LEN) (s.rd PB.WORN_ALIGN.ALIGN) s.swSlot = true)
    (hnow : s.now < slotStart s.swSlot) (hlate : slotStart s.swSlot < s.now + slotStart 4096) :
    s.pbArm = State.swMiss { s with book := { s.book with swAt := s.swSlot } } s.swSlot := by
  rw [State.pbArm]
  dsimp only
  rw [if_neg (by simpa [hc, htbl] using hworn)]
  exact (if_neg (Nat.not_le.2 hnow)).trans (if_pos hlate)

/-- A package with no leaf worn that has armed a switch for slot 1 too late, at hall time 0, and now asks for one at slot 2;
its table leaf has a cycle of one slot, so that every slot is a boundary. -/
def missedOnce : State :=
  (((State.reset.wr PB.TBL_CYCLE.LEN 1).wr PB.SWITCH_LO.SLOT 1).pbArm).wr PB.SWITCH_LO.SLOT 2

/-- The second switch is missed too, and R111 goes on applying from slot 1: no switch has committed since. -/
theorem missedOnce_pbArm : missedOnce.pbArm.book.missed = some 1 := by
  rw [State.pbArm_of_late (by decide) (by decide) (by decide) (by decide) (by decide), State.swMiss_missed]
  decide

/-- Refutes O41: its clause of the late arm has R111 begin at the new slot N whatever came before, but R111 lasts until a
later switch commits (log entry 58), so a second miss leaves it applying from the first one's slot. -/
theorem not_leaves : ¬ Obligations.Leaves := by
  unfold Obligations.Leaves
  rintro ⟨-, -, -, -, -, harm, -⟩
  obtain ⟨-, -, hlate⟩ := harm missedOnce
  obtain ⟨t, hexec, -, -, hmissed, -⟩ := hlate (by decide) (by decide) (by decide)
  obtain rfl : missedOnce.pbArm = t := Host.Outcome.next.inj hexec
  rw [missedOnce_pbArm] at hmissed
  exact absurd hmissed (by decide)

end Sys2Proof.Machine
end

section
/-! SUPPORT. Wardrobes, spares and the arming of a re-cable (05_colour_ports.md, 07_recabling.md): what a write of each
register leaves, and the statement about them. -/
namespace Sys2Proof.Machine
open Sys2Proof

/-! ### An event as a clause states it -/

/-- An event that is not FATAL, of a flag that stands below the counters' and the recorder's registers: it is flagged, and
nothing but its flag, SEQ and what the recorder keeps changes. -/
theorem State.raise_flags (s : State) {f : Field} {v : Nat} (d : List Byte) (hv : v ≠ 3) (hw : f.width = 1)
    (hl : f.lo < 24) (ho : f.off < 0xB00000) :
    s.flagged (s.raise f v d) f ∧ s.onlyEvent (s.raise f v d) [f, seqOf f] := by
  have hlo : f.lo ≠ 24 := Nat.ne_of_lt hl
  have hseq : (seqOf f).key ∉ recorderFields.map Field.key := notMem_recorderFields (by decide : 24 < 128) ho
  exact ⟨⟨State.raise_rd_self s v d hw hlo (notMem_recorderFields (by omega) ho), State.raise_rd_seq s v d hlo hseq⟩,
    State.raise_onlyEvent s d hv (by simp) (by simp)⟩

/-- An optical engine's event register lies below the counters'. -/
theorem opeEvent_off_lt {e : Nat} (h : e < 16) : (OPE.EVENT.CFG_ERR e).off < 0xB00000 := by
  simp only [OPE.EVENT.CFG_ERR]; omega

/-- A software write that is refused with an event is that event where parity is sound. -/
theorem State.bySoft_of_raise {s : State} {f : State → State} {g : Field} (off inst v : Nat) (hs : s.csrSound)
    (h : f s = s.raise g) : s.bySoft off inst v f = s.raise g :=
  (State.bySoft_of_csrSound off inst v hs (by rw [h, State.raise_sys _ _ _ _ (by decide)])).trans h

/-! ### A ring's target brought up to date leaves parity alone (R138, R186) -/

/-- What every step of a fold keeps, the fold keeps. -/
theorem State.foldl_sys {β : Type} {f : State → β → State} (h : ∀ (s : State) (x : β), (f s x).sys = s.sys)
    (l : List β) (s : State) : (l.foldl f s).sys = s.sys :=
  List.foldlRecOn (motive := fun t => t.sys = s.sys) _ _ rfl fun t ht x _ => (h t x).trans ht

@[simp] theorem State.showCal_sys (s : State) (l : Nat) : (s.showCal l).sys = s.sys := rfl

@[simp] theorem State.setDemand_sys (s : State) (l : Nat) (d : Int) : (s.setDemand l d).sys = s.sys := by
  unfold State.setDemand State.showNum
  split <;> rfl

@[simp] theorem State.txAbort_sys (s : State) (l : Nat) : (s.txAbort l).sys = s.sys := by
  unfold State.txAbort
  dsimp only
  split
  · exact State.raise_sys _ _ _ _ (by decide)
  · rfl

@[simp] theorem State.cutLink_sys (s : State) (n l : Nat) : (s.cutLink n l).sys = s.sys := by
  unfold State.cutLink
  dsimp only
  split
  · rfl
  · split
    · rfl
    · rw [State.txAbort_sys, State.setPlan_sys]
    · rfl

@[simp] theorem State.silence_sys (s : State) (l : Nat) : (s.silence l).sys = s.sys := by
  unfold State.silence
  dsimp only
  split <;> rfl

@[simp] theorem State.ringGone_sys (s : State) (p r : Nat) : (s.ringGone p r).sys = s.sys := by
  have hcut := State.foldl_sys (f := fun (s : State) (x : Nat × Plan) => s.cutLink x.1 p)
    (fun s x => State.cutLink_sys s x.1 p)
  unfold State.ringGone
  dsimp only
  split
  · rw [State.silence_sys, hcut]
  · exact hcut _ _

@[simp] theorem State.ringTo_sys (s : State) (l st : Nat) : (s.ringTo l st).sys = s.sys := by
  unfold State.ringTo
  dsimp only
  split
  · rfl
  · split
    · rw [State.ringGone_sys, State.wr_sys, State.setLoop_sys]
    · rfl

/-- Every way on from a new target, JUMP, SWEEP or PARKED, is a change of state and a demand. -/
@[simp] theorem State.relock_sys (s : State) (l k : Nat) : (s.relock l k).sys = s.sys := by
  unfold State.relock
  split
  · simp [State.enterJump]
  · simp [State.enterSweep]

@[simp] theorem State.enterParked_sys (s : State) (l : Nat) : (s.enterParked l).sys = s.sys := by
  simp [State.enterParked]

@[simp] theorem State.retarget_sys (s : State) (l : Nat) : (s.retarget l).sys = s.sys := by
  unfold State.retarget
  dsimp only
  split
  · rfl
  · split
    · rfl
    · split
      · rfl
      · split <;> simp

@[simp] theorem State.retargetPort_sys (s : State) (p : Nat) : (s.retargetPort p).sys = s.sys :=
  State.foldl_sys (fun s r => State.retarget_sys s (loopOf p r)) _ s

/-! ### Wardrobes (R138) -/

/-- A wardrobe register holds ring `i`'s valid bit and colour in its byte `i`. -/
theorem wardField_place (p : Nat) (hi : Bool) {i : Nat} (h : i < 4) :
    (wardField p (4 * bit hi + i)).1.lo = 8 * i + 7 ∧ (wardField p (4 * bit hi + i)).2.lo = 8 * i ∧
      (wardField p (4 * bit hi + i)).1.width = 1 ∧ (wardField p (4 * bit hi + i)).2.width = 5 := by
  have hcase : i = 0 ∨ i = 1 ∨ i = 2 ∨ i = 3 := by omega
  rcases hcase with rfl | rfl | rfl | rfl <;> cases hi <;> exact ⟨rfl, rfl, rfl, rfl⟩

/-- One wardrobe field of a register's value stored. -/
def State.wrWard (s : State) (p : Nat) (hi : Bool) (v i : Nat) : State :=
  (s.wr (wardField p (4 * bit hi + i)).1 (bitsOf v (8 * i + 7) 1)).wr (wardField p (4 * bit hi + i)).2 (bitsOf v (8 * i) 5)

/-- A wardrobe register is stored ring by ring. -/
theorem State.storeWard_eq (s : State) (p : Nat) (hi : Bool) (v : Nat) : s.storeWard p hi v =
    (List.range 4).foldl (fun s i => s.wrWard p hi v i) s := rfl

@[simp] theorem State.storeWard_sys (s : State) (p : Nat) (hi : Bool) (v : Nat) : (s.storeWard p hi v).sys = s.sys := by
  rw [State.storeWard_eq]
  exact State.foldl_sys (f := fun (s : State) i => s.wrWard p hi v i) (fun _ _ => rfl) _ s

theorem bitsOf_mod (v lo w : Nat) : bitsOf v lo w % 2 ^ w = bitsOf v lo w := Nat.mod_mod _ _

/-- A field of one bit reads zero where the bit is clear. -/
theorem bitsOf_one_bne_zero (v i : Nat) : (bitsOf v i 1 != 0) = bitOf v i := by
  rcases Nat.mod_two_eq_zero_or_one (v / 2 ^ i) with h | h <;> simp [bitsOf, bitOf, h]

/-- A ring reads in its wardrobe the colour that was stored for it. -/
theorem State.wrWard_wardColour_self (s : State) (p : Nat) (hi : Bool) (v : Nat) {i : Nat} (h : i < 4) :
    (s.wrWard p hi v i).wardColour p (4 * bit hi + i) = wardOf v i := by
  obtain ⟨hvalid, hcol, hwv, hwc⟩ := wardField_place p hi h
  have hn : 4 * bit hi + i < 8 := by cases hi <;> simp [bit] <;> omega
  have hkey : (wardField p (4 * bit hi + i)).1.key ≠ (wardField p (4 * bit hi + i)).2.key :=
    Field.key_ne_of_lo (by rw [hvalid, hcol, beq_eq_false_iff_ne]; omega)
  have hon : (s.wrWard p hi v i).on (wardField p (4 * bit hi + i)).1 = bitOf v (8 * i + 7) := by
    rw [State.on, State.wrWard, State.rd_wr_ne _ _ hkey, State.rd_wr_self, hwv, bitsOf_mod, bitsOf_one_bne_zero]
  have hrd : (s.wrWard p hi v i).rd (wardField p (4 * bit hi + i)).2 = bitsOf v (8 * i) 5 := by
    rw [State.wrWard, State.rd_wr_self, hwc, bitsOf_mod]
  simp [State.wardColour, wardOf, hn, hon, hrd]

/-- A ring's wardrobe is not changed by another's of the same register. -/
theorem State.wrWard_wardColour_ne (s : State) (p : Nat) (hi : Bool) (v : Nat) {i j : Nat} (hi4 : i < 4) (hj : j < 4)
    (hne : i ≠ j) : (s.wrWard p hi v j).wardColour p (4 * bit hi + i) = s.wardColour p (4 * bit hi + i) := by
  obtain ⟨hvalid, hcol, -, -⟩ := wardField_place p hi hi4
  obtain ⟨hvalid', hcol', -, -⟩ := wardField_place p hi hj
  have hkeep {g : Field} (hg : g.lo = 8 * i + 7 ∨ g.lo = 8 * i) : (s.wrWard p hi v j).rd g = s.rd g := by
    rw [State.wrWard, State.rd_wr_ne _ _ (Field.key_ne_of_lo (by rw [hcol', beq_eq_false_iff_ne]; omega)),
      State.rd_wr_ne _ _ (Field.key_ne_of_lo (by rw [hvalid', beq_eq_false_iff_ne]; omega))]
  rw [State.wardColour, State.wardColour, State.on, State.on, hkeep (.inl hvalid), hkeep (.inr hcol)]

/-- A ring that is stored, or that reads the colour of its byte already, reads it once the rings of a list are stored. -/
theorem State.foldl_wrWard_wardColour (s : State) (p : Nat) (hi : Bool) (v : Nat) {i : Nat} (h : i < 4) (l : List Nat)
    (hl : ∀ j ∈ l, j < 4) (hm : i ∈ l ∨ s.wardColour p (4 * bit hi + i) = wardOf v i) :
    (l.foldl (fun s j => s.wrWard p hi v j) s).wardColour p (4 * bit hi + i) = wardOf v i := by
  induction l generalizing s with
  | nil => exact hm.resolve_left List.not_mem_nil
  | cons j l ih =>
    rw [List.foldl_cons]
    refine ih _ (fun k hk => hl k (List.mem_cons_of_mem _ hk)) ?_
    by_cases hij : i = j
    · exact .inr (hij ▸ State.wrWard_wardColour_self s p hi v h)
    · rcases hm with hm | hm
      · exact .inl ((List.mem_cons.1 hm).resolve_left hij)
      · exact .inr ((State.wrWard_wardColour_ne s p hi v h (hl j List.mem_cons_self) hij).trans hm)

/-- Each ring of a wardrobe register reads the colour of its byte. -/
theorem State.storeWard_wardColour (s : State) (p : Nat) (hi : Bool) (v : Nat) {i : Nat} (h : i < 4) :
    (s.storeWard p hi v).wardColour p (4 * bit hi + i) = wardOf v i :=
  State.foldl_wrWard_wardColour s p hi v h (List.range 4) (fun _ => List.mem_range.1) (.inl (List.mem_range.2 h))

/-- A port's wardrobe as a write of one of its two registers would leave it. -/
def State.newWardrobe (s : State) (p : Nat) (hi : Bool) (v : Nat) : List (Option Nat) :=
  if hi then (s.wardrobe p).take 4 ++ (List.range 4).map (wardOf v)
  else (List.range 4).map (wardOf v) ++ (s.wardrobe p).drop 4

theorem execWardrobeWrite_of_apart {s : State} {p : Fin 16} {hi : Bool} {v : BitVec 32} (hs : s.csrSound)
    (h : wardClash (s.newWardrobe p hi v.toNat) = false) :
    execWardrobeWrite p hi v s = .next ((s.storeWard p hi v.toNat).retargetPort p) := by
  have hw : s.writeWard p hi v.toNat = (s.storeWard p hi v.toNat).retargetPort p :=
    if_neg (Bool.eq_false_iff.1 h)
  rw [execWardrobeWrite, State.bySoft_of_csrSound _ _ _ hs (by rw [hw, State.retargetPort_sys, State.storeWard_sys]), hw]

theorem execWardrobeWrite_of_clash {s : State} {p : Fin 16} {hi : Bool} {v : BitVec 32} (hs : s.csrSound)
    (h : wardClash (s.newWardrobe p hi v.toNat) = true) :
    execWardrobeWrite p hi v s = .next (s.raise (OPE.EVENT.CFG_ERR (p.val / 4))) := by
  have hw : s.writeWard p hi v.toNat = s.raise (OPE.EVENT.CFG_ERR (p.val / 4)) := if_pos h
  rw [execWardrobeWrite, State.bySoft_of_raise _ _ _ hs hw]

/-! ### Spares (R139, R192) -/

/-- A value of P<q>_SPARE that names rings, or none, and leaves B where it is. -/
theorem execSpareWrite_of_named {s : State} {p : Fin 16} {v : BitVec 32} (hs : s.csrSound)
    (hb : bitsOf v.toNat 0 4 < 8 ∨ bitsOf v.toNat 0 4 = 15) (hw : bitsOf v.toNat 8 4 < 8 ∨ bitsOf v.toNat 8 4 = 15)
    (hkeep : bitsOf v.toNat 0 4 = s.bFor p) :
    execSpareWrite p v s = .next (((s.wr (OPE.P_SPARE.B_FOR p) (bitsOf v.toNat 0 4)).wr (OPE.P_SPARE.S_FOR p)
      (bitsOf v.toNat 8 4)).retargetPort p) := by
  have h : s.writeSpare p v.toNat = ((s.wr (OPE.P_SPARE.B_FOR p) (bitsOf v.toNat 0 4)).wr (OPE.P_SPARE.S_FOR p)
      (bitsOf v.toNat 8 4)).retargetPort p := by
    rw [State.writeSpare]
    dsimp only
    rw [if_neg (by omega), if_pos hkeep]
  rw [execSpareWrite, State.bySoft_of_csrSound _ _ _ hs (by rw [h]; simp), h]

theorem execSpareWrite_of_unnamed {s : State} {p : Fin 16} {v : BitVec 32} (hs : s.csrSound)
    (hb : 8 ≤ bitsOf v.toNat 0 4 ∧ bitsOf v.toNat 0 4 ≠ 15) :
    execSpareWrite p v s = .next (s.raise (OPE.EVENT.CFG_ERR (p.val / 4))) := by
  have h : s.writeSpare p v.toNat = s.raise (OPE.EVENT.CFG_ERR (p.val / 4)) := if_pos (.inl hb)
  rw [execSpareWrite, State.bySoft_of_raise _ _ _ hs h]

/-! ### Staging a re-cable (R200-R202) -/

theorem wardMask_lt (v : Nat) : wardMask v < 2 ^ 32 := Nat.lt_of_le_of_lt Nat.and_le_right (by decide)

/-- Staging is open unless a re-cable is committed or runs (the model's choice in log entry 73). -/
theorem State.stageOpen {s : State} (hc : s.rcState ≠ rcCommitted) (hr : s.rcState ≠ rcRunning) :
    ¬ (s.rcState = rcCommitted ∨ s.rcState = rcRunning) := not_or.2 ⟨hc, hr⟩

theorem execRcbStageWrite_of_apart {s : State} {p : Fin 16} {v : BitVec 32} (hs : s.csrSound)
    (hcfgn : ¬ (s.rcState = rcCommitted ∨ s.rcState = rcRunning))
    (h : wardClash ((List.range 4).map (wardOf v.toNat) ++ (s.staged p).drop 4) = false) :
    execRcbStageWrite p false v s = .next (s.wr (CAL.RCB_WARD_0.W3_W0 p) (wardMask v.toNat)) := by
  have hw : s.writeStage p false v.toNat = s.wr (CAL.RCB_WARD_0.W3_W0 p) (wardMask v.toNat) :=
    (if_neg hcfgn).trans (if_neg (Bool.eq_false_iff.1 h))
  rw [execRcbStageWrite, State.bySoft_of_wr _ _ _ hs hw]

theorem execRcbStageWrite_of_clash {s : State} {p : Fin 16} {v : BitVec 32} (hs : s.csrSound)
    (hcfgn : ¬ (s.rcState = rcCommitted ∨ s.rcState = rcRunning))
    (h : wardClash ((s.staged p).take 4 ++ (List.range 4).map (wardOf v.toNat)) = true) :
    execRcbStageWrite p true v s = .next (s.raise CAL.RCB_EVENT.CFG_ERR) := by
  have hw : s.writeStage p true v.toNat = s.raise CAL.RCB_EVENT.CFG_ERR := (if_neg hcfgn).trans (if_pos h)
  rw [execRcbStageWrite, State.bySoft_of_raise _ _ _ hs hw]

theorem execRcbStageWrite_of_frozen {s : State} (p : Fin 16) (hi : Bool) (v : BitVec 32) (hs : s.csrSound)
    (h : s.rcState = rcCommitted ∨ s.rcState = rcRunning) :
    execRcbStageWrite p hi v s = .next (s.bump CAL.RCB_COUNTS.FROZEN_WR) :=
  congrArg Host.Outcome.next (State.bySoft_of_wr _ _ _ hs (if_pos h))

/-! ### Arming a re-cable and cancelling it (R200, R203) -/

/-- A re-cable armed for a switch of the leaf. -/
def State.rcArmedAt (s : State) (n : Nat) : State :=
  ((s.wr CAL.RCB_SLOT.R n).wr CAL.RCB_STAT.STATE rcArmed).wr CAL.RCB_STAT.PHASE 0

theorem execRcbArm_of_switch {s : State} (hsafe : s.unsafeBlock 9 = false) (hsw : s.swState = swArmed)
    (hslot : s.swSlot % 64 = 0) (hst : s.rcState = rcIdle ∨ s.rcState = rcDone) :
    execRcbArm s = .next (s.rcArmedAt s.swSlot) := by
  have hgo : ¬ (s.swState ≠ swArmed ∨ s.swSlot % 64 ≠ 0 ∨ (s.rcState ≠ rcIdle ∧ s.rcState ≠ rcDone) ∨
      s.unsafeBlock 9 = true) := by
    rcases hst with h | h <;> simp [hsafe, hsw, hslot, h]
  exact congrArg Host.Outcome.next (if_neg hgo)

theorem State.rcArmedAt_shows (s : State) (n : Nat) :
    (s.rcArmedAt n).rcState = rcArmed ∧ (s.rcArmedAt n).rd CAL.RCB_STAT.PHASE = 0 ∧
      (s.rcArmedAt n).rd CAL.RCB_SLOT.R = n % 2 ^ CAL.RCB_SLOT.R.width ∧
      s.onlyRegs (s.rcArmedAt n) [CAL.RCB_SLOT.R, CAL.RCB_STAT.STATE, CAL.RCB_STAT.PHASE] := by
  refine ⟨?state, State.rd_wr_self _ _ _, ?slot, rfl, ?frame⟩
  case state => rw [State.rcState, State.rcArmedAt, State.rd_wr_ne _ _ (by decide), State.rd_wr_self]; rfl
  case slot => rw [State.rcArmedAt, State.rd_wr_ne _ _ (by decide), State.rd_wr_ne _ _ (by decide), State.rd_wr_self]
  case frame =>
    exact State.regsBut_trans (State.regsBut_trans (State.regsBut_wr s n (by simp)) (State.regsBut_wr _ _ (by simp)))
      (State.regsBut_wr _ _ (by simp))

theorem execRcbArm_of_refused {s : State} (h : s.swState ≠ swArmed ∨ s.swSlot % 64 ≠ 0) :
    execRcbArm s = .next ((s.bump CAL.RCB_COUNTS.REFUSED).raise CAL.RCB_EVENT.ARM_REFUSED) :=
  congrArg Host.Outcome.next (if_pos (h.imp_right .inl))

/-- An event after a count is flagged as it is without it, where the counter is neither the flag nor SEQ. -/
theorem State.bump_raise_flagged (s : State) {n f : Field} {v : Nat} (d : List Byte) (hv : v ≠ 3) (hw : f.width = 1)
    (hl : f.lo < 24) (ho : f.off < 0xB00000) (hn : (seqOf f).key ≠ n.key) : s.flagged ((s.bump n).raise f v d) f := by
  obtain ⟨⟨hflag, hseq⟩, -⟩ := State.raise_flags (s.bump n) d hv hw hl ho
  exact ⟨hflag, hseq.trans (by rw [State.rd_bump_ne _ hn])⟩

theorem execRcbCancel_of_armed {s : State} (h : s.rcState = rcArmed) :
    execRcbCancel s = .next (s.wr CAL.RCB_STAT.STATE rcIdle) := congrArg Host.Outcome.next (if_pos h)

theorem execRcbCancel_of_running {s : State} (h : s.rcState = rcRunning) :
    execRcbCancel s = .next (s.raise CAL.RCB_EVENT.ARM_REFUSED) :=
  congrArg Host.Outcome.next ((if_neg (by rw [h]; decide)).trans (if_pos (.inr h)))

/-- Settles O29: each write is its registers stored, or its one event or count, and so are an arming and a cancel. -/
theorem wardrobes : Obligations.Wardrobes := by
  unfold Obligations.Wardrobes
  have hcfg (s : State) (p : Fin 16) := State.raise_flags s (f := OPE.EVENT.CFG_ERR (p.val / 4)) (v := 0) [] (by decide) rfl
    (by decide : 5 < 24) (opeEvent_off_lt (by omega))
  refine ⟨fun s p hi v hs => ⟨execWardrobeWrite_of_apart hs, fun h => ⟨_, execWardrobeWrite_of_clash hs h, hcfg s p⟩⟩,
    fun s p hi v i h => State.storeWard_wardColour s p hi v h,
    fun s p v hs => ⟨execSpareWrite_of_named hs, fun h => ⟨_, execSpareWrite_of_unnamed hs h, hcfg s p⟩⟩,
    fun s p v hs => ⟨fun hc hr h => ?staged, fun hc hr h => ?clash, fun h hi => ?frozen⟩,
    fun s hsafe hsw hslot hst => ⟨_, execRcbArm_of_switch hsafe hsw hslot hst, State.rcArmedAt_shows s _⟩,
    fun s h => ⟨_, execRcbArm_of_refused h, State.bump_raise_flagged s _ (by decide) rfl (by decide) (by decide) (by decide),
      State.bump_raise_onlyEvent s _ _ (by decide)⟩,
    fun s => ⟨fun h => ?cancel, fun h => ?running⟩⟩
  case staged => exact ⟨_, execRcbStageWrite_of_apart hs (State.stageOpen hc hr) h, State.wr_onlyRegs (wardMask_lt _)⟩
  case clash =>
    exact ⟨_, execRcbStageWrite_of_clash hs (State.stageOpen hc hr) h,
      State.raise_flags s _ (by decide) rfl (by decide) (by decide)⟩
  case frozen =>
    exact ⟨_, execRcbStageWrite_of_frozen p hi v hs h, State.rd_bump_self _ _, rfl, State.regsBut_bump s (by simp)⟩
  case cancel => exact ⟨_, execRcbCancel_of_armed h, State.wr_onlyRegs (by decide)⟩
  case running => exact ⟨_, execRcbCancel_of_running h, State.raise_flags s _ (by decide) rfl (by decide) (by decide)⟩

end Sys2Proof.Machine
end

section
/-! SUPPORT. Colour probes and the verification of a lock (05_colour_ports.md, 06_ring_locking.md): how a probe is asked
for, sent and answered, how it ends, and the statement about them. -/
namespace Sys2Proof.Machine
open Sys2Proof

/-! ### A probe asked for (R160, R161) -/

/-- GO does not touch the bits above it. -/
theorem bitsOf_or_one (v : Nat) {lo : Nat} (w : Nat) (h : 0 < lo) : bitsOf (v ||| 1) lo w = bitsOf v lo w := by
  rw [bitsOf, bitsOf, Nat.or_div_two_pow, Nat.div_eq_of_lt (Nat.one_lt_two_pow (Nat.ne_of_gt h)), Nat.or_zero]

/-- GO is set. -/
theorem bitOf_or_one (v : Nat) : bitOf (v ||| 1) 0 = true := by
  simp [bitOf, Nat.or_mod_two_eq_one]

/-- The probe that a value of PROBE_CMD asks engine `e` for. -/
def State.probeFor (s : State) (e v : Nat) : Probe :=
  { port := 4 * e + bitsOf v 4 2, ring := bitsOf v 8 4, nonce := bitsOf v 16 16, since := slotOf s.now }

/-- An engine's software probe replaced. -/
def State.setProbe (s : State) (e : Nat) (x : Probe) : State :=
  { s with fab := { s.fab with probes := Tbl.set s.fab.probes e x } }

@[simp] theorem State.setProbe_look (s : State) (e : Nat) (x : Probe) : Tbl.look (s.setProbe e x).fab.probes e = some x :=
  Tbl.look_set_self _ _ _

theorem State.setProbe_regsBut (s : State) (e : Nat) (x : Probe) (l : List Field) : s.regsBut (s.setProbe e x) l :=
  State.regsBut_of_regs rfl l

/-- An engine with a probe asked for: its command stored, and its result pending. -/
def State.probeAsked (s : State) (e v : Nat) : State :=
  ((((s.wr (OPE.PROBE_CMD.NONCE e) (bitsOf v 16 16)).wr (OPE.PROBE_CMD.RING e) (bitsOf v 8 4)).wr (OPE.PROBE_CMD.PORT e)
    (bitsOf v 4 2)).setProbe e (s.probeFor e v)).wr (OPE.PROBE_RES.RESULT e) prPending

/-- GO for one of a port's ten rings, with no probe pending, asks for a probe. -/
theorem execProbeGo_of_free {s : State} {e : Fin 4} {v : BitVec 32} (hs : s.csrSound) (hring : bitsOf v.toNat 8 4 < 10)
    (hfree : s.rd (OPE.PROBE_RES.RESULT e) ≠ prPending) :
    execProbeGo e v s = .next (s.probeAsked e v.toNat) := by
  have hgo : ¬ (10 ≤ bitsOf v.toNat 8 4 ∨ (bitOf (v.toNat ||| 1) 0 = true ∧ s.rd (OPE.PROBE_RES.RESULT e) = prPending)) :=
    not_or.2 ⟨Nat.not_le.2 hring, fun h => hfree h.2⟩
  have h : s.writeProbe e (v.toNat ||| 1) = s.probeAsked e v.toNat := by
    rw [State.writeProbe]
    dsimp only
    rw [bitsOf_or_one _ 4 (by decide : 0 < 8), if_neg hgo, if_pos (bitOf_or_one _), bitsOf_or_one _ 2 (by decide : 0 < 4),
      bitsOf_or_one _ 16 (by decide : 0 < 16)]
    rfl
  rw [execProbeGo, State.bySoft_of_csrSound _ _ _ hs (by rw [h]; rfl), h]

/-- GO while a probe is pending is refused. -/
theorem execProbeGo_of_pending {s : State} {e : Fin 4} (v : BitVec 32) (hs : s.csrSound)
    (hpending : s.rd (OPE.PROBE_RES.RESULT e) = prPending) :
    execProbeGo e v s = .next (s.raise (OPE.EVENT.CFG_ERR e)) := by
  have h : s.writeProbe e (v.toNat ||| 1) = s.raise (OPE.EVENT.CFG_ERR e) := if_pos (.inr ⟨bitOf_or_one _, hpending⟩)
  rw [execProbeGo, State.bySoft_of_raise _ _ _ hs h]

theorem State.probeAsked_shows (s : State) (e v : Nat) :
    (s.probeAsked e v).rd (OPE.PROBE_RES.RESULT e) = prPending ∧
      (s.probeAsked e v).rd (OPE.PROBE_CMD.NONCE e) = bitsOf v 16 16 ∧
      Tbl.look (s.probeAsked e v).fab.probes e = some (s.probeFor e v) ∧
      s.regsBut (s.probeAsked e v)
        [OPE.PROBE_CMD.NONCE e, OPE.PROBE_CMD.RING e, OPE.PROBE_CMD.PORT e, OPE.PROBE_RES.RESULT e] := by
  refine ⟨State.rd_wr_self _ _ _, ?nonce, State.setProbe_look _ _ _, ?frame⟩
  case nonce =>
    rw [State.probeAsked, State.rd_wr_ne _ _ (Field.key_ne_of_lo rfl), State.setProbe_regsBut _ _ _ [] _ (by simp),
      State.rd_wr_ne _ _ (Field.key_ne_of_lo rfl), State.rd_wr_ne _ _ (Field.key_ne_of_lo rfl), State.rd_wr_self]
    exact bitsOf_mod v 16 16
  case frame =>
    refine State.regsBut_trans ?_ (State.regsBut_wr _ _ (by simp))
    refine State.regsBut_trans ?_ (State.setProbe_regsBut _ _ _ _)
    refine State.regsBut_trans ?_ (State.regsBut_wr _ _ (by simp))
    exact State.regsBut_trans (State.regsBut_wr s _ (by simp)) (State.regsBut_wr _ _ (by simp))

/-! ### A probe sent (R160, R190, R207) -/

/-- A port that begins to send leaves the Jig alone. -/
@[simp] theorem State.light_jig (s : State) (p : Nat) (x : Sent) : (s.light p x).fab.jig = s.fab.jig := by
  unfold State.light
  dsimp only
  rw [State.wr_fab, State.wr_fab]
  split <;> rfl

/-- A probe that is sent carries its slot, the index that its ring's colour leads to, and whether that is its own. -/
theorem State.sendProbe_probe (s : State) (n : Nat) (x : Probe) : (s.sendProbe n x).1 =
    { x with
      sent := some n, dest := s.dest x.port ((s.ringTarget (loopOf x.port x.ring)).getD 0)
      loop := (s.ringTarget (loopOf x.port x.ring)).getD 0 == 0 } := rfl

@[simp] theorem State.sendProbe_jig (s : State) (n : Nat) (x : Probe) : (s.sendProbe n x).2.fab.jig = s.fab.jig :=
  State.light_jig _ _ _

/-- A software probe that waits is its port's. -/
theorem State.askedProbe_port {s : State} {p : Nat} {x : Probe} (h : s.askedProbe p = some x) : x.port = p := by
  unfold State.askedProbe at h
  split at h
  · split at h
    · next hx => exact Option.some.inj h ▸ hx.1
    · cases h
  · cases h

theorem execProbeSend_of_ok {s : State} {p : Fin 16} {n : Nat} {x : Probe} (hup : s.fabUp = true)
    (hx : s.askedProbe p = some x) (hok : s.probeOk p x.ring n = true) :
    execProbeSend p n s = .next ((s.sendProbe n x).2.setProbe (p.val / 4) (s.sendProbe n x).1) := by
  rw [execProbeSend, hx]
  exact if_neg (by simp [hup, hok])

/-- The verification probe that port `p` puts up for ring `r` in slot `n`, with bit 15 of its nonce set (R190). -/
def State.verifyProbe (s : State) (p r n : Nat) : Probe :=
  { port := p, ring := r, nonce := 32768 + (s.draw (OPE.PROBE_CMD.NONCE (p / 4)).key).1 % 32768, since := n }

theorem State.verifyProbe_nonce (s : State) (p r n : Nat) :
    32768 ≤ (s.verifyProbe p r n).nonce ∧ (s.verifyProbe p r n).nonce < 65536 := by
  simp only [State.verifyProbe]
  omega

/-- The verification probe sent: what is kept of it, and the state that has sent it. -/
def State.verifySent (s : State) (p r n : Nat) : Probe × State :=
  (s.draw (OPE.PROBE_CMD.NONCE (p / 4)).key).2.sendProbe n (s.verifyProbe p r n)

/-- A ring's probe counted (R190). -/
def State.probeCounted (s : State) (l : Nat) : State :=
  (s.bump (JIG.L_COUNTS.VPROBES l)).setLoop l { s.loop l with tries := (s.loop l).tries + 1 }

/-- A verification probe put under way. -/
def State.setVerify (s : State) (p : Nat) (x : Probe) : State :=
  s.setJig { s.fab.jig with verify := Tbl.set s.fab.jig.verify p x }

theorem State.setVerify_look (s : State) (p : Nat) (x : Probe) : Tbl.look (s.setVerify p x).fab.jig.verify p = some x :=
  Tbl.look_set_self _ _ _

@[simp] theorem State.setVerify_loop (s : State) (p l : Nat) (x : Probe) : (s.setVerify p x).loop l = s.loop l := rfl

@[simp] theorem State.setLoop_loop_self (s : State) (l : Nat) (x : Loop) : (s.setLoop l x).loop l = x :=
  Tbl.lookD_put_self _ _ _ _

/-- A loop's record is the Jig's. -/
theorem State.loop_congr {s t : State} (h : t.fab.jig = s.fab.jig) (l : Nat) : t.loop l = s.loop l :=
  congrArg (fun j : Jig => Tbl.lookD j.loops {} l) h

theorem State.verifySent_loop (s : State) (p r n l : Nat) : (s.verifySent p r n).2.loop l = s.loop l :=
  State.loop_congr (State.sendProbe_jig _ _ _) l

/-- A port whose slot software does not take, with no probe of its own out, sends the first ring's that asks for one. -/
theorem execVerifyProbeSend_of_found {s : State} {p : Fin 16} {n r : Nat} (hup : s.fabUp = true)
    (hr : s.verifyRing p n = some r) (hfree : s.probeTakes p n = false) (hout : Tbl.look s.fab.jig.verify p = none) :
    execVerifyProbeSend p n s =
      .next (((s.verifySent p r n).2.probeCounted (loopOf p r)).setVerify p (s.verifySent p r n).1) := by
  rw [execVerifyProbeSend, hr, State.probeCounted, State.verifySent_loop]
  exact if_neg (by simp [hup, hfree, hout])

theorem State.verifySent_tries (s : State) (p r n : Nat) (x : Probe) :
    ((((s.verifySent p r n).2.probeCounted (loopOf p r)).setVerify p x).loop (loopOf p r)).tries =
      (s.loop (loopOf p r)).tries + 1 := by
  rw [State.setVerify_loop, State.probeCounted, State.setLoop_loop_self, State.verifySent_loop]

/-! ### A probe answered (R162) -/

/-- The state in which a port that has framed a probe looks for the ring to answer on. -/
def State.probeFramed (s : State) (p n phase gain : Nat) : State :=
  (s.advance (s.probeTime p n (n % 64 / 2))).framedQuiet p (n % 64 / 2) phase gain

/-- The reply that a port sends on ring `r` in slot `n + 1` to the probe `body` of sender index `j`. -/
def State.replySent (s : State) (p n j r : Nat) (body : List Byte) : Sent :=
  { slot := n + 1, ring := r
    head := some { s.anyQueue.2.opHeader p (n + 1) ((j + 32 - s.portIndex p) % 32) j with
      queue := s.anyQueue.1, reply := true, len := 8 }
    payload := (padTo 8 (body.take 4)).map some }

/-- What an optical port begins to send next. -/
def State.setSent (s : State) (p : Nat) (x : Sent) : State :=
  { s with book := { s.book with sent := Tbl.set s.book.sent p x } }

/-- A probe framed in a quiet slot is answered in the next, where that is quiet and has not begun, on a ring that is
LOCKED on the colour back to its sender. -/
theorem execProbeRx_of_probe {s : State} {p : Fin 16} {n r f : Nat} {ph : BitVec 6} {ga : BitVec 4} {w : Codeword}
    {h : Header} {body : List Byte} (hup : s.fabUp = true) (hn : n % 2 = 0) (hquiet : s.portQuiet p n = true)
    (hoff : s.portOff p = false) (hflight : s.flight p (n % 64 / 2) = some f) (hword : probeWord n w = some (h, body))
    (hprobe : h.probe = true)
    (hring : (s.probeFramed p n ph.toNat ga.toNat).replyRing p
      ((n % 64 / 2 + 32 - (s.probeFramed p n ph.toNat ga.toNat).portIndex p) % 32) = some r)
    (hnext : (s.probeFramed p n ph.toNat ga.toNat).portQuiet p (n + 1) = true)
    (hnow : (s.probeFramed p n ph.toNat ga.toNat).now < slotStart (n + 1)) :
    execProbeRx p n ph ga w s = .next ((s.probeFramed p n ph.toNat ga.toNat).anyQueue.2.setSent p
      ((s.probeFramed p n ph.toNat ga.toNat).replySent p n (n % 64 / 2) r body)) := by
  unfold State.probeFramed at *
  rw [execProbeRx]
  dsimp only
  rw [if_neg (by simp [hup, hn, hquiet, hoff]), hflight, hword]
  dsimp only
  rw [if_neg (by simp [hprobe]), hring]
  exact if_neg (by simp [hnext, Nat.not_le.2 hnow])

/-! ### A probe's outcome (R163, R190) -/

/-- When a reply's codeword has been decoded: its sender's index is that of the site that it names. -/
def State.replyTime (s : State) (p n : Nat) (h : Header) : Nat :=
  s.probeTime p n (((List.range 32).find? fun i => s.site p i == some ⟨h.port, h.src⟩).getD (s.portIndex p))

/-- A slot that says something of a port's software probe ends it. -/
theorem execProbeReplyRx_of_judged {s : State} {p : Fin 16} {n res : Nat} {w : Codeword} {h : Header} {body : List Byte}
    {x : Probe} {reply : Option Site} (hup : s.fabUp = true) (hword : probeWord n w = some (h, body))
    (hx : Tbl.look s.fab.probes (p.val / 4) = some x) (hport : x.port = p)
    (hjudge : s.judge x n h body = some (res, reply)) :
    execProbeReplyRx p n w s = .next ((s.advance (s.replyTime p n h)).probeDone (p.val / 4) x res reply) := by
  unfold State.replyTime
  rw [execProbeReplyRx, if_neg (by simp [hup]), hword]
  dsimp only
  rw [hx]
  dsimp only
  rw [if_pos hport, hjudge]

/-- The end of a sent probe's reply slot ends it. -/
theorem execProbeNoReply_of_late {s : State} {p : Fin 16} {n m : Nat} {x : Probe} (hup : s.fabUp = true)
    (hx : Tbl.look s.fab.probes (p.val / 4) = some x) (hport : x.port = p) (hsent : x.sent = some m) (hn : m + 1 = n) :
    execProbeNoReply p n s = .next ((s.advance (slotStart (n + 1) + (s.flight p x.dest).getD 0)).probeDone (p.val / 4) x
      prNoReply none) := by
  rw [execProbeNoReply, if_neg (by simp [hup])]
  dsimp only
  rw [hx]
  exact if_pos (by simp [hport, hsent, hn])

/-- A probe whose 64 probe slots have passed without its being sent ends. -/
theorem execProbeNotSent_of_passed {s : State} {e : Fin 4} {t : Nat} {x : Probe} (hup : s.fabUp = true)
    (hx : Tbl.look s.fab.probes e = some x) (hsent : x.sent = none)
    (ht : slotStart (lastProbeSlot x.since (s.portIndex x.port) + 1) ≤ max s.now t) :
    execProbeNotSent e t s = .next ((s.advance t).probeDone e x prNotSent none) := by
  rw [execProbeNotSent, hx]
  exact if_neg (not_or.2 ⟨by simp [hup], not_or.2 ⟨by simp [hsent], Nat.not_lt.2 ht⟩⟩)

/-- What a state knows of colour-0 probes is in no register, and no probe. -/
theorem State.noteLoop_keeps (s : State) (x : Probe) (res : Nat) :
    (s.noteLoop x res).regs = s.regs ∧ (s.noteLoop x res).fab.probes = s.fab.probes := by
  unfold State.noteLoop
  split <;> exact ⟨rfl, rfl⟩

/-- All that a probe's outcome does to its ring: nothing, or VERIFIED set, or MISLOCK at the next cycle boundary. -/
theorem State.ringOutcome_cases (s : State) (x : Probe) (res : Nat) :
    let u := s.noteLoop x res
    let l := loopOf x.port x.ring
    s.ringOutcome x res = u ∨ s.ringOutcome x res = u.wr (JIG.L_STAT.VERIFIED l) 1 ∨
      s.ringOutcome x res = u.setLoop l { u.loop l with cmd := some .mislock } := by
  intro u l
  obtain ⟨lasts, h⟩ : ∃ lasts : Bool, s.ringOutcome x res =
      if u.ringSt l ≠ rgLocked ∨ lasts = false then u
      else if res = prMatch ∨ res = prLoop then u.wr (JIG.L_STAT.VERIFIED l) 1
      else if res = prMismatch then u.setLoop l { u.loop l with cmd := some .mislock } else u := ⟨_, rfl⟩
  rw [h]
  split
  · exact .inl rfl
  · split
    · exact .inr (.inl rfl)
    · split
      · exact .inr (.inr rfl)
      · exact .inl rfl

/-- A probe's outcome on its ring writes VERIFIED and no other register, and no probe. -/
theorem State.ringOutcome_keeps (s : State) (x : Probe) (res : Nat) :
    s.regsBut (s.ringOutcome x res) [JIG.L_STAT.VERIFIED (loopOf x.port x.ring)] ∧
      (s.ringOutcome x res).fab.probes = s.fab.probes := by
  obtain ⟨hregs, hprobes⟩ := State.noteLoop_keeps s x res
  have hnote := State.regsBut_of_regs hregs [JIG.L_STAT.VERIFIED (loopOf x.port x.ring)]
  rcases State.ringOutcome_cases s x res with h | h | h <;> rw [h]
  · exact ⟨hnote, hprobes⟩
  · exact ⟨State.regsBut_trans hnote (State.regsBut_wr _ _ (List.mem_singleton.2 rfl)), hprobes⟩
  · exact ⟨hnote, hprobes⟩

/-- A field whose lowest bit no field of the recorder's has is none of them. -/
theorem notMem_recorderFields_of_lo {f : Field} (h : ∀ g ∈ recorderFields, (f.lo % 128 == g.lo % 128) = false) :
    f.key ∉ recorderFields.map Field.key := fun hm => by
  obtain ⟨g, hg, e⟩ := List.mem_map.1 hm
  exact Field.key_ne_of_lo (h g hg) e.symm

/-- A software probe's result shown, with its event, before it acts on its ring. -/
def State.resultShown (s : State) (e res : Nat) : State :=
  ((State.wr { s with fab := { s.fab with probes := Tbl.del s.fab.probes e } } (OPE.PROBE_RES.RESULT e) res).bump
    (OPE.PROBE_RES.SEQ e)).raise (OPE.EVENT.PROBE_DONE e)

theorem State.probeDone_eq (s : State) (e : Nat) (x : Probe) (res : Nat) :
    s.probeDone e x res none = (s.resultShown e res).ringOutcome x res := rfl

/-- A software probe's outcome without a reply: the engine has no probe, its result is shown, and its event flagged. The
fields of an engine are told apart from every other that is written by their lowest bits, whatever the engine's number. -/
theorem State.probeDone_shows (s : State) (e : Nat) (x : Probe) {res : Nat} (h : res < 8) :
    Tbl.look (s.probeDone e x res none).fab.probes e = none ∧
      (s.probeDone e x res none).rd (OPE.PROBE_RES.RESULT e) = res ∧
      (s.probeDone e x res none).on (OPE.EVENT.PROBE_DONE e) = true := by
  obtain ⟨hregs, hprobes⟩ := State.ringOutcome_keeps (s.resultShown e res) x res
  have hring {g : Field} (hg : (g.lo % 128 == 28 % 128) = false) :
      (s.probeDone e x res none).rd g = (s.resultShown e res).rd g :=
    hregs g fun hm => Field.key_ne_of_lo hg (List.mem_singleton.1 hm)
  refine ⟨?probe, ?result, ?event⟩
  case probe => rw [State.probeDone_eq, hprobes, State.resultShown, State.raise_fab, State.bump_fab, State.wr_fab,
    Tbl.look_del_self]
  case result =>
    rw [hring rfl, State.resultShown, State.raise_rd_ne _ _ _ (Field.key_ne_of_lo rfl) (Field.key_ne_of_lo rfl)
      (notMem_recorderFields_of_lo (by decide : ∀ g ∈ recorderFields, (20 % 128 == g.lo % 128) = false)),
      State.rd_bump_ne _ (Field.key_ne_of_lo rfl), State.rd_wr_self]
    exact Nat.mod_eq_of_lt (show res < 16 by omega)
  case event =>
    rw [State.on, hring rfl, State.resultShown, State.raise_rd_self _ _ _ rfl (by decide : 2 ≠ 24)
      (notMem_recorderFields_of_lo (by decide : ∀ g ∈ recorderFields, (2 % 128 == g.lo % 128) = false))]
    rfl

/-! ### A verification that runs out (R190) -/

/-- A ring that has asked software to look after it. -/
def State.askedFor (s : State) (l : Nat) : State := s.setLoop l { s.loop l with asked := true }

theorem execVerifyTimeout_of_used {s : State} {l : Fin 176} (t : Nat) (hup : s.fabUp = true) (hst : s.ringSt l = rgLocked)
    (hver : s.on (JIG.L_STAT.VERIFIED l) = false) (hasked : (s.loop l).asked = false) (hring : (ringOf l).isSome = true)
    (htries : s.triesLeft l = false) (hprobing : s.probing l = false) :
    execVerifyTimeout l t s = .next (((s.advance t).askedFor l).raise JIG.EVENT.UNVERIFIED) := by
  rw [execVerifyTimeout]
  exact if_neg (by simp [hup, hst, hver, hasked, Option.isSome_iff_ne_none.1 hring, htries, hprobing])

/-- Settles O28: a probe asked for is a record set, one sent is the record with its slot, and every end of one is
`State.probeDone`, whose registers are those of `State.probeDone_shows`. -/
theorem probes : Obligations.Probes := by
  unfold Obligations.Probes
  have hcfg (s : State) (e : Fin 4) := State.raise_flags s (f := OPE.EVENT.CFG_ERR e) (v := 0) [] (by decide) rfl
    (by decide : 5 < 24) (opeEvent_off_lt (by omega))
  refine ⟨fun s e v hs hring hfree => ⟨_, execProbeGo_of_free hs hring hfree, State.probeAsked_shows s e _⟩,
    fun s e v hs hpending => ⟨_, execProbeGo_of_pending v hs hpending, hcfg s e⟩,
    fun s p n x hup hx hok => ?send,
    fun s p n r hup hr hfree hout => ?verify,
    fun s p n r ph ga w h body f hup hn hquiet hoff hflight hword hprobe hring hnext hnow => ?reply,
    fun s p n w h body x res reply hup hword hx hport hjudge => ⟨_, execProbeReplyRx_of_judged hup hword hx hport hjudge⟩,
    fun s p n m x hup hx hport hsent hn => ⟨_, execProbeNoReply_of_late hup hx hport hsent hn⟩,
    fun s e t x hup hx hsent ht => execProbeNotSent_of_passed hup hx hsent ht,
    fun s l t hup hst hver hasked hring htries hprobing => ?timeout,
    fun s e x res h => State.probeDone_shows s e x h⟩
  case send =>
    have hloop : (s.sendProbe n x).1.loop = decide ((s.ringTarget (loopOf p x.ring)).getD 0 = 0) := by
      rw [State.sendProbe_probe, State.askedProbe_port hx]; rfl
    exact ⟨_, _, execProbeSend_of_ok hup hx hok, State.setProbe_look _ _ _, rfl, rfl, hloop⟩
  case verify =>
    obtain ⟨hlow, hhigh⟩ := State.verifyProbe_nonce s p r n
    exact ⟨_, _, execVerifyProbeSend_of_found hup hr hfree hout, State.setVerify_look _ _ _, rfl, rfl, hlow, hhigh,
      State.verifySent_tries _ _ _ _ _⟩
  case reply =>
    exact ⟨_, _, execProbeRx_of_probe hup hn hquiet hoff hflight hword hprobe hring hnext hnow, Tbl.look_set_self _ _ _,
      rfl, rfl, rfl⟩
  case timeout =>
    have hraise := State.raise_flags ((s.advance t).askedFor l) (f := JIG.EVENT.UNVERIFIED) (v := 0) [] (by decide) rfl
      (by decide) (by decide)
    obtain ⟨⟨hflag, -⟩, -, hregs⟩ := hraise
    refine ⟨_, execVerifyTimeout_of_used t hup hst hver hasked hring htries hprobing, ?_, ?_, hregs⟩
    · rw [State.loop_congr (congrArg Fabric.jig (State.raise_fab _ _ _ _)), State.askedFor, State.setLoop_loop_self]
    · rw [State.on, hflag]; rfl

end Sys2Proof.Machine
end

section
/-! SUPPORT. The rings and the Jig (06_ring_locking.md): what a ring's change of state leaves and keeps, the Jig's cycle,
the commands of a loop, its coefficients and the crosstalk matrix, and the statements about them. -/
namespace Sys2Proof.Machine
open Sys2Proof

/-! ### The end of slots keeps the fabric, the time and most registers (R120, R126) -/

/-- The lowest bits of the fields that the end of slots writes: TX_ABORT and its SEQ, TX_ACTIVE, OSEL, and a link's two
counts. -/
def slotLows : List Nat := [1, 24, 27, 28, 32, 96]

/-- A field below the counters' registers that no end of slots writes, told from those that it writes by its lowest bit. -/
def offSlots (g : Field) : Bool := decide (g.off < 0xB00000) && decide (g.lo < 128) && !slotLows.contains g.lo

theorem offSlots_iff {g : Field} : offSlots g = true ↔ g.off < 0xB00000 ∧ g.lo < 128 ∧ g.lo ∉ slotLows := by
  simp [offSlots, and_assoc]

theorem key_ne_of_offSlots {f g : Field} (h : offSlots g = true) (hf : f.lo ∈ slotLows) : g.key ≠ f.key := by
  obtain ⟨-, hlo, hg⟩ := offSlots_iff.1 h
  have hlt : ∀ n ∈ slotLows, n < 128 := by decide
  refine Field.key_ne_of_lo ?_
  rw [Nat.mod_eq_of_lt hlo, Nat.mod_eq_of_lt (hlt _ hf), beq_eq_false_iff_ne]
  exact fun e => hg (e ▸ hf)

/-- The fabric, the time, and the fields that no end of slots writes are as they were. -/
def State.slotsOnly (s t : State) : Prop :=
  t.fab = s.fab ∧ t.now = s.now ∧ ∀ g : Field, offSlots g = true → t.rd g = s.rd g

theorem State.slotsOnly_refl (s : State) : s.slotsOnly s := ⟨rfl, rfl, fun _ _ => rfl⟩

theorem State.slotsOnly_trans {s t u : State} (h : s.slotsOnly t) (k : t.slotsOnly u) : s.slotsOnly u := by
  obtain ⟨hfab, hnow, hrd⟩ := h
  obtain ⟨kfab, know, krd⟩ := k
  exact ⟨kfab.trans hfab, know.trans hnow, fun g hg => (krd g hg).trans (hrd g hg)⟩

/-- What every step of a fold leaves of this, the fold leaves. -/
theorem State.slotsOnly_foldl {β : Type} {f : State → β → State} (l : List β)
    (h : ∀ (s : State), ∀ x ∈ l, s.slotsOnly (f s x)) (s : State) : s.slotsOnly (l.foldl f s) :=
  List.foldlRecOn (motive := fun t => s.slotsOnly t) _ _ s.slotsOnly_refl fun t ht x hx =>
    State.slotsOnly_trans ht (h t x hx)

theorem State.slotsOnly_wr (s : State) {f : Field} (v : Nat) (h : f.lo ∈ slotLows) : s.slotsOnly (s.wr f v) :=
  ⟨rfl, rfl, fun _ hg => State.rd_wr_ne s v (key_ne_of_offSlots hg h)⟩

theorem State.slotsOnly_raise (s : State) {f : Field} (h : f.lo ∈ slotLows) : s.slotsOnly (s.raise f) :=
  ⟨State.raise_fab _ _ _ _, State.raise_now _ _ _ _, fun _ hg =>
    have ⟨ho, hlo, _⟩ := offSlots_iff.1 hg
    State.raise_rd_ne s _ _ (key_ne_of_offSlots hg h) (key_ne_of_offSlots hg (by decide : 24 ∈ slotLows))
      (notMem_recorderFields hlo ho)⟩

/-- An event counted leaves the fabric and the time. -/
theorem State.count_keeps (s : State) {dom : Nat × Nat} (src inst w : Nat) (hd : dom.1 + dom.2 ≤ 112) :
    (s.count dom src inst w).fab = s.fab ∧ (s.count dom src inst w).now = s.now := by
  obtain ⟨h, -⟩ := State.count_frame s dom src inst w hd
  exact ⟨(congrArg State.fab h :), (congrArg State.now h :)⟩

theorem State.slotsOnly_countFtd (s : State) (src inst w : Nat) : s.slotsOnly (s.count ctrFtd src inst w) := by
  obtain ⟨hfab, hnow⟩ := State.count_keeps s (dom := ctrFtd) src inst w (by decide)
  refine ⟨hfab, hnow, fun g hg => ?_⟩
  obtain ⟨ho, hlo, -⟩ := offSlots_iff.1 hg
  exact State.countFtd_rd s src inst w hlo ho

theorem State.slotsOnly_setPlan (s : State) (n : Nat) (x : Plan) : s.slotsOnly (s.setPlan n x) :=
  ⟨rfl, rfl, fun _ _ => rfl⟩

theorem State.slotsOnly_txAbort (s : State) (l : Nat) : s.slotsOnly (s.txAbort l) := by
  have hcount := State.slotsOnly_wr s (f := PB.L_COUNTS2.TX_ABORT l) (s.rd (PB.L_COUNTS2.TX_ABORT l) + 1)
    (by decide : 32 ∈ slotLows)
  unfold State.txAbort
  dsimp only
  split
  · exact State.slotsOnly_trans hcount (State.slotsOnly_raise _ (by decide : 1 ∈ slotLows))
  · exact hcount

theorem State.slotsOnly_cutLink (s : State) (n l : Nat) : s.slotsOnly (s.cutLink n l) := by
  unfold State.cutLink
  dsimp only
  split
  · exact s.slotsOnly_refl
  · split
    · exact s.slotsOnly_refl
    · exact State.slotsOnly_trans (s.slotsOnly_setPlan _ _) (State.slotsOnly_txAbort _ _)
    · exact s.slotsOnly_setPlan _ _

theorem State.slotsOnly_silence (s : State) (l : Nat) : s.slotsOnly (s.silence l) := by
  have hdel : s.slotsOnly { s with book := { s.book with sent := Tbl.del s.book.sent l } } := ⟨rfl, rfl, fun _ _ => rfl⟩
  unfold State.silence
  dsimp only
  split
  · exact State.slotsOnly_trans hdel (State.slotsOnly_trans (State.slotsOnly_wr _ _ (by decide : 28 ∈ slotLows))
      (State.slotsOnly_wr _ _ (by decide : 27 ∈ slotLows)))
  · exact hdel

theorem State.slotsOnly_ringGone (s : State) (p r : Nat) : s.slotsOnly (s.ringGone p r) := by
  have hcut (live : List (Nat × Plan)) : s.slotsOnly (live.foldl (fun s x => s.cutLink x.1 p) s) :=
    State.slotsOnly_foldl live (fun s x _ => s.slotsOnly_cutLink x.1 p) s
  unfold State.ringGone
  dsimp only
  split
  · exact State.slotsOnly_trans (hcut _) (State.slotsOnly_silence _ _)
  · exact hcut _

/-! ### A ring's change of state (R187) -/

/-- A loop's record with its counts begun again. -/
def Loop.begun (x : Loop) : Loop :=
  { x with cyc := 0, lockRun := 0, outRun := 0, winRun := 0, clampRun := 0, due := none, cmd := none }

/-- A change of state is its register and its counts; a ring that leaves LOCKED ends its slots as well. -/
theorem State.ringTo_keeps (s : State) (l st : Nat) :
    ((s.setLoop l (s.loop l).begun).wr (JIG.L_STAT.STATE l) st).slotsOnly (s.ringTo l st) := by
  unfold State.ringTo
  dsimp only
  split
  · exact State.slotsOnly_refl _
  · split
    · exact State.slotsOnly_ringGone _ _ _
    · exact State.slotsOnly_refl _

theorem State.ringTo_fab (s : State) (l st : Nat) : (s.ringTo l st).fab = (s.setLoop l (s.loop l).begun).fab :=
  (State.ringTo_keeps s l st).1

@[simp] theorem State.ringTo_now (s : State) (l st : Nat) : (s.ringTo l st).now = s.now := (State.ringTo_keeps s l st).2.1

@[simp] theorem State.ringTo_loop (s : State) (l st : Nat) : (s.ringTo l st).loop l = (s.loop l).begun :=
  (State.loop_congr (congrArg Fabric.jig (State.ringTo_fab s l st)) l).trans (State.setLoop_loop_self s l _)

theorem State.ringTo_rd (s : State) (l st : Nat) {g : Field} (hg : offSlots g = true)
    (hne : g.key ≠ (JIG.L_STAT.STATE l).key) : (s.ringTo l st).rd g = s.rd g :=
  ((State.ringTo_keeps s l st).2.2 g hg).trans (State.rd_wr_ne _ _ hne)

theorem State.ringTo_ringSt (s : State) (l : Nat) {st : Nat} (h : st < 8) : (s.ringTo l st).ringSt l = st :=
  ((State.ringTo_keeps s l st).2.2 (JIG.L_STAT.STATE l) rfl).trans
    ((State.rd_wr_self _ _ _).trans (Nat.mod_eq_of_lt h))

/-- A ring's state stands where it was when another field of other bits is written. -/
theorem State.wr_ringSt (s : State) (l v : Nat) {f : Field} (h : (29 % 128 == f.lo % 128) = false) :
    (s.wr f v).ringSt l = s.ringSt l := State.rd_wr_ne s v (Field.key_ne_of_lo h)

/-- A ring's state stands where it was after an event of a flag. -/
theorem State.raise_ringSt (s : State) (l v : Nat) {f : Field} (h : (29 % 128 == f.lo % 128) = false) :
    (s.raise f v).ringSt l = s.ringSt l :=
  State.raise_rd_ne s v [] (Field.key_ne_of_lo h) (Field.key_ne_of_lo rfl)
    (notMem_recorderFields (by decide : 29 < 128) (by decide : 0x80048 < 0xB00000))

/-- A number shown writes its field alone. -/
theorem State.showNum_keeps (s : State) (f : Field) (v : Int) :
    (s.showNum f v).fab = s.fab ∧ s.regsBut (s.showNum f v) [f] := by
  have hmem : f ∈ [f] := List.mem_singleton.2 rfl
  unfold State.showNum
  split
  · exact ⟨rfl, State.regsBut_wr s _ hmem⟩
  · exact ⟨rfl, State.regsBut_trans (State.regsBut_of_regs (t := (s.draw f.key).2) rfl _) (State.regsBut_wr _ _ hmem)⟩

theorem State.setDemand_fab (s : State) (l : Nat) (d : Int) :
    (s.setDemand l d).fab = (s.setLoop l { s.loop l with d := d }).fab := (State.showNum_keeps _ _ _).1

@[simp] theorem State.setDemand_loop (s : State) (l : Nat) (d : Int) :
    (s.setDemand l d).loop l = { s.loop l with d := d } :=
  (State.loop_congr (congrArg Fabric.jig (State.setDemand_fab s l d)) l).trans (State.setLoop_loop_self s l _)

theorem State.setDemand_rd (s : State) (l : Nat) (d : Int) {g : Field} (h : (g.lo % 128 == 16 % 128) = false) :
    (s.setDemand l d).rd g = s.rd g :=
  (State.showNum_keeps (s.setLoop l { s.loop l with d := d }) _ _).2 g fun hm =>
    Field.key_ne_of_lo (g := JIG.L_HEAT.DEMAND l) h (List.mem_singleton.1 hm)

/-! ### Entries to states (R187, R190, R191) -/

theorem State.enterCapture_ringSt (s : State) (l : Nat) : (s.enterCapture l false).ringSt l = rgCapture :=
  State.ringTo_ringSt s l (by decide)

/-- A ring that has just locked: not verified, its lock timed, no probe sent. -/
def State.lockBegun (s : State) (l : Nat) : State :=
  let t := (s.ringTo l rgLocked).wr (JIG.L_STAT.VERIFIED l) 0
  t.setLoop l { t.loop l with lockedAt := t.now, tries := 0, asked := false }

/-- What LOCKED's entry does for a takeover and for lost sources is in no register and no loop. -/
theorem State.enterLocked'_keeps (s : State) (l : Nat) :
    (s.enterLocked' l).regs = (s.lockBegun l).regs ∧ (s.enterLocked' l).fab.jig.loops = (s.lockBegun l).fab.jig.loops := by
  unfold State.enterLocked'
  dsimp only
  split
  · exact ⟨rfl, rfl⟩
  · split
    · exact ⟨rfl, rfl⟩
    · split <;> exact ⟨rfl, rfl⟩

/-- LOCKED's entry: unverified, timed, with no probe sent. -/
theorem State.enterLocked'_shows (s : State) (l : Nat) :
    (s.enterLocked' l).ringSt l = rgLocked ∧ (s.enterLocked' l).on (JIG.L_STAT.VERIFIED l) = false ∧
      ((s.enterLocked' l).loop l).lockedAt = s.now ∧ ((s.enterLocked' l).loop l).tries = 0 := by
  obtain ⟨hregs, hloops⟩ := State.enterLocked'_keeps s l
  have hrd (g : Field) : (s.enterLocked' l).rd g = (s.lockBegun l).rd g := congrArg (Tbl.lookD · g.reset g.key) hregs
  have hloop : (s.enterLocked' l).loop l = { (s.ringTo l rgLocked).loop l with
      lockedAt := (s.ringTo l rgLocked).now, tries := 0, asked := false } :=
    (congrArg (fun j : Tbl Loop => Tbl.lookD j {} l) hloops).trans (State.setLoop_loop_self _ _ _)
  refine ⟨?state, ?verified, ?time, by rw [hloop]⟩
  case state =>
    rw [State.ringSt, hrd]
    exact (State.wr_ringSt (s.ringTo l rgLocked) l 0 (f := JIG.L_STAT.VERIFIED l) rfl).trans
      (State.ringTo_ringSt s l (by decide))
  case verified =>
    rw [State.on, hrd]
    exact congrArg (· != 0) (State.rd_wr_self (s.ringTo l rgLocked) (JIG.L_STAT.VERIFIED l) 0)
  case time => rw [hloop, State.ringTo_now]

/-- A ring's park value is its calibration's and its engine's common mode's. -/
theorem State.parkValue_congr {s t : State} {l : Nat} (hcal : (t.loop l).cal = (s.loop l).cal)
    (hcm : t.fab.jig.cm = s.fab.jig.cm) : t.parkValue l = s.parkValue l := by
  simp only [State.parkValue, State.cm, hcal, hcm]

/-- SWEEP's entry: the demand at the park value, and the sweep counted. -/
theorem State.enterSweep_shows (s : State) (l : Nat) :
    (s.enterSweep l).ringSt l = rgSweep ∧ ((s.enterSweep l).loop l).d = s.parkValue l ∧
      (s.enterSweep l).rd (JIG.L_COUNTS.SWEEPS l) =
        (s.rd (JIG.L_COUNTS.SWEEPS l) + 1) % 2 ^ (JIG.L_COUNTS.SWEEPS l).width := by
  refine ⟨?state, ?demand, ?count⟩
  case state =>
    rw [State.enterSweep, State.ringSt, State.setDemand_rd _ _ _ rfl]
    exact (State.wr_ringSt _ l _ rfl).trans (State.ringTo_ringSt s l (by decide))
  case demand =>
    have hcal : ((s.ringTo l rgSweep).loop l).cal = (s.loop l).cal := by rw [State.ringTo_loop]; rfl
    have hcm : (s.ringTo l rgSweep).fab.jig.cm = s.fab.jig.cm := by rw [State.ringTo_fab]; rfl
    rw [State.enterSweep, State.setDemand_loop]
    exact State.parkValue_congr (t := (s.ringTo l rgSweep).bump (JIG.L_COUNTS.SWEEPS l)) hcal hcm
  case count =>
    have hring : (s.ringTo l rgSweep).rd (JIG.L_COUNTS.SWEEPS l) = s.rd (JIG.L_COUNTS.SWEEPS l) :=
      State.ringTo_rd s l _ rfl (Field.key_ne_of_lo rfl)
    rw [State.enterSweep, State.setDemand_rd _ _ _ rfl, State.setLoop_rd, State.rd_bump_self, hring]

/-- FAULT's entry before B takes over: no demand, and an ERROR event. -/
def State.faultShown (s : State) (l : Nat) : State :=
  ((s.ringTo l rgFault).setDemand l 0).raise JIG.EVENT.FAULT sevError

/-- No ring takes over for a spare loop. -/
theorem State.enterFault_of_spare (s : State) {l : Nat} (h : ringOf l = none) : s.enterFault l = s.faultShown l := by
  rw [State.enterFault, h]
  rfl

/-- FAULT's entry of a spare loop. -/
theorem State.enterFault_shows (s : State) {l : Nat} (h : ringOf l = none) :
    (s.enterFault l).ringSt l = rgFault ∧ ((s.enterFault l).loop l).d = 0 ∧
      (s.enterFault l).on JIG.EVENT.FAULT = true ∧ (s.enterFault l).fab.jig.faulty = s.fab.jig.faulty := by
  rw [State.enterFault_of_spare s h, State.faultShown]
  refine ⟨?state, ?demand, ?flag, ?faulty⟩
  case state =>
    rw [State.raise_ringSt _ _ _ rfl, State.ringSt, State.setDemand_rd _ _ _ rfl]
    exact State.ringTo_ringSt s l (by decide)
  case demand =>
    rw [State.loop_congr (congrArg Fabric.jig (State.raise_fab _ _ _ _)), State.setDemand_loop]
  case flag => rw [State.on, State.raise_rd_self _ _ _ rfl (by decide) (by decide)]; rfl
  case faulty => rw [State.raise_fab, State.setDemand_fab]; exact congrArg (·.jig.faulty) (State.ringTo_fab s l rgFault)

/-- MISLOCK's entry before B takes over: the mislock counted in the loop and in its registers, and an ERROR event. -/
def State.mislockShown (s : State) (l : Nat) : State :=
  let x := (s.ringTo l rgMislock).loop l
  ((((((s.ringTo l rgMislock).setLoop l { x with mis := x.mis + 1 }).wrSat (JIG.L_STAT.MISLOCKS l) (x.mis + 1)).bump
    (JIG.L_COUNTS.MISLOCKS l)).count ctrFtd 0x040 l)).raise JIG.EVENT.MISLOCK sevError

/-- A mislock counted for the result of a re-cable. -/
def State.recableMislock (s : State) : State :=
  { s with fab := { s.fab with recable := { s.fab.recable with mislocks := s.fab.recable.mislocks + 1 } } }

@[simp] theorem State.recableMislock_rd (s : State) (g : Field) : s.recableMislock.rd g = s.rd g := rfl

@[simp] theorem State.recableMislock_loop (s : State) (l : Nat) : s.recableMislock.loop l = s.loop l := rfl

/-- No ring takes over for a spare loop. -/
theorem State.enterMislock_of_spare (s : State) {l : Nat} (h : ringOf l = none) :
    s.enterMislock l = (s.mislockShown l).recableMislock := by
  rw [State.enterMislock, h]
  rfl

/-- MISLOCK's entry of a spare loop. -/
theorem State.enterMislock_shows (s : State) {l : Nat} (h : ringOf l = none) :
    (s.enterMislock l).ringSt l = rgMislock ∧ ((s.enterMislock l).loop l).mis = (s.loop l).mis + 1 ∧
      (s.enterMislock l).on JIG.EVENT.MISLOCK = true := by
  have hst : (s.mislockShown l).ringSt l = rgMislock := by
    rw [State.mislockShown, State.raise_ringSt _ _ _ rfl, State.ringSt,
      State.countFtd_rd _ _ _ _ (by decide : 29 < 128) (by decide : 0x80048 < 0xB00000),
      State.rd_bump_ne _ (Field.key_ne_of_lo rfl), State.rd_wrSat_ne _ _ (Field.key_ne_of_lo rfl), State.setLoop_rd]
    exact State.ringTo_ringSt s l (by decide)
  have hloop : (s.mislockShown l).loop l = { (s.loop l).begun with mis := (s.loop l).mis + 1 } := by
    have hfab : (s.mislockShown l).fab = ((s.ringTo l rgMislock).setLoop l
        { (s.loop l).begun with mis := (s.loop l).mis + 1 }).fab := by
      rw [State.mislockShown, State.raise_fab, (State.count_keeps _ _ _ _ (by decide)).1, State.bump_fab, State.wrSat_fab,
        State.ringTo_loop]
      rfl
    rw [State.loop_congr (congrArg Fabric.jig hfab), State.setLoop_loop_self]
  have hflag : (s.mislockShown l).rd JIG.EVENT.MISLOCK = 1 := State.raise_rd_self _ _ _ rfl (by decide) (by decide)
  rw [State.enterMislock_of_spare s h, State.ringSt, State.on, State.recableMislock_rd, State.recableMislock_rd,
    State.recableMislock_loop, hloop, hflag]
  exact ⟨hst, rfl, rfl⟩

/-! ### Decisions at a boundary (R187, R189-R191) -/

/-- A decision for a boundary that is not past takes effect there, where its loop is not frozen. -/
theorem State.ringEvent_of_due {s : State} {l k : Nat} {d : Due} (hup : s.fabUp = true) (hdone : s.fab.jig.done = some k)
    (hnow : s.now ≤ k * Config.cycleTime) (hfree : s.loopFrozen l = false) (hdue : (s.loop l).due = some d) :
    s.ringEvent l d = (s.advance (k * Config.cycleTime)).fireDue l d := by
  rw [State.ringEvent, hdone]
  exact if_neg (by simp [hup, hfree, hdue, hnow])

/-- Settles O25: each decision is `State.fireDue` at its boundary, and each entry's lemma says what it leaves. -/
theorem ringTransitions : Obligations.RingTransitions := by
  unfold Obligations.RingTransitions
  intro s l k hup hdone hnow hfree
  have hfire {d : Due} := State.ringEvent_of_due (d := d) hup hdone hnow hfree
  refine ⟨fun hdue => ?jump, fun hdue hwin => ?lock, fun hdue hwin => ?mislock, fun hdue _ => ?limit,
    fun hdue => congrArg Host.Outcome.next (hfire hdue), fun hdue => congrArg Host.Outcome.next (hfire hdue),
    fun hdue => congrArg Host.Outcome.next (hfire hdue), fun _ hspare => ?entries⟩
  case jump => exact ⟨_, congrArg Host.Outcome.next (hfire hdue), State.enterCapture_ringSt _ _⟩
  case lock =>
    obtain ⟨hst, hver, htime, htries⟩ := State.enterLocked'_shows (s.advance (k * Config.cycleTime)) l
    refine ⟨_, congrArg Host.Outcome.next ((hfire hdue).trans (if_pos hwin)), hst, hver, ?_, htries⟩
    exact htime.trans (Nat.max_eq_right hnow)
  case mislock =>
    exact congrArg Host.Outcome.next ((hfire hdue).trans (if_neg (Bool.eq_false_iff.1 hwin)))
  case limit => exact ⟨_, congrArg Host.Outcome.next (hfire hdue), State.enterSweep_shows (s.advance _) l⟩
  case entries =>
    have hring := Option.isNone_iff_eq_none.1 hspare
    obtain ⟨hst, hd, hflag, -⟩ := State.enterFault_shows s hring
    exact ⟨State.enterMislock_shows s hring, hst, hd, hflag⟩

/-! ### Conversions (R174) -/

theorem execConversionStart_of_within {s : State} {c j : Nat} (hup : s.fabUp = true) (hpos : 0 < j) (hj : j ≤ s.nsub) :
    execConversionStart c j s = .next ((s.advance (c * Config.cycleTime + j * Config.cycleTime / s.nsub)).setJig
      { s.fab.jig with started := (c, j) }) :=
  if_neg (by simp [hup, Nat.ne_of_gt hpos, hj])

/-- A monitor channel's result leaves the fabric alone. -/
theorem State.monitorResult_fab (s : State) (d : Fin 2) (r : ChannelResult) : (s.monitorResult d r).fab = s.fab := by
  have hcount (t : State) (src inst : Nat) : (t.count (ctrEdge d) src inst).fab = t.fab :=
    (State.count_keeps t (dom := ctrEdge d) src inst 1 (by simp only [ctrEdge]; omega)).1
  unfold State.monitorResult
  dsimp only
  split
  · rw [State.raise_fab, hcount, State.bump_fab, hcount, State.wr_fab]
  · rw [hcount, State.wr_fab]

/-- The results of a conversion shown, monitor channels alone. -/
def State.resultsShown (s : State) (die : Fin 2) (rs : List ChannelResult) : State :=
  rs.foldl (fun s r => if 256 ≤ r.channel ∧ r.channel < 512 then s.monitorResult die r else s) s

theorem State.resultsShown_fab (s : State) (die : Fin 2) (rs : List ChannelResult) :
    (s.resultsShown die rs).fab = s.fab :=
  List.foldlRecOn (motive := fun t : State => t.fab = s.fab) _ _ rfl fun t ht r _ => by
    split
    · exact (State.monitorResult_fab t die r).trans ht
    · exact ht

theorem execConversionResult_of_up {s : State} (die : Fin 2) (rs : List ChannelResult) (hup : s.fabUp = true) :
    execConversionResult die rs s = .next ((s.resultsShown die rs).setJig
      { (s.resultsShown die rs).fab.jig with arrived := s.fab.jig.started }) :=
  if_neg (by simp [hup])

/-! ### The computation (R174, R175, R195) -/

/-- The reference error that a frame gives the discipline (R43). -/
def State.frameError (s : State) (f : Nat) : Option Int :=
  if s.valid s.active ∨ s.gState = gSettle then (s.domResidual s.active f).map (· + s.rdI GAUGE.CORR.C) else none

/-- A frame's error noted, and in LOCKED the run of R47 with it. -/
def State.frameNoted (s : State) (f : Nat) : State :=
  let t : State := { s with gauge := { s.gauge with doneFor := some f, eRef := s.frameError f } }
  if t.gState = gLocked then t.disagree (s.frameError f) else t

/-- The steer that a discipline error gives, held back for the cycle boundary (R44, R195). -/
def State.steered (s : State) (e : Rat) : State :=
  let sum := s.gauge.errSum + e
  let raw := s.steer e sum
  let y := clampInt (-s.yLimit) s.yLimit raw
  let t : State := { s with gauge := { s.gauge with
    errSum := sum, eHist := (e :: s.gauge.eHist).take 16, yNext := some y } }
  if raw = y then t.wr GAUGE.STATUS.CLAMPED 0 else (t.wr GAUGE.STATUS.CLAMPED 1).raise GAUGE.EVENT.CLAMP

/-- A frame is noted, and steers where it has an error. -/
theorem State.disciplineFrame_cases (s : State) (f : Nat) :
    s.disciplineFrame f = (s.frameNoted f).wr GAUGE.STATUS.CLAMPED 0 ∨
      ∃ e, s.disciplineFrame f = (s.frameNoted f).steered e := by
  have h : s.disciplineFrame f =
      match (s.frameNoted f).discError (s.frameError f) (s.frameNoted f).gauge.theta with
      | none => (s.frameNoted f).wr GAUGE.STATUS.CLAMPED 0
      | some e => (s.frameNoted f).steered e := rfl
  rw [h]
  split
  · exact .inl rfl
  · exact .inr ⟨_, rfl⟩

theorem State.frameNoted_now (s : State) (f : Nat) : (s.frameNoted f).now = s.now := by
  unfold State.frameNoted
  dsimp only
  split <;> rfl

theorem State.steered_now (s : State) (e : Rat) : (s.steered e).now = s.now := by
  unfold State.steered
  dsimp only
  split
  · rfl
  · rw [State.raise_now, State.wr_now]

theorem State.disciplineFrame_now (s : State) (f : Nat) : (s.disciplineFrame f).now = s.now := by
  rcases State.disciplineFrame_cases s f with h | ⟨e, h⟩
  · rw [h, State.wr_now, State.frameNoted_now]
  · rw [h, State.steered_now, State.frameNoted_now]

/-- The discipline takes no time. -/
@[simp] theorem State.discipline_now (s : State) : s.discipline.now = s.now := by
  unfold State.discipline
  split
  · split
    · split
      · rfl
      · exact State.disciplineFrame_now _ _
    · rfl
  · rfl

/-- A computation that begins in time is ready for its boundary. -/
theorem execJigCompute_of_arrived {s : State} {c : Nat} (ms : List LoopMeas) (a b : BitVec 16) (hup : s.fabUp = true)
    (harr : s.fab.jig.arrived = (c, s.nsub)) (hdone : s.fab.jig.done ≠ some (c + 2))
    (htime : max s.now ((c + 1) * Config.cycleTime) ≤ (c + 2) * Config.cycleTime) :
    ∃ u, execJigCompute c ms a b s = .next u ∧ u.fab.jig.done = some (c + 2) := by
  have hnow : (s.advance ((c + 1) * Config.cycleTime)).discipline.now ≤ (c + 2) * Config.cycleTime := by
    rw [State.discipline_now]; exact htime
  unfold execJigCompute
  dsimp only
  rw [if_neg (by simp [hup, harr, hdone]), if_neg (Nat.not_lt.2 hnow)]
  exact ⟨_, rfl, rfl⟩

theorem execJigCompute_of_done {s : State} {c : Nat} (ms : List LoopMeas) (a b : BitVec 16)
    (hdone : s.fab.jig.done = some (c + 2)) : execJigCompute c ms a b s = .next s :=
  if_pos (.inr (.inr hdone))

/-- The loop law where the output is not clamped: I advances by KI × e, and d = FF + KP × e + I. -/
theorem State.loopLaw_of_free {s : State} {l : Nat} (k : Nat) (h : s.on (JIG.L_STAT.CLAMPED l) = false) :
    ((s.loopLaw l k).loop l).integ = (s.loop l).integ + (s.rd (JIG.L_GAIN.KI l) : Int) * (s.loop l).err / mhz ∧
      ((s.loopLaw l k).loop l).d = s.ff l k + (s.rd (JIG.L_GAIN.KP l) : Int) * (s.loop l).err / mhz +
        ((s.loop l).integ + (s.rd (JIG.L_GAIN.KI l) : Int) * (s.loop l).err / mhz) := by
  rw [State.loopLaw, h, State.setDemand_loop, State.setLoop_loop_self]
  exact ⟨rfl, rfl⟩

/-! ### The cycle boundary (R175, R195) -/

theorem State.takeSteer_keeps (s : State) : s.takeSteer.fab = s.fab ∧ s.regsBut s.takeSteer [GAUGE.RATE.Y] := by
  unfold State.takeSteer
  split
  · exact ⟨rfl, State.regsBut_trans (State.regsBut_of_regs rfl _) (State.regsBut_wr _ _ (List.mem_singleton.2 rfl))⟩
  · exact ⟨rfl, State.regsBut_refl _ _⟩

/-- A boundary reached: counted for the time edges, noted by the Jig with its first, and the Gauge's steer taken over. -/
def State.edgeReached (s : State) (first k : Nat) : State :=
  (((s.advance (k * Config.cycleTime)).bump TIO.PTRIG_STAT.JIG_CYCLES).setJig
    { s.fab.jig with since := some first, edge := some k }).takeSteer

theorem State.edgeReached_keeps (s : State) (first k : Nat) :
    (s.edgeReached first k).fab = { s.fab with jig := { s.fab.jig with since := some first, edge := some k } } ∧
      s.regsBut (s.edgeReached first k) [TIO.PTRIG_STAT.JIG_CYCLES, GAUGE.RATE.Y] := by
  obtain ⟨hfab, hregs⟩ := State.takeSteer_keeps (((s.advance (k * Config.cycleTime)).bump TIO.PTRIG_STAT.JIG_CYCLES).setJig
    { s.fab.jig with since := some first, edge := some k })
  refine ⟨hfab, State.regsBut_trans ?_ (State.regsBut_mono hregs (by simp))⟩
  exact State.regsBut_wr (s.advance (k * Config.cycleTime)) (f := TIO.PTRIG_STAT.JIG_CYCLES) _ (by simp)

/-- No unit is calibrated, so no ring is to be held. -/
theorem State.calHold_of_none {s : State} (k : Nat) (h : s.fab.cal.opt = none) : s.calHold k = s := by
  rw [State.calHold, h]

/-- A boundary whose computation has not come, from the second after the first on. -/
def State.overrun (s : State) : State :=
  ((s.bump JIG.COUNTS.OVERRUN).count ctrFtd 0x042 0).raise JIG.EVENT.OVERRUN

theorem State.overrun_fab (s : State) : s.overrun.fab = s.fab := by
  rw [State.overrun, State.raise_fab, (State.count_keeps _ _ _ _ (by decide)).1, State.bump_fab]

theorem State.overrun_shows (s : State) : s.overrun.on JIG.EVENT.OVERRUN = true ∧
    s.overrun.rd JIG.COUNTS.OVERRUN = (s.rd JIG.COUNTS.OVERRUN + 1) % 2 ^ JIG.COUNTS.OVERRUN.width := by
  constructor
  · rw [State.overrun, State.on, State.raise_rd_self _ _ _ rfl (by decide) (by decide)]; rfl
  · rw [State.overrun, State.raise_rd_ne _ _ _ (by decide) (by decide) (by decide),
      State.countFtd_rd _ _ _ _ (by decide) (by decide), State.rd_bump_self]

/-- A boundary not seen before without its computation is an overrun from the second after the first on, and else takes
its time, its count and the steer alone. -/
theorem execJigCycleBoundary_of_late {s : State} {k f : Nat} (hup : s.fabUp = true) (hsince : s.fab.jig.since = some f)
    (hedge : ∀ m, s.fab.jig.edge = some m → m < k) (hdone : s.fab.jig.done ≠ some k) :
    execJigCycleBoundary k s =
      .next ((if f + 2 ≤ k then (s.edgeReached f k).overrun else s.edgeReached f k).calHold k) := by
  rw [execJigCycleBoundary]
  dsimp only
  rw [hup, hsince]
  refine (if_neg ?_).trans (congrArg (fun t : State => Host.Outcome.next (t.calHold k)) (if_neg hdone))
  split
  · next m hm => simpa using hedge m hm
  · decide

theorem execJigCycleBoundary_of_seen {s : State} {k : Nat} (h : s.fab.jig.edge = some k) :
    execJigCycleBoundary k s = .next s := by
  rw [execJigCycleBoundary]
  dsimp only
  rw [h]
  exact if_pos (by simp)

/-- Settles O26: each command answers one named change of state, or none. -/
theorem sampleCycle : Obligations.SampleCycle := by
  unfold Obligations.SampleCycle
  refine ⟨fun s c j hup hpos hj => execConversionStart_of_within hup hpos hj, fun s die rs hup => ?result,
    fun s c ms a b hup harr hdone htime => execJigCompute_of_arrived ms a b hup harr hdone htime,
    fun s c ms a b hdone => execJigCompute_of_done ms a b hdone, fun s l k h => State.loopLaw_of_free k h,
    fun s k f hup hsince hedge hdone => ⟨fun hf hopt => ?overrun, fun hf hopt => ?early⟩,
    fun s k _ hedge => execJigCycleBoundary_of_seen hedge⟩
  case result =>
    refine ⟨_, execConversionResult_of_up die rs hup, ?_, fun h => by rw [h]; rfl⟩
    exact congrArg (fun j : Jig => { j with arrived := s.fab.jig.started })
      (congrArg Fabric.jig (State.resultsShown_fab s die rs))
  case overrun =>
    obtain ⟨hfab, hregs⟩ := State.edgeReached_keeps s f k
    obtain ⟨hflag, hcount⟩ := State.overrun_shows (s.edgeReached f k)
    have hopt' : (s.edgeReached f k).overrun.fab.cal.opt = none := by rw [State.overrun_fab, hfab]; exact hopt
    refine ⟨(s.edgeReached f k).overrun, ?_, ?_, hflag, ?_⟩
    · rw [exec_jigCycleBoundary, execJigCycleBoundary_of_late hup hsince hedge hdone, if_pos hf,
        State.calHold_of_none k hopt']
    · rw [State.overrun_fab, hfab]
    · rw [hcount, hregs _ (by decide)]
  case early =>
    obtain ⟨hfab, hregs⟩ := State.edgeReached_keeps s f k
    have hopt' : (s.edgeReached f k).fab.cal.opt = none := by rw [hfab]; exact hopt
    refine ⟨s.edgeReached f k, ?_, ?_, hregs⟩
    · rw [exec_jigCycleBoundary, execJigCycleBoundary_of_late hup hsince hedge hdone, if_neg (by omega),
        State.calHold_of_none k hopt']
    · rw [hfab, ← hsince]

/-! ### Commands of a loop (R187, R193) -/

/-- A command of a loop that is one is the loop's command for the requester's bank. -/
theorem exec_eq_ringCommand {i : Instr} {b : Bank} {k : RingCmd} (s : State)
    (h : (i = .lCmdHold b ∧ k = .hold) ∨ (i = .lCmdRelease b ∧ k = .release) ∨ (i = .lCmdJump b ∧ k = .jump) ∨
      (i = .lCmdSweep b ∧ k = .sweep) ∨ (i = .lCmdReset b ∧ k = .reset)) : exec i s = .next (s.ringCommand b k) := by
  rcases h with ⟨rfl, rfl⟩ | ⟨rfl, rfl⟩ | ⟨rfl, rfl⟩ | ⟨rfl, rfl⟩ | ⟨rfl, rfl⟩ <;> rfl

/-- A command that the loop's state allows waits for the next boundary. -/
theorem State.ringCommand_of_allowed {s : State} {b : Bank} {k : RingCmd} (hl : s.rd (JIG.L_SEL.LOOP b.num) < 176)
    (h : s.cmdAllowed (s.rd (JIG.L_SEL.LOOP b.num)) k = true) : s.ringCommand b k =
      s.setLoop (s.rd (JIG.L_SEL.LOOP b.num)) { s.loop (s.rd (JIG.L_SEL.LOOP b.num)) with cmd := some k } :=
  (if_neg (Nat.not_le.2 hl)).trans (if_pos h)

/-- A command that the loop's state does not allow is refused. -/
theorem State.ringCommand_of_refused {s : State} {b : Bank} {k : RingCmd} (hl : s.rd (JIG.L_SEL.LOOP b.num) < 176)
    (h : s.cmdAllowed (s.rd (JIG.L_SEL.LOOP b.num)) k = false) : s.ringCommand b k = s.raise JIG.EVENT.CFG_ERR :=
  (if_neg (Nat.not_le.2 hl)).trans (if_neg (Bool.eq_false_iff.1 h))

/-! ### Coefficients (R184, R185) -/

/-- A loop in PARKED, HOLD or FAULT is in no state that refuses coefficients. -/
theorem coefOpen_not_running {st : Nat} (h : st = rgParked ∨ st = rgHold ∨ st = rgFault) :
    ¬ (st ≠ rgParked ∧ st ≠ rgHold ∧ st ≠ rgFault) := fun ⟨hparked, hhold, hfault⟩ =>
  h.elim hparked fun h => h.elim hhold hfault

/-- The gains of a loop in PARKED, HOLD or FAULT are stored. -/
theorem State.writeCoef_of_gain {s : State} {l : Nat} (v : Nat) (hl : l < 176)
    (hst : s.ringSt l = rgParked ∨ s.ringSt l = rgHold ∨ s.ringSt l = rgFault) :
    s.writeCoef l false v = (s.wr (JIG.L_GAIN.KI l) v).wr (JIG.L_GAIN.KP l) (v / 65536) :=
  (if_neg (Nat.not_le.2 hl)).trans ((if_neg (coefOpen_not_running hst)).trans (if_neg Bool.false_ne_true))

/-- A dither amplitude of zero is refused. -/
theorem State.writeCoef_of_flat {s : State} {l v : Nat} (hl : l < 176)
    (hst : s.ringSt l = rgParked ∨ s.ringSt l = rgHold ∨ s.ringSt l = rgFault) (hv : v % 65536 = 0) :
    s.writeCoef l true v = s.raise JIG.EVENT.CFG_ERR :=
  (if_neg (Nat.not_le.2 hl)).trans ((if_neg (coefOpen_not_running hst)).trans ((if_pos rfl).trans (if_pos hv)))

/-- Coefficients of a loop in another state are refused, and counted. -/
theorem State.writeCoef_of_running {s : State} {l : Nat} (dith : Bool) (v : Nat) (hl : l < 176)
    (hparked : s.ringSt l ≠ rgParked) (hhold : s.ringSt l ≠ rgHold) (hfault : s.ringSt l ≠ rgFault) :
    s.writeCoef l dith v = (s.bump JIG.COUNTS.COEF_REFUSED).raise JIG.EVENT.COEF_REFUSED :=
  (if_neg (Nat.not_le.2 hl)).trans (if_pos ⟨hparked, hhold, hfault⟩)

/-- Where parity is sound a write of coefficients that leaves parity as it was is the loop's own. -/
theorem execJigCoefWrite_eq {s t : State} {b : Bank} {dith : Bool} {v : BitVec 32} (hs : s.csrSound)
    (h : s.writeCoef (s.rd (JIG.L_SEL.LOOP b.num)) dith v.toNat = t) (hsys : t.sys = s.sys) :
    execJigCoefWrite b dith v s = .next t := by
  rw [execJigCoefWrite, State.bySoft_of_csrSound _ _ _ hs (by rw [h, hsys]), h]

/-- A loop's gains read the halves of the value that is stored. -/
theorem State.wrGain_shows (s : State) (l : Nat) {v : Nat} (hv : v < 2 ^ 32) :
    let t := (s.wr (JIG.L_GAIN.KI l) v).wr (JIG.L_GAIN.KP l) (v / 65536)
    t.rd (JIG.L_GAIN.KI l) = v % 65536 ∧ t.rd (JIG.L_GAIN.KP l) = v / 65536 ∧
      s.onlyRegs t [JIG.L_GAIN.KI l, JIG.L_GAIN.KP l] := by
  intro t
  refine ⟨?ki, ?kp, rfl, State.regsBut_trans (State.regsBut_wr s _ (by simp)) (State.regsBut_wr _ _ (by simp))⟩
  case ki => exact (State.rd_wr_ne _ _ (Field.key_ne_of_lo rfl)).trans (State.rd_wr_self _ _ _)
  case kp => exact (State.rd_wr_self _ _ _).trans (Nat.mod_eq_of_lt (show v / 65536 < 65536 by omega))

/-! ### The crosstalk matrix (R184) -/

/-- An element of the matrix whose shadow holds its active value. -/
def State.shadowed (s : State) (i : Nat) : Prop :=
  s.rd (JIG.CMAT_DATA.SHADOW i) = s.rd (JIG.CMAT_DATA.ACTIVE i) % 65536

/-- An element's active value copied into its shadow. -/
def State.cmatCopyOne (s : State) (i : Nat) : State :=
  s.wr (JIG.CMAT_DATA.SHADOW i) (s.rd (JIG.CMAT_DATA.ACTIVE i))

theorem State.cmatCopyOne_active (s : State) (i j : Nat) :
    (s.cmatCopyOne j).rd (JIG.CMAT_DATA.ACTIVE i) = s.rd (JIG.CMAT_DATA.ACTIVE i) :=
  State.rd_wr_ne _ _ (Field.key_ne_of_lo rfl)

theorem State.cmatCopyOne_self (s : State) (i : Nat) : (s.cmatCopyOne i).shadowed i := by
  rw [State.shadowed, State.cmatCopyOne_active]
  exact State.rd_wr_self _ _ _

/-- Elements that are copied stay so while others are. -/
theorem State.cmatCopyOne_keeps {s : State} {i : Nat} (j : Nat) (h : s.shadowed i) : (s.cmatCopyOne j).shadowed i := by
  by_cases hij : i = j
  · exact hij ▸ s.cmatCopyOne_self i
  · have hkey : (JIG.CMAT_DATA.SHADOW i).key ≠ (JIG.CMAT_DATA.SHADOW j).key := by
      simp only [Field.key, JIG.CMAT_DATA.SHADOW]
      omega
    rw [State.shadowed, State.cmatCopyOne_active, State.cmatCopyOne, State.rd_wr_ne _ _ hkey]
    exact h

/-- What a fold's steps keep, and one of them establishes, holds after the fold. -/
theorem foldl_establishes {α β : Type} {P : α → Prop} {f : α → β → α} {l : List β} {x : β} (hx : x ∈ l)
    (hmk : ∀ a, P (f a x)) (hkeep : ∀ a y, P a → P (f a y)) (a : α) : P (l.foldl f a) := by
  induction l generalizing a with
  | nil => cases hx
  | cons y l ih =>
    rw [List.foldl_cons]
    rcases List.mem_cons.1 hx with rfl | hx
    · exact List.foldlRecOn (motive := P) _ _ (hmk a) fun b hb z _ => hkeep b z hb
    · exact ih hx _

theorem State.cmatCopy_active (s : State) (e i : Nat) :
    (s.cmatCopy e).rd (JIG.CMAT_DATA.ACTIVE i) = s.rd (JIG.CMAT_DATA.ACTIVE i) :=
  List.foldlRecOn (motive := fun t : State => t.rd (JIG.CMAT_DATA.ACTIVE i) = s.rd (JIG.CMAT_DATA.ACTIVE i)) _ _ rfl
    fun t ht j _ => (State.cmatCopyOne_active t i j).trans ht

theorem State.cmatCopy_keeps {s : State} {i : Nat} (e : Nat) (h : s.shadowed i) : (s.cmatCopy e).shadowed i :=
  List.foldlRecOn (motive := fun t : State => t.shadowed i) _ _ h fun _ ht j _ => State.cmatCopyOne_keeps j ht

/-- A key that a table reads otherwise than by default has a row. -/
theorem Tbl.mem_of_lookD_ne {β : Type} {t : Tbl β} {d : β} {k : Nat} (h : Tbl.lookD t d k ≠ d) : ∃ v, (k, v) ∈ t := by
  induction t with
  | nil => exact absurd rfl h
  | cons r t ih =>
    by_cases hk : r.1 = k
    · exact ⟨r.2, hk ▸ List.mem_cons_self⟩
    · obtain ⟨v, hv⟩ := ih (by simpa [Tbl.lookD, Tbl.look, hk] using h)
      exact ⟨v, List.mem_cons_of_mem _ hv⟩

/-- An element of which either bank has a row is listed. -/
theorem State.mem_cmatListed {s : State} {i v : Nat} {f : Field}
    (hf : f = JIG.CMAT_DATA.ACTIVE i ∨ f = JIG.CMAT_DATA.SHADOW i) (h : (f.key, v) ∈ s.regs) :
    i ∈ s.cmatListed (i / 4096) := by
  have hi : f.key / 128 / 2 ^ 26 = i := by
    rcases hf with rfl | rfl <;> simp only [Field.key, JIG.CMAT_DATA.ACTIVE, JIG.CMAT_DATA.SHADOW] <;> omega
  refine List.mem_filterMap.2 ⟨_, h, ?_⟩
  dsimp only
  rw [hi]
  exact if_pos ⟨hf.imp (congrArg Field.key) (congrArg Field.key), rfl⟩

/-- An element that no bank lists is zero in both. -/
theorem State.shadowed_of_unlisted {s : State} {i : Nat} (h : i ∉ s.cmatListed (i / 4096)) : s.shadowed i := by
  have hzero {f : Field} (hf : f = JIG.CMAT_DATA.ACTIVE i ∨ f = JIG.CMAT_DATA.SHADOW i) : s.rd f = f.reset := by
    refine Decidable.byContradiction fun hne => ?_
    obtain ⟨v, hv⟩ := Tbl.mem_of_lookD_ne hne
    exact h (State.mem_cmatListed hf hv)
  rw [State.shadowed, hzero (.inl rfl), hzero (.inr rfl)]
  rfl

/-- An engine's copy copies each of its elements. -/
theorem State.cmatCopy_shadowed (s : State) (i : Nat) : (s.cmatCopy (i / 4096)).shadowed i := by
  by_cases h : i ∈ s.cmatListed (i / 4096)
  · exact foldl_establishes (P := fun t : State => t.shadowed i) h (fun t => t.cmatCopyOne_self i)
      (fun _ j => State.cmatCopyOne_keeps j) s
  · exact State.cmatCopy_keeps _ (State.shadowed_of_unlisted h)

/-- The engine's copy, where its bit of the mask is set. -/
def State.cmatCopyBit (m : Nat) (s : State) (e : Nat) : State := if bitOf m e then s.cmatCopy e else s

/-- A copy leaves the active banks, and copies the elements of the engines whose bits are set. -/
theorem State.cmatCopyCmd_shows (s : State) {m i : Nat} (hbit : bitOf m (i / 4096) = true) (hi : i / 4096 < 4) :
    (s.cmatCopyCmd m).rd (JIG.CMAT_DATA.SHADOW i) = s.rd (JIG.CMAT_DATA.ACTIVE i) % 65536 ∧
      (s.cmatCopyCmd m).rd (JIG.CMAT_DATA.ACTIVE i) = s.rd (JIG.CMAT_DATA.ACTIVE i) := by
  have hshadow : (s.cmatCopyCmd m).shadowed i := by
    refine foldl_establishes (f := State.cmatCopyBit m) (P := fun t : State => t.shadowed i) (List.mem_range.2 hi)
      (fun t => ?_) (fun t e h => ?_) s
    · rw [State.cmatCopyBit, if_pos hbit]
      exact t.cmatCopy_shadowed i
    · unfold State.cmatCopyBit
      split
      · exact State.cmatCopy_keeps e h
      · exact h
  have hactive : (s.cmatCopyCmd m).rd (JIG.CMAT_DATA.ACTIVE i) = s.rd (JIG.CMAT_DATA.ACTIVE i) := by
    refine List.foldlRecOn (motive := fun t : State => t.rd (JIG.CMAT_DATA.ACTIVE i) = s.rd (JIG.CMAT_DATA.ACTIVE i))
      _ (State.cmatCopyBit m) rfl fun t ht e _ => ?_
    unfold State.cmatCopyBit
    split
    · exact (t.cmatCopy_active e i).trans ht
    · exact ht
  exact ⟨hactive ▸ hshadow, hactive⟩

/-! ### Takeovers and mislock counts (R192, R193) -/

/-- A takeover ended, and with it the replacement that it covered. -/
def State.takeoverEnded (s : State) (p k : Nat) : State :=
  { s.advance ((k + 2) * Config.cycleTime) with fab := { s.fab with
      jig := { s.fab.jig with
        takeovers := s.fab.jig.takeovers.filter (· != p), release := Tbl.del s.fab.jig.release p }
      recable := { s.fab.recable with repl := Tbl.del s.fab.recable.repl p } } }

theorem execTakeoverRelease_of_covered {s : State} {p : Fin 16} {k : Nat} (hup : s.fabUp = true)
    (hk : Tbl.look s.fab.jig.release p = some k) (hp : p.val ∈ s.fab.jig.takeovers) :
    execTakeoverRelease p s = .next ((s.takeoverEnded p k).setBFor p 15) := by
  rw [execTakeoverRelease, hk]
  exact if_neg (by simp [hup, hp])

theorem execMislockCountReset_of_locked {s : State} {l : Fin 176} {t : Nat} (hup : s.fabUp = true)
    (hst : s.ringSt l = rgLocked) (ht : (s.loop l).lockedAt + tenSeconds ≤ max s.now t) :
    execMislockCountReset l t s =
      .next (((s.advance t).setLoop l { s.loop l with mis := 0 }).wr (JIG.L_STAT.MISLOCKS l) 0) :=
  if_neg (by simp only [hup, hst, not_true_eq_false, ne_eq, false_or]; exact Nat.not_lt.2 ht)

/-- Settles O27: a loop's command waits or is refused, a coefficient is stored or refused, and a copy of the matrix
goes through the elements that either bank lists, for the others are zero in both. -/
theorem ringCommands : Obligations.RingCommands := by
  unfold Obligations.RingCommands
  refine ⟨fun s b i k hl hi => ⟨fun h => ?held, fun h => ?refused⟩,
    fun s b v hs hl => ⟨fun hst => ⟨?gain, fun hv => ?flat⟩, fun hparked hhold hfault dith => ?running⟩,
    fun s m => rfl, fun s m => ⟨_, rfl, fun i hbit hi => s.cmatCopyCmd_shows hbit hi⟩,
    fun s p k hup hk hp => execTakeoverRelease_of_covered hup hk hp,
    fun s l t hup hst ht => execMislockCountReset_of_locked hup hst ht⟩
  case held => rw [exec_eq_ringCommand s hi, State.ringCommand_of_allowed hl h]
  case refused =>
    exact ⟨_, (exec_eq_ringCommand s hi).trans (congrArg Host.Outcome.next (State.ringCommand_of_refused hl h)),
      State.raise_flags s _ (by decide) rfl (by decide) (by decide)⟩
  case gain =>
    exact ⟨_, execJigCoefWrite_eq hs (State.writeCoef_of_gain _ hl hst) rfl, State.wrGain_shows s _ v.isLt⟩
  case flat =>
    exact ⟨_, execJigCoefWrite_eq hs (State.writeCoef_of_flat hl hst hv) (State.raise_sys _ _ _ _ (by decide)),
      State.raise_flags s _ (by decide) rfl (by decide) (by decide)⟩
  case running =>
    exact ⟨_, execJigCoefWrite_eq hs (State.writeCoef_of_running dith _ hl hparked hhold hfault)
        (State.raise_sys _ _ _ _ (by decide)),
      State.bump_raise_flagged s _ (by decide) rfl (by decide) (by decide) (by decide),
      State.bump_raise_onlyEvent s _ _ (by decide)⟩

end Sys2Proof.Machine
end

section
/-! SUPPORT. The wear of rings, channels and ports (06_ring_locking.md, 07_recabling.md): what each step of a replacement
leaves, and the statement about them. -/
namespace Sys2Proof.Machine
open Sys2Proof

/-! ### Rings (R213-R216) -/

section RingReplace

variable {s : State} {p : Fin 16} {n : Fin 8}

/-- An index that S serves is lost where S has failed too. -/
theorem execRingReplace_of_spareFault (hup : s.fabUp = true) (hon : s.on (wardField p n).1 = true) (hs : s.sFor p = n)
    (hst : s.ringSt (loopOf p 9) = rgFault) : execRingReplace p n s = .next (s.ringLost p n) := by
  rw [execRingReplace, if_neg (by simp [hup, hon]), if_pos hs, if_pos hst]

/-- A failed ring is replaced by S, where S is free and has not failed. -/
theorem execRingReplace_of_fault (hup : s.fabUp = true) (hon : s.on (wardField p n).1 = true) (hs : s.sFor p = 15)
    (hst : s.ringSt (loopOf p n) = rgFault) (hspare : s.ringSt (loopOf p 9) ≠ rgFault) :
    execRingReplace p n s = .next (s.useSpare p n) := by
  rw [execRingReplace, if_neg (by simp [hup, hon]), if_neg (by rw [hs]; omega), if_pos hst, if_pos ⟨hs, hspare⟩]

/-- A worn ring is first covered by B, where B is free and parked. -/
theorem execRingReplace_of_worn (hup : s.fabUp = true) (hon : s.on (wardField p n).1 = true) (hs : s.sFor p = 15)
    (hst : s.ringSt (loopOf p n) ≠ rgFault) (hworn : s.worn p n = true) (hb : s.bFor p = 15)
    (hparked : s.ringSt (loopOf p 8) = rgParked) :
    execRingReplace p n s = .next (State.setBFor { s with fab := { s.fab with recable := { s.fab.recable with
      repl := Tbl.set s.fab.recable.repl p n.val } } } p n) := by
  rw [execRingReplace, if_neg (by simp [hup, hon]), if_neg (by rw [hs]; omega), if_neg hst,
    if_neg (by simp [hs, hworn]), if_pos ⟨hb, hparked⟩]

end RingReplace

/-! ### Channels (R168, R217) -/

/-- A channel that has faulted no longer waits to be replaced. -/
def State.faultTaken (s : State) (m : Bool) (l : Nat) : State :=
  s.setJig { s.fab.jig with faulty := s.fab.jig.faulty.filter (· != (m, l)) }

/-- A heater's channel takes over the R_h of its spare; a monitor's has none. -/
def State.takeRh (s : State) (m : Bool) (d i e x : Nat) : State :=
  if m then s else s.wr (ED.DAC_RH.RH d i) (s.rd (ED.DAC_RH.RH d (edChannel false e x)))

theorem State.takeRh_fab (s : State) (m : Bool) (d i e x : Nat) : (s.takeRh m d i e x).fab = s.fab := by
  unfold State.takeRh
  split <;> rfl

/-- R_h is another register than the map of spares. -/
theorem State.takeRh_rd (s : State) (m : Bool) (d i e x : Nat) {f : Field}
    (hf : f = ED.SPARE_MAP.EN d i ∨ f = ED.SPARE_MAP.SPARE d i) : (s.takeRh m d i e x).rd f = s.rd f := by
  have hkey : f.key ≠ (ED.DAC_RH.RH d i).key := by
    rcases hf with rfl | rfl <;> simp only [Field.key, ED.SPARE_MAP.EN, ED.SPARE_MAP.SPARE, ED.DAC_RH.RH] <;> omega
  unfold State.takeRh
  split
  · rfl
  · exact State.rd_wr_ne _ _ hkey

/-- Spare `x` mapped over a loop's channel, and noted for the patch map. -/
def State.spareMapped (s : State) (m : Bool) (l x : Nat) : State :=
  let i := edChannel m (l / 44) (l % 44)
  let t := (s.wr (ED.SPARE_MAP.EN (l / 44 / 2) i) 1).wr (ED.SPARE_MAP.SPARE (l / 44 / 2) i) x
  (t.takeRh m (l / 44 / 2) i (l / 44) x).patchNote (7 + bit m) 1 ((if m then 52 else 44) * (l / 44) + l % 44) x

theorem State.spareMapped_fab (s : State) (m : Bool) (l x : Nat) : (s.spareMapped m l x).fab = s.fab :=
  State.takeRh_fab _ _ _ _ _ _

theorem State.spareMapped_shows (s : State) (m : Bool) (l x : Nat) :
    (s.spareMapped m l x).rd (ED.SPARE_MAP.EN (l / 88) (edChannel m (l / 44) (l % 44))) = 1 ∧
      (s.spareMapped m l x).rd (ED.SPARE_MAP.SPARE (l / 88) (edChannel m (l / 44) (l % 44))) =
        x % 2 ^ (ED.SPARE_MAP.SPARE (l / 88) (edChannel m (l / 44) (l % 44))).width := by
  rw [← Nat.div_div_eq_div_mul l 44 2]
  constructor
  · refine (State.takeRh_rd _ _ _ _ _ _ (.inl rfl)).trans ?_
    rw [State.rd_wr_ne _ _ (Field.key_ne_of_lo rfl), State.rd_wr_self]
    rfl
  · exact (State.takeRh_rd _ _ _ _ _ _ (.inr rfl)).trans (State.rd_wr_self _ _ _)

/-- A ring told to leave FAULT at the next boundary. -/
def State.resetAsked (s : State) (l : Nat) : State := s.setLoop l { s.loop l with cmd := some .reset }

/-- A spare is mapped over a faulted channel, and its ring is reset. -/
theorem execChannelFaultSpare_of_spare {s : State} {m : Bool} {l : Fin 176} {x : Nat} (hup : s.fabUp = true)
    (hfaulty : (m, l.val) ∈ s.fab.jig.faulty) (hx : s.spareChannel m (l.val / 44) = some x) :
    execChannelFaultSpare m l s = .next (((s.faultTaken m l).spareMapped m l x).resetAsked l) := by
  have hx' : (s.faultTaken m l).spareChannel m (l.val / 44) = some x := hx
  unfold State.faultTaken at hx'
  rw [execChannelFaultSpare]
  dsimp only
  rw [if_neg (by simp [hup, hfaulty]), hx']
  rfl

theorem execHeaterCompliance_of_up {s : State} (l : Fin 176) (hup : s.fabUp = true) : execHeaterCompliance l s =
    .next ((((s.wr (ED.STATUS.DAC_FAULT (l.val / 88)) 1).bump (ED.COUNTS.COMPLIANCE (l.val / 88))).raise
      (ED.EVENT.DAC_FAULT (l.val / 88))).channelFault false l) := if_neg (by simp [hup])

theorem execMonitorChannelFault_of_up {s : State} (l : Fin 176) (hup : s.fabUp = true) : execMonitorChannelFault l s =
    .next (((s.wr (ED.STATUS.AMP_FAULT (l.val / 88)) 1).raise (ED.EVENT.AMP_FAULT (l.val / 88))).channelFault true l) :=
  if_neg (by simp [hup])

/-- A channel noted as faulted, once. -/
def State.faultNoted (s : State) (m : Bool) (l : Nat) : State :=
  if s.fab.jig.faulty.contains (m, l) then s
  else s.setJig { s.fab.jig with faulty := s.fab.jig.faulty ++ [(m, l)] }

theorem State.faultNoted_mem (s : State) (m : Bool) (l : Nat) : (m, l) ∈ (s.faultNoted m l).fab.jig.faulty := by
  unfold State.faultNoted
  split
  · next h => simpa using h
  · exact List.mem_append_right _ (List.mem_singleton.2 rfl)

theorem State.faultNoted_keeps (s : State) (m : Bool) (l : Nat) :
    (s.faultNoted m l).ringSt l = s.ringSt l ∧ (s.faultNoted m l).fab.cal = s.fab.cal := by
  unfold State.faultNoted
  split <;> exact ⟨rfl, rfl⟩

/-- A channel's fault while nothing is calibrated puts its ring into FAULT. -/
theorem State.channelFault_of_idle {s : State} {l : Nat} (m : Bool) (hcal : s.fab.cal.opt = none)
    (hst : s.ringSt l ≠ rgFault) : s.channelFault m l = (s.faultNoted m l).enterFault l := by
  obtain ⟨hring, hkept⟩ := State.faultNoted_keeps s m l
  have hcal' : (s.faultNoted m l).fab.cal.opt = none := (congrArg Calib.opt hkept).trans hcal
  have hst' : ¬ (s.faultNoted m l).ringSt l = rgFault := fun h => hst (hring.symm.trans h)
  unfold State.faultNoted at *
  rw [State.channelFault]
  dsimp only
  rw [hcal']
  exact if_neg hst'

/-! ### Ports (R218) -/

theorem State.slotsOnly_cutLinks (s : State) (f : Nat → Bool) : s.slotsOnly (s.cutLinks f) := by
  unfold State.cutLinks
  exact State.slotsOnly_trans
    (State.slotsOnly_foldl _ (fun s r _ => State.slotsOnly_foldl _ (fun s a _ => s.slotsOnly_cutLink r.1 a.1) s) s)
    (State.slotsOnly_foldl _ (fun s l _ => s.slotsOnly_silence l) _)

theorem State.slotsOnly_rxQuieted (s : State) (l : Nat) : s.slotsOnly (s.rxQuieted l) :=
  State.slotsOnly_trans (State.slotsOnly_wr s (f := PB.L_COUNTS2.RX_QUIETED l) _ (by decide : 96 ∈ slotLows))
    (State.slotsOnly_countFtd _ _ _ _)

theorem State.slotsOnly_quietRx (s : State) (f : Nat → Bool) : s.slotsOnly (s.quietRx f) := by
  unfold State.quietRx
  exact State.slotsOnly_foldl _ (fun s r _ => State.slotsOnly_foldl _ (fun s a _ =>
    State.slotsOnly_trans (s.slotsOnly_setPlan _ _) (State.slotsOnly_rxQuieted _ _)) s) s

theorem State.slotsOnly_portsOff (s : State) (f : Nat → Bool) : s.slotsOnly (s.portsOff f) :=
  State.slotsOnly_trans (State.slotsOnly_cutLinks _ _) (State.slotsOnly_quietRx _ _)

/-- An event without a flag keeps the fabric and every field below the counters'. -/
theorem State.logOpen_keeps (s : State) (block k sev off : Nat) (detail : List Byte) :
    (s.logOpen block k sev off detail).fab = s.fab ∧
      ∀ g : Field, offSlots g = true → (s.logOpen block k sev off detail).rd g = s.rd g :=
  ⟨State.logEvent_fab _ _ _ _ _ _, fun _ hg =>
    have ⟨ho, hlo, _⟩ := offSlots_iff.1 hg
    State.logEvent_rd _ _ _ _ _ _ (notMem_recorderFields hlo ho)⟩

/-- A port disabled, and noted as failed. -/
def State.portDisabled (s : State) (p : Nat) : State :=
  let t := s.wr (OPE.CTRL.PORT_EN (p / 4)) (s.rd (OPE.CTRL.PORT_EN (p / 4)) - 2 ^ (p % 4))
  { t with fab := { t.fab with failed := t.fab.failed.filter (· != p) ++ [p] } }

/-- A port that has framed nothing, and whose last probe failed, is disabled; an event says whether its engine is left. -/
theorem execPortFailed_of_dead {s : State} {p : Fin 16} (hup : s.fabUp = true) (hen : s.portEn p = true)
    (hdead : 16 ≤ Tbl.lookD s.fab.dead 0 p) (hloop : p.val ∈ s.fab.noLoop) :
    ∃ block k sev off detail, execPortFailed p s =
      .next (((s.portDisabled p).portsOff (· == p.val)).logOpen block k sev off detail) := by
  have hgo : ¬ (¬ s.fabUp = true ∨ ¬ s.portEn p = true ∨ Tbl.lookD s.fab.dead 0 p < 16 ∨
      ¬ s.fab.noLoop.contains p.val = true) := by
    simp [hup, hen, hloop, hdead]
  rw [execPortFailed]
  dsimp only
  rw [if_neg hgo]
  split <;> exact ⟨_, _, _, _, _, rfl⟩

/-- Settles O31: a ring's replacement is one step of `execRingReplace`'s table; a spare is mapped by writes of its own; a
failed channel's ring enters FAULT; and neither the end of a port's slots nor its event writes PORT_EN. -/
theorem wear : Obligations.Wear := by
  unfold Obligations.Wear
  refine ⟨fun s p n hup hon => ⟨fun hs hst => execRingReplace_of_spareFault hup hon hs hst,
      fun hs hst hspare => execRingReplace_of_fault hup hon hs hst hspare,
      fun hs hst hworn hb hparked => execRingReplace_of_worn hup hon hs hst hworn hb hparked⟩,
    fun s m l x hup hfaulty hx => ?spare,
    fun s l hup => ⟨execHeaterCompliance_of_up l hup, execMonitorChannelFault_of_up l hup⟩,
    fun s p hup hen hdead hloop => ?port, fun s l m hcal hst hring => ?channel⟩
  case spare =>
    obtain ⟨hen, hspare⟩ := State.spareMapped_shows (s.faultTaken m l) m l x
    refine ⟨_, execChannelFaultSpare_of_spare hup hfaulty hx, hen, hspare,
      congrArg Loop.cmd (State.setLoop_loop_self _ l.val _), ?_⟩
    have htaken : (((s.faultTaken m l).spareMapped m l x).resetAsked l).fab.jig.faulty =
        (s.faultTaken m l).fab.jig.faulty := congrArg (·.jig.faulty) (State.spareMapped_fab _ m l x)
    rw [htaken]
    simp [State.faultTaken, State.setJig]
  case port =>
    obtain ⟨block, k, sev, off, detail, hexec⟩ := execPortFailed_of_dead hup hen hdead hloop
    obtain ⟨hoff, -, hoffRd⟩ := State.slotsOnly_portsOff (s.portDisabled p) (· == p.val)
    obtain ⟨hlog, hlogRd⟩ := State.logOpen_keeps ((s.portDisabled p).portsOff (· == p.val)) block k sev off detail
    have hlow : offSlots (OPE.CTRL.PORT_EN (p.val / 4)) = true :=
      offSlots_iff.2 ⟨by simp only [OPE.CTRL.PORT_EN]; omega, (by decide : 0 < 128), (by decide : 0 ∉ slotLows)⟩
    refine ⟨_, hexec, ?_, ?_⟩
    · rw [hlog, hoff]
      exact List.mem_append_right _ (List.mem_singleton.2 rfl)
    · rw [hlogRd _ hlow, hoffRd _ hlow]
      exact State.rd_wr_self s _ _
  case channel =>
    obtain ⟨hfault, hd, hflag, hkept⟩ := State.enterFault_shows (s.faultNoted m l) hring
    rw [State.channelFault_of_idle m hcal hst, hkept]
    exact ⟨hfault, State.faultNoted_mem s m l, hd, hflag⟩

end Sys2Proof.Machine
end

section
/-! SUPPORT. Re-cabling (07_recabling.md): its start, its phases, its learning slots and its end, and the statement about
them. -/
namespace Sys2Proof.Machine
open Sys2Proof

/-! ### What an event leaves of a field, told by the field's place -/

/-- An event leaves every field below the counters' registers that begins neither at its flag's bit nor at SEQ's. -/
theorem State.raise_rd_of_lo (s : State) {f g : Field} (v : Nat) (d : List Byte)
    (hf : (g.lo % 128 == f.lo % 128) = false) (hs : (g.lo % 128 == 24 % 128) = false) (hl : g.lo < 128)
    (ho : g.off < 0xB00000) : (s.raise f v d).rd g = s.rd g :=
  State.raise_rd_ne s v d (Field.key_ne_of_lo hf) (Field.key_ne_of_lo hs) (notMem_recorderFields hl ho)

/-- An event that is reported leaves what the same event leaves. -/
theorem State.report_rd_of_lo (s : State) {f g : Field} (v : Nat) (d : List Byte)
    (hf : (g.lo % 128 == f.lo % 128) = false) (hs : (g.lo % 128 == 24 % 128) = false) (hl : g.lo < 128)
    (ho : g.off < 0xB00000) : (s.report f v d).rd g = s.rd g := by
  rw [State.report, State.logEvent_rd _ _ _ _ _ _ (notMem_recorderFields hl ho),
    State.rd_setFlag_ne _ (Field.key_ne_of_lo hf) (Field.key_ne_of_lo hs)]

theorem State.report_on_self (s : State) {f : Field} (v : Nat) (d : List Byte) (hw : f.width = 1) (hl : f.lo < 24)
    (ho : f.off < 0xB00000) : (s.report f v d).on f = true := by
  rw [State.on, State.report, State.logEvent_rd _ _ _ _ _ _ (notMem_recorderFields (by omega) ho),
    State.rd_setFlag_self _ hw (Nat.ne_of_lt hl)]
  rfl

/-- An event of a flag below the counters' registers sets it. -/
theorem State.raise_on_self (s : State) {f : Field} (v : Nat) (d : List Byte) (hw : f.width = 1) (hl : f.lo < 24)
    (ho : f.off < 0xB00000) : (s.raise f v d).on f = true := by
  rw [State.on, State.raise_rd_self s v d hw (Nat.ne_of_lt hl) (notMem_recorderFields (by omega) ho)]
  rfl

/-! ### Its start and its phases (R204-R207) -/

/-- A re-cable that has begun, before its ports take their new wardrobes. -/
def State.recableBegun (s : State) : State :=
  let v := (((s.advance (s.rcAt 0)).calAbortOpt 13).wr CAL.RCB_STAT.STATE rcRunning).wr CAL.RCB_STAT.PHASE 1
  { v with fab := { v.fab with recable := { v.fab.recable with mislocks := 0 } } }

theorem execRecableStart_of_committed {s : State} (hup : s.fabUp = true) (hst : s.rcState = rcCommitted) :
    execRecableStart s = .next ((List.range 16).foldl (fun s p => s.recablePort p) s.recableBegun) :=
  if_neg (by simp [hup, hst])

/-- The slot, counted from R, at which the phase after `k` begins. -/
def phaseSlot (k : Nat) : Nat := if k = 1 then 2176 else if k = 2 then 3712 else 5760

theorem execRecablePhase_of_running {s : State} (hup : s.fabUp = true) (hst : s.rcState = rcRunning)
    (hpos : 0 < s.rd CAL.RCB_STAT.PHASE) (hle : s.rd CAL.RCB_STAT.PHASE ≤ 3) :
    execRecablePhase s = .next ((s.advance (s.rcAt (phaseSlot (s.rd CAL.RCB_STAT.PHASE)))).wr CAL.RCB_STAT.PHASE
      (s.rd CAL.RCB_STAT.PHASE + 1)) :=
  if_neg (by simp [hup, hst]; omega)

/-! ### Its learning slots (R208) -/

/-- A learning slot in which no port frames anything is its ports' bursts. -/
theorem execLearningSlot_of_running {s : State} {n : Nat} (hup : s.fabUp = true) (hst : s.rcState = rcRunning)
    (hfrom : s.rcSlot + 3712 ≤ n) (hto : n < s.rcSlot + 5760) (hn : n % 16 = 8) (hnow : s.now < slotStart (n + 1)) :
    execLearningSlot n [] s =
      .next ((List.range 16).foldl (fun s p => s.learnSend n (n / 16 % 32) p) (s.advance (slotStart n))) := by
  have hgo : ¬ (¬ s.fabUp = true ∨ s.rcState ≠ rcRunning ∨ n < s.rcSlot + 3712 ∨ s.rcSlot + 5760 ≤ n ∨ n % 16 ≠ 8 ∨
      slotStart (n + 1) ≤ s.now) := by
    simp only [hup, hst, hn, not_true_eq_false, ne_eq, false_or]
    omega
  rw [execLearningSlot]
  dsimp only
  rw [if_neg hgo, List.foldl_nil]

/-- A port with a ring LOCKED on the slot's colour sends an empty burst on it. -/
theorem State.learnSend_of_locked {s : State} {n k p r : Nat} (hr : s.lockedOn p k = some r) (hoff : s.portOff p = false)
    (hopt : s.on GAUGE.STATUS.OPT_OK = true) : ∃ h : Header, s.learnSend n k p =
      s.anyQueue.2.light p { slot := n, ring := r, payload := [], head := some h } := by
  refine ⟨{ s.anyQueue.2.opHeader p n k (s.anyQueue.2.dest p k) with queue := s.anyQueue.1, idle := true }, ?_⟩
  rw [State.learnSend, hr]
  exact if_neg (by simp [hoff, hopt])

/-! ### Its end (R209, R210) -/

/-- The result of a re-cable shown, with its four counts, and its event. -/
def State.recableCounted (s : State) (a b c d : Nat) : State :=
  let t := (s.wr CAL.RCB_STAT.STATE rcDone).wr CAL.RCB_STAT.PHASE 0
  let t := ((t.wrSat CAL.RCB_RESULT.NOT_LOCKED a).wrSat CAL.RCB_RESULT.UNVERIFIED b).wrSat CAL.RCB_RESULT.MISLOCK c
  ((t.wrSat CAL.RCB_RESULT.PC_INVALID d).bump CAL.RCB_COUNTS.DONE).raise CAL.RCB_EVENT.DONE

/-- A count that is not zero adds the event INCOMPLETE. -/
def State.recableDone (s : State) (a b c d : Nat) : State :=
  if a + b + c + d = 0 then s.recableCounted a b c d
  else (s.recableCounted a b c d).raise CAL.RCB_EVENT.INCOMPLETE sevWarning

theorem State.recableDone_rd (s : State) (a b c d : Nat) {g : Field} (hg : g.key ≠ CAL.RCB_EVENT.INCOMPLETE.key)
    (hs : g.key ≠ (seqOf CAL.RCB_EVENT.INCOMPLETE).key) (hr : g.key ∉ recorderFields.map Field.key) :
    (s.recableDone a b c d).rd g = (s.recableCounted a b c d).rd g := by
  unfold State.recableDone
  split
  · rfl
  · exact State.raise_rd_ne _ _ _ hg hs hr

theorem State.recableDone_shows (s : State) (a b c d : Nat) :
    let t := s.recableDone a b c d
    t.rcState = rcDone ∧ t.rd CAL.RCB_STAT.PHASE = 0 ∧
      t.rd CAL.RCB_COUNTS.DONE = (s.rd CAL.RCB_COUNTS.DONE + 1) % 2 ^ CAL.RCB_COUNTS.DONE.width ∧
      t.on CAL.RCB_EVENT.DONE = true ∧
      t.rd CAL.RCB_RESULT.MISLOCK = min c (2 ^ CAL.RCB_RESULT.MISLOCK.width - 1) ∧
      t.rd CAL.RCB_RESULT.PC_INVALID = min d (2 ^ CAL.RCB_RESULT.PC_INVALID.width - 1) := by
  refine ⟨?state, ?phase, ?count, ?flag, ?mislock, ?invalid⟩
  case flag =>
    rw [State.on, State.recableDone_rd _ _ _ _ _ (by decide) (by decide) (by decide)]
    exact State.raise_on_self _ _ _ rfl (by decide) (by decide)
  case state =>
    rw [State.rcState, State.recableDone_rd _ _ _ _ _ (by decide) (by decide) (by decide)]
    simp (disch := decide) only [State.recableCounted, State.raise_rd_ne, State.rd_bump_ne, State.rd_wrSat_ne,
      State.rd_wr_ne, State.rd_wr_self]
    rfl
  all_goals
    rw [State.recableDone_rd _ _ _ _ _ (by decide) (by decide) (by decide)]
    simp (disch := decide) only [State.recableCounted, State.raise_rd_ne, State.rd_bump_ne, State.rd_bump_self,
      State.rd_wrSat_ne, State.rd_wrSat_self, State.rd_wr_ne, State.rd_wr_self, Nat.zero_mod]

/-- A source whose measurement a re-cable has put off goes on with it. -/
def State.measResume (s : State) (i : Nat) : State :=
  if s.rd (CAL.LSR_STAT.STEP i) = stMeasure then s.measNext i (s.laser i).ports else s

theorem State.measResume_of_ne {s : State} {i : Nat} (h : s.rd (CAL.LSR_STAT.STEP i) ≠ stMeasure) : s.measResume i = s :=
  if_neg h

/-- A source's status register lies below the counters' registers. -/
theorem lsrStat_off_lt {i : Nat} (hi : i < 2) : (CAL.LSR_STAT.STEP i).off < 0xB00000 := by
  simp only [CAL.LSR_STAT.STEP]; omega

/-- The result of a re-cable leaves each source's step. -/
theorem State.recableDone_step (s : State) (a b c d : Nat) {i : Nat} (hi : i < 2) :
    (s.recableDone a b c d).rd (CAL.LSR_STAT.STEP i) = s.rd (CAL.LSR_STAT.STEP i) := by
  rw [State.recableDone_rd _ _ _ _ _ (Field.key_ne_of_lo rfl) (Field.key_ne_of_lo rfl)
    (notMem_recorderFields (by decide : 25 < 128) (lsrStat_off_lt hi)), State.recableCounted,
    State.raise_rd_of_lo _ _ _ rfl rfl (by decide : 25 < 128) (lsrStat_off_lt hi)]
  simp (disch := exact Field.key_ne_of_lo rfl) only [State.rd_bump_ne, State.rd_wrSat_ne, State.rd_wr_ne]

/-- Where no source is being measured, a re-cable ends with its result alone. -/
theorem execRecableEnd_of_running {s : State} (hup : s.fabUp = true) (hst : s.rcState = rcRunning)
    (hA : s.rd (CAL.LSR_STAT.STEP 0) ≠ stMeasure) (hB : s.rd (CAL.LSR_STAT.STEP 1) ≠ stMeasure) :
    ∃ a b, execRecableEnd s = .next ((s.advance (s.rcAt rcLength)).recableDone a b s.fab.recable.mislocks
      (s.claimedPairs.filter fun x => !s.on (OPE.P_PC.VALID x.1 x.2)).length) := by
  have hresume (a b c d : Nat) : (List.range 2).foldl State.measResume ((s.advance (s.rcAt rcLength)).recableDone a b c d) =
      (s.advance (s.rcAt rcLength)).recableDone a b c d := by
    have hstep {i : Nat} (hi : i < 2) := State.recableDone_step (s.advance (s.rcAt rcLength)) a b c d hi
    show State.measResume (State.measResume _ 0) 1 = _
    rw [State.measResume_of_ne (i := 0) (by rw [hstep (by decide)]; exact hA),
      State.measResume_of_ne (by rw [hstep (by decide)]; exact hB)]
  refine ⟨_, _, (if_neg (by simp [hup, hst])).trans (congrArg Host.Outcome.next (hresume _ _ _ _))⟩

/-- Settles O30: each command is one named change of state, and the laws of that state give the clause. -/
theorem recabling : Obligations.Recabling := by
  unfold Obligations.Recabling
  refine ⟨fun s hup hst => execRecableStart_of_committed hup hst, fun s hup hst hpos hle => ?phase,
    fun s n hup hst hfrom hto hn hnow => execLearningSlot_of_running hup hst hfrom hto hn hnow,
    fun s n k p r hr hoff hopt => ?burst, fun s hup hst hA hB => ?done⟩
  case phase =>
    have hlt : s.rd CAL.RCB_STAT.PHASE + 1 < 2 ^ CAL.RCB_STAT.PHASE.width := by simp only [CAL.RCB_STAT.PHASE] at *; omega
    obtain ⟨hrd, -, hframe⟩ := State.wr_onlyRegs (s := s.advance (s.rcAt (phaseSlot (s.rd CAL.RCB_STAT.PHASE)))) hlt
    exact ⟨_, execRecablePhase_of_running hup hst hpos hle, hrd, rfl, hframe⟩
  case burst =>
    obtain ⟨h, hsend⟩ := State.learnSend_of_locked (n := n) hr hoff hopt
    obtain ⟨-, -, hsent⟩ := s.anyQueue.2.light_shows p { slot := n, ring := r, payload := [], head := some h }
    exact ⟨_, _, hsend, hsent, rfl, rfl, rfl⟩
  case done =>
    obtain ⟨a, b, hexec⟩ := execRecableEnd_of_running hup hst hA hB
    exact ⟨_, hexec, State.recableDone_shows _ _ _ _ _⟩

end Sys2Proof.Machine
end

section
/-! SUPPORT. The laser sources (07_recabling.md): a source's record and its events, its levels, the sequence that takes its
spare in, its track after a flip, software's commands, and the loss of a neighbour; and the statement about them. -/
namespace Sys2Proof.Machine
open Sys2Proof

/-! ### A source's record -/

@[simp] theorem State.setLaser_laser_self (s : State) (i : Nat) (x : Laser) : (s.setLaser i x).laser i = x :=
  Tbl.lookD_put_self _ _ _ _

/-- A source's record is the fabric's. -/
theorem State.laser_congr {s t : State} (h : t.fab.lasers = s.fab.lasers) (i : Nat) : t.laser i = s.laser i :=
  congrArg (fun l : Tbl Laser => Tbl.lookD l {} i) h

@[simp] theorem State.wr_laser (s : State) (f : Field) (v i : Nat) : (s.wr f v).laser i = s.laser i := rfl

@[simp] theorem State.setLaser_on (s : State) (i : Nat) (x : Laser) (f : Field) : (s.setLaser i x).on f = s.on f := rfl

theorem State.setLaser_regsBut (s : State) (i : Nat) (x : Laser) (l : List Field) : s.regsBut (s.setLaser i x) l :=
  fun _ _ => rfl

/-! ### A source's events -/

/-- A field that begins above another of its register's word is another field. -/
theorem Field.key_ne_of_lt {f g : Field} (h : f.lo < g.lo) (hg : g.lo < 128) : g.key ≠ f.key :=
  Field.key_ne_of_lo (by rw [beq_eq_false_iff_ne]; omega)

/-- An event of a source is SRC, its flag and its record, told or not. -/
theorem State.laserEvent_eq (s : State) (i : Nat) (f : Field) (told : Bool) : s.laserEvent i f told =
    ((s.wr CAL.LSR_EVENT.SRC i).setFlag f).logEvent (blockOf f.off * 1024 + f.lo) 0 (blockOf f.off * 2 ^ 26 + f.off)
      (leBytes 4 i) told := by
  cases told <;> rfl

@[simp] theorem State.laserEvent_fab (s : State) (i : Nat) (f : Field) (told : Bool) :
    (s.laserEvent i f told).fab = s.fab := by
  rw [State.laserEvent_eq, State.logEvent_fab, State.setFlag_fab, State.wr_fab]

@[simp] theorem State.laserEvent_now (s : State) (i : Nat) (f : Field) (told : Bool) :
    (s.laserEvent i f told).now = s.now := by
  rw [State.laserEvent_eq, State.logEvent_now, State.setFlag_now, State.wr_now]

@[simp] theorem State.laserEvent_laser (s : State) (i : Nat) (f : Field) (told : Bool) (j : Nat) :
    (s.laserEvent i f told).laser j = s.laser j := State.laser_congr (by rw [State.laserEvent_fab]) j

/-- An event of a source sets its flag. -/
theorem State.laserEvent_flag (s : State) (i : Nat) {f : Field} (told : Bool) (hw : f.width = 1) (hl : f.lo < 24)
    (ho : f.off < 0xB00000) : (s.laserEvent i f told).on f = true := by
  rw [State.on, State.laserEvent_eq, State.logEvent_rd _ _ _ _ _ _ (notMem_recorderFields (by omega) ho),
    State.rd_setFlag_self _ hw (Nat.ne_of_lt hl)]
  rfl

/-- An event of a source leaves what begins above SEQ in a register: a source's level, step and spare do. -/
theorem State.laserEvent_rd (s : State) (i : Nat) {f g : Field} (told : Bool) (hf : f.lo < 24) (hg : 24 < g.lo)
    (hl : g.lo < 128) (ho : g.off < 0xB00000) : (s.laserEvent i f told).rd g = s.rd g := by
  rw [State.laserEvent_eq, State.logEvent_rd _ _ _ _ _ _ (notMem_recorderFields hl ho),
    State.rd_setFlag_ne _ (Field.key_ne_of_lt (Nat.lt_trans hf hg) hl) (Field.key_ne_of_lt hg hl),
    State.rd_wr_ne _ _ (Field.key_ne_of_lt (Nat.lt_trans (by decide : 7 < 24) hg) hl)]

theorem State.laserEvent_level (s : State) {i : Nat} {f : Field} (told : Bool) (hf : f.lo < 24) (hi : i < 2) :
    (s.laserEvent i f told).rd (CAL.LSR_STAT.LEVEL i) = s.rd (CAL.LSR_STAT.LEVEL i) :=
  State.laserEvent_rd s i told hf (by decide : 24 < 30) (by decide : 30 < 128) (lsrStat_off_lt hi)

theorem State.laserEvent_step (s : State) {i : Nat} {f : Field} (told : Bool) (hf : f.lo < 24) (hi : i < 2) :
    (s.laserEvent i f told).rd (CAL.LSR_STAT.STEP i) = s.rd (CAL.LSR_STAT.STEP i) :=
  State.laserEvent_rd s i told hf (by decide : 24 < 25) (by decide : 25 < 128) (lsrStat_off_lt hi)

/-- An untold event of a source names it in SRC, and is otherwise an event of its flag. -/
theorem State.laserEvent_onlyEvent (s : State) (i : Nat) (f : Field) :
    s.onlyEvent (s.laserEvent i f false) [CAL.LSR_EVENT.SRC, f, seqOf f] := by
  obtain ⟨hframe, hregs⟩ := State.raise_onlyEvent (s.wr CAL.LSR_EVENT.SRC i) (f := f)
    (l := [CAL.LSR_EVENT.SRC, f, seqOf f]) (leBytes 4 i) (by decide : 0 ≠ 3) (by simp) (by simp)
  have hraise : s.laserEvent i f false = (s.wr CAL.LSR_EVENT.SRC i).raise f 0 (leBytes 4 i) := rfl
  rw [hraise]
  exact ⟨hframe, State.regsBut_trans (State.regsBut_wr s i (by simp)) hregs⟩

/-! ### Levels (R220, R221, R226) -/

theorem Laser.calls_of_lost {x : Laser} (h : 1 ≤ x.lostRun) : x.calls = 3 := if_pos h

theorem Laser.calls_of_spare {x : Laser} (hl : x.lostRun = 0) (h : 4 ≤ x.spareRun) : x.calls = 2 := by
  simp [Laser.calls, hl, h]

theorem Laser.calls_of_warn {x : Laser} (hl : x.lostRun = 0) (hs : x.spareRun < 4) (h : 16 ≤ x.warnRun) :
    x.calls = 1 := by
  simp [Laser.calls, hl, Nat.not_le.2 hs, h]

/-- A level above the present one is entered when the tests call for it. -/
theorem execLaserLevelUp_of_calls {s : State} {i : Fin 2} {k : Nat} (hup : s.fabUp = true) (hk : (s.laser i).calls = k)
    (hlt : s.rd (CAL.LSR_STAT.LEVEL i) < k) : execLaserLevelUp i s = .next (s.enterLevel i k) := by
  subst hk
  exact if_neg (by simp [hup, hlt])

/-- A level shown, and its calm frames counted from it. -/
def State.levelShown (s : State) (i level : Nat) : State :=
  (s.wr (CAL.LSR_STAT.LEVEL i) level).setLaser i { s.laser i with calmRun := 0 }

theorem State.levelShown_level (s : State) (i : Nat) {level : Nat} (h : level < 4) :
    (s.levelShown i level).rd (CAL.LSR_STAT.LEVEL i) = level := by
  rw [State.levelShown, State.setLaser_rd, State.rd_wr_self]
  exact Nat.mod_eq_of_lt h

theorem State.levelShown_regsBut (s : State) (i level : Nat) :
    s.regsBut (s.levelShown i level) [CAL.LSR_STAT.LEVEL i] :=
  State.regsBut_trans (State.regsBut_wr s level (List.mem_singleton.2 rfl)) (State.setLaser_regsBut _ _ _ _)

theorem State.levelShown_spareAvail (s : State) (i level : Nat) : (s.levelShown i level).spareAvail i = s.spareAvail i :=
  State.on_wr_ne s level (Field.key_ne_of_lo rfl)

theorem State.levelShown_step (s : State) (i level : Nat) :
    (s.levelShown i level).rd (CAL.LSR_STAT.STEP i) = s.rd (CAL.LSR_STAT.STEP i) :=
  State.rd_wr_ne s level (Field.key_ne_of_lo rfl)

theorem State.enterLevel_warn (s : State) (i : Nat) :
    s.enterLevel i 1 = (s.levelShown i 1).laserEvent i CAL.LSR_EVENT.WARN true := by
  simp [State.enterLevel, State.levelShown]

theorem State.enterLevel_spareIn {s : State} {i : Nat} (h : s.spareAvail i = true) :
    s.enterLevel i 2 = ((s.levelShown i 2).laserEvent i CAL.LSR_EVENT.SPARE_IN false).spareIn i :=
  if_pos ((State.levelShown_spareAvail s i 2).trans h)

theorem State.enterLevel_lost (s : State) (i : Nat) : s.enterLevel i 3 = (s.levelShown i 3).enterLost i := by
  simp [State.enterLevel, State.levelShown]

theorem State.enterLevel_warn_shows (s : State) {i : Nat} (hi : i < 2) :
    (s.enterLevel i 1).rd (CAL.LSR_STAT.LEVEL i) = 1 ∧ (s.enterLevel i 1).on CAL.LSR_EVENT.WARN = true ∧
      (s.enterLevel i 1).fab.lasers = (s.setLaser i { s.laser i with calmRun := 0 }).fab.lasers := by
  rw [State.enterLevel_warn]
  refine ⟨?_, State.laserEvent_flag _ _ _ rfl (by decide) (by decide), by rw [State.laserEvent_fab]; rfl⟩
  rw [State.laserEvent_level _ _ (by decide) hi,
    State.levelShown_level _ _ (by decide)]

/-- A source's record as PREWARM is written (R222). -/
def Laser.prewarmed (x : Laser) (t : Nat) : Laser :=
  { x with prewarm := true, pilot := false, t0 := t, retryAt := none, ports := [], begun := none, offs := [] }

/-- Outside a sequence under way, the spare-in sequence starts with PREWARM. -/
theorem State.spareIn_of_idle {s : State} {i : Nat}
    (h : s.rd (CAL.LSR_STAT.STEP i) = stNone ∨ s.rd (CAL.LSR_STAT.STEP i) = stFailed) :
    s.spareIn i = (s.setLaser i ((s.laser i).prewarmed s.now)).wr (CAL.LSR_STAT.STEP i) stPrewarm :=
  if_neg (by rcases h with h | h <;> rw [h] <;> decide)

theorem State.enterLevel_spareIn_shows {s : State} {i : Nat} (hi : i < 2) (h : s.spareAvail i = true)
    (hstep : s.rd (CAL.LSR_STAT.STEP i) = stNone) :
    (s.enterLevel i 2).rd (CAL.LSR_STAT.LEVEL i) = 2 ∧ (s.enterLevel i 2).rd (CAL.LSR_STAT.STEP i) = stPrewarm ∧
      ((s.enterLevel i 2).laser i).prewarm = true ∧ ((s.enterLevel i 2).laser i).t0 = s.now ∧
      (s.enterLevel i 2).on CAL.LSR_EVENT.SPARE_IN = true := by
  have hidle : ((s.levelShown i 2).laserEvent i CAL.LSR_EVENT.SPARE_IN false).rd (CAL.LSR_STAT.STEP i) = stNone := by
    rw [State.laserEvent_step _ _ (by decide) hi,
      State.levelShown_step, hstep]
  rw [State.enterLevel_spareIn h, State.spareIn_of_idle (.inl hidle)]
  refine ⟨?up, State.rd_wr_self _ _ _, ?prewarm, ?time, ?flag⟩
  case up =>
    rw [State.rd_wr_ne _ _ (Field.key_ne_of_lo rfl), State.setLaser_rd,
      State.laserEvent_level _ _ (by decide) hi,
      State.levelShown_level _ _ (by decide)]
  case prewarm => rw [State.wr_laser, State.setLaser_laser_self]; rfl
  case time =>
    rw [State.wr_laser, State.setLaser_laser_self, State.laserEvent_now]
    rfl
  case flag =>
    rw [State.on_wr_ne _ _ (Field.key_ne_of_lo rfl), State.setLaser_on]
    exact State.laserEvent_flag _ _ _ rfl (by decide) (by decide)

/-- Every index of a source's ports, 64 of them. -/
def sourceIndices (i : Nat) : List Nat := (sourcePorts i).flatMap fun p => (List.range 8).map (8 * p + ·)

theorem sourceIndices_length (i : Nat) : (sourceIndices i).length = 64 := rfl

/-- LOST's entry is its event, and every index of the source's ports is refused. -/
theorem State.enterLost_keeps (s : State) (i : Nat) :
    (s.enterLost i).regs = (s.laserEvent i CAL.LSR_EVENT.LOST false).regs ∧
      ((s.enterLost i).laser i).lost = sourceIndices i := by
  rw [State.enterLost, ← sourceIndices]
  dsimp only
  split <;> simp only [State.setLaser_regs, State.setLaser_laser_self, and_self]

theorem State.enterLevel_lost_shows (s : State) {i : Nat} (hi : i < 2) :
    (s.enterLevel i 3).rd (CAL.LSR_STAT.LEVEL i) = 3 ∧ (s.enterLevel i 3).on CAL.LSR_EVENT.LOST = true ∧
      ((s.enterLevel i 3).laser i).lost.length = 64 := by
  obtain ⟨hregs, hlost⟩ := State.enterLost_keeps (s.levelShown i 3) i
  have hrd (g : Field) : ((s.levelShown i 3).enterLost i).rd g =
      ((s.levelShown i 3).laserEvent i CAL.LSR_EVENT.LOST false).rd g := congrArg (Tbl.lookD · g.reset g.key) hregs
  rw [State.enterLevel_lost]
  refine ⟨?level, ?flag, by rw [hlost, sourceIndices_length]⟩
  case level =>
    rw [hrd, State.laserEvent_level _ _ (by decide) hi,
      State.levelShown_level _ _ (by decide)]
  case flag =>
    rw [State.on, hrd]
    exact State.laserEvent_flag _ _ _ rfl (by decide) (by decide)

/-- After 1,024 calm frames the level falls by one. -/
theorem execLaserLevelDown_of_calm {s : State} {i : Fin 2} (hup : s.fabUp = true) (hpos : 0 < s.rd (CAL.LSR_STAT.LEVEL i))
    (hcalm : 1024 ≤ (s.laser i).calmRun) :
    execLaserLevelDown i s = .next (s.levelShown i (s.rd (CAL.LSR_STAT.LEVEL i) - 1)) :=
  if_neg (by simp [hup]; omega)

/-! ### The spare warmed and measured (R222, R223, R227, R234) -/

/-- A spare that becomes READY while it is warmed is measured, port by port. -/
theorem execSpareReady_of_warm {s : State} {i : Fin 2} (hup : s.mainUp = true)
    (hstep : s.rd (CAL.LSR_STAT.STEP i) = stPrewarm) :
    execSpareReady i true false s = .next (State.measNext
      (((s.setLaser i { s.laser i with ready := true }).setLaser i
        { s.laser i with ready := true, pilot := true, offs := [] }).wr (CAL.LSR_STAT.STEP i) stMeasure) i
      (sourcePorts i)) := by
  simp [execSpareReady, hup, hstep]

/-- A spare with a fault is not ready, and remains no longer. -/
theorem execSpareReady_of_fault {s : State} {i : Fin 2} (ready : Bool) (hup : s.mainUp = true) :
    execSpareReady i ready true s =
      .next ((s.wr (CAL.LSR_STAT.SPARE_AVAIL i) 0).setLaser i { s.laser i with ready := false }) := by
  simp [execSpareReady, hup]

theorem execSpareWarmTimeout_of_warm {s : State} {i : Fin 2} (w : BitVec 8) (hup : s.mainUp = true)
    (hstep : s.rd (CAL.LSR_STAT.STEP i) = stPrewarm) : execSpareWarmTimeout i w s =
      .next ((s.advance ((s.laser i).t0 + Config.ns (w.toNat * 100000000))).measFail i) :=
  if_neg (by simp [hup, hstep])

/-- A sequence that has failed says so, and is tried again ten seconds later. -/
theorem State.measFail_shows (s : State) {i : Nat} (hi : i < 2) :
    (s.measFail i).rd (CAL.LSR_STAT.STEP i) = stFailed ∧ (s.measFail i).on CAL.LSR_EVENT.MEAS_FAIL = true ∧
      ((s.measFail i).laser i).retryAt = some (s.now + tenSeconds) := by
  refine ⟨?step, State.laserEvent_flag _ _ _ rfl (by decide) (by decide), ?retry⟩
  case step =>
    exact (State.laserEvent_step _ _ (by decide) hi).trans
      (State.rd_wr_self _ _ _)
  case retry => rw [State.measFail, State.laserEvent_laser, State.wr_laser, State.setLaser_laser_self]

theorem execSpareInRetry_of_failed {s : State} {i : Fin 2} {t : Nat} (hup : s.mainUp = true)
    (hretry : (s.laser i).retryAt = some t) (hstep : s.rd (CAL.LSR_STAT.STEP i) = stFailed)
    (hlevel : s.rd (CAL.LSR_STAT.LEVEL i) = 2) (havail : s.spareAvail i = true) :
    execSpareInRetry i s = .next ((s.advance t).spareIn i) := by
  rw [execSpareInRetry, hretry]
  exact if_neg (by simp [hup, hstep, hlevel, havail])

/-- A port's offset is kept, its B released, and the next port begun. -/
theorem execSpareMeasurePort_of_begun {s : State} {i : Fin 2} {p t : Nat} {r : List Nat} (o : Int) (hup : s.fabUp = true)
    (hports : (s.laser i).ports = p :: r) (hbegun : (s.laser i).begun = some t)
    (hstep : s.rd (CAL.LSR_STAT.STEP i) = stMeasure) (hrc : s.rcState ≠ rcRunning) :
    let v := (s.advance (t + Config.ns 8000000)).setBFor p 15
    execSpareMeasurePort i o s = .next
      ((v.setLaser i { v.laser i with offs := (s.laser i).offs ++ [o], begun := none }).measNext i r) := by
  rw [execSpareMeasurePort]
  dsimp only
  rw [hports, hbegun]
  exact if_neg (by simp [hup, hstep, hrc])

/-! ### The flip and its track (R224, R226) -/

/-- A flip outside LOST takes place at the first slot of a maintenance window after the measurement. -/
theorem execLaserFlip_of_window {s : State} {i : Fin 2} {n : Nat} (hup : s.fabUp = true) (hnow : s.now ≤ slotStart n)
    (havail : s.spareAvail i = true) (hlevel : s.rd (CAL.LSR_STAT.LEVEL i) ≠ 3)
    (hstep : s.rd (CAL.LSR_STAT.STEP i) = stWait) (hafter : (s.laser i).after ≤ slotStart n)
    (hwin : s.windowStart n = true) (hsafe : s.unsafeBlock 9 = false) :
    execLaserFlip i n s = .next (((s.advance (slotStart n)).flip i).setLaser i
      { ((s.advance (slotStart n)).flip i).laser i with stepAt := some (slotStart n) }) := by
  have hgo : ¬ (¬ s.fabUp = true ∨ slotStart n < s.now ∨ ¬ s.spareAvail i = true) := by
    simp [hup, havail, Nat.not_lt.2 hnow]
  rw [execLaserFlip]
  dsimp only
  rw [if_neg hgo, if_neg hlevel, if_pos ⟨hstep, hafter, hwin, by simp [hsafe]⟩]

/-- The registers of a source whose spare has been selected. -/
def State.flipShown (s : State) (i : Nat) : State :=
  (((s.wr (CAL.LSR_STAT.ON_SPARE i) 1).wr (CAL.LSR_STAT.SPARE_AVAIL i) 0).wr (CAL.LSR_STAT.STEP i) stFlipped).wr
    (CAL.LSR_STAT.LEVEL i) 0

theorem State.flip_rd (s : State) (i : Nat) {g : Field} (hg : 24 < g.lo) (hl : g.lo < 128) (ho : g.off < 0xB00000) :
    (s.flip i).rd g = (s.flipShown i).rd g := by
  unfold State.flip
  dsimp only
  rw [State.laserEvent_rd _ _ _ (by decide) hg hl ho]
  rfl

theorem State.flip_shows (s : State) {i : Nat} (hi : i < 2) :
    (s.flip i).on (CAL.LSR_STAT.ON_SPARE i) = true ∧ (s.flip i).spareAvail i = false ∧
      (s.flip i).rd (CAL.LSR_STAT.STEP i) = stFlipped ∧ (s.flip i).rd (CAL.LSR_STAT.LEVEL i) = 0 ∧
      ((s.flip i).laser i).refRun = 16 ∧ (s.flip i).on CAL.LSR_EVENT.FLIP = true := by
  have hoff : (CAL.LSR_STAT.STEP i).off < 0xB00000 := lsrStat_off_lt hi
  refine ⟨?spare, ?avail, ?step, ?level, ?refs, State.laserEvent_flag _ _ _ rfl (by decide) (by decide)⟩
  case spare =>
    rw [State.on, State.flip_rd s i (g := CAL.LSR_STAT.ON_SPARE i) (by decide : 24 < 29) (by decide : 29 < 128) hoff]
    simp (disch := exact Field.key_ne_of_lo rfl) only [State.flipShown, State.rd_wr_ne, State.rd_wr_self]
    rfl
  case avail =>
    rw [State.spareAvail, State.on,
      State.flip_rd s i (g := CAL.LSR_STAT.SPARE_AVAIL i) (by decide : 24 < 28) (by decide : 28 < 128) hoff]
    simp (disch := exact Field.key_ne_of_lo rfl) only [State.flipShown, State.rd_wr_ne, State.rd_wr_self]
    rfl
  case step =>
    rw [State.flip_rd s i (g := CAL.LSR_STAT.STEP i) (by decide : 24 < 25) (by decide : 25 < 128) hoff]
    simp (disch := exact Field.key_ne_of_lo rfl) only [State.flipShown, State.rd_wr_ne, State.rd_wr_self]
    rfl
  case level =>
    rw [State.flip_rd s i (g := CAL.LSR_STAT.LEVEL i) (by decide : 24 < 30) (by decide : 30 < 128) hoff,
      State.flipShown, State.rd_wr_self]
    rfl
  case refs =>
    unfold State.flip
    dsimp only
    rw [State.laserEvent_laser]
    exact congrArg Laser.refRun (State.setLaser_laser_self _ _ _)

/-- A number shown in a signed field leaves the fabric. -/
theorem State.showInt_fab (s : State) (f : Field) (v : Int) : (s.showInt f v).fab = s.fab := by
  unfold State.showInt
  split <;> rfl

/-- A source's track. -/
def State.track (s : State) (i : Nat) : Int := if i = 0 then s.fab.jig.fA else s.fab.jig.fB

theorem State.setTrack_keeps (s : State) (i : Nat) (f : Int) :
    (s.setTrack i f).track i = f ∧ (s.setTrack i f).fab.lasers = s.fab.lasers := by
  unfold State.track State.setTrack
  dsimp only
  rw [State.showInt_fab]
  by_cases h : i = 0
  · rw [if_pos h, if_pos h]
    exact ⟨rfl, rfl⟩
  · rw [if_neg h, if_neg h]
    exact ⟨rfl, rfl⟩

/-- The track's step is due at the first cycle boundary at or after W + 5 us. -/
theorem execFlipTrackStep_of_due {s : State} {i : Fin 2} {w : Nat} (hup : s.fabUp = true)
    (hw : (s.laser i).stepAt = some w) : execFlipTrackStep i s = .next (((s.advance
        ((w + Config.ns 5000 + Config.cycleTime - 1) / Config.cycleTime * Config.cycleTime)).setLaser i
        { s.laser i with stepAt := none }).setTrack i (s.track i + (s.laser i).mean)) := by
  have hi : (i = 0) = (i.val = 0) := propext Fin.ext_iff
  rw [execFlipTrackStep]
  dsimp only
  rw [hw]
  simp only [hup, hi]
  exact if_neg (by decide)

/-- A ring of a LOST source told to lock again, where it has a colour and has not failed. -/
def State.relockAsked (s : State) (l : Nat) : State :=
  if (s.ringTarget l).isSome ∧ s.ringSt l ≠ rgFault then s.setLoop l { s.loop l with cmd := some .relock } else s

theorem State.relockAsked_keeps (s : State) (l : Nat) :
    (s.relockAsked l).fab.lasers = s.fab.lasers ∧ ∀ i, (s.relockAsked l).track i = s.track i := by
  unfold State.relockAsked
  split <;> exact ⟨rfl, fun _ => rfl⟩

theorem State.foldl_relockAsked_keeps (ls : List Nat) (s : State) :
    (ls.foldl State.relockAsked s).fab.lasers = s.fab.lasers ∧ ∀ i, (ls.foldl State.relockAsked s).track i = s.track i :=
  List.foldlRecOn (motive := fun t : State => t.fab.lasers = s.fab.lasers ∧ ∀ i, t.track i = s.track i) _ _
    ⟨rfl, fun _ => rfl⟩ fun t ⟨hlasers, htrack⟩ l _ =>
      have ⟨klasers, ktrack⟩ := t.relockAsked_keeps l
      ⟨klasers.trans hlasers, fun i => (ktrack i).trans (htrack i)⟩

/-- A flipped LOST source's restart noted, and its track begun again. -/
def State.trackRestarted (s : State) (i : Nat) (f : Int) : State :=
  (s.setLaser i { s.laser i with restart := none, jumped := true }).setTrack i f

/-- The rings that lock again leave the restart and the track as they are. -/
theorem State.trackRestarted_shows (s : State) (i : Nat) (f : Int) (ls : List Nat) :
    let t := ls.foldl State.relockAsked (s.trackRestarted i f)
    (t.laser i).restart = none ∧ (t.laser i).jumped = true ∧ t.track i = f := by
  obtain ⟨hlasers, htrack⟩ := State.foldl_relockAsked_keeps ls (s.trackRestarted i f)
  obtain ⟨kset, klasers⟩ := State.setTrack_keeps (s.setLaser i { s.laser i with restart := none, jumped := true }) i f
  have hlaser := (State.laser_congr (hlasers.trans klasers) i).trans (State.setLaser_laser_self _ _ _)
  dsimp only
  rw [hlaser]
  exact ⟨rfl, rfl, (htrack i).trans kset⟩

/-- The track of a flipped LOST source begins again at its sample, and its rings are told to lock again. -/
theorem execLostTrackRestart_of_due {s : State} {i : Fin 2} {w : Nat} (v : BitVec 16) (hup : s.fabUp = true)
    (hw : (s.laser i).restart = some w) : execLostTrackRestart i v s =
      .next ((sourceLoops i).foldl State.relockAsked ((s.advance w).trackRestarted i (trackIn v.toNat))) := by
  rw [execLostTrackRestart]
  dsimp only
  rw [hw]
  exact if_neg (by simp [hup])

/-! ### Software's commands (R222, R225) -/

theorem State.lsrForce_of_none {s : State} {i : Nat} (h : s.spareAvail i = false) :
    s.lsrForce i = s.laserEvent i CAL.LSR_EVENT.CFG_ERR false := if_neg (by simp [h])

/-- A refused FORCE shows its source with the flag. -/
theorem State.laserEvent_src (s : State) {i : Nat} (hi : i < 2) :
    (s.laserEvent i CAL.LSR_EVENT.CFG_ERR false).rd CAL.LSR_EVENT.SRC = i :=
  (State.raise_rd_ne _ _ _ (by decide) (by decide) (by decide)).trans
    ((State.rd_wr_self _ _ _).trans (Nat.mod_eq_of_lt hi))

theorem State.lsrAbort_of_wait {s : State} {i : Nat} (h : s.rd (CAL.LSR_STAT.STEP i) = stWait) :
    s.lsrAbort i = (s.measStop i).wr (CAL.LSR_STAT.STEP i) stNone := if_neg (by rw [h]; decide)

/-! ### A neighbour lost (R230) -/

/-- A copper neighbour whose link has left training is reported once. -/
theorem State.copperLost_told {s : State} {k : Nat} {b : IdBlock} (hpeer : (s.cuLink k).peer = some b)
    (htold : (s.cuLink k).told = false) (hup : s.cuUp k = false) : ((s.copperLost k).cuLink k).told = true := by
  rw [State.copperLost, hpeer]
  dsimp only
  rw [if_neg (by simp [htold, hup]), State.cuLink, State.logOpen, State.logEvent_fab]
  exact congrArg CuLink.told (State.setCu_cuLink_self s k _)

/-- The links from 16 on are the copper links. -/
theorem execNeighbourLost_of_copper {s : State} {k : Fin 6} {l : Fin 22} (j : Fin 32) (hup : s.mainUp = true)
    (hl : l.val = 16 + k.val) : execNeighbourLost l j s = .next (s.copperLost k) := by
  have hk : l.val - 16 = k.val := by omega
  have ho : ¬ optical l.val = true := by simp [optical, hl]
  rw [execNeighbourLost, if_neg (by simp [hup]), if_neg ho, hk]

/-- Settles O32: each command's lemma names the state it leaves, and the laws of that state give the clause. -/
theorem lasers : Obligations.Lasers := by
  unfold Obligations.Lasers
  refine ⟨fun s i hup => ⟨fun h0 hl hs hw => ?warn, fun hlt hl hs ha hst => ?spareIn, fun hlt hl => ?lost,
      fun hpos hle hcalm => ?down⟩,
    fun s i hup => ⟨fun hst => execSpareReady_of_warm hup hst, fun r => ?fault, fun w hst => ?timeout,
      fun t hr hst hlev ha => ?retry⟩,
    fun s i p t r o hup hp hb hst hrc => execSpareMeasurePort_of_begun o hup hp hb hst hrc,
    fun s i n hup hnow ha hlev hst haft hwin hsafe => ?flip,
    fun s i w hup hw => execFlipTrackStep_of_due hup hw,
    fun s i w v hup hw => ?restart,
    fun s i => ⟨fun h => ?refused, fun h => ?force, fun h => ?abort⟩,
    fun s k b j l hup hl hpeer htold hcu => ?neighbour⟩
  case warn =>
    exact ⟨_, execLaserLevelUp_of_calls hup (Laser.calls_of_warn hl hs hw) (by rw [h0]; decide),
      State.enterLevel_warn_shows s i.isLt⟩
  case spareIn =>
    exact ⟨_, execLaserLevelUp_of_calls hup (Laser.calls_of_spare hl hs) hlt,
      State.enterLevel_spareIn_shows i.isLt ha hst⟩
  case lost =>
    exact ⟨_, execLaserLevelUp_of_calls hup (Laser.calls_of_lost hl) hlt, State.enterLevel_lost_shows s i.isLt⟩
  case down =>
    refine ⟨_, execLaserLevelDown_of_calm hup hpos hcalm, State.levelShown_level s i (by omega), ?_,
      State.levelShown_regsBut s i _⟩
    exact congrArg Laser.calmRun (State.setLaser_laser_self _ _ _)
  case fault =>
    refine ⟨_, execSpareReady_of_fault r hup, ?_, congrArg Laser.ready (State.setLaser_laser_self _ _ _),
      State.regsBut_trans (State.regsBut_wr s 0 (List.mem_singleton.2 rfl)) (State.setLaser_regsBut _ _ _ _)⟩
    rw [State.spareAvail, State.setLaser_on, State.on, State.rd_wr_self]
    rfl
  case timeout => exact ⟨_, execSpareWarmTimeout_of_warm w hup hst, State.measFail_shows _ i.isLt⟩
  case retry =>
    have hidle : (s.advance t).rd (CAL.LSR_STAT.STEP i) = stFailed := hst
    refine ⟨_, execSpareInRetry_of_failed hup hr hst hlev ha, ?_⟩
    rw [State.spareIn_of_idle (.inr hidle)]
    exact ⟨State.rd_wr_self _ _ _, congrArg Laser.prewarm (State.setLaser_laser_self _ _ _)⟩
  case flip =>
    obtain ⟨hon, havail, hstep, hlevel, href, hflag⟩ := State.flip_shows (s.advance (slotStart n)) i.isLt
    rw [State.spareAvail] at havail
    refine ⟨_, execLaserFlip_of_window hup hnow ha hlev hst haft hwin hsafe, ?_⟩
    simp only [State.spareAvail, State.setLaser_on, State.setLaser_rd, State.setLaser_laser_self]
    exact ⟨hon, havail, hstep, hlevel, trivial, href, hflag⟩
  case restart =>
    exact ⟨_, execLostTrackRestart_of_due v hup hw, State.trackRestarted_shows _ _ _ _⟩
  case refused =>
    refine ⟨_, congrArg Host.Outcome.next (State.lsrForce_of_none h), ?_, State.laserEvent_src s i.isLt,
      State.laserEvent_onlyEvent s i _⟩
    exact State.laserEvent_flag s i false rfl (by decide) (by decide)
  case force => exact congrArg Host.Outcome.next (if_pos h)
  case abort => exact congrArg Host.Outcome.next (State.lsrAbort_of_wait h)
  case neighbour => exact ⟨_, execNeighbourLost_of_copper j hup hl, State.copperLost_told hpeer htold hcu⟩

end Sys2Proof.Machine
end

section
/-! SUPPORT. The copper links' spare lanes (09_copper_bench.md, 07_recabling.md): a handover asked for, copied, switched and
completed, a lane that fails or wears, and a package that goes dark; and the statement about them. -/
namespace Sys2Proof.Machine
open Sys2Proof

/-! ### A link's record and registers -/

@[simp] theorem State.wr_cuLink (s : State) (f : Field) (v k : Nat) : (s.wr f v).cuLink k = s.cuLink k := rfl

theorem State.setCu_regsBut (s : State) (k : Nat) (x : CuLink) (l : List Field) : s.regsBut (s.setCu k x) l :=
  fun _ _ => rfl

/-- A link's record is the fabric's. -/
theorem State.cuLink_congr {s t : State} (h : t.fab = s.fab) (k : Nat) : t.cuLink k = s.cuLink k :=
  congrArg (fun f : Fabric => Tbl.lookD f.cu {} k) h

@[simp] theorem State.raise_cuLink (s : State) (f : Field) (v : Nat) (d : List Byte) (k : Nat) :
    (s.raise f v d).cuLink k = s.cuLink k := State.cuLink_congr (State.raise_fab _ _ _ _) k

/-- A copper link's registers lie below the counters'. -/
theorem cuStat_off_lt {k : Nat} (hk : k < 6) : (CU.STAT.STATE k).off < 0xB00000 := by
  simp only [CU.STAT.STATE]; omega

theorem cuEvent_off_lt {k : Nat} (hk : k < 6) : (CU.EVENT.CFG_ERR k).off < 0xB00000 := by
  simp only [CU.EVENT.CFG_ERR]; omega

theorem cuCounts_off_lt {k : Nat} (hk : k < 6) : (CU.COUNTS.HANDOVERS k).off < 0xB00000 := by
  simp only [CU.COUNTS.HANDOVERS]; omega

theorem cuLaneStat_off_lt {k : Nat} (i : Nat) (hk : k < 6) : (CU.LANE_STAT.LOGICAL k i).off < 0xB00000 := by
  simp only [CU.LANE_STAT.LOGICAL]; omega

/-! ### A handover begins (R279) -/

theorem State.hovStart_hov (s : State) (k : Nat) (h : Handover) : ((s.hovStart k h).cuLink k).hov = some h :=
  congrArg CuLink.hov (State.setCu_cuLink_self s k _)

theorem State.hovStart_shown (s : State) (k : Nat) {h : Handover} (hl : h.lane < 16) :
    (s.hovStart k h).rd (CU.STAT.HOV k) = h.lane :=
  (State.rd_wr_self _ _ _).trans (Nat.mod_eq_of_lt hl)

theorem State.hovStart_rd (s : State) (k : Nat) (h : Handover) {g : Field} (hg : (g.lo % 128 == 16 % 128) = false) :
    (s.hovStart k h).rd g = s.rd g := State.rd_wr_ne _ _ (Field.key_ne_of_lo hg)

theorem State.hovStart_regsBut (s : State) (k : Nat) (h : Handover) {l : List Field} (hl : CU.STAT.HOV k ∈ l) :
    s.regsBut (s.hovStart k h) l :=
  State.regsBut_trans (State.setCu_regsBut s k _ l) (State.regsBut_wr _ _ hl)

/-- The command's fields are no part of the link's state or of its spare lane's. -/
theorem State.cuFields_keeps (s : State) (k lane : Nat) (perm : Bool) :
    (s.cuFields k lane perm).cuUp k = s.cuUp k ∧ (s.cuFields k lane perm).spareIdle k = s.spareIdle k := by
  have hrd {g : Field} (hl : (g.lo % 128 == 4 % 128) = false) (hp : (g.lo % 128 == 8 % 128) = false) :
      (s.cuFields k lane perm).rd g = s.rd g :=
    (State.rd_wr_ne _ _ (Field.key_ne_of_lo hp)).trans (State.rd_wr_ne _ _ (Field.key_ne_of_lo hl))
  exact ⟨congrArg (· == 5) (hrd (g := CU.STAT.STATE k) rfl rfl),
    congrArg (fun n => n == 15 && (s.cuLink k).hov.isNone && (s.cuLink k).loan.isNone)
      (hrd (g := CU.STAT.SPARE_FOR k) rfl rfl)⟩

theorem State.cuFields_regsBut (s : State) (k lane : Nat) (perm : Bool) {l : List Field} (hl : CU.CMD.LANE k ∈ l)
    (hp : CU.CMD.PERM k ∈ l) : s.regsBut (s.cuFields k lane perm) l :=
  State.regsBut_trans (State.regsBut_wr s _ hl) (State.regsBut_wr _ _ hp)

/-- SPARE on a trained link whose spare lane is idle begins a handover. -/
theorem execCuSpare_of_idle {s : State} {k : Fin 6} {n : BitVec 4} (p : Bool) (hs : s.csrSound) (hn : n.toNat < 8)
    (hup : s.cuUp k = true) (hidle : s.spareIdle k = true) : execCuSpare k n p s =
      .next ((s.cuFields k n.toNat p).hovStart k { lane := n.toNat, perm := p, mine := true }) := by
  obtain ⟨kup, kidle⟩ := s.cuFields_keeps k n.toNat p
  have h : (s.cuFields k n.toNat p).cuSpare k n.toNat p =
      (s.cuFields k n.toNat p).hovStart k { lane := n.toNat, perm := p, mine := true } :=
    if_neg (by rw [kup, kidle]; simp [hup, hidle, hn])
  rw [execCuSpare, State.bySoft_of_csrSound _ _ _ hs (by rw [h]; rfl), h]

/-- SPARE is refused otherwise. -/
theorem execCuSpare_of_refused {s : State} {k : Fin 6} {n : BitVec 4} (p : Bool) (hs : s.csrSound)
    (h : 8 ≤ n.toNat ∨ s.cuUp k = false ∨ s.spareIdle k = false) :
    execCuSpare k n p s = .next ((s.cuFields k n.toNat p).raise (CU.EVENT.CFG_ERR k)) := by
  obtain ⟨kup, kidle⟩ := s.cuFields_keeps k n.toNat p
  have h : (s.cuFields k n.toNat p).cuSpare k n.toNat p = (s.cuFields k n.toNat p).raise (CU.EVENT.CFG_ERR k) :=
    if_pos (by rw [kup, kidle]; simpa using h)
  rw [execCuSpare, State.bySoft_of_csrSound _ _ _ hs (by rw [h, State.raise_sys _ _ _ _ (by decide)]; rfl), h]

/-- BACK of the lane that the spare lends begins its return. -/
theorem execCuBack_of_lent {s : State} {k : Fin 6} {n : BitVec 4} (hs : s.csrSound) (hup : s.cuUp k = true)
    (hloan : (s.cuLink k).loan = some n.toNat) (hhov : (s.cuLink k).hov = none) : execCuBack k n s =
      .next ((s.wr (CU.CMD.LANE k) n.toNat).hovStart k { lane := n.toNat, back := true, mine := true }) := by
  have kup : (s.wr (CU.CMD.LANE k) n.toNat).cuUp k = true :=
    (congrArg (· == 5) (State.rd_wr_ne s (g := CU.STAT.STATE k) _ (Field.key_ne_of_lo rfl))).trans hup
  have h : (s.wr (CU.CMD.LANE k) n.toNat).cuBack k n.toNat =
      (s.wr (CU.CMD.LANE k) n.toNat).hovStart k { lane := n.toNat, back := true, mine := true } :=
    if_pos ⟨kup, hloan, by rw [State.wr_cuLink, hhov]; rfl⟩
  rw [execCuBack, State.bySoft_of_csrSound _ _ _ hs (by rw [h]; rfl), h]

/-- BACK of another lane, or on an untrained link, is refused. -/
theorem execCuBack_of_refused {s : State} {k : Fin 6} {n : BitVec 4} (hs : s.csrSound)
    (h : s.cuUp k = false ∨ (s.cuLink k).loan ≠ some n.toNat) :
    execCuBack k n s = .next ((s.wr (CU.CMD.LANE k) n.toNat).raise (CU.EVENT.CFG_ERR k)) := by
  have kup : (s.wr (CU.CMD.LANE k) n.toNat).cuUp k = s.cuUp k :=
    congrArg (· == 5) (State.rd_wr_ne s (g := CU.STAT.STATE k) _ (Field.key_ne_of_lo rfl))
  have h : (s.wr (CU.CMD.LANE k) n.toNat).cuBack k n.toNat =
      (s.wr (CU.CMD.LANE k) n.toNat).raise (CU.EVENT.CFG_ERR k) := by
    refine if_neg fun ⟨hup, hloan, _⟩ => ?_
    rcases h with h | h
    · simp [kup, h] at hup
    · exact h hloan
  rw [execCuBack, State.bySoft_of_csrSound _ _ _ hs (by rw [h, State.raise_sys _ _ _ _ (by decide)]; rfl), h]

/-- A refused command is its fields and CFG_ERR. -/
theorem State.cuRefused_shows {s t : State} {k : Nat} {l : List Field} (hk : k < 6) (hframe : s.onlyRegs t l)
    (hseq : t.rd (seqOf (CU.EVENT.CFG_ERR k)) = s.rd (seqOf (CU.EVENT.CFG_ERR k))) :
    s.flagged (t.raise (CU.EVENT.CFG_ERR k)) (CU.EVENT.CFG_ERR k) ∧
      s.onlyEvent (t.raise (CU.EVENT.CFG_ERR k)) (l ++ [CU.EVENT.CFG_ERR k, seqOf (CU.EVENT.CFG_ERR k)]) := by
  obtain ⟨ht, hregs⟩ := hframe
  obtain ⟨⟨hflag, hnum⟩, hevent, kregs⟩ :=
    t.raise_flags (f := CU.EVENT.CFG_ERR k) (v := 0) [] (by decide) rfl (by decide : 0 < 24) (cuEvent_off_lt hk)
  refine ⟨⟨hflag, by rw [hnum, hseq]⟩, ?_, State.regsBut_trans ?_ (State.regsBut_mono kregs ?_)⟩
  · rw [hevent, ht]
  · exact State.regsBut_mono hregs fun f hf => List.mem_append_left _ (List.mem_append_left _ hf)
  · exact fun f hf => by
      rw [List.append_assoc]
      exact List.mem_append_right _ hf

/-! ### The peer's copy, the switch and the completion (R279) -/

/-- The peer's request is taken where it can be granted. -/
theorem execHandoverPeerCopy_of_free {s : State} {k : Fin 6} {n : Fin 8} {back : Bool} (hrun : s.cuRuns k = true)
    (hup : s.cuUp k = true) (hhov : (s.cuLink k).hov = none)
    (hok : if back then (s.cuLink k).loan = some n.val else s.spareIdle k = true) :
    execHandoverPeerCopy k n back s = .next (s.hovStart k { lane := n, back := back }) := by
  rw [execHandoverPeerCopy, if_neg (by simp [hrun, hup])]
  dsimp only
  rw [hhov]
  cases back with
  | false => exact if_pos hok
  | true => exact if_pos (decide_eq_true hok)

/-- Of two requests at once that of the lower node stands, and this side's is refused. -/
theorem execHandoverPeerCopy_of_lower {s : State} {k : Fin 6} {n : Fin 8} {back : Bool} {y : Handover}
    (hrun : s.cuRuns k = true) (hup : s.cuUp k = true) (hhov : (s.cuLink k).hov = some y) (hmine : y.mine = true)
    (hmoved : y.moved = false) (hnode : s.rd (CU.PEER_ID.NODE k) < s.node) : execHandoverPeerCopy k n back s =
      .next ((s.raise (CU.EVENT.CFG_ERR k)).hovStart k { lane := n, back := back }) := by
  rw [execHandoverPeerCopy, if_neg (by simp [hrun, hup])]
  dsimp only
  rw [hhov]
  exact if_pos ⟨hmine, by simp [hmoved], hnode⟩

/-- The receiver's switch is noted, and made. -/
theorem execHandoverRxSwitch_of_open {s : State} {k : Fin 6} {h : Handover} (hrun : s.cuRuns k = true)
    (hup : s.cuUp k = true) (hhov : (s.cuLink k).hov = some h) (hmoved : h.moved = false) :
    execHandoverRxSwitch k s =
      .next ((s.setCu k { s.cuLink k with hov := some { h with moved := true } }).rxSwitch k h) := by
  rw [execHandoverRxSwitch, hhov]
  exact if_neg (by simp [hrun, hup, hmoved])

/-- A lane that the spare takes over for good is shown in SPARE_FOR. -/
def State.spareKept (s : State) (k : Nat) (h : Handover) : State :=
  if h.perm && !h.back then s.wr (CU.STAT.SPARE_FOR k) h.lane else s

/-- A handover completed, before its event: what the spare lends, HOV, the count, and a spare taken for good. -/
def State.hovCompleted (s : State) (k : Nat) (h : Handover) : State :=
  State.spareKept (((s.setCu k { s.cuLink k with
    hov := none, loan := if h.back || h.perm then none else some h.lane }).wr (CU.STAT.HOV k) 15).bump
      (CU.COUNTS.HANDOVERS k)) k h

theorem execHandoverComplete_of_moved {s : State} {k : Fin 6} {h : Handover} (hrun : s.cuRuns k = true)
    (hup : s.cuUp k = true) (hhov : (s.cuLink k).hov = some h) (hmoved : h.moved = true) :
    execHandoverComplete k s = .next ((s.hovCompleted k h).raise (CU.EVENT.HOV_DONE k)) := by
  have hloan : (h.back || h.perm && !h.back) = (h.back || h.perm) := by cases h.back <;> simp
  rw [execHandoverComplete, hhov]
  dsimp only
  rw [if_neg (by simp [hrun, hup, hmoved]), hloan]
  rfl

theorem State.spareKept_cuLink (s : State) (k : Nat) (h : Handover) (j : Nat) :
    (s.spareKept k h).cuLink j = s.cuLink j := by
  unfold State.spareKept
  split <;> rfl

theorem State.spareKept_rd (s : State) (k : Nat) (h : Handover) {g : Field} (hg : (g.lo % 128 == 20 % 128) = false) :
    (s.spareKept k h).rd g = s.rd g := by
  unfold State.spareKept
  split
  · exact State.rd_wr_ne s _ (Field.key_ne_of_lo hg)
  · rfl

theorem State.spareKept_spareFor (s : State) (k : Nat) (h : Handover) :
    (s.spareKept k h).rd (CU.STAT.SPARE_FOR k) = if h.perm && !h.back then h.lane % 2 ^ (CU.STAT.SPARE_FOR k).width
      else s.rd (CU.STAT.SPARE_FOR k) := by
  unfold State.spareKept
  split
  · exact State.rd_wr_self s _ _
  · rfl

theorem State.hovCompleted_cuLink (s : State) (k : Nat) (h : Handover) : (s.hovCompleted k h).cuLink k =
    { s.cuLink k with hov := none, loan := if h.back || h.perm then none else some h.lane } := by
  rw [State.hovCompleted, State.spareKept_cuLink]
  exact State.setCu_cuLink_self s k _

/-- What a completed handover shows, before its event. -/
theorem State.hovCompleted_shows (s : State) (k : Nat) (h : Handover) :
    (s.hovCompleted k h).rd (CU.STAT.HOV k) = 15 ∧
      (s.hovCompleted k h).rd (CU.COUNTS.HANDOVERS k) =
        (s.rd (CU.COUNTS.HANDOVERS k) + 1) % 2 ^ (CU.COUNTS.HANDOVERS k).width ∧
      (s.hovCompleted k h).rd (CU.STAT.SPARE_FOR k) =
        if h.perm && !h.back then h.lane % 2 ^ (CU.STAT.SPARE_FOR k).width else s.rd (CU.STAT.SPARE_FOR k) := by
  refine ⟨?hov, ?count, ?spare⟩
  case hov =>
    rw [State.hovCompleted, State.spareKept_rd _ _ _ rfl, State.rd_bump_ne _ (Field.key_ne_of_lo rfl), State.rd_wr_self]
    rfl
  case count =>
    rw [State.hovCompleted, State.spareKept_rd _ _ _ rfl, State.rd_bump_self, State.rd_wr_ne _ _ (Field.key_ne_of_lo rfl)]
    rfl
  case spare =>
    rw [State.hovCompleted, State.spareKept_spareFor, State.rd_bump_ne _ (Field.key_ne_of_lo rfl),
      State.rd_wr_ne _ _ (Field.key_ne_of_lo rfl)]
    rfl

/-- HOV_DONE leaves what a completed handover shows. -/
theorem State.hovDone_shows (s : State) {k : Nat} (h : Handover) (hk : k < 6) :
    let t := (s.hovCompleted k h).raise (CU.EVENT.HOV_DONE k)
    (t.cuLink k).hov = none ∧ (t.cuLink k).loan = (if h.back || h.perm then none else some h.lane) ∧
      t.rd (CU.STAT.HOV k) = 15 ∧
      t.rd (CU.COUNTS.HANDOVERS k) = (s.rd (CU.COUNTS.HANDOVERS k) + 1) % 2 ^ (CU.COUNTS.HANDOVERS k).width ∧
      t.on (CU.EVENT.HOV_DONE k) = true ∧
      t.rd (CU.STAT.SPARE_FOR k) =
        if h.perm && !h.back then h.lane % 2 ^ (CU.STAT.SPARE_FOR k).width else s.rd (CU.STAT.SPARE_FOR k) := by
  obtain ⟨hhov, hcount, hspare⟩ := s.hovCompleted_shows k h
  have hlink := (State.raise_cuLink (s.hovCompleted k h) (CU.EVENT.HOV_DONE k) 0 [] k).trans (s.hovCompleted_cuLink k h)
  refine ⟨congrArg CuLink.hov hlink, congrArg CuLink.loan hlink, ?_, ?_,
    State.raise_on_self _ _ _ rfl (by decide : 4 < 24) (cuEvent_off_lt hk), ?_⟩
  · exact (State.raise_rd_of_lo _ (g := CU.STAT.HOV k) _ _ rfl rfl (by decide : 16 < 128) (cuStat_off_lt hk)).trans hhov
  · exact (State.raise_rd_of_lo _ _ _ rfl rfl (by decide : 0 < 128) (cuCounts_off_lt hk)).trans hcount
  · exact (State.raise_rd_of_lo _ (g := CU.STAT.SPARE_FOR k) _ _ rfl rfl (by decide : 20 < 128)
      (cuStat_off_lt hk)).trans hspare

/-! ### Receive lanes (R277, R279) -/

/-- What arrives on a receive lane does not depend on what it carries. -/
theorem State.wr_logical_rxOf (s : State) (k i v m : Nat) : (s.wr (CU.LANE_STAT.LOGICAL k i) v).rxOf k m = s.rxOf k m := by
  unfold State.rxOf
  congr 1
  funext j
  rw [State.rd_wr_ne _ _ (Field.key_ne_of_lo rfl)]

theorem State.rxSwitch_of_back {s : State} {k i j : Nat} {h : Handover} (hback : h.back = true)
    (hi : s.rxOf k h.lane = some i) (hj : s.rxOf k 8 = some j) :
    s.rxSwitch k h = (s.wr (CU.LANE_STAT.LOGICAL k j) 8).wr (CU.LANE_STAT.LOGICAL k i) h.lane := by
  simp only [State.rxSwitch, hback, if_true, hj, State.wr_logical_rxOf, hi]

theorem State.rxSwitch_of_away {s : State} {k i j : Nat} {h : Handover} (hback : h.back = false)
    (hi : s.rxOf k h.lane = some i) (hj : s.rxOf k 8 = some j) :
    s.rxSwitch k h = (s.wr (CU.LANE_STAT.LOGICAL k i) 15).wr (CU.LANE_STAT.LOGICAL k j) h.lane := by
  simp [State.rxSwitch, hback, hi, State.wr_logical_rxOf, hj]

/-- Two receive lanes written show what each carries, and no other register changes. -/
theorem State.wr_logical_pair (s : State) {k i j a b : Nat} (hij : i ≠ j) (ha : a < 16) (hb : b < 16) :
    let t := (s.wr (CU.LANE_STAT.LOGICAL k i) a).wr (CU.LANE_STAT.LOGICAL k j) b
    t.rd (CU.LANE_STAT.LOGICAL k i) = a ∧ t.rd (CU.LANE_STAT.LOGICAL k j) = b ∧
      ∀ l, CU.LANE_STAT.LOGICAL k i ∈ l → CU.LANE_STAT.LOGICAL k j ∈ l → s.onlyRegs t l := by
  have hkey : (CU.LANE_STAT.LOGICAL k i).key ≠ (CU.LANE_STAT.LOGICAL k j).key := by
    simp only [Field.key, CU.LANE_STAT.LOGICAL]; omega
  refine ⟨?_, (State.rd_wr_self _ _ _).trans (Nat.mod_eq_of_lt hb), fun l hi hj => ⟨rfl, ?_⟩⟩
  · exact (State.rd_wr_ne _ _ hkey).trans ((State.rd_wr_self _ _ _).trans (Nat.mod_eq_of_lt ha))
  · exact State.regsBut_trans (State.regsBut_wr s a hi) (State.regsBut_wr _ b hj)

/-- The receive lane of a physical lane carries another logical lane. -/
def State.logicalPut (s : State) (k plane v : Nat) : State :=
  match s.rxOf k plane with
  | some i => s.wr (CU.LANE_STAT.LOGICAL k i) v
  | none => s

theorem State.rxSwitch_eq (s : State) (k : Nat) (h : Handover) : s.rxSwitch k h =
    if h.back then (s.logicalPut k 8 8).logicalPut k h.lane h.lane
    else (s.logicalPut k h.lane 15).logicalPut k 8 h.lane := rfl

theorem State.logicalPut_keeps (s : State) (k plane v : Nat) : (s.logicalPut k plane v).fab = s.fab ∧
    ∀ g : Field, (∀ i, g.key ≠ (CU.LANE_STAT.LOGICAL k i).key) → (s.logicalPut k plane v).rd g = s.rd g := by
  unfold State.logicalPut
  split
  · exact ⟨rfl, fun g hg => State.rd_wr_ne s _ (hg _)⟩
  · exact ⟨rfl, fun _ _ => rfl⟩

/-- A switch changes what receive lanes carry, and nothing else. -/
theorem State.rxSwitch_keeps (s : State) (k : Nat) (h : Handover) : (s.rxSwitch k h).fab = s.fab ∧
    ∀ g : Field, (∀ i, g.key ≠ (CU.LANE_STAT.LOGICAL k i).key) → (s.rxSwitch k h).rd g = s.rd g := by
  have hputs (a b c d : Nat) : ((s.logicalPut k a b).logicalPut k c d).fab = s.fab ∧
      ∀ g : Field, (∀ i, g.key ≠ (CU.LANE_STAT.LOGICAL k i).key) →
        ((s.logicalPut k a b).logicalPut k c d).rd g = s.rd g := by
    obtain ⟨hfab, hrd⟩ := s.logicalPut_keeps k a b
    obtain ⟨kfab, krd⟩ := (s.logicalPut k a b).logicalPut_keeps k c d
    exact ⟨kfab.trans hfab, fun g hg => (krd g hg).trans (hrd g hg)⟩
  rw [State.rxSwitch_eq]
  split <;> exact hputs _ _ _ _

/-! ### A lane that loses lock (R280) -/

/-- A lane's bit of LANE_LOCK cleared. -/
def State.lockLost (s : State) (k lane : Nat) : State :=
  s.wr (CU.STAT.LANE_LOCK k)
    (s.rd (CU.STAT.LANE_LOCK k) - bit (bitOf (s.rd (CU.STAT.LANE_LOCK k)) (s.laneOf k lane)) * 2 ^ s.laneOf k lane)

theorem State.lockLost_rd (s : State) (k lane : Nat) {g : Field} (hg : (g.lo % 128 == 0 % 128) = false) :
    (s.lockLost k lane).rd g = s.rd g := State.rd_wr_ne s _ (Field.key_ne_of_lo hg)

theorem State.lockLost_spareIdle (s : State) (k lane : Nat) : (s.lockLost k lane).spareIdle k = s.spareIdle k :=
  congrArg (fun n => n == 15 && (s.cuLink k).hov.isNone && (s.cuLink k).loan.isNone)
    (State.lockLost_rd s k lane (g := CU.STAT.SPARE_FOR k) rfl)

theorem State.lockLost_laneRun (s : State) (k lane : Nat) : (s.lockLost k lane).laneRun k = s.laneRun k := rfl

/-- A lane noted as lost, and its handover begun as one that this side's receiver has made. -/
def State.laneAway (s : State) (k lane : Nat) : State :=
  (s.setCu k { s.cuLink k with lost := (s.cuLink k).lost ++ [lane] }).hovStart k
    { lane := lane, mine := true, moved := true }

/-- The receiver's switch made with it. -/
def State.laneMoved (s : State) (k lane : Nat) : State :=
  (s.laneAway k lane).rxSwitch k { lane := lane, mine := true, moved := true }

/-- While no lane is calibrated, a lane that loses lock moves to an idle spare at once. -/
theorem execLaneLockLoss_of_idle {s : State} {k : Fin 6} {n : Fin 8} (hrun : s.cuRuns k = true) (hup : s.cuUp k = true)
    (hcal : s.laneRun k = false) (hidle : s.spareIdle k = true) :
    execLaneLockLoss k n s = .next ((s.lockLost k n).laneMoved k n) := by
  have hcal' : ¬ (s.lockLost k n).laneRun k = true := by rw [State.lockLost_laneRun, hcal]; decide
  have hidle' : ¬ ¬ (s.lockLost k n).spareIdle k = true := by rw [State.lockLost_spareIdle, hidle]; decide
  rw [execLaneLockLoss, if_neg (by simp [hrun, hup])]
  dsimp only
  rw [← State.lockLost, if_neg hcal', if_neg hidle']
  rfl

/-- Without an idle spare the link goes down. -/
theorem execLaneLockLoss_of_busy {s : State} {k : Fin 6} {n : Fin 8} (hrun : s.cuRuns k = true) (hup : s.cuUp k = true)
    (hcal : s.laneRun k = false) (hbusy : s.spareIdle k = false) :
    execLaneLockLoss k n s = .next ((s.lockLost k n).cuEnter k cuDown) := by
  have hcal' : ¬ (s.lockLost k n).laneRun k = true := by rw [State.lockLost_laneRun, hcal]; decide
  have hbusy' : ¬ (s.lockLost k n).spareIdle k = true := by rw [State.lockLost_spareIdle, hbusy]; decide
  rw [execLaneLockLoss, if_neg (by simp [hrun, hup])]
  dsimp only
  rw [← State.lockLost, if_neg hcal', if_pos hbusy']

/-- A lane that has moved is noted, its handover is under way, and the link's state is as it was. -/
theorem State.laneMoved_shows (s : State) (k lane : Nat) :
    ((s.laneMoved k lane).cuLink k).hov = some { lane := lane, mine := true, moved := true } ∧
      lane ∈ ((s.laneMoved k lane).cuLink k).lost ∧ (s.laneMoved k lane).cuSt k = s.cuSt k := by
  obtain ⟨hfab, hrd⟩ := (s.laneAway k lane).rxSwitch_keeps k { lane := lane, mine := true, moved := true }
  have hlink : (s.laneMoved k lane).cuLink k = { s.cuLink k with
      lost := (s.cuLink k).lost ++ [lane], hov := some { lane := lane, mine := true, moved := true } } := by
    rw [State.laneMoved, State.cuLink_congr hfab, State.laneAway, State.hovStart, State.wr_cuLink, State.setCu_cuLink_self,
      State.setCu_cuLink_self]
  refine ⟨congrArg CuLink.hov hlink, by rw [hlink]; simp, ?_⟩
  refine (hrd (CU.STAT.STATE k) fun i => ?_).trans (State.hovStart_rd _ _ _ rfl)
  simp only [Field.key, CU.STAT.STATE, CU.LANE_STAT.LOGICAL]
  omega

/-! ### A link's change of state (R273) -/

/-- A state entered: its time, its counts begun again, no handover. -/
def State.cuEntered (s : State) (k st : Nat) : State :=
  let t := ((s.setCu k { s.cuLink k with entered := s.now, fails := 0, hov := none, loan := none, lost := [] }).wr
    (CU.STAT.STATE k) st).wr (CU.STAT.HOV k) 15
  if st = cuQuar then t else t.wr (CU.STAT.Q_REASON k) 0

/-- UP left: no lane in lock, the event DOWN, and a LANE run on the link aborted. -/
def State.leaveUp (s : State) (k : Nat) : State :=
  let t := (s.wr (CU.STAT.LANE_LOCK k) 0).raise (CU.EVENT.DOWN k)
  if t.laneRun k then t.calAbortCu 0 else t

theorem State.cuEnter_eq (s : State) (k st : Nat) : s.cuEnter k st =
    if s.cuSt k = cuStUp ∧ st ≠ cuStUp then (s.cuEntered k st).leaveUp k else s.cuEntered k st := rfl

/-- Whether a lane of a link is calibrated is calibration's. -/
theorem State.laneRun_congr {s t : State} (h : t.fab.cal = s.fab.cal) (k : Nat) : t.laneRun k = s.laneRun k := by
  rw [State.laneRun, h]
  rfl

theorem State.cuEntered_cal (s : State) (k st : Nat) : (s.cuEntered k st).fab.cal = s.fab.cal := by
  unfold State.cuEntered
  dsimp only
  split <;> rfl

theorem State.cuEntered_state (s : State) (k : Nat) {st : Nat} (h : st < 16) : (s.cuEntered k st).cuSt k = st := by
  unfold State.cuEntered State.cuSt
  dsimp only
  split
  · rw [State.rd_wr_ne _ _ (Field.key_ne_of_lo rfl), State.rd_wr_self]
    exact Nat.mod_eq_of_lt h
  · rw [State.rd_wr_ne _ _ (Field.key_ne_of_lo rfl), State.rd_wr_ne _ _ (Field.key_ne_of_lo rfl), State.rd_wr_self]
    exact Nat.mod_eq_of_lt h

theorem State.leaveUp_of_idle {s : State} {k : Nat} (h : s.laneRun k = false) :
    s.leaveUp k = (s.wr (CU.STAT.LANE_LOCK k) 0).raise (CU.EVENT.DOWN k) := by
  have hcal : ((s.wr (CU.STAT.LANE_LOCK k) 0).raise (CU.EVENT.DOWN k)).fab.cal = s.fab.cal := by
    rw [State.raise_fab, State.wr_fab]
  exact if_neg (by rw [State.laneRun_congr hcal, h]; decide)

/-- A trained link that goes down while none of its lanes is calibrated says so. -/
theorem State.cuEnter_down_shows {s : State} {k : Nat} (hk : k < 6) (hup : s.cuUp k = true) (hcal : s.laneRun k = false) :
    (s.cuEnter k cuDown).cuSt k = cuDown ∧ (s.cuEnter k cuDown).on (CU.EVENT.DOWN k) = true := by
  have hst : s.cuSt k = cuStUp := eq_of_beq hup
  rw [State.cuEnter_eq, if_pos ⟨hst, by decide⟩,
    State.leaveUp_of_idle ((State.laneRun_congr (s.cuEntered_cal k cuDown) k).trans hcal)]
  refine ⟨?_, State.raise_on_self _ _ _ rfl (by decide : 2 < 24) (cuEvent_off_lt hk)⟩
  rw [State.cuSt, State.raise_rd_of_lo _ (g := CU.STAT.STATE k) _ _ rfl rfl (by decide : 28 < 128) (cuStat_off_lt hk),
    State.rd_wr_ne _ _ (Field.key_ne_of_lo rfl)]
  exact s.cuEntered_state k (by decide)

/-! ### A lane that wears (R281) -/

/-- A receive lane marked as worn, and the spare's change noted for the patch map. -/
def State.wornNoted (s : State) (k i action spare : Nat) : State :=
  (s.wr (CU.LANE_STAT.WORN k i) 1).patchNote 5 action k spare

theorem State.wornNoted_on (s : State) (k i action spare : Nat) :
    (s.wornNoted k i action spare).on (CU.LANE_STAT.WORN k i) = true :=
  congrArg (· != 0) (State.rd_wr_self s (CU.LANE_STAT.WORN k i) 1)

theorem State.wornNoted_waiting (s : State) (k i action spare : Nat) :
    (s.wornNoted k i action spare).patch.waiting =
      s.patch.waiting ++ [⟨5, action, k, spare, s.rd HLT.OPTIME.MINUTES⟩] :=
  congrArg (fun m => s.patch.waiting ++ [(⟨5, action, k, spare, m⟩ : PatchEntry)])
    (State.rd_wr_ne s (g := HLT.OPTIME.MINUTES) _ (Field.key_ne_of_lo rfl))

/-- A worn lane goes to an idle spare for good. -/
theorem execLaneWorn_of_idle {s : State} {k : Fin 6} {n : Fin 8} (hrun : s.cuRuns k = true) (hup : s.cuUp k = true)
    (hworn : s.laneWorn k n = true) (hnew : s.on (CU.LANE_STAT.WORN k ((s.rxOf k n).getD n.val)) = false)
    (hspare : s.rd (CU.STAT.SPARE_FOR k) = 15) (hidle : s.spareIdle k = true) : execLaneWorn k n s =
      .next (((s.hovStart k { lane := n, perm := true, mine := true }).wornNoted k ((s.rxOf k n).getD n.val) 1 n).raise
        (CU.EVENT.LANE_WORN k) sevWarning (leBytes 4 n)) := by
  rw [execLaneWorn]
  dsimp only
  rw [if_neg (by simp [hrun, hup, hworn, hnew]), if_neg (by simp [hspare]), if_pos hidle]
  rfl

/-- A lane that wears once the spare is spent is reported. -/
theorem execLaneWorn_of_spent {s : State} {k : Fin 6} {n : Fin 8} (hrun : s.cuRuns k = true) (hup : s.cuUp k = true)
    (hworn : s.laneWorn k n = true) (hnew : s.on (CU.LANE_STAT.WORN k ((s.rxOf k n).getD n.val)) = false)
    (hspare : s.rd (CU.STAT.SPARE_FOR k) ≠ 15) : execLaneWorn k n s =
      .next ((s.wornNoted k ((s.rxOf k n).getD n.val) 2 0).report (CU.EVENT.LANE_WORN k) sevWarning (leBytes 4 n)) := by
  rw [execLaneWorn]
  dsimp only
  rw [if_neg (by simp [hrun, hup, hworn, hnew]), if_pos hspare]
  rfl

/-- The event of a worn lane, told or not, leaves the mark and sets its flag. -/
theorem State.laneWorn_flags (s : State) {k : Nat} (i : Nat) (d : List Byte) (hk : k < 6)
    (h : s.on (CU.LANE_STAT.WORN k i) = true) :
    ((s.raise (CU.EVENT.LANE_WORN k) sevWarning d).on (CU.LANE_STAT.WORN k i) = true ∧
      (s.raise (CU.EVENT.LANE_WORN k) sevWarning d).on (CU.EVENT.LANE_WORN k) = true) ∧
    ((s.report (CU.EVENT.LANE_WORN k) sevWarning d).on (CU.LANE_STAT.WORN k i) = true ∧
      (s.report (CU.EVENT.LANE_WORN k) sevWarning d).on (CU.EVENT.LANE_WORN k) = true) := by
  refine ⟨⟨?_, State.raise_on_self _ _ _ rfl (by decide : 5 < 24) (cuEvent_off_lt hk)⟩,
    ?_, State.report_on_self _ _ _ rfl (by decide : 5 < 24) (cuEvent_off_lt hk)⟩
  · rw [State.on, State.raise_rd_of_lo _ (g := CU.LANE_STAT.WORN k i) _ _ rfl rfl (by decide : 22 < 128)
      (cuLaneStat_off_lt i hk)]
    exact h
  · rw [State.on, State.report_rd_of_lo _ (g := CU.LANE_STAT.WORN k i) _ _ rfl rfl (by decide : 22 < 128)
      (cuLaneStat_off_lt i hk)]
    exact h

/-! ### A package that fails (R228) -/

@[simp] theorem State.calQueue_now (s : State) (u : CalUnit) : (s.calQueue u).now = s.now := by
  unfold State.calQueue
  split
  · rfl
  · rw [State.raise_now, State.bump_now]

@[simp] theorem State.calAborted_now (s : State) (u : CalUnit) (reason : Nat) : (s.calAborted u reason).now = s.now := by
  rw [State.calAborted, State.calQueue_now, State.raise_now]
  rfl

@[simp] theorem State.calAbortCu_now (s : State) (reason : Nat) : (s.calAbortCu reason).now = s.now := by
  unfold State.calAbortCu
  split
  · rfl
  · rw [State.calAborted_now, State.wr_now]

theorem State.cuEntered_now (s : State) (k st : Nat) : (s.cuEntered k st).now = s.now := by
  unfold State.cuEntered
  dsimp only
  split <;> rfl

theorem State.leaveUp_now (s : State) (k : Nat) : (s.leaveUp k).now = s.now := by
  unfold State.leaveUp
  dsimp only
  split
  · rw [State.calAbortCu_now, State.raise_now, State.wr_now]
  · rw [State.raise_now, State.wr_now]

/-- A link's change of state takes no time. -/
theorem State.cuEnter_now (s : State) (k st : Nat) : (s.cuEnter k st).now = s.now := by
  rw [State.cuEnter_eq]
  split
  · exact (State.leaveUp_now _ k).trans (s.cuEntered_now k st)
  · exact s.cuEntered_now k st

/-- A link that is not down goes down. -/
def State.cuDropped (s : State) (k : Nat) : State := if s.cuSt k = cuDown then s else s.cuEnter k cuDown

theorem State.cuDropped_now (s : State) (k : Nat) : (s.cuDropped k).now = s.now := by
  unfold State.cuDropped
  split
  · rfl
  · exact s.cuEnter_now k cuDown

theorem State.foldl_cuDropped_now (ks : List Nat) (s : State) : (ks.foldl State.cuDropped s).now = s.now :=
  List.foldlRecOn (motive := fun t : State => t.now = s.now) _ _ rfl fun t ht k _ => (t.cuDropped_now k).trans ht

/-- A package goes dark at once: it only cuts its slots and drops its links. -/
theorem State.goDark_shows (s : State) :
    s.goDark.fab.dark = true ∧ s.goDark.fab.stopAt = none ∧ s.goDark.fabUp = false ∧ s.goDark.now = s.now := by
  obtain ⟨-, hcut, -⟩ := s.slotsOnly_cutLinks fun _ => true
  obtain ⟨-, hquiet, -⟩ := (s.cutLinks fun _ => true).slotsOnly_quietRx fun _ => true
  unfold State.fabUp State.goDark
  dsimp only
  refine ⟨rfl, rfl, by rw [Bool.not_true, Bool.and_false], ?_⟩
  exact (State.foldl_cuDropped_now (List.range 6) _).trans (hquiet.trans hcut)

theorem execFabricStop_of_stopped {s : State} {a : Nat} (t : Nat) (h : s.fab.stopAt = some a) :
    execFabricStop t s = .next (s.advance (min t (a + Config.ns 10000))).goDark := by
  rw [execFabricStop, h]

/-- Settles O37: each command's lemma names the state it leaves, and the laws of that state give the clause. -/
theorem copperHandovers : Obligations.CopperHandovers := by
  unfold Obligations.CopperHandovers
  refine ⟨fun s k n p hs => ⟨fun hn hup hidle => ?spare, fun h => ?spareRefused, fun hup hloan hhov => ?back,
      fun h => ?backRefused⟩,
    fun s k n back hrun hup => ⟨fun hhov hok => ?copy, fun y hhov hmine hmoved hnode => ?lower⟩,
    fun s k h hrun hup hhov => ⟨fun hmoved => execHandoverRxSwitch_of_open hrun hup hhov hmoved,
      fun hmoved => ⟨_, execHandoverComplete_of_moved hrun hup hhov hmoved, State.hovDone_shows s h k.isLt⟩⟩,
    fun s k h i j hk hij hi hj hl hri hrj => ?switch,
    fun s k n hrun hup hcal => ⟨fun hidle => ?moved, fun hbusy => ?down⟩,
    fun s k n hrun hup hworn => fun hnew => ⟨fun hspare hidle => ?worn, fun hspare => ?spent⟩,
    fun s t a ha => ⟨_, execFabricStop_of_stopped t ha, State.goDark_shows _⟩⟩
  case spare =>
    refine ⟨_, execCuSpare_of_idle p hs hn hup hidle, State.hovStart_hov _ _ _,
      State.hovStart_shown _ _ (Nat.lt_trans hn (by decide)), ?_⟩
    exact State.regsBut_trans (s.cuFields_regsBut _ _ p (by simp) (by simp)) (State.hovStart_regsBut _ _ _ (by simp))
  case spareRefused =>
    refine ⟨_, execCuSpare_of_refused p hs h, State.cuRefused_shows k.isLt (l := [CU.CMD.LANE k, CU.CMD.PERM k])
      ⟨rfl, s.cuFields_regsBut _ _ p (by simp) (by simp)⟩ ?_⟩
    exact (State.rd_wr_ne _ _ (Field.key_ne_of_lo rfl)).trans (State.rd_wr_ne _ _ (Field.key_ne_of_lo rfl))
  case back =>
    refine ⟨_, execCuBack_of_lent hs hup hloan hhov, State.hovStart_hov _ _ _, State.hovStart_shown _ _ n.isLt, ?_⟩
    exact State.regsBut_trans (State.regsBut_wr s _ (by simp)) (State.hovStart_regsBut _ _ _ (by simp))
  case backRefused =>
    exact ⟨_, execCuBack_of_refused hs h, State.cuRefused_shows k.isLt (l := [CU.CMD.LANE k])
      ⟨rfl, State.regsBut_wr s _ (by simp)⟩ (State.rd_wr_ne _ _ (Field.key_ne_of_lo rfl))⟩
  case copy =>
    exact ⟨_, execHandoverPeerCopy_of_free hrun hup hhov hok, State.hovStart_hov _ _ _,
      State.hovStart_shown _ _ (Nat.lt_trans n.isLt (by decide)), State.hovStart_regsBut _ _ _ (by simp)⟩
  case lower =>
    refine ⟨_, execHandoverPeerCopy_of_lower hrun hup hhov hmine hmoved hnode, State.hovStart_hov _ _ _, ?_⟩
    rw [State.on, State.hovStart_rd _ _ _ rfl]
    exact State.raise_on_self _ _ _ rfl (by decide : 0 < 24) (cuEvent_off_lt k.isLt)
  case switch =>
    dsimp only
    cases hback : h.back with
    | true =>
      obtain ⟨hj', hi', hframe⟩ := s.wr_logical_pair (k := k) (Ne.symm hij) (by decide : 8 < 16) (by omega : h.lane < 16)
      rw [State.rxSwitch_of_back hback hri hrj]
      exact ⟨⟨hi', hj'⟩, hframe _ (by simp) (by simp)⟩
    | false =>
      obtain ⟨hi', hj', hframe⟩ := s.wr_logical_pair (k := k) hij (by decide : 15 < 16) (by omega : h.lane < 16)
      rw [State.rxSwitch_of_away hback hri hrj]
      exact ⟨⟨hi', hj'⟩, hframe _ (by simp) (by simp)⟩
  case moved =>
    obtain ⟨hhov, hlost, hst⟩ := (s.lockLost k n).laneMoved_shows k n
    exact ⟨_, execLaneLockLoss_of_idle hrun hup hcal hidle, hhov, hlost, hst.trans (s.lockLost_rd k n rfl)⟩
  case down =>
    have hup' : (s.lockLost k n).cuUp k = true :=
      (congrArg (· == 5) (s.lockLost_rd k n (g := CU.STAT.STATE k) rfl)).trans hup
    exact ⟨_, execLaneLockLoss_of_busy hrun hup hcal hbusy, State.cuEnter_down_shows k.isLt hup' hcal⟩
  case worn =>
    obtain ⟨⟨hmark, hflag⟩, -⟩ := State.laneWorn_flags _ ((s.rxOf k n).getD n.val) (leBytes 4 n) k.isLt
      (State.wornNoted_on (s.hovStart k { lane := n, perm := true, mine := true }) k ((s.rxOf k n).getD n.val) 1 n)
    refine ⟨_, execLaneWorn_of_idle hrun hup hworn hnew hspare hidle, ?_, hmark, hflag, ?_⟩
    · rw [State.raise_cuLink]
      exact State.hovStart_hov s k _
    · rw [State.raise_patch, State.wornNoted_waiting, State.hovStart_rd _ _ _ rfl]
      rfl
  case spent =>
    obtain ⟨-, hmark, hflag⟩ := State.laneWorn_flags _ ((s.rxOf k n).getD n.val) (leBytes 4 n) k.isLt
      (State.wornNoted_on s k ((s.rxOf k n).getD n.val) 2 0)
    refine ⟨_, execLaneWorn_of_spent hrun hup hworn hnew hspare, ?_, hmark, hflag, ?_⟩
    · exact State.cuLink_congr (State.report_fab _ _ _ _) k
    · rw [State.report_patch, State.wornNoted_waiting]

end Sys2Proof.Machine
end

section
/-! SUPPORT. Calibration's queue (08_calibration.md): its register fields apart from one another, an outcome recorded with
its event, what queueing a unit leaves, and the statement about what queues units and starts them. -/
namespace Sys2Proof.Machine
open Sys2Proof

/-! ### Register fields told apart by their places -/

/-- Two fields whose lowest bits or offsets differ, whatever their instances. -/
def Field.apart (f g : Field) : Bool :=
  decide (f.lo < 128) && decide (g.lo < 128) && !(f.lo == g.lo && f.off % 2 ^ 26 == g.off % 2 ^ 26)

theorem Field.key_ne_of_apart {f g : Field} (h : Field.apart f g = true) : f.key ≠ g.key := fun e => by
  simp only [Field.apart, Bool.and_eq_true, decide_eq_true_eq, Bool.not_eq_true', Bool.and_eq_false_iff,
    beq_eq_false_iff_ne] at h
  simp only [Field.key] at e
  omega

/-- A frame leaves a field that stands apart from every field it lists. -/
theorem State.regsBut_rd {s t : State} {l : List Field} {g : Field} (h : s.regsBut t l)
    (hg : l.all (Field.apart g) = true) : t.rd g = s.rd g :=
  h g fun hm => by
    obtain ⟨f, hf, e⟩ := List.mem_map.1 hm
    exact Field.key_ne_of_apart (List.all_eq_true.1 hg f hf) e.symm

/-! ### An outcome with its event (R251, R252, R257) -/

/-- Unit `i` of CAL.RES shows an outcome and its reason, and the flag of its event is set. -/
def State.verdict (s : State) (i outcome reason : Nat) (f : Field) : Prop :=
  s.rd (CAL.RES.OUTCOME i) = outcome ∧ s.rd (CAL.RES.REASON i) = reason ∧ s.on f = true

/-- A verdict stands where none of its fields is written. -/
theorem State.verdict_of_regsBut {s t : State} {i o r : Nat} {f : Field} {l : List Field} (h : s.verdict i o r f)
    (ht : s.regsBut t l)
    (hl : ([CAL.RES.OUTCOME i, CAL.RES.REASON i, f].all fun g => l.all (Field.apart g)) = true) : t.verdict i o r f := by
  obtain ⟨hout, hreason, hflag⟩ := h
  simp only [List.all_cons, List.all_nil, Bool.and_true, Bool.and_eq_true] at hl
  obtain ⟨lout, lreason, lflag⟩ := hl
  exact ⟨(State.regsBut_rd ht lout).trans hout, (State.regsBut_rd ht lreason).trans hreason,
    (congrArg (· != 0) (State.regsBut_rd ht lflag)).trans hflag⟩

/-- An outcome recorded is read back, cut to its fields. -/
theorem State.calOutcome_shows (s : State) (u : CalUnit) (o r : Nat) :
    (s.calOutcome u o r).rd (CAL.RES.OUTCOME (calKey u.kind u.unit)) = o % 16 ∧
      (s.calOutcome u o r).rd (CAL.RES.REASON (calKey u.kind u.unit)) = r % 16 := by
  unfold State.calOutcome
  refine ⟨?_, ?_⟩
  · rw [State.rd_wr_ne _ _ (Field.key_ne_of_apart rfl), State.rd_wr_ne _ _ (Field.key_ne_of_apart rfl), State.rd_wr_self]
    rfl
  · rw [State.rd_wr_ne _ _ (Field.key_ne_of_apart rfl), State.rd_wr_self]
    rfl

theorem State.calOutcome_regsBut (s : State) (u : CalUnit) (o r : Nat) :
    let i := calKey u.kind u.unit
    s.regsBut (s.calOutcome u o r) [CAL.RES.OUTCOME i, CAL.RES.REASON i, CAL.RES.AGE i] :=
  State.regsBut_trans (t := (s.wr (CAL.RES.OUTCOME (calKey u.kind u.unit)) o).wr (CAL.RES.REASON (calKey u.kind u.unit)) r)
    (State.regsBut_trans (State.regsBut_wr s _ (by simp)) (State.regsBut_wr _ _ (by simp))) (State.regsBut_wr _ _ (by simp))

/-- An outcome and the event after it, told or not, are a verdict. -/
theorem State.verdict_of_event (s : State) (u : CalUnit) (o r : Nat) {f : Field} (code v subject : Nat) (d : List Byte)
    (told : Bool) (hw : f.width = 1) (hl : f.lo < 24) (ho : f.off < 0xB00000)
    (hf : ([CAL.RES.OUTCOME (calKey u.kind u.unit), CAL.RES.REASON (calKey u.kind u.unit)].all fun g =>
      [f, seqOf f].all (Field.apart g)) = true) :
    (((s.calOutcome u o r).setFlag f).logEvent code v subject d told).verdict (calKey u.kind u.unit) (o % 16) (r % 16) f := by
  obtain ⟨hout, hreason⟩ := s.calOutcome_shows u o r
  simp only [List.all_cons, List.all_nil, Bool.and_true, Bool.and_eq_true] at hf
  obtain ⟨⟨lout, kout⟩, lreason, kreason⟩ := hf
  refine ⟨?_, ?_, ?_⟩
  · rw [State.logEvent_rd _ _ _ _ _ _ (notMem_recorderFields (by decide : 28 < 128) (by decide : 0x90054 < 0xB00000)),
      State.rd_setFlag_ne _ (Field.key_ne_of_apart lout) (Field.key_ne_of_apart kout), hout]
  · rw [State.logEvent_rd _ _ _ _ _ _ (notMem_recorderFields (by decide : 24 < 128) (by decide : 0x90054 < 0xB00000)),
      State.rd_setFlag_ne _ (Field.key_ne_of_apart lreason) (Field.key_ne_of_apart kreason), hreason]
  · rw [State.on, State.logEvent_rd _ _ _ _ _ _ (notMem_recorderFields (by omega) ho),
      State.rd_setFlag_self _ hw (Nat.ne_of_lt hl)]
    rfl

theorem State.verdict_of_raise (s : State) (u : CalUnit) (o r : Nat) {f : Field} (v : Nat) (d : List Byte)
    (hw : f.width = 1) (hl : f.lo < 24) (ho : f.off < 0xB00000)
    (hf : ([CAL.RES.OUTCOME (calKey u.kind u.unit), CAL.RES.REASON (calKey u.kind u.unit)].all fun g =>
      [f, seqOf f].all (Field.apart g)) = true) :
    ((s.calOutcome u o r).raise f v d).verdict (calKey u.kind u.unit) (o % 16) (r % 16) f :=
  s.verdict_of_event u o r _ v _ d false hw hl ho hf

theorem State.verdict_of_report (s : State) (u : CalUnit) (o r : Nat) {f : Field} (v : Nat) (d : List Byte)
    (hw : f.width = 1) (hl : f.lo < 24) (ho : f.off < 0xB00000)
    (hf : ([CAL.RES.OUTCOME (calKey u.kind u.unit), CAL.RES.REASON (calKey u.kind u.unit)].all fun g =>
      [f, seqOf f].all (Field.apart g)) = true) :
    ((s.calOutcome u o r).report f v d).verdict (calKey u.kind u.unit) (o % 16) (r % 16) f :=
  s.verdict_of_event u o r _ v _ d true hw hl ho hf

/-- A queued unit dropped is SKIPPED, without a reason of its own. -/
theorem State.unitSkipped_shows (s : State) (u : CalUnit) :
    (s.unitSkipped u).verdict (calKey u.kind u.unit) 4 15 CAL.EVENT.SKIPPED ∧
      (s.unitSkipped u).fab.cal.queue = s.fab.cal.queue := by
  refine ⟨State.verdict_of_raise (s.bump CAL.COUNTS.SKIPPED) u 4 15 _ _ rfl (by decide) (by decide) rfl, ?_⟩
  rw [State.unitSkipped, State.raise_fab]
  rfl

/-! ### Queueing a unit (R241) -/

theorem calInsert_of_queued {l : List CalUnit} {u x : CalUnit} (hx : x ∈ l) (hk : x.kind = u.kind) (hu : x.unit = u.unit) :
    calInsert l u = some l :=
  if_pos (List.any_eq_true.2 ⟨x, hx, by simp [hk, hu]⟩)

theorem not_queued {l : List CalUnit} {u : CalUnit} (h : ∀ x ∈ l, x.kind ≠ u.kind ∨ x.unit ≠ u.unit) :
    ¬ (l.any fun x => x.kind == u.kind && x.unit == u.unit) = true := fun hany => by
  obtain ⟨x, hx, he⟩ := List.any_eq_true.1 hany
  simp only [Bool.and_eq_true, beq_iff_eq] at he
  exact (h x hx).elim (· he.1) (· he.2)

theorem calInsert_of_new {l : List CalUnit} {u : CalUnit} (h : ∀ x ∈ l, x.kind ≠ u.kind ∨ x.unit ≠ u.unit)
    (hlen : l.length < 255) : calInsert l u = some ((l.filter fun x => decide (x.who.rank ≤ u.who.rank)) ++ u ::
      (l.filter fun x => decide (u.who.rank < x.who.rank))) := by
  rw [calInsert, if_neg (not_queued h), if_neg (by omega), List.append_assoc, List.singleton_append]

theorem calInsert_of_full {l : List CalUnit} {u : CalUnit} (h : ∀ x ∈ l, x.kind ≠ u.kind ∨ x.unit ≠ u.unit)
    (hlen : 255 ≤ l.length) : calInsert l u = none := by
  rw [calInsert, if_neg (not_queued h), if_pos hlen]

/-- The entries up to a rank and those after it are all the entries. -/
theorem length_filter_rank (l : List CalUnit) (n : Nat) :
    (l.filter fun x => decide (x.who.rank ≤ n)).length + (l.filter fun x => decide (n < x.who.rank)).length = l.length := by
  have hnot : (fun x : CalUnit => decide (n < x.who.rank)) = fun x => decide ¬ decide (x.who.rank ≤ n) = true := by
    funext x
    exact decide_eq_decide.2 (by rw [decide_eq_true_iff, Nat.not_le])
  rw [hnot, ← List.countP_eq_length_filter, ← List.countP_eq_length_filter]
  exact (List.length_eq_countP_add_countP _).symm

theorem State.calQueue_of_insert {s : State} {u : CalUnit} {l : List CalUnit} (h : calInsert s.fab.cal.queue u = some l) :
    s.calQueue u = s.setQueue' l := by
  rw [State.calQueue, h]

theorem State.calQueue_of_full {s : State} {u : CalUnit} (h : calInsert s.fab.cal.queue u = none) :
    s.calQueue u = (s.bump CAL.COUNTS.SKIPPED).raise CAL.EVENT.SKIPPED := by
  rw [State.calQueue, h]

theorem State.setQueue'_regsBut (s : State) (l : List CalUnit) {k : List Field} (h : CAL.STAT.QUEUED ∈ k) :
    s.regsBut (s.setQueue' l) k :=
  State.regsBut_trans (State.regsBut_of_regs (t := s.setCal { s.fab.cal with queue := l }) rfl k) (State.regsBut_wr _ _ h)

/-- The fields that queueing a unit may write, the recorder's own with them. -/
def queueFields : List Field :=
  [CAL.STAT.QUEUED, CAL.COUNTS.SKIPPED, CAL.EVENT.SKIPPED, seqOf CAL.EVENT.SKIPPED] ++ recorderFields

/-- Queueing a unit changes nothing of the fabric but the queue, no parity, and its own fields alone. -/
theorem State.calQueue_keeps (s : State) (u : CalUnit) :
    (s.calQueue u).fab = { s.fab with cal := { s.fab.cal with queue := (s.calQueue u).fab.cal.queue } } ∧
      (s.calQueue u).sys = s.sys ∧ s.regsBut (s.calQueue u) queueFields := by
  cases h : calInsert s.fab.cal.queue u with
  | some l =>
    rw [State.calQueue_of_insert h]
    exact ⟨rfl, rfl, s.setQueue'_regsBut l (by decide)⟩
  | none =>
    rw [State.calQueue_of_full h]
    refine ⟨?_, State.raise_sys _ _ _ _ (by decide), ?_⟩
    · rw [State.raise_fab]
      rfl
    · exact State.regsBut_mono (State.bump_raise_onlyEvent s CAL.COUNTS.SKIPPED (f := CAL.EVENT.SKIPPED) [] (by decide)).2
        (by decide)

/-! ### Triggers (R239, R240) -/

/-- A number shown in a signed field writes its field alone. -/
theorem State.showInt_regsBut (s : State) (f : Field) (v : Int) : s.regsBut (s.showInt f v) [f] := by
  have hmem : f ∈ [f] := List.mem_singleton.2 rfl
  unfold State.showInt
  split
  · exact State.regsBut_wr s _ hmem
  · exact State.regsBut_trans (State.regsBut_of_regs (t := (s.draw f.key).2) rfl _) (State.regsBut_wr _ _ hmem)

theorem execCalTempTrigger_of_engine {s : State} {u : Fin 6} (temp : Int) (hup : s.fabUp = true)
    (hon : s.on CAL.CTRL.TEMP_EN = true) (hu : u.val < 4)
    (hd : s.rd CAL.TRIG_CFG.ENG_DT < (s.engineDelta u).natAbs) :
    execCalTempTrigger false u temp s = .next (s.calQueue ⟨7, u, .temperature, 0⟩) := by
  have hgo : ¬ (4 ≤ u.val ∨ ¬ s.on CAL.CTRL.TEMP_EN ∨ (s.engineDelta u).natAbs ≤ s.rd CAL.TRIG_CFG.ENG_DT) := by
    simp only [hon, not_true_eq_false, false_or]
    omega
  rw [execCalTempTrigger, if_neg (Classical.not_not.2 hup), if_neg Bool.false_ne_true, if_neg hgo]

/-- A copper link's temperature, shown first, queues its unit where it has moved far enough; the unit of the TDC
tables follows only where it is due. -/
theorem execCalTempTrigger_of_copper {s : State} {u : Fin 6} {temp : Int} (hup : s.fabUp = true)
    (hon : s.on CAL.CTRL.TEMP_EN = true)
    (hd : (s.showInt (CAL.CU_T.NOW u) temp).rd CAL.TRIG_CFG.CU_DT <
      ((s.showInt (CAL.CU_T.NOW u) temp).rdI (CAL.CU_T.NOW u) -
        (s.showInt (CAL.CU_T.NOW u) temp).rdI (CAL.CU_T.AT_RUN u)).natAbs)
    (htdc : s.fab.cal.tdcDue = false) :
    execCalTempTrigger true u temp s = .next ((s.showInt (CAL.CU_T.NOW u) temp).calQueue ⟨8, u, .temperature, 0⟩) := by
  have hon' : (s.showInt (CAL.CU_T.NOW u) temp).on CAL.CTRL.TEMP_EN = true :=
    (congrArg (· != 0) (State.regsBut_rd (s.showInt_regsBut _ _) rfl)).trans hon
  have hdue : ((s.showInt (CAL.CU_T.NOW u) temp).calQueue ⟨8, u, .temperature, 0⟩).fab.cal.tdcDue = false := by
    obtain ⟨hfab, -⟩ := (s.showInt (CAL.CU_T.NOW u) temp).calQueue_keeps ⟨8, u, .temperature, 0⟩
    rw [hfab, State.showInt_fab]
    exact htdc
  rw [execCalTempTrigger, if_neg (Classical.not_not.2 hup), if_pos rfl]
  dsimp only
  rw [if_neg (by simp only [hon', not_true_eq_false, false_or]; omega), if_neg (by rw [hdue]; exact Bool.false_ne_true)]

theorem execCalIntervalTrigger_of_due {s : State} {k : BitVec 4} {u : BitVec 12} {t : Nat} (hup : s.fabUp = true)
    (hon : s.on CAL.CTRL.INT_EN = true) (hk : 3 ≤ k.toNat) (hv : calValid k.toNat u.toNat = true)
    (ht : Tbl.lookD s.fab.cal.lastAt 0 (calKey k.toNat u.toNat) + Config.ns (1000000000 * s.rd CAL.INTERVAL.SECONDS) ≤ t) :
    execCalIntervalTrigger k u t s = .next ((s.advance t).calQueue ⟨k.toNat, u.toNat, .interval, 0⟩) :=
  if_neg (by simp only [hup, hon, hv, not_true_eq_false, Bool.true_eq_false, false_or]; omega)

/-! ### The command RUN (R241) -/

/-- KIND and UNIT of CAL.CMD stored. -/
def State.cmdUnit (s : State) (k u : Nat) : State := (s.wr CAL.CMD.KIND k).wr CAL.CMD.UNIT u

theorem State.cmdUnit_regsBut (s : State) (k u : Nat) : s.regsBut (s.cmdUnit k u) [CAL.CMD.KIND, CAL.CMD.UNIT] :=
  State.regsBut_trans (State.regsBut_wr s _ (by simp)) (State.regsBut_wr _ _ (by simp))

theorem State.cmdUnit_shows (s : State) {k u : Nat} (hk : k < 16) (hu : u < 4096) :
    (s.cmdUnit k u).rd CAL.CMD.KIND = k ∧ (s.cmdUnit k u).rd CAL.CMD.UNIT = u :=
  ⟨(State.rd_wr_ne _ _ (Field.key_ne_of_apart rfl)).trans ((State.rd_wr_self _ _ _).trans (Nat.mod_eq_of_lt hk)),
    (State.rd_wr_self _ _ _).trans (Nat.mod_eq_of_lt hu)⟩

theorem execCalRun_of_valid {s : State} {k : BitVec 4} {u : BitVec 12} (hs : s.csrSound)
    (hv : calValid k.toNat u.toNat = true) : execCalRun k u s =
      .next ((s.cmdUnit k.toNat u.toNat).calQueue ⟨k.toNat, u.toNat, .command, 0⟩) := by
  have h : s.calRunCmd k.toNat u.toNat = (s.cmdUnit k.toNat u.toNat).calQueue ⟨k.toNat, u.toNat, .command, 0⟩ := if_pos hv
  rw [execCalRun, State.bySoft_of_csrSound _ _ _ hs (by rw [h, (State.calQueue_keeps _ _).2.1]; rfl), h]

theorem execCalRun_of_invalid {s : State} {k : BitVec 4} {u : BitVec 12} (hs : s.csrSound)
    (hv : calValid k.toNat u.toNat = false) : execCalRun k u s =
      .next ((s.cmdUnit k.toNat u.toNat).raise CAL.EVENT.CFG_ERR) := by
  have h : s.calRunCmd k.toNat u.toNat = (s.cmdUnit k.toNat u.toNat).raise CAL.EVENT.CFG_ERR :=
    if_neg (by rw [hv]; exact Bool.false_ne_true)
  rw [execCalRun, State.bySoft_of_csrSound _ _ _ hs (by rw [h, State.raise_sys _ _ _ _ (by decide)]; rfl), h]

/-! ### A sequencer's next unit (R242-R244, R247) -/

/-- A sequencer that runs nothing and is enabled takes the first unit of its own in the queue: it defers it while it is
paused, drops it, starts it or queues it again. -/
theorem execCalUnitStart_of_next {s : State} {cu : Bool} {u : CalUnit} (hup : s.fabUp = true)
    (hsafe : s.unsafeBlock 9 = false) (hrc : cu = true ∨ s.rcState ≠ rcRunning) (hrun : s.calRun cu = none)
    (hfind : (s.fab.cal.queue.find? fun x => calElectric x == cu) = some u)
    (hen : s.on (if cu then CAL.CTRL.CU_EN else CAL.CTRL.OPT_EN) = true) :
    execCalUnitStart cu s =
      if s.on CAL.STAT.PAUSED then .next ((s.bump HLT.MC_SHED.D_DEFERRED).count ctrFtd 0x070 3)
      else if s.unitShut u then .next ((s.setQueue' (s.fab.cal.queue.filter (· != u))).unitSkipped u)
      else if s.unitFree u then
        .next (((s.setQueue' (s.fab.cal.queue.filter (· != u))).wr
          (if cu then CAL.STAT.CU_UNIT else CAL.STAT.OPT_UNIT) u.unit).partBegin cu { item := u })
      else if 64 ≤ u.defer + 1 then .next ((s.setQueue' (s.fab.cal.queue.filter (· != u))).unitSkipped u)
      else .next ((s.setQueue' (s.fab.cal.queue.filter (· != u))).calQueue { u with defer := u.defer + 1 }) := by
  have hgo : ¬ (¬ s.fabUp = true ∨ s.unsafeBlock 9 = true ∨ (cu = false ∧ s.rcState = rcRunning)) := by
    rcases hrc with rfl | hrc
    · simp [hup, hsafe]
    · simp [hup, hsafe, hrc]
  have hen' : ¬ (if cu then s.on CAL.CTRL.CU_EN else s.on CAL.CTRL.OPT_EN) = false := by
    rw [← apply_ite s.on, hen]
    decide
  rw [execCalUnitStart]
  dsimp only
  rw [if_neg hgo, hrun]
  dsimp only
  rw [hfind]
  exact if_neg hen'

/-- A lane's part begins on a trained link whose spare lane is idle: its handover is asked for. -/
theorem State.partBegin_of_lane {s : State} {x : CalRun} {k n : Nat} (hx : x.lane = some (k, n)) (hup : s.cuUp k = true)
    (hidle : s.spareIdle k = true) : s.partBegin true x =
      (s.setRun true (some { x with begun := true, held := false, locking := none, old := none })).hovStart k
        { lane := n, mine := true } := by
  rw [State.partBegin]
  dsimp only
  rw [hx]
  exact if_pos ⟨hup, hidle⟩

/-- A sequencer's register of its running unit. -/
def busyField (cu : Bool) : Field := if cu then CAL.STAT.CU_BUSY else CAL.STAT.OPT_BUSY

theorem State.setRun_busy (s : State) (cu : Bool) (x : Option CalRun) : (s.setRun cu x).rd (busyField cu) = bit x.isSome := by
  cases cu <;> cases x <;> exact State.rd_wr_self _ _ _

theorem State.setRun_regsBut (s : State) (cu : Bool) (x : Option CalRun) {l : List Field} (h : busyField cu ∈ l) :
    s.regsBut (s.setRun cu x) l := by
  cases cu <;> exact State.regsBut_trans (State.regsBut_of_regs (t := s.setCal _) rfl l) (State.regsBut_wr _ _ h)

/-- Settles O33: each trigger's lemma names the unit it queues, `calInsert`'s three cases say where it goes, and the
sequencer's next unit takes one branch of `execCalUnitStart_of_next`. -/
theorem calibrationQueue : Obligations.CalibrationQueue := by
  unfold Obligations.CalibrationQueue
  refine ⟨fun s u temp hup hon => ⟨fun hu hd => execCalTempTrigger_of_engine temp hup hon hu hd,
      fun hd htdc => execCalTempTrigger_of_copper hup hon hd htdc⟩,
    fun s k u t hup hon hk hv ht => execCalIntervalTrigger_of_due hup hon hk hv ht,
    fun s k u hs => ⟨fun hv => execCalRun_of_valid hs hv, fun hv => ?invalid⟩,
    fun s u => ⟨fun hnew hlen => ?insert, fun x hx hk hu => ?queued, fun hnew hlen => ?full⟩,
    fun s cu u hup hsafe hrc hrun hfind hen => ?next, fun s x k n hx hup hidle => ?lane⟩
  case invalid =>
    obtain ⟨⟨hflag, hseq⟩, hframe, hregs⟩ := (s.cmdUnit k.toNat u.toNat).raise_flags (f := CAL.EVENT.CFG_ERR) (v := 0) []
      (by decide) rfl (by decide) (by decide)
    obtain ⟨hkind, hunit⟩ := s.cmdUnit_shows k.isLt u.isLt
    have hcmd := s.cmdUnit_regsBut k.toNat u.toNat
    exact ⟨_, execCalRun_of_invalid hs hv, ⟨hflag, hseq.trans (by rw [State.regsBut_rd hcmd rfl])⟩,
      (State.regsBut_rd hregs rfl).trans hkind, (State.regsBut_rd hregs rfl).trans hunit, hframe,
      State.regsBut_trans (State.regsBut_mono hcmd (by decide)) (State.regsBut_mono hregs (by decide))⟩
  case insert =>
    have hins := State.calQueue_of_insert (calInsert_of_new hnew hlen)
    have hlength : (s.calQueue u).fab.cal.queue.length = s.fab.cal.queue.length + 1 := by
      rw [hins, ← length_filter_rank s.fab.cal.queue u.who.rank]
      simp only [State.setQueue', State.wr_fab, List.length_append, List.length_cons]
      omega
    refine ⟨by rw [hins]; rfl, hlength, ?_, by rw [hins]; exact s.setQueue'_regsBut _ (by simp)⟩
    have hmod : (s.calQueue u).rd CAL.STAT.QUEUED = (s.calQueue u).fab.cal.queue.length % 256 := by
      rw [hins]
      exact State.rd_wr_self _ _ _
    omega
  case queued =>
    rw [State.calQueue_of_insert (calInsert_of_queued hx hk hu)]
    rfl
  case full =>
    rw [State.calQueue_of_full (calInsert_of_full hnew hlen)]
    exact ⟨s.bump_raise_flagged [] (by decide) rfl (by decide) (by decide) (Field.key_ne_of_apart rfl),
      s.bump_raise_onlyEvent _ [] (by decide)⟩
  case next =>
    have hnext := execCalUnitStart_of_next hup hsafe hrc hrun hfind hen
    refine ⟨fun hp => ?_, fun hp hshut => ?_, fun hp hshut hfree => ?_, fun hp hshut hfree hdefer => ?_⟩
    · exact hnext.trans (if_pos hp)
    · obtain ⟨⟨hout, -, hflag⟩, hqueue⟩ := (s.setQueue' (s.fab.cal.queue.filter (· != u))).unitSkipped_shows u
      refine ⟨_, hnext.trans ?_, hout, hflag, hqueue⟩
      rw [if_neg (by simp [hp]), if_pos hshut]
    · refine hnext.trans ?_
      rw [if_neg (by simp [hp]), if_neg (by simp [hshut]), if_pos hfree]
    · refine hnext.trans ?_
      rw [if_neg (by simp [hp]), if_neg (by simp [hshut]), if_neg (by simp [hfree]), if_neg (by omega)]
  case lane =>
    rw [State.partBegin_of_lane hx hup hidle]
    refine ⟨?_, State.hovStart_hov _ _ _, State.rd_wr_self _ _ _, ?_⟩
    · exact (State.hovStart_rd _ k _ rfl).trans (State.setRun_busy s true _)
    · exact State.regsBut_trans (s.setRun_regsBut true _ (by simp [busyField])) (State.hovStart_regsBut _ k _ (by simp))

end Sys2Proof.Machine
end

section
/-! SUPPORT. Calibration's runs (08_calibration.md): the figures that a run shows, its acceptance and its rejection, a
ring's values restored, an abort, the jumps after a restore; and the statement about what a run leaves. -/
namespace Sys2Proof.Machine
open Sys2Proof

/-! ### Steps that write registers alone -/

/-- The fabric and the time are as they were. -/
def State.sameFabric (s t : State) : Prop := t.fab = s.fab ∧ t.now = s.now

theorem State.sameFabric_trans {s t u : State} (h : s.sameFabric t) (k : t.sameFabric u) : s.sameFabric u := by
  obtain ⟨hfab, hnow⟩ := h
  obtain ⟨kfab, know⟩ := k
  exact ⟨kfab.trans hfab, know.trans hnow⟩

theorem State.sameFabric_foldl {β : Type} {f : State → β → State} (h : ∀ (s : State) (x : β), s.sameFabric (f s x))
    (l : List β) (s : State) : s.sameFabric (l.foldl f s) :=
  List.foldlRecOn (motive := fun t => s.sameFabric t) _ _ ⟨rfl, rfl⟩ fun t ht x _ => State.sameFabric_trans ht (h t x)

theorem State.showNum_sameFabric (s : State) (f : Field) (v : Int) : s.sameFabric (s.showNum f v) := by
  unfold State.showNum
  split <;> exact ⟨rfl, rfl⟩

theorem State.showInt_sameFabric (s : State) (f : Field) (v : Int) : s.sameFabric (s.showInt f v) := by
  unfold State.showInt
  split <;> exact ⟨rfl, rfl⟩

theorem State.count_sameFabric (s : State) (src inst : Nat) : s.sameFabric (s.count ctrFtd src inst) :=
  State.count_keeps s src inst 1 (by decide)

/-! ### The figures that a run shows (R251) -/

/-- The registers of a unit's quality figures. -/
def qualityFields (i : Nat) : List Field := [CAL.Q.Q_HI i, CAL.Q.Q_LO i, CAL.Q2.Q2_HI i, CAL.Q2.Q2_LO i]

/-- A unit's quality figures, each with its register. -/
def figuresOf (i : Nat) (a b c d : Int) : List (Field × Int) := (qualityFields i).zip [a, b, c, d]

/-- One figure, in a signed field where it is negative. -/
def State.figure (s : State) (f : Field) (v : Int) : State := if v < 0 then s.showInt f v else s.showNum f v

theorem State.figure_keeps (s : State) {f : Field} (v : Int) {l : List Field} (h : f ∈ l) :
    s.sameFabric (s.figure f v) ∧ s.regsBut (s.figure f v) l := by
  have hmono : ∀ g ∈ [f], g ∈ l := fun g hg => List.mem_singleton.1 hg ▸ h
  unfold State.figure
  split
  · exact ⟨s.showInt_sameFabric f v, State.regsBut_mono (s.showInt_regsBut f v) hmono⟩
  · exact ⟨s.showNum_sameFabric f v, State.regsBut_mono (s.showNum_keeps f v).2 hmono⟩

theorem State.quality_eq (s : State) (i : Nat) (a b c d : Int) :
    s.quality i a b c d = (figuresOf i a b c d).foldl (fun t x => t.figure x.1 x.2) s := rfl

/-- A unit's figures shown write their registers alone. -/
theorem State.quality_keeps (s : State) (i : Nat) (a b c d : Int) :
    s.sameFabric (s.quality i a b c d) ∧ s.regsBut (s.quality i a b c d) (qualityFields i) := by
  rw [State.quality_eq]
  exact List.foldlRecOn (motive := fun t => s.sameFabric t ∧ s.regsBut t (qualityFields i)) _ _
    ⟨⟨rfl, rfl⟩, s.regsBut_refl _⟩ fun t ⟨hsame, hregs⟩ x hx =>
      have ⟨ksame, kregs⟩ := t.figure_keeps x.2 (List.of_mem_zip hx).1
      ⟨State.sameFabric_trans hsame ksame, State.regsBut_trans hregs kregs⟩

/-- What is not stated of a change is drawn: registers, fabric and time stay. -/
theorem State.change_keeps (s : State) (old : Option Int) (v : Int) :
    s.sameFabric (s.change old v).2 ∧ (s.change old v).2.regs = s.regs := by
  cases old <;> exact ⟨⟨rfl, rfl⟩, rfl⟩

/-- The reason of a RING run does not depend on the figures that it shows. -/
theorem State.quality_ringReason (s : State) (l : Nat) (w : RingVals) (i : Nat) (a b c d : Int) :
    (s.quality i a b c d).ringReason l w = s.ringReason l w := by
  obtain ⟨⟨hfab, -⟩, hregs⟩ := s.quality_keeps i a b c d
  have hrd {g : Field} (hg : (qualityFields i).all (Field.apart g) = true) : (s.quality i a b c d).rd g = s.rd g :=
    State.regsBut_rd hregs hg
  have hactive (j : Nat) : (s.quality i a b c d).rdI (JIG.CMAT_DATA.ACTIVE j) = s.rdI (JIG.CMAT_DATA.ACTIVE j) :=
    congrArg (signedOf 16) (hrd rfl)
  simp only [State.ringReason, State.loop_congr (congrArg Fabric.jig hfab), hactive, hrd (g := CAL.LIM_RING.ETA_DRIFT) rfl,
    hrd (g := CAL.LIM_RING.ETA_MIN) rfl, hrd (g := CAL.LIM_RING.ETA_MAX) rfl, hrd (g := CAL.LIM_RING.DARK_MAX) rfl,
    hrd (g := JIG.SWEEP_CFG.PMAX) rfl, hrd (g := CAL.LIM_XT.STEP_MAX) rfl, hrd (g := CAL.LIM_XT.ABS_MAX) rfl]

/-- A RING run's reason is one of its five steps. -/
theorem State.ringReason_le (s : State) (l : Nat) (v : RingVals) : s.ringReason l v ≤ 5 := by
  unfold State.ringReason
  dsimp only
  repeat' split
  all_goals decide

/-! ### What the end of a run keeps -/

/-- The time, the copper links, every ring's values and the accepted values are as they were. -/
def State.keepsValues (s t : State) : Prop :=
  t.now = s.now ∧ t.fab.cu = s.fab.cu ∧ (∀ l, (t.loop l).cal = (s.loop l).cal) ∧ t.fab.cal.values = s.fab.cal.values

theorem State.keepsValues_trans {s t u : State} (h : s.keepsValues t) (k : t.keepsValues u) : s.keepsValues u := by
  obtain ⟨hnow, hcu, hloop, hvals⟩ := h
  obtain ⟨know, kcu, kloop, kvals⟩ := k
  exact ⟨know.trans hnow, kcu.trans hcu, fun l => (kloop l).trans (hloop l), kvals.trans hvals⟩

theorem State.keepsValues_of_sameFabric {s t : State} (h : s.sameFabric t) : s.keepsValues t := by
  obtain ⟨hfab, hnow⟩ := h
  exact ⟨hnow, congrArg Fabric.cu hfab, fun l => congrArg Loop.cal (State.loop_congr (congrArg Fabric.jig hfab) l),
    congrArg (fun f : Fabric => f.cal.values) hfab⟩

/-- A loop's record replaced by one with the same values changes no ring's values. -/
theorem State.setLoop_keepsValues {s : State} {l : Nat} {x : Loop} (h : x.cal = (s.loop l).cal) :
    s.keepsValues (s.setLoop l x) := by
  refine ⟨rfl, rfl, fun j => ?_, rfl⟩
  by_cases hj : j = l
  · rw [hj, State.setLoop_loop_self, h]
  · exact congrArg Loop.cal (Tbl.lookD_put_ne _ _ _ _ hj)

/-- A ring marked for replacement is noted in no register and no ring's values. -/
theorem State.markRing_keeps (s : State) (l : Nat) : (s.markRing l).regs = s.regs ∧ s.keepsValues (s.markRing l) := by
  have hsame : s.regs = s.regs ∧ s.keepsValues s := ⟨rfl, rfl, rfl, fun _ => rfl, rfl⟩
  unfold State.markRing
  split
  · exact hsame
  · dsimp only
    split
    · exact hsame
    · exact ⟨rfl, rfl, rfl, fun _ => rfl, rfl⟩

/-- A ring sent to its target, and its port's B to be released, write no register. -/
theorem State.jumpBack_keeps (s : State) (l : Nat) (c : RingCmd) :
    (s.jumpBack l c).regs = s.regs ∧ s.keepsValues (s.jumpBack l c) := by
  have hrelease : (s.releaseAfter l).regs = s.regs ∧ s.keepsValues (s.releaseAfter l) := by
    unfold State.releaseAfter
    split
    · exact ⟨rfl, rfl, rfl, fun _ => rfl, rfl⟩
    · dsimp only
      split <;> exact ⟨rfl, rfl, rfl, fun _ => rfl, rfl⟩
  obtain ⟨hregs, hkeeps⟩ := hrelease
  unfold State.jumpBack
  dsimp only
  split
  · exact ⟨hregs, State.keepsValues_trans hkeeps (State.setLoop_keepsValues rfl)⟩
  · exact ⟨hregs, hkeeps⟩

@[simp] theorem State.calRun_opt (s : State) : s.calRun false = s.fab.cal.opt := rfl

@[simp] theorem State.calRun_cu (s : State) : s.calRun true = s.fab.cal.cu := rfl

/-- A sequencer that runs nothing any more shows it. -/
theorem State.setRun_none_shows (s : State) (cu : Bool) :
    (s.setRun cu none).calRun cu = none ∧ (s.setRun cu none).rd (busyField cu) = 0 ∧ s.keepsValues (s.setRun cu none) := by
  refine ⟨?_, s.setRun_busy cu none, ?_⟩
  · cases cu <;> rfl
  · cases cu <;> exact ⟨rfl, rfl, fun _ => rfl, rfl⟩

/-! ### A run of one part (R238) -/

theorem CalRun.partUnit_of_single {x : CalRun} (h7 : x.item.kind ≠ 7) (h8 : x.item.kind ≠ 8) : x.partUnit = x.item := by
  obtain ⟨⟨kind, unit, who, defer⟩, part⟩ := x
  by_cases h2 : kind = 2
  · subst h2
    simp [CalRun.partUnit, CalRun.lane, Nat.div_add_mod]
  · by_cases h1 : kind = 1
    · subst h1
      rfl
    · simp_all [CalRun.partUnit, CalRun.lane, CalRun.loop]

/-- A run of one part ends with it. -/
theorem State.partEnd_of_single (s : State) (cu : Bool) {x : CalRun} (h7 : x.item.kind ≠ 7) (h8 : x.item.kind ≠ 8)
    (reason : Nat) : s.partEnd cu x reason = s.setRun cu none := by
  have hparts : x.item.parts = 1 := by rw [CalUnit.parts, if_neg h7, if_neg h8]
  rw [State.partEnd]
  dsimp only
  rw [hparts, if_neg (by omega), if_neg (by decide)]

theorem CalRun.loop_of_ring {x : CalRun} {l : Nat} (hk : x.item.kind = 1) (hu : x.item.unit = l) : x.loop = some l := by
  rw [CalRun.loop, if_pos hk, hu]

/-! ### A run rejected (R252) -/

/-- A rejection counted, and the unit's rejections in a row. -/
def State.rejectNoted (s : State) (u : CalUnit) : State :=
  let i := calKey u.kind u.unit
  (s.setCal { s.fab.cal with rejects := Tbl.set s.fab.cal.rejects i (Tbl.lookD s.fab.cal.rejects 0 i + 1) }).bump
    CAL.COUNTS.REJECTED

theorem State.rejectNoted_keepsValues (s : State) (u : CalUnit) : s.keepsValues (s.rejectNoted u) :=
  ⟨rfl, rfl, fun _ => rfl, rfl⟩

theorem State.calOutcome_keepsValues (s : State) (u : CalUnit) (o r : Nat) : s.keepsValues (s.calOutcome u o r) :=
  ⟨rfl, rfl, fun _ => rfl, rfl⟩

/-- A rejection counted, recorded and raised; one with reason 8 is reported too. -/
def State.rejectShown (s : State) (u : CalUnit) (r : Nat) : State :=
  let t := (s.rejectNoted u).calOutcome u 2 r
  if r = 8 then t.report CAL.EVENT.REJECTED sevWarning (leBytes 4 (calKey u.kind u.unit))
  else t.raise CAL.EVENT.REJECTED sevWarning (leBytes 4 (calKey u.kind u.unit))

/-- A ring that is rejected too often in a row is marked for replacement. -/
theorem State.runRejected_eq (s : State) (u : CalUnit) (r : Nat) : s.runRejected u r =
    if u.kind = 1 ∧ 3 ≤ Tbl.lookD s.fab.cal.rejects 0 (calKey u.kind u.unit) + 1 then (s.rejectShown u r).markRing u.unit
    else s.rejectShown u r := rfl

theorem State.rejectShown_shows (s : State) (u : CalUnit) {r : Nat} (hr : r < 16) :
    (s.rejectShown u r).verdict (calKey u.kind u.unit) 2 r CAL.EVENT.REJECTED ∧ s.keepsValues (s.rejectShown u r) := by
  have hreport := (s.rejectNoted u).verdict_of_report u 2 r (f := CAL.EVENT.REJECTED) sevWarning
    (leBytes 4 (calKey u.kind u.unit)) rfl (by decide) (by decide) rfl
  have hraise := (s.rejectNoted u).verdict_of_raise u 2 r (f := CAL.EVENT.REJECTED) sevWarning
    (leBytes 4 (calKey u.kind u.unit)) rfl (by decide) (by decide) rfl
  rw [Nat.mod_eq_of_lt hr] at hreport hraise
  have hnoted := State.keepsValues_trans (s.rejectNoted_keepsValues u) ((s.rejectNoted u).calOutcome_keepsValues u 2 r)
  unfold State.rejectShown
  dsimp only
  split
  · exact ⟨hreport, State.keepsValues_trans hnoted
      (State.keepsValues_of_sameFabric ⟨State.report_fab _ _ _ _, State.report_now _ _ _ _⟩)⟩
  · exact ⟨hraise, State.keepsValues_trans hnoted
      (State.keepsValues_of_sameFabric ⟨State.raise_fab _ _ _ _, State.raise_now _ _ _ _⟩)⟩

/-- A rejection is a verdict, and no value is accepted or changed. -/
theorem State.runRejected_shows (s : State) (u : CalUnit) {r : Nat} (hr : r < 16) :
    (s.runRejected u r).verdict (calKey u.kind u.unit) 2 r CAL.EVENT.REJECTED ∧ s.keepsValues (s.runRejected u r) := by
  obtain ⟨hverdict, hkeeps⟩ := s.rejectShown_shows u hr
  obtain ⟨hregs, hmark⟩ := (s.rejectShown u r).markRing_keeps u.unit
  rw [State.runRejected_eq]
  split
  · exact ⟨State.verdict_of_regsBut hverdict (State.regsBut_of_regs hregs []) rfl, State.keepsValues_trans hkeeps hmark⟩
  · exact ⟨hverdict, hkeeps⟩

/-- A rejected run of one part: its sequencer is free. -/
theorem State.rejectedEnd_shows (s : State) (cu : Bool) {x : CalRun} (h7 : x.item.kind ≠ 7) (h8 : x.item.kind ≠ 8) {r : Nat}
    (hr : r < 16) :
    let t := (s.runRejected x.item r).partEnd cu x r
    t.verdict (calKey x.item.kind x.item.unit) 2 r CAL.EVENT.REJECTED ∧ t.calRun cu = none ∧ s.keepsValues t := by
  obtain ⟨hverdict, hkeeps⟩ := s.runRejected_shows x.item hr
  obtain ⟨hrun, -, kkeeps⟩ := (s.runRejected x.item r).setRun_none_shows cu
  dsimp only
  rw [State.partEnd_of_single _ _ h7 h8]
  refine ⟨State.verdict_of_regsBut hverdict (State.setRun_regsBut _ cu none (List.mem_singleton.2 rfl)) ?_, hrun,
    State.keepsValues_trans hkeeps kkeeps⟩
  cases cu <;> rfl

/-- A rejected RING run: its ring is sent back to its target between. -/
theorem State.ringRejected_shows (s : State) {x : CalRun} {l : Nat} (hk : x.item.kind = 1) (hu : x.item.unit = l)
    (c : RingCmd) {r : Nat} (hr : r < 16) :
    let t := ((s.runRejected x.partUnit r).jumpBack l c).partEnd false x r
    t.verdict (calKey 1 l) 2 r CAL.EVENT.REJECTED ∧ t.fab.cal.opt = none ∧ t.rd CAL.STAT.OPT_BUSY = 0 ∧ s.keepsValues t := by
  have h7 : x.item.kind ≠ 7 := by omega
  have h8 : x.item.kind ≠ 8 := by omega
  obtain ⟨hverdict, hkeeps⟩ := s.runRejected_shows x.item hr
  obtain ⟨hregs, hjump⟩ := (s.runRejected x.item r).jumpBack_keeps l c
  obtain ⟨hrun, hbusy, hend⟩ := ((s.runRejected x.item r).jumpBack l c).setRun_none_shows false
  dsimp only
  rw [CalRun.partUnit_of_single h7 h8, State.partEnd_of_single _ _ h7 h8]
  rw [hk, hu] at hverdict
  exact ⟨State.verdict_of_regsBut (State.verdict_of_regsBut hverdict (State.regsBut_of_regs hregs []) rfl)
      (State.setRun_regsBut _ false none (List.mem_singleton.2 rfl)) rfl,
    hrun, hbusy, State.keepsValues_trans hkeeps (State.keepsValues_trans hjump hend)⟩

/-! ### A run accepted (R251) -/

/-- A unit's history begun again, and its values kept. -/
def State.acceptNoted (s : State) (u : CalUnit) (vals : List Int) : State :=
  let i := calKey u.kind u.unit
  let c := s.fab.cal
  s.setCal { c with lastAt := Tbl.set c.lastAt i s.now, rejects := Tbl.del c.rejects i,
                    values := if vals = [] then c.values else Tbl.set c.values i vals }

/-- An acceptance noted, counted, recorded and raised. -/
def State.acceptShown (s : State) (u : CalUnit) (vals : List Int) : State :=
  ((((s.acceptNoted u vals).bump CAL.COUNTS.ACCEPTED).count ctrFtd 0x071 0).calOutcome u 1 0).raise CAL.EVENT.DONE

/-- Values that are accepted are not saved yet. -/
theorem State.runAccepted_eq (s : State) (u : CalUnit) (vals : List Int) : s.runAccepted u vals =
    if vals = [] then s.acceptShown u vals else (s.acceptShown u vals).wr CAL.STORE_STAT.DIRTY 1 := rfl

theorem State.acceptShown_shows (s : State) (u : CalUnit) (vals : List Int) :
    (s.acceptShown u vals).verdict (calKey u.kind u.unit) 1 0 CAL.EVENT.DONE ∧
      (s.acceptShown u vals).fab.cal.lastAt = Tbl.set s.fab.cal.lastAt (calKey u.kind u.unit) s.now ∧
      (s.acceptShown u vals).fab.cal.tdcDue = s.fab.cal.tdcDue := by
  obtain ⟨hcount, -⟩ := ((s.acceptNoted u vals).bump CAL.COUNTS.ACCEPTED).count_sameFabric 0x071 0
  refine ⟨State.verdict_of_raise _ u 1 0 _ _ rfl (by decide) (by decide) rfl, ?_, ?_⟩
  · rw [State.acceptShown, State.raise_fab]
    exact congrArg (·.cal.lastAt) hcount
  · rw [State.acceptShown, State.raise_fab]
    exact congrArg (·.cal.tdcDue) hcount

/-- An acceptance is a verdict, and its unit's last accepted run is now. -/
theorem State.runAccepted_shows (s : State) (u : CalUnit) (vals : List Int) :
    (s.runAccepted u vals).verdict (calKey u.kind u.unit) 1 0 CAL.EVENT.DONE ∧
      (s.runAccepted u vals).fab.cal.lastAt = Tbl.set s.fab.cal.lastAt (calKey u.kind u.unit) s.now ∧
      (s.runAccepted u vals).fab.cal.tdcDue = s.fab.cal.tdcDue := by
  obtain ⟨hverdict, hcal⟩ := s.acceptShown_shows u vals
  rw [State.runAccepted_eq]
  split
  · exact ⟨hverdict, hcal⟩
  · rw [State.wr_fab]
    exact ⟨State.verdict_of_regsBut hverdict (State.regsBut_wr _ 1 (List.mem_singleton.2 rfl)) rfl, hcal⟩

/-- An accepted run of one part: its sequencer is free. -/
theorem State.acceptedEnd_shows (s : State) (cu : Bool) {x : CalRun} (h7 : x.item.kind ≠ 7) (h8 : x.item.kind ≠ 8)
    (vals : List Int) :
    let i := calKey x.item.kind x.item.unit
    let t := (s.runAccepted x.item vals).partEnd cu x 0
    t.verdict i 1 0 CAL.EVENT.DONE ∧ t.calRun cu = none ∧ Tbl.look t.fab.cal.lastAt i = some s.now ∧
      t.fab.cal.tdcDue = s.fab.cal.tdcDue := by
  obtain ⟨hverdict, hlast, htdc⟩ := s.runAccepted_shows x.item vals
  obtain ⟨hrun, -⟩ := (s.runAccepted x.item vals).setRun_none_shows cu
  have hcal : ((s.runAccepted x.item vals).setRun cu none).fab.cal.lastAt = (s.runAccepted x.item vals).fab.cal.lastAt ∧
      ((s.runAccepted x.item vals).setRun cu none).fab.cal.tdcDue = (s.runAccepted x.item vals).fab.cal.tdcDue := by
    cases cu <;> exact ⟨rfl, rfl⟩
  obtain ⟨klast, ktdc⟩ := hcal
  dsimp only
  rw [State.partEnd_of_single _ _ h7 h8, klast, hlast, ktdc]
  refine ⟨State.verdict_of_regsBut hverdict (State.setRun_regsBut _ cu none (List.mem_singleton.2 rfl)) ?_, hrun,
    Tbl.look_set_self _ _ _, htdc⟩
  cases cu <;> rfl

/-! ### RING runs (R244-R246, R251) -/

/-- A RING run's figures shown; a ring of low efficiency, or one whose heater fails its test, marked for replacement. -/
def State.measured (s : State) (l : Nat) (v : RingVals) : State :=
  let q := s.quality (calKey 1 l) 0 v.dark v.eta v.rh
  if ((ringOf l).isSome && decide (100 * v.eta < 70 * Config.patchEta l)) || q.ringReason l v == 4 then q.markRing l else q

theorem State.measured_keepsValues (s : State) (l : Nat) (v : RingVals) : s.keepsValues (s.measured l v) := by
  obtain ⟨hsame, -⟩ := s.quality_keeps (calKey 1 l) 0 v.dark v.eta v.rh
  have hq := State.keepsValues_of_sameFabric hsame
  unfold State.measured
  dsimp only
  split
  · exact State.keepsValues_trans hq (State.markRing_keeps _ l).2
  · exact hq

theorem State.ringDone_of_reason {s : State} {x : CalRun} {l r : Nat} {v : RingVals} (hr : s.ringReason l v = r) (h0 : r ≠ 0) :
    s.ringDone x l v = (((s.measured l v).runRejected x.partUnit r).jumpBack l .jump).partEnd false x r := by
  have hreason := (s.quality_ringReason l v (calKey 1 l) 0 v.dark v.eta v.rh).trans hr
  rw [State.ringDone]
  dsimp only
  rw [if_pos (by rw [hreason]; exact h0), hreason, State.measured, hreason]

/-- What a ring's part has measured is its results; a spare loop has no colours. -/
theorem execCalRunComplete_of_ring {s : State} {x : CalRun} {l : Nat} {peaks : List PeakMeas} {dark rh : Nat}
    {slope gOn gOff : Int} {peak phi : Nat} {col : List (Nat × Int)} (hup : s.fabUp = true) (hrun : s.fab.cal.opt = some x)
    (hb : x.begun = true) (hl : x.loop = some l) (hlock : x.locking = none) (hheld : x.held = true) :
    let v := s.ringVals l peaks dark rh slope gOn gOff peak phi col
    execCalRunComplete false (.ring peaks dark rh slope gOn gOff peak phi col) s =
      .next (s.ringDone x l (if (ringOf l).isNone then { v with pcal := [] } else v)) := by
  have hgo : ¬ (x.locking.isSome = true ∨ (¬ x.held = true ∧ (s.ringTarget l).isSome = true)) := by simp [hlock, hheld]
  rw [execCalRunComplete, State.calRun_opt, hrun]
  dsimp only
  rw [if_neg (by simp [hup, hb]), hl]
  dsimp only
  rw [if_neg hgo]
  split <;> rfl

/-- A calibrated ring that is LOCKED again ends its run, with the values that wait for it. -/
theorem execCalRunComplete_of_locked {s : State} {x : CalRun} {l t0 : Nat} (r : Nat) (hup : s.fabUp = true)
    (hrun : s.fab.cal.opt = some x) (hb : x.begun = true) (hl : x.loop = some l) (hlock : x.locking = some t0)
    (hst : s.ringSt l = rgLocked) : ∃ vals, execCalRunComplete false (.locked r) s =
      .next (((s.showNum (CAL.Q.Q_HI (calKey 1 l)) r).runAccepted x.partUnit vals).partEnd false x 0) := by
  rw [execCalRunComplete, State.calRun_opt, hrun]
  dsimp only
  rw [if_neg (by simp [hup, hb]), hl, hlock]
  exact ⟨_, if_neg (Classical.not_not.2 hst)⟩

/-! ### A ring's old values (R252) -/

/-- Copies of matrix elements, and a column's elements, are writes of registers. -/
theorem State.cmatCopy_sameFabric (s : State) (e : Nat) : s.sameFabric (s.cmatCopy e) :=
  State.sameFabric_foldl (f := State.cmatCopyOne) (fun _ _ => ⟨rfl, rfl⟩) _ s

/-- An element of a loop's column written into the shadow bank. -/
def State.putElem (l : Nat) (s : State) (x : Nat × Int) : State :=
  s.wrI (JIG.CMAT_DATA.SHADOW (cmatIdx (l / 44) x.1 (l % 44))) x.2

/-- A column put into the matrix is in no loop's record. -/
theorem State.putColumn_keeps (s : State) (l : Nat) (col : List (Nat × Int)) :
    (s.putColumn l col).now = s.now ∧ (s.putColumn l col).fab.jig.loops = s.fab.jig.loops := by
  unfold State.putColumn
  split
  · exact ⟨rfl, rfl⟩
  · dsimp only
    have hcol (t : State) : t.sameFabric (col.foldl (State.putElem l) t) :=
      State.sameFabric_foldl (f := State.putElem l) (fun _ _ => ⟨rfl, rfl⟩) col t
    have hcopy : s.sameFabric (if bitOf s.fab.jig.cmat (l / 44) then s else s.cmatCopy (l / 44)) := by
      split
      · exact ⟨rfl, rfl⟩
      · exact s.cmatCopy_sameFabric (l / 44)
    obtain ⟨hfab, hnow⟩ := State.sameFabric_trans hcopy (hcol _)
    exact ⟨hnow, (congrArg (fun f : Fabric => f.jig.loops) hfab :)⟩

/-- A calibrated ring back on the values it had before its run, but for its column of the matrix. -/
def State.ringBack (s : State) (x : CalRun) (l : Nat) (c : LoopCal) : State :=
  ((s.setLoop l { s.loop l with cal := c }).wr (ED.DAC_RH.RH (l / 88) (edChannel false (l / 44) (l % 44))) x.oldRh).wr
    (JIG.L_DITH.PHI l) x.oldPhi

/-- A calibrated ring back on the values it had before its run; those it was given are no longer accepted ones. -/
def State.valuesBack (s : State) (x : CalRun) (l : Nat) (c : LoopCal) : State :=
  let s := ((s.ringBack x l c).putColumn l (x.oldCol.map fun y => (y.1, signedOf 16 y.2))).showCal l
  s.setCal { s.fab.cal with values := Tbl.del s.fab.cal.values (calKey 1 l) }

theorem State.valuesBack_shows (s : State) (x : CalRun) (l : Nat) (c : LoopCal) :
    (s.valuesBack x l c).now = s.now ∧ ((s.valuesBack x l c).loop l).cal = c ∧
      Tbl.look (s.valuesBack x l c).fab.cal.values (calKey 1 l) = none := by
  obtain ⟨hnow, hloops⟩ := (s.ringBack x l c).putColumn_keeps l (x.oldCol.map fun y => (y.1, signedOf 16 y.2))
  exact ⟨hnow, (congrArg (fun j : Tbl Loop => (Tbl.lookD j {} l).cal) hloops).trans
    (congrArg Loop.cal (State.setLoop_loop_self s l { s.loop l with cal := c })), Tbl.look_del_self _ _⟩

theorem execCalLockTimeout_of_unlocked {s : State} {x : CalRun} {l t0 : Nat} {c : LoopCal} (hup : s.fabUp = true)
    (hrun : s.fab.cal.opt = some x) (hl : x.loop = some l) (hlock : x.locking = some t0) (hold : x.old = some c)
    (hst : s.ringSt l ≠ rgLocked) : execCalLockTimeout s =
      .next (((((s.advance (t0 + Config.ns 5000000)).valuesBack x l c).runRejected x.partUnit 11).jumpBack l .relock).partEnd
        false x 11) := by
  rw [execCalLockTimeout, hrun]
  dsimp only
  rw [hl, hlock, hold]
  exact if_neg (by simp [hup, hst])

/-! ### LANE, LINK and TDC runs (R247-R250) -/

/-- A lane's figures shown, with its changes against the values it has. -/
def State.laneShown (s : State) (u w h : Nat) (tx rx : Int) : State :=
  let ct := s.change (s.stored 2 u 0) tx
  let cr := ct.2.change (s.stored 2 u 1) rx
  cr.2.quality (calKey 2 u) w h ct.1 cr.1

theorem State.laneShown_keeps (s : State) (u w h : Nat) (tx rx : Int) :
    s.sameFabric (s.laneShown u w h tx rx) ∧ s.regsBut (s.laneShown u w h tx rx) (qualityFields (calKey 2 u)) := by
  obtain ⟨htx, ktx⟩ := s.change_keeps (s.stored 2 u 0) tx
  obtain ⟨hrx, krx⟩ := (s.change (s.stored 2 u 0) tx).2.change_keeps (s.stored 2 u 1) rx
  obtain ⟨hq, kq⟩ := State.quality_keeps ((s.change (s.stored 2 u 0) tx).2.change (s.stored 2 u 1) rx).2 (calKey 2 u) w h
    (s.change (s.stored 2 u 0) tx).1 ((s.change (s.stored 2 u 0) tx).2.change (s.stored 2 u 1) rx).1
  exact ⟨State.sameFabric_trans htx (State.sameFabric_trans hrx hq),
    State.regsBut_trans (State.regsBut_of_regs (krx.trans ktx) _) kq⟩

/-- A lane whose eye is too narrow is rejected with reason 6, after its return has begun. -/
theorem State.laneDone_of_narrow {s : State} {x : CalRun} {k n w h : Nat} {tx rx : Int} (trims : List Int)
    (hw : w < s.rd CAL.LIM_LANE.EYE_W_MIN) : s.laneDone x k n w h tx rx trims =
      (((s.laneShown x.partUnit.unit w h tx rx).cuBack k n).runRejected x.partUnit 6).partEnd true x 6 := by
  obtain ⟨-, hregs⟩ := s.laneShown_keeps x.partUnit.unit w h tx rx
  have hlim : (s.laneShown x.partUnit.unit w h tx rx).rd CAL.LIM_LANE.EYE_W_MIN = s.rd CAL.LIM_LANE.EYE_W_MIN :=
    State.regsBut_rd hregs rfl
  have hnarrow : w < (s.laneShown x.partUnit.unit w h tx rx).rd CAL.LIM_LANE.EYE_W_MIN ∨
      h < (s.laneShown x.partUnit.unit w h tx rx).rd CAL.LIM_LANE.EYE_H_MIN := .inl (hlim ▸ hw)
  unfold State.laneShown at hnarrow
  rw [State.laneDone, State.laneShown]
  dsimp only at hnarrow ⊢
  rw [if_pos hnarrow, if_neg (by decide)]

/-- A link's record is the fabric's list of them. -/
theorem State.cuLink_of_cu {s t : State} (h : t.fab.cu = s.fab.cu) (k : Nat) : t.cuLink k = s.cuLink k :=
  congrArg (fun c : Tbl CuLink => Tbl.lookD c {} k) h

/-- A lane lent on a trained link whose spare lane does nothing else is asked back. -/
theorem State.cuBack_of_lent {s : State} {k n : Nat} (hup : s.cuUp k = true) (hloan : (s.cuLink k).loan = some n)
    (hhov : (s.cuLink k).hov = none) : s.cuBack k n = s.hovStart k { lane := n, back := true, mine := true } :=
  if_pos ⟨hup, hloan, by rw [hhov]; rfl⟩

/-- A LANE run rejected with reason 6: the lane's return is asked for, and its sequencer is free. -/
theorem State.laneRejected_shows {s : State} {x : CalRun} {k n w h : Nat} {tx rx : Int} (hk : x.item.kind = 2)
    (hu : x.item.unit = 16 * k + n) (hup : s.cuUp k = true) (hloan : (s.cuLink k).loan = some n)
    (hhov : (s.cuLink k).hov = none) :
    let t := (((s.laneShown x.item.unit w h tx rx).cuBack k n).runRejected x.item 6).partEnd true x 6
    t.rd (CAL.RES.OUTCOME (calKey 2 (16 * k + n))) = 2 ∧ t.rd (CAL.RES.REASON (calKey 2 (16 * k + n))) = 6 ∧
      (t.cuLink k).hov = some { lane := n, back := true, mine := true } ∧ t.fab.cal.cu = none := by
  obtain ⟨⟨hfab, -⟩, hregs⟩ := s.laneShown_keeps x.item.unit w h tx rx
  have hlink := State.cuLink_congr hfab k
  have hback := State.cuBack_of_lent (s := s.laneShown x.item.unit w h tx rx)
    ((congrArg (· == 5) (State.regsBut_rd hregs rfl)).trans hup) (by rw [hlink, hloan]) (by rw [hlink, hhov])
  obtain ⟨⟨hout, hreason, -⟩, hrun, -, hcu, -⟩ := ((s.laneShown x.item.unit w h tx rx).cuBack k n).rejectedEnd_shows true
    (x := x) (by omega) (by omega) (show 6 < 16 by decide)
  have hkey : calKey x.item.kind x.item.unit = calKey 2 (16 * k + n) := by rw [hk, hu]
  rw [hkey] at hout hreason
  refine ⟨hout, hreason, ?_, hrun⟩
  rw [State.cuLink_of_cu hcu, hback]
  exact State.hovStart_hov _ k _

theorem execCalRunComplete_of_lane {s : State} {x : CalRun} {k n w h : Nat} {tx rx : Int} {trims : List Int}
    (hup : s.fabUp = true) (hrun : s.fab.cal.cu = some x) (hb : x.begun = true) (hlane : x.lane = some (k, n))
    (hloan : (s.cuLink k).loan = some n) :
    execCalRunComplete true (.lane w h tx rx trims) s = .next (s.laneDone x k n w h tx rx trims) := by
  rw [execCalRunComplete, State.calRun_cu, hrun]
  dsimp only
  rw [if_neg (by simp [hup, hb]), hlane]
  exact if_pos hloan

theorem execCalRunComplete_of_link {s : State} {x : CalRun} {tx rx : Int} {rms : Nat} {ft asym : Int} {n : Nat}
    (hup : s.fabUp = true) (hrun : s.fab.cal.cu = some x) (hb : x.begun = true) (hk : x.partUnit.kind = 4) :
    execCalRunComplete true (.link tx rx rms ft asym n) s = .next (s.linkDone true x tx rx rms ft asym n) := by
  rw [execCalRunComplete, State.calRun_cu, hrun]
  dsimp only
  rw [if_neg (by simp [hup, hb]), if_pos hk]

/-- A TDC run's figures shown, and its unit due with the next copper trigger. -/
def State.tdcTaken (s : State) (big small : Nat) : State :=
  let q := s.quality (calKey 3 0) big small 0 0
  q.setCal { q.fab.cal with tdcDue := true }

/-- A TDC run is accepted where its widths lie between the limits, and rejected with reason 10 elsewhere. -/
theorem execCalRunComplete_of_tdc {s : State} {x : CalRun} {big small : Nat} {tbl : List Int} (hup : s.fabUp = true)
    (hrun : s.fab.cal.cu = some x) (hb : x.begun = true) (hk : x.item.kind = 3) :
    execCalRunComplete true (.tdc big small tbl) s =
      if small < 50 ∨ 150 < big then
        .next (((s.quality (calKey 3 0) big small 0 0).runRejected x.item 10).partEnd true x 10)
      else .next (((s.tdcTaken big small).runAccepted x.item ([(big : Int), (small : Int)] ++ tbl)).partEnd true x 0) := by
  rw [execCalRunComplete, State.calRun_cu, hrun]
  dsimp only
  rw [if_neg (by simp [hup, hb])]
  exact if_neg (Classical.not_not.2 hk)

/-! ### An abort (R257) -/

/-- A run aborted is a verdict, and changes nothing of the fabric but calibration's own record; what else it writes stands
apart from BUSY. -/
theorem State.calAborted_shows (s : State) (u : CalUnit) (r : Nat) :
    (s.calAborted u r).verdict (calKey u.kind u.unit) 3 (r % 16) CAL.EVENT.ABORTED ∧
      (s.calAborted u r).fab.cal.cu = s.fab.cal.cu ∧ (s.calAborted u r).rd CAL.STAT.CU_BUSY = s.rd CAL.STAT.CU_BUSY ∧
      (s.calAborted u r).sys = s.sys := by
  obtain ⟨hfab, hsys, hregs⟩ := ((((s.bump CAL.COUNTS.ABORTED).calOutcome u 3 r).raise CAL.EVENT.ABORTED)).calQueue_keeps
    { u with defer := 0 }
  have hverdict := (s.bump CAL.COUNTS.ABORTED).verdict_of_raise u 3 r (f := CAL.EVENT.ABORTED) 0 [] rfl (by decide)
    (by decide) rfl
  refine ⟨State.verdict_of_regsBut hverdict hregs rfl, ?_, ?_, ?_⟩
  · rw [State.calAborted, hfab, State.raise_fab]
    rfl
  · rw [State.calAborted, State.regsBut_rd hregs rfl, State.raise_rd_ne _ _ _ (Field.key_ne_of_apart rfl)
      (Field.key_ne_of_apart rfl) (by decide), State.regsBut_rd (State.calOutcome_regsBut _ u 3 r) rfl,
      State.rd_bump_ne _ (Field.key_ne_of_apart rfl)]
  · exact hsys.trans (State.raise_sys _ _ _ _ (by decide))

theorem State.calAbortCu_of_run {s : State} {x : CalRun} (h : s.fab.cal.cu = some x) (r : Nat) :
    s.calAbortCu r = ((s.setCal { s.fab.cal with cu := none }).wr CAL.STAT.CU_BUSY 0).calAborted x.item r := by
  rw [State.calAbortCu, h]
  rfl

theorem State.cuAborted_shows (s : State) (u : CalUnit) (r : Nat) :
    let t := ((s.setCal { s.fab.cal with cu := none }).wr CAL.STAT.CU_BUSY 0).calAborted u r
    t.fab.cal.cu = none ∧ t.rd CAL.STAT.CU_BUSY = 0 ∧ t.on CAL.EVENT.ABORTED = true ∧
      t.rd (CAL.RES.OUTCOME (calKey u.kind u.unit)) = 3 ∧
      t.rd (CAL.RES.REASON (calKey u.kind u.unit)) = r % 2 ^ (CAL.RES.REASON (calKey u.kind u.unit)).width := by
  obtain ⟨⟨hout, hreason, hflag⟩, hcu, hbusy, -⟩ :=
    ((s.setCal { s.fab.cal with cu := none }).wr CAL.STAT.CU_BUSY 0).calAborted_shows u r
  exact ⟨hcu, hbusy.trans (State.rd_wr_self _ _ _), hflag, hout, hreason⟩

theorem State.calAbortOpt_of_none {s : State} (h : s.fab.cal.opt = none) (r : Nat) : s.calAbortOpt r = s := by
  rw [State.calAbortOpt, h]

theorem execCalAbort_of_idle {s : State} (hs : s.csrSound) (hopt : s.fab.cal.opt = none) (hcu : s.fab.cal.cu = none) :
    execCalAbort s = .next s := by
  have h : s.calAbort = s := by
    rw [State.calAbort, State.calAbortOpt_of_none hopt]
    dsimp only
    rw [hcu]
  rw [execCalAbort, State.byCmd, State.bySoft_of_csrSound _ _ _ hs (by rw [h]), h]

/-- An abort of an electrical unit without a lane gives no lane back. -/
theorem execCalAbort_of_cu {s : State} {x : CalRun} (hs : s.csrSound) (hopt : s.fab.cal.opt = none)
    (hcu : s.fab.cal.cu = some x) (hlane : x.lane = none) : execCalAbort s = .next (s.calAbortCu 0) := by
  have h : s.calAbort = s.calAbortCu 0 := by
    rw [State.calAbort, State.calAbortOpt_of_none hopt]
    dsimp only
    rw [hcu]
    dsimp only
    rw [hlane]
  have hsys : (s.calAbortCu 0).sys = s.sys := by
    rw [State.calAbortCu_of_run hcu]
    exact (State.calAborted_shows _ _ _).2.2.2
  rw [execCalAbort, State.byCmd, State.bySoft_of_csrSound _ _ _ hs (by rw [h, hsys]), h]

/-! ### The jumps after a restore (R262) -/

/-- A ring told to lock again writes no register, and changes neither the time nor calibration's record. -/
theorem State.relockAsked_only (s : State) (l : Nat) : (s.relockAsked l).regs = s.regs ∧ (s.relockAsked l).now = s.now ∧
    (s.relockAsked l).fab.cal = s.fab.cal := by
  unfold State.relockAsked
  split <;> exact ⟨rfl, rfl, rfl⟩

theorem State.foldl_relockAsked_only (ls : List Nat) (s : State) : (ls.foldl State.relockAsked s).regs = s.regs ∧
    (ls.foldl State.relockAsked s).now = s.now ∧ (ls.foldl State.relockAsked s).fab.cal = s.fab.cal :=
  List.foldlRecOn (motive := fun t : State => t.regs = s.regs ∧ t.now = s.now ∧ t.fab.cal = s.fab.cal) _ _ ⟨rfl, rfl, rfl⟩
    fun t ⟨hregs, hnow, hcal⟩ l _ =>
      have ⟨kregs, know, kcal⟩ := t.relockAsked_only l
      ⟨kregs.trans hregs, know.trans hnow, kcal.trans hcal⟩

theorem State.relockAsked_self {s : State} {l : Nat} (htgt : s.ringTarget l ≠ none) (hst : s.ringSt l ≠ rgFault) :
    ((s.relockAsked l).loop l).cmd = some .relock := by
  rw [State.relockAsked, if_pos ⟨Option.isSome_iff_ne_none.2 htgt, hst⟩, State.setLoop_loop_self]

theorem State.relockAsked_cmd {s : State} {l : Nat} (j : Nat) (h : (s.loop l).cmd = some .relock) :
    ((s.relockAsked j).loop l).cmd = some .relock := by
  unfold State.relockAsked
  split
  · by_cases hj : l = j
    · rw [hj, State.setLoop_loop_self]
    · rw [State.loop, State.setLoop, Tbl.lookD_put_ne _ _ _ _ hj]
      exact h
  · exact h

/-- Every ring of a list that has a target and has not failed is told to lock again. -/
theorem State.foldl_relockAsked_cmd {ls : List Nat} {s : State} {l : Nat} (hl : l ∈ ls) (htgt : s.ringTarget l ≠ none)
    (hst : s.ringSt l ≠ rgFault) : ((ls.foldl State.relockAsked s).loop l).cmd = some .relock := by
  have hrd {a : State} (ha : a.regs = s.regs) (g : Field) : a.rd g = s.rd g := congrArg (Tbl.lookD · g.reset g.key) ha
  have htgt' {a : State} (ha : a.regs = s.regs) : a.ringTarget l ≠ none := by
    rw [State.ringTarget, State.on, hrd ha, hrd ha]
    exact htgt
  exact foldl_establishes (P := fun a : State => a.regs = s.regs → (a.loop l).cmd = some .relock) hl
    (fun a ha => by
      rw [(a.relockAsked_only l).1] at ha
      exact State.relockAsked_self (htgt' ha) (by rw [State.ringSt, hrd ha]; exact hst))
    (fun a j h ha => State.relockAsked_cmd j (h ((a.relockAsked_only j).1.symm.trans ha))) s
    (s.foldl_relockAsked_only ls).1

/-- The end of a restore's wait: the relock jumps are issued. -/
def State.restoreWaited (s : State) (t : Nat) : State :=
  (List.range 176).foldl State.relockAsked ((s.advance t).setCal { s.fab.cal with waitTo := none })

theorem execRestoreWaitExpiry_of_due {s : State} {t : Nat} (hup : s.fabUp = true) (ht : s.fab.cal.waitTo = some t) :
    execRestoreWaitExpiry s = .next (s.restoreWaited t) := by
  rw [execRestoreWaitExpiry, ht]
  exact if_neg (Classical.not_not.2 hup)

theorem State.restoreWaited_shows (s : State) (t : Nat) :
    (s.restoreWaited t).now = max s.now t ∧ (s.restoreWaited t).fab.cal.waitTo = none ∧
      (∀ l, l < 176 → s.ringTarget l ≠ none → s.ringSt l ≠ rgFault →
        ((s.restoreWaited t).loop l).cmd = some .relock) ∧ (s.restoreWaited t).regs = s.regs := by
  obtain ⟨hregs, hnow, hcal⟩ := ((s.advance t).setCal { s.fab.cal with waitTo := none }).foldl_relockAsked_only (List.range 176)
  rw [State.restoreWaited]
  exact ⟨hnow, by rw [hcal]; rfl,
    fun l hl htgt hst => State.foldl_relockAsked_cmd (List.mem_range.2 hl) htgt hst, hregs⟩

/-- Settles O34: each completion's lemma names the results it leaves, and a run's end is a verdict of one part. -/
theorem calibrationRuns : Obligations.CalibrationRuns := by
  unfold Obligations.CalibrationRuns
  refine ⟨fun s x l peaks dark rh slope gOn gOff peak phi col hup hrun hb hl hlock hheld =>
      execCalRunComplete_of_ring hup hrun hb hl hlock hheld,
    fun s x l v r hk hu hbad hr h0 => ?reject, fun s x l t0 r hup hrun hb hk hu hlock hst => ?locked,
    fun s x l t0 c hup hrun hk hu hlock hold hst => ?timeout, fun s x hup hrun hb => ⟨?lane, ?link, ?accepted, ?rejected⟩,
    fun s x k n w h tx rx trims hk hu hn hbad hcu hloan hhov hw => ?narrow,
    fun s => ⟨fun hs hopt hcu => execCalAbort_of_idle hs hopt hcu, fun x hs hopt hcu hl => execCalAbort_of_cu hs hopt hcu hl,
      fun x r hcu => ?abort⟩,
    fun s t hup ht => ?restore⟩
  case reject =>
    obtain ⟨-, -, hloop, hvals⟩ := s.measured_keepsValues l v
    obtain ⟨⟨hout, hreason, hflag⟩, hopt, hbusy, -, -, kloop, kvals⟩ := (s.measured l v).ringRejected_shows hk hu .jump
      (show r < 16 from by have := s.ringReason_le l v; omega)
    rw [State.ringDone_of_reason hr h0]
    exact ⟨hout, hreason, hflag, (kloop l).trans (hloop l), hopt, hbusy, kvals.trans hvals⟩
  case locked =>
    obtain ⟨vals, hexec⟩ := execCalRunComplete_of_locked r hup hrun hb (CalRun.loop_of_ring hk hu) hlock hst
    obtain ⟨-, hnow⟩ := s.showNum_sameFabric (CAL.Q.Q_HI (calKey 1 l)) r
    have h7 : x.item.kind ≠ 7 := by omega
    have h8 : x.item.kind ≠ 8 := by omega
    obtain ⟨⟨hout, -, hflag⟩, hopt, hlast, -⟩ :=
      (s.showNum (CAL.Q.Q_HI (calKey 1 l)) r).acceptedEnd_shows false h7 h8 vals
    rw [CalRun.partUnit_of_single h7 h8] at hexec
    rw [hk, hu] at hout hlast
    exact ⟨_, hexec, hopt, hout, hflag, hlast.trans (congrArg some hnow)⟩
  case timeout =>
    obtain ⟨hnow, hcal, hvals⟩ := (s.advance (t0 + Config.ns 5000000)).valuesBack_shows x l c
    obtain ⟨⟨hout, hreason, hflag⟩, hopt, -, know, -, kloop, kvals⟩ :=
      ((s.advance (t0 + Config.ns 5000000)).valuesBack x l c).ringRejected_shows hk hu .relock (show 11 < 16 by decide)
    exact ⟨_, execCalLockTimeout_of_unlocked hup hrun (CalRun.loop_of_ring hk hu) hlock hold hst, know.trans hnow,
      (kloop l).trans hcal, hopt, hout, hreason, hflag, by rw [kvals, hvals]⟩
  case lane => exact fun k n w h tx rx trims hlane hloan => execCalRunComplete_of_lane hup hrun hb hlane hloan
  case link => exact fun tx rx rms ft asym n hk => execCalRunComplete_of_link hup hrun hb hk
  case accepted =>
    intro big small tbl hk hbad hsmall hbig
    obtain ⟨⟨hout, -, hflag⟩, hcu, -, htdc⟩ := (s.tdcTaken big small).acceptedEnd_shows true
      (show x.item.kind ≠ 7 by omega) (by omega) ([(big : Int), (small : Int)] ++ tbl)
    rw [hk] at hout
    rw [State.calRun_cu] at hcu
    exact ⟨_, (execCalRunComplete_of_tdc hup hrun hb hk).trans (if_neg (by omega)), hcu, htdc, hout, hflag⟩
  case rejected =>
    intro big small tbl hk hbad hlim
    obtain ⟨⟨hout, hreason, hflag⟩, hcu, -⟩ := (s.quality (calKey 3 0) big small 0 0).rejectedEnd_shows true
      (show x.item.kind ≠ 7 by omega) (by omega) (show 10 < 16 by decide)
    rw [hk] at hout hreason
    rw [State.calRun_cu] at hcu
    exact ⟨_, (execCalRunComplete_of_tdc hup hrun hb hk).trans (if_pos hlim), hcu, hout, hreason, hflag⟩
  case narrow =>
    rw [State.laneDone_of_narrow trims hw, CalRun.partUnit_of_single (by omega) (by omega)]
    exact State.laneRejected_shows hk hu hcu hloan hhov
  case abort =>
    rw [State.calAbortCu_of_run hcu]
    exact s.cuAborted_shows x.item r
  case restore => exact ⟨_, execRestoreWaitExpiry_of_due hup ht, s.restoreWaited_shows t⟩

end Sys2Proof.Machine
end

section
/-! SUPPORT. Calibration's images (08_calibration.md): a save and its end, a restore and what an image leaves; and the
statement about them. -/
namespace Sys2Proof.Machine
open Sys2Proof

/-! ### A save begins (R259, R261) -/

/-- Calibration's record with a save begun. -/
def State.savingCal (s : State) : Calib :=
  { s.fab.cal with
    saving := some { gen := (s.fab.cal.gen + 1) % 2 ^ 32, digest := s.digest32, recs := s.fab.cal.values },
    saveAt := some s.now }

/-- A save in NVM mode first empties the copy that it writes. -/
theorem State.calSave_of_nvm {s : State} (hsaving : s.fab.cal.saving = none) (hv : s.calVolatile = false) : s.calSave =
    if s.fab.cal.writesCopy1 then (s.setCal { s.savingCal with copy1 := none }).wr CAL.STORE_STAT.COPY1_OK 0
    else (s.setCal { s.savingCal with copy0 := none }).wr CAL.STORE_STAT.COPY0_OK 0 := by
  have hgo : ¬ (s.fab.cal.saving.isSome = true ∨ (s.calVolatile = true ∧ s.imgAddr = 0)) := by simp [hsaving, hv]
  rw [State.calSave]
  dsimp only
  rw [if_neg hgo, if_neg (by simp [hv])]
  rfl

/-- A save in volatile mode without an address does nothing. -/
theorem State.calSave_of_nowhere {s : State} (hv : s.calVolatile = true) (ha : s.imgAddr = 0) : s.calSave = s :=
  if_pos (.inr ⟨hv, ha⟩)

theorem execCalSave_of_sys {s : State} (hs : s.csrSound) (h : s.calSave.sys = s.sys) : execCalSave s = .next s.calSave := by
  rw [execCalSave, State.byCmd, State.bySoft_of_csrSound _ _ _ hs h]

theorem execCalSave_of_nvm {s : State} (hs : s.csrSound) (hsaving : s.fab.cal.saving = none) (hv : s.calVolatile = false) :
    execCalSave s = .next s.calSave :=
  execCalSave_of_sys hs (by rw [State.calSave_of_nvm hsaving hv]; split <;> rfl)

theorem execCalAutoSave_of_due {s : State} {t : Nat} (hup : s.mainUp = true) (hdirty : s.on CAL.STORE_STAT.DIRTY = true)
    (hat : ∀ a, s.fab.cal.saveAt = some a → a + Config.ns 60000000000 ≤ max s.now t) (hopt : s.fab.cal.opt = none)
    (hqueue : ∀ u ∈ s.fab.cal.queue, calElectric u = true) : execCalAutoSave t s = .next (s.advance t).calSave := by
  have hidle : ((s.calRun false).isNone && s.fab.cal.queue.all fun u => calElectric u != false) = true := by
    rw [State.calRun_opt, hopt]
    exact List.all_eq_true.2 fun u hu => by rw [hqueue u hu]; rfl
  have hgo {due : Bool} {p : Prop} (hdue : due = true) : ¬ (¬ s.mainUp = true ∨ ¬ s.on CAL.STORE_STAT.DIRTY = true ∨
      due = false ∨ (p ∧ ((s.calRun false).isNone && s.fab.cal.queue.all fun u => calElectric u != false) = false)) := by
    rintro (h | h | h | ⟨-, h⟩)
    · exact h hup
    · exact h hdirty
    · exact Bool.noConfusion (hdue.symm.trans h)
    · exact Bool.noConfusion (hidle.symm.trans h)
  rw [execCalAutoSave]
  dsimp only
  cases h : s.fab.cal.saveAt with
  | none => exact if_neg (hgo rfl)
  | some a => exact if_neg (hgo (decide_eq_true (hat a h)))

/-! ### A save ends (R259, R260) -/

/-- A save that has ended well, before its event. -/
def State.saveStored (s : State) (x : CalImage) : State :=
  ((s.setCal { s.fab.cal with saving := none, gen := x.gen, image := some x }).wr CAL.STORE_STAT.GEN x.gen).wrB
    CAL.STORE_STAT.DIRTY (decide (s.fab.cal.values ≠ x.recs))

theorem State.saveDone_eq (s : State) (x : CalImage) : s.saveDone x = (s.saveStored x).raise CAL.EVENT.SAVED := rfl

theorem State.saveStored_regsBut (s : State) (x : CalImage) {l : List Field} (hg : CAL.STORE_STAT.GEN ∈ l)
    (hd : CAL.STORE_STAT.DIRTY ∈ l) : s.regsBut (s.saveStored x) l :=
  State.regsBut_trans (State.regsBut_of_regs (t := s.setCal _) rfl l)
    (State.regsBut_trans (State.regsBut_wr _ _ hg) (State.regsBut_wr _ _ hd))

/-- A save done: its image is the one in use, and what has been accepted since is not saved yet. -/
theorem State.saveDone_shows (s : State) (x : CalImage) :
    (s.saveDone x).fab.cal = { s.fab.cal with saving := none, gen := x.gen, image := some x } ∧
      (s.saveDone x).rd CAL.STORE_STAT.GEN = x.gen % 2 ^ CAL.STORE_STAT.GEN.width ∧
      (s.saveDone x).on CAL.EVENT.SAVED = true ∧
      (x.recs = s.fab.cal.values → (s.saveDone x).on CAL.STORE_STAT.DIRTY = false) ∧
      s.regsButEvent (s.saveDone x) [CAL.STORE_STAT.GEN, CAL.STORE_STAT.DIRTY, CAL.EVENT.SAVED, seqOf CAL.EVENT.SAVED] := by
  have hregs : (s.saveStored x).regsButEvent ((s.saveStored x).raise CAL.EVENT.SAVED)
      [CAL.EVENT.SAVED, seqOf CAL.EVENT.SAVED] := (State.raise_onlyEvent _ [] (by decide) (by simp) (by simp)).2
  rw [State.saveDone_eq]
  refine ⟨congrArg Fabric.cal (State.raise_fab _ _ _ _), ?gen, State.raise_on_self _ _ _ rfl (by decide) (by decide),
    fun h => ?dirty,
    State.regsBut_trans (s.saveStored_regsBut x (by decide) (by decide)) (State.regsBut_mono hregs (by decide))⟩
  case gen =>
    rw [State.regsBut_rd hregs rfl, State.saveStored, State.rd_wrB_ne _ _ (Field.key_ne_of_apart rfl), State.rd_wr_self]
  case dirty =>
    rw [State.on, State.regsBut_rd hregs rfl, State.saveStored, State.rd_wrB_self, h]
    simp [bit]

/-- The image that a save in NVM mode has written, in the copy that it had emptied. -/
def State.copyTaken (s : State) (x : CalImage) : State :=
  if s.fab.cal.copy0.isSome && s.fab.cal.copy1.isNone then
    (s.setCal { s.fab.cal with copy1 := some x }).wr CAL.STORE_STAT.COPY1_OK 1
  else (s.setCal { s.fab.cal with copy0 := some x }).wr CAL.STORE_STAT.COPY0_OK 1

theorem State.copyTaken_shows (s : State) (x : CalImage) :
    (s.copyTaken x).fab.cal.values = s.fab.cal.values ∧
      (if s.fab.cal.copy0.isSome && s.fab.cal.copy1.isNone then
        (s.copyTaken x).fab.cal.copy1 = some x ∧ (s.copyTaken x).on CAL.STORE_STAT.COPY1_OK = true
      else (s.copyTaken x).fab.cal.copy0 = some x ∧ (s.copyTaken x).on CAL.STORE_STAT.COPY0_OK = true) := by
  unfold State.copyTaken
  split
  · exact ⟨rfl, rfl, congrArg (· != 0) (State.rd_wr_self _ _ _)⟩
  · exact ⟨rfl, rfl, congrArg (· != 0) (State.rd_wr_self _ _ _)⟩

/-- An NVM save that reads back is done, and its copy holds it. -/
theorem State.copySaved_shows (s : State) (x : CalImage) :
    let t := (s.copyTaken x).saveDone x
    t.fab.cal.saving = none ∧ t.fab.cal.image = some x ∧ t.fab.cal.gen = x.gen ∧
      t.rd CAL.STORE_STAT.GEN = x.gen % 2 ^ CAL.STORE_STAT.GEN.width ∧ t.on CAL.EVENT.SAVED = true ∧
      (x.recs = s.fab.cal.values → t.on CAL.STORE_STAT.DIRTY = false) ∧
      (if s.fab.cal.copy0.isSome && s.fab.cal.copy1.isNone then
        t.fab.cal.copy1 = some x ∧ t.on CAL.STORE_STAT.COPY1_OK = true
      else t.fab.cal.copy0 = some x ∧ t.on CAL.STORE_STAT.COPY0_OK = true) := by
  obtain ⟨hvals, hcopy⟩ := s.copyTaken_shows x
  obtain ⟨hcal, hgen, hsaved, hdirty, hregs⟩ := (s.copyTaken x).saveDone_shows x
  dsimp only
  rw [hcal]
  refine ⟨rfl, rfl, rfl, hgen, hsaved, fun h => hdirty (h.trans hvals.symm), ?_⟩
  rw [State.on, State.on, State.regsBut_rd hregs rfl, State.regsBut_rd hregs rfl]
  exact hcopy

theorem execCalSaveComplete_of_good {s : State} {x : CalImage} (hsaving : s.fab.cal.saving = some x)
    (hv : s.calVolatile = false) : execCalSaveComplete true s = .next ((s.copyTaken x).saveDone x) := by
  rw [execCalSaveComplete, hsaving]
  dsimp only
  rw [if_neg (by simp [hv]), if_pos rfl]
  rfl

theorem execCalSaveComplete_of_bad {s : State} {x : CalImage} (hsaving : s.fab.cal.saving = some x)
    (hv : s.calVolatile = false) : execCalSaveComplete false s =
      .next ((s.setCal { s.fab.cal with saving := none }).raise CAL.EVENT.STORE_ERR) := by
  rw [execCalSaveComplete, hsaving]
  dsimp only
  rw [if_neg (by simp [hv]), if_neg Bool.false_ne_true]

/-- A save in volatile mode is done when its transfer is, and the companion is told. -/
theorem execCalSaveComplete_of_moved {s u : State} {x : CalImage} {l : List Byte} (hsaving : s.fab.cal.saving = some x)
    (hv : s.calVolatile = true) (hend : s.moveEnd mvSave [] = (u, .done l)) :
    execCalSaveComplete true s = .next ((u.saveDone x).compose 1 (leBytes 4 x.gen)) := by
  rw [execCalSaveComplete, hsaving]
  dsimp only
  rw [if_pos hv, hend]

theorem execCalSaveComplete_of_failed {s u : State} {x : CalImage} (hsaving : s.fab.cal.saving = some x)
    (hv : s.calVolatile = true) (hend : s.moveEnd mvSave [] = (u, .failed)) : execCalSaveComplete true s =
      .next ((u.setCal { u.fab.cal with saving := none }).raise CAL.EVENT.STORE_ERR) := by
  rw [execCalSaveComplete, hsaving]
  dsimp only
  rw [if_pos hv, hend]

/-! ### A transfer begins (R261) -/

/-- Only the FTD's counters, and what the recorder keeps, may read otherwise; no parity is wrong that was not. -/
def State.moveOnly (s t : State) : Prop := t.sys.bad = s.sys.bad ∧ s.regsBut t counterFields

theorem State.ulPump_moveOnly (s : State) : s.moveOnly s.ulPump := by
  have hsame : s.moveOnly s := ⟨rfl, s.regsBut_refl _⟩
  unfold State.ulPump
  dsimp only
  split
  · split
    · obtain ⟨hframe, hregs⟩ := State.countFtd_frame { s with ulk := s.ulk.pump s.ulk.out.length } 0x061 0
        (s.ulk.out.length - (s.ulk.pump s.ulk.out.length).out.length)
      exact ⟨(congrArg (fun t : State => t.sys.bad) hframe :), hregs⟩
    · exact hsame
  · exact hsame

theorem State.request_moveOnly (s : State) (r : PReq) : s.moveOnly (s.request r) := by
  unfold State.request
  split
  · exact State.ulPump_moveOnly _
  · exact ⟨rfl, s.regsBut_refl _⟩

theorem State.moveNext_moveOnly (s : State) (id : Nat) : s.moveOnly (s.moveNext id) := by
  have hsame : s.moveOnly s := ⟨rfl, s.regsBut_refl _⟩
  unfold State.moveNext
  split
  · exact hsame
  · split
    · exact hsame
    · split
      · exact ⟨rfl, s.regsBut_refl _⟩
      · exact State.request_moveOnly _ _

theorem State.moveBegin_moveOnly (s : State) (id : Nat) (x : Move) : s.moveOnly (s.moveBegin id x) := by
  unfold State.moveBegin
  dsimp only
  split
  · obtain ⟨hbad, hregs⟩ := (s.setMove id x).moveNext_moveOnly id
    exact ⟨hbad, hregs⟩
  · exact ⟨rfl, s.regsBut_refl _⟩

/-- Where companion memory lies follows from the package's variant. -/
theorem State.isComp_congr {s t : State} (h : t.rd GLB.ID.VARIANT = s.rd GLB.ID.VARIANT) (a : Nat) :
    t.isComp a = s.isComp a := by
  simp only [State.isComp, State.isLink, State.region, State.lpEnd, h]

/-- A transfer that begins moves neither the volatile image nor companion memory. -/
theorem State.moveBegin_isComp (s : State) (id : Nat) (x : Move) :
    (s.moveBegin id x).isComp (s.moveBegin id x).imgAddr = s.isComp s.imgAddr := by
  obtain ⟨-, hregs⟩ := s.moveBegin_moveOnly id x
  have hrd {g : Field} (hl : g.lo < 128) (ho : g.off < 0xB00000) : (s.moveBegin id x).rd g = s.rd g :=
    hregs g (notMem_counterFields hl ho)
  have haddr : (s.moveBegin id x).imgAddr = s.imgAddr := by
    rw [State.imgAddr, hrd (by decide) (by decide), hrd (by decide) (by decide)]
    rfl
  rw [haddr, State.isComp_congr (hrd (by decide) (by decide))]

/-! ### A restore (R260, R261) -/

/-- The transfer that reads an image's header. -/
def State.headerRead (s : State) : State := s.moveBegin mvRestore { write := false, addr := s.imgAddr, len := 64 }

/-- A software write that leaves no parity wrong is its own meaning where none was. -/
theorem State.bySoft_of_bad {s : State} {f : State → State} (off inst v : Nat) (hs : s.csrSound)
    (hf : (f s).sys.bad = s.sys.bad) : s.bySoft off inst v f = f s := by
  obtain ⟨hcompat, hbad⟩ := hs
  rw [State.bySoft, hcompat, if_neg Bool.false_ne_true]
  exact if_pos (hf.trans hbad)

theorem execCalRestore_of_nvm {s : State} (hs : s.csrSound) (hv : s.calVolatile = false) :
    execCalRestore s = .next (s.raise CAL.EVENT.CFG_ERR) := by
  have h : s.calRestore = s.raise CAL.EVENT.CFG_ERR := if_pos (by simp [hv])
  rw [execCalRestore, State.byCmd, State.bySoft_of_raise _ _ _ hs h]

/-- A restore from companion memory waits for its transfer. -/
theorem execCalRestore_of_companion {s : State} (hs : s.csrSound) (hv : s.calVolatile = true)
    (hmove : s.move mvRestore = none) (hcomp : s.isComp s.imgAddr = true) : execCalRestore s = .next s.headerRead := by
  have h : s.calRestore = s.headerRead := by
    rw [State.calRestore, if_neg (Classical.not_not.2 hv), if_neg (by simp [hmove])]
    exact if_pos ((s.moveBegin_isComp mvRestore _).trans hcomp)
  rw [execCalRestore, State.byCmd, State.bySoft_of_bad _ _ _ hs (by rw [h]; exact (s.moveBegin_moveOnly _ _).1), h]

/-- An image without records is the one in use, and changes nothing else of calibration. -/
theorem State.applyImage_of_empty (s : State) {x : CalImage} (h : x.recs = []) : s.applyImage x =
    ((s.setCal { s.fab.cal with gen := x.gen, image := some x }).wr CAL.STORE_STAT.GEN x.gen).wr
      CAL.STORE_STAT.IMG_VALID 1 := by
  rw [State.applyImage, h]
  rfl

/-- Settles O35: each command's lemma names the state it leaves, and the laws of that state give the clause. -/
theorem calibrationImages : Obligations.CalibrationImages := by
  unfold Obligations.CalibrationImages
  refine ⟨fun s hs hsaving => ⟨fun hv => ⟨_, execCalSave_of_nvm hs hsaving hv, ?begun⟩, fun hv ha => ?nowhere⟩,
    fun s t hup hdirty hat hopt hqueue => execCalAutoSave_of_due hup hdirty hat hopt hqueue,
    fun s x hsaving hv => ⟨⟨_, execCalSaveComplete_of_good hsaving hv, s.copySaved_shows x⟩, ?bad⟩,
    fun s x u hsaving hv => ⟨fun l hend => execCalSaveComplete_of_moved hsaving hv hend,
      fun hend => execCalSaveComplete_of_failed hsaving hv hend⟩,
    fun s hs => ⟨fun hv => ⟨_, execCalRestore_of_nvm hs hv, s.raise_flags [] (by decide) rfl (by decide) (by decide)⟩,
      fun hv hmove hcomp => execCalRestore_of_companion hs hv hmove hcomp⟩,
    fun s x => ⟨State.raise_on_self _ _ _ rfl (by decide) (by decide),
      (s.raise_flags [] (by decide) rfl (by decide) (by decide)).1⟩,
    fun s x hrecs => ?empty⟩
  case begun =>
    rw [State.calSave_of_nvm hsaving hv]
    split
    · exact ⟨rfl, rfl, rfl, rfl, State.rd_wr_self _ _ _,
        State.regsBut_trans (State.regsBut_of_regs (t := s.setCal _) rfl _) (State.regsBut_wr _ _ (by simp))⟩
    · exact ⟨rfl, rfl, rfl, rfl, State.rd_wr_self _ _ _,
        State.regsBut_trans (State.regsBut_of_regs (t := s.setCal _) rfl _) (State.regsBut_wr _ _ (by simp))⟩
  case nowhere =>
    have h := State.calSave_of_nowhere hv ha
    exact (execCalSave_of_sys hs (by rw [h])).trans (by rw [h])
  case bad =>
    obtain ⟨hflag, -, hregs⟩ := (s.setCal { s.fab.cal with saving := none }).raise_flags (f := CAL.EVENT.STORE_ERR) (v := 0)
      [] (by decide) rfl (by decide) (by decide)
    exact ⟨_, execCalSaveComplete_of_bad hsaving hv, congrArg Fabric.cal (State.raise_fab _ _ _ _), hflag, hregs⟩
  case empty =>
    rw [State.applyImage_of_empty s hrecs]
    exact ⟨rfl, rfl, congrArg (· != 0) (State.rd_wr_self _ _ _),
      (State.rd_wr_ne _ _ (Field.key_ne_of_apart rfl)).trans (State.rd_wr_self _ _ _)⟩

end Sys2Proof.Machine
end

section
/-! SUPPORT. The copper links' training (09_copper_bench.md): what each change of a link's state shows and keeps, the
peer's identity block and its checks, the way up, the way down and quarantine; and the statement about them. -/
namespace Sys2Proof.Machine
open Sys2Proof

/-! ### What a state entered shows (R273) -/

/-- A state entered begins the link's counts and its handover again, and keeps the rest of its record. -/
theorem State.cuEntered_cuLink (s : State) (k st : Nat) : (s.cuEntered k st).cuLink k =
    { s.cuLink k with entered := s.now, fails := 0, hov := none, loan := none, lost := [] } := by
  unfold State.cuEntered
  dsimp only
  split <;> exact State.setCu_cuLink_self s k _

theorem State.cuEntered_sys (s : State) (k st : Nat) : (s.cuEntered k st).sys = s.sys := by
  unfold State.cuEntered
  dsimp only
  split <;> rfl

/-- A state entered writes STATE, HOV and Q_REASON only. -/
theorem State.cuEntered_rd (s : State) (k st : Nat) {g : Field} (hst : (g.lo % 128 == 28 % 128) = false)
    (hhov : (g.lo % 128 == 16 % 128) = false) (hreason : (g.lo % 128 == 24 % 128) = false) :
    (s.cuEntered k st).rd g = s.rd g := by
  have h : ∀ t : State, ((t.wr (CU.STAT.STATE k) st).wr (CU.STAT.HOV k) 15).rd g = t.rd g := fun t =>
    (State.rd_wr_ne _ _ (Field.key_ne_of_lo hhov)).trans (State.rd_wr_ne _ _ (Field.key_ne_of_lo hst))
  unfold State.cuEntered
  dsimp only
  split
  · exact h _
  · exact (State.rd_wr_ne _ _ (Field.key_ne_of_lo hreason)).trans (h _)

theorem State.cuEntered_hov (s : State) (k st : Nat) : (s.cuEntered k st).rd (CU.STAT.HOV k) = 15 := by
  unfold State.cuEntered
  dsimp only
  split
  · exact State.rd_wr_self _ _ _
  · exact (State.rd_wr_ne _ _ (Field.key_ne_of_lo rfl)).trans (State.rd_wr_self _ _ _)

/-- Every state but QUARANTINE clears the reason of a quarantine. -/
theorem State.cuEntered_reason (s : State) (k : Nat) {st : Nat} (h : st ≠ cuQuar) :
    (s.cuEntered k st).rd (CU.STAT.Q_REASON k) = 0 := by
  unfold State.cuEntered
  dsimp only
  rw [if_neg h, State.rd_wr_self]
  rfl

/-! ### A link that is not UP enters a state (R273) -/

theorem State.cuSt_ne_up {s : State} {k st : Nat} (h : s.cuSt k = st) (hst : st ≠ cuStUp) : s.cuSt k ≠ cuStUp :=
  fun hup => hst (h.symm.trans hup)

theorem State.cuEnter_of_untrained {s : State} {k : Nat} (st : Nat) (h : s.cuSt k ≠ cuStUp) :
    s.cuEnter k st = s.cuEntered k st := by
  rw [State.cuEnter_eq, if_neg fun ⟨hup, _⟩ => h hup]

/-- The new state stands, and its time begins. -/
theorem State.cuEnter_shows {s : State} {k st : Nat} (h : s.cuSt k ≠ cuStUp) (hst : st < 16) :
    (s.cuEnter k st).cuSt k = st ∧ ((s.cuEnter k st).cuLink k).entered = s.now := by
  rw [State.cuEnter_of_untrained st h]
  exact ⟨s.cuEntered_state k hst, congrArg CuLink.entered (s.cuEntered_cuLink k st)⟩

/-- A state whose time is up is left at that instant. -/
theorem State.cuEnter_after_shows {s : State} {k st : Nat} (ns : Nat) (h : s.cuSt k ≠ cuStUp) (hst : st < 16) :
    let t := (s.advance (s.cuAfter k ns)).cuEnter k st
    t.cuSt k = st ∧ t.now = max s.now ((s.cuLink k).entered + Config.ns ns) ∧ (t.cuLink k).entered = t.now := by
  obtain ⟨hstate, hentered⟩ := State.cuEnter_shows (s := s.advance (s.cuAfter k ns)) h hst
  exact ⟨hstate, State.cuEnter_now _ _ _, hentered.trans (State.cuEnter_now _ _ _).symm⟩

/-- QUARANTINE shows its reason and sets its flag. -/
theorem State.cuQuarantine_shows {s : State} {k r : Nat} (hk : k < 6) (h : s.cuSt k ≠ cuStUp) (hr : r < 16) :
    (s.cuQuarantine k r).cuSt k = cuQuar ∧ (s.cuQuarantine k r).rd (CU.STAT.Q_REASON k) = r ∧
      (s.cuQuarantine k r).on (CU.EVENT.QUARANTINE k) = true := by
  unfold State.cuQuarantine
  refine ⟨?_, ?_, State.raise_on_self _ _ _ rfl (by decide : 3 < 24) (cuEvent_off_lt hk)⟩
  · rw [State.cuSt, State.raise_rd_of_lo _ (g := CU.STAT.STATE k) _ _ rfl rfl (by decide : 28 < 128) (cuStat_off_lt hk),
      State.rd_wr_ne _ _ (Field.key_ne_of_lo rfl)]
    exact (State.cuEnter_shows h (by decide)).1
  · have hseq : (CU.STAT.Q_REASON k).key ≠ (seqOf (CU.EVENT.QUARANTINE k)).key := by
      simp only [Field.key, CU.STAT.Q_REASON, CU.EVENT.QUARANTINE]; omega
    rw [State.raise_rd_ne _ _ _ (Field.key_ne_of_lo rfl) hseq
      (notMem_recorderFields (by decide : 24 < 128) (cuStat_off_lt hk)), State.rd_wr_self]
    exact Nat.mod_eq_of_lt hr

/-! ### A trained link goes down (R271, R273) -/

theorem State.cuEnter_down_of_trained {s : State} {k : Nat} (hup : s.cuUp k = true) (hcal : s.laneRun k = false) :
    s.cuEnter k cuDown = ((s.cuEntered k cuDown).wr (CU.STAT.LANE_LOCK k) 0).raise (CU.EVENT.DOWN k) := by
  rw [State.cuEnter_eq, if_pos ⟨eq_of_beq hup, by decide⟩,
    State.leaveUp_of_idle ((State.laneRun_congr (s.cuEntered_cal k cuDown) k).trans hcal)]

/-- No lane is in lock, no handover is under way, and the record begins again. -/
theorem State.cuEnter_down_clears {s : State} {k : Nat} (hk : k < 6) (hup : s.cuUp k = true) (hcal : s.laneRun k = false) :
    (s.cuEnter k cuDown).rd (CU.STAT.LANE_LOCK k) = 0 ∧ (s.cuEnter k cuDown).rd (CU.STAT.HOV k) = 15 := by
  rw [State.cuEnter_down_of_trained hup hcal]
  constructor
  · rw [State.raise_rd_of_lo _ (g := CU.STAT.LANE_LOCK k) _ _ rfl rfl (by decide : 0 < 128) (cuStat_off_lt hk),
      State.rd_wr_self]
    rfl
  · rw [State.raise_rd_of_lo _ (g := CU.STAT.HOV k) _ _ rfl rfl (by decide : 16 < 128) (cuStat_off_lt hk),
      State.rd_wr_ne _ _ (Field.key_ne_of_lo rfl)]
    exact s.cuEntered_hov k cuDown

/-- Trained or not, a link none of whose lanes is calibrated goes down with its record begun again, and no parity is
touched. -/
theorem State.cuEnter_down_record {s : State} {k : Nat} (hcal : s.laneRun k = false) :
    (s.cuEnter k cuDown).cuLink k =
        { s.cuLink k with entered := s.now, fails := 0, hov := none, loan := none, lost := [] } ∧
      (s.cuEnter k cuDown).sys = s.sys := by
  by_cases hup : s.cuUp k = true
  · rw [State.cuEnter_down_of_trained hup hcal, State.raise_cuLink, State.raise_sys _ _ _ _ (by decide)]
    exact ⟨s.cuEntered_cuLink k cuDown, s.cuEntered_sys k cuDown⟩
  · have hst : s.cuSt k ≠ cuStUp := fun h => hup (beq_iff_eq.2 h)
    rw [State.cuEnter_of_untrained _ hst]
    exact ⟨s.cuEntered_cuLink k cuDown, s.cuEntered_sys k cuDown⟩

/-- RETRAIN takes a link down. -/
theorem execCuRetrain_of_csrSound {s : State} {k : Fin 6} (hs : s.csrSound) (hcal : s.laneRun k = false) :
    execCuRetrain k s = .next (s.cuEnter k cuDown) := by
  rw [execCuRetrain, State.byCmd, State.bySoft_of_csrSound _ _ _ hs (State.cuEnter_down_record hcal).2]

theorem State.cuEnter_down_state {s : State} {k : Nat} (hk : k < 6) (hcal : s.laneRun k = false) :
    (s.cuEnter k cuDown).cuSt k = cuDown := by
  by_cases hup : s.cuUp k = true
  · exact (State.cuEnter_down_shows hk hup hcal).1
  · exact (State.cuEnter_shows (fun h => hup (beq_iff_eq.2 h)) (by decide)).1

/-- Four slots that were not framed take a trained link down. -/
theorem execCuFramingLoss_of_unframed {s : State} {k : Fin 6} (hrun : s.cuRuns k = true) (hup : s.cuUp k = true)
    (hfails : 4 ≤ (s.cuLink k).fails) : execCuFramingLoss k s = .next (s.cuEnter k cuDown) :=
  if_neg (by simp [hrun, hup, hfails])

/-! ### Signal, adaptation and their times (R273) -/

theorem execCuDownDelay_of_cabled {s : State} {k : Fin 6} (hrun : s.cuRuns k = true)
    (hcable : s.on (CU.CTRL.CABLED k) = true) (hst : s.cuSt k = cuDown) :
    execCuDownDelay k s = .next ((s.advance (s.cuAfter k 1000000)).cuEnter k cuDetect) :=
  if_neg (by simp [hrun, hcable, hst])

theorem execCuSignalDetect_of_lanes {s : State} {k : Fin 6} {m : BitVec 9} (hrun : s.cuRuns k = true)
    (hst : s.cuSt k = cuDetect) (hm : 8 ≤ lanesIn m) : execCuSignalDetect k m s = .next (s.cuEnter k cuTrain) :=
  if_neg (by simp [hrun, hst, hm])

theorem execCuDetectTimeout_of_detect {s : State} {k : Fin 6} (hrun : s.cuRuns k = true) (hst : s.cuSt k = cuDetect) :
    execCuDetectTimeout k s = .next ((s.advance (s.cuAfter k 100000000)).cuEnter k cuDown) :=
  if_neg (by simp [hrun, hst])

theorem execCuTrainAdapted_of_lanes {s : State} {k : Fin 6} {m : BitVec 9} (hrun : s.cuRuns k = true)
    (hst : s.cuSt k = cuTrain) (hm : 8 ≤ lanesIn m) : execCuTrainAdapted k m s = .next (s.cuEnter k cuIdent) :=
  if_neg (by simp [hrun, hst, hm])

/-- Lanes that do not adapt in time quarantine a link whose spare is spent, and take another down. -/
theorem execCuTrainTimeout_of_train {s : State} {k : Fin 6} (hrun : s.cuRuns k = true) (hst : s.cuSt k = cuTrain) :
    execCuTrainTimeout k s = .next (if s.rd (CU.STAT.SPARE_FOR k) = 15
      then (s.advance (s.cuAfter k 150000000)).cuEnter k cuDown
      else (s.advance (s.cuAfter k 150000000)).cuQuarantine k 5) := by
  rw [execCuTrainTimeout, if_neg (by simp [hrun, hst])]
  dsimp only
  rw [State.advance_rd, ite_not, apply_ite Host.Outcome.next]

theorem State.cuQuarantine_now (s : State) (k r : Nat) : (s.cuQuarantine k r).now = s.now :=
  (State.raise_now _ _ _ _).trans (s.cuEnter_now k cuQuar)

theorem execCuIdentTimeout_of_ident {s : State} {k : Fin 6} (hrun : s.cuRuns k = true) (hst : s.cuSt k = cuIdent) :
    execCuIdentTimeout k s = .next ((s.advance (s.cuAfter k 10000000)).cuEnter k cuDown) :=
  if_neg (by simp [hrun, hst])

theorem execCuAlignTimeout_of_align {s : State} {k : Fin 6} (hrun : s.cuRuns k = true) (hst : s.cuSt k = cuAlign) :
    execCuAlignTimeout k s = .next ((s.advance (s.cuAfter k 20000000)).cuEnter k cuDown) :=
  if_neg (by simp [hrun, hst])

/-! ### The peer's identity (R274-R277) -/

theorem State.showPeer_peer (s : State) (k : Nat) (b : IdBlock) : ((s.showPeer k b).cuLink k).peer = some b := by
  simp only [State.showPeer, State.wr_cuLink, State.setCu_cuLink_self]

/-- The peer's block is shown beside the link's own state. -/
theorem State.showPeer_cuSt (s : State) (k : Nat) (b : IdBlock) : (s.showPeer k b).cuSt k = s.cuSt k := by
  unfold State.cuSt State.showPeer
  simp (disch := exact Field.key_ne_of_lo rfl) only [State.rd_wr_ne, State.setCu_rd]

theorem State.showPeer_node (s : State) (k : Nat) (b : IdBlock) :
    (s.showPeer k b).rd (CU.PEER_ID.NODE k) = b.node % 2 ^ (CU.PEER_ID.NODE k).width := by
  have hserial : (CU.PEER_ID.NODE k).key ≠ (CU.PEER_SER.SERIAL k).key := by
    simp only [Field.key, CU.PEER_ID.NODE, CU.PEER_SER.SERIAL]; omega
  unfold State.showPeer
  dsimp only
  rw [State.rd_wr_ne _ _ hserial]
  simp (disch := exact Field.key_ne_of_lo rfl) only [State.rd_wr_ne, State.rd_wr_self]

theorem State.showPeer_ownDigest (s : State) (k : Nat) (b : IdBlock) : (s.showPeer k b).ownDigest = s.ownDigest := by
  unfold State.ownDigest State.showPeer
  simp only [State.wr_fab]
  rfl

/-- A check that fails gives its reason, and one that passes leaves the next to judge. -/
theorem reason_eq_zero_iff {p : Prop} [Decidable p] {n m : Nat} :
    (if p then n + 1 else m) = 0 ↔ ¬ p ∧ m = 0 := by
  split <;> simp [*]

/-- A block passes when every check of R275 does. -/
theorem State.identCheck_eq_zero_iff (s : State) (k : Nat) (b : IdBlock) (ls : List LaneId) :
    s.identCheck k b ls = 0 ↔ b.node = s.rd (CU.CTRL.EXPECT k) ∧ b.link = peerLink k ∧
      (b.digest = s.ownDigest ∨ s.on (CU.CTRL.DIGEST_LAX k) = true) ∧ b.verMajor = 1 ∧ 8 ≤ usable b.spare ls := by
  simp only [State.identCheck, reason_eq_zero_iff, ne_eq, Classical.not_and_iff_not_or_not, Classical.not_not,
    Nat.not_lt, and_true]

theorem State.identCheck_lt (s : State) (k : Nat) (b : IdBlock) (ls : List LaneId) : s.identCheck k b ls < 16 := by
  unfold State.identCheck
  repeat' split
  all_goals decide

/-- A block that fails a check quarantines the link. -/
theorem execCuIdentRx_of_failed {s : State} {k : Fin 6} {b : IdBlock} {ls : List LaneId} (hrun : s.cuRuns k = true)
    (hst : s.cuSt k = cuIdent) (hls : 8 ≤ ls.length) (h : (s.showPeer k b).identCheck k b ls ≠ 0) :
    execCuIdentRx k b ls s = .next ((s.showPeer k b).cuQuarantine k ((s.showPeer k b).identCheck k b ls)) := by
  rw [execCuIdentRx, if_neg (by simp [hrun]), if_neg (by rw [hst]; decide), if_neg (by simp [hst, hls])]
  exact if_pos h

/-- A block that passes maps the receive lanes; a foreign digest that is let pass is told. -/
theorem execCuIdentRx_of_passed {s : State} {k : Fin 6} {b : IdBlock} {ls : List LaneId} (hrun : s.cuRuns k = true)
    (hst : s.cuSt k = cuIdent) (hls : 8 ≤ ls.length) (h : (s.showPeer k b).identCheck k b ls = 0) :
    execCuIdentRx k b ls s = .next (((if b.digest = s.ownDigest then s.showPeer k b
      else (s.showPeer k b).raise (CU.EVENT.DIGEST k)).remap k b.spare ls).cuEnter k cuAlign) := by
  rw [execCuIdentRx, if_neg (by simp [hrun]), if_neg (by rw [hst]; decide), if_neg (by simp [hst, hls])]
  dsimp only
  rw [if_neg (fun hne => hne h), State.showPeer_ownDigest]

/-! ### The way up (R273) -/

/-- A link that comes up: its lanes in lock shown, its training counted and told. -/
def State.cuAligned (s : State) (k lock : Nat) : State :=
  let t := ((s.cuEnter k cuStUp).wr (CU.STAT.LANE_LOCK k) lock).bump (CU.COUNTS.TRAINS k)
  (t.setCu k { t.cuLink k with told := false, wornRun := [] }).raise (CU.EVENT.UP k)

/-- Every logical lane in lock on some receive lane brings the link up. -/
theorem execCuAlignDone_of_locked {s : State} {k : Fin 6} {m : BitVec 9} (hrun : s.cuRuns k = true)
    (hst : s.cuSt k = cuAlign)
    (hlanes : ∀ n, n < 8 → ∃ i, i < 9 ∧ m.getLsbD i = true ∧ s.rd (CU.LANE_STAT.LOGICAL k i) = n) :
    execCuAlignDone k m s = .next (s.cuAligned k m.toNat) := by
  have hall : ((List.range 8).filter fun n =>
      (List.range 9).any fun i => m.getLsbD i && s.rd (CU.LANE_STAT.LOGICAL k i) == n) = List.range 8 :=
    List.filter_eq_self.2 fun n hn => by
      obtain ⟨i, hi, hlock, hlogical⟩ := hlanes n (List.mem_range.1 hn)
      exact List.any_eq_true.2 ⟨i, List.mem_range.2 hi, by simp [hlock, hlogical]⟩
  rw [execCuAlignDone]
  dsimp only
  rw [hall, if_neg (by simp [hrun, hst])]
  rfl

/-- A link that has come up says so. -/
theorem State.cuAligned_shows {s : State} {k lock : Nat} (hk : k < 6) (hst : s.cuSt k ≠ cuStUp) (hlock : lock < 2 ^ 9) :
    (s.cuAligned k lock).cuUp k = true ∧ (s.cuAligned k lock).rd (CU.STAT.LANE_LOCK k) = lock ∧
      (s.cuAligned k lock).rd (CU.COUNTS.TRAINS k) =
        (s.rd (CU.COUNTS.TRAINS k) + 1) % 2 ^ (CU.COUNTS.TRAINS k).width ∧
      (s.cuAligned k lock).on (CU.EVENT.UP k) = true ∧ ((s.cuAligned k lock).cuLink k).told = false := by
  unfold State.cuAligned State.cuUp
  rw [State.cuEnter_of_untrained _ hst]
  dsimp only
  refine ⟨beq_iff_eq.2 ?state, ?lock, ?trains, State.raise_on_self _ _ _ rfl (by decide : 1 < 24) (cuEvent_off_lt hk),
    ?told⟩
  case state =>
    rw [State.raise_rd_of_lo _ (g := CU.STAT.STATE k) _ _ rfl rfl (by decide : 28 < 128) (cuStat_off_lt hk),
      State.setCu_rd, State.rd_bump_ne _ (Field.key_ne_of_lo rfl), State.rd_wr_ne _ _ (Field.key_ne_of_lo rfl)]
    exact s.cuEntered_state k (by decide)
  case lock =>
    rw [State.raise_rd_of_lo _ (g := CU.STAT.LANE_LOCK k) _ _ rfl rfl (by decide : 0 < 128) (cuStat_off_lt hk),
      State.setCu_rd, State.rd_bump_ne _ (Field.key_ne_of_lo rfl), State.rd_wr_self]
    exact Nat.mod_eq_of_lt hlock
  case trains =>
    rw [State.raise_rd_of_lo _ (g := CU.COUNTS.TRAINS k) _ _ rfl rfl (by decide : 8 < 128) (cuCounts_off_lt hk),
      State.setCu_rd, State.rd_bump_self, State.rd_wr_ne _ _ (Field.key_ne_of_lo rfl), s.cuEntered_rd k _ rfl rfl rfl]
  case told =>
    rw [State.raise_cuLink, State.setCu_cuLink_self]

/-! ### The end of a quarantine (R273, R276) -/

/-- The loss of the receive signal ends a quarantine. -/
theorem execCuQuarantineExit_of_lost {s : State} {k : Fin 6} (hrun : s.cuRuns k = true) (hst : s.cuSt k = cuQuar) :
    execCuQuarantineExit k none s = .next (s.cuEnter k cuDown) :=
  if_neg (by simp [hrun, hst])

/-- A block of the same identity does not end it, and one of another does. -/
theorem execCuQuarantineExit_of_block {s : State} {k : Fin 6} (b : IdBlock) (hrun : s.cuRuns k = true)
    (hst : s.cuSt k = cuQuar) : execCuQuarantineExit k (some b) s =
      if (s.cuLink k).peer = some b then .next s else .next ((s.showPeer k b).cuEnter k cuDown) :=
  if_neg (by simp [hrun, hst])

/-- Settles O36: each command's lemma names the state that the link enters, and the laws of that entry, from a state
that is not UP or from UP, give the clause. -/
theorem copperTraining : Obligations.CopperTraining := by
  unfold Obligations.CopperTraining
  refine ⟨fun s k hrun => ⟨fun hcable hst => ?delay, fun m hst hm => ?signal, fun hst => ?detectTimeout,
      fun m hst hm => ?adapted, fun hst => ?trainTimeout, fun hst => ?identTimeout, fun hst => ?alignTimeout⟩,
    fun s k b ls hrun hst hls => ⟨s.showPeer_peer k b, s.showPeer_node k b, fun h => ?failed, fun h hown => ?own,
      fun h hforeign => ?foreign⟩,
    fun s k b ls => ⟨fun h => if_pos h, s.identCheck_eq_zero_iff k b ls⟩,
    fun s k m hrun hst hlanes => ⟨_, execCuAlignDone_of_locked hrun hst hlanes,
      State.cuAligned_shows k.isLt (State.cuSt_ne_up hst (by decide)) m.isLt⟩,
    fun s k hrun hup hfails hcal => ?unframed,
    fun s k hrun hst => ⟨?lost, fun b hb => ?same, fun b hb => ?other⟩,
    fun s k hs hcal => ?retrain⟩
  case delay =>
    exact ⟨_, execCuDownDelay_of_cabled hrun hcable hst,
      State.cuEnter_after_shows _ (State.cuSt_ne_up hst (by decide)) (by decide)⟩
  case signal =>
    exact ⟨_, execCuSignalDetect_of_lanes hrun hst hm, State.cuEnter_shows (State.cuSt_ne_up hst (by decide)) (by decide)⟩
  case detectTimeout =>
    obtain ⟨hdown, hnow, -⟩ := State.cuEnter_after_shows (st := cuDown) 100000000 (State.cuSt_ne_up hst (by decide)) (by decide)
    exact ⟨_, execCuDetectTimeout_of_detect hrun hst, hdown, hnow⟩
  case adapted =>
    exact ⟨_, execCuTrainAdapted_of_lanes hrun hst hm, State.cuEnter_shows (State.cuSt_ne_up hst (by decide)) (by decide)⟩
  case trainTimeout =>
    have hne : s.cuSt k ≠ cuStUp := State.cuSt_ne_up hst (by decide)
    refine ⟨_, execCuTrainTimeout_of_train hrun hst, ?_⟩
    split
    · obtain ⟨hdown, hnow, -⟩ := State.cuEnter_after_shows (st := cuDown) 150000000 hne (by decide)
      exact ⟨hnow, hdown⟩
    · exact ⟨State.cuQuarantine_now _ _ _, State.cuQuarantine_shows k.isLt hne (by decide)⟩
  case identTimeout =>
    obtain ⟨hdown, hnow, -⟩ := State.cuEnter_after_shows (st := cuDown) 10000000 (State.cuSt_ne_up hst (by decide)) (by decide)
    exact ⟨_, execCuIdentTimeout_of_ident hrun hst, hdown, hnow⟩
  case alignTimeout =>
    obtain ⟨hdown, hnow, -⟩ := State.cuEnter_after_shows (st := cuDown) 20000000 (State.cuSt_ne_up hst (by decide)) (by decide)
    exact ⟨_, execCuAlignTimeout_of_align hrun hst, hdown, hnow⟩
  case failed =>
    have hne : (s.showPeer k b).cuSt k ≠ cuStUp := State.cuSt_ne_up ((s.showPeer_cuSt k b).trans hst) (by decide)
    exact ⟨_, execCuIdentRx_of_failed hrun hst hls h, State.cuQuarantine_shows k.isLt hne (State.identCheck_lt _ _ _ _)⟩
  case own => exact (execCuIdentRx_of_passed hrun hst hls h).trans (by rw [if_pos hown])
  case foreign => exact (execCuIdentRx_of_passed hrun hst hls h).trans (by rw [if_neg hforeign])
  case unframed =>
    obtain ⟨hdown, hflag⟩ := State.cuEnter_down_shows k.isLt hup hcal
    obtain ⟨hlock, hhov⟩ := State.cuEnter_down_clears k.isLt hup hcal
    exact ⟨_, execCuFramingLoss_of_unframed hrun hup hfails, hdown, hlock, hhov, hflag,
      (State.cuEnter_down_record hcal).1⟩
  case lost =>
    have hne : s.cuSt k ≠ cuStUp := State.cuSt_ne_up hst (by decide)
    refine ⟨_, execCuQuarantineExit_of_lost hrun hst, (State.cuEnter_shows hne (by decide)).1, ?_⟩
    rw [State.cuEnter_of_untrained _ hne]
    exact s.cuEntered_reason k (by decide)
  case same => exact (execCuQuarantineExit_of_block b hrun hst).trans (if_pos hb)
  case other =>
    have hne : (s.showPeer k b).cuSt k ≠ cuStUp := State.cuSt_ne_up ((s.showPeer_cuSt k b).trans hst) (by decide)
    refine ⟨_, (execCuQuarantineExit_of_block b hrun hst).trans (if_neg hb), (State.cuEnter_shows hne (by decide)).1, ?_⟩
    rw [State.cuEnter_of_untrained _ hne, State.cuEntered_cuLink]
    exact s.showPeer_peer k b
  case retrain =>
    obtain ⟨hrecord, -⟩ := State.cuEnter_down_record hcal
    exact ⟨_, execCuRetrain_of_csrSound hs hcal, State.cuEnter_down_state k.isLt hcal, by rw [hrecord], by rw [hrecord],
      fun hup => (State.cuEnter_down_shows k.isLt hup hcal).2⟩

end Sys2Proof.Machine
end

section
/-! SUPPORT. The instructions that stay inside a cluster (11_cluster_instructions.md): scalar, lane-wise integer and control
instructions, and the statements about them. -/
namespace Sys2Proof.Machine
open Sys2Proof

/-! ### Scalar instructions (R326, R330) -/

theorem Cluster.aWritten_setA (x : Cluster) (d : Nat) (v : AWord) : x.aWritten (x.setA d v) d v :=
  ⟨Cluster.areg_setA_self x d v, fun _ h => Cluster.areg_setA_ne x v h, fun _ => rfl, fun _ _ _ => rfl,
    fun _ _ _ _ _ => rfl⟩

/-- An instruction that is done once it has written A[d] leaves that register written and the program moved on. -/
theorem State.doneAt_setA (s : State) (c d : Nat) (v : AWord) :
    (s.cl c).aWritten ((s.doneAt c ((s.issued c).setCl c (({ s.cl c with shake := s.now } : Cluster).setA d v))).cl c) d v ∧
      s.movedOn (s.doneAt c ((s.issued c).setCl c (({ s.cl c with shake := s.now } : Cluster).setA d v))) c := by
  refine ⟨?_, State.movedOn_intro s c _ rfl⟩
  rw [State.doneAt_cl, State.cl_setCl_self]
  exact Cluster.aWritten_setA (s.cl c) d v

/-- A scalar instruction that may execute writes A[AD] with its value and moves the program on. -/
theorem State.scalar_writes {s : State} {c w op : Nat} {fs : List (Nat × Nat)} {ok : Nat → Bool}
    {f : Nat → Cluster → AWord} {v : AWord} (hp : s.permitted c w) (h : s.issuing c w op (predField :: fs))
    (hok : ok w = true) (hv : f w { s.cl c with shake := s.now } = v) :
    ∃ t, (.next (s.scalar c op fs ok f) : Result) = .next t ∧ (s.cl c).aWritten (t.cl c) (fAD w) v ∧ s.movedOn t c := by
  obtain ⟨-, -, hfields, -⟩ := id h
  have hdone : s.scalar c op fs ok f = s.doneAt c ((s.issued c).setCl c
      (({ s.cl c with shake := s.now } : Cluster).setA (fAD w) v)) :=
    State.issue_done s h (by rw [hfields, hok]; rfl) (fun _ => hp) (by rw [hv])
  exact ⟨_, congrArg _ hdone, s.doneAt_setA c (fAD w) v⟩

/-- Settles O7: every scalar instruction writes the one A register that its format names. -/
theorem scalarResults : Obligations.ScalarResults := by
  unfold Obligations.ScalarResults
  rintro s c w i v hp (⟨h, rfl, rfl⟩ | ⟨h, rfl, rfl⟩ | ⟨h, rfl, rfl⟩ | ⟨h, rfl, rfl⟩ | ⟨h, rfl, rfl⟩ | ⟨h, rfl, rfl⟩ |
    ⟨h, rfl, rfl⟩ | ⟨h, hlo, hhi, rfl, rfl⟩ | ⟨h, hlo, hhi, rfl, rfl⟩ | ⟨h, rfl, rfl⟩ | ⟨h, rfl, rfl⟩)
  iterate 7 · exact State.scalar_writes hp h rfl rfl
  iterate 2 · exact State.scalar_writes hp h (by simp [shiftOk, hlo, hhi]) rfl
  · exact State.scalar_writes hp h rfl (by rw [bitsOf, pow_zero, Nat.div_one])
  · exact State.scalar_writes hp h rfl rfl

/-! ### Lane-wise instructions without flags (R326, R330) -/

/-- Results without flags gather none. -/
theorem flagsOf_plain (l : List Nat) (g : Nat → Lane) : flagsOf (l.map fun n => plain (g n)) = {} := by
  rw [flagsOf]
  induction l with
  | nil => rfl
  | cons n l ih => exact ih

theorem State.addFlags_none (s : State) (c : Nat) : s.addFlags c {} = s := rfl

/-- A vector operation that wrote only its cluster's register files moves the program on and counts. -/
theorem State.doneAt_vop (s : State) (c : Fin 2048) (x : Cluster)
    (hx : x = { s.cl c with shake := s.now, a := x.a, p := x.p, v := x.v, t := x.t }) :
    (s.doneAt c (((s.issued c).setCl c x).vop c)).cl c = { x with pc := (s.cl c).pc + 1 } ∧
      (s.doneAt c (((s.issued c).setCl c x).vop c)).rd (CL.STEPS.VOPS c) =
        (s.rd (CL.STEPS.VOPS c) + 1) % 2 ^ (CL.STEPS.VOPS c).width ∧
      s.movedOnCounting (s.doneAt c (((s.issued c).setCl c x).vop c)) c [CL.STEPS.VOPS c] := by
  obtain ⟨hframe, hregs⟩ := ((s.issued c).setCl c x).vop_frame c
  have hcl (p : Nat) : (((s.issued c).setCl c x).vop c).cl p = ((s.issued c).setCl c x).cl p := by rw [hframe]; rfl
  have hself : (s.doneAt c (((s.issued c).setCl c x).vop c)).cl c = { x with pc := (s.cl c).pc + 1 } := by
    rw [State.doneAt_cl, hcl, State.cl_setCl_self]
  have hpc : (CL.STEPS.VOPS c).key ≠ (CL.STATE.PC c).key := Field.key_ne_of_lo rfl
  refine ⟨hself, ?_, ?_, fun p hp => ?_, fun g hg => ?_, ?_⟩
  · exact (State.vop_vops _ c).trans (by rw [State.setCl_rd, State.issued, State.rd_wr_ne _ _ hpc, State.setCl_rd])
  · rw [State.doneAt, State.setPc, hframe]; rfl
  · exact (State.cl_setCl_ne _ _ hp).trans ((hcl p).trans ((State.cl_setCl_ne _ _ hp).trans (State.cl_setCl_ne _ _ hp)))
  · refine (hregs g fun hm => hg ?_).trans (State.rd_wr_ne _ _ fun e => hg (by simp [e]))
    exact List.mem_cons_of_mem _ hm
  · rw [hself, hx]

/-- The cluster at issue with `g`'s values in the enabled lanes of VD. -/
def State.lanesIssued (s : State) (c w : Nat) (g : Nat → Lane) : Cluster :=
  ({ s.cl c with shake := s.now } : Cluster).setLanes (fVD w) (lanesOn ((s.cl c).pred w)) g

theorem State.lanesIssued_frame (s : State) (c w : Nat) (g : Nat → Lane) :
    s.lanesIssued c w g = { s.cl c with shake := s.now, v := (s.lanesIssued c w g).v } :=
  Cluster.setLanes_frame _ _ _ _

theorem State.lanesIssued_written (s : State) (c w : Nat) (g : Nat → Lane) :
    (s.cl c).lanesWritten (s.lanesIssued c w g) (fVD w) ((s.cl c).pred w) g :=
  Cluster.lanesWritten_setLanes { s.cl c with shake := s.now } (fVD w) ((s.cl c).pred w) g

/-- A lane-wise instruction whose results have no flags writes its results in the enabled lanes of VD and counts. -/
theorem State.lanewise_plain {s : State} {c : Fin 2048} {w op : Nat} {fs : List (Nat × Nat)}
    {f : Nat → Cluster → Nat → Lane × Flags} {g : Nat → Lane} (h : s.issuing c w op (predField :: fs))
    (hf : f w { s.cl c with shake := s.now } = fun n => plain (g n)) :
    ∃ t, (.next (s.lanewise c op fs f) : Result) = .next t ∧
      (s.cl c).lanesWritten (t.cl c) (fVD w) ((s.cl c).pred w) g ∧
      t.rd (CL.STEPS.VOPS c) = (s.rd (CL.STEPS.VOPS c) + 1) % 2 ^ (CL.STEPS.VOPS c).width ∧
      s.movedOnCounting t c [CL.STEPS.VOPS c] := by
  obtain ⟨-, -, hfields, -⟩ := id h
  have hdone : s.lanewise c op fs f = s.doneAt c (((s.issued c).setCl c (s.lanesIssued c w g)).vop c) :=
    State.issue_done s h hfields (fun hg => nomatch hg) (by
      dsimp only
      rw [hf, flagsOf_plain, State.addFlags_none]
      rfl)
  obtain ⟨hcl, hvops, hmoved⟩ := s.doneAt_vop c (s.lanesIssued c w g) (by rw [State.lanesIssued_frame])
  refine ⟨_, congrArg _ hdone, ?_, hvops, hmoved⟩
  rw [hcl]
  exact s.lanesIssued_written c w g

/-- Settles O10: each form is a lane-wise instruction whose results have no flags. -/
theorem lanewiseInteger : Obligations.LanewiseInteger := by
  unfold Obligations.LanewiseInteger
  rintro s c w i f (⟨g, op, h, rfl, hop⟩ | ⟨h, rfl, rfl⟩ | ⟨h, rfl, rfl⟩)
  · rcases hop with ⟨rfl, rfl, rfl⟩ | ⟨rfl, rfl, rfl⟩ | ⟨rfl, rfl, rfl⟩ | ⟨rfl, rfl, rfl⟩ | ⟨rfl, rfl, rfl⟩ |
      ⟨rfl, rfl, rfl⟩ | ⟨rfl, rfl, rfl⟩ | ⟨rfl, rfl, rfl⟩ | ⟨rfl, rfl, rfl⟩
    iterate 9 · exact State.lanewise_plain h rfl
  · exact State.lanewise_plain h rfl
  · exact State.lanewise_plain h rfl

/-! ### A cluster's window (R313) -/

/-- The field of cluster `c`'s window that begins at bit `lo` of the register at `k`. -/
def windowField (c k lo width reset : Nat) : Field :=
  ⟨k + 0x100000 * (c / 256) + 0x1000 * (c % 256), lo, width, 0, reset⟩

/-- Fields of one window are apart where their registers or their lowest bits are. -/
theorem windowField_key_ne {c k lo width reset k' lo' width' reset' : Nat} (hl : lo < 128) (hl' : lo' < 128)
    (h : (k, lo) ≠ (k', lo')) : (windowField c k lo width reset).key ≠ (windowField c k' lo' width' reset').key := by
  intro e
  simp only [Field.key, windowField] at e
  simp only [ne_eq, Prod.mk.injEq, not_and] at h
  omega

/-- A cluster's window holds nothing that the recorder keeps. -/
theorem windowField_notMem_recorderFields (c : Fin 2048) {k lo width reset : Nat} (hl : lo < 128) (hk : k < 0x201000) :
    (windowField c k lo width reset).key ∉ recorderFields.map Field.key :=
  notMem_recorderFields hl (by have := c.isLt; simp only [windowField]; omega)

/-- The counts of outstanding operations stand in CL_TAGS_LO and CL_TAGS_HI. -/
theorem tagField_eq_windowField (c t : Nat) : ∃ k lo, tagField c t = windowField c k lo 6 0 ∧ 0x200084 ≤ k ∧ lo < 128 := by
  unfold tagField
  split <;> exact ⟨_, _, rfl, by decide, by decide⟩

/-- The issue of an instruction leaves every field of its cluster's window but PC in CL.STATE. -/
theorem State.issued_rd (s : State) {c k lo width reset : Nat} (hl : lo < 128) (h : (k, lo) ≠ (0x200008, 0)) :
    (s.issued c).rd (windowField c k lo width reset) = s.rd (windowField c k lo width reset) :=
  State.rd_wr_ne _ _ (windowField_key_ne (k' := 0x200008) (lo' := 0) (width' := 13) (reset' := 0) hl (by decide) h)

@[simp] theorem State.issued_tagCount (s : State) (c t : Nat) : (s.issued c).tagCount c t = s.tagCount c t := by
  obtain ⟨k, lo, hfield, hk, hlo⟩ := tagField_eq_windowField c t
  rw [State.tagCount, hfield, State.issued_rd s hlo (fun e => by simp at e; omega), ← hfield]
  rfl

@[simp] theorem State.issued_allDrained (s : State) (c : Nat) : (s.issued c).allDrained c = s.allDrained c := by
  simp only [State.allDrained, State.issued_tagCount]

/-! ### Fields cleared one after another -/

/-- `n` fields cleared in their order. -/
def State.clearFields (s : State) (f : Nat → Field) (n : Nat) : State :=
  (List.range n).foldl (fun s i => s.wr (f i) 0) s

theorem State.clearFields_succ (s : State) (f : Nat → Field) (n : Nat) :
    s.clearFields f (n + 1) = (s.clearFields f n).wr (f n) 0 := by
  rw [State.clearFields, List.range_succ, List.foldl_append]; rfl

theorem State.clearFields_frame (s : State) (f : Nat → Field) (n : Nat) :
    s.clearFields f n = { s with regs := (s.clearFields f n).regs } := by
  induction n with
  | zero => rfl
  | succ n ih => rw [State.clearFields_succ, ih]; rfl

@[simp] theorem State.clearFields_cl (s : State) (f : Nat → Field) (n p : Nat) : (s.clearFields f n).cl p = s.cl p := by
  rw [State.clearFields_frame]; rfl

theorem State.clearFields_rd_ne (s : State) {f : Nat → Field} {n : Nat} {g : Field} (h : ∀ i < n, g.key ≠ (f i).key) :
    (s.clearFields f n).rd g = s.rd g := by
  induction n with
  | zero => rfl
  | succ n ih =>
    rw [State.clearFields_succ, State.rd_wr_ne _ _ (h n (Nat.lt_succ_self n))]
    exact ih fun i hi => h i (Nat.lt_succ_of_lt hi)

/-- Fields that are apart all read zero once they are cleared. -/
theorem State.clearFields_rd (s : State) {f : Nat → Field} {n : Nat}
    (h : ∀ i j, i < j → j < n → (f i).key ≠ (f j).key) : ∀ i < n, (s.clearFields f n).rd (f i) = 0 := by
  induction n with
  | zero => exact fun i hi => absurd hi (Nat.not_lt_zero i)
  | succ n ih =>
    intro i hi
    rw [State.clearFields_succ]
    rcases Nat.lt_succ_iff_lt_or_eq.1 hi with hlt | rfl
    · rw [State.rd_wr_ne _ _ (h i n hlt (Nat.lt_succ_self n))]
      exact ih (fun i j hij hj => h i j hij (Nat.lt_succ_of_lt hj)) i hlt
    · rw [State.rd_wr_self, Nat.zero_mod]

/-! ### The flags (R312) -/

/-- Flag `i` of CL_FLAGS, in RDFL's order. -/
def flagField (c i : Nat) : Field := windowField c 0x200014 i 1 0

theorem flagField_mem {c i : Nat} (h : i < 6) : flagField c i ∈ (flagFields c).dropLast := by
  match i, h with
  | 0, _ | 1, _ | 2, _ | 3, _ | 4, _ | 5, _ => simp [flagFields, flagField, windowField, CL.FLAGS.NV, CL.FLAGS.DZ,
      CL.FLAGS.OF, CL.FLAGS.UF, CL.FLAGS.NX, CL.FLAGS.SAT]

/-- RDFL's value is spelt by the six flags. -/
theorem State.flagBits_of_rd {s : State} {c : Nat} {v : Nat → Nat} (h : ∀ i < 6, s.rd (flagField c i) = v i) :
    s.flagBits c = v 0 + 2 * v 1 + 4 * v 2 + 8 * v 3 + 16 * v 4 + 32 * v 5 := by
  rw [State.flagBits, show s.rd (CL.FLAGS.NV c) = v 0 from h 0 (by decide),
    show s.rd (CL.FLAGS.DZ c) = v 1 from h 1 (by decide), show s.rd (CL.FLAGS.OF c) = v 2 from h 2 (by decide),
    show s.rd (CL.FLAGS.UF c) = v 3 from h 3 (by decide), show s.rd (CL.FLAGS.NX c) = v 4 from h 4 (by decide),
    show s.rd (CL.FLAGS.SAT c) = v 5 from h 5 (by decide)]

@[simp] theorem State.issued_flagBits (s : State) (c : Nat) : (s.issued c).flagBits c = s.flagBits c :=
  (State.flagBits_of_rd fun _ hi => s.issued_rd (by omega) (by simp)).trans (State.flagBits_of_rd fun _ _ => rfl).symm

theorem State.clearFlags_eq (s : State) (c : Nat) : s.clearFlags c = s.clearFields (flagField c) 6 := rfl

theorem flagField_key_ne (c : Nat) {i j : Nat} (hij : i < j) (hj : j < 6) : (flagField c i).key ≠ (flagField c j).key :=
  windowField_key_ne (by omega) (by omega) (by simp; omega)

theorem State.clearFlags_flagBits (s : State) (c : Nat) : (s.clearFlags c).flagBits c = 0 := by
  rw [State.clearFlags_eq]
  exact State.flagBits_of_rd (v := fun _ => 0) (s.clearFields_rd fun _ _ hij hj => flagField_key_ne c hij hj)

theorem State.clearFlags_regsBut (s : State) (c : Nat) : s.regsBut (s.clearFlags c) (flagFields c).dropLast := by
  rw [State.clearFlags_eq]
  exact fun _ hg => s.clearFields_rd_ne fun _ hi e => hg (List.mem_map.2 ⟨_, flagField_mem hi, e.symm⟩)

theorem State.clearFlags_frame (s : State) (c : Nat) : s.clearFlags c = { s with regs := (s.clearFlags c).regs } := by
  rw [State.clearFlags_eq]
  exact s.clearFields_frame _ _

@[simp] theorem State.clearFlags_cl (s : State) (c p : Nat) : (s.clearFlags c).cl p = s.cl p := by
  rw [State.clearFlags_frame]; rfl

@[simp] theorem State.setPc_flagBits (s : State) (p n c : Nat) : (s.setPc p n).flagBits c = s.flagBits c := rfl

/-! ### Control (R331) -/

/-- A meaning that answers a state answers whatever equals it. -/
theorem next_congr {s t : State} (h : s = t) : (.next s : Result) = .next t := congrArg _ h

/-- A cluster that fetches an instruction of the OPCODE issues it. -/
theorem State.issue_of_fetch {s : State} {c w op : Nat} (legal : Nat → Bool) (gated : Bool)
    (f : Nat → State → Cluster → Effect) (hw : s.fetch c = some w) (hop : w / 2 ^ 56 = op) :
    s.issue c op legal gated f = s.execute c w (legal w) gated (f w) := by
  rw [State.issue, hw]; exact if_pos hop

/-- NOP, and an OPCODE that the instruction set does not list, are executed by the first arm of the issue. -/
theorem execNop_eq_execute {s : State} {c : Fin 2048} {w : Nat} (hw : s.fetch c = some w)
    (hop : w / 2 ^ 56 = 0x00 ∨ ¬ opListed (w / 2 ^ 56)) : execNop c false s =
      .next (s.execute c w (w / 2 ^ 56 == 0 && onlyFields w []) false fun s _ => .done s) := by
  rw [execNop, hw]
  dsimp only
  rw [if_neg Bool.false_ne_true, if_pos hop]

theorem execNop_eq_issue {s : State} {c : Fin 2048} {w : Nat} (h : s.issuing c w 0x00 []) :
    execNop c false s = .next (s.issue c 0x00 (fun w => onlyFields w []) false fun _ s _ => .done s) := by
  obtain ⟨hw, hop, -, -⟩ := h
  rw [execNop_eq_execute hw (.inl hop), State.issue_of_fetch _ _ _ hw hop, hop]
  rfl

/-- An instruction that writes A[d] and jumps leaves that register written and the program at its target. -/
theorem State.jumpAt_setA (s : State) (c d n : Nat) (v : AWord) :
    let t := ((s.issued c).setCl c (({ s.cl c with shake := s.now } : Cluster).setA d v)).setPc c n
    (t.cl c).pc = n ∧ (s.cl c).aWritten (t.cl c) d v ∧
      t.cl c = { s.cl c with pc := n, shake := s.now, a := (t.cl c).a } ∧ s.onlyCluster t c [CL.STATE.PC c] := by
  intro t
  have hcl : t.cl c = { ({ s.cl c with shake := s.now } : Cluster).setA d v with pc := n } := by
    exact (State.cl_setCl_self _ _ _).trans (by rw [State.cl_setCl_self])
  rw [hcl]
  refine ⟨rfl, Cluster.aWritten_setA (s.cl c) d v, rfl, rfl, fun p hp => ?_, fun g hg => ?_⟩
  · exact (State.cl_setCl_ne _ _ hp).trans ((State.cl_setCl_ne _ _ hp).trans (State.cl_setCl_ne _ _ hp))
  · exact State.rd_wr_ne _ _ fun e => hg (by simp [e])

/-- CLRFL clears the flags and moves the program on. -/
theorem State.doneAt_clearFlags (s : State) (c : Nat) :
    (s.doneAt c ((s.issued c).clearFlags c)).flagBits c = 0 ∧
      (s.doneAt c ((s.issued c).clearFlags c)).cl c = { s.cl c with pc := (s.cl c).pc + 1, shake := s.now } ∧
      s.onlyCluster (s.doneAt c ((s.issued c).clearFlags c)) c (CL.STATE.PC c :: (flagFields c).dropLast) := by
  have hcl (p : Nat) : ((s.issued c).clearFlags c).cl p = (s.issued c).cl p := State.clearFlags_cl _ c p
  have hregs := (s.issued c).clearFlags_regsBut c
  have hbits := (s.issued c).clearFlags_flagBits c
  have hframe := (s.issued c).clearFlags_frame c
  generalize (s.issued c).clearFlags c = u at hcl hregs hbits hframe ⊢
  refine ⟨(State.setPc_flagBits _ _ _ _).trans hbits, ?_, ?_, fun p hp => ?_, fun g hg => ?_⟩
  · rw [State.doneAt_cl, hcl, State.issued_cl]
  · rw [State.doneAt, State.setPc, hframe]; rfl
  · exact (State.cl_setCl_ne _ _ hp).trans ((hcl p).trans (State.cl_setCl_ne _ _ hp))
  · refine (hregs g fun hm => hg (List.mem_cons_of_mem _ hm)).trans ?_
    exact State.rd_wr_ne _ _ fun e => hg (by simp [e])

/-! ### The end of a program (R314) -/

@[simp] theorem State.token_rd (s : State) (j n code : Nat) (g : Field) : (s.token j n code).rd g = s.rd g := by
  unfold State.token; dsimp only; split <;> rfl

@[simp] theorem State.token_cl (s : State) (j n code p : Nat) : (s.token j n code).cl p = s.cl p := by
  unfold State.token; dsimp only; split <;> rfl

@[simp] theorem State.clToken_rd (s : State) (p code : Nat) (g : Field) : (s.clToken p code).rd g = s.rd g :=
  State.token_rd _ _ _ _ _

@[simp] theorem State.clToken_cl (s : State) (p code q : Nat) : (s.clToken p code).cl q = s.cl q :=
  State.token_cl _ _ _ _ _

theorem State.halt_clState (s : State) (p st : Nat) : (s.halt p st).clState p = st % 8 := State.rd_wr_self _ _ _

/-- An event of a cluster leaves the fields of its window but the flag and SEQ. -/
theorem State.raise_rd_window (s : State) (c : Fin 2048) {lo k lo' width reset : Nat} (hlo : lo < 128) (hlo' : lo' < 128)
    (hk : k < 0x201000) (hflag : (k, lo') ≠ (0x20000c, lo)) (hseq : (k, lo') ≠ (0x20000c, 24)) :
    (s.raise (windowField c 0x20000c lo 1 0)).rd (windowField c k lo' width reset) =
      s.rd (windowField c k lo' width reset) :=
  State.raise_rd_ne _ _ _ (windowField_key_ne hlo' hlo hflag)
    (windowField_key_ne (k' := 0x20000c) (lo' := 24) (width' := 8) (reset' := 0) hlo' (by decide) hseq)
    (windowField_notMem_recorderFields c hlo' hk)

/-- An event of a cluster sets its flag. -/
theorem State.raise_on_window (s : State) (c : Fin 2048) {lo : Nat} (hlo : lo < 24) :
    (s.raise (windowField c 0x20000c lo 1 0)).on (windowField c 0x20000c lo 1 0) = true := by
  rw [State.on, State.raise_rd_self _ _ _ rfl (Nat.ne_of_lt hlo)
    (windowField_notMem_recorderFields c (by omega) (by decide))]
  rfl

/-- A program that has ended is DONE, with its event. -/
theorem State.finish_shows (s : State) (c : Fin 2048) :
    (s.finish c).clState c = clDone ∧ (s.finish c).on (CL.EVENT.DONE c) = true := by
  refine ⟨?_, State.raise_on_window _ c (lo := 3) (by decide)⟩
  refine (State.raise_rd_window _ c (lo := 3) (k := 0x200008) (lo' := 29) (by decide) (by decide) (by decide) (by simp)
    (by simp)).trans ?_
  exact (State.clToken_rd _ _ _ _).trans (s.halt_clState c clDone)

/-- Settles O16: each control instruction is done, jumps, waits or ends by the lemma for its kind of effect. -/
theorem controlFlow : Obligations.ControlFlow := by
  unfold Obligations.ControlFlow
  refine ⟨fun s c w h => ?nop, fun s c w hw hop hf ht => ?taken, fun s c w h ht => ?notTaken, fun s c w hw hop hf => ?jal,
    fun s c w hw hop hf ht => ?jr, fun s c w h => ?rdfl, fun s c w h => ?clrfl,
    fun s c w h hh => ⟨fun hd => ?ended, fun hd => ?waits⟩⟩
  case nop =>
    obtain ⟨-, -, hf, -⟩ := id h
    exact ⟨_, (execNop_eq_issue h).trans (next_congr (State.issue_done s h hf (fun hg => nomatch hg) rfl)),
      s.doneAt_frame c⟩
  case taken =>
    refine ⟨_, next_congr (State.issue_jump s hw hop hf (if_pos ht)), ?_⟩
    rw [bitsOf, pow_zero, Nat.div_one]
    exact s.jumpAt_frame c _
  case notTaken =>
    obtain ⟨-, -, hf, -⟩ := id h
    exact ⟨_, next_congr (State.issue_done s h hf (fun hg => nomatch hg) (if_neg (Bool.eq_false_iff.1 ht))),
      s.doneAt_frame c⟩
  case jal =>
    refine ⟨_, next_congr (State.issue_jump s hw hop hf rfl), ?_⟩
    rw [bitsOf, pow_zero, Nat.div_one]
    exact s.jumpAt_setA c _ _ _
  case jr =>
    exact ⟨_, next_congr (State.issue_jump s hw hop hf (if_neg (Nat.not_lt.2 ht))), s.jumpAt_frame c _⟩
  case rdfl =>
    obtain ⟨-, -, hf, -⟩ := id h
    refine ⟨_, next_congr (State.issue_done s h hf (fun hg => nomatch hg) rfl), ?_⟩
    rw [State.issued_flagBits]
    exact s.doneAt_setA c _ _
  case clrfl =>
    obtain ⟨-, -, hf, -⟩ := id h
    exact ⟨_, next_congr (State.issue_done s h hf (fun hg => nomatch hg) rfl), s.doneAt_clearFlags c⟩
  case ended =>
    obtain ⟨-, -, hf, -⟩ := id h
    exact ⟨next_congr (State.issue_ended s h hf (by simp [hh, hd])), (s.issued c).finish_shows c⟩
  case waits =>
    obtain ⟨-, -, hf, -⟩ := id h
    exact next_congr (State.issue_wait s h hf (fun hg => nomatch hg) (by simp [hh, hd]))

end Sys2Proof.Machine
end

section
/-! SUPPORT. Program faults (R347): what the fault of a cluster's program leaves, the ways an instruction comes to fault, and
the statement about them. -/
namespace Sys2Proof.Machine
open Sys2Proof

/-! ### Clusters through the parts of a fault -/

theorem State.cl_congr {s t : State} (h : t.comp = s.comp) (p : Nat) : t.cl p = s.cl p :=
  congrArg (fun x : Compute => Tbl.lookD x.clusters {} p) h

@[simp] theorem State.raise_cl (s : State) (f : Field) (v : Nat) (d : List Byte) (p : Nat) :
    (s.raise f v d).cl p = s.cl p := State.cl_congr (s.raise_comp f v d) p

@[simp] theorem State.halt_cl (s : State) (p st : Nat) : (s.halt p st).cl p = { s.cl p with wait := none, stage := 0 } :=
  State.cl_setCl_self s p _

/-! ### Buffers freed without commit (R347) -/

@[simp] theorem State.release_cl (s : State) (q b p : Nat) : (s.release q b).cl p = s.cl p := rfl

/-- A queue's count of buffers stands in no cluster's window. -/
theorem State.release_rd_window (s : State) (q b : Nat) (c : Fin 2048) {k lo width reset : Nat} (hlo : lo < 128)
    (hk : 0x200000 ≤ k) (hk' : k < 0x201000) :
    (s.release q b).rd (windowField c k lo width reset) = s.rd (windowField c k lo width reset) :=
  State.rd_wr_ne _ _ fun e => by
    have := c.isLt
    simp only [Field.key, windowField, PB.Q_STAT.BUFS] at e
    omega

/-- A cluster's handles forgotten, once their buffers have been freed. -/
theorem State.dropHandles_cl (s : State) (p : Nat) : (s.dropHandles p).cl p = { s.cl p with handles := [] } := by
  have hfold : ∀ l : List (Nat × Nat), (l.foldl (fun s h => s.release h.1 h.2) s).cl p = s.cl p := fun l =>
    List.foldlRecOn (motive := fun t : State => t.cl p = s.cl p) l _ rfl fun t ht h _ => (t.release_cl _ _ p).trans ht
  rw [State.dropHandles, State.setHandles, State.cl_wr, State.cl_setCl_self, hfold]

theorem State.dropHandles_rd (s : State) (c : Fin 2048) {k lo width reset : Nat} (hlo : lo < 128) (hk : 0x200000 ≤ k)
    (hk' : k < 0x200080) : (s.dropHandles c).rd (windowField c k lo width reset) = s.rd (windowField c k lo width reset) :=
  (State.rd_wr_ne _ _ (windowField_key_ne (k' := 0x200080) (lo' := 18) (width' := 4) (reset' := 0) hlo (by decide)
    (by simp; omega))).trans
    (List.foldlRecOn (motive := fun t : State => t.rd (windowField c k lo width reset) = _) _ _ rfl fun t ht h _ =>
      (t.release_rd_window h.1 h.2 c hlo hk (by omega)).trans ht)

/-! ### Outstanding operations discarded (R325, R347) -/

/-- What a cluster keeps of its transfers once no tag counts them. -/
def Cluster.uncounted (x : Cluster) : Cluster :=
  { x with fails := [], xfers := x.xfers.map fun y => { y with counted := false } }

/-- What stands queued at the die engines for a cluster counts under no tag any more. -/
def State.uncountEngines (s : State) (p : Nat) : State :=
  { s with comp := { s.comp with engines := s.comp.engines.map fun e =>
      (e.1, { e.2 with queue := e.2.queue.map fun d => if d.cluster = p then { d with counted := false } else d }) } }

@[simp] theorem State.uncountEngines_rd (s : State) (p : Nat) (g : Field) : (s.uncountEngines p).rd g = s.rd g := rfl

@[simp] theorem State.uncountEngines_cl (s : State) (p q : Nat) : (s.uncountEngines p).cl q = s.cl q := rfl

theorem State.clearTags_eq (s : State) (p : Nat) : s.clearTags p = ((s.clearFields (tagField p) 8).setCl p
    ((s.clearFields (tagField p) 8).cl p).uncounted).uncountEngines p := by
  unfold State.clearTags State.uncountEngines State.clearFields Cluster.uncounted
  dsimp only

theorem State.clearTags_rd (s : State) (p : Nat) (g : Field) :
    (s.clearTags p).rd g = (s.clearFields (tagField p) 8).rd g := by
  rw [State.clearTags_eq, State.uncountEngines_rd, State.setCl_rd]

theorem State.clearTags_cl (s : State) (p : Nat) : (s.clearTags p).cl p = (s.cl p).uncounted := by
  rw [State.clearTags_eq, State.uncountEngines_cl, State.cl_setCl_self, State.clearFields_cl]

theorem tagField_key (p : Nat) {t : Nat} (h : t < 8) : (tagField p t).key =
    (0x200084 + 4 * (t / 4) + 0x100000 * (p / 256) + 0x1000 * (p % 256)) * 128 + 8 * (t % 4) := by
  match t, h with
  | 0, _ | 1, _ | 2, _ | 3, _ | 4, _ | 5, _ | 6, _ | 7, _ =>
    simp only [tagField, Field.key, CL.TAGS_LO.TAG0, CL.TAGS_LO.TAG1, CL.TAGS_LO.TAG2, CL.TAGS_LO.TAG3,
      CL.TAGS_HI.TAG4, CL.TAGS_HI.TAG5, CL.TAGS_HI.TAG6, CL.TAGS_HI.TAG7]
    omega

/-- Once the counts are cleared every tag has drained. -/
theorem State.clearTags_allDrained (s : State) (p : Nat) : (s.clearTags p).allDrained p = true := by
  refine List.all_eq_true.2 fun t ht => beq_iff_eq.2 ?_
  rw [State.tagCount, State.clearTags_rd]
  refine s.clearFields_rd (fun i j hij hj e => ?_) t (List.mem_range.1 ht)
  rw [tagField_key p (hij.trans hj), tagField_key p hj] at e
  omega

theorem State.clearTags_rd_window (s : State) (c : Fin 2048) {k lo width reset : Nat} (hlo : lo < 128)
    (hk : k < 0x200084) : (s.clearTags c).rd (windowField c k lo width reset) = s.rd (windowField c k lo width reset) := by
  rw [State.clearTags_rd]
  refine s.clearFields_rd_ne fun t ht e => ?_
  rw [tagField_key c ht] at e
  simp only [Field.key, windowField] at e
  omega

/-! ### A program's fault (R314, R347) -/

/-- A program fault as the registers show it, before what the program held is let go. -/
def State.clFaultShown (s : State) (p code : Nat) : State :=
  ((((s.halt p clFaulted).clToken p code).wr (CL.FAULT.CODE p) code).wr (CL.FAULT.PC p)
    (s.rd (CL.STATE.PC p))).raise (CL.EVENT.FAULT p)

theorem State.clFault_eq (s : State) (p code : Nat) :
    s.clFault p code = ((s.clFaultShown p code).dropHandles p).clearTags p := by
  unfold State.clFault State.clFaultShown
  dsimp only

/-- The fault's code, instruction and event, and the state FAULT, outlast what the program lets go. -/
theorem State.clFault_rd (s : State) (c : Fin 2048) (code : Nat) {k lo width reset : Nat} (hlo : lo < 128)
    (hk : 0x200000 ≤ k) (hk' : k < 0x200080) : (s.clFault c code).rd (windowField c k lo width reset) =
      (s.clFaultShown c code).rd (windowField c k lo width reset) := by
  rw [State.clFault_eq, State.clearTags_rd_window _ c hlo (by omega), State.dropHandles_rd _ c hlo hk hk']

theorem State.clFaultShown_cl (s : State) (p code : Nat) :
    (s.clFaultShown p code).cl p = { s.cl p with wait := none, stage := 0 } := by
  rw [State.clFaultShown, State.raise_cl, State.cl_wr, State.cl_wr, State.clToken_cl, State.halt_cl]

theorem State.clFaultShown_shows (s : State) (c : Fin 2048) {code : Nat} (hcode : code < 256) :
    (s.clFaultShown c code).clState c = clFaulted ∧ (s.clFaultShown c code).rd (CL.FAULT.CODE c) = code ∧
      (s.clFaultShown c code).rd (CL.FAULT.PC c) = s.rd (CL.STATE.PC c) % 8192 ∧
      (s.clFaultShown c code).on (CL.EVENT.FAULT c) = true := by
  have hraise (t : State) {k lo width reset : Nat} (hlo : lo < 128) (hk : k < 0x201000) (h : k ≠ 0x20000c) :
      (t.raise (CL.EVENT.FAULT c)).rd (windowField c k lo width reset) = t.rd (windowField c k lo width reset) :=
    t.raise_rd_window c (lo := 4) (by decide) hlo hk (by simp [h]) (by simp [h])
  refine ⟨(hraise _ (k := 0x200008) (lo := 29) (by decide) (by decide) (by decide)).trans ?_,
    (hraise _ (k := 0x200010) (lo := 24) (by decide) (by decide) (by decide)).trans ?_,
    (hraise _ (k := 0x200010) (lo := 0) (by decide) (by decide) (by decide)).trans (State.rd_wr_self _ _ _),
    State.raise_on_window _ c (lo := 4) (by decide)⟩
  · have hpc : (CL.STATE.STATE c).key ≠ (CL.FAULT.PC c).key := Field.key_ne_of_lo rfl
    have hcd : (CL.STATE.STATE c).key ≠ (CL.FAULT.CODE c).key := Field.key_ne_of_lo rfl
    exact (State.rd_wr_ne _ _ hpc).trans ((State.rd_wr_ne _ _ hcd).trans
      ((State.clToken_rd _ _ _ _).trans (s.halt_clState c clFaulted)))
  · have hpc : (CL.FAULT.CODE c).key ≠ (CL.FAULT.PC c).key := Field.key_ne_of_lo rfl
    exact (State.rd_wr_ne _ _ hpc).trans ((State.rd_wr_self _ _ _).trans (Nat.mod_eq_of_lt hcode))

/-- What a program fault leaves: FAULT with its code and instruction, its event, no buffer, no wait, no count. -/
theorem State.clFault_shows (s : State) (c : Fin 2048) {code : Nat} (hcode : code < 256) :
    (s.clFault c code).clState c = clFaulted ∧ (s.clFault c code).rd (CL.FAULT.CODE c) = code ∧
      (s.clFault c code).rd (CL.FAULT.PC c) = s.rd (CL.STATE.PC c) % 8192 ∧
      (s.clFault c code).on (CL.EVENT.FAULT c) = true ∧ ((s.clFault c code).cl c).handles = [] ∧
      ((s.clFault c code).cl c).wait = none ∧ (s.clFault c code).allDrained c = true := by
  obtain ⟨hst, hcd, hpc, hev⟩ := s.clFaultShown_shows c hcode
  have hcl : (s.clFault c code).cl c =
      ({ s.cl c with wait := none, stage := 0, handles := [] } : Cluster).uncounted := by
    rw [State.clFault_eq, State.clearTags_cl, State.dropHandles_cl, State.clFaultShown_cl]
  have hkeep {k lo width reset : Nat} (hlo : lo < 128) (hk : 0x200000 ≤ k) (hk' : k < 0x200080) :=
    s.clFault_rd c code (width := width) (reset := reset) hlo hk hk'
  refine ⟨(hkeep (k := 0x200008) (lo := 29) (by decide) (by decide) (by decide)).trans hst,
    (hkeep (k := 0x200010) (lo := 24) (by decide) (by decide) (by decide)).trans hcd,
    (hkeep (k := 0x200010) (lo := 0) (by decide) (by decide) (by decide)).trans hpc,
    ?_, by rw [hcl]; rfl, by rw [hcl]; rfl, State.clearTags_allDrained _ _⟩
  exact (congrArg (· != 0) (hkeep (k := 0x20000c) (lo := 4) (by decide) (by decide) (by decide))).trans hev

/-! ### How an instruction comes to fault (R327, R347) -/

/-- An instruction that is not legal faults ILLEGAL. -/
theorem State.execute_illegal {s : State} (c w : Nat) (gated : Bool) (f : State → Cluster → Effect) :
    s.execute c w false gated f = (s.issued c).clFault c pfIllegal := by
  rw [State.execute]
  exact if_pos rfl

/-- A legal instruction that may execute has its effect on the state at issue. -/
theorem State.execute_effect {s : State} {c w : Nat} {gated : Bool} {f : State → Cluster → Effect}
    (hg : gated = true → s.permitted c w) :
    (if gated && !enabled ((s.cl c).pred w) 0 then Effect.done (s.issued c) else f (s.issued c) ((s.issued c).cl c)) =
      f (s.issued c) { s.cl c with shake := s.now } := by
  rw [State.issued_cl]
  refine if_neg fun h => ?_
  obtain ⟨hgated, hoff⟩ := Bool.and_eq_true_iff.1 h
  rw [show enabled ((s.cl c).pred w) 0 = true from hg hgated] at hoff
  exact Bool.false_ne_true hoff

/-- A legal instruction whose effect is a fault faults with its code. -/
theorem State.execute_fault {s t : State} {c w code : Nat} {gated : Bool} {f : State → Cluster → Effect}
    (hg : gated = true → s.permitted c w) (hf : f (s.issued c) { s.cl c with shake := s.now } = .fault t code) :
    s.execute c w true gated f = t.clFault c code := by
  have heff := (State.execute_effect hg).trans hf
  rw [State.issued] at heff
  rw [State.execute, if_neg (by decide), heff]

/-- An instruction that is done at the last index of the store has no next one: PC_END. -/
theorem State.execute_pcEnd {s t : State} {c w : Nat} {gated : Bool} {f : State → Cluster → Effect}
    (hg : gated = true → s.permitted c w) (hf : f (s.issued c) { s.cl c with shake := s.now } = .done t)
    (hpc : (s.cl c).pc = 8191) : s.execute c w true gated f = (s.issued c).clFault c pfPcEnd := by
  have heff := (State.execute_effect hg).trans hf
  rw [State.issued] at heff
  rw [State.execute, if_neg (by decide), heff]
  exact if_pos hpc

/-- A legal instruction whose effect is a fault at the state of issue. -/
theorem State.issue_fault {s : State} {c w op code : Nat} {legal : Nat → Bool} {gated : Bool}
    {f : Nat → State → Cluster → Effect} (hw : s.fetch c = some w) (hop : w / 2 ^ 56 = op) (hl : legal w = true)
    (hg : gated = true → s.permitted c w)
    (hf : f w (s.issued c) { s.cl c with shake := s.now } = .fault (s.issued c) code) :
    s.issue c op legal gated f = (s.issued c).clFault c code := by
  rw [State.issue_of_fetch _ _ _ hw hop, hl, State.execute_fault hg hf]

/-- What the statement asks of an instruction that faults at issue. -/
theorem State.faults_at_issue {s : State} {c : Fin 2048} {i : Instr} {code : Nat}
    (h : exec i s = .next ((s.issued c).clFault c code)) (hcode : code < 256) :
    ∃ t, exec i s = .next t ∧ t.clState c = clFaulted ∧ t.rd (CL.FAULT.CODE c) = code ∧
      t.rd (CL.FAULT.PC c) = (s.cl c).pc % 8192 ∧ t.on (CL.EVENT.FAULT c) = true ∧ (t.cl c).handles = [] ∧
      (t.cl c).wait = none ∧ t.allDrained c = true := by
  have hpc : (s.issued c).rd (CL.STATE.PC c) % 8192 = (s.cl c).pc % 8192 := by
    rw [State.issued, State.rd_wr_self]; exact Nat.mod_mod _ _
  have hshows := (s.issued c).clFault_shows c hcode
  rw [hpc] at hshows
  exact ⟨_, h, hshows⟩

/-- Settles O17: each instruction comes to the same fault of its cluster, which the registers then show. -/
theorem programFaults : Obligations.ProgramFaults := by
  unfold Obligations.ProgramFaults
  rintro s c w i code hw (⟨hop, hf, rfl, rfl⟩ | ⟨hop, rfl, rfl⟩ | ⟨hop, hf, rfl, rfl⟩ | ⟨hop, hf, hpc, rfl, rfl⟩ |
    ⟨hop, hf, ht, rfl, rfl⟩ | ⟨hop, hf, hheld, rfl, rfl⟩ | ⟨hop, hf, hok, hW, ha, rfl, rfl⟩ | ⟨hop, hf, ha, hr, rfl, rfl⟩ |
    ⟨hop, hf, hp, hfull, rfl, rfl⟩ | ⟨hop, hf, hp, hbar, rfl, rfl⟩) <;> refine State.faults_at_issue ?_ (by decide)
  · exact next_congr (State.issue_fault hw hop hf (fun hg => nomatch hg) rfl)
  · refine (execNop_eq_execute hw (.inr (by rw [hop]; decide))).trans (next_congr ?_)
    have h0 : (w / 2 ^ 56 == 0) = false := beq_eq_false_iff_ne.2 fun e => by
      rw [e] at hop; exact absurd hop (by decide)
    rw [h0, Bool.false_and, State.execute_illegal]
  · refine next_congr ((State.issue_of_fetch _ _ _ hw hop).trans ?_)
    dsimp only
    rw [hf, Bool.false_and, State.execute_illegal]
  · refine (execNop_eq_execute hw (.inl hop)).trans (next_congr ?_)
    rw [hop, hf]
    exact State.execute_pcEnd (fun hg => nomatch hg) rfl hpc
  · exact next_congr (State.issue_fault hw hop hf (fun hg => nomatch hg) (if_pos ht))
  · exact next_congr (State.issue_fault hw hop hf (fun hg => nomatch hg) (if_pos hheld))
  · exact next_congr (State.issue_fault hw hop (by rw [hf, hok]; rfl) (fun hg => nomatch hg) (if_pos ⟨hW, ha⟩))
  · refine next_congr (State.issue_fault hw hop hf (fun hg => nomatch hg) ((if_neg (not_not.2 ha)).trans (if_pos ?_)))
    exact congrArg (! ·) hr
  · exact next_congr (State.issue_fault hw hop hf (fun _ => hp) (if_pos hfull))
  · exact next_congr (State.issue_fault hw hop hf (fun _ => hp) (by rw [hbar]))

end Sys2Proof.Machine
end

section
/-! SUPPORT. External instructions (R324, R339-R344, R366, R371): their effects where they need not wait, what ends their
waits, and the statements about them. -/
namespace Sys2Proof.Machine
open Sys2Proof

/-! ### External instructions that need not wait -/

/-- An external instruction may execute and is done: the program moves on from its effect's state. -/
theorem State.external_done {s u : State} {c w op : Nat} {fs : List (Nat × Nat)} {f : Nat → State → Cluster → Effect}
    (hp : s.permitted c w) (h : s.issuing c w op fs) (hf : f w (s.issued c) { s.cl c with shake := s.now } = .done u) :
    (.next (s.issue c op (fun w => onlyFields w fs) true f) : Result) = .next (s.doneAt c u) := by
  obtain ⟨-, -, hfields, -⟩ := id h
  exact next_congr (State.issue_done s h hfields (fun _ => hp) hf)

@[simp] theorem State.issued_aval (s : State) (c r : Nat) : (s.issued c).aval c r = s.aval c r := by
  rw [State.aval, State.issued_cl]; rfl

@[simp] theorem State.issued_twaitAt (s : State) (c w : Nat) : (s.issued c).twaitAt c w = s.twaitAt c w := by
  rw [State.twaitAt, State.issued_cl, State.issued_aval, State.twaitAt]

@[simp] theorem State.issued_tagReport (s : State) (c t : Nat) : (s.issued c).tagReport c t = s.tagReport c t := by
  rw [State.tagReport, State.issued_cl, State.tagReport]

/-- A PUT or a GET that is aligned, within its memories and under a tag with room starts its transfer. -/
theorem State.putGet_starts {s : State} {put : Bool} {w p dev loc : Nat} (hd : s.aval p (fAA w) = dev)
    (hl : s.aval p (fAB w) = loc) (hdev : dev % 8 = 0) (hloc : loc % 8 = 0) (hlen : fImm25 w % 8 = 0)
    (hne : fImm25 w ≠ 0) (hrange : loc + fImm25 w ≤ sramBytes) (hok : s.putGetOk p put dev (fImm25 w) = true)
    (hroom : s.tagCount p (fTag w) < 63) :
    s.putGet put w p = .done (s.startXfer p (fTag w) put dev loc (fImm25 w)) := by
  rw [State.putGet, hd, hl, if_neg (by omega), if_neg hne, if_neg (Nat.not_lt.2 hrange), if_neg (by simp [hok]),
    if_neg (Nat.not_le.2 hroom)]

/-- Settles O18: where nothing is waited for, the effect of each external instruction is its named operation. -/
theorem externalResults : Obligations.ExternalResults := by
  unfold Obligations.ExternalResults
  rintro s c w i u hp (⟨put, h, rfl, hdev, hloc, hlen, hne, hrange, hok, hroom, rfl⟩ | ⟨h, rfl, hcpy⟩ |
    ⟨h, rfl, hcount, rfl⟩ | ⟨h, rfl, hcount, himm, rfl⟩ | ⟨h, rfl, hroom, hbuf⟩ | ⟨h, rfl, ⟨y, hy, hh⟩, hlen, hcount, rfl⟩ |
    ⟨h, rfl, hentry⟩ | ⟨h, rfl, hentry, himm, rfl⟩ | ⟨y, h, rfl, hy, hfresh, rfl⟩ | ⟨h, rfl, hreached, rfl⟩ |
    ⟨h, rfl, hdue, rfl⟩ | ⟨h, rfl, rfl⟩)
  · have hf : (s.issued c).putGet put w c = .done
        ((s.issued c).startXfer c (fTag w) put (s.aval c (fAA w)) (s.aval c (fAB w)) (fImm25 w)) :=
      State.putGet_starts (s.issued_aval c _) (s.issued_aval c _) hdev hloc hlen hne hrange hok hroom
    cases put
    · exact State.external_done hp h hf
    · exact State.external_done hp h hf
  · exact State.external_done hp h hcpy
  · exact State.external_done hp h (if_pos hcount)
  · exact State.external_done hp h ((if_neg hcount).trans ((if_pos himm).trans (by rw [State.issued_tagReport])))
  · exact State.external_done hp h ((if_neg (Nat.not_le.2 hroom)).trans (by rw [hbuf]))
  · have hany : (((s.cl c).handles ++ (s.cl c).lostHnd).any fun y => handleOf y.1 y.2 == s.aval c (fAA w)) = true :=
      List.any_eq_true.2 ⟨y, hy, beq_iff_eq.2 hh⟩
    exact State.external_done hp h ((if_neg (by rw [State.issued_aval, hany]; exact Bool.false_ne_true)).trans
      ((if_neg (by rw [State.issued_aval]; exact Nat.not_lt.2 hlen)).trans (if_pos hcount)))
  · exact State.external_done hp h (by rw [hentry])
  · exact State.external_done hp h (by rw [hentry]; exact if_pos himm)
  · exact State.external_done hp h (by
      dsimp only
      rw [State.issued_aval, hy]
      dsimp only
      rw [hfresh, if_neg Bool.false_ne_true]
      rfl)
  · exact State.external_done hp h (if_pos hreached)
  · exact State.external_done hp h (if_pos (by rw [State.issued_twaitAt]; exact hdue))
  · exact State.external_done hp h (by rw [State.issued_cl]; rfl)

/-! ### What ends a wait for a tag (R340) -/

/-- A tag that drains with nothing on its way in the package ends a CWAIT of it. -/
theorem execTagDrain_of_cwait {s : State} {c : Fin 2048} {tag : Fin 8} {x : Wait} (hx : (s.cl c).xfers = [])
    (hcount : s.tagCount c tag = 0) (hw : (s.cl c).wait = some x) (hk : x.kind = .tag)
    (ht : fTag x.word.toNat = tag) : execTagDrain c tag [] s =
      .next ((s.takeReport c tag (fAD x.word.toNat)).completeWait c) := by
  have hmove : s.moveAll c [] ((s.cl c).xfers.filter fun y => y.tag == tag.val && !s.xferLink y) = s := by rw [hx]; rfl
  rw [execTagDrain]
  dsimp only
  rw [hmove, if_neg (not_not.2 hcount), hw]
  dsimp only
  rw [hk]
  exact next_congr (if_pos ht)

/-! ### What ends a wait at its own instant (R340, R366, R371) -/

/-- The wait of a CWAIT, RWAIT or FWAIT as it ends at its own instant. -/
theorem execExternalWaitTimeout_of_due {s : State} {c : Fin 2048} {t u : Nat} {x : Wait} (hw : (s.cl c).wait = some x)
    (hu : x.until_ = some u) (hdue : u ≤ max s.now t) :
    (x.kind = .tag → execExternalWaitTimeout c t s = .next
      (((s.advance t).setAreg c (fAD x.word.toNat) ((s.advance t).tagReport c (fTag x.word.toNat) + 2 ^ 47)).completeWait c)) ∧
    (x.kind = .ring → execExternalWaitTimeout c t s = .next
      (((s.advance t).setAreg c (fAD x.word.toNat) 0).completeWait c)) ∧
    (x.kind = .fell → execExternalWaitTimeout c t s = .next
      (((s.advance t).fellReport c x.word.toNat true).completeWait c)) := by
  have hw' : ((s.advance t).cl c).wait = some x := hw
  have hdue' : ¬ (s.advance t).now < u := Nat.not_lt.2 hdue
  refine ⟨fun hk => ?_, fun hk => ?_, fun hk => ?_⟩ <;>
  · rw [execExternalWaitTimeout]
    dsimp only
    rw [hw']
    dsimp only
    rw [hu]
    dsimp only
    rw [if_neg hdue', hk]

/-! ### What ends a wait with what it waited for (R341-R344, R364, R366, R371) -/

theorem execQgetWake_of_buffer {s u : State} {c : Fin 2048} {x : Wait} (hw : (s.cl c).wait = some x)
    (hk : x.kind = .buffer) (hu : s.takeBuffer c x.word.toNat = some u) :
    execQgetWake (.cluster c) s = .next (u.completeWait c) := by
  rw [execQgetWake, hw]
  dsimp only
  rw [if_neg (not_not.2 hk), hu]

theorem execRwaitWake_of_entry {s u : State} {c : Fin 2048} {x : Wait} (hw : (s.cl c).wait = some x)
    (hk : x.kind = .ring) (hu : s.takeEntry c x.word.toNat = some u) :
    execRwaitWake c s = .next (u.completeWait c) := by
  rw [execRwaitWake, hw]
  dsimp only
  rw [if_neg (not_not.2 hk), hu]

theorem execFwaitWake_of_reached {s : State} {c : Fin 2048} {x : Wait} (hw : (s.cl c).wait = some x)
    (hk : x.kind = .fell) (hr : s.fellReached c x.word.toNat = true) :
    execFwaitWake c s = .next ((s.fellReport c x.word.toNat false).completeWait c) := by
  rw [execFwaitWake, hw]
  exact next_congr (if_pos ⟨hk, hr⟩)

theorem execTwaitWake_of_due {s : State} {c : Fin 2048} {t : Nat} {x : Wait} (hw : (s.cl c).wait = some x)
    (hk : x.kind = .hallTime) (hdue : s.twaitAt c x.word.toNat ≤ max s.now t) :
    execTwaitWake c t s = .next ((s.advance t).completeWait c) := by
  have hw' : ((s.advance t).cl c).wait = some x := hw
  rw [execTwaitWake, hw']
  exact next_congr (if_pos ⟨hk, hdue⟩)

/-- A stalled issue tried again: the effect of its instruction, done, is followed by the next. -/
theorem State.retryIssue_done {s u : State} {p : Nat} {x : Wait} (hw : (s.cl p).wait = some x)
    (he : (if x.word.toNat / 2 ^ 56 = 0xC0 then (s.endWait p).putGet true x.word.toNat p
      else if x.word.toNat / 2 ^ 56 = 0xC1 then (s.endWait p).putGet false x.word.toNat p
      else (s.endWait p).cpy x.word.toNat p) = .done u) : s.retryIssue p = u.setPc p ((u.cl p).pc + 1) := by
  rw [State.retryIssue, hw]
  dsimp only
  rw [he]

theorem execTagStallWake_of_put {s u : State} {c : Fin 2048} {x : Wait} (hw : (s.cl c).wait = some x)
    (hk : x.kind = .tagFull) (hop : x.word.toNat / 2 ^ 56 = 0xC0) (hroom : s.tagCount c (fTag x.word.toNat) < 63)
    (hu : (s.endWait c).putGet true x.word.toNat c = .done u) :
    execTagStallWake c [] s = .next (u.setPc c ((u.cl c).pc + 1)) := by
  rw [execTagStallWake, hw]
  dsimp only
  rw [if_neg (not_not.2 hk), if_pos hroom, if_pos hroom, State.retryIssue_done hw ((if_pos hop).trans hu)]

theorem execCpyQueueWake_of_room {s u : State} {c : Fin 2048} {x : Wait} (hw : (s.cl c).wait = some x)
    (hk : x.kind = .engines) (hop : x.word.toNat / 2 ^ 56 = 0xC2) (hroom : (s.pickEngine (c / 256)).isSome = true)
    (hu : (s.endWait c).cpy x.word.toNat c = .done u) :
    execCpyQueueWake c s = .next (u.setPc c ((u.cl c).pc + 1)) := by
  rw [execCpyQueueWake, hw]
  refine next_congr ((if_pos ⟨hk, hroom⟩).trans (State.retryIssue_done hw ?_))
  exact (if_neg (by rw [hop]; decide)).trans ((if_neg (by rw [hop]; decide)).trans hu)

/-! ### The end of a wait -/

/-- The end of a wait clears it; the program counter and the register files stay. -/
theorem State.endWait_cl {s : State} {p : Nat} {x : Wait} (hw : (s.cl p).wait = some x) :
    ∃ stage, (s.endWait p).cl p = { s.cl p with wait := none, shake := s.now, stage := stage } := by
  rw [State.endWait, hw]
  dsimp only
  split
  · exact ⟨1, by rw [State.beginRamp, State.cl_wr, State.cl_setCl_self, State.cl_wr, State.cl_wr, State.cl_wr,
      State.cl_setCl_self]⟩
  · exact ⟨(s.cl p).stage, by rw [State.cl_wr, State.cl_wr, State.cl_wr, State.cl_setCl_self]⟩

theorem State.endWait_cl_ne {s : State} {p q : Nat} (h : q ≠ p) : (s.endWait p).cl q = s.cl q := by
  rw [State.endWait]
  split
  · rfl
  · dsimp only
    split
    · exact (State.cl_setCl_ne _ _ h).trans (State.cl_setCl_ne _ _ h)
    · exact State.cl_setCl_ne _ _ h

theorem State.endWait_job (s : State) (p j : Nat) : (s.endWait p).job j = s.job j := by
  rw [State.endWait]
  split
  · rfl
  · dsimp only
    split <;> rfl

/-! ### A barrier's release (R342) -/

/-- A cluster's arrival counts at its job's barrier. -/
def State.hasArrived (s : State) (b : Barrier) (done n : Nat) : Bool :=
  match s.physOf n with
  | some p => (Tbl.look b.came p).isSome && !bitOf done n
  | none => false

/-- A cluster that waits is let go with a value for A[AD]. -/
def State.letGo (s : State) (v p : Nat) : State :=
  match (s.cl p).wait with
  | some w => (s.setAreg p (fAD w.word.toNat) v).completeWait p
  | none => s

theorem State.letGo_of_wait {s : State} {p : Nat} {x : Wait} (v : Nat) (hw : (s.cl p).wait = some x) :
    s.letGo v p = (s.setAreg p (fAD x.word.toNat) v).completeWait p := by rw [State.letGo, hw]

theorem State.letGo_of_none {s : State} {p : Nat} (v : Nat) (hw : (s.cl p).wait = none) : s.letGo v p = s := by
  rw [State.letGo, hw]

theorem State.letGo_cl_ne (s : State) (v : Nat) {p q : Nat} (h : q ≠ p) : (s.letGo v p).cl q = s.cl q := by
  rcases hw : (s.cl p).wait with _ | x
  · rw [State.letGo_of_none v hw]
  · rw [State.letGo_of_wait v hw]
    exact (State.cl_setCl_ne _ _ h).trans ((State.endWait_cl_ne h).trans (State.cl_setCl_ne _ _ h))

theorem State.letGo_job (s : State) (v p j : Nat) : (s.letGo v p).job j = s.job j := by
  rcases hw : (s.cl p).wait with _ | x
  · rw [State.letGo_of_none v hw]
  · rw [State.letGo_of_wait v hw]
    exact State.endWait_job _ p j

/-- A cluster let go holds the value, waits no more, and has the next instruction before it. -/
theorem State.letGo_cl {s : State} {p : Nat} {x : Wait} (v : Nat) (hw : (s.cl p).wait = some x) :
    ((s.letGo v p).cl p).areg (fAD x.word.toNat) = BitVec.ofNat 48 v ∧ ((s.letGo v p).cl p).wait = none ∧
      ((s.letGo v p).cl p).pc = (s.cl p).pc + 1 := by
  have hset : (s.setAreg p (fAD x.word.toNat) v).cl p = (s.cl p).setA (fAD x.word.toNat) (BitVec.ofNat 48 v) :=
    State.cl_setCl_self s p _
  obtain ⟨stage, hend⟩ := State.endWait_cl (s := s.setAreg p (fAD x.word.toNat) v) (p := p) (x := x) (by rw [hset]; exact hw)
  rw [State.letGo_of_wait v hw, State.completeWait, State.setPc, State.cl_setCl_self, hend, hset]
  exact ⟨Cluster.areg_setA_self (s.cl p) _ _, rfl, rfl⟩

/-- A cluster that does not wait is left as it is while others are let go. -/
theorem State.foldl_letGo_cl {s : State} {p : Nat} (v : Nat) (hw : (s.cl p).wait = none) (l : List Nat) :
    (l.foldl (fun s q => s.letGo v q) s).cl p = s.cl p :=
  List.foldlRecOn (motive := fun t : State => t.cl p = s.cl p) l _ rfl fun t ht q _ => by
    by_cases h : p = q
    · rw [State.letGo_of_none v (by rw [← h, ht, hw]), ht]
    · rw [State.letGo_cl_ne _ v h, ht]

theorem State.foldl_letGo_job (s : State) (v j : Nat) (l : List Nat) :
    (l.foldl (fun s q => s.letGo v q) s).job j = s.job j :=
  List.foldlRecOn (motive := fun t : State => t.job j = s.job j) l _ rfl fun t ht q _ => (t.letGo_job v q j).trans ht

/-- Every waiting cluster of a list is let go, however often it stands there. -/
theorem State.foldl_letGo {s : State} {p : Nat} {x : Wait} (v : Nat) (hw : (s.cl p).wait = some x) {l : List Nat}
    (hp : p ∈ l) :
    ((l.foldl (fun s q => s.letGo v q) s).cl p).areg (fAD x.word.toNat) = BitVec.ofNat 48 v ∧
      ((l.foldl (fun s q => s.letGo v q) s).cl p).wait = none ∧
      ((l.foldl (fun s q => s.letGo v q) s).cl p).pc = (s.cl p).pc + 1 := by
  induction l generalizing s with
  | nil => cases hp
  | cons q l ih =>
    rw [List.foldl_cons]
    by_cases h : p = q
    · subst h
      have hgo := State.letGo_cl v hw
      rw [State.foldl_letGo_cl v hgo.2.1]
      exact hgo
    · have hcl := s.letGo_cl_ne v h
      rw [← hcl] at hw ⊢
      exact ih hw ((List.mem_cons.1 hp).resolve_left h)

/-- A GBAR's barrier that every cluster of the mask has reached is cleared, and lets them all go with 0. -/
theorem execBarrierRelease_of_arrived {s : State} {j : Fin 8} {b : Barrier} (hb : (s.job j).barrier = some b)
    (hop : b.op = none) (hall : ∀ n ∈ maskList (s.job j).mask, s.hasArrived b (s.job j).done n = true) :
    execBarrierRelease j s = .next (((maskList (s.job j).mask).filterMap s.physOf).foldl (fun s q => s.letGo 0 q)
      (s.setJob j { s.job j with barrier := none })) := by
  have hhere : (maskList (s.job j).mask).filter (s.hasArrived b (s.job j).done) = maskList (s.job j).mask :=
    List.filter_eq_self.2 hall
  have hunable : ((maskList (s.job j).mask).filter fun n => !s.hasArrived b (s.job j).done n) = [] :=
    List.filter_eq_nil_iff.2 fun n hn => by simp [hall n hn]
  have hlow : ((maskList (s.job j).mask).filter fun n => !s.hasArrived b (s.job j).done n).length % 2048 +
      bit (((maskList (s.job j).mask).filter fun n => !s.hasArrived b (s.job j).done n).length != 0) * 2 ^ 47 = 0 := by
    rw [hunable]; simp [bit]
  have hgo : ((maskList (s.job j).mask).all fun n => s.hasArrived b (s.job j).done n || bitOf (s.job j).done n) = true :=
    List.all_eq_true.2 fun n hn => by simp [hall n hn]
  rw [execBarrierRelease]
  dsimp only
  rw [hb]
  dsimp only
  rw [hop]
  refine (if_pos hgo).trans (next_congr ?_)
  refine (congrArg (List.foldl _ _) (congrArg (List.filterMap s.physOf) hhere)).trans ?_
  refine congrFun (congrFun (congrArg List.foldl (funext fun t => funext fun q => ?_)) _) _
  exact congrArg (fun v => t.letGo v q) hlow

/-- Settles O20: each wake answers its command's lemma, and a barrier lets every cluster that came go. -/
theorem wakes : Obligations.Wakes := by
  unfold Obligations.Wakes
  refine ⟨fun s c tag x hx hcount hw hk ht => execTagDrain_of_cwait hx hcount hw hk ht,
    fun s c t u x hw hu hdue => execExternalWaitTimeout_of_due hw hu hdue,
    fun s u c x hw => ⟨fun hk hu => execQgetWake_of_buffer hw hk hu, fun hk hu => execRwaitWake_of_entry hw hk hu,
      fun hk hr => execFwaitWake_of_reached hw hk hr, fun t hk hdue => execTwaitWake_of_due hw hk hdue,
      fun hk hop hroom hu => execTagStallWake_of_put hw hk hop hroom hu,
      fun hk hop hroom hu => execCpyQueueWake_of_room hw hk hop hroom hu⟩,
    fun s j b p n x hb hall hn hp hw hop => ?_⟩
  have harrived : ∀ k ∈ maskList (s.job j).mask, s.hasArrived b (s.job j).done k = true := fun k hk => by
    obtain ⟨hdone, q, hq, hcame⟩ := hall k hk
    rw [State.hasArrived, hq, hdone]
    exact Bool.and_eq_true_iff.2 ⟨hcame, rfl⟩
  have hmem : p.val ∈ (maskList (s.job j).mask).filterMap s.physOf := List.mem_filterMap.2 ⟨n, hn, hp⟩
  obtain ⟨hareg, hwait, hpc⟩ := State.foldl_letGo (s := s.setJob j { s.job j with barrier := none }) 0 hw hmem
  refine ⟨_, execBarrierRelease_of_arrived hb hop harrived, hareg, hwait, hpc, ?_⟩
  rw [State.foldl_letGo_job]
  exact congrArg Job.barrier (Tbl.lookD_put_self s.comp.jobs {} j _)

end Sys2Proof.Machine
end

section
/-! SUPPORT. Program loads, completion records and the patrol scrubber (R345, R346, R355, R372-R375, R400): what each
operation leaves, and the statement about them. -/
namespace Sys2Proof.Machine
open Sys2Proof

/-! ### Program loads (R345, R346, R78) -/

/-- A load whose image no line of the companion holds back ends with the image, good or bad. -/
theorem execProgramLoadDone_of_read {s : State} {j : Fin 8} {ups : List Upset} {t : Nat}
    (hst : (s.job j).stage = .loading)
    (hheld : (s.advance t).heldLines false (s.job j).image (64 + 65536) = []) :
    (∀ v n e l, (s.advance t).readImage (s.job j).image ups = (v, some (n, e, l)) →
      execProgramLoadDone j ups t s = .next ((v.loadClusters j n e l).armJob j)) ∧
    (∀ v, (s.advance t).readImage (s.job j).image ups = (v, none) →
      execProgramLoadDone j ups t s = .next ((v.freeTrigger j).reject (s.job j).entry 9 (s.job j).eseq)) := by
  have hjob : (s.advance t).job j = s.job j := rfl
  constructor
  · intro v n e l hread
    rw [execProgramLoadDone]
    dsimp only
    rw [hjob, if_neg (not_not.2 hst), if_neg (not_not.2 hheld), hread]
  · intro v hread
    rw [execProgramLoadDone]
    dsimp only
    rw [hjob, if_neg (not_not.2 hst), if_neg (not_not.2 hheld), hread]

@[simp] theorem State.setJob_job_self (s : State) (j : Nat) (x : Job) : (s.setJob j x).job j = x :=
  Tbl.lookD_put_self _ _ _ _

/-- A job loaded 2 us or more before its start is armed. -/
theorem State.armJob_stage {s : State} {j : Nat} (h : s.now + Config.ns 2000 ≤ (s.job j).start * 65536) :
    ((s.armJob j).job j).stage = .armed := by
  rw [State.armJob, if_neg (Nat.not_lt.2 h)]
  show ((s.setJob j { s.job j with stage := .armed }).job j).stage = .armed
  rw [State.setJob_job_self]

/-! ### Completion records (R373, R375, R400) -/

/-- A record names its trigger in its bits 21 to 19. -/
theorem Job.record_trigger (x : Job) {j : Nat} (hj : j < 8) : bitsOf (x.record j) 19 3 = j := by
  rw [Job.record, bitsOf]
  omega

/-- A record delivered enters the FIFO, is counted there, and frees its trigger. -/
theorem State.deliver_shows (s : State) (r : Record) (hroom : s.comp.records.length < 16) :
    (s.deliver r).comp.records = s.comp.records ++ [r] ∧ ((s.deliver r).job (bitsOf r 19 3)).stage = .free ∧
      (s.deliver r).rd GTH.STAT.REC_WAIT = s.comp.records.length + 1 ∧ (s.deliver r).comp.stalled = s.comp.stalled := by
  refine ⟨rfl, State.freeTrigger_stage _ _, ?_, rfl⟩
  rw [State.deliver, State.freeTrigger_regsBut _ _ _ (by decide), State.jobNotice_regsBut _ _ _ _ _ _ (by decide),
    State.setRecords, State.rd_wr_self, List.length_append, List.length_singleton]
  exact Nat.mod_eq_of_lt (by simp only [GTH.STAT.REC_WAIT]; omega)

/-- The last token of a job whose record does not wait yet delivers its record, or leaves it waiting in the tree. -/
theorem execCompletionRecord_of_done {s : State} {j : Fin 8} {t : Nat} (hst : (s.job j).stage = .running)
    (hdone : ∀ n ∈ maskList (s.job j).mask, bitOf (s.job j).done n = true)
    (hfresh : ∀ q ∈ s.comp.stalled, bitsOf q 19 3 ≠ j) : execCompletionRecord j t s =
      if s.comp.records.length < 16 then .next ((s.advance t).deliver ((s.job j).record j))
      else .next (({ s.advance t with
        comp := { s.comp with stalled := s.comp.stalled ++ [(s.job j).record j] } }).bump GTH.STAT.STALLS) := by
  have hgo : (s.job j).stage = .running ∧ (maskList (s.job j).mask).all (fun n => bitOf (s.job j).done n) = true :=
    ⟨hst, List.all_eq_true.2 hdone⟩
  have hnone : ¬ (s.comp.stalled.any fun q => bitsOf q 19 3 == j.val) = true := fun h => by
    obtain ⟨q, hq, e⟩ := List.any_eq_true.1 h
    exact hfresh q hq (beq_iff_eq.1 e)
  exact (if_pos hgo).trans (if_neg hnone)

@[simp] theorem State.mbxStart_comp (s : State) (b : Bank) (off data : Nat) (err : Bool) :
    (s.mbxStart b off data err).comp = s.comp := by simp [State.mbxStart]

/-- A selection of the record FIFO presents its oldest record and removes it, where none waits in the tree. -/
theorem State.selectRec_shows {s : State} {r : Record} {l : List Record} (b : Bank) (hrec : s.comp.records = r :: l)
    (hstall : s.comp.stalled = []) : (s.selectRec b).comp.records = l ∧
      Tbl.look (s.selectRec b).mbx b.num = some ⟨GTH.REC.base, r, false⟩ := by
  have h : s.selectRec b = (s.setRecords l).mbxStart b GTH.REC.base r false := by
    have hstall' : ((s.setRecords l).mbxStart b GTH.REC.base r false).comp.stalled = [] := by
      rw [State.mbxStart_comp]; exact hstall
    rw [State.selectRec, hrec]
    dsimp only
    rw [hstall']
  rw [h, State.mbxStart_comp]
  exact ⟨rfl, State.mbxStart_look _ _ _ _ _⟩

/-- A selection of an empty FIFO presents zero. -/
theorem State.selectRec_of_empty {s : State} (b : Bank) (hrec : s.comp.records = []) :
    s.selectRec b = s.mbxStart b GTH.REC.base 0 false := by rw [State.selectRec, hrec]

/-! ### The patrol scrubber (R353, R355, R356) -/

@[simp] theorem State.patchNote_comp (s : State) (kind action unit spare : Nat) :
    (s.patchNote kind action unit spare).comp = s.comp := rfl

@[simp] theorem State.patchNote_regs (s : State) (kind action unit spare : Nat) :
    (s.patchNote kind action unit spare).regs = s.regs := rfl

/-- A row newly listed for repair, shown by its channel's count and its event. -/
def State.rowListed (s : State) (row ch : Nat) : State :=
  (({ s with comp := { s.comp with rowMark := s.comp.rowMark ++ [(row, ch)] } } : State).bump
    (MEM.CH_STAT.MARKED ch)).raise MEM.EVENT.MARKED

theorem State.markRow_eq (s : State) (a : Nat) : s.markRow a =
    if s.comp.rowMark.contains (Config.rowOf (a / 64), s.lpChannel a) then s
    else (s.rowListed (Config.rowOf (a / 64)) (s.lpChannel a)).patchNote 4 1
      (s.lpChannel a * 2 ^ 24 + Config.rowOf (a / 64) % 2 ^ 24) 0 := by
  rw [State.markRow, State.rowListed]

theorem State.rowListed_regsBut (s : State) (row ch : Nat) : s.regsBut (s.rowListed row ch)
    (MEM.CH_STAT.MARKED ch :: MEM.EVENT.MARKED :: seqOf MEM.EVENT.MARKED :: recorderFields) := by
  rw [State.rowListed]
  refine State.regsBut_trans (State.regsBut_of_regs rfl _) (State.regsBut_trans (State.regsBut_bump _
    (List.mem_cons_self ..)) (State.raise_regsBut _ _ _ (by simp) (by simp) fun _ hg => ?_))
  exact List.mem_cons_of_mem _ (List.mem_cons_of_mem _ (List.mem_cons_of_mem _ hg))

/-- A row marked for repair counts for its channel and has its event. -/
theorem State.markRow_regsBut (s : State) (a : Nat) : s.regsBut (s.markRow a)
    (MEM.CH_STAT.MARKED (s.lpChannel a) :: MEM.EVENT.MARKED :: seqOf MEM.EVENT.MARKED :: recorderFields) := by
  rw [State.markRow_eq]
  split
  · exact State.regsBut_refl s _
  · exact State.regsBut_trans (s.rowListed_regsBut _ _) (State.regsBut_of_regs (State.patchNote_regs _ _ _ _ _) _)

theorem State.markRow_rd (s : State) (a : Nat) {g : Field}
    (hg : (MEM.CH_STAT.MARKED 0 :: MEM.EVENT.MARKED :: seqOf MEM.EVENT.MARKED :: recorderFields).all (Field.apart g) = true) :
    (s.markRow a).rd g = s.rd g := State.regsBut_rd (s.markRow_regsBut a) hg

theorem State.markRow_scrub (s : State) (a : Nat) : (s.markRow a).comp.scrub = s.comp.scrub := by
  rw [State.markRow_eq]
  split
  · rfl
  · rw [State.patchNote_comp, State.rowListed, State.raise_comp, State.bump_comp]

/-- An uncorrectable block that was read is flagged, with its requester and its channel. -/
theorem State.reportUncorr_shows (s : State) (req : Req) (blk : Nat) :
    (s.reportUncorr req blk).on MEM.EVENT.UNCORR = true ∧ (s.reportUncorr req blk).rd MEM.ERR_ADDR.REQ = req.num ∧
      (s.reportUncorr req blk).rd MEM.ERR_ADDR.CH = s.lpChannel (64 * blk) % 256 ∧
      (s.reportUncorr req blk).comp.scrub = s.comp.scrub := by
  have hnum : req.num < 256 := by cases req <;> decide
  rw [State.reportUncorr]
  refine ⟨?_, ?_, ?_, ?_⟩
  · rw [State.on, State.markRow_rd _ _ (by decide), State.raise_rd_self _ _ _ rfl (by decide) (by decide)]
    rfl
  · rw [State.markRow_rd _ _ (by decide), State.raise_rd_ne _ _ _ (by decide) (by decide) (by decide),
      State.rd_wr_ne _ _ (by decide), State.rd_wr_self]
    exact Nat.mod_eq_of_lt hnum
  · rw [State.markRow_rd _ _ (by decide), State.raise_rd_ne _ _ _ (by decide) (by decide) (by decide),
      State.rd_wr_ne _ _ (by decide), State.rd_wr_ne _ _ (by decide), State.rd_wr_self]
    rfl
  · rw [State.markRow_scrub, State.raise_comp]
    rfl

/-- The state once the scrubber has gone on to the next block. -/
def State.scrubbed (s : State) : State :=
  { s with comp := { s.comp with scrub := (s.comp.scrub + 1) % (s.lpEnd / 64) } }

/-- The scrubber reads its block and goes on; a block that it cannot correct is reported. -/
theorem execMemScrub_of_enabled {s : State} (hen : s.on MEM.CTRL.SCRUB_EN = true) (hheld : s.sys.held = []) :
    execMemScrub [] s = .next (if s.comp.lpddr.isBad s.comp.scrub then s.scrubbed.reportUncorr .scrubber s.comp.scrub
      else s.scrubbed) := by
  have hfree : s.heldBy (fun o _ => o == MEM.CTRL.base) = false := by rw [State.heldBy, hheld]; rfl
  have hgo : ¬ (¬ s.on MEM.CTRL.SCRUB_EN = true ∨ s.heldBy (fun o _ => o == MEM.CTRL.base) = true) := by
    simp [hen, hfree]
  exact if_neg hgo

/-- Settles O22: each command's lemma gives its one operation, and that operation's lemma what it shows. -/
theorem jobsAndRecords : Obligations.JobsAndRecords := by
  unfold Obligations.JobsAndRecords
  refine ⟨fun s v j ups t n e l hst hheld hread => ⟨(execProgramLoadDone_of_read hst hheld).1 v n e l hread,
      fun h => State.armJob_stage h⟩,
    fun s v j ups t hst hheld hread => (execProgramLoadDone_of_read hst hheld).2 v hread,
    fun s j t hst hdone hfresh => ⟨fun hroom => ?delivered, fun hfull => ?stalled⟩,
    fun s b => ⟨fun r l hrec hstall => ?oldest, fun hrec => ?empty⟩,
    fun s hen hheld => ⟨fun hgood => ?good, fun hbad => ?bad⟩⟩
  case delivered =>
    obtain ⟨hrec, hfree, hwait, hstall⟩ := (s.advance t).deliver_shows ((s.job j).record j) hroom
    rw [Job.record_trigger _ j.isLt] at hfree
    exact ⟨_, (execCompletionRecord_of_done hst hdone hfresh).trans (if_pos hroom), hrec, hfree, hwait, hstall⟩
  case stalled =>
    refine ⟨_, (execCompletionRecord_of_done hst hdone hfresh).trans (if_neg (Nat.not_lt.2 hfull)), rfl, rfl, rfl, ?_⟩
    exact State.regsBut_trans (State.regsBut_of_regs rfl _) (State.regsBut_bump _ (List.mem_singleton.2 rfl))
  case oldest => exact ⟨_, rfl, State.selectRec_shows b hrec hstall⟩
  case empty =>
    exact ⟨_, next_congr (State.selectRec_of_empty b hrec), State.mbxStart_comp _ _ _ _ _, State.mbxStart_look _ _ _ _ _⟩
  case good => exact (execMemScrub_of_enabled hen hheld).trans (by rw [hgood]; rfl)
  case bad =>
    obtain ⟨hflag, hreq, hch, hscrub⟩ := s.scrubbed.reportUncorr_shows .scrubber s.comp.scrub
    exact ⟨_, (execMemScrub_of_enabled hen hheld).trans (by rw [if_pos hbad]), hflag, hreq, hch, hscrub⟩

end Sys2Proof.Machine
end

section
/-! SUPPORT. What every command keeps (R354, R377): the commands that wait, and the canonical form of main memory. Each
operation of the model has one lemma here, in the order of the model's files: `_kept` where it leaves both as they were,
`_keeps` where it writes main memory, and `_answers` for a command, which always has a next state. -/
namespace Sys2Proof.Machine
open Sys2Proof

/-! ### The two things kept -/

/-- The commands that wait, and main memory. -/
def State.kept (s : State) : List Instr × Mem := (s.pending, s.comp.lpddr)

/-- From `k` to `l` the same commands wait, and main memory is canonical if it was. -/
def Keeps (k l : List Instr × Mem) : Prop := l.1 = k.1 ∧ (k.2.wf = true → l.2.wf = true)

/-- A meaning answers a next state, which keeps `k`. -/
def Answers (k : List Instr × Mem) : Result → Prop
  | .next t => Keeps k t.kept
  | _ => False

/-- The state in an instruction's effect keeps `k`. -/
def EffectKeeps (k : List Instr × Mem) : Effect → Prop
  | .done t | .jump t _ | .fault t _ | .wait t _ _ _ | .ended t => Keeps k t.kept

section
variable (k : List Instr × Mem)

/-! The proofs `(rfl)` below keep these two equations from being used up to unfolding, which would evaluate the states
that they are about. -/

@[simp] theorem State.kept_mk (p n fc r sh w a g t b f sy c u m l no pa) :
    (State.mk p n fc r sh w a g t b f sy c u m l no pa).kept = (p, c.lpddr) := (rfl)

@[simp] theorem State.kept_eta (s : State) : (s.pending, s.comp.lpddr) = s.kept := (rfl)

@[simp] theorem State.kept_ite (c : Prop) [Decidable c] (a b : State) :
    (if c then a else b).kept = if c then a.kept else b.kept := apply_ite ..

@[simp] theorem Keeps.refl : Keeps k k := ⟨rfl, id⟩

@[simp] theorem keeps_ite (l l' : List Instr × Mem) (c : Prop) [Decidable c] :
    Keeps k (if c then l else l') ↔ if c then Keeps k l else Keeps k l' := by split <;> rfl

@[simp] theorem answers_next (t : State) : Answers k (.next t) ↔ Keeps k t.kept := Iff.rfl

@[simp] theorem answers_ite (c : Prop) [Decidable c] (a b : Result) :
    Answers k (if c then a else b) ↔ if c then Answers k a else Answers k b := by split <;> rfl

@[simp] theorem effectKeeps_done (t : State) : EffectKeeps k (.done t) ↔ Keeps k t.kept := Iff.rfl
@[simp] theorem effectKeeps_jump (t : State) (pc : Nat) : EffectKeeps k (.jump t pc) ↔ Keeps k t.kept := Iff.rfl
@[simp] theorem effectKeeps_fault (t : State) (c : Nat) : EffectKeeps k (.fault t c) ↔ Keeps k t.kept := Iff.rfl
@[simp] theorem effectKeeps_wait (t : State) (w : WaitKind) (n : Nat) (u : Option Nat) :
    EffectKeeps k (.wait t w n u) ↔ Keeps k t.kept := Iff.rfl
@[simp] theorem effectKeeps_ended (t : State) : EffectKeeps k (.ended t) ↔ Keeps k t.kept := Iff.rfl
@[simp] theorem effectKeeps_ite (c : Prop) [Decidable c] (a b : Effect) :
    EffectKeeps k (if c then a else b) ↔ if c then EffectKeeps k a else EffectKeeps k b := by split <;> rfl
end

/-! ### Folds -/

@[simp] theorem State.kept_foldl {α : Type} {f : State → α → State} (h : ∀ t x, (f t x).kept = t.kept) (l : List α)
    (s : State) : (l.foldl f s).kept = s.kept :=
  List.foldlRecOn (motive := fun t => t.kept = s.kept) l f rfl fun t ht x _ => (h t x).trans ht

@[simp] theorem State.keeps_foldl {α : Type} {k : List Instr × Mem} {f : State → α → State} (l : List α) (s : State)
    (hk : Keeps k s.kept) (h : ∀ t x, Keeps k t.kept → Keeps k (f t x).kept) : Keeps k (l.foldl f s).kept :=
  List.foldlRecOn (motive := fun t => Keeps k t.kept) l f hk fun t ht x _ => h t x ht

theorem State.kept_foldl_fst {α β : Type} {f : State × β → α → State × β} (h : ∀ r x, (f r x).1.kept = r.1.kept)
    (l : List α) (r : State × β) : (l.foldl f r).1.kept = r.1.kept :=
  List.foldlRecOn (motive := fun q => q.1.kept = r.1.kept) l f rfl fun q hq x _ => (h q x).trans hq

theorem State.keeps_foldl_fst {α β : Type} {k : List Instr × Mem} {f : State × β → α → State × β} (l : List α)
    (r : State × β) (hr : Keeps k r.1.kept) (h : ∀ r x, Keeps k r.1.kept → Keeps k (f r x).1.kept) :
    Keeps k (l.foldl f r).1.kept :=
  List.foldlRecOn (motive := fun r => Keeps k r.1.kept) l f hr fun r hr x _ => h r x hr

variable (s : State) {k : List Instr × Mem}

/-! ### Ops -/

@[simp] theorem State.wr_kept (f : Field) (v : Nat) : (s.wr f v).kept = s.kept := by simp [State.wr]
@[simp] theorem State.wrI_kept (f : Field) (v : Int) : (s.wrI f v).kept = s.kept := by simp [State.wrI]
@[simp] theorem State.wrB_kept (f : Field) (b : Bool) : (s.wrB f b).kept = s.kept := by simp [State.wrB]
@[simp] theorem State.bump_kept (f : Field) : (s.bump f).kept = s.kept := by simp [State.bump]
@[simp] theorem State.bumpBy_kept (f : Field) (n : Nat) : (s.bumpBy f n).kept = s.kept := by simp [State.bumpBy]
@[simp] theorem State.wrSat_kept (f : Field) (v : Nat) : (s.wrSat f v).kept = s.kept := by simp [State.wrSat]
@[simp] theorem State.draw_kept (key : Nat) : (s.draw key).2.kept = s.kept := by simp [State.draw]
@[simp] theorem State.drawMany_kept : s.drawMany.2.kept = s.kept := by simp [State.drawMany]

theorem State.drawMany_pending : s.drawMany.2.pending = s.pending := rfl
@[simp] theorem State.showNum_kept (f : Field) (v : Int) : (s.showNum f v).kept = s.kept := by simp [State.showNum]
@[simp] theorem State.showInt_kept (f : Field) (v : Int) : (s.showInt f v).kept = s.kept := by simp [State.showInt]
@[simp] theorem State.advance_kept (t : Nat) : (s.advance t).kept = s.kept := by simp [State.advance]
@[simp] theorem State.compose_kept (c : Nat) (body : List Byte) : (s.compose c body).kept = s.kept := by
  simp [State.compose]
@[simp] theorem State.stageFill_kept : s.stageFill.kept = s.kept := by simp [State.stageFill]
@[simp] theorem State.setFlag_kept (f : Field) : (s.setFlag f).kept = s.kept := by simp [State.setFlag]
@[simp] theorem State.dropRecord_kept (r : LogRec) : (s.dropRecord r).kept = s.kept := by simp [State.dropRecord]
@[simp] theorem State.numbered_kept (sev : Nat) : (s.numbered sev).kept = s.kept := by simp [State.numbered]
@[simp] theorem State.setStaging_kept (l : List LogRec) : (s.setStaging l).kept = s.kept := by simp [State.setStaging]
@[simp] theorem State.place_kept (r : LogRec) : (s.place r).kept = s.kept := by
  unfold State.place
  dsimp only
  split <;> simp
@[simp] theorem State.stageNew_kept (code sev subject : Nat) (detail : List Byte) (told : Bool) :
    (s.stageNew code sev subject detail told).kept = s.kept := by
  simp [State.stageNew]
@[simp] theorem State.merge_kept (r : LogRec) : (s.merge r).kept = s.kept := by simp [State.merge]
@[simp] theorem State.logEvent_kept (code sev subject : Nat) (detail : List Byte) (told : Bool) :
    (s.logEvent code sev subject detail told).kept = s.kept := by
  unfold State.logEvent
  dsimp only
  (repeat' split) <;> simp
@[simp] theorem State.raise_kept (f : Field) (sev : Nat) (detail : List Byte) :
    (s.raise f sev detail).kept = s.kept := by
  simp [State.raise]
@[simp] theorem State.report_kept (f : Field) (sev : Nat) (detail : List Byte) :
    (s.report f sev detail).kept = s.kept := by
  simp [State.report]
@[simp] theorem State.logFatal_kept (block number off : Nat) (detail : List Byte) :
    (s.logFatal block number off detail).kept = s.kept := by
  simp [State.logFatal]
@[simp] theorem State.logOpen_kept (block k sev off : Nat) (detail : List Byte) (told : Bool) :
    (s.logOpen block k sev off detail told).kept = s.kept := by
  simp [State.logOpen]
@[simp] theorem State.mbxStart_kept (b : Bank) (off data : Nat) (err : Bool) :
    (s.mbxStart b off data err).kept = s.kept := by
  simp [State.mbxStart]
@[simp] theorem State.ctrAdd_kept (n w : Nat) : (s.ctrAdd n w).kept = s.kept := by simp [State.ctrAdd]
@[simp] theorem State.count_kept (dom : Nat × Nat) (src inst w : Nat) : (s.count dom src inst w).kept = s.kept := by
  simp [State.count]
@[simp] theorem State.patchNote_kept (kind action unit spare : Nat) :
    (s.patchNote kind action unit spare).kept = s.kept := by
  simp [State.patchNote]

/-! ### UlkOps -/

@[simp] theorem State.ulPump_kept : s.ulPump.kept = s.kept := by simp [State.ulPump]
@[simp] theorem State.sendMsg_kept (m : Msg) : (s.sendMsg m).kept = s.kept := by simp [State.sendMsg]
@[simp] theorem State.request_kept (r : PReq) : (s.request r).kept = s.kept := by unfold State.request; split <;> simp
@[simp] theorem State.snoop_kept (inv : Bool) (line : Nat) (grants : List Grant) :
    (s.snoop inv line grants).kept = s.kept := by
  unfold State.snoop
  split <;> simp
@[simp] theorem State.snoopFor_kept (write : Bool) (a n : Nat) : (s.snoopFor write a n).kept = s.kept := by
  simp [State.snoopFor]

/-! ### Access -/

@[simp] theorem State.setCl_kept (p : Nat) (c : Cluster) : (s.setCl p c).kept = s.kept := by simp [State.setCl]
@[simp] theorem State.opnCount_kept (x y : Node) (sched : Bool) (n : Nat) : (s.opnCount x y sched n).kept = s.kept := by
  unfold State.opnCount
  dsimp only
  split <;> simp

/-- Main memory replaced by one that is canonical where the old one was. -/
@[simp] theorem State.setLp_keeps (m : Mem) (hk : Keeps k s.kept) (hm : s.comp.lpddr.wf = true → m.wf = true) :
    Keeps k (s.setLp m).kept :=
  ⟨hk.1, fun h => hm (hk.2 h)⟩

@[simp] theorem State.markRow_kept (a : Nat) : (s.markRow a).kept = s.kept := by simp [State.markRow]
@[simp] theorem State.reportUncorr_kept (req : Req) (blk : Nat) : (s.reportUncorr req blk).kept = s.kept := by
  simp [State.reportUncorr]
@[simp] theorem State.reportCorr_kept (blk : Nat) : (s.reportCorr blk).kept = s.kept := by simp [State.reportCorr]

@[simp] theorem State.strikeLp_keeps (a n : Nat) (ups : List Upset) (hk : Keeps k s.kept) :
    Keeps k (s.strikeLp a n ups).kept := by
  unfold State.strikeLp
  refine State.keeps_foldl _ s hk fun t x ht => ?_
  split
  · exact State.setLp_keeps t _ ht id
  · split <;> simp [ht]

@[simp] theorem State.lpCount_kept (req : Req) (a n : Nat) : (s.lpCount req a n).kept = s.kept := by
  simp [State.lpCount]
@[simp] theorem State.lpRead_kept (req : Req) (a n : Nat) : (s.lpRead req a n).1.kept = s.kept := by
  unfold State.lpRead
  dsimp only
  split <;> simp

/-- Bytes are stored piece by piece, each in the canonical form (R353, R354). -/
@[simp] theorem State.lpWrite_keeps (req : Req) (a : Nat) (l : List Byte) (hk : Keeps k s.kept) :
    Keeps k (s.lpWrite req a l).1.kept := by
  have hw : Keeps k ((s.lpCount req a l.length).setLp ((s.lpCount req a l.length).comp.lpddr.store 64 a l).1).kept :=
    State.setLp_keeps _ _ (by simp [hk]) fun h => Mem.wf_store h _ _ _
  unfold State.lpWrite
  dsimp only
  split <;> simp [hw]

@[simp] theorem State.markSram_kept (p a : Nat) : (s.markSram p a).kept = s.kept := by simp [State.markSram]
@[simp] theorem State.sramCorr_kept (p a : Nat) : (s.sramCorr p a).kept = s.kept := by simp [State.sramCorr]
@[simp] theorem State.sramUncorr_kept (p a : Nat) : (s.sramUncorr p a).kept = s.kept := by simp [State.sramUncorr]
@[simp] theorem State.strikeSram_kept (p a n : Nat) (ups : List Upset) : (s.strikeSram p a n ups).kept = s.kept := by
  simp [State.strikeSram]
@[simp] theorem State.sramRead_kept (p a n : Nat) : (s.sramRead p a n).1.kept = s.kept := by
  unfold State.sramRead
  split <;> simp
@[simp] theorem State.sramWrite_kept (p a : Nat) (l : List Byte) : (s.sramWrite p a l).kept = s.kept := by
  simp [State.sramWrite]
@[simp] theorem State.setBuf_kept (q b : Nat) (x : Buf) : (s.setBuf q b x).kept = s.kept := by simp [State.setBuf]

@[simp] theorem State.devRead_keeps (req : Req) (a n : Nat) (ups : List Upset) (hk : Keeps k s.kept) :
    Keeps k (s.devRead req a n ups).1.kept := by
  unfold State.devRead
  (repeat' split) <;> simp +contextual [hk]

/-- The state that a read leaves, where what it read is known. -/
theorem State.keeps_of_devRead {t : State} {req : Req} {a n : Nat} {ups : List Upset} {r : Option (List Byte)}
    (h : s.devRead req a n ups = (t, r)) (hk : Keeps k s.kept) : Keeps k t.kept := by
  have ht := State.devRead_keeps s req a n ups hk
  rwa [h] at ht

@[simp] theorem State.devWrite_keeps (req : Req) (u : BufUse) (a : Nat) (l : List Byte) (hk : Keeps k s.kept) :
    Keeps k (s.devWrite req u a l).1.kept := by
  unfold State.devWrite
  dsimp only
  (repeat' split) <;> simp [hk]

/-! ### SlotStore -/

@[simp] theorem State.setQueue_kept (q : Nat) (l : List Payload) : (s.setQueue q l).kept = s.kept := by
  simp [State.setQueue]
@[simp] theorem State.countBufs_kept (q : Nat) : (s.countBufs q).kept = s.kept := by simp [State.countBufs]
theorem State.reserve_kept {t : State} {q b : Nat} {u : BufUse} (h : s.reserve q u = some (b, t)) :
    t.kept = s.kept := by
  obtain ⟨b, -, hb⟩ := Option.map_eq_some_iff.1 h
  cases hb
  simp
@[simp] theorem State.release_kept (q b : Nat) : (s.release q b).kept = s.kept := by simp [State.release]
@[simp] theorem State.commit_kept (q b len : Nat) : (s.commit q b len).kept = s.kept := by simp [State.commit]
@[simp] theorem State.setPockets_kept (l : List Nat) : (s.setPockets l).kept = s.kept := by simp [State.setPockets]

theorem State.takePockets_kept {t : State} {n : Nat} {l : List Nat} (h : s.takePockets n = some (l, t)) :
    t.kept = s.kept := by
  unfold State.takePockets at h
  dsimp only at h
  split at h <;> cases h
  simp

@[simp] theorem State.freePockets_kept (l : List Nat) : (s.freePockets l).kept = s.kept := by simp [State.freePockets]
@[simp] theorem State.freePayload_kept (q : Nat) (x : Payload) : (s.freePayload q x).kept = s.kept := by
  unfold State.freePayload
  split <;> simp

/-! ### Cluster -/

@[simp] theorem State.loseContents_kept (p : Nat) : (s.loseContents p).kept = s.kept := by simp [State.loseContents]
@[simp] theorem State.addFlags_kept (p : Nat) (f : Flags) : (s.addFlags p f).kept = s.kept := by simp [State.addFlags]
@[simp] theorem State.clearFlags_kept (p : Nat) : (s.clearFlags p).kept = s.kept := by simp [State.clearFlags]

@[simp] theorem State.clearTags_kept (p : Nat) : (s.clearTags p).kept = s.kept := by
  unfold State.clearTags
  extract_lets s1 c s2 x
  have h1 : s1.kept = s.kept := State.kept_foldl (fun t x => State.wr_kept ..) _ s
  have h2 : s2.kept = s.kept := by simp [s2, h1]
  simp [x, h2]

@[simp] theorem State.setHandles_kept (p : Nat) (l : List (Nat × Nat)) : (s.setHandles p l).kept = s.kept := by
  simp [State.setHandles]
@[simp] theorem State.dropHandles_kept (p : Nat) : (s.dropHandles p).kept = s.kept := by simp [State.dropHandles]
@[simp] theorem State.beginRamp_kept (p : Nat) : (s.beginRamp p).kept = s.kept := by simp [State.beginRamp]
@[simp] theorem State.beginWait_kept (p : Nat) (w : Wait) (num : Nat) : (s.beginWait p w num).kept = s.kept := by
  simp [State.beginWait]
@[simp] theorem State.endWait_kept (p : Nat) : (s.endWait p).kept = s.kept := by unfold State.endWait; split <;> simp
@[simp] theorem State.halt_kept (p st : Nat) : (s.halt p st).kept = s.kept := by simp [State.halt]
@[simp] theorem State.setJob_kept (j : Nat) (x : Job) : (s.setJob j x).kept = s.kept := by simp [State.setJob]
@[simp] theorem State.token_kept (j n code : Nat) : (s.token j n code).kept = s.kept := by simp [State.token]
@[simp] theorem State.clToken_kept (p code : Nat) : (s.clToken p code).kept = s.kept := by simp [State.clToken]
@[simp] theorem State.jobFail_kept (j : Nat) : (s.jobFail j).kept = s.kept := by simp [State.jobFail]
@[simp] theorem State.clFault_kept (p code : Nat) : (s.clFault p code).kept = s.kept := by simp [State.clFault]
@[simp] theorem State.quarantine_kept (p : Nat) : (s.quarantine p).kept = s.kept := by simp [State.quarantine]
@[simp] theorem State.clRefuse_kept (p : Nat) : (s.clRefuse p).kept = s.kept := by simp [State.clRefuse]
@[simp] theorem State.clStopCmd_kept (c : Nat) : (s.clStopCmd c).kept = s.kept := by simp [State.clStopCmd]
@[simp] theorem execClStop_answers (c : Fin 2048) : Answers s.kept (execClStop c s) := by simp [execClStop]
@[simp] theorem State.ungate_kept (p : Nat) : (s.ungate p).kept = s.kept := by simp [State.ungate]
@[simp] theorem State.clUngateCmd_kept (c : Nat) : (s.clUngateCmd c).kept = s.kept := by simp [State.clUngateCmd]
@[simp] theorem execClUngate_answers (c : Fin 2048) : Answers s.kept (execClUngate c s) := by simp [execClUngate]
@[simp] theorem State.clGateCmd_kept (c : Nat) : (s.clGateCmd c).kept = s.kept := by simp [State.clGateCmd]
@[simp] theorem execClGate_answers (c : Fin 2048) : Answers s.kept (execClGate c s) := by simp [execClGate]
@[simp] theorem State.stopQuarantine_kept (p code : Nat) : (s.stopQuarantine p code).kept = s.kept := by
  simp [State.stopQuarantine]
@[simp] theorem State.clQuarantineCmd_kept (c : Nat) : (s.clQuarantineCmd c).kept = s.kept := by
  simp [State.clQuarantineCmd]
@[simp] theorem execClQuarantine_answers (c : Fin 2048) : Answers s.kept (execClQuarantine c s) := by
  simp [execClQuarantine]
@[simp] theorem execWatchdog_answers (c : Fin 2048) (t : Nat) : Answers s.kept (execWatchdog c t s) := by
  simp [execWatchdog]
@[simp] theorem execRampStage_answers (c : Fin 2048) (t : Nat) : Answers s.kept (execRampStage c t s) := by
  simp [execRampStage]
@[simp] theorem State.assignSpare_kept (n p : Nat) : (s.assignSpare n p).kept = s.kept := by simp [State.assignSpare]

@[simp] theorem execClusterSpareAssign_answers (n : Fin 2000) (passed : Bool) :
    Answers s.kept (execClusterSpareAssign n passed s) := by
  unfold execClusterSpareAssign
  split
  · simp
  · split
    · simp
    · split <;> simp

@[simp] theorem State.startProgram_kept (p n j : Nat) : (s.startProgram p n j).kept = s.kept := by
  simp [State.startProgram]
@[simp] theorem State.clusterStart_kept (j n : Nat) : (s.clusterStart j n).kept = s.kept := by
  unfold State.clusterStart
  split <;> simp
@[simp] theorem State.jobNotice_kept (j stage reason rec : Nat) : (s.jobNotice j stage reason rec).kept = s.kept := by
  simp [State.jobNotice]
@[simp] theorem State.countArmed_kept : s.countArmed.kept = s.kept := by simp [State.countArmed]
@[simp] theorem State.countOpen_kept : s.countOpen.kept = s.kept := by simp [State.countOpen]
@[simp] theorem State.freeTrigger_kept (j : Nat) : (s.freeTrigger j).kept = s.kept := by simp [State.freeTrigger]
@[simp] theorem State.fireJob_kept (j : Nat) : (s.fireJob j).kept = s.kept := by simp [State.fireJob]
@[simp] theorem execJobStartTrigger_answers (j : Fin 8) (t : Nat) : Answers s.kept (execJobStartTrigger j t s) := by
  unfold execJobStartTrigger
  dsimp only
  (repeat' split) <;> simp

/-! ### Issue -/

@[simp] theorem State.setPc_kept (p pc : Nat) : (s.setPc p pc).kept = s.kept := by simp [State.setPc]

@[simp] theorem State.execute_keeps (p w : Nat) (legal gated : Bool) (f : State → Cluster → Effect)
    (hk : Keeps k s.kept) (h : ∀ t c, Keeps k t.kept → EffectKeeps k (f t c)) :
    Keeps k (s.execute p w legal gated f).kept := by
  unfold State.execute
  extract_lets c s0
  have h0 : Keeps k s0.kept := by simp [s0, hk]
  clear_value s0
  have he : EffectKeeps k (if gated && !enabled (c.pred w) 0 then Effect.done s0 else f s0 (s0.cl p)) := by
    split
    · exact h0
    · exact h _ _ h0
  split
  · simp [h0]
  · split
    all_goals
      next heq =>
      rw [heq] at he
      simp_all

/-- An instruction keeps what its own effect keeps. -/
@[simp] theorem State.issue_keeps (p op : Nat) (legal : Nat → Bool) (gated : Bool) (f : Nat → State → Cluster → Effect)
    (hk : Keeps k s.kept) (h : ∀ w t c, Keeps k t.kept → EffectKeeps k (f w t c)) :
    Keeps k (s.issue p op legal gated f).kept := by
  unfold State.issue
  split
  · exact hk
  · split
    · exact State.execute_keeps s _ _ _ _ _ hk (h _)
    · exact hk

@[simp] theorem State.completeWait_kept (p : Nat) : (s.completeWait p).kept = s.kept := by simp [State.completeWait]
@[simp] theorem State.finish_kept (p : Nat) : (s.finish p).kept = s.kept := by simp [State.finish]

/-! ### Moves -/

@[simp] theorem State.readPlace_keeps (req : Req) (x : Place) (n : Nat) (ups : List Upset) (hk : Keeps k s.kept) :
    Keeps k (s.readPlace req x n ups).1.kept := by
  unfold State.readPlace
  split <;> simp [hk]
@[simp] theorem State.writePlace_keeps (req : Req) (u : BufUse) (x : Place) (l : List Byte) (hk : Keeps k s.kept) :
    Keeps k (s.writePlace req u x l).1.kept := by
  unfold State.writePlace
  split <;> simp [hk]
@[simp] theorem State.placeSnoop_kept (write : Bool) (x : Place) (n : Nat) :
    (s.placeSnoop write x n).kept = s.kept := by
  simp [State.placeSnoop]

/-- Bytes that move go piece by piece: a read and a write each. -/
@[simp] theorem State.moveBytes_keeps (req : Req) (u : BufUse) (src dst : Place) (n : Nat) (ups : List Upset)
    (fuel : Nat) (hk : Keeps k s.kept) :
    Keeps k (s.moveBytes req u src dst n ups fuel).1.kept := by
  induction fuel generalizing s src dst n with
  | zero => exact hk
  | succ fuel ih =>
    unfold State.moveBytes
    dsimp only
    split
    · exact hk
    · split
      · simp [hk]
      · split
        · exact ih _ _ _ _ (by simp [hk])
        · simp [hk]

@[simp] theorem State.setTag_kept (p t n : Nat) : (s.setTag p t n).kept = s.kept := by simp [State.setTag]
@[simp] theorem State.tagFail_kept (p t : Nat) : (s.tagFail p t).kept = s.kept := by simp [State.tagFail]
@[simp] theorem State.tagDone_kept (p t : Nat) (counted ok : Bool) : (s.tagDone p t counted ok).kept = s.kept := by
  simp [State.tagDone]
@[simp] theorem State.xferDone_kept (p : Nat) (x : Xfer) (ok : Bool) : (s.xferDone p x ok).kept = s.kept := by
  simp [State.xferDone]
@[simp] theorem State.moveXfer_keeps (p : Nat) (x : Xfer) (ups : List Upset) (hk : Keeps k s.kept) :
    Keeps k (s.moveXfer p x ups).1.kept := by
  unfold State.moveXfer
  dsimp only
  split <;> simp [hk]

@[simp] theorem State.moveAll_keeps (p : Nat) (ups : List Upset) (l : List Xfer) (hk : Keeps k s.kept) :
    Keeps k (s.moveAll p ups l).kept := by
  induction l generalizing s with
  | nil => exact hk
  | cons x l ih =>
    have hm := State.moveXfer_keeps s p x ups hk
    unfold State.moveAll
    dsimp only
    split
    · exact ih _ hm
    · exact hm

@[simp] theorem State.setXfer_kept (p : Nat) (x : Xfer) : (s.setXfer p x).kept = s.kept := by simp [State.setXfer]
@[simp] theorem State.xferNext_kept (p : Nat) (x : Xfer) : (s.xferNext p x).kept = s.kept := by
  unfold State.xferNext
  dsimp only
  (repeat' split) <;> simp
@[simp] theorem State.xferStep_kept (p id : Nat) (l : List Byte) (ok : Bool) :
    (s.xferStep p id l ok).kept = s.kept := by
  unfold State.xferStep
  split <;> simp

/-! ### Copies -/

@[simp] theorem State.setEngine_kept (e : Nat) (x : Engine) : (s.setEngine e x).kept = s.kept := by
  simp [State.setEngine]
@[simp] theorem State.showQueued_kept (e : Nat) : (s.showQueued e).kept = s.kept := by simp [State.showQueued]
@[simp] theorem State.setCode_kept (e : Nat) (c : CopyCode) : (s.setCode e c).kept = s.kept := by simp [State.setCode]
@[simp] theorem State.copyNext_keeps (e : Nat) (d : Desc) (hk : Keeps k s.kept) : Keeps k (s.copyNext e d).kept := by
  unfold State.copyNext
  dsimp only
  (repeat' split) <;> simp [hk]

@[simp] theorem State.engineBegin_keeps (e : Nat) (hk : Keeps k s.kept) : Keeps k (s.engineBegin e).kept := by
  unfold State.engineBegin
  split
  · simp [hk]
  · extract_lets n x s1 a r y s2
    have h1 : Keeps k s1.kept := by simp [s1, hk]
    have hr : Keeps k r.1.kept := by simp [r, h1]
    have h2 : Keeps k s2.kept := by
      unfold s2
      split
      · exact h1
      · split
        · simp [h1]
        · split <;> simp [hr]
    clear_value s2
    split
    · exact h2
    next d _ =>
    have hgo : ∀ t : State, Keeps k t.kept → Keeps k (if d.op = 2 ∧ (t.engine e).held = none then t
        else if t.copyLink d then t.copyNext e d else t).kept := fun t ht => by simp [ht]
    split
    · simp [h2]
    · split
      · simp [h2]
      · split
        · simp [h2]
        · split
          · simp [h2]
          · refine hgo _ ?_
            split
            · split
              next r h => simpa [State.reserve_kept s2 h] using h2
              · exact h2
            · exact h2

@[simp] theorem State.copyStep_keeps (e : Nat) (read : Bool) (l : List Byte) (ok : Bool) (hk : Keeps k s.kept) :
    Keeps k (s.copyStep e read l ok).kept := by
  unfold State.copyStep
  dsimp only
  (repeat' split) <;> simp [hk]

@[simp] theorem State.copyRows_keeps (e : Nat) (d : Desc) (ups : List Upset) (r fuel : Nat) (hk : Keeps k s.kept) :
    Keeps k (s.copyRows e d ups r fuel).1.kept := by
  induction fuel generalizing s r with
  | zero => exact hk
  | succ n ih =>
    unfold State.copyRows
    extract_lets p w m
    have hm : Keeps k m.1.kept := by
      unfold m
      split <;> simp [w, hk]
    split
    · exact ih _ _ hm
    · exact hm

@[simp] theorem State.writeStatus_keeps (e : Nat) (d : Desc) (code rows : Nat) (hk : Keeps k s.kept) :
    Keeps k (s.writeStatus e d code rows).kept := by
  unfold State.writeStatus
  dsimp only
  (repeat' split) <;> simp [hk]
@[simp] theorem State.copyEnd_keeps (e : Nat) (d : Option Desc) (code : CopyCode) (rows : Nat) (hk : Keeps k s.kept) :
    Keeps k (s.copyEnd e d code rows).kept := by
  unfold State.copyEnd
  dsimp only
  (repeat' split) <;> simp [hk]
@[simp] theorem State.copyTick_keeps (e : Nat) (ups : List Upset) (hk : Keeps k s.kept) :
    Keeps k (s.copyTick e ups).kept := by
  unfold State.copyTick
  dsimp only
  (repeat' split) <;> simp [hk]
@[simp] theorem State.restartCopies_keeps (hk : Keeps k s.kept) : Keeps k s.restartCopies.kept := by
  simp +contextual [State.restartCopies, hk]
@[simp] theorem execCopyComplete_answers (e : Fin 80) (ups : List Upset) :
    Answers s.kept (execCopyComplete e ups s) := by
  simp [execCopyComplete]
@[simp] theorem State.prodWrite_keeps (n v : Nat) (hk : Keeps k s.kept) : Keeps k (s.prodWrite n v).kept := by
  simp [State.prodWrite, hk]
@[simp] theorem State.enqueue_keeps (e : Nat) (q : DieCopy) (hk : Keeps k s.kept) : Keeps k (s.enqueue e q).kept := by
  simp [State.enqueue, hk]

/-! ### Rings -/

@[simp] theorem State.setRing_kept (r : Nat) (x : Ring) : (s.setRing r x).kept = s.kept := by simp [State.setRing]
@[simp] theorem State.resetRing_kept (r : Nat) : (s.resetRing r).kept = s.kept := by simp [State.resetRing]
@[simp] theorem State.ringWrite_kept (r : Nat) (reg : RingReg) (v : Nat) : (s.ringWrite r reg v).kept = s.kept := by
  unfold State.ringWrite
  split <;> simp
theorem State.claim_kept {t : State} {r : Nat} {c : Claim} (h : s.claim r = some (c, t)) : t.kept = s.kept := by
  obtain ⟨e, -, he⟩ := Option.map_eq_some_iff.1 h
  cases he
  simp
@[simp] theorem State.freeEntry_kept (r i : Nat) : (s.freeEntry r i).kept = s.kept := by simp [State.freeEntry]
@[simp] theorem State.claimRead_kept (r : Nat) : (s.claimRead r).kept = s.kept := by
  unfold State.claimRead
  split
  next c h => simpa using State.claim_kept s h
  · simp
@[simp] theorem execRingClaim_answers (b : Bank) : Answers s.kept (execRingClaim b s) := by simp [execRingClaim]
@[simp] theorem State.ringRelease_kept (r i : Nat) : (s.ringRelease r i).kept = s.kept := by
  unfold State.ringRelease
  split <;> simp
@[simp] theorem execRingRelease_answers (b : Bank) (index : BitVec 11) :
    Answers s.kept (execRingRelease b index s) := by
  simp [execRingRelease]
@[simp] theorem State.fellWrite_kept (f : Nat) (reg : FellReg) (v : Nat) : (s.fellWrite f reg v).kept = s.kept := by
  unfold State.fellWrite
  split <;> simp

@[simp] theorem execMemScrub_answers (ups : List Upset) : Answers s.kept (execMemScrub ups s) := by
  unfold execMemScrub
  split
  · simp
  · extract_lets b c s1 s2
    have h1 : Keeps s.kept s1.kept := Keeps.refl _
    have h2 : Keeps s.kept s2.kept := by simp [s2, h1]
    simp [h2]

@[simp] theorem State.setRecords_kept (l : List Record) : (s.setRecords l).kept = s.kept := by simp [State.setRecords]
@[simp] theorem State.deliver_kept (r : Record) : (s.deliver r).kept = s.kept := by simp [State.deliver]
@[simp] theorem execCompletionRecord_answers (j : Fin 8) (t : Nat) : Answers s.kept (execCompletionRecord j t s) := by
  unfold execCompletionRecord
  dsimp only
  (repeat' split) <;> simp

@[simp] theorem State.selectRec_kept (b : Bank) : (s.selectRec b).kept = s.kept := by
  unfold State.selectRec
  split
  · simp
  · extract_lets t c
    have ht : t.kept = s.kept := by simp [t]
    split
    · exact ht
    · rw [State.deliver_kept, State.kept_mk]
      exact ht

@[simp] theorem execGthRecSelect_answers (b : Bank) : Answers s.kept (execGthRecSelect b s) := by
  simp [execGthRecSelect]

/-! ### FabricOps -/

@[simp] theorem State.setPlan_kept (n : Nat) (x : Plan) : (s.setPlan n x).kept = s.kept := by simp [State.setPlan]
@[simp] theorem State.txAbort_kept (l : Nat) : (s.txAbort l).kept = s.kept := by simp [State.txAbort]
@[simp] theorem State.cutLink_kept (n l : Nat) : (s.cutLink n l).kept = s.kept := by
  unfold State.cutLink
  dsimp only
  (repeat' split) <;> simp
@[simp] theorem State.silence_kept (l : Nat) : (s.silence l).kept = s.kept := by simp [State.silence]
@[simp] theorem State.cutLinks_kept (which : Nat → Bool) : (s.cutLinks which).kept = s.kept := by simp [State.cutLinks]
@[simp] theorem State.rxQuieted_kept (l : Nat) : (s.rxQuieted l).kept = s.kept := by simp [State.rxQuieted]
@[simp] theorem State.quietRx_kept (which : Nat → Bool) : (s.quietRx which).kept = s.kept := by simp [State.quietRx]

/-! ### Book -/

@[simp] theorem State.pbRefuse_kept : s.pbRefuse.kept = s.kept := by simp [State.pbRefuse]
@[simp] theorem State.frozen_kept : s.frozen.kept = s.kept := by simp [State.frozen]
@[simp] theorem State.tblChange_kept : s.tblChange.kept = s.kept := by simp [State.tblChange]
@[simp] theorem State.storeEntry_kept (i w : Nat) : (s.storeEntry i w).kept = s.kept := by simp [State.storeEntry]
@[simp] theorem State.writeTblHi_kept (v : Nat) : (s.writeTblHi v).kept = s.kept := by simp [State.writeTblHi]
@[simp] theorem State.writeLeafReg_kept (reg : LeafReg) (v : Nat) : (s.writeLeafReg reg v).kept = s.kept := by
  unfold State.writeLeafReg
  dsimp only
  (repeat' split) <;> simp
@[simp] theorem State.pbLoad_kept : s.pbLoad.kept = s.kept := by
  unfold State.pbLoad
  dsimp only
  (repeat' split) <;> simp
@[simp] theorem execPbLoad_answers : Answers s.kept (execPbLoad s) := by simp [execPbLoad]
@[simp] theorem State.loadEnd_kept (failed : Bool) : (s.loadEnd failed).kept = s.kept := by simp [State.loadEnd]

@[simp] theorem State.loadEntries_keeps (ups : List Upset) (i a fuel : Nat) (hk : Keeps k s.kept) :
    Keeps k (s.loadEntries ups i a fuel).kept := by
  induction fuel generalizing s i a with
  | zero => simp [State.loadEntries, hk]
  | succ n ih =>
    have hr := State.devRead_keeps s .ftdEngine a 8 ups hk
    unfold State.loadEntries
    split
    next t h => simpa [h] using hr
    next t l h =>
      rw [h] at hr
      exact ih _ _ _ (by simpa using hr)

@[simp] theorem execLeafLoadDone_answers (ups : List Upset) : Answers s.kept (execLeafLoadDone ups s) := by
  unfold execLeafLoadDone
  split
  · simp
  · split <;> simp
@[simp] theorem State.loadStep_kept (data : List Byte) (ok : Bool) : (s.loadStep data ok).kept = s.kept := by
  unfold State.loadStep
  split <;> simp
@[simp] theorem State.pbClear_kept : s.pbClear.kept = s.kept := by simp [State.pbClear]
@[simp] theorem execPbClear_answers : Answers s.kept (execPbClear s) := by simp [execPbClear]
@[simp] theorem State.pbCheck_kept : s.pbCheck.kept = s.kept := by simp [State.pbCheck]
@[simp] theorem execPbCheck_answers : Answers s.kept (execPbCheck s) := by simp [execPbCheck]
@[simp] theorem State.leafFault_kept : s.leafFault.kept = s.kept := by simp [State.leafFault]
@[simp] theorem State.leafUpset_kept (x : LeafUpset) : (s.leafUpset x).kept = s.kept := by simp [State.leafUpset]
@[simp] theorem execPbScrub_answers (ups : List LeafUpset) : Answers s.kept (execPbScrub ups s) := by simp [execPbScrub]
@[simp] theorem execCheckComplete_answers (ups : List LeafUpset) : Answers s.kept (execCheckComplete ups s) := by
  simp [execCheckComplete]
@[simp] theorem State.swMiss_kept (n : Nat) : (s.swMiss n).kept = s.kept := by simp [State.swMiss]
@[simp] theorem State.pbArm_kept : s.pbArm.kept = s.kept := by simp [State.pbArm]
@[simp] theorem execPbArm_answers : Answers s.kept (execPbArm s) := by simp [execPbArm]
@[simp] theorem State.pbCancel_kept : s.pbCancel.kept = s.kept := by simp [State.pbCancel]
@[simp] theorem execPbCancel_answers : Answers s.kept (execPbCancel s) := by simp [execPbCancel]
@[simp] theorem execSwitchDecision_answers (slot : Nat) : Answers s.kept (execSwitchDecision slot s) := by
  unfold execSwitchDecision
  dsimp only
  (repeat' split) <;> simp
@[simp] theorem State.swapLeaves_kept : s.swapLeaves.kept = s.kept := by simp [State.swapLeaves]
@[simp] theorem execLeafSwitch_answers (slot : Nat) : Answers s.kept (execLeafSwitch slot s) := by simp [execLeafSwitch]

/-! ### RingOps -/

@[simp] theorem State.setLoop_kept (l : Nat) (x : Loop) : (s.setLoop l x).kept = s.kept := by simp [State.setLoop]
@[simp] theorem State.setJig_kept (j : Jig) : (s.setJig j).kept = s.kept := by simp [State.setJig]
@[simp] theorem State.showCal_kept (l : Nat) : (s.showCal l).kept = s.kept := by simp [State.showCal]
@[simp] theorem State.setDemand_kept (l : Nat) (d : Int) : (s.setDemand l d).kept = s.kept := by simp [State.setDemand]
@[simp] theorem State.ringGone_kept (p r : Nat) : (s.ringGone p r).kept = s.kept := by simp [State.ringGone]
@[simp] theorem State.ringTo_kept (l st : Nat) : (s.ringTo l st).kept = s.kept := by unfold State.ringTo; split <;> simp
@[simp] theorem State.enterJump_kept (l k : Nat) : (s.enterJump l k).kept = s.kept := by simp [State.enterJump]
@[simp] theorem State.enterSweep_kept (l : Nat) : (s.enterSweep l).kept = s.kept := by simp [State.enterSweep]
@[simp] theorem State.relock_kept (l k : Nat) : (s.relock l k).kept = s.kept := by simp [State.relock]
@[simp] theorem State.enterParked_kept (l : Nat) : (s.enterParked l).kept = s.kept := by simp [State.enterParked]
@[simp] theorem State.bridge_kept (l : Nat) : (s.bridge l).kept = s.kept := by unfold State.bridge; split <;> simp
@[simp] theorem State.enterCapture_kept (l : Nat) (bridged : Bool) : (s.enterCapture l bridged).kept = s.kept := by
  simp [State.enterCapture]
@[simp] theorem State.retarget_kept (l : Nat) : (s.retarget l).kept = s.kept := by
  unfold State.retarget
  dsimp only
  (repeat' split) <;> simp
@[simp] theorem State.retargetPort_kept (p : Nat) : (s.retargetPort p).kept = s.kept := by simp [State.retargetPort]
@[simp] theorem State.setBFor_kept (p n : Nat) : (s.setBFor p n).kept = s.kept := by simp [State.setBFor]
@[simp] theorem State.takeover_kept (p r : Nat) : (s.takeover p r).1.kept = s.kept := by
  unfold State.takeover
  dsimp only
  (repeat' split) <;> simp
@[simp] theorem State.enterFault_kept (l : Nat) : (s.enterFault l).kept = s.kept := by
  unfold State.enterFault
  split <;> simp
@[simp] theorem State.calOutcome_kept (u : CalUnit) (outcome reason : Nat) :
    (s.calOutcome u outcome reason).kept = s.kept := by
  simp [State.calOutcome]
@[simp] theorem State.setQueue'_kept (l : List CalUnit) : (s.setQueue' l).kept = s.kept := by simp [State.setQueue']
@[simp] theorem State.calQueue_kept (u : CalUnit) : (s.calQueue u).kept = s.kept := by
  unfold State.calQueue
  split <;> simp
@[simp] theorem State.calAborted_kept (u : CalUnit) (reason : Nat) : (s.calAborted u reason).kept = s.kept := by
  simp [State.calAborted]
@[simp] theorem State.calAbortOpt_kept (reason : Nat) : (s.calAbortOpt reason).kept = s.kept := by
  unfold State.calAbortOpt
  dsimp only
  (repeat' split) <;> simp

@[simp] theorem State.enterMislock_kept (l : Nat) : (s.enterMislock l).kept = s.kept := by
  unfold State.enterMislock
  extract_lets s1 x s2 s3 f c s4
  have h4 : s4.kept = s.kept := by simp [s4, s3, s2, s1]
  clear_value s4
  split
  · exact h4
  next p r _ =>
    have ht := State.takeover_kept s4 p r
    split
    next t h =>
      rw [h] at ht
      exact ht.trans h4
    next t h =>
      rw [h] at ht
      simp [ht.trans h4]

@[simp] theorem State.enterLocked'_kept (l : Nat) : (s.enterLocked' l).kept = s.kept := by
  unfold State.enterLocked'
  dsimp only
  (repeat' split) <;> simp
@[simp] theorem State.fireDue_kept (l : Nat) (d : Due) : (s.fireDue l d).kept = s.kept := by
  unfold State.fireDue
  split <;> simp
@[simp] theorem State.fireCmd_kept (l : Nat) (c : RingCmd) : (s.fireCmd l c).kept = s.kept := by
  unfold State.fireCmd
  dsimp only
  (repeat' split) <;> simp

/-! ### Seams -/

@[simp] theorem State.setSeam_kept (i : Nat) (p : Seam) : (s.setSeam i p).kept = s.kept := by simp [State.setSeam]
@[simp] theorem State.seamSent_kept (i f : Nat) (txRes : Int) : (s.seamSent i f txRes).kept = s.kept := by
  simp [State.seamSent]
@[simp] theorem State.seamExchange_kept (i : Nat) (dOut dIn : Int) : (s.seamExchange i dOut dIn).kept = s.kept := by
  simp [State.seamExchange]
@[simp] theorem State.seamReceived_kept (i : Nat) (w : SeamWord) (delay : Int) :
    (s.seamReceived i w delay).kept = s.kept := by
  unfold State.seamReceived
  dsimp only
  (repeat' split) <;> simp
@[simp] theorem State.seamJudge_kept (f i : Nat) : (s.seamJudge f i).kept = s.kept := by simp [State.seamJudge]
@[simp] theorem State.seamShares_kept : s.seamShares.kept = s.kept := by simp [State.seamShares]
@[simp] theorem State.seamFrameEnd_kept (f : Nat) : (s.seamFrameEnd f).kept = s.kept := by simp [State.seamFrameEnd]

/-! ### Slots -/

@[simp] theorem State.refuse_kept (q reason : Nat) : (s.refuse q reason).kept = s.kept := by simp [State.refuse]
@[simp] theorem State.missSlot_kept (q : Nat) : (s.missSlot q).kept = s.kept := by simp [State.missSlot]
@[simp] theorem State.tailClash_kept (k : Nat) : (s.tailClash k).kept = s.kept := by simp [State.tailClash]
@[simp] theorem State.inTime_kept (q n : Nat) : (s.inTime q n).2.kept = s.kept := by
  unfold State.inTime
  dsimp only
  (repeat' split) <;> simp

@[simp] theorem State.bindSlot_kept (l n q ring colour : Nat) : (s.bindSlot l n q ring colour).1.kept = s.kept := by
  have ht := State.inTime_kept s q n
  unfold State.bindSlot
  split
  next t h =>
    rw [h] at ht
    simpa using ht
  next p t h =>
    rw [h] at ht
    dsimp only at ht ⊢
    split <;> simp [ht]

@[simp] theorem State.stitch_kept (l n : Nat) (e : Entry) : (s.stitch l n e).1.kept = s.kept := by
  unfold State.stitch
  dsimp only
  (repeat' split) <;> simp
@[simp] theorem State.resolveRx_kept (n : Nat) (es : List (Nat × Entry)) (l : Nat) :
    (s.resolveRx n es l).kept = s.kept := by
  unfold State.resolveRx
  split <;> simp
@[simp] theorem State.resolveTx_kept (n : Nat) (es : List (Nat × Entry)) (l : Nat) :
    (s.resolveTx n es l).kept = s.kept := by
  unfold State.resolveTx
  dsimp only
  (repeat' split) <;> simp
@[simp] theorem execSlotCutoff_answers (n : Nat) : Answers s.kept (execSlotCutoff n s) := by simp [execSlotCutoff]
@[simp] theorem State.light_kept (p : Nat) (x : Sent) : (s.light p x).kept = s.kept := by simp [State.light]
@[simp] theorem State.withSeam_kept (i : Nat) (res : Int) (h : Header) : (s.withSeam i res h).2.kept = s.kept := by
  simp [State.withSeam]
@[simp] theorem State.slotHeader_kept (l n q colour : Nat) (res : Int) :
    (s.slotHeader l n q colour res).2.kept = s.kept := by
  unfold State.slotHeader
  split <;> simp
@[simp] theorem State.startLink_kept (n : Nat) (res : Int) (l : Nat) : (s.startLink n res l).kept = s.kept := by
  unfold State.startLink
  dsimp only
  (repeat' split) <;> simp
@[simp] theorem execSlotStart_answers (n : Nat) (res : List (Nat × Int)) : Answers s.kept (execSlotStart n res s) := by
  simp [execSlotStart]

@[simp] theorem execSlotEnd_answers (n : Nat) : Answers s.kept (execSlotEnd n s) := by
  unfold execSlotEnd
  split
  · simp
  · extract_lets s1 p s2 keep
    have h2 : s2.kept = s1.kept := State.kept_foldl (fun t x => by split <;> simp) _ _
    have h1 : s1.kept = s.kept := State.advance_kept ..
    simp [h2, h1]

/-! ### Arrive -/

@[simp] theorem State.setIncoming_kept (n l : Nat) (x : Incoming) : (s.setIncoming n l x).kept = s.kept := by
  simp [State.setIncoming]
@[simp] theorem State.endIncoming_kept (n l : Nat) : (s.endIncoming n l).kept = s.kept := by simp [State.endIncoming]
@[simp] theorem State.claimOver_kept (n l : Nat) : (s.claimOver n l).kept = s.kept := by simp [State.claimOver]
@[simp] theorem State.rxIdle_kept (l : Nat) : (s.rxIdle l).kept = s.kept := by simp [State.rxIdle]
@[simp] theorem State.rxDark_kept (l : Nat) : (s.rxDark l).kept = s.kept := by simp [State.rxDark]
@[simp] theorem State.rxDrop_kept (l : Nat) : (s.rxDrop l).kept = s.kept := by simp [State.rxDrop]
@[simp] theorem State.rxUncorr_kept (l : Nat) : (s.rxUncorr l).kept = s.kept := by simp [State.rxUncorr]
@[simp] theorem State.rxUnsched_kept (l : Nat) : (s.rxUnsched l).kept = s.kept := by simp [State.rxUnsched]
@[simp] theorem State.setPair_kept (p j : Nat) (x : Pair) : (s.setPair p j x).kept = s.kept := by simp [State.setPair]
@[simp] theorem State.setCu_kept (k : Nat) (x : CuLink) : (s.setCu k x).kept = s.kept := by simp [State.setCu]

/-- A fell's addition in main memory writes the four bytes of its sum. -/
@[simp] theorem State.fellDo_keeps (a : Nat) (v : Lane) (first : Bool) (hk : Keeps k s.kept) :
    Keeps k (s.fellDo a v first).1.kept := by
  unfold State.fellDo
  dsimp only
  (repeat' split) <;> simp +contextual [hk, Mem.wf_write]

@[simp] theorem State.fellAdd_keeps (f a : Nat) (v : Lane) (first : Bool) (hk : Keeps k s.kept) :
    Keeps k (s.fellAdd f a v first).1.kept := by
  unfold State.fellAdd
  dsimp only
  split <;> simp [hk]
@[simp] theorem State.fellStrike_keeps (a : Nat) (ups : List Upset) (hk : Keeps k s.kept) :
    Keeps k (s.fellStrike a ups).kept := by
  unfold State.fellStrike
  (repeat' split) <;> simp +contextual [hk]
@[simp] theorem State.fellFlags_kept (f : Nat) (g : Flags) (told : Bool) : (s.fellFlags f g told).kept = s.kept := by
  simp [State.fellFlags]

@[simp] theorem State.fellPiece_keeps (f : Nat) (shot : FellShot) (x : Incoming) (off : Nat)
    (l : List (Option Byte)) (ups : List Upset) (hk : Keeps k s.kept) :
    Keeps k (s.fellPiece f shot x off l ups).1.kept := by
  unfold State.fellPiece
  extract_lets size
  refine State.keeps_foldl_fst _ _ hk fun r i hr => ?_
  dsimp only
  split <;> simp [hr]

@[simp] theorem State.fellEnd_kept (f l : Nat) (failed : Bool) : (s.fellEnd f l failed).kept = s.kept := by
  simp [State.fellEnd]
@[simp] theorem State.fellPlace_keeps (f n l : Nat) (shot : FellShot) (x : Incoming) (hk : Keeps k s.kept) :
    Keeps k (s.fellPlace f n l shot x).kept := by
  simp [State.fellPlace, hk]

@[simp] theorem State.fellSettle_keeps (f fuel : Nat) (hk : Keeps k s.kept) : Keeps k (s.fellSettle f fuel).kept := by
  induction fuel generalizing s with
  | zero => exact hk
  | succ fuel ih =>
    unfold State.fellSettle
    split
    · exact hk
    · split
      · exact ih _ (by simp [hk])
      · exact hk

@[simp] theorem State.claimLost_keeps (n l : Nat) (a : RxAct) (hk : Keeps k s.kept) :
    Keeps k (s.claimLost n l a).kept := by
  unfold State.claimLost
  split <;> simp [hk]
@[simp] theorem State.fellHeader_keeps (f n l : Nat) (x : Incoming) (len : Option Nat) (hk : Keeps k s.kept) :
    Keeps k (s.fellHeader f n l x len).kept := by
  simp [State.fellHeader, hk]
@[simp] theorem State.fifo_kept (l : Nat) (f : FifoFault) : (s.fifo l f).kept = s.kept := by simp [State.fifo]
@[simp] theorem State.aggWrite_keeps (a : Nat) (l : List Byte) (hk : Keeps k s.kept) :
    Keeps k (s.aggWrite a l).1.kept := by
  unfold State.aggWrite
  dsimp only
  split <;> simp [hk]

@[simp] theorem State.deliverPiece_keeps (n l off : Nat) (x : Incoming) (piece : List (Option Byte))
    (ups : List Upset) (hk : Keeps k s.kept) :
    Keeps k (s.deliverPiece n l off x piece ups).1.kept := by
  unfold State.deliverPiece
  dsimp only
  split
  · exact State.keeps_foldl_fst _ _ hk fun r i hr => by simp [hr]
  · (repeat' split) <;> simp [hk]
  · exact hk
  · (repeat' split) <;> simp [hk]
  · exact hk

@[simp] theorem State.relayDrop_kept : s.relayDrop.kept = s.kept := by simp [State.relayDrop]
@[simp] theorem State.takeFail_kept (r : Nat) : (s.takeFail r).kept = s.kept := by simp [State.takeFail]
@[simp] theorem State.takeEnd_keeps (l r : Nat) (x : Incoming) (h : Header) (hk : Keeps k s.kept) :
    Keeps k (s.takeEnd l r x h).kept := by
  simp [State.takeEnd, hk]
@[simp] theorem State.slotDone_keeps (n l : Nat) (x : Incoming) (hk : Keeps k s.kept) :
    Keeps k (s.slotDone n l x).kept := by
  unfold State.slotDone
  (repeat' split) <;> simp +contextual [hk]

@[simp] theorem State.wordPayload_keeps (n l i : Nat) (x : Incoming) (w : Codeword) (f : FifoFault)
    (ups : List Upset) (hk : Keeps k s.kept) :
    Keeps k (s.wordPayload n l i x w f ups).kept := by
  unfold State.wordPayload
  dsimp only
  (repeat' split) <;> simp [hk]

@[simp] theorem State.wordStats_kept (l i peer : Nat) (w : Codeword) : (s.wordStats l i peer w).kept = s.kept := by
  unfold State.wordStats
  split <;> simp
@[simp] theorem State.claimDark_keeps (n l : Nat) (a : RxAct) (hk : Keeps k s.kept) :
    Keeps k (s.claimDark n l a).kept := by
  simp [State.claimDark, hk]
@[simp] theorem State.framed_kept (p j phase gain : Nat) : (s.framed p j phase gain).kept = s.kept := by
  simp [State.framed]
@[simp] theorem State.arriveOptical_keeps (l n : Nat) (a : Arrival) (hk : Keeps k s.kept) :
    Keeps k (s.arriveOptical l n a).kept := by
  unfold State.arriveOptical
  dsimp only
  (repeat' split) <;> simp [hk]
@[simp] theorem State.laneQuality_kept (k : Nat) (bs : List LaneBlock) : (s.laneQuality k bs).kept = s.kept := by
  simp [State.laneQuality]
@[simp] theorem State.arriveCopper_keeps (l n : Nat) (a : Arrival) (hk : Keeps k s.kept) :
    Keeps k (s.arriveCopper l n a).kept := by
  unfold State.arriveCopper
  split <;> simp [hk]
@[simp] theorem execSlotArrival_answers (l : Fin 22) (n : Nat) (a : Arrival) :
    Answers s.kept (execSlotArrival l n a s) := by
  simp [execSlotArrival]
@[simp] theorem execPhaseCacheInvalid_answers (p : Fin 16) (j : Fin 32) :
    Answers s.kept (execPhaseCacheInvalid p j s) := by
  simp [execPhaseCacheInvalid]
@[simp] theorem State.forward_kept (n l k : Nat) (x : Incoming) (h : Option Header) :
    (s.forward n l k x h).1.kept = s.kept := by
  unfold State.forward
  dsimp only
  (repeat' split) <;> simp
@[simp] theorem State.headerBad_keeps (n l : Nat) (x : Incoming) (hk : Keeps k s.kept) :
    Keeps k (s.headerBad n l x).kept := by
  unfold State.headerBad
  dsimp only
  (repeat' split) <;> simp [hk]
@[simp] theorem State.dropSlot_keeps (n l : Nat) (x : Incoming) (hk : Keeps k s.kept) :
    Keeps k (s.dropSlot n l x).kept := by
  simp [State.dropSlot, hk]
@[simp] theorem State.headerNews_kept (l : Nat) (x : Incoming) (h : Header) (delay : Int) :
    (s.headerNews l x h delay).kept = s.kept := by
  simp [State.headerNews]
@[simp] theorem State.takeHeader_kept (l r : Nat) (x : Incoming) (h : Header) :
    (s.takeHeader l r x h).1.kept = s.kept := by
  unfold State.takeHeader
  dsimp only
  (repeat' split) <;> simp

@[simp] theorem State.relayHeader_kept (x : Incoming) (h : Header) : (s.relayHeader x h).1.kept = s.kept := by
  unfold State.relayHeader
  split
  · simp
  · split
    · simp
    next hp => exact State.takePockets_kept s hp

@[simp] theorem State.headerAct_keeps (n l : Nat) (x : Incoming) (h : Header) (hk : Keeps k s.kept) :
    Keeps k (s.headerAct n l x h).kept := by
  unfold State.headerAct
  dsimp only
  (repeat' split) <;> simp [hk]
@[simp] theorem State.headerGood_keeps (n l : Nat) (x : Incoming) (h : Header) (delay : Int) (hk : Keeps k s.kept) :
    Keeps k (s.headerGood n l x h delay).kept := by
  simp [State.headerGood, hk]

@[simp] theorem execHeaderDecode_answers (l : Fin 22) (n : Nat) (w : Codeword) (delay : Int) (f : FifoFault)
    (ups : List Upset) :
    Answers s.kept (execHeaderDecode l n w delay f ups s) := by
  unfold execHeaderDecode
  dsimp only
  (repeat' split) <;> simp

@[simp] theorem execCodewordDecode_answers (l : Fin 22) (n i : Nat) (w : Codeword) (f : FifoFault) (ups : List Upset) :
    Answers s.kept (execCodewordDecode l n i w f ups s) := by
  unfold execCodewordDecode
  split <;> simp
@[simp] theorem execRelayCommit_answers (l : Fin 22) (n : Nat) : Answers s.kept (execRelayCommit l n s) := by
  unfold execRelayCommit
  dsimp only
  (repeat' split) <;> simp

/-! ### Gauge -/

@[simp] theorem State.setDom_kept (d : Dom) (x : Domain) : (s.setDom d x).kept = s.kept := by
  unfold State.setDom
  split <;> simp
@[simp] theorem State.setPort_kept (d : Dom) (x : TimePort) : (s.setPort d x).kept = s.kept := by
  unfold State.setPort
  split <;> simp
@[simp] theorem State.domMiss_kept (d : Dom) : (s.domMiss d).kept = s.kept := by simp [State.domMiss]
@[simp] theorem State.setPulse_kept (n : Nat) (x : Pulse) : (s.setPulse n x).kept = s.kept := by simp [State.setPulse]
@[simp] theorem State.tpoAfterStep_kept (n : Nat) : (s.tpoAfterStep n).kept = s.kept := by simp [State.tpoAfterStep]
@[simp] theorem State.tpoStepped_kept : s.tpoStepped.kept = s.kept := by simp [State.tpoStepped]
@[simp] theorem State.setCorr_kept (c : Int) : (s.setCorr c).kept = s.kept := by simp [State.setCorr]
@[simp] theorem State.stepTime_kept (d : Int) : (s.stepTime d).kept = s.kept := by simp [State.stepTime]
@[simp] theorem State.dcoTo_kept (d : Dom) : (s.dcoTo d).kept = s.kept := by simp [State.dcoTo]
@[simp] theorem State.enterSettle_kept (d : Dom) : (s.enterSettle d).kept = s.kept := by simp [State.enterSettle]
@[simp] theorem State.clearSum_kept : s.clearSum.kept = s.kept := by simp [State.clearSum]
@[simp] theorem State.enterLocked_kept : s.enterLocked.kept = s.kept := by simp [State.enterLocked]
@[simp] theorem State.enterSeamHeld_kept : s.enterSeamHeld.kept = s.kept := by simp [State.enterSeamHeld]
@[simp] theorem State.enterHoldover_kept (marked : Bool) (est : Nat) : (s.enterHoldover marked est).kept = s.kept := by
  simp [State.enterHoldover]
@[simp] theorem State.closeOpt_kept : s.closeOpt.kept = s.kept := by simp [State.closeOpt]
@[simp] theorem State.closeCu_kept : s.closeCu.kept = s.kept := by simp [State.closeCu]
@[simp] theorem State.enterReseat_kept : s.enterReseat.kept = s.kept := by simp [State.enterReseat]
@[simp] theorem State.lockOnto_kept (d : Dom) : (s.lockOnto d).kept = s.kept := by simp [State.lockOnto]
@[simp] theorem State.reassess_kept : s.reassess.kept = s.kept := by
  unfold State.reassess
  dsimp only
  (repeat' split) <;> simp
@[simp] theorem State.disqualify_kept (d : Dom) : (s.disqualify d).kept = s.kept := by simp [State.disqualify]
@[simp] theorem State.disagree_kept (eRef : Option Int) : (s.disagree eRef).kept = s.kept := by simp [State.disagree]
@[simp] theorem State.disciplineFrame_kept (f : Nat) : (s.disciplineFrame f).kept = s.kept := by
  unfold State.disciplineFrame
  dsimp only
  split <;> simp

@[simp] theorem State.discipline_kept : s.discipline.kept = s.kept := by
  unfold State.discipline
  split
  · split
    · split <;> simp
    · rfl
  · rfl

@[simp] theorem State.takeSteer_kept : s.takeSteer.kept = s.kept := by unfold State.takeSteer; split <;> simp
@[simp] theorem State.switchOrSlew_kept : s.switchOrSlew.kept = s.kept := by unfold State.switchOrSlew; split <;> simp
@[simp] theorem State.offsetBA_kept (f : Nat) : (s.offsetBA f).kept = s.kept := by unfold State.offsetBA; split <;> simp
@[simp] theorem State.reseatStep_kept : s.reseatStep.kept = s.kept := by
  unfold State.reseatStep
  split
  · split <;> simp
  · rfl
@[simp] theorem State.reseatExit_kept : s.reseatExit.kept = s.kept := by simp [State.reseatExit]
@[simp] theorem State.gates_kept : s.gates.kept = s.kept := by simp [State.gates]
@[simp] theorem State.countValid_kept : s.countValid.kept = s.kept := by simp [State.countValid]
@[simp] theorem State.gaugeFrame_kept (f : Nat) : (s.gaugeFrame f).kept = s.kept := by simp [State.gaugeFrame]
@[simp] theorem execSlotGateRise_answers (copper : Bool) : Answers s.kept (execSlotGateRise copper s) := by
  simp [execSlotGateRise]
@[simp] theorem State.captureEdge_kept (d : Dom) (t : Nat) : (s.captureEdge d t).kept = s.kept := by
  simp [State.captureEdge]
@[simp] theorem State.settleStep_kept (d : Dom) (t : Nat) : (s.settleStep d t).kept = s.kept := by
  unfold State.settleStep
  extract_lets f target s1 s2
  have h2 : s2.kept = s.kept := by simp [s2, s1]
  simp [h2]
@[simp] theorem execRefplsEdge_answers (d : Dom) (t : Nat) : Answers s.kept (execRefplsEdge d t s) := by
  simp [execRefplsEdge]
@[simp] theorem execPulseWindowClose_answers (d : Dom) (frame : Nat) :
    Answers s.kept (execPulseWindowClose d frame s) := by
  simp [execPulseWindowClose]
@[simp] theorem execDomainQualify_answers (d : Dom) (ppm : Bool) : Answers s.kept (execDomainQualify d ppm s) := by
  simp [execDomainQualify]
@[simp] theorem execDomainDisqualify_answers (d : Dom) (ppm : Bool) :
    Answers s.kept (execDomainDisqualify d ppm s) := by
  simp [execDomainDisqualify]
@[simp] theorem execGearComplete_answers : Answers s.kept (execGearComplete s) := by simp [execGearComplete]
@[simp] theorem execDisagreement_answers : Answers s.kept (execDisagreement s) := by simp [execDisagreement]
@[simp] theorem execRevert_answers : Answers s.kept (execRevert s) := by simp [execRevert]
@[simp] theorem execRefclkGap_answers (d : Dom) (t : Nat) : Answers s.kept (execRefclkGap d t s) := by
  simp [execRefclkGap]
@[simp] theorem execDcoLock_answers (d : Dom) (t : Nat) : Answers s.kept (execDcoLock d t s) := by simp [execDcoLock]
@[simp] theorem execSettleEntry_answers (t : Nat) : Answers s.kept (execSettleEntry t s) := by
  unfold execSettleEntry
  dsimp only
  (repeat' split) <;> simp
@[simp] theorem State.gaugeRefuse_kept : s.gaugeRefuse.kept = s.kept := by simp [State.gaugeRefuse]
@[simp] theorem State.cmdReseat_kept : s.cmdReseat.kept = s.kept := by simp [State.cmdReseat]
@[simp] theorem State.cmdTo_kept (d : Dom) : (s.cmdTo d).kept = s.kept := by simp [State.cmdTo]
@[simp] theorem execReseat_answers : Answers s.kept (execReseat s) := by simp [execReseat]
@[simp] theorem execToA_answers : Answers s.kept (execToA s) := by simp [execToA]
@[simp] theorem execToB_answers : Answers s.kept (execToB s) := by simp [execToB]
@[simp] theorem State.writeLoopHold_kept (hold : Bool) : (s.writeLoopHold hold).kept = s.kept := by
  simp [State.writeLoopHold]
@[simp] theorem State.writeGaugeCoef_kept (trk : Bool) (v : Nat) : (s.writeGaugeCoef trk v).kept = s.kept := by
  simp [State.writeGaugeCoef]

/-! ### Jig -/

@[simp] theorem execConversionStart_answers (c j : Nat) : Answers s.kept (execConversionStart c j s) := by
  simp [execConversionStart]
@[simp] theorem State.monitorResult_kept (d : Nat) (r : ChannelResult) : (s.monitorResult d r).kept = s.kept := by
  simp [State.monitorResult]
@[simp] theorem execConversionResult_answers (die : Fin 2) (rs : List ChannelResult) :
    Answers s.kept (execConversionResult die rs s) := by
  simp [execConversionResult]
@[simp] theorem State.trackFilter_kept (src volt : Nat) : (s.trackFilter src volt).kept = s.kept := by
  simp [State.trackFilter]
@[simp] theorem State.commonMode_kept (e : Nat) : (s.commonMode e).kept = s.kept := by simp [State.commonMode]
@[simp] theorem State.ringError_kept (l n : Nat) : (s.ringError l n).2.kept = s.kept := by
  unfold State.ringError
  dsimp only
  split <;> simp
@[simp] theorem State.setError_kept (l : Nat) (e : Int) : (s.setError l e).kept = s.kept := by simp [State.setError]
@[simp] theorem State.loopLaw_kept (l k : Nat) : (s.loopLaw l k).kept = s.kept := by simp [State.loopLaw]
@[simp] theorem State.judgeCapture_kept (l : Nat) : (s.judgeCapture l).kept = s.kept := by simp [State.judgeCapture]
@[simp] theorem State.judgeLocked_kept (l : Nat) : (s.judgeLocked l).kept = s.kept := by simp [State.judgeLocked]
@[simp] theorem State.sweepStep_kept (l k charge : Nat) : (s.sweepStep l k charge).kept = s.kept := by
  simp [State.sweepStep]
@[simp] theorem State.loopStep_kept (ms : List LoopMeas) (l : Nat) : (s.loopStep ms l).kept = s.kept := by
  unfold State.loopStep
  dsimp only
  (repeat' split) <;> simp
@[simp] theorem State.cmatCommit_kept (e : Nat) : (s.cmatCommit e).kept = s.kept := by simp [State.cmatCommit]
@[simp] theorem State.cmatCopy_kept (e : Nat) : (s.cmatCopy e).kept = s.kept := by simp [State.cmatCopy]
@[simp] theorem State.takeCommits_kept : s.takeCommits.kept = s.kept := by simp [State.takeCommits]
@[simp] theorem State.output_kept (cells : List (Nat × Nat × Int)) (l : Nat) : (s.output cells l).kept = s.kept := by
  simp [State.output]
@[simp] theorem execJigCompute_answers (c : Nat) (ms : List LoopMeas) (voltA voltB : BitVec 16) :
    Answers s.kept (execJigCompute c ms voltA voltB s) := by
  simp [execJigCompute]
@[simp] theorem State.applyCode_kept (l : Nat) : (s.applyCode l).kept = s.kept := by simp [State.applyCode]
@[simp] theorem State.unpark_kept (l : Nat) : (s.unpark l).kept = s.kept := by unfold State.unpark; split <;> simp
@[simp] theorem State.fireLoop_kept (l : Nat) : (s.fireLoop l).kept = s.kept := by
  unfold State.fireLoop
  dsimp only
  (repeat' split) <;> simp
@[simp] theorem State.calHold_kept (k : Nat) : (s.calHold k).kept = s.kept := by
  unfold State.calHold
  dsimp only
  (repeat' split) <;> simp
@[simp] theorem execJigCycleBoundary_answers (k : Nat) : Answers s.kept (execJigCycleBoundary k s) := by
  simp [execJigCycleBoundary]
@[simp] theorem State.ringEvent_kept (l : Nat) (d : Due) : (s.ringEvent l d).kept = s.kept := by
  unfold State.ringEvent
  split <;> simp
@[simp] theorem execRingJumpDone_answers (l : Fin 176) : Answers s.kept (execRingJumpDone l s) := by
  simp [execRingJumpDone]
@[simp] theorem execRingLock_answers (l : Fin 176) : Answers s.kept (execRingLock l s) := by simp [execRingLock]
@[simp] theorem execRingCaptureLimit_answers (l : Fin 176) : Answers s.kept (execRingCaptureLimit l s) := by
  simp [execRingCaptureLimit]
@[simp] theorem execRingUnlock_answers (l : Fin 176) : Answers s.kept (execRingUnlock l s) := by simp [execRingUnlock]
@[simp] theorem execRingWindowFail_answers (l : Fin 176) : Answers s.kept (execRingWindowFail l s) := by
  simp [execRingWindowFail]
@[simp] theorem execRingClampFault_answers (l : Fin 176) : Answers s.kept (execRingClampFault l s) := by
  simp [execRingClampFault]
@[simp] theorem State.channelFault_kept (monitor : Bool) (l : Nat) : (s.channelFault monitor l).kept = s.kept := by
  unfold State.channelFault
  dsimp only
  split <;> simp
@[simp] theorem execHeaterCompliance_answers (l : Fin 176) : Answers s.kept (execHeaterCompliance l s) := by
  simp [execHeaterCompliance]
@[simp] theorem execMonitorChannelFault_answers (l : Fin 176) : Answers s.kept (execMonitorChannelFault l s) := by
  simp [execMonitorChannelFault]
@[simp] theorem execTakeoverRelease_answers (p : Fin 16) : Answers s.kept (execTakeoverRelease p s) := by
  unfold execTakeoverRelease
  dsimp only
  split <;> simp
@[simp] theorem execMislockCountReset_answers (l : Fin 176) (t : Nat) :
    Answers s.kept (execMislockCountReset l t s) := by
  simp [execMislockCountReset]
@[simp] theorem State.ringCommand_kept (b : Bank) (c : RingCmd) : (s.ringCommand b c).kept = s.kept := by
  simp [State.ringCommand]
@[simp] theorem execLCmdHold_answers (b : Bank) : Answers s.kept (execLCmdHold b s) := by simp [execLCmdHold]
@[simp] theorem execLCmdRelease_answers (b : Bank) : Answers s.kept (execLCmdRelease b s) := by simp [execLCmdRelease]
@[simp] theorem execLCmdJump_answers (b : Bank) : Answers s.kept (execLCmdJump b s) := by simp [execLCmdJump]
@[simp] theorem execLCmdSweep_answers (b : Bank) : Answers s.kept (execLCmdSweep b s) := by simp [execLCmdSweep]
@[simp] theorem execLCmdReset_answers (b : Bank) : Answers s.kept (execLCmdReset b s) := by simp [execLCmdReset]
@[simp] theorem State.writeCoef_kept (l : Nat) (dith : Bool) (v : Nat) : (s.writeCoef l dith v).kept = s.kept := by
  simp [State.writeCoef]
@[simp] theorem State.cmatCommitCmd_kept (m : Nat) : (s.cmatCommitCmd m).kept = s.kept := by simp [State.cmatCommitCmd]
@[simp] theorem execCmatCommit_answers (engines : BitVec 4) : Answers s.kept (execCmatCommit engines s) := by
  simp [execCmatCommit]
@[simp] theorem State.cmatCopyCmd_kept (m : Nat) : (s.cmatCopyCmd m).kept = s.kept := by simp [State.cmatCopyCmd]
@[simp] theorem execCmatCopy_answers (engines : BitVec 4) : Answers s.kept (execCmatCopy engines s) := by
  simp [execCmatCopy]

/-! ### Ports -/

@[simp] theorem State.storeWard_kept (p : Nat) (hi : Bool) (v : Nat) : (s.storeWard p hi v).kept = s.kept := by
  simp [State.storeWard]
@[simp] theorem State.writeWard_kept (p : Nat) (hi : Bool) (v : Nat) : (s.writeWard p hi v).kept = s.kept := by
  simp [State.writeWard]
@[simp] theorem State.writeSpare_kept (p v : Nat) : (s.writeSpare p v).kept = s.kept := by simp [State.writeSpare]
@[simp] theorem State.writeProbe_kept (e v : Nat) : (s.writeProbe e v).kept = s.kept := by simp [State.writeProbe]
@[simp] theorem State.anyQueue_kept : s.anyQueue.2.kept = s.kept := by simp [State.anyQueue]
@[simp] theorem State.sendProbe_kept (n : Nat) (x : Probe) : (s.sendProbe n x).2.kept = s.kept := by
  simp [State.sendProbe]
@[simp] theorem execProbeSend_answers (p : Fin 16) (n : Nat) : Answers s.kept (execProbeSend p n s) := by
  unfold execProbeSend
  split <;> simp
@[simp] theorem execVerifyProbeSend_answers (p : Fin 16) (n : Nat) : Answers s.kept (execVerifyProbeSend p n s) := by
  unfold execVerifyProbeSend
  split <;> simp
@[simp] theorem State.noteLoop_kept (x : Probe) (result : Nat) : (s.noteLoop x result).kept = s.kept := by
  simp [State.noteLoop]
@[simp] theorem State.ringOutcome_kept (x : Probe) (result : Nat) : (s.ringOutcome x result).kept = s.kept := by
  simp [State.ringOutcome]
@[simp] theorem State.probeDone_kept (e : Nat) (x : Probe) (result : Nat) (reply : Option Site) :
    (s.probeDone e x result reply).kept = s.kept := by
  unfold State.probeDone
  split <;> simp
@[simp] theorem State.verifyDone_kept (p : Nat) (x : Probe) (result : Nat) :
    (s.verifyDone p x result).kept = s.kept := by
  simp [State.verifyDone]
@[simp] theorem State.framedQuiet_kept (p j phase gain : Nat) : (s.framedQuiet p j phase gain).kept = s.kept := by
  simp [State.framedQuiet]
@[simp] theorem execProbeRx_answers (p : Fin 16) (n : Nat) (phase : BitVec 6) (gain : BitVec 4) (w : Codeword) :
    Answers s.kept (execProbeRx p n phase gain w s) := by
  unfold execProbeRx
  dsimp only
  (repeat' split) <;> simp
@[simp] theorem execProbeReplyRx_answers (p : Fin 16) (n : Nat) (w : Codeword) :
    Answers s.kept (execProbeReplyRx p n w s) := by
  unfold execProbeReplyRx
  dsimp only
  (repeat' split) <;> simp
@[simp] theorem execProbeNoReply_answers (p : Fin 16) (n : Nat) : Answers s.kept (execProbeNoReply p n s) := by
  unfold execProbeNoReply
  dsimp only
  (repeat' split) <;> simp
@[simp] theorem execProbeNotSent_answers (e : Fin 4) (t : Nat) : Answers s.kept (execProbeNotSent e t s) := by
  unfold execProbeNotSent
  split <;> simp
@[simp] theorem execVerifyTimeout_answers (l : Fin 176) (t : Nat) : Answers s.kept (execVerifyTimeout l t s) := by
  simp [execVerifyTimeout]

/-! ### Recable -/

@[simp] theorem State.writeStage_kept (p : Nat) (hi : Bool) (v : Nat) : (s.writeStage p hi v).kept = s.kept := by
  simp [State.writeStage]
@[simp] theorem State.rcbArm_kept : s.rcbArm.kept = s.kept := by simp [State.rcbArm]
@[simp] theorem execRcbArm_answers : Answers s.kept (execRcbArm s) := by simp [execRcbArm]
@[simp] theorem State.rcbCancel_kept : s.rcbCancel.kept = s.kept := by simp [State.rcbCancel]
@[simp] theorem execRcbCancel_answers : Answers s.kept (execRcbCancel s) := by simp [execRcbCancel]
@[simp] theorem State.dropTakeover_kept (p : Nat) : (s.dropTakeover p).kept = s.kept := by simp [State.dropTakeover]
@[simp] theorem State.dropRepl_kept (p : Nat) : (s.dropRepl p).kept = s.kept := by simp [State.dropRepl]
@[simp] theorem State.recablePort_kept (p : Nat) : (s.recablePort p).kept = s.kept := by simp [State.recablePort]
@[simp] theorem execRecableStart_answers : Answers s.kept (execRecableStart s) := by simp [execRecableStart]
@[simp] theorem execRecablePhase_answers : Answers s.kept (execRecablePhase s) := by simp [execRecablePhase]
@[simp] theorem State.learnSend_kept (n k p : Nat) : (s.learnSend n k p).kept = s.kept := by
  unfold State.learnSend
  split <;> simp
@[simp] theorem execLearningSlot_answers (n : Nat) (found : List (Nat × Nat × Nat)) :
    Answers s.kept (execLearningSlot n found s) := by
  simp [execLearningSlot]
@[simp] theorem State.setLaser_kept (i : Nat) (x : Laser) : (s.setLaser i x).kept = s.kept := by simp [State.setLaser]
@[simp] theorem State.laserEvent_kept (i : Nat) (f : Field) (told : Bool) : (s.laserEvent i f told).kept = s.kept := by
  simp [State.laserEvent]
@[simp] theorem State.measFail_kept (i : Nat) : (s.measFail i).kept = s.kept := by simp [State.measFail]
@[simp] theorem State.measDone_kept (i : Nat) : (s.measDone i).kept = s.kept := by
  unfold State.measDone
  dsimp only
  split <;> simp

@[simp] theorem State.measNext_kept (i : Nat) (l : List Nat) : (s.measNext i l).kept = s.kept := by
  induction l with
  | nil => simp [State.measNext]
  | cons p l ih =>
    unfold State.measNext
    split
    · simp
    · split <;> simp [ih]

@[simp] theorem execRecableEnd_answers : Answers s.kept (execRecableEnd s) := by
  unfold execRecableEnd
  dsimp only
  (repeat' split) <;> simp
@[simp] theorem State.ringLost_kept (p n : Nat) : (s.ringLost p n).kept = s.kept := by simp [State.ringLost]
@[simp] theorem State.useSpare_kept (p n : Nat) : (s.useSpare p n).kept = s.kept := by simp [State.useSpare]
@[simp] theorem execRingReplace_answers (p : Fin 16) (n : Fin 8) : Answers s.kept (execRingReplace p n s) := by
  simp [execRingReplace]
@[simp] theorem execChannelFaultSpare_answers (monitor : Bool) (l : Fin 176) :
    Answers s.kept (execChannelFaultSpare monitor l s) := by
  unfold execChannelFaultSpare
  dsimp only
  (repeat' split) <;> simp
@[simp] theorem State.portsOff_kept (which : Nat → Bool) : (s.portsOff which).kept = s.kept := by simp [State.portsOff]
@[simp] theorem execPortFailed_answers (p : Fin 16) : Answers s.kept (execPortFailed p s) := by simp [execPortFailed]

/-! ### Laser -/

@[simp] theorem State.portPower_kept (x : PortPower) : (s.portPower x).kept = s.kept := by simp [State.portPower]
@[simp] theorem State.newTaps_kept (i : Nat) : (s.newTaps i).kept = s.kept := by simp [State.newTaps]
@[simp] theorem State.laserFrame_kept (i : Nat) : (s.laserFrame i).kept = s.kept := by
  unfold State.laserFrame
  dsimp only
  split <;> simp
@[simp] theorem State.spareIn_kept (i : Nat) : (s.spareIn i).kept = s.kept := by simp [State.spareIn]
@[simp] theorem State.measStop_kept (i : Nat) : (s.measStop i).kept = s.kept := by
  unfold State.measStop
  dsimp only
  split <;> simp
@[simp] theorem State.enterLost_kept (i : Nat) : (s.enterLost i).kept = s.kept := by simp [State.enterLost]
@[simp] theorem State.enterLevel_kept (i level : Nat) : (s.enterLevel i level).kept = s.kept := by
  simp [State.enterLevel]
@[simp] theorem execLaserLevelUp_answers (i : Fin 2) : Answers s.kept (execLaserLevelUp i s) := by
  simp [execLaserLevelUp]
@[simp] theorem execLaserLevelDown_answers (i : Fin 2) : Answers s.kept (execLaserLevelDown i s) := by
  simp [execLaserLevelDown]
@[simp] theorem execSpareReady_answers (i : Fin 2) (ready fault : Bool) :
    Answers s.kept (execSpareReady i ready fault s) := by
  simp [execSpareReady]
@[simp] theorem execSpareWarmTimeout_answers (i : Fin 2) (warm : BitVec 8) :
    Answers s.kept (execSpareWarmTimeout i warm s) := by
  simp [execSpareWarmTimeout]
@[simp] theorem execSpareMeasurePort_answers (i : Fin 2) (offset : Int) :
    Answers s.kept (execSpareMeasurePort i offset s) := by
  unfold execSpareMeasurePort
  dsimp only
  split <;> simp
@[simp] theorem execSpareInRetry_answers (i : Fin 2) : Answers s.kept (execSpareInRetry i s) := by
  unfold execSpareInRetry
  split <;> simp
@[simp] theorem State.flip_kept (i : Nat) : (s.flip i).kept = s.kept := by simp [State.flip]
@[simp] theorem execLaserFlip_answers (i : Fin 2) (n : Nat) : Answers s.kept (execLaserFlip i n s) := by
  simp [execLaserFlip]
@[simp] theorem State.setTrack_kept (i : Nat) (f : Int) : (s.setTrack i f).kept = s.kept := by simp [State.setTrack]
@[simp] theorem execFlipTrackStep_answers (i : Fin 2) : Answers s.kept (execFlipTrackStep i s) := by
  unfold execFlipTrackStep
  dsimp only
  split <;> simp
@[simp] theorem execLostTrackRestart_answers (i : Fin 2) (volt : BitVec 16) :
    Answers s.kept (execLostTrackRestart i volt s) := by
  unfold execLostTrackRestart
  dsimp only
  split <;> simp
@[simp] theorem State.lsrForce_kept (i : Nat) : (s.lsrForce i).kept = s.kept := by simp [State.lsrForce]
@[simp] theorem execLsrForce_answers (i : Fin 2) : Answers s.kept (execLsrForce i s) := by simp [execLsrForce]
@[simp] theorem State.lsrAbort_kept (i : Nat) : (s.lsrAbort i).kept = s.kept := by simp [State.lsrAbort]
@[simp] theorem execLsrAbort_answers (i : Fin 2) : Answers s.kept (execLsrAbort i s) := by simp [execLsrAbort]
@[simp] theorem State.stopFabric_kept : s.stopFabric.kept = s.kept := by simp [State.stopFabric]
@[simp] theorem State.copperLost_kept (k : Nat) : (s.copperLost k).kept = s.kept := by
  unfold State.copperLost
  dsimp only
  split <;> simp
@[simp] theorem State.senderLost_kept (p j : Nat) : (s.senderLost p j).kept = s.kept := by simp [State.senderLost]
@[simp] theorem execNeighbourLost_answers (l : Fin 22) (j : Fin 32) : Answers s.kept (execNeighbourLost l j s) := by
  simp [execNeighbourLost]

/-! ### Copper -/

@[simp] theorem State.calAbortCu_kept (reason : Nat) : (s.calAbortCu reason).kept = s.kept := by
  unfold State.calAbortCu
  split <;> simp
@[simp] theorem State.cuEnter_kept (k st : Nat) : (s.cuEnter k st).kept = s.kept := by simp [State.cuEnter]
@[simp] theorem State.cuQuarantine_kept (k reason : Nat) : (s.cuQuarantine k reason).kept = s.kept := by
  simp [State.cuQuarantine]
@[simp] theorem execCuDownDelay_answers (k : Fin 6) : Answers s.kept (execCuDownDelay k s) := by simp [execCuDownDelay]
@[simp] theorem execCuSignalDetect_answers (k : Fin 6) (lanes : BitVec 9) :
    Answers s.kept (execCuSignalDetect k lanes s) := by
  simp [execCuSignalDetect]
@[simp] theorem execCuDetectTimeout_answers (k : Fin 6) : Answers s.kept (execCuDetectTimeout k s) := by
  simp [execCuDetectTimeout]
@[simp] theorem execCuTrainAdapted_answers (k : Fin 6) (lanes : BitVec 9) :
    Answers s.kept (execCuTrainAdapted k lanes s) := by
  simp [execCuTrainAdapted]
@[simp] theorem execCuTrainTimeout_answers (k : Fin 6) : Answers s.kept (execCuTrainTimeout k s) := by
  unfold execCuTrainTimeout
  dsimp only
  (repeat' split) <;> simp
@[simp] theorem State.showPeer_kept (k : Nat) (b : IdBlock) : (s.showPeer k b).kept = s.kept := by simp [State.showPeer]
@[simp] theorem State.remap_kept (k perm : Nat) (ls : List LaneId) : (s.remap k perm ls).kept = s.kept := by
  simp [State.remap]
@[simp] theorem execCuIdentRx_answers (k : Fin 6) (b : IdBlock) (ls : List LaneId) :
    Answers s.kept (execCuIdentRx k b ls s) := by
  simp [execCuIdentRx]
@[simp] theorem execCuIdentTimeout_answers (k : Fin 6) : Answers s.kept (execCuIdentTimeout k s) := by
  simp [execCuIdentTimeout]
@[simp] theorem execCuAlignDone_answers (k : Fin 6) (lock : BitVec 9) : Answers s.kept (execCuAlignDone k lock s) := by
  simp [execCuAlignDone]
@[simp] theorem execCuAlignTimeout_answers (k : Fin 6) : Answers s.kept (execCuAlignTimeout k s) := by
  simp [execCuAlignTimeout]
@[simp] theorem execCuFramingLoss_answers (k : Fin 6) : Answers s.kept (execCuFramingLoss k s) := by
  simp [execCuFramingLoss]

@[simp] theorem execCuQuarantineExit_answers (k : Fin 6) (b : Option IdBlock) :
    Answers s.kept (execCuQuarantineExit k b s) := by
  unfold execCuQuarantineExit
  split
  · simp
  · split <;> simp

@[simp] theorem State.hovStart_kept (k : Nat) (h : Handover) : (s.hovStart k h).kept = s.kept := by
  simp [State.hovStart]
@[simp] theorem State.cuSpare_kept (k lane : Nat) (perm : Bool) : (s.cuSpare k lane perm).kept = s.kept := by
  simp [State.cuSpare]
@[simp] theorem State.cuBack_kept (k lane : Nat) : (s.cuBack k lane).kept = s.kept := by simp [State.cuBack]
@[simp] theorem execHandoverPeerCopy_answers (k : Fin 6) (lane : Fin 8) (back : Bool) :
    Answers s.kept (execHandoverPeerCopy k lane back s) := by
  unfold execHandoverPeerCopy
  dsimp only
  (repeat' split) <;> simp
@[simp] theorem State.rxSwitch_kept (k : Nat) (h : Handover) : (s.rxSwitch k h).kept = s.kept := by
  unfold State.rxSwitch
  dsimp only
  (repeat' split) <;> simp
@[simp] theorem execHandoverRxSwitch_answers (k : Fin 6) : Answers s.kept (execHandoverRxSwitch k s) := by
  unfold execHandoverRxSwitch
  split <;> simp
@[simp] theorem execHandoverComplete_answers (k : Fin 6) : Answers s.kept (execHandoverComplete k s) := by
  unfold execHandoverComplete
  split <;> simp
@[simp] theorem execLaneLockLoss_answers (k : Fin 6) (lane : Fin 8) : Answers s.kept (execLaneLockLoss k lane s) := by
  unfold execLaneLockLoss
  dsimp only
  (repeat' split) <;> simp

@[simp] theorem execLaneWorn_answers (k : Fin 6) (lane : Fin 8) : Answers s.kept (execLaneWorn k lane s) := by
  unfold execLaneWorn
  extract_lets i x take
  have ht : ∀ t, take = some t → t.kept = s.kept := by
    intro t h
    unfold take at h
    (repeat' split at h) <;> cases h <;> simp
  clear_value take
  split
  · simp
  · split
    · simp
    · cases take with
      | none => simp
      | some t => simp [ht t rfl]

@[simp] theorem State.goDark_kept : s.goDark.kept = s.kept := by simp [State.goDark]
@[simp] theorem execFabricStop_answers (t : Nat) : Answers s.kept (execFabricStop t s) := by
  unfold execFabricStop
  split <;> simp

/-! ### Service -/

@[simp] theorem State.setMove_kept (id : Nat) (x : Move) : (s.setMove id x).kept = s.kept := by simp [State.setMove]
@[simp] theorem State.dropMove_kept (id : Nat) : (s.dropMove id).kept = s.kept := by simp [State.dropMove]
@[simp] theorem State.moveNext_kept (id : Nat) : (s.moveNext id).kept = s.kept := by
  unfold State.moveNext
  split <;> simp
@[simp] theorem State.moveBegin_kept (id : Nat) (x : Move) : (s.moveBegin id x).kept = s.kept := by
  simp [State.moveBegin]
@[simp] theorem State.moveStep_kept (id : Nat) (l : List Byte) (ok : Bool) : (s.moveStep id l ok).kept = s.kept := by
  unfold State.moveStep
  split <;> simp

@[simp] theorem State.moveEnd_keeps (id : Nat) (ups : List Upset) (hk : Keeps k s.kept) :
    Keeps k (s.moveEnd id ups).1.kept := by
  unfold State.moveEnd
  dsimp only
  (repeat' split) <;> simp [hk]

/-- The state that a move's end leaves, where the end is known. -/
theorem State.keeps_of_moveEnd {t : State} {id : Nat} {ups : List Upset} {r : MoveEnd} (h : s.moveEnd id ups = (t, r))
    (hk : Keeps k s.kept) : Keeps k t.kept := by
  have ht := State.moveEnd_keeps s id ups hk
  rwa [h] at ht

/-! ### Calib -/

@[simp] theorem State.setCal_kept (c : Calib) : (s.setCal c).kept = s.kept := by simp [State.setCal]
@[simp] theorem State.setRun_kept (cu : Bool) (x : Option CalRun) : (s.setRun cu x).kept = s.kept := by
  simp [State.setRun]
@[simp] theorem execCalTempTrigger_answers (copper : Bool) (u : Fin 6) (temp : Int) :
    Answers s.kept (execCalTempTrigger copper u temp s) := by
  simp [execCalTempTrigger]
@[simp] theorem execCalIntervalTrigger_answers (kind : BitVec 4) (unit : BitVec 12) (t : Nat) :
    Answers s.kept (execCalIntervalTrigger kind unit t s) := by
  simp [execCalIntervalTrigger]
@[simp] theorem State.calCommand_kept (k u : Nat) : (s.calCommand k u).kept = s.kept := by simp [State.calCommand]
@[simp] theorem State.partBegin_kept (cu : Bool) (x : CalRun) : (s.partBegin cu x).kept = s.kept := by
  unfold State.partBegin
  dsimp only
  (repeat' split) <;> simp
@[simp] theorem State.unitSkipped_kept (u : CalUnit) : (s.unitSkipped u).kept = s.kept := by simp [State.unitSkipped]
@[simp] theorem execCalUnitStart_answers (cu : Bool) : Answers s.kept (execCalUnitStart cu s) := by
  unfold execCalUnitStart
  dsimp only
  (repeat' split) <;> simp
@[simp] theorem State.putColumn_kept (l : Nat) (col : List (Nat × Int)) : (s.putColumn l col).kept = s.kept := by
  simp [State.putColumn]
@[simp] theorem State.applyRing_kept (l : Nat) (v : RingVals) : (s.applyRing l v).kept = s.kept := by
  simp [State.applyRing]
@[simp] theorem State.releaseAfter_kept (l : Nat) : (s.releaseAfter l).kept = s.kept := by
  unfold State.releaseAfter
  split <;> simp
@[simp] theorem State.jumpBack_kept (l : Nat) (c : RingCmd) : (s.jumpBack l c).kept = s.kept := by simp [State.jumpBack]
@[simp] theorem State.quality_kept (i : Nat) (a b c d : Int) : (s.quality i a b c d).kept = s.kept := by
  simp [State.quality]
@[simp] theorem State.runAccepted_kept (u : CalUnit) (vals : List Int) : (s.runAccepted u vals).kept = s.kept := by
  simp [State.runAccepted]
@[simp] theorem State.markRing_kept (l : Nat) : (s.markRing l).kept = s.kept := by unfold State.markRing; split <;> simp
@[simp] theorem State.runRejected_kept (u : CalUnit) (reason : Nat) : (s.runRejected u reason).kept = s.kept := by
  simp [State.runRejected]
@[simp] theorem State.compositeEnd_kept (x : CalRun) : (s.compositeEnd x).kept = s.kept := by simp [State.compositeEnd]
@[simp] theorem State.partEnd_kept (cu : Bool) (x : CalRun) (reason : Nat) : (s.partEnd cu x reason).kept = s.kept := by
  simp [State.partEnd]
@[simp] theorem State.ringDone_kept (x : CalRun) (l : Nat) (v : RingVals) : (s.ringDone x l v).kept = s.kept := by
  simp [State.ringDone]
@[simp] theorem State.change_kept (old : Option Int) (v : Int) : (s.change old v).2.kept = s.kept := by
  unfold State.change
  split <;> simp
@[simp] theorem State.laneDone_kept (x : CalRun) (k n w : Nat) (h : Nat) (tx rx : Int) (trims : List Int) :
    (s.laneDone x k n w h tx rx trims).kept = s.kept := by
  simp [State.laneDone]
@[simp] theorem State.setRefs_kept (p : Nat) : (s.setRefs p).kept = s.kept := by simp [State.setRefs]
@[simp] theorem State.linkDone_kept (cu : Bool) (x : CalRun) (tx rx : Int) (rms : Nat) (ft asym : Int) (pairs : Nat) :
    (s.linkDone cu x tx rx rms ft asym pairs).kept = s.kept := by
  simp [State.linkDone]
@[simp] theorem State.refFrame_kept (f : Nat) : (s.refFrame f).kept = s.kept := by
  unfold State.refFrame
  dsimp only
  (repeat' split) <;> simp

@[simp] theorem State.refDone_kept (x : CalRun) : (s.refDone x).kept = s.kept := by
  unfold State.refDone
  split
  · rfl
  · split
    · simp
    · extract_lets u half tenth s1 v
      have h1 : s1.kept = s.kept := by simp [s1]
      simp [h1]

@[simp] theorem execCalRunComplete_answers (cu : Bool) (r : CalResult) :
    Answers s.kept (execCalRunComplete cu r s) := by
  unfold execCalRunComplete
  dsimp only
  (repeat' split) <;> simp
@[simp] theorem execCalLockTimeout_answers : Answers s.kept (execCalLockTimeout s) := by
  unfold execCalLockTimeout
  dsimp only
  (repeat' split) <;> simp
@[simp] theorem State.calAbort_kept : s.calAbort.kept = s.kept := by
  unfold State.calAbort
  dsimp only
  (repeat' split) <;> simp
@[simp] theorem State.calSave_kept : s.calSave.kept = s.kept := by simp [State.calSave]
@[simp] theorem execCalAutoSave_answers (t : Nat) : Answers s.kept (execCalAutoSave t s) := by simp [execCalAutoSave]
@[simp] theorem State.saveDone_kept (x : CalImage) : (s.saveDone x).kept = s.kept := by simp [State.saveDone]

@[simp] theorem execCalSaveComplete_answers (good : Bool) : Answers s.kept (execCalSaveComplete good s) := by
  unfold execCalSaveComplete
  split
  · simp
  · split
    · split
      next h => exact State.keeps_of_moveEnd s h (Keeps.refl _)
      next h => simp [State.keeps_of_moveEnd s h (Keeps.refl _)]
      next h => simp [State.keeps_of_moveEnd s h (Keeps.refl _)]
    · simp

@[simp] theorem State.applyRecord_kept (i : Nat) (vals : List Int) : (s.applyRecord i vals).kept = s.kept := by
  simp [State.applyRecord]
@[simp] theorem State.applyImage_kept (x : CalImage) : (s.applyImage x).kept = s.kept := by simp [State.applyImage]
@[simp] theorem State.restoreDone_kept (x : Option CalImage) : (s.restoreDone x).kept = s.kept := by
  unfold State.restoreDone
  split <;> simp

@[simp] theorem State.restoreNext_keeps (hk : Keeps k s.kept) : Keeps k s.restoreNext.kept := by
  unfold State.restoreNext
  split
  next h => exact State.keeps_of_moveEnd s h hk
  next h => simp [State.keeps_of_moveEnd s h hk]
  next t l h =>
    have ht := State.keeps_of_moveEnd s h hk
    extract_lets n u
    have hu : Keeps k u.kept := by simp [u, ht]
    clear_value u
    split
    · simp [ht]
    · split
      · simp [ht]
      · split
        · exact hu
        · split
          next h => exact State.keeps_of_moveEnd u h hu
          next h => simp [State.keeps_of_moveEnd u h hu]
          next h => simp [State.keeps_of_moveEnd u h hu]

@[simp] theorem State.calRestore_keeps (hk : Keeps k s.kept) : Keeps k s.calRestore.kept := by
  simp [State.calRestore, hk]
@[simp] theorem State.relockAll_kept : s.relockAll.kept = s.kept := by simp [State.relockAll]
@[simp] theorem execRestoreWaitExpiry_answers : Answers s.kept (execRestoreWaitExpiry s) := by
  unfold execRestoreWaitExpiry
  split <;> simp

/-! ### Urdal -/

@[simp] theorem execFlitRx_answers (bytes : List Byte) (decoded : Bool) :
    Answers s.kept (execFlitRx bytes decoded s) := by
  simp [execFlitRx]
@[simp] theorem State.setDir_kept (d : Tbl DirEntry) : (s.setDir d).kept = s.kept := by simp [State.setDir]
@[simp] theorem State.errMsg_kept (tag reason : Nat) : (s.errMsg tag reason).kept = s.kept := by simp [State.errMsg]
@[simp] theorem State.grantLine_keeps (g : Grant) (ups : List Upset) (hk : Keeps k s.kept) :
    Keeps k (s.grantLine g ups).kept := by
  unfold State.grantLine
  dsimp only
  split <;> simp [hk]
@[simp] theorem State.serveGrant_keeps (g : Grant) (ups : List Upset) (hk : Keeps k s.kept) :
    Keeps k (s.serveGrant g ups).kept := by
  unfold State.serveGrant
  (repeat' split) <;> simp +contextual [hk]
@[simp] theorem State.lineReq_keeps (tag line : Nat) (f : State → State) (hk : Keeps k s.kept)
    (h : ∀ t, Keeps k t.kept → Keeps k (f t).kept) : Keeps k (s.lineReq tag line f).kept := by
  unfold State.lineReq
  simp [hk, h]
@[simp] theorem State.readCached_keeps (tag line : Nat) (owned : Bool) (ups : List Upset) (hk : Keeps k s.kept) :
    Keeps k (s.readCached tag line owned ups).kept := by
  simp +contextual [State.readCached, hk]
@[simp] theorem execRdS_answers (tag : BitVec 12) (line : BitVec 42) (ups : List Upset) :
    Answers s.kept (execRdS tag line ups s) := by
  simp [execRdS]
@[simp] theorem execRdO_answers (tag : BitVec 12) (line : BitVec 42) (ups : List Upset) :
    Answers s.kept (execRdO tag line ups s) := by
  simp [execRdO]
@[simp] theorem State.readLine_keeps (tag line : Nat) (ups : List Upset) (hk : Keeps k s.kept) :
    Keeps k (s.readLine tag line ups).kept := by
  unfold State.readLine
  dsimp only
  split <;> simp [hk]
@[simp] theorem execRdNc_answers (tag : BitVec 12) (line : BitVec 42) (ups : List Upset) :
    Answers s.kept (execRdNc tag line ups s) := by
  simp +contextual [execRdNc]
@[simp] theorem State.calWatch_kept (line : Nat) : (s.calWatch line).kept = s.kept := by simp [State.calWatch]
@[simp] theorem State.crossed_kept (line : Nat) : (s.crossed line).kept = s.kept := by
  unfold State.crossed
  dsimp only
  split <;> simp
@[simp] theorem execEvict_answers (tag : BitVec 12) (line : BitVec 42) : Answers s.kept (execEvict tag line s) := by
  simp [execEvict]
@[simp] theorem execWb_answers (tag : BitVec 12) (line : BitVec 42) (data : List Byte) :
    Answers s.kept (execWb tag line data s) := by
  simp +contextual [execWb]
@[simp] theorem State.writeLine_keeps (tag line mask : Nat) (data : List Byte) (ups : List Upset)
    (hk : Keeps k s.kept) :
    Keeps k (s.writeLine tag line mask data ups).kept := by
  simp [State.writeLine, hk]
@[simp] theorem execWrNc_answers (tag : BitVec 12) (line : BitVec 42) (mask : BitVec 64) (data : List Byte)
    (ups : List Upset) :
    Answers s.kept (execWrNc tag line mask data ups s) := by
  simp +contextual [execWrNc]

@[simp] theorem State.runDeferred_keeps (hk : Keeps k s.kept) : Keeps k s.runDeferred.kept := by
  unfold State.runDeferred
  extract_lets l
  refine State.keeps_foldl _ _ (by simp [hk]) fun t d ht => ?_
  dsimp only
  split
  · simp [ht]
  · split <;> simp [ht]

@[simp] theorem State.snoopOver_keeps (line : Nat) (ups : List Upset) (hk : Keeps k s.kept) :
    Keeps k (s.snoopOver line ups).kept := by
  unfold State.snoopOver
  split
  · exact hk
  next x _ =>
    extract_lets u s1 s2
    have h1 : Keeps k s1.kept := by simp [s1, hk]
    have h2 : Keeps k s2.kept :=
      State.runDeferred_keeps _ (State.keeps_foldl _ _ h1 fun t g ht => State.serveGrant_keeps t g ups ht)
    split
    · split <;> simp [h2]
    · exact h2

@[simp] theorem State.snoopAnswer_keeps (tag : Nat) (data : Option (List Byte)) (shared : Bool) (ups : List Upset)
    (hk : Keeps k s.kept) :
    Keeps k (s.snoopAnswer tag data shared ups).kept := by
  unfold State.snoopAnswer
  dsimp only
  (repeat' split) <;> simp [hk]

@[simp] theorem execSnpI_answers (tag : BitVec 12) (ups : List Upset) : Answers s.kept (execSnpI tag ups s) := by
  simp [execSnpI]
@[simp] theorem execSnpS_answers (tag : BitVec 12) (ups : List Upset) : Answers s.kept (execSnpS tag ups s) := by
  simp [execSnpS]
@[simp] theorem execSnpDi_answers (tag : BitVec 12) (data : List Byte) (ups : List Upset) :
    Answers s.kept (execSnpDi tag data ups s) := by
  simp [execSnpDi]
@[simp] theorem execSnpDs_answers (tag : BitVec 12) (data : List Byte) (ups : List Upset) :
    Answers s.kept (execSnpDs tag data ups s) := by
  simp [execSnpDs]
@[simp] theorem execSnpTimeout_answers (line : BitVec 42) (ups : List Upset) (t : Nat) :
    Answers s.kept (execSnpTimeout line ups t s) := by
  unfold execSnpTimeout
  dsimp only
  (repeat' split) <;> simp
@[simp] theorem State.setWindow_kept (base size : Nat) : (s.setWindow base size).kept = s.kept := by
  simp [State.setWindow]
@[simp] theorem State.answered_keeps (r : PReq) (data : List Byte) (ok : Bool) (hk : Keeps k s.kept) :
    Keeps k (s.answered r data ok).kept := by
  unfold State.answered
  split <;> simp [hk]
@[simp] theorem State.tagFreed_kept : s.tagFreed.kept = s.kept := by unfold State.tagFreed; split <;> simp

@[simp] theorem State.answerTag_keeps (tag : Nat) (write : Option Bool) (data : List Byte) (ok : Bool)
    (hk : Keeps k s.kept) :
    Keeps k (s.answerTag tag write data ok).kept := by
  unfold State.answerTag
  dsimp only
  (repeat' split) <;> simp [hk]

@[simp] theorem execData_answers (tag : BitVec 12) (data : List Byte) : Answers s.kept (execData tag data s) := by
  simp [execData]
@[simp] theorem execAck_answers (tag : BitVec 12) : Answers s.kept (execAck tag s) := by simp [execAck]
@[simp] theorem execErr_answers (tag : BitVec 12) : Answers s.kept (execErr tag s) := by simp [execErr]
@[simp] theorem State.writeNotice_kept (c : Nat) : (s.writeNotice c).kept = s.kept := by simp [State.writeNotice]
@[simp] theorem execNoticeWrite_answers (c : Fin 64) : Answers s.kept (execNoticeWrite c s) := by simp [execNoticeWrite]
@[simp] theorem State.setUl_kept (st : Nat) : (s.setUl st).kept = s.kept := by simp [State.setUl]
@[simp] theorem State.loseLines_kept : s.loseLines.kept = s.kept := by
  unfold State.loseLines
  dsimp only
  split <;> simp

@[simp] theorem State.ulDrop_keeps (hk : Keeps k s.kept) : Keeps k s.ulDrop.kept := by
  unfold State.ulDrop
  extract_lets l u s1 s2
  have h1 : Keeps k s1.kept := by simp [s1, hk]
  have h2 : Keeps k s2.kept := State.keeps_foldl _ _ h1 fun t r ht => State.answered_keeps t r [] false ht
  simp [h2]

@[simp] theorem State.ulOff_keeps (hk : Keeps k s.kept) : Keeps k s.ulOff.kept := by simp [State.ulOff, hk]
@[simp] theorem execUlkSignalDetect_answers (t : Nat) : Answers s.kept (execUlkSignalDetect t s) := by
  simp [execUlkSignalDetect]
@[simp] theorem State.newEpoch_kept : s.newEpoch.kept = s.kept := by simp [State.newEpoch]
@[simp] theorem execUlkTrainDone_answers (lanes : BitVec 16) (x : UlParams) (t : Nat) :
    Answers s.kept (execUlkTrainDone lanes x t s) := by
  unfold execUlkTrainDone
  split <;> simp
@[simp] theorem execUlkTrainTimeout_answers (t : Nat) : Answers s.kept (execUlkTrainTimeout t s) := by
  unfold execUlkTrainTimeout
  dsimp only
  split <;> simp
@[simp] theorem execUlkRecoverEntry_answers (cause : UlCause) (t : Nat) :
    Answers s.kept (execUlkRecoverEntry cause t s) := by
  unfold execUlkRecoverEntry
  dsimp only
  split <;> simp
@[simp] theorem execUlkRecoverDone_answers (lanes : BitVec 16) (t : Nat) :
    Answers s.kept (execUlkRecoverDone lanes t s) := by
  unfold execUlkRecoverDone
  split <;> simp
@[simp] theorem execUlkFailed_answers (three : Bool) (t : Nat) : Answers s.kept (execUlkFailed three t s) := by
  unfold execUlkFailed
  dsimp only
  split <;> simp
@[simp] theorem execUlkFailedTimeout_answers (t : Nat) : Answers s.kept (execUlkFailedTimeout t s) := by
  unfold execUlkFailedTimeout
  dsimp only
  split <;> simp
@[simp] theorem State.ulRetrain_kept : s.ulRetrain.kept = s.kept := by simp [State.ulRetrain]
@[simp] theorem execUlkRetrain_answers : Answers s.kept (execUlkRetrain s) := by simp [execUlkRetrain]

/-! ### Health -/

@[simp] theorem State.ctrZero_kept (n : Nat) : (s.ctrZero n).kept = s.kept := by simp [State.ctrZero]
@[simp] theorem State.ctrConfig_kept (n v : Nat) : (s.ctrConfig n v).kept = s.kept := by simp [State.ctrConfig]
@[simp] theorem State.snapStart_kept : s.snapStart.kept = s.kept := by simp [State.snapStart]
@[simp] theorem execSnap_answers : Answers s.kept (execSnap s) := by simp [execSnap]
@[simp] theorem execSnapshotTake_answers (t : Nat) : Answers s.kept (execSnapshotTake t s) := by simp [execSnapshotTake]
@[simp] theorem State.ctrClear_kept : s.ctrClear.kept = s.kept := by simp [State.ctrClear]
@[simp] theorem execClearAll_answers : Answers s.kept (execClearAll s) := by simp [execClearAll]
@[simp] theorem State.showLog_kept : s.showLog.kept = s.kept := by simp [State.showLog]
@[simp] theorem State.nvmWrite_kept (r : LogRec) : (s.nvmWrite r).kept = s.kept := by
  unfold State.nvmWrite
  dsimp only
  split <;> simp
@[simp] theorem State.saveMinutes_kept : s.saveMinutes.kept = s.kept := by simp [State.saveMinutes]
@[simp] theorem execLogFlush_answers (n t : Nat) : Answers s.kept (execLogFlush n t s) := by
  unfold execLogFlush
  dsimp only
  (repeat' split) <;> simp
@[simp] theorem State.flushStart_kept : s.flushStart.kept = s.kept := by simp [State.flushStart]
@[simp] theorem execFlush_answers : Answers s.kept (execFlush s) := by simp [execFlush]
@[simp] theorem execFatalFlush_answers (t : Nat) : Answers s.kept (execFatalFlush t s) := by simp [execFatalFlush]
@[simp] theorem State.dumpStart_kept : s.dumpStart.kept = s.kept := by simp [State.dumpStart]
@[simp] theorem execDump_answers : Answers s.kept (execDump s) := by simp [execDump]

@[simp] theorem execDumpComplete_answers : Answers s.kept (execDumpComplete s) := by
  unfold execDumpComplete
  split
  · simp
  · split
    all_goals next h => simp [State.keeps_of_moveEnd s h (Keeps.refl _)]

@[simp] theorem execOptimeTick_answers (t : Nat) : Answers s.kept (execOptimeTick t s) := by simp [execOptimeTick]
@[simp] theorem State.deferE_kept : s.deferE.kept = s.kept := by simp [State.deferE]
@[simp] theorem execMcLoadWindow_answers (load aToC : BitVec 8) (t : Nat) :
    Answers s.kept (execMcLoadWindow load aToC t s) := by
  unfold execMcLoadWindow
  dsimp only
  (repeat' split) <;> simp
@[simp] theorem execMcSelfCheck_answers (t : Nat) : Answers s.kept (execMcSelfCheck t s) := by simp [execMcSelfCheck]
@[simp] theorem execMc0Failure_answers (watchdog : Bool) (t : Nat) : Answers s.kept (execMc0Failure watchdog t s) := by
  simp [execMc0Failure]
@[simp] theorem execMcTakeoverDone_answers (t : Nat) : Answers s.kept (execMcTakeoverDone t s) := by
  unfold execMcTakeoverDone
  dsimp only
  split <;> simp
@[simp] theorem execMc1Failure_answers (t : Nat) : Answers s.kept (execMc1Failure t s) := by simp [execMc1Failure]
@[simp] theorem State.showPatch_kept (full : Bool) : (s.showPatch full).kept = s.kept := by simp [State.showPatch]
@[simp] theorem execPatchWrite_answers (t : Nat) : Answers s.kept (execPatchWrite t s) := by
  unfold execPatchWrite
  dsimp only
  (repeat' split) <;> simp
@[simp] theorem State.noteAdd_kept : s.noteAdd.kept = s.kept := by simp [State.noteAdd]

/-! ### Tio -/

@[simp] theorem State.tioRefuse_kept : s.tioRefuse.kept = s.kept := by simp [State.tioRefuse]
@[simp] theorem State.tpoArm_kept (n : Nat) : (s.tpoArm n).kept = s.kept := by simp [State.tpoArm]
@[simp] theorem State.tpoDisarm_kept (n : Nat) : (s.tpoDisarm n).kept = s.kept := by simp [State.tpoDisarm]
@[simp] theorem State.tpoRestart_kept (n : Nat) : (s.tpoRestart n).kept = s.kept := by simp [State.tpoRestart]
@[simp] theorem State.tpoWriteCtrl_kept (n v : Nat) : (s.tpoWriteCtrl n v).kept = s.kept := by simp [State.tpoWriteCtrl]
@[simp] theorem State.tpoWriteFrac_kept (n v : Nat) : (s.tpoWriteFrac n v).kept = s.kept := by simp [State.tpoWriteFrac]
@[simp] theorem State.tpoWritePeriod_kept (n v : Nat) : (s.tpoWritePeriod n v).kept = s.kept := by
  simp [State.tpoWritePeriod]
@[simp] theorem State.tpoWriteStart_kept (n : Nat) (hi : Bool) (v : Nat) : (s.tpoWriteStart n hi v).kept = s.kept := by
  simp [State.tpoWriteStart]
@[simp] theorem execTpoEdgeCommit_answers (n : Fin 8) (t : Nat) : Answers s.kept (execTpoEdgeCommit n t s) := by
  unfold execTpoEdgeCommit
  dsimp only
  (repeat' split) <;> simp
@[simp] theorem State.tpoOnceDone_kept (n : Nat) : (s.tpoOnceDone n).kept = s.kept := by simp [State.tpoOnceDone]
@[simp] theorem execTpoEdge_answers (n : Fin 8) (t : Nat) : Answers s.kept (execTpoEdge n t s) := by
  unfold execTpoEdge
  dsimp only
  (repeat' split) <;> simp
@[simp] theorem execTpoIdleReturn_answers (n : Fin 8) (t : Nat) : Answers s.kept (execTpoIdleReturn n t s) := by
  unfold execTpoIdleReturn
  dsimp only
  split <;> simp
@[simp] theorem State.setCap_kept (n : Nat) (x : Capture) : (s.setCap n x).kept = s.kept := by simp [State.setCap]
@[simp] theorem execTciEdge_answers (n : Fin 4) (t : Nat) (rising : Bool) :
    Answers s.kept (execTciEdge n t rising s) := by
  simp [execTciEdge]
@[simp] theorem State.selectCap_kept (n : Nat) (b : Bank) : (s.selectCap n b).kept = s.kept := by
  unfold State.selectCap
  dsimp only
  split <;> simp
@[simp] theorem execTciCapSelect_answers (n : Fin 4) (b : Bank) : Answers s.kept (execTciCapSelect n b s) := by
  simp [execTciCapSelect]
@[simp] theorem State.portState_kept (p : Dom) : (s.portState p).kept = s.kept := by simp [State.portState]
@[simp] theorem State.ptpRecord_kept (p : Dom) (off : Option Int) : (s.ptpRecord p off).kept = s.kept := by
  unfold State.ptpRecord
  split <;> simp
@[simp] theorem execSync_answers (p : Dom) (t : Nat) (twoStep : Bool) (domain sender seqId : Nat) :
    Answers s.kept (execSync p t twoStep domain sender seqId s) := by
  simp [execSync]
@[simp] theorem execFollowUp_answers (p : Dom) (t domain sender seqId origin : Nat) :
    Answers s.kept (execFollowUp p t domain sender seqId origin s) := by
  unfold execFollowUp
  dsimp only
  (repeat' split) <;> simp
@[simp] theorem execDelayReq_answers (p : Dom) (t seqId : Nat) : Answers s.kept (execDelayReq p t seqId s) := by
  unfold execDelayReq
  dsimp only
  (repeat' split) <;> simp
@[simp] theorem execDelayResp_answers (p : Dom) (t domain seqId receive : Nat) :
    Answers s.kept (execDelayResp p t domain seqId receive s) := by
  unfold execDelayResp
  dsimp only
  (repeat' split) <;> simp
@[simp] theorem State.selectMaster_kept (p : Dom) (m : AnnounceMsg) : (s.selectMaster p m).kept = s.kept := by
  simp [State.selectMaster]
@[simp] theorem State.reportUtc_kept (m : AnnounceMsg) : (s.reportUtc m).kept = s.kept := by simp [State.reportUtc]
@[simp] theorem execAnnounce_answers (p : Dom) (t domain : Nat) (m : AnnounceMsg) :
    Answers s.kept (execAnnounce p t domain m s) := by
  unfold execAnnounce
  dsimp only
  (repeat' split) <;> simp
@[simp] theorem execAnnounceReceiptTimeout_answers (p : Dom) (t : Nat) :
    Answers s.kept (execAnnounceReceiptTimeout p t s) := by
  unfold execAnnounceReceiptTimeout
  dsimp only
  split <;> simp
@[simp] theorem execPtpSampleTimeout_answers (p : Dom) (t : Nat) : Answers s.kept (execPtpSampleTimeout p t s) := by
  unfold execPtpSampleTimeout
  dsimp only
  split <;> simp
@[simp] theorem execTportBlockLock_answers (p : Dom) (locked : Bool) :
    Answers s.kept (execTportBlockLock p locked s) := by
  simp [execTportBlockLock]
@[simp] theorem State.selectTxq_kept (p : Dom) (b : Bank) : (s.selectTxq p b).kept = s.kept := by
  unfold State.selectTxq
  dsimp only
  split <;> simp
@[simp] theorem execTxqSelect_answers (p : Dom) (b : Bank) : Answers s.kept (execTxqSelect p b s) := by
  simp [execTxqSelect]

/-! ### Crc -/

@[simp] theorem State.crcCommit_kept : s.crcCommit.kept = s.kept := by simp [State.crcCommit]

/-! ### Calendar -/

@[simp] theorem State.reject_kept (entry reason seq : Nat) : (s.reject entry reason seq).kept = s.kept := by
  simp [State.reject]
@[simp] theorem State.cancelJob_kept (j : Nat) : (s.cancelJob j).kept = s.kept := by simp [State.cancelJob]
@[simp] theorem State.cancelEntry_kept (entry seq start : Nat) : (s.cancelEntry entry seq start).kept = s.kept := by
  unfold State.cancelEntry
  split <;> simp
@[simp] theorem State.submit_kept (entry addr : Nat) (l : List Byte) (bad : List Nat) :
    (s.submit entry addr l bad).kept = s.kept := by
  unfold State.submit
  dsimp only
  (repeat' split) <;> simp

@[simp] theorem State.readEntry_keeps (a : Nat) (ups : List Upset) (hk : Keeps k s.kept) :
    Keeps k (s.readEntry a ups).1.kept := by
  unfold State.readEntry
  refine State.keeps_foldl_fst _ _ hk fun r i hr => ?_
  dsimp only
  split <;> simp [hr]

@[simp] theorem execCalendarExamine_answers (i : Fin 255) (ups : List Upset) (t : Nat) :
    Answers s.kept (execCalendarExamine i ups t s) := by
  unfold execCalendarExamine
  extract_lets s1 a u s2 r s3 l seq d
  have h1 : Keeps s.kept s1.kept := by simp [s1]
  have h2 : Keeps s.kept s2.kept := by simp [s2, h1]
  have h3 : Keeps s.kept s3.kept := by simp [s3, r, h2]
  have hd : Keeps s.kept d.2.kept := by simp [d, h3]
  split
  · exact h1
  · split
    · exact h2
    · split
      · simp [h1]
      · simp [hd, h3]

@[simp] theorem State.readImage_keeps (a : Nat) (ups : List Upset) (hk : Keeps k s.kept) :
    Keeps k (s.readImage a ups).1.kept := by
  unfold State.readImage
  split
  · exact hk
  · split
    next h => exact State.keeps_of_devRead s h hk
    next t h hr =>
      have ht := State.keeps_of_devRead s hr hk
      extract_lets n e
      split
      · exact ht
      · split
        next hr => exact State.keeps_of_devRead t hr ht
        next hr => split <;> exact State.keeps_of_devRead t hr ht

@[simp] theorem State.loadClusters_kept (j n e : Nat) (l : List Byte) : (s.loadClusters j n e l).kept = s.kept := by
  unfold State.loadClusters
  extract_lets x words r bytes s1 s2
  have hr : r.1.kept = s.kept := State.kept_foldl_fst (fun q i => by (repeat' split) <;> simp) _ _
  simp [s2, s1, hr]
@[simp] theorem State.armJob_kept (j : Nat) : (s.armJob j).kept = s.kept := by simp [State.armJob]
@[simp] theorem execProgramLoadDone_answers (j : Fin 8) (ups : List Upset) (t : Nat) :
    Answers s.kept (execProgramLoadDone j ups t s) := by
  unfold execProgramLoadDone
  dsimp only
  (repeat' split) <;> simp

/-! ### CutList -/

@[simp] theorem State.asListed_kept (sh : Tbl Nat) : (s.asListed sh).kept = s.kept := by simp [State.asListed]

/-! ### Scalar -/

@[simp] theorem execNop_answers (c : Fin 2048) (upset : Bool) : Answers s.kept (execNop c upset s) := by
  unfold execNop
  split
  · simp
  · split
    · simp
    · split
      · exact State.execute_keeps s _ _ _ _ _ (Keeps.refl _) fun _ _ ht => ht
      · simp

@[simp] theorem execEndProg_answers (c : Fin 2048) : Answers s.kept (execEndProg c s) := by
  simp +contextual [execEndProg]
@[simp] theorem execBr_answers (c : Fin 2048) : Answers s.kept (execBr c s) := by simp +contextual [execBr]
@[simp] theorem execJal_answers (c : Fin 2048) : Answers s.kept (execJal c s) := by simp +contextual [execJal]
@[simp] theorem execJr_answers (c : Fin 2048) : Answers s.kept (execJr c s) := by simp +contextual [execJr]
@[simp] theorem execBrk_answers (c : Fin 2048) : Answers s.kept (execBrk c s) := by simp +contextual [execBrk]
@[simp] theorem execRdfl_answers (c : Fin 2048) : Answers s.kept (execRdfl c s) := by simp +contextual [execRdfl]
@[simp] theorem execClrfl_answers (c : Fin 2048) : Answers s.kept (execClrfl c s) := by simp +contextual [execClrfl]

@[simp] theorem State.scalar_keeps (p op : Nat) (fs : List (Nat × Nat)) (ok : Nat → Bool)
    (f : Nat → Cluster → AWord) (hk : Keeps k s.kept) :
    Keeps k (s.scalar p op fs ok f).kept := by
  unfold State.scalar
  refine State.issue_keeps _ _ _ _ _ _ hk fun w t x ht => ?_
  simp [ht]

@[simp] theorem State.scalar2_keeps (p op : Nat) (f : AWord → AWord → AWord) (hk : Keeps k s.kept) :
    Keeps k (s.scalar2 p op f).kept := by
  simp [State.scalar2, hk]
@[simp] theorem execAadd_answers (c : Fin 2048) : Answers s.kept (execAadd c s) := by simp [execAadd]
@[simp] theorem execAaddi_answers (c : Fin 2048) : Answers s.kept (execAaddi c s) := by simp [execAaddi]
@[simp] theorem execAsub_answers (c : Fin 2048) : Answers s.kept (execAsub c s) := by simp [execAsub]
@[simp] theorem execAmul_answers (c : Fin 2048) : Answers s.kept (execAmul c s) := by simp [execAmul]
@[simp] theorem execAand_answers (c : Fin 2048) : Answers s.kept (execAand c s) := by simp [execAand]
@[simp] theorem execAor_answers (c : Fin 2048) : Answers s.kept (execAor c s) := by simp [execAor]
@[simp] theorem execAxor_answers (c : Fin 2048) : Answers s.kept (execAxor c s) := by simp [execAxor]
@[simp] theorem execAshli_answers (c : Fin 2048) : Answers s.kept (execAshli c s) := by simp [execAshli]
@[simp] theorem execAshri_answers (c : Fin 2048) : Answers s.kept (execAshri c s) := by simp [execAshri]
@[simp] theorem execAmovi_answers (c : Fin 2048) : Answers s.kept (execAmovi c s) := by simp [execAmovi]

@[simp] theorem State.predicate_keeps (p op : Nat) (fs : List (Nat × Nat)) (f : Nat → Cluster → Pred)
    (hk : Keeps k s.kept) :
    Keeps k (s.predicate p op fs f).kept := by
  unfold State.predicate
  refine State.issue_keeps _ _ _ _ _ _ hk fun w t x ht => ?_
  simp [ht]

@[simp] theorem execAcmp_answers (c : Fin 2048) : Answers s.kept (execAcmp c s) := by simp [execAcmp]
@[simp] theorem execAcmpi_answers (c : Fin 2048) : Answers s.kept (execAcmpi c s) := by simp [execAcmpi]
@[simp] theorem State.predicate2_keeps (p op : Nat) (f : Pred → Pred → Pred) (hk : Keeps k s.kept) :
    Keeps k (s.predicate2 p op f).kept := by
  simp [State.predicate2, hk]
@[simp] theorem execPand_answers (c : Fin 2048) : Answers s.kept (execPand c s) := by simp [execPand]
@[simp] theorem execPor_answers (c : Fin 2048) : Answers s.kept (execPor c s) := by simp [execPor]
@[simp] theorem execPxor_answers (c : Fin 2048) : Answers s.kept (execPxor c s) := by simp [execPxor]
@[simp] theorem execPnot_answers (c : Fin 2048) : Answers s.kept (execPnot c s) := by simp [execPnot]
@[simp] theorem execPcnt_answers (c : Fin 2048) : Answers s.kept (execPcnt c s) := by simp [execPcnt]
@[simp] theorem execPfroma_answers (c : Fin 2048) : Answers s.kept (execPfroma c s) := by simp [execPfroma]

/-! ### External -/

@[simp] theorem State.setAreg_kept (p r v : Nat) : (s.setAreg p r v).kept = s.kept := by simp [State.setAreg]
@[simp] theorem State.startXfer_kept (p tag : Nat) (put : Bool) (dev loc len : Nat) :
    (s.startXfer p tag put dev loc len).kept = s.kept := by
  simp [State.startXfer]
@[simp] theorem State.putGet_keeps (put : Bool) (w p : Nat) (hk : Keeps k s.kept) :
    EffectKeeps k (State.putGet put w s p) := by
  simp [State.putGet, hk]

@[simp] theorem State.cpy_keeps (w p : Nat) (hk : Keeps k s.kept) : EffectKeeps k (State.cpy w s p) := by
  unfold State.cpy
  dsimp only
  split
  · exact hk
  · split
    · simp [hk]
    · split
      · exact hk
      · split <;> simp [hk]

@[simp] theorem execPut_answers (c : Fin 2048) : Answers s.kept (execPut c s) := by simp +contextual [execPut]
@[simp] theorem execGet_answers (c : Fin 2048) : Answers s.kept (execGet c s) := by simp +contextual [execGet]
@[simp] theorem execCpy_answers (c : Fin 2048) : Answers s.kept (execCpy c s) := by simp +contextual [execCpy]

@[simp] theorem State.retryIssue_keeps (p : Nat) (hk : Keeps k s.kept) : Keeps k (s.retryIssue p).kept := by
  unfold State.retryIssue
  split
  · exact hk
  next x _ =>
    extract_lets w s1 e
    have h1 : Keeps k s1.kept := by simp [s1, hk]
    have he : EffectKeeps k e := by simp [e, h1]
    clear_value e
    split <;> simp_all

@[simp] theorem execTagStallWake_answers (c : Fin 2048) (ups : List Upset) :
    Answers s.kept (execTagStallWake c ups s) := by
  unfold execTagStallWake
  dsimp only
  (repeat' split) <;> simp
@[simp] theorem execCpyQueueWake_answers (c : Fin 2048) : Answers s.kept (execCpyQueueWake c s) := by
  unfold execCpyQueueWake
  split <;> simp
@[simp] theorem State.takeReport_kept (p t r : Nat) : (s.takeReport p t r).kept = s.kept := by simp [State.takeReport]
@[simp] theorem execCwait_answers (c : Fin 2048) : Answers s.kept (execCwait c s) := by simp +contextual [execCwait]
@[simp] theorem State.finishCommit_kept (p w : Nat) : (s.finishCommit p w).kept = s.kept := by
  unfold State.finishCommit
  dsimp only
  split <;> simp
@[simp] theorem execQcmt_answers (c : Fin 2048) : Answers s.kept (execQcmt c s) := by simp +contextual [execQcmt]
@[simp] theorem execTagDrain_answers (c : Fin 2048) (tag : Fin 8) (ups : List Upset) :
    Answers s.kept (execTagDrain c tag ups s) := by
  unfold execTagDrain
  dsimp only
  (repeat' split) <;> simp
theorem State.takeBuffer_kept {t : State} {p w : Nat} (h : s.takeBuffer p w = some t) : t.kept = s.kept := by
  obtain ⟨r, hr, rfl⟩ := Option.map_eq_some_iff.1 h
  simpa using State.reserve_kept s hr

@[simp] theorem execQget_answers (c : Fin 2048) : Answers s.kept (execQget c s) := by
  refine State.issue_keeps s _ _ _ _ _ (Keeps.refl _) fun w t x ht => ?_
  split
  · exact ht
  · split
    next h => simpa [State.takeBuffer_kept t h] using ht
    · exact ht

@[simp] theorem execQgetWake_answers (who : Waiter) : Answers s.kept (execQgetWake who s) := by
  unfold execQgetWake
  split
  · split
    · simp
    · split
      · simp
      · split
        next h => simp [State.takeBuffer_kept s h]
        · simp
  · split
    · simp
    · dsimp only
      split
      · simp
      · split
        · simp
        next h => simp [State.reserve_kept s h]

theorem State.takeEntry_kept {t : State} {p w : Nat} (h : s.takeEntry p w = some t) : t.kept = s.kept := by
  obtain ⟨r, hr, rfl⟩ := Option.map_eq_some_iff.1 h
  simpa using State.claim_kept s hr
@[simp] theorem execRwait_answers (c : Fin 2048) : Answers s.kept (execRwait c s) := by
  refine State.issue_keeps s _ _ _ _ _ (Keeps.refl _) fun w t x ht => ?_
  split
  next h => simpa [State.takeEntry_kept t h] using ht
  · simp [ht]

@[simp] theorem execRwaitWake_answers (c : Fin 2048) : Answers s.kept (execRwaitWake c s) := by
  unfold execRwaitWake
  split
  · simp
  · split
    · simp
    · split
      next h => simp [State.takeEntry_kept s h]
      · simp

@[simp] theorem execRdone_answers (c : Fin 2048) : Answers s.kept (execRdone c s) := by
  refine State.issue_keeps s _ _ _ _ _ (Keeps.refl _) fun w t x ht => ?_
  split
  · exact ht
  · simp [ht]
@[simp] theorem State.fellReport_kept (p w : Nat) (late : Bool) : (s.fellReport p w late).kept = s.kept := by
  simp [State.fellReport]
@[simp] theorem execFwait_answers (c : Fin 2048) : Answers s.kept (execFwait c s) := by simp +contextual [execFwait]
@[simp] theorem execFwaitWake_answers (c : Fin 2048) : Answers s.kept (execFwaitWake c s) := by
  unfold execFwaitWake
  split <;> simp
@[simp] theorem execExternalWaitTimeout_answers (c : Fin 2048) (t : Nat) :
    Answers s.kept (execExternalWaitTimeout c t s) := by
  unfold execExternalWaitTimeout
  dsimp only
  (repeat' split) <;> simp
@[simp] theorem execTwait_answers (c : Fin 2048) : Answers s.kept (execTwait c s) := by simp +contextual [execTwait]
@[simp] theorem execTwaitWake_answers (c : Fin 2048) (t : Nat) : Answers s.kept (execTwaitWake c t s) := by
  unfold execTwaitWake
  dsimp only
  split <;> simp
@[simp] theorem execTnow_answers (c : Fin 2048) : Answers s.kept (execTnow c s) := by simp +contextual [execTnow]
theorem State.arrive_kept {t : State} {p num v : Nat} {op : Option Nat} (h : s.arrive p num op v = some t) :
    t.kept = s.kept := by
  unfold State.arrive at h
  dsimp only at h
  (repeat' split at h) <;> cases h <;> simp
@[simp] theorem execGbar_answers (c : Fin 2048) : Answers s.kept (execGbar c s) := by
  refine State.issue_keeps s _ _ _ _ _ (Keeps.refl _) fun w t x ht => ?_
  split
  next h => simpa [State.arrive_kept t h] using ht
  · exact ht
@[simp] theorem execGred_answers (c : Fin 2048) : Answers s.kept (execGred c s) := by
  refine State.issue_keeps s _ _ _ _ _ (Keeps.refl _) fun w t x ht => ?_
  split
  next h => simpa [State.arrive_kept t h] using ht
  · exact ht

@[simp] theorem execBarrierRelease_answers (j : Fin 8) : Answers s.kept (execBarrierRelease j s) := by
  unfold execBarrierRelease
  extract_lets x l s1
  have h1 : s1.kept = s.kept := by simp [s1]
  split
  · simp
  · simp only [answers_ite, answers_next]
    rw [State.kept_foldl (fun t p => by split <;> simp), h1]
    simp

/-! ### Resets -/

@[simp] theorem State.dropRegs_kept (p : Nat → Nat → Bool) : (s.dropRegs p).kept = s.kept := by simp [State.dropRegs]
@[simp] theorem State.returnTo_kept (keep : RegRow → Nat → Bool) (sh : Tbl Nat) :
    (s.returnTo keep sh).kept = s.kept := by
  simp [State.returnTo]
@[simp] theorem State.afterReturn_keeps (hk : Keeps k s.kept) : Keeps k s.afterReturn.kept := by
  simp [State.afterReturn, hk]
@[simp] theorem State.failPuts_kept (p : Nat) : (s.failPuts p).kept = s.kept := by simp [State.failPuts]
@[simp] theorem State.abortCopy_keeps (e : Nat) (hk : Keeps k s.kept) : Keeps k (s.abortCopy e).kept := by
  unfold State.abortCopy
  split <;> simp [hk]
@[simp] theorem State.freeHeld_keeps (lost : Bool) (hk : Keeps k s.kept) : Keeps k (s.freeHeld lost).kept := by
  simp +contextual [State.freeHeld, hk]

@[simp] theorem State.postLines_kept (a : Nat) (l : List Byte) (fuel : Nat) : (s.postLines a l fuel).kept = s.kept := by
  induction fuel generalizing s a l with
  | zero => simp [State.postLines]
  | succ n ih =>
    unfold State.postLines
    split
    · rfl
    · simp [ih]

@[simp] theorem State.settleXfer_keeps (p : Nat) (x : Xfer) (hk : Keeps k s.kept) :
    Keeps k (s.settleXfer p x).kept := by
  unfold State.settleXfer
  split
  · split
    · have hr := State.sramRead_kept s p (x.loc + x.pos) (x.len - x.pos)
      split
      next h =>
        rw [h] at hr
        rw [State.postLines_kept, hr]
        exact hk
      next h =>
        rw [h] at hr
        simpa [hr] using hk
    · exact hk
  · extract_lets m
    have hm : Keeps k m.1.kept := by simp [m, hk]
    split
    · exact hm
    · have hr := State.sramRead_kept m.1 p x.loc x.len
      split
      all_goals
        next h =>
        rw [h] at hr
        simpa [hr] using hm

@[simp] theorem State.settleXfers_keeps (p : Nat) (hk : Keeps k s.kept) : Keeps k (s.settleXfers p).kept := by
  simp +contextual [State.settleXfers, hk]

@[simp] theorem State.drainEngine_keeps (e fuel : Nat) (hk : Keeps k s.kept) : Keeps k (s.drainEngine e fuel).kept := by
  induction fuel generalizing s with
  | zero => exact hk
  | succ n ih =>
    have ht := State.copyTick_keeps s e [] hk
    unfold State.drainEngine
    dsimp only
    split
    · exact ih _ ht
    · exact ht

@[simp] theorem State.dropClaims_kept (p : Nat) : (s.dropClaims p).kept = s.kept := by simp [State.dropClaims]
@[simp] theorem State.fuseRandom_kept (p : Nat) : (s.fuseRandom p).kept = s.kept := by simp [State.fuseRandom]
@[simp] theorem State.repairSram_kept (p : Nat) : (s.repairSram p).kept = s.kept := by simp [State.repairSram]
@[simp] theorem State.endProgram_kept (p st : Nat) : (s.endProgram p st).kept = s.kept := by simp [State.endProgram]
@[simp] theorem State.dropJobs_kept : s.dropJobs.kept = s.kept := by simp [State.dropJobs]

@[simp] theorem State.clustersEnd_keeps (gate : Bool) (hk : Keeps k s.kept) : Keeps k (s.clustersEnd gate).kept := by
  unfold State.clustersEnd
  extract_lets s1 s2 s3 s4
  have h1 : Keeps k s1.kept := by simp [s1, hk]
  have h2 : Keeps k s2.kept := State.keeps_foldl _ _ h1 fun t e ht => State.drainEngine_keeps t e _ ht
  have h3 : Keeps k s3.kept := State.keeps_foldl _ _ h2 fun t p ht => State.settleXfers_keeps t p ht
  have h4 : Keeps k s4.kept := State.keeps_foldl _ _ h3 fun t p ht => by simp [ht]
  simp [h4]

@[simp] theorem State.clustersBack_kept : s.clustersBack.kept = s.kept := by simp [State.clustersBack]
@[simp] theorem State.calAbandon_kept : s.calAbandon.kept = s.kept := by
  unfold State.calAbandon
  dsimp only
  (repeat' split) <;> simp
@[simp] theorem State.holdRings_kept : s.holdRings.kept = s.kept := by simp [State.holdRings]
@[simp] theorem State.clearRings_kept : s.clearRings.kept = s.kept := by simp [State.clearRings]
@[simp] theorem State.emptyStamps_kept : s.emptyStamps.kept = s.kept := by simp [State.emptyStamps]
@[simp] theorem State.coverBlocks_kept (p : Nat → Bool) : (s.coverBlocks p).kept = s.kept := by simp [State.coverBlocks]
@[simp] theorem State.fabricBegin_keeps (hk : Keeps k s.kept) : Keeps k s.fabricBegin.kept := by
  simp [State.fabricBegin, hk]
@[simp] theorem State.fabricEnd_keeps (hk : Keeps k s.kept) : Keeps k s.fabricEnd.kept := by simp [State.fabricEnd, hk]
@[simp] theorem State.computeBegin_keeps (hk : Keeps k s.kept) : Keeps k s.computeBegin.kept := by
  simp [State.computeBegin, hk]
@[simp] theorem State.missJob_kept (j : Nat) (x : Job) : (s.missJob j x).kept = s.kept := by simp [State.missJob]

@[simp] theorem State.reloadJobs_keeps (hk : Keeps k s.kept) : Keeps k s.reloadJobs.kept := by
  unfold State.reloadJobs
  refine State.keeps_foldl _ _ hk fun t j ht => ?_
  have hr := State.readImage_keeps t (t.job j).image [] ht
  dsimp only
  split
  · exact ht
  · split
    · simp [ht]
    · split
      all_goals
        next h =>
        rw [h] at hr
        simpa using hr

@[simp] theorem State.computeEnd_keeps (hk : Keeps k s.kept) : Keeps k s.computeEnd.kept := by
  simp [State.computeEnd, hk]
@[simp] theorem State.abortFtd_keeps (hk : Keeps k s.kept) : Keeps k s.abortFtd.kept := by
  unfold State.abortFtd
  refine State.keeps_foldl _ _ hk fun t j ht => ?_
  split <;> simp [ht]

/-- The compute part is made anew here, with main memory as it was. -/
@[simp] theorem State.mainLost_keeps (dark : Bool) (hk : Keeps k s.kept) : Keeps k (s.mainLost dark).kept := by
  unfold State.mainLost
  extract_lets s1 s2 s3 states missed jobs c d s4 clusters jobs' s5 f loops y boot s6 s7 s8 s9 s10 notices s11
  have h1 : Keeps k s1.kept := State.ulOff_keeps s hk
  have h2 : Keeps k s2.kept := by simp [s2, h1]
  have h3 : Keeps k s3.kept := State.abortFtd_keeps s2 h2
  have hp : s4.pending = s3.pending := (State.drawMany_pending d.2).trans (State.drawMany_pending s3)
  have h7 : Keeps k s7.kept := by simp [s7, s5, c, hp, h3]
  have h10 : Keeps k s10.kept := by simp [s10, s9, s8, h7]
  simp [s11, h10]

@[simp] theorem State.interfaceLost_kept : s.interfaceLost.kept = s.kept := by simp [State.interfaceLost]

/-! ### Boot -/

@[simp] theorem State.setBoot_kept (b : Boot) : (s.setBoot b).kept = s.kept := by simp [State.setBoot]
@[simp] theorem State.setNvm_kept (n : Nvm) : (s.setNvm n).kept = s.kept := by simp [State.setNvm]
@[simp] theorem State.setPhase_kept (p : Nat) : (s.setPhase p).kept = s.kept := by simp [State.setPhase]
@[simp] theorem State.stick_kept (reason : Nat) : (s.stick reason).kept = s.kept := by simp [State.stick]
@[simp] theorem State.bootPhase_kept : s.bootPhase.kept = s.kept := by simp [State.bootPhase]
@[simp] theorem State.bootFrom2_kept : s.bootFrom2.kept = s.kept := by simp [State.bootFrom2]
@[simp] theorem State.fused_kept : s.fused.kept = s.kept := by simp [State.fused]

/-- COLD leaves the empty memory, which is canonical (R377). -/
@[simp] theorem State.coldStart_keeps (head : Bool) (bench cause : Nat) (power : Bool) (hk : Keeps k s.kept) :
    Keeps k (s.coldStart head bench cause power).kept := by
  have h : Keeps k (s.pending, State.reset.comp.lpddr) := ⟨hk.1, fun _ => Mem.wf_empty⟩
  unfold State.coldStart
  simpa using h

@[simp] theorem execVauxPowerOn_answers (head : Bool) (bench : BitVec 5) (slots : Option NvmSlots) :
    Answers s.kept (execVauxPowerOn head bench slots s) := by
  unfold execVauxPowerOn
  dsimp only
  (repeat' split) <;> simp
@[simp] theorem execVauxLow_answers (t : Nat) : Answers s.kept (execVauxLow t s) := by simp [execVauxLow]
@[simp] theorem State.warmStart_keeps (cause : Nat) (hk : Keeps k s.kept) : Keeps k (s.warmStart cause).kept := by
  simp [State.warmStart, hk]
@[simp] theorem State.enterBringup_kept : s.enterBringup.kept = s.kept := by simp [State.enterBringup]
@[simp] theorem State.enterWaitPwr_kept : s.enterWaitPwr.kept = s.kept := by simp [State.enterWaitPwr]
@[simp] theorem State.recoverLink_keeps (hk : Keeps k s.kept) : Keeps k s.recoverLink.kept := by
  unfold State.recoverLink
  split
  · exact State.setLp_keeps s _ hk fun _ => Mem.wf_empty
  · exact hk
@[simp] theorem State.checkRails_keeps (rails : Nat) (hk : Keeps k s.kept) : Keeps k (s.checkRails rails).kept := by
  unfold State.checkRails
  dsimp only
  (repeat' split) <;> simp [hk]

/-- Contents lost are a fresh draw of free values with no cell listed, which is canonical. -/
@[simp] theorem State.loseMemory_keeps (hk : Keeps k s.kept) : Keeps k s.loseMemory.kept := by
  exact State.setLp_keeps _ _ (by simpa using hk) fun _ => Mem.wf_lost _

@[simp] theorem execPkgResetNRelease_answers (rails : BitVec 20) (t : Nat) :
    Answers s.kept (execPkgResetNRelease rails t s) := by
  unfold execPkgResetNRelease
  extract_lets s1 x s2 y s3
  have h2 : s2.kept = s.kept := by simp [s2, s1]
  have h3 : s3.kept = s.kept := by simp [s3, y, h2]
  simp [h3, s1]

@[simp] theorem execNvmDiscovery_answers (readable sfdp octal : Bool) (mbit t : Nat) :
    Answers s.kept (execNvmDiscovery readable sfdp octal mbit t s) := by
  unfold execNvmDiscovery
  dsimp only
  (repeat' split) <;> simp
@[simp] theorem State.lenCheck_kept : s.lenCheck.kept = s.kept := by simp [State.lenCheck]
@[simp] theorem State.clAccept_kept (i : Nat) : (s.clAccept i).kept = s.kept := by
  unfold State.clAccept
  dsimp only
  (repeat' split) <;> simp
@[simp] theorem execCutlistRead_answers (t : Nat) : Answers s.kept (execCutlistRead t s) := by
  unfold execCutlistRead
  dsimp only
  (repeat' split) <;> simp
@[simp] theorem State.chainOut_kept (l : List (List Byte)) : (s.chainOut l).kept = s.kept := by simp [State.chainOut]
@[simp] theorem State.chainClear_kept : s.chainClear.kept = s.kept := by simp [State.chainClear]
@[simp] theorem State.originate_kept (type : Nat) (hop1 : Bool) (payload : List Byte) :
    (s.originate type hop1 payload).kept = s.kept := by
  simp [State.originate]
@[simp] theorem State.imageReq_kept (off : Nat) : (s.imageReq off).kept = s.kept := by simp [State.imageReq]
@[simp] theorem State.chainPath_kept : s.chainPath.kept = s.kept := by simp [State.chainPath]
@[simp] theorem State.recoverBegin_keeps (hk : Keeps k s.kept) : Keeps k s.recoverBegin.kept := by
  unfold State.recoverBegin
  extract_lets sh regs y s1
  have h1 : Keeps k s1.kept := by simp [s1, hk]
  simp [h1]
@[simp] theorem State.recover_keeps (hk : Keeps k s.kept) : Keeps k s.recover.kept := by simp [State.recover, hk]
@[simp] theorem State.leaveDark_keeps (memHeld : Bool) (hk : Keeps k s.kept) : Keeps k (s.leaveDark memHeld).kept := by
  simp [State.leaveDark, hk]
@[simp] theorem execPwrOkRise_answers (rails : BitVec 20) (memHeld : Bool) (t : Nat) :
    Answers s.kept (execPwrOkRise rails memHeld t s) := by
  unfold execPwrOkRise
  dsimp only
  (repeat' split) <;> simp
@[simp] theorem execFirmwareVerify_answers (t : Nat) : Answers s.kept (execFirmwareVerify t s) := by
  unfold execFirmwareVerify
  dsimp only
  (repeat' split) <;> simp
@[simp] theorem State.applyList_keeps (hk : Keeps k s.kept) : Keeps k s.applyList.kept := by simp [State.applyList, hk]
@[simp] theorem State.shipRoles_kept : s.shipRoles.kept = s.kept := by simp [State.shipRoles]

@[simp] theorem State.applyPatch_kept (e : PatchEntry) : (s.applyPatch e).kept = s.kept := by
  unfold State.applyPatch State.applyPatch.channelMap
  extract_lets live s1 s2 x
  have h1 : s1.kept = s.kept := by
    unfold s1
    split <;> simp
  have h2 : s2.kept = s.kept := by simp [s2, h1]
  split
  · split
    · simp [x, h2]
    · exact h1
  all_goals (try split) <;> simp

@[simp] theorem State.applyPatches_kept : s.applyPatches.kept = s.kept := by simp [State.applyPatches]

/-- Initialisation on COLD empties main memory (R377). -/
@[simp] theorem State.initMemory_keeps (noPpr : List (Nat × Nat)) (hk : Keeps k s.kept) :
    Keeps k (s.initMemory noPpr).kept := by
  unfold State.initMemory
  extract_lets s1 marks left s2 s3 x y z s4
  have h1 : Keeps k s1.kept := by simp [s1, hk]
  have h2 : Keeps k s2.kept := by simp [s2, h1]
  have h3 : Keeps k s3.kept := State.setLp_keeps s2 _ h2 fun _ => Mem.wf_empty
  have h4 : Keeps k s4.kept := by simp [s4, z, h1, h3]
  simp [h4]

@[simp] theorem State.initCluster_kept (p : Nat) (dark : Bool) : (s.initCluster p dark).kept = s.kept := by
  simp [State.initCluster]
@[simp] theorem State.failClusters_kept (fails : List (Fin 2048)) : (s.failClusters fails).kept = s.kept := by
  simp [State.failClusters]
@[simp] theorem State.initClusters_kept (fails : List (Fin 2048)) (dark : Bool) :
    (s.initClusters fails dark).kept = s.kept := by
  simp [State.initClusters]
@[simp] theorem State.loadCal_kept : s.loadCal.kept = s.kept := by
  unfold State.loadCal
  dsimp only
  (repeat' split) <;> simp
@[simp] theorem State.startFabric_kept (fresh : Bool) : (s.startFabric fresh).kept = s.kept := by
  simp [State.startFabric]
@[simp] theorem State.bootDone_keeps (hk : Keeps k s.kept) : Keeps k s.bootDone.kept := by simp [State.bootDone, hk]
@[simp] theorem State.calendarSeen_kept : s.calendarSeen.kept = s.kept := by simp [State.calendarSeen]

@[simp] theorem execBringup_answers (fails : List (Fin 2048)) (noPpr : List (Nat × Nat)) (t : Nat) :
    Answers s.kept (execBringup fails noPpr t s) := by
  unfold execBringup
  extract_lets s1 cold dark s2 s3 s4 s5 y s6 hold s7
  have h2 : Keeps s.kept s2.kept := by simp [s2, s1]
  have h3 : Keeps s.kept s3.kept := by simp [s3, h2]
  have h6 : Keeps s.kept s6.kept := by simp [s6, s5, s4, h3]
  have h7 : Keeps s.kept s7.kept := by simp [s7, h6]
  simp [h7, s1]

@[simp] theorem State.lockSet_keeps (hk : Keeps k s.kept) : Keeps k s.lockSet.kept := by simp [State.lockSet, hk]
@[simp] theorem execLockSet_answers : Answers s.kept (execLockSet s) := by simp [execLockSet]
@[simp] theorem execLockWaitTimeout_answers (t : Nat) : Answers s.kept (execLockWaitTimeout t s) := by
  unfold execLockWaitTimeout
  dsimp only
  split <;> simp
@[simp] theorem State.fuseKey_kept : s.fuseKey.kept = s.kept := by simp [State.fuseKey]

/-! ### Power -/

@[simp] theorem State.setPower_kept (p : Power) : (s.setPower p).kept = s.kept := by simp [State.setPower]
@[simp] theorem State.tellDown_kept : s.tellDown.kept = s.kept := by simp [State.tellDown]
@[simp] theorem State.towardsDark_kept (planned : Bool) : (s.towardsDark planned).kept = s.kept := by
  simp [State.towardsDark]
@[simp] theorem State.unplanned_kept : s.unplanned.kept = s.kept := by simp [State.unplanned]
@[simp] theorem execPwrOkLow_answers (t : Nat) : Answers s.kept (execPwrOkLow t s) := by
  unfold execPwrOkLow
  dsimp only
  (repeat' split) <;> simp
@[simp] theorem State.railBad_kept (r : Nat) : (s.railBad r).kept = s.kept := by simp [State.railBad]
@[simp] theorem execRailFault_answers (rail : Fin 20) (t : Nat) : Answers s.kept (execRailFault rail t s) := by
  simp [execRailFault]
@[simp] theorem execVhtrOutOfRange_answers (t : Nat) : Answers s.kept (execVhtrOutOfRange t s) := by
  simp [execVhtrOutOfRange]
@[simp] theorem State.tempTake_kept (first : Bool) (r : Nat × Int) : (s.tempTake first r).kept = s.kept := by
  simp [State.tempTake]
@[simp] theorem State.tripNow_kept : s.tripNow.kept = s.kept := by simp [State.tripNow]
@[simp] theorem State.judgeAlert_kept (l : List (Nat × Int)) : (s.judgeAlert l).kept = s.kept := by
  simp [State.judgeAlert]
@[simp] theorem execThermalSample_answers (readings : List Int) (t : Nat) :
    Answers s.kept (execThermalSample readings t s) := by
  simp [execThermalSample]
@[simp] theorem execThermPortRead_answers : Answers s.kept (execThermPortRead s) := by simp [execThermPortRead]
@[simp] theorem State.pwRefuse_kept : s.pwRefuse.kept = s.kept := by simp [State.pwRefuse]
@[simp] theorem State.pwHushCmd_keeps (hk : Keeps k s.kept) : Keeps k s.pwHushCmd.kept := by simp [State.pwHushCmd, hk]
@[simp] theorem execPwrHush_answers : Answers s.kept (execPwrHush s) := by simp [execPwrHush]
@[simp] theorem State.pwActiveCmd_kept : s.pwActiveCmd.kept = s.kept := by simp [State.pwActiveCmd]
@[simp] theorem execPwrActive_answers : Answers s.kept (execPwrActive s) := by simp [execPwrActive]
@[simp] theorem State.pwDarkCmd_keeps (hk : Keeps k s.kept) : Keeps k s.pwDarkCmd.kept := by simp [State.pwDarkCmd, hk]
@[simp] theorem execPwrDark_answers (t : Nat) : Answers s.kept (execPwrDark t s) := by simp [execPwrDark]

@[simp] theorem execDarkReached_answers (t : Nat) : Answers s.kept (execDarkReached t s) := by
  unfold execDarkReached
  extract_lets s1 keep told s2 s3 s4 s5 s6 f s7 x y s8
  have h2 : Keeps s.kept s2.kept := by simp [s2, s1]
  have h4 : Keeps s.kept s4.kept := by simp [s4, s3, h2]
  have h6 : Keeps s.kept s6.kept := by simp [s6, s5, h4]
  have h8 : Keeps s.kept s8.kept := by simp [s8, s7, h6]
  split <;> simp [s1, h8]

/-! ### ResetCmds -/

@[simp] theorem State.rstRefuse_kept : s.rstRefuse.kept = s.kept := by simp [State.rstRefuse]
@[simp] theorem State.setReset_kept (k : Option Nat) : (s.setReset k).kept = s.kept := by simp [State.setReset]
@[simp] theorem State.startReset_keeps (kind cause : Nat) (hk : Keeps k s.kept) :
    Keeps k (s.startReset kind cause).kept := by
  unfold State.startReset
  split <;> simp [hk]
@[simp] theorem State.requestReset_keeps (kind cause : Nat) (hk : Keeps k s.kept) :
    Keeps k (s.requestReset kind cause).kept := by
  unfold State.requestReset
  (repeat' split) <;> simp +contextual [hk]
@[simp] theorem State.resetCmd_keeps (key kind : Nat) (hk : Keeps k s.kept) : Keeps k (s.resetCmd key kind).kept := by
  unfold State.resetCmd
  simp [hk]
@[simp] theorem execBootResetCold_answers (key : BitVec 16) : Answers s.kept (execBootResetCold key s) := by
  simp [execBootResetCold]
@[simp] theorem execBootResetWarm_answers (key : BitVec 16) : Answers s.kept (execBootResetWarm key s) := by
  simp [execBootResetWarm]
@[simp] theorem execBootResetFabric_answers (key : BitVec 16) : Answers s.kept (execBootResetFabric key s) := by
  simp [execBootResetFabric]
@[simp] theorem execBootResetCompute_answers (key : BitVec 16) : Answers s.kept (execBootResetCompute key s) := by
  simp [execBootResetCompute]
@[simp] theorem execPkgResetNLow_answers (t : Nat) : Answers s.kept (execPkgResetNLow t s) := by simp [execPkgResetNLow]
@[simp] theorem execResetComplete_answers (head : Bool) (bench : BitVec 5) (t : Nat) :
    Answers s.kept (execResetComplete head bench t s) := by
  unfold execResetComplete
  dsimp only
  split <;> simp

/-! ### Chain -/

@[simp] theorem State.setChain_kept (c : Chain) : (s.setChain c).kept = s.kept := by simp [State.setChain]
@[simp] theorem State.setRecov_kept (r : Recov) : (s.setRecov r).kept = s.kept := by simp [State.setRecov]
@[simp] theorem State.takePosition_kept (p : Nat) : (s.takePosition p).kept = s.kept := by simp [State.takePosition]
@[simp] theorem State.beacon_kept (pos count bench : Nat) : (s.beacon pos count bench).kept = s.kept := by
  unfold State.beacon
  dsimp only
  (repeat' split) <;> simp
@[simp] theorem State.chainSwitch_kept (l : List Byte) : (s.chainSwitch l).kept = s.kept := by simp [State.chainSwitch]
@[simp] theorem State.chainReset_keeps (l : List Byte) (hk : Keeps k s.kept) : Keeps k (s.chainReset l).kept := by
  unfold State.chainReset
  split <;> simp [hk]
@[simp] theorem State.chainMsg_kept (src : Nat) (l : List Byte) : (s.chainMsg src l).kept = s.kept := by
  simp [State.chainMsg]
@[simp] theorem State.imageAnswer_kept (l : List Byte) : (s.imageAnswer l).kept = s.kept := by simp [State.imageAnswer]
@[simp] theorem State.imageData_kept (l : List Byte) : (s.imageData l).kept = s.kept := by simp [State.imageData]
@[simp] theorem State.chainImage_kept (l : List Byte) (hop1 : Bool) : (s.chainImage l hop1).kept = s.kept := by
  unfold State.chainImage
  split <;> simp
@[simp] theorem State.chainApply_keeps (type src : Nat) (hop1 : Bool) (l : List Byte) (hk : Keeps k s.kept) :
    Keeps k (s.chainApply type src hop1 l).kept := by
  unfold State.chainApply
  split <;> simp [hk]
@[simp] theorem State.chainPass_keeps (l : List Byte) (hk : Keeps k s.kept) : Keeps k (s.chainPass l).kept := by
  simp [State.chainPass, hk]
@[simp] theorem State.chainHome_keeps (l : List Byte) (hk : Keeps k s.kept) : Keeps k (s.chainHome l).kept := by
  simp [State.chainHome, hk]
@[simp] theorem State.chainIn_keeps (l : List Byte) (hk : Keeps k s.kept) : Keeps k (s.chainIn l).kept := by
  simp [State.chainIn, hk]
@[simp] theorem execBeaconRx_answers (bytes : List Byte) (t : Nat) : Answers s.kept (execBeaconRx bytes t s) := by
  simp [execBeaconRx]
@[simp] theorem execChainSwitch_answers (bytes : List Byte) (t : Nat) : Answers s.kept (execChainSwitch bytes t s) := by
  simp [execChainSwitch]
@[simp] theorem execChainReset_answers (bytes : List Byte) (t : Nat) : Answers s.kept (execChainReset bytes t s) := by
  simp [execChainReset]
@[simp] theorem execChainMsg_answers (bytes : List Byte) (t : Nat) : Answers s.kept (execChainMsg bytes t s) := by
  simp [execChainMsg]
@[simp] theorem execChainImage_answers (bytes : List Byte) (t : Nat) : Answers s.kept (execChainImage bytes t s) := by
  simp [execChainImage]
@[simp] theorem execBeaconSend_answers (t : Nat) : Answers s.kept (execBeaconSend t s) := by
  unfold execBeaconSend
  dsimp only
  split <;> simp
@[simp] theorem execPositionTimeout_answers (t : Nat) : Answers s.kept (execPositionTimeout t s) := by
  simp [execPositionTimeout]
@[simp] theorem State.chainSend_kept (type len : Nat) : (s.chainSend type len).kept = s.kept := by
  simp [State.chainSend]
@[simp] theorem execChainTxTimeout_answers (t : Nat) : Answers s.kept (execChainTxTimeout t s) := by
  unfold execChainTxTimeout
  dsimp only
  split <;> simp
@[simp] theorem execImageReqRetry_answers (t : Nat) : Answers s.kept (execImageReqRetry t s) := by
  simp [execImageReqRetry]
@[simp] theorem State.recStatus_keeps (v : Nat) (hk : Keeps k s.kept) : Keeps k (s.recStatus v).kept := by
  exact State.setLp_keeps s _ hk fun h => Mem.wf_write h _ _

@[simp] theorem execRecoveryHeader_answers (t : Nat) : Answers s.kept (execRecoveryHeader t s) := by
  unfold execRecoveryHeader
  extract_lets s1 h r s2 l
  have h2 : Keeps s.kept s2.kept := by simp [s2, s1]
  clear_value l
  split
  · simp [s1]
  · split <;> simp [h2]

@[simp] theorem execRecoveryInstall_answers (t : Nat) : Answers s.kept (execRecoveryInstall t s) := by
  unfold execRecoveryInstall
  dsimp only
  (repeat' split) <;> simp

/-! ### Vector -/

@[simp] theorem State.vop_kept (p : Nat) : (s.vop p).kept = s.kept := by simp [State.vop]

@[simp] theorem State.lanewise_keeps (p op : Nat) (fs : List (Nat × Nat)) (f : Nat → Cluster → Nat → Lane × Flags)
    (hk : Keeps k s.kept) :
    Keeps k (s.lanewise p op fs f).kept := by
  unfold State.lanewise
  refine State.issue_keeps _ _ _ _ _ _ hk fun w t x ht => ?_
  simp [ht]

@[simp] theorem State.lanewise2_keeps (p op : Nat) (f : Lane → Lane → Lane × Flags) (hk : Keeps k s.kept) :
    Keeps k (s.lanewise2 p op f).kept := by
  simp [State.lanewise2, hk]
@[simp] theorem State.lanewise1_keeps (p op : Nat) (f : Lane → Lane × Flags) (hk : Keeps k s.kept) :
    Keeps k (s.lanewise1 p op f).kept := by
  simp [State.lanewise1, hk]

@[simp] theorem State.lanePred_keeps (p op : Nat) (fs : List (Nat × Nat)) (f : Nat → Cluster → Nat → Bool)
    (hk : Keeps k s.kept) :
    Keeps k (s.lanePred p op fs f).kept := by
  unfold State.lanePred
  refine State.issue_keeps _ _ _ _ _ _ hk fun w t x ht => ?_
  simp [ht]

@[simp] theorem execVadd_answers (c : Fin 2048) : Answers s.kept (execVadd c s) := by simp [execVadd]
@[simp] theorem execVsub_answers (c : Fin 2048) : Answers s.kept (execVsub c s) := by simp [execVsub]
@[simp] theorem execVmul_answers (c : Fin 2048) : Answers s.kept (execVmul c s) := by simp [execVmul]
@[simp] theorem execVfma_answers (c : Fin 2048) : Answers s.kept (execVfma c s) := by simp [execVfma]
@[simp] theorem execVmin_answers (c : Fin 2048) : Answers s.kept (execVmin c s) := by simp [execVmin]
@[simp] theorem execVmax_answers (c : Fin 2048) : Answers s.kept (execVmax c s) := by simp [execVmax]
@[simp] theorem execVabs_answers (c : Fin 2048) : Answers s.kept (execVabs c s) := by simp [execVabs]
@[simp] theorem execVneg_answers (c : Fin 2048) : Answers s.kept (execVneg c s) := by simp [execVneg]
@[simp] theorem execVexp2_answers (c : Fin 2048) : Answers s.kept (execVexp2 c s) := by simp [execVexp2]
@[simp] theorem execVlog2_answers (c : Fin 2048) : Answers s.kept (execVlog2 c s) := by simp [execVlog2]
@[simp] theorem execVrcp_answers (c : Fin 2048) : Answers s.kept (execVrcp c s) := by simp [execVrcp]
@[simp] theorem execVrsq_answers (c : Fin 2048) : Answers s.kept (execVrsq c s) := by simp [execVrsq]
@[simp] theorem execVcmp_answers (c : Fin 2048) : Answers s.kept (execVcmp c s) := by simp [execVcmp]
@[simp] theorem State.reduce_keeps (p op : Nat) (idle : Lane) (f : Lane → Lane → Lane × Flags) (hk : Keeps k s.kept) :
    Keeps k (s.reduce p op idle f).kept := by
  unfold State.reduce
  refine State.issue_keeps _ _ _ _ _ _ hk fun w t x ht => ?_
  simp [ht]
@[simp] theorem execVrsum_answers (c : Fin 2048) : Answers s.kept (execVrsum c s) := by simp [execVrsum]
@[simp] theorem execVrmax_answers (c : Fin 2048) : Answers s.kept (execVrmax c s) := by simp [execVrmax]
@[simp] theorem execVsel_answers (c : Fin 2048) : Answers s.kept (execVsel c s) := by simp [execVsel]
@[simp] theorem execViadd_answers (c : Fin 2048) : Answers s.kept (execViadd c s) := by simp [execViadd]
@[simp] theorem execVisub_answers (c : Fin 2048) : Answers s.kept (execVisub c s) := by simp [execVisub]
@[simp] theorem execVimul_answers (c : Fin 2048) : Answers s.kept (execVimul c s) := by simp [execVimul]
@[simp] theorem execVand_answers (c : Fin 2048) : Answers s.kept (execVand c s) := by simp [execVand]
@[simp] theorem execVor_answers (c : Fin 2048) : Answers s.kept (execVor c s) := by simp [execVor]
@[simp] theorem execVxor_answers (c : Fin 2048) : Answers s.kept (execVxor c s) := by simp [execVxor]
@[simp] theorem execVshl_answers (c : Fin 2048) : Answers s.kept (execVshl c s) := by simp [execVshl]
@[simp] theorem execVshr_answers (c : Fin 2048) : Answers s.kept (execVshr c s) := by simp [execVshr]
@[simp] theorem execVsra_answers (c : Fin 2048) : Answers s.kept (execVsra c s) := by simp [execVsra]
@[simp] theorem execVicmp_answers (c : Fin 2048) : Answers s.kept (execVicmp c s) := by simp [execVicmp]
@[simp] theorem execVperm_answers (c : Fin 2048) : Answers s.kept (execVperm c s) := by simp [execVperm]
@[simp] theorem execVlane_answers (c : Fin 2048) : Answers s.kept (execVlane c s) := by simp [execVlane]
@[simp] theorem execPfromv_answers (c : Fin 2048) : Answers s.kept (execPfromv c s) := by simp [execPfromv]
@[simp] theorem State.readWords_kept (p : Nat) (l : List Nat) (ups : List Upset) :
    (s.readWords p l ups).1.kept = s.kept := by
  unfold State.readWords
  dsimp only
  split <;> simp
@[simp] theorem execVld_answers (c : Fin 2048) (ups : List Upset) : Answers s.kept (execVld c ups s) := by
  simp +contextual [execVld]
@[simp] theorem execVst_answers (c : Fin 2048) : Answers s.kept (execVst c s) := by simp +contextual [execVst]
@[simp] theorem execVbci_answers (c : Fin 2048) : Answers s.kept (execVbci c s) := by simp +contextual [execVbci]
@[simp] theorem execVbca_answers (c : Fin 2048) : Answers s.kept (execVbca c s) := by simp +contextual [execVbca]
@[simp] theorem execVtoa_answers (c : Fin 2048) : Answers s.kept (execVtoa c s) := by simp +contextual [execVtoa]

/-! ### Convert -/

@[simp] theorem State.setRandom_kept (p : Nat) (x : BitVec 64) : (s.setRandom p x).kept = s.kept := by
  simp [State.setRandom]
@[simp] theorem State.drawRandom_kept (p w : Nat) : (s.drawRandom p w).2.kept = s.kept := by
  unfold State.drawRandom
  split <;> simp

@[simp] theorem State.convert_keeps (p op : Nat) (ok : Nat → Bool)
    (f : Nat → Cluster → List (BitVec 64) → Nat → Lane × Flags) (hk : Keeps k s.kept) :
    Keeps k (s.convert p op ok f).kept := by
  unfold State.convert
  refine State.issue_keeps _ _ _ _ _ _ hk fun w t x ht => ?_
  simp [ht]

@[simp] theorem execCvt_answers (c : Fin 2048) : Answers s.kept (execCvt c s) := by simp [execCvt]
@[simp] theorem execCvtmx_answers (c : Fin 2048) : Answers s.kept (execCvtmx c s) := by simp [execCvtmx]
@[simp] theorem execCvtxf_answers (c : Fin 2048) : Answers s.kept (execCvtxf c s) := by simp [execCvtxf]

/-! ### Parity -/

@[simp] theorem State.setSys_kept (x : Sys) : (s.setSys x).kept = s.kept := by simp [State.setSys]
@[simp] theorem State.upsetReg_kept (u : RegUpset) : (s.upsetReg u).kept = s.kept := by
  unfold State.upsetReg
  dsimp only
  (repeat' split) <;> simp
@[simp] theorem State.freshen_kept (off inst : Nat) : (s.freshen off inst).kept = s.kept := by simp [State.freshen]

@[simp] theorem State.parityTaken_kept (off inst v : Nat) : (s.parityTaken off inst v).kept = s.kept := by
  unfold State.parityTaken
  split
  · rfl
  · split
    · rfl
    · split <;> simp

@[simp] theorem State.setFault_kept (b : Nat) (on : Bool) : (s.setFault b on).kept = s.kept := by simp [State.setFault]
@[simp] theorem State.clSafeEnter_kept (p : Nat) : (s.clSafeEnter p).kept = s.kept := by simp [State.clSafeEnter]
@[simp] theorem State.linksOff_kept (which : Nat → Bool) : (s.linksOff which).kept = s.kept := by simp [State.linksOff]
@[simp] theorem State.safeEnter_kept (off : Nat) : (s.safeEnter off).kept = s.kept := by
  unfold State.safeEnter
  split <;> simp
@[simp] theorem State.csrFault_kept (off inst : Nat) : (s.csrFault off inst).kept = s.kept := by simp [State.csrFault]
@[simp] theorem State.zeroBank_kept (r : RegRow) (off inst : Nat) : (s.zeroBank r off inst).kept = s.kept := by
  simp [State.zeroBank]
@[simp] theorem State.checkReg_kept (r : RegRow) (off inst : Nat) : (s.checkReg r off inst).kept = s.kept := by
  simp [State.checkReg]

@[simp] theorem execCsrParityScrub_answers (ups : List RegUpset) : Answers s.kept (execCsrParityScrub ups s) := by
  unfold execCsrParityScrub
  dsimp only
  split
  · simp
  · split
    · rw [answers_next, State.kept_foldl (fun t p => by simp)]
      simp
    · rw [answers_next, State.bump_kept, State.kept_foldl (fun t p => by split <;> simp),
        State.kept_foldl (fun t p => by simp)]
      simp

@[simp] theorem State.glbRefuse_kept : s.glbRefuse.kept = s.kept := by simp [State.glbRefuse]
@[simp] theorem State.resume_keeps (b : Nat) (hk : Keeps k s.kept) : Keeps k (s.resume b).kept := by
  simp [State.resume, hk]
@[simp] theorem State.release'_keeps (b : Nat) (ok : Nat → Bool) (hk : Keeps k s.kept) :
    Keeps k (s.release' b ok).kept := by
  simp [State.release', hk]
@[simp] theorem State.recheckDone_keeps (b : Nat) (hk : Keeps k s.kept) : Keeps k (s.recheckDone b).kept := by
  simp [State.recheckDone, hk]
@[simp] theorem State.crcFold_kept : s.crcFold.kept = s.kept := by simp [State.crcFold]
@[simp] theorem State.crcSoftly_kept (off old : Nat) : (s.crcSoftly off old).kept = s.kept := by
  unfold State.crcSoftly
  split <;> simp
@[simp] theorem State.bySoft_keeps (off inst v : Nat) (f : State → State) (hk : Keeps k s.kept)
    (h : ∀ t, Keeps k t.kept → Keeps k (f t).kept) : Keeps k (s.bySoft off inst v f).kept := by
  unfold State.bySoft
  simp [hk, h]
@[simp] theorem State.faultAll_kept : s.faultAll.kept = s.kept := by simp [State.faultAll]
@[simp] theorem State.releaseAll_keeps (hk : Keeps k s.kept) : Keeps k s.releaseAll.kept := by
  simp [State.releaseAll, hk]
@[simp] theorem execCrcRecompute_answers (ups : List RegUpset) : Answers s.kept (execCrcRecompute ups s) := by
  simp [execCrcRecompute]
@[simp] theorem State.crcCommitCmd_kept : s.crcCommitCmd.kept = s.kept := by simp [State.crcCommitCmd]
@[simp] theorem execCrcCommit_answers : Answers s.kept (execCrcCommit s) := by simp [execCrcCommit]
@[simp] theorem State.crcRefWrite_kept (v : Nat) : (s.crcRefWrite v).kept = s.kept := by simp [State.crcRefWrite]
@[simp] theorem State.faultClr_kept (b : Nat) : (s.faultClr b).kept = s.kept := by simp [State.faultClr]
@[simp] theorem execFaultClr_answers (block : BitVec 6) : Answers s.kept (execFaultClr block s) := by
  simp [execFaultClr]
@[simp] theorem execFaultRecheckDone_answers (block : BitVec 6) : Answers s.kept (execFaultRecheckDone block s) := by
  simp [execFaultRecheckDone]

/-! ### RegWrites -/

@[simp] theorem State.byCmd_keeps (off : Nat) (f : State → State) (hk : Keeps k s.kept)
    (h : ∀ t, Keeps k t.kept → Keeps k (f t).kept) : Keeps k (s.byCmd off f).kept :=
  State.bySoft_keeps s off 0 _ f hk h
@[simp] theorem execLoopHold_answers (hold : Bool) : Answers s.kept (execLoopHold hold s) := by simp [execLoopHold]
@[simp] theorem execGaugeCoefWrite_answers (trk : Bool) (value : BitVec 32) :
    Answers s.kept (execGaugeCoefWrite trk value s) := by
  simp [execGaugeCoefWrite]
@[simp] theorem execTpoArm_answers (n : Fin 8) : Answers s.kept (execTpoArm n s) := by simp [execTpoArm]
@[simp] theorem execTpoDisarm_answers (n : Fin 8) : Answers s.kept (execTpoDisarm n s) := by simp [execTpoDisarm]
@[simp] theorem State.tpoWrite_kept (n : Nat) (reg : TpoReg) (v : Nat) : (s.tpoWrite n reg v).kept = s.kept := by
  unfold State.tpoWrite
  split <;> simp
@[simp] theorem execTpoConfigWrite_answers (n : Fin 8) (reg : TpoReg) (value : BitVec 32) :
    Answers s.kept (execTpoConfigWrite n reg value s) := by
  simp [execTpoConfigWrite]
@[simp] theorem execTpoStartWrite_answers (n : Fin 8) (hi : Bool) (value : BitVec 32) :
    Answers s.kept (execTpoStartWrite n hi value s) := by
  simp [execTpoStartWrite]
@[simp] theorem execTblHiWrite_answers (value : BitVec 32) : Answers s.kept (execTblHiWrite value s) := by
  simp [execTblHiWrite]
@[simp] theorem execLeafRegisterWrite_answers (reg : LeafReg) (value : BitVec 32) :
    Answers s.kept (execLeafRegisterWrite reg value s) := by
  simp [execLeafRegisterWrite]
@[simp] theorem execWardrobeWrite_answers (p : Fin 16) (hi : Bool) (value : BitVec 32) :
    Answers s.kept (execWardrobeWrite p hi value s) := by
  simp [execWardrobeWrite]
@[simp] theorem execSpareWrite_answers (p : Fin 16) (value : BitVec 32) :
    Answers s.kept (execSpareWrite p value s) := by
  simp [execSpareWrite]
@[simp] theorem execProbeGo_answers (e : Fin 4) (value : BitVec 32) : Answers s.kept (execProbeGo e value s) := by
  simp [execProbeGo]
@[simp] theorem execJigCoefWrite_answers (b : Bank) (dith : Bool) (value : BitVec 32) :
    Answers s.kept (execJigCoefWrite b dith value s) := by
  simp [execJigCoefWrite]
@[simp] theorem execRcbStageWrite_answers (p : Fin 16) (hi : Bool) (value : BitVec 32) :
    Answers s.kept (execRcbStageWrite p hi value s) := by
  simp [execRcbStageWrite]
@[simp] theorem State.calRunCmd_kept (kind unit : Nat) : (s.calRunCmd kind unit).kept = s.kept := by
  simp [State.calRunCmd]
@[simp] theorem execCalRun_answers (kind : BitVec 4) (unit : BitVec 12) : Answers s.kept (execCalRun kind unit s) := by
  simp [execCalRun]
@[simp] theorem execCalSave_answers : Answers s.kept (execCalSave s) := by simp [execCalSave]
@[simp] theorem execCalRestore_answers : Answers s.kept (execCalRestore s) := by simp +contextual [execCalRestore]
@[simp] theorem execCalAbort_answers : Answers s.kept (execCalAbort s) := by simp [execCalAbort]
@[simp] theorem execCuRetrain_answers (k : Fin 6) : Answers s.kept (execCuRetrain k s) := by simp [execCuRetrain]
@[simp] theorem State.cuFields_kept (k lane : Nat) (perm : Bool) : (s.cuFields k lane perm).kept = s.kept := by
  simp [State.cuFields]
@[simp] theorem execCuSpare_answers (k : Fin 6) (lane : BitVec 4) (perm : Bool) :
    Answers s.kept (execCuSpare k lane perm s) := by
  simp [execCuSpare]
@[simp] theorem execCuBack_answers (k : Fin 6) (lane : BitVec 4) : Answers s.kept (execCuBack k lane s) := by
  simp [execCuBack]
@[simp] theorem execRingConfigWrite_answers (b : Bank) (reg : RingReg) (value : BitVec 32) :
    Answers s.kept (execRingConfigWrite b reg value s) := by
  simp [execRingConfigWrite]
@[simp] theorem execFellRegisterWrite_answers (b : Bank) (reg : FellReg) (value : BitVec 32) :
    Answers s.kept (execFellRegisterWrite b reg value s) := by
  simp [execFellRegisterWrite]
@[simp] theorem execCpyProdWrite_answers (n : Fin 12) (value : BitVec 16) :
    Answers s.kept (execCpyProdWrite n value s) := by
  simp +contextual [execCpyProdWrite]
@[simp] theorem execCohWinWrite_answers (base size : BitVec 16) : Answers s.kept (execCohWinWrite base size s) := by
  simp [execCohWinWrite]
@[simp] theorem execCtrCfgWrite_answers (n : Fin 112) (value : BitVec 32) :
    Answers s.kept (execCtrCfgWrite n value s) := by
  simp [execCtrCfgWrite]
@[simp] theorem execPatchNoteAdd_answers : Answers s.kept (execPatchNoteAdd s) := by simp [execPatchNoteAdd]
@[simp] theorem execOpkeyFuse_answers : Answers s.kept (execOpkeyFuse s) := by simp [execOpkeyFuse]
@[simp] theorem State.chainCmd_kept (type len : Nat) : (s.chainCmd type len).kept = s.kept := by simp [State.chainCmd]
@[simp] theorem execChainSend_answers (type len : BitVec 8) : Answers s.kept (execChainSend type len s) := by
  simp [execChainSend]

/-! ### Csr -/

@[simp] theorem State.refuseWrite_kept (off : Nat) : (s.refuseWrite off).kept = s.kept := by simp [State.refuseWrite]
@[simp] theorem State.lockViol_kept (off : Nat) : (s.lockViol off).kept = s.kept := by simp [State.lockViol]
@[simp] theorem State.storeFields_kept (r : RegRow) (off inst v : Nat) :
    (s.storeFields r off inst v).kept = s.kept := by
  simp [State.storeFields]
@[simp] theorem State.plainWrite_kept (r : RegRow) (off : Nat) (i : List Nat) (inst v : Nat) :
    (s.plainWrite r off i inst v).kept = s.kept := by
  simp [State.plainWrite]
@[simp] theorem State.sqClear_kept (r : RegRow) (off inst seq : Nat) : (s.sqClear r off inst seq).kept = s.kept := by
  simp [State.sqClear]
@[simp] theorem State.accError_kept (off : Nat) (x : AccErr) : (s.accError off x).kept = s.kept := by
  unfold State.accError
  split <;> simp
@[simp] theorem State.refreshWide_kept (r : RegRow) (b : Nat) : (s.refreshWide r b).kept = s.kept := by
  simp [State.refreshWide]
@[simp] theorem State.mbxSelect_kept (b : Bank) (off : Nat) : (s.mbxSelect b off).kept = s.kept := by
  unfold State.mbxSelect
  split <;> simp
@[simp] theorem execMbxSelect_answers (b : Bank) (off : BitVec 26) : Answers s.kept (execMbxSelect b off s) := by
  simp [execMbxSelect]
@[simp] theorem execMbxSampleDone_answers (b : Bank) : Answers s.kept (execMbxSampleDone b s) := by
  unfold execMbxSampleDone
  dsimp only
  split <;> simp
@[simp] theorem State.glbWrite_kept (b : Bank) (r : RegRow) (off : Nat) (i : List Nat) (inst v : Nat) :
    (s.glbWrite b r off i inst v).kept = s.kept := by
  simp [State.glbWrite]
@[simp] theorem State.gaugeWrite_kept (r : RegRow) (off : Nat) (i : List Nat) (inst v : Nat) :
    (s.gaugeWrite r off i inst v).kept = s.kept := by
  simp [State.gaugeWrite]
@[simp] theorem State.tioWrite_kept (r : RegRow) (off : Nat) (i : List Nat) (inst v : Nat) :
    (s.tioWrite r off i inst v).kept = s.kept := by
  simp [State.tioWrite]
@[simp] theorem State.pbWrite_kept (r : RegRow) (off : Nat) (i : List Nat) (inst v : Nat) :
    (s.pbWrite r off i inst v).kept = s.kept := by
  simp [State.pbWrite]
@[simp] theorem State.opeWrite_kept (r : RegRow) (off : Nat) (i : List Nat) (inst v : Nat) :
    (s.opeWrite r off i inst v).kept = s.kept := by
  simp [State.opeWrite]
@[simp] theorem State.jigWrite_kept (b : Bank) (r : RegRow) (off : Nat) (i : List Nat) (inst v : Nat) :
    (s.jigWrite b r off i inst v).kept = s.kept := by
  simp [State.jigWrite]
@[simp] theorem State.calWrite_keeps (r : RegRow) (off : Nat) (i : List Nat) (inst v : Nat) (hk : Keeps k s.kept) :
    Keeps k (s.calWrite r off i inst v).kept := by
  simp [State.calWrite, hk]
@[simp] theorem State.cuWrite_kept (r : RegRow) (off : Nat) (i : List Nat) (inst v : Nat) :
    (s.cuWrite r off i inst v).kept = s.kept := by
  simp [State.cuWrite]
@[simp] theorem State.clWrite_kept (r : RegRow) (off : Nat) (i : List Nat) (inst v : Nat) :
    (s.clWrite r off i inst v).kept = s.kept := by
  simp [State.clWrite]
@[simp] theorem State.memWrite_kept (r : RegRow) (off : Nat) (i : List Nat) (inst v : Nat) :
    (s.memWrite r off i inst v).kept = s.kept := by
  simp [State.memWrite]
@[simp] theorem State.cpyWrite_keeps (r : RegRow) (off : Nat) (i : List Nat) (inst v : Nat) (hk : Keeps k s.kept) :
    Keeps k (s.cpyWrite r off i inst v).kept := by
  simp [State.cpyWrite, hk]
@[simp] theorem State.ulkWrite_keeps (r : RegRow) (off : Nat) (i : List Nat) (inst v : Nat) (hk : Keeps k s.kept) :
    Keeps k (s.ulkWrite r off i inst v).kept := by
  simp [State.ulkWrite, hk]
@[simp] theorem State.hltWrite_kept (r : RegRow) (off : Nat) (i : List Nat) (inst v : Nat) :
    (s.hltWrite r off i inst v).kept = s.kept := by
  simp [State.hltWrite]
@[simp] theorem State.bootWrite_keeps (r : RegRow) (off : Nat) (i : List Nat) (inst v : Nat) (hk : Keeps k s.kept) :
    Keeps k (s.bootWrite r off i inst v).kept := by
  simp [State.bootWrite, hk]
@[simp] theorem State.pwrWrite_keeps (r : RegRow) (off : Nat) (i : List Nat) (inst v : Nat) (hk : Keeps k s.kept) :
    Keeps k (s.pwrWrite r off i inst v).kept := by
  simp [State.pwrWrite, hk]
@[simp] theorem State.regWrite_keeps (b : Bank) (r : RegRow) (off : Nat) (i : List Nat) (inst v : Nat)
    (hk : Keeps k s.kept) :
    Keeps k (s.regWrite b r off i inst v).kept := by
  unfold State.regWrite
  split <;> simp [hk]
@[simp] theorem State.postWrite_kept (d off v : Nat) : (s.postWrite d off v).kept = s.kept := by simp [State.postWrite]
@[simp] theorem execPostedWriteDone_answers (d : Fin 2) : Answers s.kept (execPostedWriteDone d s) := by
  unfold execPostedWriteDone
  dsimp only
  (repeat' split) <;> simp
@[simp] theorem State.takeWrite_keeps (b : Bank) (off v : Nat) (hk : Keeps k s.kept) :
    Keeps k (s.takeWrite b off v).kept := by
  unfold State.takeWrite
  (repeat' split) <;> simp +contextual [hk]
@[simp] theorem execSqClear_answers (b : Bank) (off : BitVec 26) (seq : BitVec 8) :
    Answers s.kept (execSqClear b off seq s) := by
  unfold execSqClear
  split <;> simp
@[simp] theorem State.write32_keeps (b : Bank) (off n v : Nat) (hk : Keeps k s.kept) :
    Keeps k (s.write32 b off n v).1.kept := by
  unfold State.write32
  (repeat' split) <;> simp +contextual [hk]
@[simp] theorem State.csrWrite_keeps (b : Bank) (off n v : Nat) (hk : Keeps k s.kept) :
    Keeps k (s.csrWrite b off n v).1.kept := by
  unfold State.csrWrite
  split <;> simp [hk]
@[simp] theorem execCsrWrite_answers (b : Bank) (off : BitVec 26) (size : BitVec 2) (value : BitVec 64) :
    Answers s.kept (execCsrWrite b off size value s) := by
  simp [execCsrWrite]
@[simp] theorem State.showPos_kept : s.showPos.kept = s.kept := by simp [State.showPos]

@[simp] theorem State.refresh_kept (r : RegRow) (off : Nat) (i : List Nat) (inst : Nat) :
    (s.refresh r off i inst).kept = s.kept := by
  unfold State.refresh
  simp
  intros
  split <;> simp

@[simp] theorem State.readWord_kept (b : Bank) (off : Nat) : (s.readWord b off).1.kept = s.kept := by
  unfold State.readWord
  dsimp only
  (repeat' split) <;> simp
@[simp] theorem State.read32_kept (b : Bank) (off n : Nat) : (s.read32 b off n).1.kept = s.kept := by
  unfold State.read32
  split <;> simp
@[simp] theorem State.csrRead_kept (b : Bank) (off n : Nat) : (s.csrRead b off n).1.kept = s.kept := by
  unfold State.csrRead
  split <;> simp
@[simp] theorem State.csrServed_keeps (tag : Nat) (f : State → State) (hk : Keeps k s.kept)
    (h : ∀ t, Keeps k t.kept → Keeps k (f t).kept) : Keeps k (s.csrServed tag f).kept := by
  unfold State.csrServed
  simp [hk, h]
@[simp] theorem State.csrAnswer_kept (m : Msg) : (s.csrAnswer m).kept = s.kept := by simp [State.csrAnswer]

@[simp] theorem execCsrWr_answers (tag : BitVec 12) (off : BitVec 26) (size : BitVec 2) (value : BitVec 64) :
    Answers s.kept (execCsrWr tag off size value s) := by
  refine State.csrServed_keeps s _ _ (Keeps.refl _) fun t ht => ?_
  have hr := State.csrWrite_keeps t .link off.toNat (2 ^ size.toNat) value.toNat ht
  split
  all_goals
    next h =>
    rw [h] at hr
    simpa using hr

@[simp] theorem execCsrRd_answers (tag : BitVec 12) (off : BitVec 26) (size : BitVec 2) (ups : List RegUpset) :
    Answers s.kept (execCsrRd tag off size ups s) := by
  refine State.csrServed_keeps s _ _ (Keeps.refl _) fun t ht => ?_
  have hr := State.csrRead_kept (ups.foldl State.upsetReg t) .link off.toNat (2 ^ size.toNat)
  rw [State.kept_foldl (fun t p => by simp)] at hr
  split
  all_goals
    next h =>
    rw [h] at hr
    simpa [hr] using ht

/-! ### Firmware -/

@[simp] theorem State.setSvc_kept (x : Svc) : (s.setSvc x).kept = s.kept := by simp [State.setSvc]
@[simp] theorem State.reply_kept (seq cmd result len : Nat) : (s.reply seq cmd result len).kept = s.kept := by
  simp [State.reply]
@[simp] theorem State.answer_kept (l : List Byte) (result len : Nat) : (s.answer l result len).kept = s.kept := by
  simp [State.answer]
@[simp] theorem State.takeLine_kept (l : List Byte) : (s.takeLine l).kept = s.kept := by
  unfold State.takeLine
  dsimp only
  split <;> simp

@[simp] theorem State.takePoll_keeps (hk : Keeps k s.kept) : Keeps k s.takePoll.kept := by
  unfold State.takePoll
  split
  · exact hk
  · split
    next h => simp [State.keeps_of_moveEnd s h hk]
    next h => exact State.keeps_of_moveEnd s h hk

@[simp] theorem execServicePoll_answers (t : Nat) : Answers s.kept (execServicePoll t s) := by simp [execServicePoll]
@[simp] theorem State.putSlot_kept (list : Bool) (i : Nat) (l : List Byte) : (s.putSlot list i l).kept = s.kept := by
  simp [State.putSlot]
@[simp] theorem State.altStart_kept (rq l : List Byte) : (s.altStart rq l).kept = s.kept := by simp [State.altStart]

@[simp] theorem State.altFetch_keeps (ups : List Upset) (hk : Keeps k s.kept) : Keeps k (s.altFetch ups).kept := by
  unfold State.altFetch
  split
  · exact hk
  · split
    all_goals next h => simp [State.keeps_of_moveEnd s h hk]

@[simp] theorem State.altAccept_kept (rq : List Byte) : (s.altAccept rq).kept = s.kept := by simp [State.altAccept]
@[simp] theorem execAlter_answers (ups : List Upset) (t : Nat) : Answers s.kept (execAlter ups t s) := by
  unfold execAlter
  dsimp only
  (repeat' split) <;> simp
@[simp] theorem execAlterComplete_answers (good : Bool) (t : Nat) : Answers s.kept (execAlterComplete good t s) := by
  unfold execAlterComplete
  dsimp only
  (repeat' split) <;> simp
@[simp] theorem State.resultBegin_kept (rq out : List Byte) : (s.resultBegin rq out).kept = s.kept := by
  simp [State.resultBegin]

@[simp] theorem State.resultEnd_keeps (hk : Keeps k s.kept) : Keeps k s.resultEnd.kept := by
  unfold State.resultEnd
  split
  · exact hk
  · split
    all_goals next h => simp [State.keeps_of_moveEnd s h hk]

@[simp] theorem execAttest_answers (t : Nat) : Answers s.kept (execAttest t s) := by
  unfold execAttest
  extract_lets s1 s2 d
  have h2 : Keeps s.kept s2.kept := by simp [s2, s1]
  have hd : Keeps s.kept d.2.kept := by simp [d, h2]
  split
  · simp [s1]
  · split <;> simp [h2, hd]

@[simp] theorem execCert_answers (t : Nat) : Answers s.kept (execCert t s) := by
  unfold execCert
  extract_lets s1 s2
  have h2 : Keeps s.kept s2.kept := by simp [s2, s1]
  split
  · simp [s1]
  · split <;> simp [h2]

@[simp] theorem execFwSlotErase_answers (t : Nat) : Answers s.kept (execFwSlotErase t s) := by
  unfold execFwSlotErase
  dsimp only
  split <;> simp

/-! ### Frame -/

@[simp] theorem State.pairFrame_kept (f p j : Nat) : (s.pairFrame f p j).kept = s.kept := by simp [State.pairFrame]
@[simp] theorem State.cacheAge_kept (p j : Nat) : (s.cacheAge p j).kept = s.kept := by simp [State.cacheAge]
@[simp] theorem State.laneFrame_kept (f k i : Nat) : (s.laneFrame f k i).kept = s.kept := by simp [State.laneFrame]
@[simp] theorem State.portFrame_kept (p : Nat) : (s.portFrame p).kept = s.kept := by simp [State.portFrame]

@[simp] theorem State.fabricFrame_kept (f : Nat) (powers : List PortPower) :
    (s.fabricFrame f powers).kept = s.kept := by
  unfold State.fabricFrame
  extract_lets s1 s2 s3 s4 s5 s6
  have h1 : s1.kept = s.kept := State.kept_foldl (fun t x => by simp) _ _
  have h3 : s3.kept = s.kept := by simp [s3, s2, h1]
  have h6 : s6.kept = s.kept := by simp [s6, s5, s4, h3]
  simp [h6]

@[simp] theorem State.frameBoundary_kept (f : Nat) (powers : List PortPower) :
    (s.frameBoundary f powers).kept = s.kept := by
  simp [State.frameBoundary]
@[simp] theorem execFrameBoundary_answers (frame : Nat) (powers : List PortPower) :
    Answers s.kept (execFrameBoundary frame powers s) := by
  simp [execFrameBoundary]
@[simp] theorem execTelemetryTick_answers (t : Nat) : Answers s.kept (execTelemetryTick t s) := by
  unfold execTelemetryTick
  dsimp only
  (repeat' split) <;> simp

/-! ### Matrix -/

@[simp] theorem execMma_answers (c : Fin 2048) (ups : List Upset) : Answers s.kept (execMma c ups s) := by
  unfold execMma
  simp only [answers_next]
  refine State.issue_keeps _ _ _ _ _ _ (Keeps.refl _) fun w t x ht => ?_
  simp [ht]
@[simp] theorem execTzero_answers (c : Fin 2048) : Answers s.kept (execTzero c s) := by simp +contextual [execTzero]
@[simp] theorem execTld_answers (c : Fin 2048) (ups : List Upset) : Answers s.kept (execTld c ups s) := by
  simp +contextual [execTld]
@[simp] theorem execTst_answers (c : Fin 2048) : Answers s.kept (execTst c s) := by simp +contextual [execTst]
@[simp] theorem execTrv_answers (c : Fin 2048) : Answers s.kept (execTrv c s) := by simp +contextual [execTrv]
@[simp] theorem execVtr_answers (c : Fin 2048) : Answers s.kept (execVtr c s) := by simp +contextual [execVtr]

/-! ### Every command -/

/-- Every command, in every state, has a next state, in which the same commands wait and main memory is canonical if it
was. -/
theorem exec_answers (i : Instr) (s : State) : Answers s.kept (exec i s) := by
  cases i <;> simp

/-- A step that answers keeps main memory's form. -/
theorem step_keeps {s t : State} (h : step s = .next t) : s.memoryWf → t.memoryWf := by
  unfold step at h
  split at h
  · cases h
    exact id
  next c rest hp =>
    have hk := exec_answers c { s with pending := rest }
    rw [h] at hk
    exact hk.2

/-- Settles O60: every command keeps the form, and a step is one command's effect. -/
theorem memoryForm : Obligations.MemoryForm := by
  unfold Obligations.MemoryForm
  exact fun s t hs h => step_keeps h hs

end Sys2Proof.Machine
end

section
/-! SUPPORT. The receive rings and the fell streams (R365-R371): what each register's write stores, resets or refuses,
what a claim and a release do to a ring's entries, and the statement about them. -/
namespace Sys2Proof.Machine
open Sys2Proof

/-! ### A ring's change -/

/-- The counts that RING_STAT shows are all that a ring's change writes of the registers. -/
theorem State.setRing_regsBut (s : State) (r : Nat) (x : Ring) {l : List Field} (hw : MEM.RING_STAT.WRITTEN r ∈ l)
    (hc : MEM.RING_STAT.CLAIMED r ∈ l) : s.regsBut (s.setRing r x) l := by
  have hrings : s.regsBut { s with comp := { s.comp with rings := Tbl.put s.comp.rings {} r x } } l :=
    State.regsBut_of_regs rfl l
  exact State.regsBut_trans (State.regsBut_trans hrings (State.regsBut_wr _ _ hw)) (State.regsBut_wr _ _ hc)

theorem State.resetRing_entries (s : State) (r : Nat) : ((s.resetRing r).ring r).entries = [] := by
  rw [State.resetRing, State.setRing_ring_self]

theorem State.resetRing_sys (s : State) (r : Nat) : (s.resetRing r).sys = s.sys := rfl

theorem State.resetRing_regsBut (s : State) (r : Nat) :
    s.regsBut (s.resetRing r) [MEM.RING_STAT.WRITTEN r, MEM.RING_STAT.CLAIMED r] :=
  State.setRing_regsBut s r _ (by simp) (by simp)

/-- A reset reads as before wherever a field stands apart from RING_STAT's counts. -/
theorem State.resetRing_rd (s : State) (r : Nat) {g : Field}
    (hg : [MEM.RING_STAT.WRITTEN r, MEM.RING_STAT.CLAIMED r].all (Field.apart g) = true) :
    (s.resetRing r).rd g = s.rd g :=
  State.regsBut_rd (s.resetRing_regsBut r) hg

/-! ### Writes of a ring's registers (R367) -/

/-- A ring's configuration stored: the four fields of RING_CFG. -/
def State.ringCfgStored (s : State) (r v : Nat) : State :=
  (((s.wr (MEM.RING_CFG.JOB_EN r) (bitsOf v 31 1)).wr (MEM.RING_CFG.JOB r) (bitsOf v 28 3)).wr
    (MEM.RING_CFG.ENTRIES r) (bitsOf v 16 11)).wr (MEM.RING_CFG.SLOT64 r) (bitsOf v 0 9)

theorem State.ringCfgStored_shows (s : State) (r v : Nat) :
    (s.ringCfgStored r v).rd (MEM.RING_CFG.ENTRIES r) = bitsOf v 16 11 ∧
      (s.ringCfgStored r v).rd (MEM.RING_CFG.SLOT64 r) = bitsOf v 0 9 ∧
      (s.ringCfgStored r v).rd (MEM.RING_CFG.JOB r) = bitsOf v 28 3 ∧
      (s.ringCfgStored r v).rd (MEM.RING_CFG.JOB_EN r) = bitsOf v 31 1 := by
  unfold State.ringCfgStored
  refine ⟨?entries, ?slot, ?job, ?jobEn⟩
  case entries => rw [State.rd_wr_ne _ _ (Field.key_ne_of_lo rfl), State.rd_wr_self]; exact bitsOf_mod _ _ _
  case slot => rw [State.rd_wr_self]; exact bitsOf_mod _ _ _
  case job =>
    rw [State.rd_wr_ne _ _ (Field.key_ne_of_lo rfl), State.rd_wr_ne _ _ (Field.key_ne_of_lo rfl), State.rd_wr_self]
    exact bitsOf_mod _ _ _
  case jobEn =>
    rw [State.rd_wr_ne _ _ (Field.key_ne_of_lo rfl), State.rd_wr_ne _ _ (Field.key_ne_of_lo rfl),
      State.rd_wr_ne _ _ (Field.key_ne_of_lo rfl), State.rd_wr_self]
    exact bitsOf_mod _ _ _

theorem execRingConfigWrite_baseLo_of_taken {s : State} {b : Bank} {v : BitVec 32} {r : Nat} (hs : s.csrSound)
    (hr : s.rd (MEM.RING_SEL.RING b.num) = r)
    (h : s.ringRefused (v.toNat + 2 ^ 32 * s.rd (MEM.RING_BASE_HI.ADDR r)) (s.rd (MEM.RING_CFG.ENTRIES r))
      (s.rd (MEM.RING_CFG.SLOT64 r)) = false) :
    execRingConfigWrite b .baseLo v s = .next ((s.wr (MEM.RING_BASE_LO.ADDR r) v.toNat).resetRing r) := by
  have hw : s.ringWrite r .baseLo v.toNat = (s.wr (MEM.RING_BASE_LO.ADDR r) v.toNat).resetRing r :=
    if_neg (by rw [h]; exact Bool.false_ne_true)
  rw [execRingConfigWrite, hr, State.bySoft_of_csrSound _ _ _ hs (by rw [hw, State.resetRing_sys, State.wr_sys]), hw]

theorem execRingConfigWrite_baseLo_of_refused {s : State} {b : Bank} {v : BitVec 32} {r : Nat} (hs : s.csrSound)
    (hr : s.rd (MEM.RING_SEL.RING b.num) = r)
    (h : s.ringRefused (v.toNat + 2 ^ 32 * s.rd (MEM.RING_BASE_HI.ADDR r)) (s.rd (MEM.RING_CFG.ENTRIES r))
      (s.rd (MEM.RING_CFG.SLOT64 r)) = true) :
    execRingConfigWrite b .baseLo v s = .next (s.raise MEM.EVENT.CFG_ERR) := by
  have hw : s.ringWrite r .baseLo v.toNat = s.raise MEM.EVENT.CFG_ERR := if_pos h
  rw [execRingConfigWrite, hr, State.bySoft_of_raise _ _ _ hs hw]

theorem execRingConfigWrite_cfg_of_taken {s : State} {b : Bank} {v : BitVec 32} {r : Nat} (hs : s.csrSound)
    (hr : s.rd (MEM.RING_SEL.RING b.num) = r)
    (h : s.ringRefused (s.rd (MEM.RING_BASE_LO.ADDR r) + 2 ^ 32 * s.rd (MEM.RING_BASE_HI.ADDR r))
      (bitsOf v.toNat 16 11) (bitsOf v.toNat 0 9) = false) :
    execRingConfigWrite b .cfg v s = .next ((s.ringCfgStored r v.toNat).resetRing r) := by
  have hw : s.ringWrite r .cfg v.toNat = (s.ringCfgStored r v.toNat).resetRing r :=
    if_neg (by rw [h]; exact Bool.false_ne_true)
  rw [execRingConfigWrite, hr, State.bySoft_of_csrSound _ _ _ hs (by rw [hw]; rfl), hw]

/-- A base that is taken is stored, and its ring reset. -/
theorem State.ringBased_shows (s : State) (r : Nat) (v : BitVec 32) :
    let t := (s.wr (MEM.RING_BASE_LO.ADDR r) v.toNat).resetRing r
    t.rd (MEM.RING_BASE_LO.ADDR r) = v.toNat ∧ (t.ring r).entries = [] ∧
      s.regsBut t [MEM.RING_BASE_LO.ADDR r, MEM.RING_STAT.WRITTEN r, MEM.RING_STAT.CLAIMED r] := by
  refine ⟨?base, State.resetRing_entries _ r, ?frame⟩
  case base => rw [State.resetRing_rd _ _ rfl, State.rd_wr_self]; exact Nat.mod_eq_of_lt v.isLt
  case frame =>
    exact State.regsBut_trans (State.regsBut_wr s _ (by simp))
      (State.regsBut_mono (State.resetRing_regsBut _ r) fun _ h => List.mem_cons_of_mem _ h)

/-- A configuration that is taken is stored, and its ring reset. -/
theorem State.ringConfigured_shows (s : State) (r v : Nat) :
    let t := (s.ringCfgStored r v).resetRing r
    t.rd (MEM.RING_CFG.ENTRIES r) = bitsOf v 16 11 ∧ t.rd (MEM.RING_CFG.SLOT64 r) = bitsOf v 0 9 ∧
      t.rd (MEM.RING_CFG.JOB r) = bitsOf v 28 3 ∧ t.rd (MEM.RING_CFG.JOB_EN r) = bitsOf v 31 1 ∧
      (t.ring r).entries = [] := by
  obtain ⟨hentries, hslot, hjob, hjobEn⟩ := s.ringCfgStored_shows r v
  exact ⟨(State.resetRing_rd _ r rfl).trans hentries, (State.resetRing_rd _ r rfl).trans hslot,
    (State.resetRing_rd _ r rfl).trans hjob, (State.resetRing_rd _ r rfl).trans hjobEn, State.resetRing_entries _ r⟩

/-! ### Claims and releases (R366) -/

/-- The entry that a claim takes is CLAIMED after it. -/
theorem State.claim_claimed {s u : State} {r : Nat} {k : Claim} (h : s.claim r = some (k, u)) :
    (Tbl.look (u.ring r).entries k.idx).map RingEntry.use = some .claimed := by
  obtain ⟨e, -, heq⟩ := Option.map_eq_some_iff.1 h
  obtain ⟨rfl, rfl⟩ := Prod.mk.inj heq
  rw [State.setRing_ring_self, Tbl.look_set_self]
  rfl

theorem execRingClaim_of_claim {s u : State} {b : Bank} {r : Nat} {k : Claim}
    (hr : s.rd (MEM.RING_SEL.RING b.num) = r) (h : s.claim r = some (k, u)) :
    execRingClaim b s = .next ((u.wr (MEM.RING_CLAIM.VALID r) 1).wr (MEM.RING_CLAIM.INDEX r) k.idx) := by
  rw [execRingClaim, hr, State.claimRead, h]

theorem execRingClaim_of_none {s : State} {b : Bank} {r : Nat} (hr : s.rd (MEM.RING_SEL.RING b.num) = r)
    (h : s.claim r = none) :
    execRingClaim b s = .next ((s.wr (MEM.RING_CLAIM.VALID r) 0).wr (MEM.RING_CLAIM.INDEX r) 0) := by
  rw [execRingClaim, hr, State.claimRead, h]

/-- A claim that finds nothing reads VALID zero and changes nothing but RING_CLAIM. -/
theorem State.claimedNone_shows (s : State) (r : Nat) :
    let t := (s.wr (MEM.RING_CLAIM.VALID r) 0).wr (MEM.RING_CLAIM.INDEX r) 0
    t.rd (MEM.RING_CLAIM.VALID r) = 0 ∧ s.onlyRegs t [MEM.RING_CLAIM.VALID r, MEM.RING_CLAIM.INDEX r] := by
  refine ⟨?valid, rfl, State.regsBut_trans (State.regsBut_wr s _ (by simp)) (State.regsBut_wr _ _ (by simp))⟩
  rw [State.rd_wr_ne _ _ (Field.key_ne_of_lo rfl), State.rd_wr_self]
  rfl

theorem State.ringRelease_of_claimed {s : State} {r i g : Nat}
    (h : Tbl.look (s.ring r).entries i = some ⟨.claimed, g⟩) : s.ringRelease r i = s.freeEntry r i := by
  rw [State.ringRelease, h]
  exact if_pos rfl

theorem State.ringRelease_of_unclaimed {s : State} {r i : Nat}
    (h : ∀ g, Tbl.look (s.ring r).entries i ≠ some ⟨.claimed, g⟩) : s.ringRelease r i = s := by
  cases he : Tbl.look (s.ring r).entries i with
  | none => rw [State.ringRelease, he]
  | some e =>
    have hne : e.use ≠ .claimed := fun hu => h e.gen (by rw [he, ← hu])
    rw [State.ringRelease, he]
    exact if_neg hne

/-- An entry freed is in no use; the ring's other entries stay. -/
theorem State.freeEntry_shows (s : State) (r i : Nat) :
    Tbl.look ((s.freeEntry r i).ring r).entries i = none ∧
      (∀ k, k ≠ i → Tbl.look ((s.freeEntry r i).ring r).entries k = Tbl.look (s.ring r).entries k) ∧
      s.regsBut (s.freeEntry r i) [MEM.RING_STAT.WRITTEN r, MEM.RING_STAT.CLAIMED r] := by
  have hring : ((s.freeEntry r i).ring r).entries = Tbl.del (s.ring r).entries i := by
    rw [State.freeEntry, State.setRing_ring_self]
  exact ⟨by rw [hring, Tbl.look_del_self], fun k hk => by rw [hring, Tbl.look_del_ne _ hk],
    State.setRing_regsBut s r _ (by simp) (by simp)⟩

/-! ### Writes of a stream's registers (R368, R369) -/

theorem execFellRegisterWrite_baseLo_of_taken {s : State} {b : Bank} {v : BitVec 32} {f : Nat} (hs : s.csrSound)
    (hf : s.rd (MEM.FELL_SEL.STREAM b.num) = f)
    (h : s.fellBaseBad (v.toNat + 2 ^ 32 * s.rd (MEM.FELL_BASE_HI.ADDR f)) = false) :
    execFellRegisterWrite b .baseLo v s = .next (s.wr (MEM.FELL_BASE_LO.ADDR f) v.toNat) := by
  have hw : s.fellWrite f .baseLo v.toNat = s.wr (MEM.FELL_BASE_LO.ADDR f) v.toNat :=
    if_neg (by rw [h]; exact Bool.false_ne_true)
  rw [execFellRegisterWrite, hf, State.bySoft_of_wr _ _ _ hs hw]

theorem execFellRegisterWrite_cfg_of_zero {s : State} {b : Bank} {v : BitVec 32} (hs : s.csrSound)
    (h : bitsOf v.toNat 0 14 = 0) : execFellRegisterWrite b .cfg v s = .next (s.raise MEM.EVENT.CFG_ERR) :=
  congrArg Host.Outcome.next (State.bySoft_of_raise _ _ _ hs (if_pos h))

theorem execFellRegisterWrite_cur_of_lt {s : State} {b : Bank} {v : BitVec 32} {f : Nat} (hs : s.csrSound)
    (hf : s.rd (MEM.FELL_SEL.STREAM b.num) = f) (h : v.toNat < s.rd (MEM.FELL_LEN.LENGTH f)) :
    execFellRegisterWrite b .cur v s = .next (s.wr (MEM.FELL_CUR.CURSOR f) v.toNat) := by
  have hw : s.fellWrite f .cur v.toNat = s.wr (MEM.FELL_CUR.CURSOR f) v.toNat := if_neg (Nat.not_le.2 h)
  rw [execFellRegisterWrite, hf, State.bySoft_of_wr _ _ _ hs hw]

/-- A length at or below the cursor takes the cursor back to zero. -/
theorem execFellRegisterWrite_len_of_le {s : State} {b : Bank} {v : BitVec 32} {f : Nat} (hs : s.csrSound)
    (hf : s.rd (MEM.FELL_SEL.STREAM b.num) = f) (h : v.toNat ≤ s.rd (MEM.FELL_CUR.CURSOR f)) :
    execFellRegisterWrite b .len v s =
      .next ((s.wr (MEM.FELL_LEN.LENGTH f) v.toNat).wr (MEM.FELL_CUR.CURSOR f) 0) := by
  have hcur : (s.wr (MEM.FELL_LEN.LENGTH f) v.toNat).rd (MEM.FELL_CUR.CURSOR f) = s.rd (MEM.FELL_CUR.CURSOR f) :=
    State.rd_wr_ne s _ (Field.key_ne_of_apart rfl)
  have hw : s.fellWrite f .len v.toNat = (s.wr (MEM.FELL_LEN.LENGTH f) v.toNat).wr (MEM.FELL_CUR.CURSOR f) 0 :=
    if_pos (by rw [hcur]; exact h)
  rw [execFellRegisterWrite, hf, State.bySoft_of_csrSound _ _ _ hs (by rw [hw, State.wr_sys, State.wr_sys]), hw]

theorem State.fellRewound_shows (s : State) (f v : Nat) :
    let t := (s.wr (MEM.FELL_LEN.LENGTH f) v).wr (MEM.FELL_CUR.CURSOR f) 0
    t.rd (MEM.FELL_CUR.CURSOR f) = 0 ∧ t.rd (MEM.FELL_LEN.LENGTH f) = v % 2 ^ (MEM.FELL_LEN.LENGTH f).width ∧
      s.onlyRegs t [MEM.FELL_LEN.LENGTH f, MEM.FELL_CUR.CURSOR f] := by
  refine ⟨?cursor, ?length, rfl, State.regsBut_trans (State.regsBut_wr s _ (by simp)) (State.regsBut_wr _ _ (by simp))⟩
  case cursor => rw [State.rd_wr_self]; exact Nat.zero_mod _
  case length => rw [State.rd_wr_ne _ _ (Field.key_ne_of_apart rfl), State.rd_wr_self]

/-- A refusal is the event CFG_ERR of the memories, and nothing else. -/
theorem State.memCfgErr_flags (s : State) : s.flagged (s.raise MEM.EVENT.CFG_ERR) MEM.EVENT.CFG_ERR ∧
    s.onlyEvent (s.raise MEM.EVENT.CFG_ERR) [MEM.EVENT.CFG_ERR, seqOf MEM.EVENT.CFG_ERR] :=
  State.raise_flags s [] (by decide) rfl (by decide) (by decide)

/-- Settles O24: a write that is refused is its event, one that is taken is its fields stored and, in a ring, the ring
reset; a claim and a release change the one entry. -/
theorem ringsAndStreams : Obligations.RingsAndStreams := by
  unfold Obligations.RingsAndStreams
  refine ⟨fun s b v hs => ⟨fun h => ?ringBase, fun h => ?ringBaseRefused, fun h => ?ringCfg⟩, fun s u b k h => ?claim,
    fun s b h => ?claimNone, fun s b i g h => ?release, fun s b i h => ?releaseIgnored,
    fun s b v hs => ⟨fun h => ?fellBase, fun h => ?fellCfg, fun h => ?fellCur, fun h => ?fellLen⟩⟩
  case ringBase => exact ⟨_, execRingConfigWrite_baseLo_of_taken hs rfl h, s.ringBased_shows _ v⟩
  case ringBaseRefused => exact ⟨_, execRingConfigWrite_baseLo_of_refused hs rfl h, s.memCfgErr_flags⟩
  case ringCfg => exact ⟨_, execRingConfigWrite_cfg_of_taken hs rfl h, s.ringConfigured_shows _ v.toNat⟩
  case claim => exact ⟨execRingClaim_of_claim rfl h, State.claim_claimed h⟩
  case claimNone => exact ⟨_, execRingClaim_of_none rfl h, s.claimedNone_shows _⟩
  case release => exact ⟨_, congrArg Host.Outcome.next (State.ringRelease_of_claimed h), s.freeEntry_shows _ i.toNat⟩
  case releaseIgnored => exact congrArg Host.Outcome.next (State.ringRelease_of_unclaimed h)
  case fellBase => exact ⟨_, execFellRegisterWrite_baseLo_of_taken hs rfl h, State.wr_onlyRegs v.isLt⟩
  case fellCfg => exact ⟨_, execFellRegisterWrite_cfg_of_zero hs h, s.memCfgErr_flags⟩
  case fellCur =>
    exact ⟨_, execFellRegisterWrite_cur_of_lt hs rfl h, State.rd_wr_self s _ _, rfl,
      State.regsBut_wr s _ (List.mem_singleton.2 rfl)⟩
  case fellLen => exact ⟨_, execFellRegisterWrite_len_of_le hs rfl h, s.fellRewound_shows _ v.toNat⟩

end Sys2Proof.Machine
end

section
/-! SUPPORT. Commands and steps (INDEX.md; 95_what_each_step_holds.md): what every command answers, and what it and a
step do to the queue. -/
namespace Sys2Proof.Machine
open Sys2Proof

theorem exec_next (i : Instr) (s : State) : ∃ t, exec i s = .next t := by
  have h := exec_answers i s
  cases hx : exec i s with
  | next t => exact ⟨t, rfl⟩
  | _ => rw [hx] at h; exact h.elim

theorem exec_pending {i : Instr} {s t : State} (h : exec i s = .next t) : t.pending = s.pending := by
  have hk := exec_answers i s
  rw [h] at hk
  exact hk.1

theorem step_of_nil {s : State} (h : s.pending = []) : step s = .next s := by
  unfold step
  rw [h]

theorem step_of_cons {s : State} {c : Instr} {rest : List Instr} (h : s.pending = c :: rest) :
    step s = exec c { s with pending := rest } := by
  unfold step
  rw [h]

/-- Settles O57: a step is by its definition a split on the queue. -/
theorem stepRunsFront : Obligations.StepRunsFront := by
  unfold Obligations.StepRunsFront
  exact ⟨fun c rest s => step_of_cons (s := { s with pending := c :: rest }) rfl, fun s h => step_of_nil h⟩

/-- Settles O58: each command answers a next state, and a step is one command's effect or none. -/
theorem everyCommandAnswers : Obligations.EveryCommandAnswers := by
  unfold Obligations.EveryCommandAnswers
  refine ⟨exec_next, fun s => ?_⟩
  cases hp : s.pending with
  | nil => exact ⟨s, step_of_nil hp⟩
  | cons c rest => rw [step_of_cons hp]; exact exec_next c _

/-- Settles O59: a command keeps the queue it is given, and a step gives it the queue's rest. -/
theorem queueKept : Obligations.QueueKept := by
  unfold Obligations.QueueKept
  refine ⟨fun c s t h => exec_pending h, fun s t h => ?_⟩
  cases hp : s.pending with
  | nil => rw [step_of_nil hp] at h; cases h; rw [hp]; rfl
  | cons c rest => rw [step_of_cons hp] at h; exact exec_pending h

end Sys2Proof.Machine
end

section
/-! SUPPORT. Events whose flag stands above the counters' registers, and the resets (15_boot_cutting_list.md, R454-R457):
what a request does, and the statement about them. -/
namespace Sys2Proof.Machine
open Sys2Proof

/-! ### A flag of any width, in a register of its own -/

/-- A flag of any width reads 1 when it is set. -/
theorem State.rd_setFlag_one (s : State) {f : Field} (hw : 1 ≤ f.width) (hl : f.lo ≠ 24) : (s.setFlag f).rd f = 1 := by
  have h : f.key ≠ (seqOf f).key := by simp only [Field.key]; omega
  rw [State.setFlag, State.rd_bump_ne _ h, State.rd_wr_self]
  exact Nat.mod_eq_of_lt (Nat.one_lt_two_pow (by omega))

theorem State.setFlag_flagged (s : State) {f : Field} (hw : 1 ≤ f.width) (hl : f.lo ≠ 24) : s.flagged (s.setFlag f) f :=
  ⟨State.rd_setFlag_one s hw hl, State.rd_setFlag_seq s hl⟩

/-- An event flags its flag, wherever flag and SEQ stand apart from what the recorder keeps. -/
theorem State.raise_flagged (s : State) {f : Field} (v : Nat) (d : List Byte) (hw : 1 ≤ f.width) (hl : f.lo ≠ 24)
    (hf : f.key ∉ recorderFields.map Field.key) (hs : (seqOf f).key ∉ recorderFields.map Field.key) :
    s.flagged (s.raise f v d) f := by
  refine ⟨?flag, State.raise_rd_seq s v d hl hs⟩
  rw [State.raise, State.logEvent_rd _ _ _ _ _ _ hf, State.rd_setFlag_one s hw hl]

theorem State.raise_regsButEvent (s : State) (f : Field) (v : Nat) (d : List Byte) :
    s.regsButEvent (s.raise f v d) [f, seqOf f] :=
  State.raise_regsBut s v d (by simp) (by simp) fun _ hg => List.mem_append_right _ hg

/-- An event that is not FATAL, with its flag and SEQ apart from what the recorder keeps, as a clause states it. -/
theorem State.raise_event (s : State) {f : Field} {v : Nat} (d : List Byte) (hv : v ≠ 3) (hw : 1 ≤ f.width)
    (hl : f.lo ≠ 24) (hf : f.key ∉ recorderFields.map Field.key) (hs : (seqOf f).key ∉ recorderFields.map Field.key) :
    s.flagged (s.raise f v d) f ∧ s.onlyEvent (s.raise f v d) [f, seqOf f] :=
  ⟨State.raise_flagged s v d hw hl hf hs, State.raise_onlyEvent s d hv (by simp) (by simp)⟩

/-! ### Requests of a reset (R455) -/

/-- A refused request is counted and flagged. -/
theorem State.rstRefuse_shows (s : State) :
    s.flagged s.rstRefuse BOOT.EVENT.RST_REFUSED ∧
      s.rstRefuse.rd BOOT.COUNTS.RST_REFUSED = (s.rd BOOT.COUNTS.RST_REFUSED + 1) % 2 ^ BOOT.COUNTS.RST_REFUSED.width ∧
      s.onlyEvent s.rstRefuse [BOOT.COUNTS.RST_REFUSED, BOOT.EVENT.RST_REFUSED, seqOf BOOT.EVENT.RST_REFUSED] := by
  obtain ⟨⟨hflag, hseq⟩, -⟩ := (s.bump BOOT.COUNTS.RST_REFUSED).raise_event (f := BOOT.EVENT.RST_REFUSED) (v := 0) []
    (by decide) (by decide) (by decide) (by decide) (by decide)
  refine ⟨⟨hflag, ?seq⟩, ?count, State.bump_raise_onlyEvent s _ [] (by decide)⟩
  case seq => rw [State.rstRefuse, hseq, State.rd_bump_ne _ (by decide)]
  case count => rw [State.rstRefuse, State.raise_rd_ne _ _ _ (by decide) (by decide) (by decide), State.rd_bump_self]

theorem State.rstRefused_iff (s : State) (kind : Nat) :
    s.rstRefused kind = true ↔ (s.pwState = pwDark ∧ kind ≠ 0) ∨ (s.phase ≠ phDone ∧ 2 ≤ kind) := by
  simp [State.rstRefused]

theorem State.requestReset_of_absorbed {s : State} {kind k : Nat} (cause : Nat) (h : s.rstRefused kind = false)
    (hk : s.sys.reset = some k) (hle : k ≤ kind) : s.requestReset kind cause = s.bump BOOT.COUNTS.RST_MERGED := by
  rw [State.requestReset, if_neg (by simp [h]), hk]
  exact if_pos hle

theorem State.requestReset_of_begun {s : State} {kind : Nat} (cause : Nat) (h : s.rstRefused kind = false)
    (hk : s.sys.reset = none ∨ ∃ k, s.sys.reset = some k ∧ kind < k ∧ k ≠ 3) :
    s.requestReset kind cause = s.startReset kind cause := by
  rw [State.requestReset, if_neg (by simp [h])]
  obtain hnone | ⟨k, hsome, hlt, hne⟩ := hk
  · rw [hnone]
  · rw [hsome]
    exact (if_neg (Nat.not_le.2 hlt)).trans (by rw [if_neg hne])

/-- A stronger reset abandons a COMPUTE, whose end comes first. -/
theorem State.requestReset_of_compute {s : State} {kind : Nat} (cause : Nat) (h : s.rstRefused kind = false)
    (hk : s.sys.reset = some 3) (hlt : kind < 3) : s.requestReset kind cause = s.computeEnd.startReset kind cause := by
  rw [State.requestReset, if_neg (by simp [h]), hk]
  exact (if_neg (Nat.not_le.2 hlt)).trans (by rw [if_pos rfl])

theorem State.resetCmd_of_key {s : State} {key kind : Nat} (hkey : key = 0xA5C3) (hkind : kind < 4) :
    s.resetCmd key kind = s.requestReset kind (2 * kind + 2) := by
  unfold State.resetCmd
  split
  next hne => exact absurd hkey hne
  next =>
    match kind, hkind with
    | 0, _ | 1, _ | 2, _ | 3, _ => rfl

theorem State.resetCmd_refused {s : State} {key kind : Nat} (h : key ≠ 0xA5C3 ∨ s.rstRefused kind = true) :
    s.resetCmd key kind = s.rstRefuse := by
  unfold State.resetCmd
  split
  next => rfl
  next hkey => exact if_pos (h.resolve_left hkey)

/-- The four commands are one write of BOOT.RESET, with a kind each. -/
theorem exec_reset {i : Instr} {key : BitVec 16} {kind : Nat}
    (h : (i = .bootResetCold key ∧ kind = 0) ∨ (i = .bootResetWarm key ∧ kind = 1) ∨
      (i = .bootResetFabric key ∧ kind = 2) ∨ (i = .bootResetCompute key ∧ kind = 3)) (s : State) :
    exec i s = .next (s.resetCmd key.toNat kind) ∧ kind < 4 := by
  obtain ⟨rfl, rfl⟩ | ⟨rfl, rfl⟩ | ⟨rfl, rfl⟩ | ⟨rfl, rfl⟩ := h 
  · exact ⟨exec_bootResetCold s key, by decide⟩
  · exact ⟨exec_bootResetWarm s key, by decide⟩
  · exact ⟨exec_bootResetFabric s key, by decide⟩
  · exact ⟨exec_bootResetCompute s key, by decide⟩

/-! ### Begun and completed (R454, R456) -/

/-- COLD begins by having the log's staging flushed. -/
theorem State.startReset_cold (s : State) (c : Nat) :
    (s.startReset 0 c).sys.reset = some 0 ∧ (s.startReset 0 c).on HLT.LOG_STAT.FLUSH_BUSY = true :=
  ⟨rfl, congrArg (· != 0) (State.rd_wr_self (s.setReset (some 0)) HLT.LOG_STAT.FLUSH_BUSY 1)⟩

theorem execPkgResetNLow_of_high {s : State} {t : Nat} (hv : s.sys.vaux = true) (hr : s.sys.boot.rstLow = false) :
    execPkgResetNLow t s = .next (State.requestReset
      (State.setBoot (s.advance t) { s.sys.boot with rstLow := true }) 1 3) := by
  simp [execPkgResetNLow, hv, hr]

theorem execResetComplete_of_cold {s : State} {head : Bool} {b : BitVec 5} {t : Nat} (h : s.sys.reset = some 0) :
    execResetComplete head b t s = .next
      (((s.advance t).log.staging.foldl (fun s r => s.nvmWrite r) (s.advance t)).saveMinutes.coldStart head b.toNat 2
        true) := by
  simp only [execResetComplete, State.advance_sys, h]

theorem execResetComplete_of_fabric {s : State} {head : Bool} {b : BitVec 5} {t : Nat} (h : s.sys.reset = some 2) :
    execResetComplete head b t s = .next ((s.advance t).setReset none).fabricEnd.crcCommit := by
  simp only [execResetComplete, State.advance_sys, h]

theorem execResetComplete_of_compute {s : State} {head : Bool} {b : BitVec 5} {t : Nat} (h : s.sys.reset = some 3) :
    execResetComplete head b t s = .next ((s.advance t).setReset none).computeEnd.crcCommit := by
  simp only [execResetComplete, State.advance_sys, h]

theorem execResetComplete_of_none {s : State} {head : Bool} {b : BitVec 5} {t : Nat} (h : s.sys.reset = none) :
    execResetComplete head b t s = .next (s.advance t) := by
  simp only [execResetComplete, State.advance_sys, h]

/-- Settles O48, request by request along the branches of a write of BOOT.RESET. -/
theorem resets : Obligations.Resets := by
  unfold Obligations.Resets
  refine ⟨fun s key i kind hi => ?requests, State.rstRefused_iff, fun s c => ?begun, fun s t0 hv hr => ?pin,
    fun s head b t0 => ⟨fun h => ?cold, fun h => ?fabric, fun h => ?compute, fun h => ?none⟩⟩
  case requests =>
    obtain ⟨hexec, hkind⟩ := exec_reset hi s
    rw [hexec]
    refine ⟨fun h => ?refused, fun k hkey h hk hle => ?absorbed, fun hkey h hk => ?taken, fun hkey h hk hlt => ?abandons⟩
    case refused => exact ⟨_, rfl, by rw [State.resetCmd_refused h]; exact s.rstRefuse_shows⟩
    case absorbed =>
      refine ⟨_, rfl, ?_⟩
      rw [State.resetCmd_of_key hkey hkind, State.requestReset_of_absorbed _ h hk hle]
      exact ⟨State.rd_bump_self s _, rfl, State.regsBut_bump s (by simp)⟩
    case taken => rw [State.resetCmd_of_key hkey hkind, State.requestReset_of_begun _ h hk]
    case abandons => rw [State.resetCmd_of_key hkey hkind, State.requestReset_of_compute _ h hk hlt]
  case begun => exact ⟨(s.startReset_cold c).1, (s.startReset_cold c).2, rfl, rfl, rfl⟩
  case pin => exact execPkgResetNLow_of_high hv hr
  case cold => exact execResetComplete_of_cold h
  case fabric => exact execResetComplete_of_fabric h
  case compute => exact execResetComplete_of_compute h
  case none => exact execResetComplete_of_none h

end Sys2Proof.Machine
end

section
/-! SUPPORT. The flags of an SQ register and its SEQ (16_register_interface.md, R476): what clearing them writes, what a
cold start leaves of them, and the statement about them. -/
namespace Sys2Proof.Machine
open Sys2Proof

/-! ### What a cold start writes -/

/-- A frame grows by a write of one of its fields. -/
theorem State.regsBut_thenWr {s t : State} {l : List Field} {f : Field} {v : Nat} (hf : f ∈ l) (h : s.regsBut t l) :
    s.regsBut (t.wr f v) l := State.regsBut_trans h (State.regsBut_wr t v hf)

theorem State.regsBut_thenBump {s t : State} {l : List Field} {f : Field} (hf : f ∈ l) (h : s.regsBut t l) :
    s.regsBut (t.bump f) l := State.regsBut_thenWr hf h

theorem State.regsBut_thenWrB {s t : State} {l : List Field} {f : Field} {b : Bool} (hf : f ∈ l) (h : s.regsBut t l) :
    s.regsBut (t.wrB f b) l := State.regsBut_thenWr hf h

/-- The fields that the fuses give. -/
def fusedFields : List Field :=
  [GLB.ID.PART, GLB.ID.REV_MINOR, GLB.ID.VENDOR, GLB.ID.VARIANT, GLB.SERIAL.SERIAL, BOOT.OPKEY.FUSED,
    HLT.MC_LOAD.MC1_AVAIL]

theorem State.fused_regsBut (s : State) : s.regsBut s.fused fusedFields := by
  have hid : s.regsBut (((s.wr GLB.ID.PART 0x7D0).wr GLB.ID.REV_MINOR 1).wr GLB.ID.VENDOR 0xA7) fusedFields :=
    State.regsBut_thenWr (by decide) (State.regsBut_thenWr (by decide)
      (State.regsBut_thenWr (by decide) (State.regsBut_refl s _)))
  exact State.regsBut_thenWr (by decide) (State.regsBut_thenWrB (by decide)
    (State.regsBut_thenWr (by decide) (State.regsBut_thenWr (by decide) hid)))

/-- What the log shows of itself. -/
def logFields : List Field := [HLT.LOG_STAT.STAGE_PCT, HLT.LOG_STAT.FULL, HLT.LOG_STAT.NVM_RECORDS]

theorem State.showLog_regsBut (s : State) : s.regsBut s.showLog logFields :=
  State.regsBut_thenWr (by decide) (State.regsBut_thenWrB (by decide)
    (State.regsBut_thenWr (by decide) (State.regsBut_refl s _)))

/-- What the patch map shows of itself. -/
def patchFields : List Field := [HLT.PATCH_STAT.GEN, HLT.PATCH_STAT.ENTRIES, HLT.PATCH_STAT.FULL]

theorem State.showPatch_regsBut (s : State) (full : Bool) : s.regsBut (s.showPatch full) patchFields :=
  State.regsBut_thenWrB (by decide) (State.regsBut_thenWr (by decide)
    (State.regsBut_thenWr (by decide) (State.regsBut_refl s _)))

theorem State.bootPhase_regsBut (s : State) : s.regsBut s.bootPhase [BOOT.STATUS.PHASE] := by
  unfold State.bootPhase
  split
  · exact State.regsBut_wr s _ (by simp)
  · split <;> exact State.regsBut_wr s _ (by simp)

/-- What a boot writes as it begins. -/
def bootFields : List Field := [BOOT.COUNTS.BOOTS, BOOT.STATUS.STUCK, BOOT.STATUS.PHASE]

theorem State.bootFrom2_regsBut (s : State) : s.regsBut s.bootFrom2 bootFields := by
  have hcounted : s.regsBut ((s.bump BOOT.COUNTS.BOOTS).wr BOOT.STATUS.STUCK 0) bootFields :=
    State.regsBut_thenWr (by decide) (State.regsBut_thenBump (by decide) (State.regsBut_refl s _))
  exact State.regsBut_trans (State.regsBut_trans hcounted (State.regsBut_of_regs rfl _))
    (State.regsBut_mono (State.bootPhase_regsBut _) (by decide))

/-- The register fields that a cold start writes; all others read what their headers give. -/
def coldFields : List Field :=
  fusedFields ++ [BOOT.STRAPS.CHAIN_HEAD, BOOT.STRAPS.BENCH_ID, HLT.OPTIME.MINUTES, HLT.PWR_CYC.COUNT,
    BOOT.STATUS.CAUSE, PWR.STATE.RAIL_GOOD, BOOT.CHAIN.POSITION] ++ logFields ++ patchFields ++ bootFields

theorem State.coldStart_regsBut (s : State) (head : Bool) (bench cause : Nat) (power : Bool) :
    State.reset.regsBut (s.coldStart head bench cause power) coldFields := by
  unfold State.coldStart
  extract_lets old c vaux log boot r0 t0 rails t1 t2 t3 t4
  have h0 : State.reset.regsBut t0.fused coldFields :=
    State.regsBut_trans (State.regsBut_of_regs rfl _) (State.regsBut_mono t0.fused_regsBut (by decide))
  have h3 : State.reset.regsBut t3 coldFields :=
    State.regsBut_thenWr (by decide) (State.regsBut_thenWr (by decide) (State.regsBut_thenWr (by decide)
      (State.regsBut_thenWr (by decide) (State.regsBut_thenWr (by decide) (State.regsBut_thenWrB (by decide) h0)))))
  have h4 : State.reset.regsBut t4 coldFields := by
    unfold t4
    split
    · exact State.regsBut_thenWr (by decide) h3
    · exact h3
  have hlog := State.regsBut_trans h4 (State.regsBut_mono t4.showLog_regsBut (by decide))
  have hpatch := State.regsBut_trans hlog (State.regsBut_mono (State.showPatch_regsBut _ false) (by decide))
  exact State.regsBut_trans hpatch (State.regsBut_mono (State.bootFrom2_regsBut _) (by decide))

/-- A field of the package that stands in no SQ register's SEQ. -/
def clearOfSeq (f : Field) : Bool :=
  f.inst == 0 && decide (f.off < 2 ^ 26) && decide (f.lo < 128) &&
    (f.lo != 24 || (regAt f.off).all fun x => !x.1.fields.any fun g => g.acc == .sq)

theorem key_ne_of_clearOfSeq {f : Field} {off inst : Nat} {r : RegRow} {i : List Nat} (hr : regAt off = some (r, i))
    (hsq : (r.fields.any fun g => g.acc == .sq) = true) (h : clearOfSeq f = true) :
    (⟨off, 24, 8, inst, 0⟩ : Field).key ≠ f.key := by
  simp only [clearOfSeq, Bool.and_eq_true, Bool.or_eq_true, beq_iff_eq, bne_iff_ne, decide_eq_true_eq] at h
  obtain ⟨⟨⟨hinst, hoff⟩, hlo⟩, hclear⟩ := h
  intro hkey
  simp only [Field.key, hinst] at hkey
  obtain hne | hnone := hclear
  · omega
  · obtain rfl : off = f.off := by omega
    rw [hr] at hnone
    simp [hsq] at hnone

theorem coldFields_clearOfSeq : ∀ f ∈ coldFields, clearOfSeq f = true := by decide

/-- After a cold start every SEQ reads zero. -/
theorem State.coldStart_rd_seq (s : State) (head : Bool) (bench cause : Nat) (power : Bool) {off : Nat} (inst : Nat)
    {r : RegRow} {i : List Nat} (hr : regAt off = some (r, i)) (hsq : (r.fields.any fun g => g.acc == .sq) = true) :
    (s.coldStart head bench cause power).rd ⟨off, 24, 8, inst, 0⟩ = 0 := by
  refine s.coldStart_regsBut head bench cause power ⟨off, 24, 8, inst, 0⟩ fun hmem => ?_
  obtain ⟨f, hf, hkey⟩ := List.mem_map.1 hmem
  exact key_ne_of_clearOfSeq hr hsq (coldFields_clearOfSeq f hf) hkey.symm

/-! ### SEQ written back -/

/-- Fields written zero one after another change nothing else. -/
theorem State.foldl_zero_regsBut (l : List Field) (s : State) : s.regsBut (l.foldl (fun t f => t.wr f 0) s) l := by
  induction l generalizing s with
  | nil => exact State.regsBut_refl s _
  | cons f l ih =>
    exact State.regsBut_trans (State.regsBut_wr s 0 (by simp))
      (State.regsBut_mono (ih _) fun _ h => List.mem_cons_of_mem _ h)

theorem State.foldl_zero_frame (l : List Field) (s : State) :
    l.foldl (fun t f => t.wr f 0) s = { s with regs := (l.foldl (fun t f => t.wr f 0) s).regs } := by
  induction l generalizing s with
  | nil => rfl
  | cons f l ih => rw [List.foldl_cons, ih]; rfl

/-- Where a key names one field of the list, each field written zero reads zero. -/
theorem State.foldl_zero_rd {l : List Field} (s : State) {f : Field} (hf : f ∈ l) (hinj : ∀ g ∈ l, g.key = f.key → g = f) :
    (l.foldl (fun t g => t.wr g 0) s).rd f = 0 := by
  induction l using List.reverseRecOn with
  | nil => simp at hf
  | append_singleton l g ih =>
    rw [List.foldl_append, List.foldl_cons, List.foldl_nil]
    by_cases hg : g.key = f.key
    · rw [hinj g (by simp) hg, State.rd_wr_self]
      exact Nat.zero_mod _
    · have hmem : f ∈ l := (List.mem_append.1 hf).resolve_right fun h => hg (by rw [List.mem_singleton.1 h])
      rw [State.rd_wr_ne _ _ (Ne.symm hg)]
      exact ih hmem fun x hx => hinj x (List.mem_append_left _ hx)

/-- The one-bit flags of an SQ register, as SQ_CLEAR takes them. -/
def oneBitFlags (r : RegRow) (off inst : Nat) : List Field :=
  (r.fields.filter fun f => f.acc == .sq && f.width == 1).map (rowField r off inst)

theorem State.sqClear_eq (s : State) (r : RegRow) (off inst seq : Nat) :
    s.sqClear r off inst seq =
      if s.rd ⟨off, 24, 8, inst, 0⟩ = seq then (oneBitFlags r off inst).foldl (fun t f => t.wr f 0) s else s := by
  rw [State.sqClear, oneBitFlags, List.foldl_map]

/-- In one register a one-bit flag's place names it. -/
theorem oneBitFlags_inj {r : RegRow} {off inst : Nat} {f g : Field} (hf : f ∈ oneBitFlags r off inst)
    (hg : g ∈ oneBitFlags r off inst) (h : g.key = f.key) : g = f := by
  obtain ⟨x, hx, rfl⟩ := List.mem_map.1 hf
  obtain ⟨y, hy, rfl⟩ := List.mem_map.1 hg
  have hwx : x.width = 1 := by simpa using (Bool.and_eq_true_iff.1 (List.mem_filter.1 hx).2).2
  have hwy : y.width = 1 := by simpa using (Bool.and_eq_true_iff.1 (List.mem_filter.1 hy).2).2
  have hlo : y.lo = x.lo := by simpa [Field.key, rowField] using h
  simp [rowField, hlo, hwx, hwy]

set_option maxRecDepth 40000 in
/-- No one-bit flag stands in SEQ's place. -/
theorem rows_flags_apart : (RegMap.rows.all fun r => r.fields.all fun f =>
    !(f.acc == .sq && f.width == 1) || f.lo != 24) = true := by decide

theorem regAt_mem {off : Nat} {r : RegRow} {i : List Nat} (h : regAt off = some (r, i)) : r ∈ RegMap.rows := by
  obtain ⟨x, hx, heq⟩ := List.exists_of_findSome?_eq_some h
  split at heq
  · cases heq
  · obtain ⟨j, -, hj⟩ := Option.map_eq_some_iff.1 heq
    obtain ⟨rfl, -⟩ := Prod.mk.inj hj
    exact hx

theorem seq_notMem_oneBitFlags {off inst : Nat} {r : RegRow} {i : List Nat} (h : regAt off = some (r, i)) :
    (⟨off, 24, 8, inst, 0⟩ : Field).key ∉ (oneBitFlags r off inst).map Field.key := by
  intro hmem
  obtain ⟨f, hf, hkey⟩ := List.mem_map.1 hmem
  obtain ⟨x, hx, rfl⟩ := List.mem_map.1 hf
  obtain ⟨hx, hflag⟩ := List.mem_filter.1 hx
  have hne := List.all_eq_true.1 (List.all_eq_true.1 rows_flags_apart r (regAt_mem h)) x hx
  rw [hflag] at hne
  exact (by simpa using hne : x.lo ≠ 24) (by simpa [Field.key, rowField] using hkey)

/-- SEQ written back clears the one-bit flags, and nothing else. -/
theorem State.sqClear_shows (s : State) {r : RegRow} {off inst seq : Nat} {i : List Nat} (hr : regAt off = some (r, i))
    (h : s.rd ⟨off, 24, 8, inst, 0⟩ = seq) :
    (∀ f ∈ oneBitFlags r off inst, (s.sqClear r off inst seq).rd f = 0) ∧
      (s.sqClear r off inst seq).rd ⟨off, 24, 8, inst, 0⟩ = s.rd ⟨off, 24, 8, inst, 0⟩ ∧
      s.onlyRegs (s.sqClear r off inst seq) (oneBitFlags r off inst) := by
  rw [State.sqClear_eq, if_pos h]
  exact ⟨fun f hf => State.foldl_zero_rd s hf fun g hg => oneBitFlags_inj hf hg,
    State.foldl_zero_regsBut _ s _ (seq_notMem_oneBitFlags hr), State.foldl_zero_frame _ s, State.foldl_zero_regsBut _ s⟩

theorem execSqClear_of_shown {s : State} {b : Bank} {off : BitVec 26} {seq : BitVec 8} {r : RegRow} {i : List Nat}
    (hv : s.sys.vaux = true) (hr : regAt off.toNat = some (r, i)) (hf : s.fusedAway off.toNat = false)
    (hw : winShows r.win (s.instOf b.num r i) = true) (hsq : (r.fields.any fun f => f.acc == .sq) = true) :
    execSqClear b off seq s = .next (s.sqClear r off.toNat (s.instOf b.num r i) seq.toNat) := by
  unfold execSqClear
  rw [hr]
  exact if_neg (by simp [hv, hf, hw, hsq])

/-- A write of an SQ register writes SEQ back with its highest byte; its other bits do not matter. -/
theorem execCsrWrite_of_sq {s : State} {b : Bank} {off : BitVec 26} {v : BitVec 64} {r : RegRow} {i : List Nat}
    (hv : s.sys.vaux = true) (hr : regAt off.toNat = some (r, i)) (hwide : r.wide = false)
    (hf : s.fusedAway off.toNat = false) (hw : winShows r.win (s.instOf b.num r i) = true)
    (hsq : (r.fields.any fun f => f.acc == .sq) = true) (ha : off.toNat % 4 = 0) (hm : mapped off.toNat = true)
    (hb : s.busyReset b off.toNat = false) :
    execCsrWrite b off 2 v s = execSqClear b off (BitVec.ofNat 8 (v.toNat / 2 ^ 24)) s := by
  have hcheck : s.accCheck b off.toNat 4 = none := by
    have hword : off.toNat / 4 * 4 = off.toNat := by omega
    simp [State.accCheck, ha, hm, hword, hb]
  have htake (w : Nat) : s.takeWrite b off.toNat w = s.sqClear r off.toNat (s.instOf b.num r i) (w / 2 ^ 24) := by
    unfold State.takeWrite
    rw [hr]
    exact (if_neg (by simp [hwide, hf, hw])).trans (if_pos hsq)
  have hseq : v.toNat % 2 ^ 32 / 2 ^ 24 = (BitVec.ofNat 8 (v.toNat / 2 ^ 24)).toNat := by
    rw [BitVec.toNat_ofNat]; omega
  have hwrite : (s.csrWrite b off.toNat 4 v.toNat).1 =
      s.sqClear r off.toNat (s.instOf b.num r i) (v.toNat % 2 ^ 32 / 2 ^ 24) := by
    simp [State.csrWrite, State.write32, hcheck, htake]
  rw [execSqClear_of_shown hv hr hf hw hsq, ← hseq, ← hwrite]
  exact if_neg (not_not_intro hv)

/-- Settles O54: a cold start writes no SEQ, an event one, and SEQ written back none. -/
theorem flagsAndSequence : Obligations.FlagsAndSequence := by
  unfold Obligations.FlagsAndSequence
  refine ⟨fun s head power bench cause off inst r i hr hsq => ?cold, fun s f hw hl => ?set,
    fun s f v d hw hl hf hs => ?event,
    fun s b off r i hv hr hwide hfused hshow hsq => ⟨fun q => ?clear, fun v ha hm hb => ?write⟩⟩
  case cold => exact s.coldStart_rd_seq head bench cause power inst hr hsq
  case set =>
    exact ⟨s.setFlag_flagged hw hl, by rw [State.setFlag]; rfl, State.setFlag_regsBut s (by simp) (by simp)⟩
  case event => exact ⟨s.raise_flagged v d hw (by omega) hf hs, s.raise_regsButEvent f v d⟩
  case clear =>
    refine ⟨_, execSqClear_of_shown hv hr hfused hshow hsq, fun hne => ?other, fun heq => s.sqClear_shows hr heq⟩
    case other => rw [State.sqClear_eq, if_neg hne]
  case write => exact execCsrWrite_of_sq hv hr hwide hfused hshow hsq ha hm hb

end Sys2Proof.Machine
end

section
/-! SUPPORT. The event recorder with its staging full of FATAL records (R495): an event that finds no room sets LOG_FULL
too, so an event of HLT's own block advances HLT.EVENT.SEQ twice; and the two statements that this refutes. -/
namespace Sys2Proof.Machine
open Sys2Proof

/-! ### An event that finds no room -/

/-- FATAL records are never removed. -/
theorem dropOldest_of_fatal {sev : Nat} {l : List LogRec} (h : ∀ r ∈ l, r.sev = 3) : dropOldest sev l = none := by
  induction l with
  | nil => rfl
  | cons r l ih =>
    have hr : ¬ (r.sev ≤ sev ∧ r.sev < 3) := by have := h r (by simp); omega
    rw [dropOldest, if_neg hr, ih fun x hx => h x (List.mem_cons_of_mem _ hx)]
    rfl

theorem makeRoom_of_fatal {cap need sev fuel : Nat} {l : List LogRec} (h : ∀ r ∈ l, r.sev = 3)
    (hfull : cap < recBytes l + need) : makeRoom cap need sev fuel l = none := by
  have hno : ¬ recBytes l + need ≤ cap := by omega
  cases fuel with
  | zero => exact if_neg hno
  | succ n => rw [makeRoom, if_neg hno, dropOldest_of_fatal h]; rfl

/-- A record that is not FATAL and finds no room is counted and sets LOG_FULL: SEQ advances. -/
theorem State.dropRecord_rd_seq (s : State) {r : LogRec} (h : r.sev ≠ 3) :
    (s.dropRecord r).rd HLT.EVENT.SEQ = (s.rd HLT.EVENT.SEQ + 1) % 256 := by
  rw [State.dropRecord, if_neg h]
  refine (State.rd_setFlag_seq (f := HLT.EVENT.LOG_FULL) _ (by decide)).trans ?_
  rw [State.rd_bump_ne _ (by decide)]
  rfl

theorem State.place_rd_seq_of_full {s : State} {r : LogRec} (hr : r.sev ≠ 3)
    (h : makeRoom stagingBytes r.size r.sev s.log.staging.length s.log.staging = none) :
    (s.place r).rd HLT.EVENT.SEQ = (s.rd HLT.EVENT.SEQ + 1) % 256 := by
  unfold State.place
  dsimp only
  rw [h]
  refine (State.dropRecord_rd_seq _ hr).trans ?_
  rw [State.rd_bumpBy_ne _ _ (by decide)]
  rfl

/-- The recorder has no room but for FATAL records, all that it holds is FATAL, and it records every event. -/
def State.logStuffed (s : State) : Prop :=
  (∀ r ∈ s.log.staging, r.sev = 3) ∧ stagingBytes < recBytes s.log.staging + 44 ∧ s.rd HLT.LOG_CFG.MIN_SEV = 0

/-- Where there is no room an INFO event advances HLT.EVENT.SEQ, whatever its own flag is. -/
theorem State.logEvent_rd_seq_of_stuffed {s : State} (code subject : Nat) (h : s.logStuffed) :
    (s.logEvent code 0 subject []).rd HLT.EVENT.SEQ = (s.rd HLT.EVENT.SEQ + 1) % 256 := by
  obtain ⟨hfatal, hfull, hmin⟩ := h
  have hnew : (s.stageNew code 0 subject (detailBytes []) false).rd HLT.EVENT.SEQ = (s.rd HLT.EVENT.SEQ + 1) % 256 := by
    rw [State.stageNew, if_neg (by decide), State.stageFill, State.rd_wr_ne _ _ (by decide)]
    refine State.place_rd_seq_of_full (by decide : (0 : Nat) ≠ 3) (makeRoom_of_fatal hfatal ?_)
    exact Nat.lt_of_lt_of_le hfull (Nat.add_le_add_left (Nat.le_add_right 44 _) _)
  unfold State.logEvent
  dsimp only
  rw [if_neg (by rw [hmin]; omega)]
  split
  next r hlast =>
    have hsev : r.sev = 3 := hfatal r (List.mem_of_getLast? hlast)
    rw [if_neg (by simp [LogRec.matches, hsev])]
    exact hnew
  next => exact hnew

/-- Where there is no room an INFO event of HLT advances SEQ twice: for its own flag and for LOG_FULL. -/
theorem State.raise_cfgErr_seq_of_stuffed {s : State} (h : s.logStuffed) :
    (s.raise HLT.EVENT.CFG_ERR).rd HLT.EVENT.SEQ = ((s.rd HLT.EVENT.SEQ + 1) % 256 + 1) % 256 := by
  have hflag : (s.setFlag HLT.EVENT.CFG_ERR).logStuffed :=
    ⟨h.1, h.2.1, (State.rd_setFlag_ne s (by decide) (by decide)).trans h.2.2⟩
  refine (State.logEvent_rd_seq_of_stuffed _ _ hflag).trans ?_
  rw [show (s.setFlag HLT.EVENT.CFG_ERR).rd HLT.EVENT.SEQ = (s.rd HLT.EVENT.SEQ + 1) % 256 from
    State.rd_setFlag_seq s (f := HLT.EVENT.CFG_ERR) (by decide)]

/-! ### A package whose recorder is full -/

/-- A FATAL record with no detail: 44 bytes. -/
def fatalRecord : LogRec := ⟨0, 3, false, 0, 0, 0, 0, 0, 0, 0, []⟩

/-- A package that has staged 1,489 FATAL records, 65,516 bytes of the 65,536, and waits for a snapshot of its counters. -/
def stuffed : State :=
  ({ State.reset with log := { staging := List.replicate 1489 fatalRecord } } : State).wr HLT.CTR_STAT.SNAP_PEND 1

theorem stuffed_logStuffed : stuffed.logStuffed := by
  refine ⟨fun r hr => ?fatal, ?full, by decide⟩
  case fatal => rw [List.eq_of_mem_replicate hr]; rfl
  case full =>
    have hbytes : recBytes (List.replicate 1489 fatalRecord) = 1489 * 44 := by
      rw [recBytes, List.map_replicate, List.sum_replicate]; rfl
    calc stagingBytes < 1489 * 44 + 44 := by decide
      _ = recBytes stuffed.log.staging + 44 := by rw [← hbytes]; rfl

/-- CFG_ERR of HLT is not flagged there as R476 would have it of one event: SEQ goes from 0 to 2. -/
theorem stuffed_not_flagged : ¬ stuffed.flagged (stuffed.raise HLT.EVENT.CFG_ERR) HLT.EVENT.CFG_ERR := by
  rintro ⟨-, hseq⟩
  have hzero : stuffed.rd HLT.EVENT.SEQ = 0 := by decide
  have hone : (stuffed.raise HLT.EVENT.CFG_ERR).rd HLT.EVENT.SEQ = 1 := hseq.trans (congrArg (fun n => (n + 1) % 256) hzero)
  rw [State.raise_cfgErr_seq_of_stuffed stuffed_logStuffed, hzero] at hone
  exact absurd hone (by decide)

theorem State.ctrConfig_of_refused {s : State} {n v : Nat} (h : counterOk n (bitsOf v 16 12) (bitsOf v 0 16) = false) :
    s.ctrConfig n v = s.raise HLT.EVENT.CFG_ERR := if_pos (by simp [h])

theorem execCtrCfgWrite_of_refused {s : State} {n : Fin 112} {v : BitVec 32} (hs : s.csrSound)
    (h : counterOk n (bitsOf v.toNat 16 12) (bitsOf v.toNat 0 16) = false) :
    execCtrCfgWrite n v s = .next (s.raise HLT.EVENT.CFG_ERR) :=
  congrArg Host.Outcome.next (State.bySoft_of_raise _ _ _ hs (State.ctrConfig_of_refused h))

/-- Refutes O55: a refused setting (source 0xFFF of counter 0) is CFG_ERR of HLT, but where the recorder is full of FATAL
records its record finds no room, LOG_FULL is set in the same register, and SEQ advances by two. -/
theorem not_counterSetting : ¬ Obligations.CounterSetting := by
  unfold Obligations.CounterSetting
  rintro ⟨-, h⟩
  have hsound : stuffed.csrSound := ⟨by decide, by decide⟩
  have hbad : counterOk 0 (bitsOf (0xFFFFFFF : BitVec 32).toNat 16 12) (bitsOf (0xFFFFFFF : BitVec 32).toNat 0 16) =
      false := by decide
  obtain ⟨hrefused, -⟩ := h stuffed 0 0xFFFFFFF hsound
  obtain ⟨t, hexec, hflag, -⟩ := hrefused hbad
  rw [exec_ctrCfgWrite, execCtrCfgWrite_of_refused hsound hbad] at hexec
  obtain rfl := Host.Outcome.next.inj hexec
  exact stuffed_not_flagged hflag

/-- Refutes O52: a second SNAP is CFG_ERR of HLT, but where the recorder is full of FATAL records its record finds no room,
LOG_FULL is set in the same register, and SEQ advances by two. -/
theorem not_healthAndLog : ¬ Obligations.HealthAndLog := by
  unfold Obligations.HealthAndLog
  rintro ⟨-, hsnap, -⟩
  obtain ⟨-, hpending, -⟩ := hsnap stuffed
  obtain ⟨t, hexec, hflag, -⟩ := hpending (by decide)
  have hstart : stuffed.snapStart = stuffed.raise HLT.EVENT.CFG_ERR := if_pos (by decide)
  obtain rfl : stuffed.raise HLT.EVENT.CFG_ERR = t := hstart.symm.trans (Host.Outcome.next.inj hexec)
  exact stuffed_not_flagged hflag

end Sys2Proof.Machine
end

section
/-! SUPPORT. What sending over the Urdal link changes (13_urdal_link.md, R385-R389): an event below ERROR composes no
notice, the pump moves messages from the queue to the replay buffer, and nothing else goes on. -/
namespace Sys2Proof.Machine
open Sys2Proof

/-! ### Notices (R402, R498) -/

/-- An event below ERROR that is not told composes no notice. -/
theorem State.logEvent_notices (s : State) (c u : Nat) {v : Nat} (d : List Byte) (hv : v < 2) :
    (s.logEvent c v u d).notices = s.notices := by
  have hnumbered : (s.numbered v).notices = s.notices := by unfold State.numbered; split <;> rfl
  have hdrop (t : State) (r : LogRec) : (t.dropRecord r).notices = t.notices := by
    unfold State.dropRecord; split <;> simp
  have hplace (t : State) (r : LogRec) : (t.place r).notices = t.notices := by
    unfold State.place
    dsimp only
    split
    · rfl
    · exact hdrop _ _
  have hnew (d' : List Byte) : (s.stageNew c v u d' false).notices = s.notices := by
    rw [State.stageNew, if_neg (by simp; omega)]
    exact (hplace _ _).trans hnumbered
  unfold State.logEvent
  dsimp only
  split
  · rfl
  · split
    · split
      · rfl
      · exact hnew _
    · exact hnew _

theorem State.raise_notices (s : State) (f : Field) {v : Nat} (d : List Byte) (hv : v < 2) :
    (s.raise f v d).notices = s.notices := State.logEvent_notices _ _ _ d hv

theorem State.ctrAdd_notices (s : State) (n w : Nat) : (s.ctrAdd n w).notices = s.notices := by
  unfold State.ctrAdd
  dsimp only
  split
  · rfl
  · exact State.raise_notices _ _ _ (by decide)

theorem State.count_notices (s : State) (dom : Nat × Nat) (src inst w : Nat) :
    (s.count dom src inst w).notices = s.notices := by
  unfold State.count
  split
  · rfl
  · refine List.foldlRecOn (motive := fun t : State => t.notices = s.notices) _ _ rfl fun t ht i _ => ?_
    dsimp only
    split
    · exact (State.ctrAdd_notices t _ w).trans ht
    · exact ht

/-- An event counted in the FTD changes the counters, and the log where one wraps. -/
theorem State.countFtd_quiet (s : State) (src inst w : Nat) :
    s.count ctrFtd src inst w =
      { s with regs := (s.count ctrFtd src inst w).regs, log := (s.count ctrFtd src inst w).log } := by
  obtain ⟨hframe, -⟩ := s.countFtd_frame src inst w
  conv => lhs; rw [hframe, State.count_notices]

/-! ### The pump (R385, R386) -/

/-- The first message that can be sent is one of the queue, and the others stay. -/
theorem mem_of_takeSendable {hand : Credits} {l r : List Msg} {m x : Msg} (h : takeSendable hand l = some (m, r))
    (hx : x ∈ l) : x = m ∨ x ∈ r := by
  induction l generalizing m r with
  | nil => cases hx
  | cons y l ih =>
    unfold takeSendable at h
    split at h
    · obtain ⟨rfl, rfl⟩ := Prod.mk.inj (Option.some.inj h)
      exact List.mem_cons.1 hx
    · obtain ⟨⟨m', r'⟩, ht, heq⟩ := Option.map_eq_some_iff.1 h
      obtain ⟨rfl, rfl⟩ := Prod.mk.inj heq
      obtain rfl | hx := List.mem_cons.1 hx
      · exact .inr (by simp)
      · exact (ih ht hx).imp_right (List.mem_cons_of_mem _)

/-- What the pump leaves of the link: the queue, the replay buffer, SEQ and the credits are all that change, nothing
leaves the replay buffer, and what was queued is queued or sent. -/
def Ulk.pumped (u v : Ulk) : Prop :=
  v = { u with out := v.out, replay := v.replay, hand := v.hand, txSeq := v.txSeq } ∧
    (∀ x ∈ u.replay, x ∈ v.replay) ∧ ∀ m ∈ u.out, m ∈ v.out ∨ ∃ q, (q, m) ∈ v.replay

theorem Ulk.pumped_refl (u : Ulk) : Ulk.pumped u u := ⟨rfl, fun _ h => h, fun _ h => .inl h⟩

/-- The link after one message of its queue, with the rest of the queue. -/
def Ulk.sent (u : Ulk) (m : Msg) (r : List Msg) : Ulk :=
  { u with
    out := r, txSeq := (u.txSeq + 1) % 4096, replay := u.replay ++ [((u.txSeq + 1) % 4096, m)]
    hand := u.hand.setOf (msgClass m.op) (u.hand.of (msgClass m.op) - 1) }

theorem Ulk.pump_pumped (u : Ulk) (n : Nat) : Ulk.pumped u (u.pump n) := by
  induction n generalizing u with
  | zero => exact Ulk.pumped_refl u
  | succ n ih =>
    unfold Ulk.pump
    split
    · exact Ulk.pumped_refl u
    · split
      · exact Ulk.pumped_refl u
      next m r htake =>
        obtain ⟨hframe, hreplay, hout⟩ := ih (u.sent m r)
        have hsent : ∀ x ∈ u.replay ++ [((u.txSeq + 1) % 4096, m)], x ∈ ((u.sent m r).pump n).replay := hreplay
        refine ⟨hframe, fun x hx => hsent x (List.mem_append_left _ hx), fun x hx => ?carried⟩
        case carried =>
          obtain rfl | hr := mem_of_takeSendable htake hx
          · exact .inr ⟨_, hsent _ (List.mem_append_right _ (List.mem_singleton.2 rfl))⟩
          · exact hout x hr

/-- What sending changes of the package: the link's queue, replay buffer, SEQ and credits, the counters, and the log where
one wraps. -/
def State.pumped (s t : State) : Prop :=
  t = { s with regs := t.regs, log := t.log, ulk := t.ulk } ∧ s.regsBut t counterFields ∧ Ulk.pumped s.ulk t.ulk

theorem State.pumped_of_ulk {s : State} {u : Ulk} (h : Ulk.pumped s.ulk u) : s.pumped { s with ulk := u } :=
  ⟨rfl, State.regsBut_of_regs rfl _, h⟩

theorem State.ulPump_pumped (s : State) : s.pumped s.ulPump := by
  have hpump := Ulk.pump_pumped s.ulk s.ulk.out.length
  unfold State.ulPump
  dsimp only
  split
  · split
    · generalize hu : ({ s with ulk := s.ulk.pump s.ulk.out.length } : State) = u
      generalize hw : s.ulk.out.length - (s.ulk.pump s.ulk.out.length).out.length = w
      have hquiet := u.countFtd_quiet 0x061 0 w
      obtain ⟨-, hregs⟩ := u.countFtd_frame 0x061 0 w
      refine ⟨?frame, State.regsBut_trans (State.regsBut_of_regs (by rw [← hu]) _) hregs, ?link⟩
      case frame => conv => lhs; rw [hquiet, ← hu]
                    rw [hquiet, ← hu]
      case link => rw [hquiet, ← hu]; exact hpump
    · exact State.pumped_of_ulk hpump
  · exact State.pumped_of_ulk (Ulk.pumped_refl _)

/-- With nothing queued there is nothing to send. -/
theorem State.ulPump_of_empty {s : State} (h : s.ulk.out = []) : s.ulPump = s := by
  unfold State.ulPump
  split
  · simp [h, Ulk.pump]
  · rfl

theorem State.pumped_sys {s t : State} (h : s.pumped t) : t.sys = s.sys := by rw [h.1]

/-- A field that is no counter's reads the same. -/
theorem State.pumped_rd {s t : State} (h : s.pumped t) {f : Field} (hf : f.key ∉ counterFields.map Field.key) :
    t.rd f = s.rd f := h.2.1 f hf

theorem State.pumped_carries {s t : State} (h : s.pumped t) {m : Msg} (hm : s.carries m) : t.carries m := by
  obtain ⟨-, hreplay, hout⟩ := h.2.2
  obtain hm | ⟨q, hm⟩ := hm
  · exact hout m hm
  · exact .inr ⟨q, hreplay _ hm⟩

/-! ### Messages and requests -/

/-- A message sent: it is carried, and the link is what it was but for its queues. -/
theorem State.sendMsg_pumped (s : State) (m : Msg) :
    State.pumped { s with ulk := { s.ulk with out := s.ulk.out ++ [m] } } (s.sendMsg m) := State.ulPump_pumped _

theorem State.sendMsg_carries (s : State) (m : Msg) : (s.sendMsg m).carries m :=
  State.pumped_carries (s.sendMsg_pumped m) (.inl (by simp))

/-- What a request changes: the link's tags and queues, and what sending changes. -/
theorem State.request_of_tag {s : State} {r : PReq} {k : Nat} (h : s.freeTag = some k) :
    s.request r = ({ s with ulk := { s.ulk with reqs := Tbl.set s.ulk.reqs k r } }).sendMsg (r.msg k) := by
  unfold State.request
  split
  next ht => cases ht.symm.trans h; rfl
  next ht => cases ht.symm.trans h

theorem State.request_of_none {s : State} {r : PReq} (h : s.freeTag = none) :
    s.request r = { s with ulk := { s.ulk with waiting := s.ulk.waiting ++ [r] } } := by
  unfold State.request
  split
  next ht => cases ht.symm.trans h
  next => rfl

/-- A request changes nothing but the link, the counters and the log. -/
theorem State.request_frame (s : State) (r : PReq) :
    s.request r = { s with regs := (s.request r).regs, log := (s.request r).log, ulk := (s.request r).ulk } ∧
      s.regsBut (s.request r) counterFields := by
  cases h : s.freeTag with
  | none => rw [State.request_of_none h]; exact ⟨rfl, State.regsBut_of_regs rfl _⟩
  | some k =>
    rw [State.request_of_tag h]
    obtain ⟨hframe, hregs, -⟩ := State.sendMsg_pumped
      { s with ulk := { s.ulk with reqs := Tbl.set s.ulk.reqs k r } } (r.msg k)
    exact ⟨hframe, State.regsBut_trans (State.regsBut_of_regs rfl _) hregs⟩

theorem State.request_carries {s : State} {r : PReq} {k : Nat} (h : s.freeTag = some k) :
    (s.request r).carries (r.msg k) := by
  rw [State.request_of_tag h]
  exact State.sendMsg_carries _ _

end Sys2Proof.Machine
end

section
/-! SUPPORT. The Urdal link (13_urdal_link.md, R384-R386, R402-R406): flits, notices and the states of the link, and the
statement about them. -/
namespace Sys2Proof.Machine
open Sys2Proof

/-! ### Registers that no count writes -/

/-- Of the registers outside HLT, a count that wraps writes only the number of held notices. -/
theorem notMem_counterFields_of_off {f : Field} (hi : f.inst = 0) (hl : f.lo < 128)
    (ho : f.off < 0xd00000 ∨ 0xe00000 ≤ f.off ∧ f.off < 2 ^ 26) (hp : f.key ≠ ULK.NOTICE_STAT.PENDING.key) :
    f.key ∉ counterFields.map Field.key := by
  have hhlt (g : Field) (hlo : 0xd00000 ≤ g.off) (hhi : g.off < 0xe00000) (hgl : g.lo < 128) (hgi : g.inst = 0) :
      f.key ≠ g.key := by
    simp only [Field.key, hi, hgi]
    omega
  intro hmem
  obtain ⟨g, hg, hkey⟩ := List.mem_map.1 hmem
  simp only [counterFields, recorderFields, List.mem_append, List.mem_flatMap, List.mem_range, List.mem_cons,
    List.not_mem_nil, or_false] at hg
  obtain (⟨n, hn, rfl | rfl⟩ | rfl | rfl) | rfl | rfl | rfl | rfl | rfl | rfl | rfl | rfl | rfl := hg
  case inl.inl.inl =>
    exact hhlt _ (Nat.le_add_right_of_le (by decide)) (by simp only [HLT.CTR.COUNT]; omega) (by decide : 0 < 128) rfl
      hkey.symm
  case inl.inl.inr =>
    exact hhlt _ (Nat.le_add_right_of_le (by decide)) (by simp only [HLT.CTR.OVF]; omega) (by decide : 63 < 128) rfl
      hkey.symm
  case inr.inr.inr.inr.inr.inr.inr.inr.inr => exact hp hkey.symm
  all_goals exact hhlt _ (by decide) (by decide) (by decide) rfl hkey.symm

/-! ### Flits (R384-R386) -/

section
variable {s : State} {b : List Byte} {d : Bool}

/-- A flit's bytes. -/
abbrev flitOf (b : List Byte) : List Byte := padTo 256 b

/-- The link after a flit's ACK and CREDIT. -/
def State.flitTaken (s : State) (b : List Byte) : State := { s with ulk := s.ulk.take (flitOf b) }

theorem execFlitRx_of_unsound (hup : s.ulState = ulUp)
    (h : ¬ bytesAt (flitOf b) 252 4 = crc32c ((flitOf b).take 252)) :
    execFlitRx b d s = .next { s with ulk := { s.ulk with nakOut := true } } := by
  unfold execFlitRx
  rw [if_neg (not_not_intro hup)]
  exact if_pos h

/-- A flit of messages in its place is taken. -/
theorem execFlitRx_of_next (hup : s.ulState = ulUp)
    (h : bytesAt (flitOf b) 252 4 = crc32c ((flitOf b).take 252)) (htype : bytesAt (flitOf b) 0 2 / 4096 = 0)
    (hseq : bytesAt (flitOf b) 0 2 % 4096 = (s.ulk.rxSeq + 1) % 4096) :
    execFlitRx b true s = .next (State.ulPump { s.flitTaken b with
      ulk := { (s.flitTaken b).ulk with rxSeq := bytesAt (flitOf b) 0 2 % 4096, nakOut := false } }) := by
  unfold execFlitRx
  rw [if_neg (not_not_intro hup)]
  refine (if_neg (not_not_intro h)).trans (congrArg (fun t : State => Host.Outcome.next t.ulPump) ?_)
  exact (if_pos htype).trans (if_pos ⟨rfl, hseq⟩)

/-- One that is not is asked for again. -/
theorem execFlitRx_of_lost (hup : s.ulState = ulUp)
    (h : bytesAt (flitOf b) 252 4 = crc32c ((flitOf b).take 252)) (htype : bytesAt (flitOf b) 0 2 / 4096 = 0)
    (hlost : d = false ∨ bytesAt (flitOf b) 0 2 % 4096 ≠ (s.ulk.rxSeq + 1) % 4096) :
    execFlitRx b d s = .next (State.ulPump { s.flitTaken b with
      ulk := { (s.flitTaken b).ulk with nakOut := true } }) := by
  unfold execFlitRx
  rw [if_neg (not_not_intro hup)]
  refine (if_neg (not_not_intro h)).trans (congrArg (fun t : State => Host.Outcome.next t.ulPump) ?_)
  refine (if_pos htype).trans (if_neg ?_)
  rintro ⟨hd, hseq⟩
  obtain hlost | hlost := hlost
  · exact absurd hd (by rw [hlost]; exact Bool.false_ne_true)
  · exact hlost hseq

/-- A NAK counted. -/
def State.nakTaken (s : State) (b : List Byte) : State :=
  (({ s.flitTaken b with ulk := { (s.flitTaken b).ulk with nakRun := (s.flitTaken b).ulk.nakRun + 1 } }).bump
    ULK.COUNTS.REPLAYS).count ctrFtd 0x060 0

theorem execFlitRx_of_nak (hup : s.ulState = ulUp)
    (h : bytesAt (flitOf b) 252 4 = crc32c ((flitOf b).take 252)) (htype : bytesAt (flitOf b) 0 2 / 4096 = 2) :
    execFlitRx b d s = .next (s.nakTaken b).ulPump := by
  unfold execFlitRx
  rw [if_neg (not_not_intro hup)]
  refine (if_neg (not_not_intro h)).trans (congrArg (fun t : State => Host.Outcome.next t.ulPump) ?_)
  exact (if_neg (by rw [htype]; decide)).trans (if_pos htype)

end

/-- What is sent after a flit is taken leaves what the flit said. -/
theorem State.ulPump_ulk (s : State) : Ulk.pumped s.ulk s.ulPump.ulk := (State.ulPump_pumped s).2.2

theorem State.ulPump_rxSeq (s : State) : s.ulPump.ulk.rxSeq = s.ulk.rxSeq := (congrArg Ulk.rxSeq s.ulPump_ulk.1 :)

theorem State.ulPump_nakOut (s : State) : s.ulPump.ulk.nakOut = s.ulk.nakOut := (congrArg Ulk.nakOut s.ulPump_ulk.1 :)

theorem State.ulPump_nakRun (s : State) : s.ulPump.ulk.nakRun = s.ulk.nakRun := (congrArg Ulk.nakRun s.ulPump_ulk.1 :)

theorem State.ulPump_dir (s : State) : s.ulPump.ulk.dir = s.ulk.dir := (congrArg Ulk.dir s.ulPump_ulk.1 :)

/-- A register of the link other than the count of held notices reads the same after sending. -/
theorem State.ulPump_rd (s : State) {f : Field} (hi : f.inst = 0) (hl : f.lo < 128)
    (ho : f.off < 0xd00000 ∨ 0xe00000 ≤ f.off ∧ f.off < 2 ^ 26) (hp : f.key ≠ ULK.NOTICE_STAT.PENDING.key) :
    s.ulPump.rd f = s.rd f := State.pumped_rd s.ulPump_pumped (notMem_counterFields_of_off hi hl ho hp)

theorem State.nakTaken_shows (s : State) (b : List Byte) :
    (s.nakTaken b).ulPump.ulk.nakRun = (s.flitTaken b).ulk.nakRun + 1 ∧
      (s.nakTaken b).ulPump.rd ULK.COUNTS.REPLAYS = (s.rd ULK.COUNTS.REPLAYS + 1) % 2 ^ ULK.COUNTS.REPLAYS.width := by
  refine ⟨?run, ?count⟩
  case run => rw [State.ulPump_nakRun, State.nakTaken, State.countFtd_quiet]; rfl
  case count =>
    rw [State.ulPump_rd _ rfl (by decide) (by decide) (by decide), State.nakTaken]
    refine ((State.countFtd_frame _ _ _ _).2 _
      (notMem_counterFields_of_off rfl (by decide) (by decide) (by decide))).trans ?_
    exact State.rd_bump_self _ _

/-! ### Notice lines (R402, R403) -/

/-- A notice on its way out. -/
def State.noticeTaken (s : State) (c : Nat) : State :=
  (State.wr { s with notices := Tbl.put s.notices {} c { s.notice c with held := false } } ULK.NOTICE_STAT.PENDING
    (State.heldNotices { s with notices := Tbl.put s.notices {} c { s.notice c with held := false } })).bump
      ULK.NOTICE_STAT.WRITTEN

theorem State.writeNotice_eq (s : State) (c : Nat) :
    s.writeNotice c = (s.noticeTaken c).request
      { write := true, addr := s.noticeBase + 64 * c, len := 64, who := .notice c, data := s.noticeLine c } := by
  have hbase : (s.noticeTaken c).noticeBase = s.noticeBase := by
    simp only [State.noticeBase, State.noticeTaken]
    rw [State.rd_bump_ne _ (by decide), State.rd_wr_ne _ _ (by decide), State.rd_bump_ne _ (by decide),
      State.rd_wr_ne _ _ (by decide)]
    rfl
  rw [← hbase]
  rfl

theorem State.writeNotice_shows (s : State) (c : Nat) :
    ((s.writeNotice c).notice c).held = false ∧
      (s.writeNotice c).rd ULK.NOTICE_STAT.WRITTEN =
        (s.rd ULK.NOTICE_STAT.WRITTEN + 1) % 2 ^ ULK.NOTICE_STAT.WRITTEN.width ∧
      ∀ k, s.freeTag = some k → (s.writeNotice c).carries (PReq.msg
        { write := true, addr := s.noticeBase + 64 * c, len := 64, who := .notice c, data := s.noticeLine c } k) := by
  rw [State.writeNotice_eq]
  obtain ⟨hframe, hregs⟩ := (s.noticeTaken c).request_frame
    { write := true, addr := s.noticeBase + 64 * c, len := 64, who := .notice c, data := s.noticeLine c }
  refine ⟨?held, ?written, fun k hk => State.request_carries (s := s.noticeTaken c) hk⟩
  case held =>
    rw [hframe]
    exact congrArg Notice.held (Tbl.lookD_put_self s.notices ({} : Notice) c _)
  case written =>
    rw [hregs _ (notMem_counterFields_of_off rfl (by decide) (by decide) (by decide)), State.noticeTaken,
      State.rd_bump_self, State.rd_wr_ne _ _ (by decide)]
    rfl

theorem execNoticeWrite_of_held {s : State} {c : Fin 64} (hon : s.noticesOn = true) (h : (s.notice c).held = true) :
    execNoticeWrite c s = .next (s.writeNotice c) := if_pos ⟨hon, h⟩

/-! ### States (R405, R406) -/

theorem State.setUl_regsBut (s : State) (st : Nat) :
    s.regsBut (s.setUl st) [ULK.STAT.STATE, ULK.NOTICE_STAT.PENDING] :=
  State.regsBut_trans (State.regsBut_wr s st (by simp)) (State.regsBut_wr _ _ (by simp))

theorem State.setUl_ulState (s : State) {st : Nat} (h : st < 8) : (s.setUl st).ulState = st := by
  refine (State.rd_wr_ne _ _ (by decide)).trans ((State.rd_wr_self _ _ _).trans ?_)
  exact Nat.mod_eq_of_lt h

/-- The state of the link after an event of another of its registers. -/
theorem State.raise_ulState (s : State) {f : Field} {v : Nat} (d : List Byte) (hf : ULK.STAT.STATE.key ≠ f.key)
    (hs : ULK.STAT.STATE.key ≠ (seqOf f).key) : (s.raise f v d).ulState = s.ulState :=
  State.raise_rd_ne s v d hf hs (by decide)

theorem execUlkSignalDetect_of_down {s : State} {t : Nat} (h : s.ulState = ulDown) (hen : s.on ULK.CTRL.EN = true)
    (hr : s.ulRuns = true) : execUlkSignalDetect t s = .next ((s.advance t).setUl ulTrain) :=
  if_pos ⟨h, hen, hr⟩

theorem execUlkTrainTimeout_of_late {s : State} {t : Nat} (h : s.ulState = ulTrain)
    (ht : s.ulk.entered + Config.ns 50000000 ≤ max s.now t) :
    execUlkTrainTimeout t s = .next ((s.advance t).setUl ulDown) := if_pos ⟨h, ht⟩

theorem execUlkRecoverEntry_of_up {s : State} {c : UlCause} {t : Nat} (h : s.ulState = ulUp)
    (hc : c = .naks → 16 ≤ s.ulk.nakRun) : execUlkRecoverEntry c t s =
      .next ((((s.advance t).setUl ulRecover).bump ULK.COUNTS.RECOVERS).raise ULK.EVENT.RECOVER) := if_pos ⟨h, hc⟩

theorem execUlkFailedTimeout_of_late {s : State} {t : Nat} (h : s.ulState = ulFailed)
    (ht : s.ulk.entered + Config.ns 1000000000 ≤ max s.now t) :
    execUlkFailedTimeout t s = .next ((s.advance t).setUl ulDown) := if_pos ⟨h, ht⟩

theorem execUlkRetrain_of_failed {s : State} (h : s.ulState = ulFailed) :
    execUlkRetrain s = .next (s.setUl ulDown) := congrArg Host.Outcome.next (if_pos h)

theorem execUlkRetrain_of_other {s : State} (h : s.ulState ≠ ulFailed) : execUlkRetrain s = .next s :=
  congrArg Host.Outcome.next (if_neg h)

theorem execUlkFailed_of_recover {s : State} {three : Bool} {t : Nat} (h : s.ulState = ulRecover)
    (hw : three = true ∨ s.ulk.entered + Config.ns (1000000 * s.rd ULK.CTRL.RECOVER_LIM) ≤ max s.now t) :
    execUlkFailed three t s = .next (((((s.advance t).setUl ulFailed).wr ULK.STAT.LANE_OK 0).ulDrop).raise
      ULK.EVENT.FAILED sevError) := if_pos ⟨h, hw⟩

theorem State.recoverEntry_shows (s : State) :
    let t := ((s.setUl ulRecover).bump ULK.COUNTS.RECOVERS).raise ULK.EVENT.RECOVER
    t.ulState = ulRecover ∧ t.on ULK.EVENT.RECOVER = true ∧
      t.rd ULK.COUNTS.RECOVERS = (s.rd ULK.COUNTS.RECOVERS + 1) % 2 ^ ULK.COUNTS.RECOVERS.width ∧
      t.ulk = { s.ulk with entered := t.now } := by
  refine ⟨?state, ?flag, ?count, ?link⟩
  case state =>
    rw [State.raise_ulState _ _ (by decide) (by decide), State.ulState, State.rd_bump_ne _ (by decide)]
    exact State.setUl_ulState s (by decide)
  case flag => rw [State.on, State.raise_rd_self _ _ _ (by decide) (by decide) (by decide)]; rfl
  case count =>
    rw [State.raise_rd_ne _ _ _ (by decide) (by decide) (by decide), State.rd_bump_self,
      s.setUl_regsBut ulRecover _ (by decide)]
  case link => rw [State.raise_ulk, State.raise_now]; rfl

/-! ### UP (R405) -/

/-- The state in which the link comes UP, but for the state itself: the width and the lanes in use shown. -/
def State.ulLanes (s : State) (w lanes : Nat) : State := (s.wr ULK.STAT.WIDTH w).wr ULK.STAT.LANE_OK lanes

/-- The link UP: its event, and nothing sent yet. -/
def State.ulUpNow (s : State) : State := (s.setUl ulUp).raise ULK.EVENT.UP

theorem State.ulUpNow_ulState (s : State) : s.ulUpNow.ulState = ulUp := by
  rw [State.ulUpNow, State.raise_ulState _ _ (by decide) (by decide)]
  exact State.setUl_ulState s (by decide)

theorem State.ulUpNow_ulk (s : State) : s.ulUpNow.ulk = { s.ulk with entered := s.now } := State.raise_ulk _ _ _ _

theorem State.ulUpNow_up (s : State) : s.ulUpNow.on ULK.EVENT.UP = true := by
  rw [State.on, State.ulUpNow, State.raise_rd_self _ _ _ (by decide) (by decide) (by decide)]
  rfl

/-- What coming UP leaves: all but the state, the event and what the recorder keeps. -/
theorem State.ulUpNow_rd (s : State) {f : Field}
    (hf : f.key ∉ ([ULK.STAT.STATE, ULK.EVENT.UP, seqOf ULK.EVENT.UP] ++ recorderFields).map Field.key) :
    s.ulUpNow.rd f = s.rd f := by
  refine State.regsBut_trans (State.regsBut_mono (s.setUl_regsBut ulUp) (by decide))
    (State.raise_regsBut _ _ _ ?_ ?_ fun g hg => List.mem_append_right _ hg) f hf <;> decide

theorem State.ulLanes_shows (s : State) {w : Nat} (lanes : BitVec 16) :
    (s.ulLanes w lanes.toNat).rd ULK.STAT.LANE_OK = lanes.toNat ∧
      (s.ulLanes w lanes.toNat).rd ULK.STAT.WIDTH = w % 2 ^ ULK.STAT.WIDTH.width := by
  refine ⟨?lanes, ?width⟩
  case lanes => rw [State.ulLanes, State.rd_wr_self]; exact Nat.mod_eq_of_lt lanes.isLt
  case width => rw [State.ulLanes, State.rd_wr_ne _ _ (by decide), State.rd_wr_self]

/-- The state that training leaves: the new epoch, the companion's credits and an empty replay buffer. -/
def State.trained (s : State) (x : UlParams) : State :=
  { s.newEpoch with
    ulk := { s.ulk with
      hand := { req := x.req, snp := x.snp, rsp := x.rsp, dat := x.dat }, replay := [], rxSeq := 4095, txSeq := 4095
      nakOut := false, nakRun := 0 } }

theorem execUlkTrainDone_of_agreed {s : State} {lanes : BitVec 16} {x : UlParams} {t w : Nat} (h : s.ulState = ulTrain)
    (hx : x.major = 1) (hw : widthOf lanes.toNat = some w) (hwide : w = 0 → x.wide = true)
    (hnarrow : w = 1 → x.narrow = true ∧ s.on ULK.CTRL.W8_OK = true) :
    execUlkTrainDone lanes x t s = .next ((((s.advance t).trained x).ulLanes w lanes.toNat).ulUpNow.ulPump) := by
  unfold execUlkTrainDone
  rw [hw]
  refine if_neg ?_
  rintro (hne | hne | ⟨h0, hne⟩ | ⟨h1, hne⟩)
  · exact hne h
  · exact hne hx
  · exact hne (hwide h0)
  · exact hne (hnarrow h1)

theorem execUlkRecoverDone_of_recover {s : State} {lanes : BitVec 16} {t w : Nat} (h : s.ulState = ulRecover)
    (hw : widthOf lanes.toNat = some w) (hnarrow : w = 1 → s.on ULK.CTRL.W8_OK = true) :
    execUlkRecoverDone lanes t s = .next ((State.ulLanes { s.advance t with
      ulk := { s.ulk with nakOut := false, nakRun := 0 } } w lanes.toNat).ulUpNow.ulPump) := by
  unfold execUlkRecoverDone
  rw [hw]
  refine if_neg ?_
  rintro (hne | ⟨h1, hne⟩)
  · exact hne h
  · exact hne (hnarrow h1)

theorem State.trained_shows (s : State) (x : UlParams) {w : Nat} (lanes : BitVec 16) (hout : s.ulk.out = []) :
    let t := ((s.trained x).ulLanes w lanes.toNat).ulUpNow.ulPump
    t.ulState = ulUp ∧ t.rd ULK.STAT.EPOCH = (s.rd ULK.STAT.EPOCH + 1) % 2 ^ ULK.STAT.EPOCH.width ∧
      t.rd ULK.STAT.LANE_OK = lanes.toNat ∧ t.rd ULK.STAT.WIDTH = w % 2 ^ ULK.STAT.WIDTH.width ∧
      t.on ULK.EVENT.UP = true ∧ t.ulk.hand = { req := x.req, snp := x.snp, rsp := x.rsp, dat := x.dat } ∧
      t.ulk.replay = [] := by
  have hempty : (((s.trained x).ulLanes w lanes.toNat).ulUpNow).ulk.out = [] := by rw [State.ulUpNow_ulk]; exact hout
  dsimp only
  rw [State.ulPump_of_empty hempty, State.ulUpNow_ulk]
  obtain ⟨hlanes, hwidth⟩ := (s.trained x).ulLanes_shows (w := w) lanes
  refine ⟨State.ulUpNow_ulState _, ?epoch, (State.ulUpNow_rd _ (by decide)).trans hlanes,
    (State.ulUpNow_rd _ (by decide)).trans hwidth, State.ulUpNow_up _, rfl, rfl⟩
  case epoch =>
    rw [State.ulUpNow_rd _ (by decide), State.ulLanes, State.rd_wr_ne _ _ (by decide), State.rd_wr_ne _ _ (by decide)]
    exact State.rd_bump_self s ULK.STAT.EPOCH

theorem State.recovered_shows (s : State) {w : Nat} (lanes : BitVec 16) (hrun : s.ulk.nakRun = 0) :
    let t := (s.ulLanes w lanes.toNat).ulUpNow.ulPump
    t.ulState = ulUp ∧ t.rd ULK.STAT.LANE_OK = lanes.toNat ∧ t.on ULK.EVENT.UP = true ∧ t.ulk.nakRun = 0 ∧
      t.ulk.dir = s.ulk.dir := by
  dsimp only
  refine ⟨?state, ?lanes, ?flag, ?run, ?dir⟩
  case state =>
    rw [State.ulState, State.ulPump_rd _ rfl (by decide) (by decide) (by decide)]
    exact State.ulUpNow_ulState _
  case lanes =>
    rw [State.ulPump_rd _ rfl (by decide) (by decide) (by decide), State.ulUpNow_rd _ (by decide)]
    exact (s.ulLanes_shows lanes).1
  case flag =>
    rw [State.on, State.ulPump_rd _ rfl (by decide) (by decide) (by decide)]
    exact State.ulUpNow_up _
  case run => rw [State.ulPump_nakRun, State.ulUpNow_ulk]; exact hrun
  case dir => rw [State.ulPump_dir, State.ulUpNow_ulk]; rfl

/-! ### What FAILED drops (R406) -/

theorem State.loseLines_ulk (s : State) : s.loseLines.ulk = { s.ulk with dir := [] } := by
  unfold State.loseLines
  dsimp only
  split
  · rfl
  · rw [State.raise_ulk, State.bumpBy_ulk]
    split <;> rfl

/-- Lines that were OWNED are lost, and the event says so. -/
theorem State.loseLines_lost {s : State} (h : ∃ r ∈ s.ulk.dir, r.2.owned = true) :
    s.loseLines.on ULK.EVENT.LOST = true := by
  obtain ⟨r, hr, howned⟩ := h
  have hmem : r ∈ s.ulk.dir.filter fun r => r.2.owned := List.mem_filter.2 ⟨hr, howned⟩
  unfold State.loseLines
  dsimp only
  split
  next hnil => rw [hnil] at hmem; cases hmem
  next => rw [State.on, State.raise_rd_self _ _ _ (by decide) (by decide) (by decide)]; rfl

/-- With no access deferred, running them is nothing. -/
theorem State.runDeferred_of_nil {s : State} (h : s.ulk.deferred = []) : s.runDeferred = s := by
  unfold State.runDeferred
  dsimp only
  rw [h]
  exact congrArg (fun d => ({ s with ulk := { s.ulk with deferred := d } } : State)) h.symm

/-- The link with its requests, queues and snoops dropped. -/
def State.ulCleared (s : State) : State :=
  { s with ulk := { s.ulk with
    reqs := [], waiting := [], out := [], replay := [], snoops := [], nakOut := false, nakRun := 0 } }

theorem State.ulDrop_of_idle {s : State} (hreqs : s.ulk.reqs = []) (hwaiting : s.ulk.waiting = [])
    (hdeferred : s.ulk.deferred = []) : s.ulDrop = s.ulCleared.loseLines := by
  unfold State.ulDrop
  dsimp only
  rw [hreqs, hwaiting]
  exact State.runDeferred_of_nil (by rw [State.loseLines_ulk]; exact hdeferred)

/-- Settles O44, along the branches of a flit, of a held notice, and of each move of the link's state. -/
theorem urdalLink : Obligations.UrdalLink := by
  unfold Obligations.UrdalLink
  refine ⟨fun s b d hup => ⟨fun h => ?unsound, fun h htype hd hseq => ?next, fun h htype hlost => ?lost,
      fun h htype => ?nak⟩,
    fun s c hon hheld => ?notice,
    fun s t0 => ⟨fun h hen hr => ?signal, fun h ht => ?timeout, fun c h hc => ?recover, fun h ht => ?again,
      fun h => ?retrain, fun h => ?other, fun three h hw => ?failed⟩,
    fun s lanes x t0 w h hx hw hwide hnarrow hout => ?trained, fun s lanes t0 w h hw hnarrow => ?recovered,
    fun s hreqs hwaiting hdeferred => ?dropped⟩
  case unsound => exact execFlitRx_of_unsound hup h
  case next =>
    subst hd
    refine ⟨_, execFlitRx_of_next hup h htype hseq, ?_, ?_, fun q m hm => ?_⟩
    · rw [State.ulPump_rxSeq]
    · rw [State.ulPump_nakOut]
    · exact (State.ulPump_ulk _).2.1 _ hm
  case lost => exact execFlitRx_of_lost hup h htype hlost
  case nak => exact ⟨_, execFlitRx_of_nak hup h htype, s.nakTaken_shows b⟩
  case notice => exact ⟨_, execNoticeWrite_of_held hon hheld, s.writeNotice_shows c⟩
  case signal => exact ⟨_, execUlkSignalDetect_of_down h hen hr, State.setUl_ulState _ (by decide), rfl, rfl⟩
  case timeout => exact ⟨_, execUlkTrainTimeout_of_late h ht, State.setUl_ulState _ (by decide), rfl⟩
  case recover => exact ⟨_, execUlkRecoverEntry_of_up h hc, (s.advance t0).recoverEntry_shows⟩
  case again => exact ⟨_, execUlkFailedTimeout_of_late h ht, State.setUl_ulState _ (by decide)⟩
  case retrain => exact ⟨_, execUlkRetrain_of_failed h, State.setUl_ulState _ (by decide)⟩
  case other => exact execUlkRetrain_of_other h
  case failed => exact execUlkFailed_of_recover h hw
  case trained =>
    exact ⟨_, execUlkTrainDone_of_agreed h hx hw hwide hnarrow, (s.advance t0).trained_shows x lanes hout⟩
  case recovered => exact ⟨_, execUlkRecoverDone_of_recover h hw hnarrow, State.recovered_shows _ lanes rfl⟩
  case dropped =>
    rw [State.ulDrop_of_idle hreqs hwaiting hdeferred, State.loseLines_ulk]
    exact ⟨rfl, rfl, rfl, rfl, fun h => State.loseLines_lost h⟩

end Sys2Proof.Machine
end

section
/-! SUPPORT. The job calendar (13_urdal_link.md, R398-R401, R404): the branches of an entry's examination, what a rejection
shows, and the statement about them. -/
namespace Sys2Proof.Machine
open Sys2Proof

/-! ### An entry examined (R399) -/

section
variable {s : State} {i : Fin 255} {ups : List Upset} {t : Nat}

theorem execCalendarExamine_of_idle (h : s.mcRuns = false ∨ s.ulk.calWait.contains i.val = false) :
    execCalendarExamine i ups t s = .next (s.advance t) :=
  if_pos (h.imp (fun h hr => Bool.false_ne_true (h.symm.trans hr)) fun h hr => Bool.false_ne_true (h.symm.trans hr))

/-- What the first line of an entry that has been read asks for (R399). -/
def calExamined (i a : Nat) (r : State × List Byte × List Nat) : Result :=
  if ¬ bitOf (bytesAt r.2.1 18 1) 0 then .next r.1
  else if bytesAt r.2.1 20 4 = Tbl.lookD r.1.ulk.calSeq 0 i then
    if bitOf (bytesAt r.2.1 18 1) 1 then .next (r.1.cancelEntry i (bytesAt r.2.1 20 4) (bytesAt r.2.1 0 8)) else .next r.1
  else .next (r.1.submit i a r.2.1 r.2.2)

/-- An entry whose lines the companion does not hold is read, and its first line decides. -/
theorem execCalendarExamine_of_read {a : Nat} {r : State × List Byte × List Nat} (hmc : s.mcRuns = true)
    (hwait : s.ulk.calWait.contains i.val = true) (hi : i.val < s.calEntries)
    (ha : (s.advance t).rd ULK.CAL_LO.ADDR + 2 ^ 32 * (s.advance t).rd ULK.CAL_HI.ADDR + 512 * i.val = a)
    (hheld : s.heldLines false a 512 = [])
    (hr : State.readEntry { s.advance t with ulk := { (s.advance t).ulk with
      calWait := (s.advance t).ulk.calWait.filter fun k => k != i.val } } a ups = r)
    (hfirst : r.2.2.contains 0 = false) : execCalendarExamine i ups t s = calExamined i a r := by
  unfold execCalendarExamine
  dsimp only
  rw [ha, hr]
  split
  next h => exact absurd h (not_or.2 ⟨not_not_intro hmc, not_not_intro hwait⟩)
  next =>
    split
    next h => exact absurd h (Nat.not_le.2 hi)
    next =>
      split
      next h => exact absurd hheld h
      next =>
        split
        next h => exact absurd (hfirst.symm.trans h) Bool.false_ne_true
        next => rfl

end

/-! ### Rejections and submissions (R400) -/

/-- A rejection, but for its event. -/
def State.calRejected (s : State) (entry reason seq : Nat) : State :=
  ((s.bump ULK.JOB_STAT.REJECTED).wr ULK.JOB_STAT.LAST_REASON reason).compose 3
    (leBytes 2 entry ++ leBytes 1 reason ++ leBytes 1 0 ++ leBytes 4 seq)

theorem State.reject_of_late (s : State) (entry seq : Nat) :
    s.reject entry 10 seq = (s.calRejected entry 10 seq).raise ULK.EVENT.CANCEL_LATE := rfl

theorem State.reject_of_reason (s : State) (entry seq : Nat) {reason : Nat} (h : reason ≠ 10) :
    s.reject entry reason seq = (s.calRejected entry reason seq).raise ULK.EVENT.JOB_REJECT := by
  unfold State.reject
  rw [if_neg h]
  rfl

theorem State.calRejected_shows (s : State) (entry reason seq : Nat) :
    (s.calRejected entry reason seq).rd ULK.JOB_STAT.LAST_REASON = reason % 2 ^ ULK.JOB_STAT.LAST_REASON.width ∧
      (s.calRejected entry reason seq).rd ULK.JOB_STAT.REJECTED =
        (s.rd ULK.JOB_STAT.REJECTED + 1) % 2 ^ ULK.JOB_STAT.REJECTED.width := by
  have hkeep {f : Field} (hf : f.key ∉ recorderFields.map Field.key) :
      (s.calRejected entry reason seq).rd f =
        ((s.bump ULK.JOB_STAT.REJECTED).wr ULK.JOB_STAT.LAST_REASON reason).rd f := State.compose_regsBut _ _ _ _ hf
  exact ⟨(hkeep (by decide)).trans (State.rd_wr_self _ _ _),
    (hkeep (by decide)).trans ((State.rd_wr_ne _ _ (by decide)).trans (State.rd_bump_self _ _))⟩

/-- A submission that fails a check is rejected with the check's reason; no trigger changes. -/
theorem State.reject_shows (s : State) (entry seq : Nat) {reason : Nat} (h : reason ≠ 10) :
    (s.reject entry reason seq).rd ULK.JOB_STAT.LAST_REASON = reason % 2 ^ ULK.JOB_STAT.LAST_REASON.width ∧
      (s.reject entry reason seq).rd ULK.JOB_STAT.REJECTED =
        (s.rd ULK.JOB_STAT.REJECTED + 1) % 2 ^ ULK.JOB_STAT.REJECTED.width ∧
      (s.reject entry reason seq).on ULK.EVENT.JOB_REJECT = true ∧ ∀ k, (s.reject entry reason seq).job k = s.job k := by
  rw [State.reject_of_reason s entry seq h]
  obtain ⟨hreason, hcount⟩ := s.calRejected_shows entry reason seq
  refine ⟨(State.raise_rd_ne _ _ _ (by decide) (by decide) (by decide)).trans hreason,
    (State.raise_rd_ne _ _ _ (by decide) (by decide) (by decide)).trans hcount, ?flag, fun k => ?job⟩
  case flag => rw [State.on, State.raise_rd_self _ _ _ (by decide) (by decide) (by decide)]; rfl
  case job => exact congrArg (fun c : Compute => Tbl.lookD c.jobs {} k) (State.raise_comp _ _ _ _)

/-- A cancel that comes too late is rejected with reason 10. -/
theorem State.rejectLate_shows (s : State) (entry seq : Nat) :
    (s.reject entry 10 seq).on ULK.EVENT.CANCEL_LATE = true ∧
      (s.reject entry 10 seq).rd ULK.JOB_STAT.LAST_REASON = 10 := by
  rw [State.reject_of_late]
  refine ⟨?flag, (State.raise_rd_ne _ _ _ (by decide) (by decide) (by decide)).trans (s.calRejected_shows entry 10 seq).1⟩
  case flag => rw [State.on, State.raise_rd_self _ _ _ (by decide) (by decide) (by decide)]; rfl

/-- The SEQ of an entry handled. -/
def State.calHandled (s : State) (e seq : Nat) : State :=
  { s with ulk := { s.ulk with calSeq := Tbl.set s.ulk.calSeq e seq } }

theorem State.submit_of_reason {s : State} {e a : Nat} {l : List Byte} {bad : List Nat}
    (hnew : Tbl.look s.ulk.calSeq e = none) (h : (s.calHandled e (bytesAt l 20 4)).entryReason l bad ≠ 0) :
    s.submit e a l bad = (s.calHandled e (bytesAt l 20 4)).reject e
      ((s.calHandled e (bytesAt l 20 4)).entryReason l bad) (bytesAt l 20 4) := by
  unfold State.submit
  rw [hnew]
  exact if_pos h

theorem State.submit_of_sound {s : State} {e a j : Nat} {l : List Byte} {bad : List Nat}
    (hnew : Tbl.look s.ulk.calSeq e = none) (h : (s.calHandled e (bytesAt l 20 4)).entryReason l bad = 0)
    (hj : ((List.range 8).find? fun j => (s.job j).stage == .free) = some j) :
    s.submit e a l bad = (s.calHandled e (bytesAt l 20 4)).setJob j
      { stage := .loading, mask := bytesAt l 64 256, start := bytesAt l 0 8, image := bytesAt l 8 6,
        group := bytesAt l 16 2, entry := e, eaddr := a, eseq := bytesAt l 20 4, done := (s.job j).done,
        bad := (s.job j).bad } := by
  have hfind : ((List.range 8).find? fun j => ((s.calHandled e (bytesAt l 20 4)).job j).stage == .free) = some j := hj
  unfold State.submit
  rw [hnew]
  refine (if_neg (not_not_intro h)).trans ?_
  split
  next hnone => cases hfind.symm.trans hnone
  next k hk => cases hfind.symm.trans hk; rfl

/-! ### The checks (R376, R400) -/

/-- A submission that passes the checks meets what each of them asks. -/
theorem State.entryReason_zero {s : State} {l : List Byte} {bad : List Nat} (h : s.entryReason l bad = 0) :
    s.rd GAUGE.STATUS.STATE ≠ 0 ∧ s.rd GAUGE.STATUS.STATE ≠ 1 ∧ s.rd GAUGE.STATUS.STATE ≠ 5 ∧
      s.rd PWR.STATE.STATE = pwActive ∧ s.now + Config.ns (1000 * s.rd ULK.CAL_CFG.LEAD) ≤ bytesAt l 0 8 * 65536 ∧
      bytesAt l 8 6 % 64 = 0 ∧ bytesAt l 8 6 < s.lpEnd ∧ bad = [] ∧ 0 < bytesAt l 64 256 ∧
      bytesAt l 64 256 < 2 ^ 2000 := by
  have hnext {p : Prop} [Decidable p] {n r : Nat} (hn : n ≠ 0) (h : (if p then n else r) = 0) : ¬ p ∧ r = 0 := by
    by_cases hp : p
    · rw [if_pos hp] at h; exact absurd h hn
    · rw [if_neg hp] at h; exact ⟨hp, h⟩
  unfold State.entryReason at h
  obtain ⟨-, h⟩ := hnext (by decide) h
  obtain ⟨hgauge, h⟩ := hnext (by decide) h
  obtain ⟨hpower, h⟩ := hnext (by decide) h
  obtain ⟨hstart, h⟩ := hnext (by decide) h
  obtain ⟨himage, h⟩ := hnext (by decide) h
  obtain ⟨hmask, h⟩ := hnext (by decide) h
  obtain ⟨-, h⟩ := hnext (by decide) h
  obtain ⟨-, h⟩ := hnext (by decide) h
  obtain ⟨hbad, -⟩ := hnext (by decide) h
  obtain rfl : bad = [] := not_not.1 hbad
  simp only [not_or, Nat.not_le, Nat.not_lt, not_not] at hgauge hpower hstart himage
  have hbits : ¬ (bytesAt l 64 256 = 0 ∨ 2 ^ 2000 ≤ bytesAt l 64 256) := fun hp => hmask ⟨Bool.false_ne_true, hp⟩
  rw [not_or, Nat.not_le] at hbits
  exact ⟨hgauge.1, hgauge.2.1, hgauge.2.2, hpower.1, hstart, himage.1, himage.2, rfl, Nat.pos_of_ne_zero hbits.1, hbits.2⟩

/-! ### Cancels (R401) -/

theorem State.cancelEntry_of_early {s : State} {e q start j : Nat} (hj : s.trigOf e q = some j)
    (hstage : (s.job j).stage ≠ .running) (ht : s.now + Config.ns 10000 ≤ (s.job j).start * 65536) :
    s.cancelEntry e q start = s.cancelJob j := by
  unfold State.cancelEntry
  split
  next k hk => cases hj.symm.trans hk; exact if_pos ⟨hstage, ht⟩
  next hk => cases hj.symm.trans hk

theorem State.cancelEntry_of_running {s : State} {e q start j : Nat} (hj : s.trigOf e q = some j)
    (hstage : (s.job j).stage = .running) : s.cancelEntry e q start = s.reject e 10 q := by
  unfold State.cancelEntry
  split
  next k hk => cases hj.symm.trans hk; exact if_neg fun h => h.1 hstage
  next hk => cases hj.symm.trans hk

/-- Settles O45, along the branches of an entry's examination, of a submission's checks, and of a cancel. -/
theorem calendar : Obligations.Calendar := by
  unfold Obligations.Calendar
  refine ⟨fun s i ups t => ?examined, fun s i ups t h => ?idle,
    fun s e a j l bad hnew => ⟨fun h hj => ?taken, fun h hne => ?refused⟩, fun s l bad h => State.entryReason_zero h,
    fun s e q start => ⟨fun j hj hstage ht => ?early, fun j hj hstage => ?running⟩⟩
  case examined =>
    intro v u a r l hmc hwait hi hheld hfirst
    have hr : u.readEntry a ups = r := rfl
    clear_value r
    rw [exec_calendarExamine, execCalendarExamine_of_read hmc hwait hi rfl hheld hr hfirst]
    refine ⟨fun hbit hseq => ?submit, fun hbit hseq hcancel => ?cancel, fun hbit => ?absent⟩
    case submit => exact (if_neg (not_not_intro hbit)).trans (if_neg hseq)
    case cancel => exact (if_neg (not_not_intro hbit)).trans ((if_pos hseq).trans (if_pos hcancel))
    case absent => exact if_pos fun h => Bool.false_ne_true (hbit.symm.trans h)
  case idle => exact execCalendarExamine_of_idle h
  case taken =>
    rw [State.submit_of_sound hnew h hj]
    simp only [State.setJob_job_self, State.setJob_ulk, State.setJob_regs]
    exact ⟨Tbl.look_set_self _ _ _, trivial, trivial, trivial, trivial, trivial, rfl⟩
  case refused =>
    rw [State.submit_of_reason hnew h]
    exact (s.calHandled e (bytesAt l 20 4)).reject_shows e (bytesAt l 20 4) hne
  case early => exact State.cancelEntry_of_early hj hstage ht
  case running => rw [State.cancelEntry_of_running hj hstage]; exact s.rejectLate_shows e q

end Sys2Proof.Machine
end

section
/-! SUPPORT. The bench chain and recovery (15_boot_cutting_list.md, R431-R437; 18_firmware_identity.md, R520, R521): what a
frame does by its fields, what the package sends of itself, how an image is installed, and the statement about them. -/
namespace Sys2Proof.Machine
open Sys2Proof

/-! ### Bytes -/

theorem ofLeBytes_lt (l : List Byte) : ofLeBytes l < 256 ^ l.length := by
  induction l with
  | nil => exact Nat.one_pos
  | cons b l ih =>
    have hb := b.isLt
    rw [ofLeBytes, List.length_cons, Nat.pow_succ]
    omega

theorem ofLeBytes_lt_of_length {l : List Byte} {n : Nat} (h : l.length ≤ n) : ofLeBytes l < 256 ^ n :=
  Nat.lt_of_lt_of_le (ofLeBytes_lt l) (Nat.pow_le_pow_right (by decide) h)

theorem bytesAt_lt (l : List Byte) (off n : Nat) : bytesAt l off n < 256 ^ n :=
  ofLeBytes_lt_of_length (List.length_take_le _ _)

theorem frSrc_lt (l : List Byte) : frSrc l < 256 := bytesAt_lt l 2 1

/-! ### A frame that comes in (R431-R433) -/

section
variable {s : State} {b : List Byte}

/-- The package as a frame finds it: nothing sent yet by the command, and the link shown up. -/
def State.chainHeard (s : State) : State := s.chainClear.wr BOOT.CHAIN.LINK 1

theorem State.chainHeard_rd (s : State) {f : Field} (h : f.key ≠ BOOT.CHAIN.LINK.key) : s.chainHeard.rd f = s.rd f :=
  State.rd_wr_ne _ _ h

theorem State.chainHeard_position (s : State) : s.chainHeard.position = s.position := by
  rw [State.position, State.position, s.chainHeard_rd (by decide)]

theorem State.chainHeard_regsBut (s : State) : s.regsBut s.chainHeard [BOOT.CHAIN.LINK] :=
  State.regsBut_trans (State.regsBut_of_regs rfl _) (State.regsBut_wr _ _ (by simp))

/-- A frame's fate follows from its fields and from the package's position. -/
theorem State.chainIn_of_vaux (hv : s.sys.vaux = true) : s.chainIn b =
    if !frOk b then s.chainHeard.bump BOOT.CHN_COUNTS.CRC_DROP
    else if frHop1 b then
      if bytesAt b 0 1 = 0 ∨ 5 < bytesAt b 0 1 then s.chainHeard.bump BOOT.CHN_COUNTS.UNKNOWN
      else if bytesAt b 0 1 = 1 then
        s.chainHeard.beacon (bytesAt (frPayload b) 0 1) (bytesAt (frPayload b) 1 1) (bytesAt (frPayload b) 2 1)
      else if s.chainHeard.chainActs (bytesAt b 0 1) (frPayload b) ∨ bytesAt b 0 1 = 5 then
        s.chainHeard.chainApply (bytesAt b 0 1) (frSrc b) true (frPayload b)
      else s.chainHeard
    else if s.chainHeard.position = some (frSrc b) then s.chainHeard.chainHome b
    else if 68 ≤ frHops b then s.chainHeard.bump BOOT.CHN_COUNTS.LOST
    else if bytesAt b 0 1 = 0 ∨ 5 < bytesAt b 0 1 then s.chainHeard.bump BOOT.CHN_COUNTS.UNKNOWN
    else s.chainHeard.chainPass b := if_neg (not_not_intro hv)

theorem State.chainIn_of_bad (hv : s.sys.vaux = true) (h : frOk b = false) :
    s.chainIn b = s.chainHeard.bump BOOT.CHN_COUNTS.CRC_DROP := by
  rw [State.chainIn_of_vaux hv, h]
  exact if_pos rfl

theorem State.chainIn_of_beacon (hv : s.sys.vaux = true) (h : frOk b = true) (hhop : frHop1 b = true)
    (htype : bytesAt b 0 1 = 1) : s.chainIn b =
      s.chainHeard.beacon (bytesAt (frPayload b) 0 1) (bytesAt (frPayload b) 1 1) (bytesAt (frPayload b) 2 1) := by
  simp [State.chainIn_of_vaux hv, h, hhop, htype]

theorem State.chainIn_of_home (hv : s.sys.vaux = true) (h : frOk b = true) (hhop : frHop1 b = false)
    (hpos : s.position = some (frSrc b)) : s.chainIn b = s.chainHeard.chainHome b := by
  simp [State.chainIn_of_vaux hv, h, hhop, State.chainHeard_position, hpos]

theorem State.chainIn_of_far (hv : s.sys.vaux = true) (h : frOk b = true) (hhop : frHop1 b = false)
    (hpos : s.position ≠ some (frSrc b)) (hfar : 68 ≤ frHops b) :
    s.chainIn b = s.chainHeard.bump BOOT.CHN_COUNTS.LOST := by
  simp [State.chainIn_of_vaux hv, h, hhop, State.chainHeard_position, hpos, hfar]

/-- A message from another package passes on. -/
theorem State.chainIn_of_msg (hv : s.sys.vaux = true) (h : frOk b = true) (hhop : frHop1 b = false)
    (hpos : s.position ≠ some (frSrc b)) (hnear : frHops b < 68) (htype : bytesAt b 0 1 = 4) :
    s.chainIn b = s.chainHeard.chainPass b := by
  have hfar : ¬ 68 ≤ frHops b := by omega
  simp [State.chainIn_of_vaux hv, h, hhop, State.chainHeard_position, hpos, hfar, htype]

/-- A frame already applied is forwarded and counted. -/
theorem State.chainPass_of_dup (htype : bytesAt b 0 1 = 4)
    (hdup : Tbl.look s.sys.chain.applied (frSrc b) = some (frSeq b)) :
    s.chainPass b = (s.chainOut [frForward b]).bump BOOT.CHN_COUNTS.DUP := by
  unfold State.chainPass
  dsimp only
  rw [htype]
  exact (if_neg (by simp [State.chainActs])).trans (if_pos hdup)

/-- A frame's source and SEQ noted as applied. -/
def State.chainNoted (s : State) (b : List Byte) : State :=
  s.setChain { s.sys.chain with applied := Tbl.set s.sys.chain.applied (frSrc b) (frSeq b) }

theorem State.chainPass_of_new (htype : bytesAt b 0 1 = 4)
    (hnew : Tbl.look s.sys.chain.applied (frSrc b) ≠ some (frSeq b)) :
    s.chainPass b = ((s.chainOut [frForward b]).chainNoted b).chainMsg (frSrc b) (frPayload b) := by
  unfold State.chainPass
  dsimp only
  rw [htype]
  exact (if_neg (by simp [State.chainActs])).trans (if_neg hnew)

/-- The registers of a message received, and what its event writes. -/
theorem State.chainMsg_shows (s : State) {src : Nat} {l : List Byte} (hne : l ≠ []) (hlen : l.length ≤ 16)
    (hsrc : src < 256) :
    (s.chainMsg src l).sys = s.sys ∧ (s.chainMsg src l).rd BOOT.CHN_RX.DATA = ofLeBytes l ∧
      (s.chainMsg src l).rd BOOT.CHN_RXH.SRC = src ∧ (s.chainMsg src l).rd BOOT.CHN_RXH.LEN = l.length ∧
      (s.chainMsg src l).on BOOT.CHN_RXH.VALID = true ∧ (s.chainMsg src l).on BOOT.EVENT.RX_MSG = true := by
  unfold State.chainMsg
  rw [if_neg (by simp [hne, hlen])]
  extract_lets u v
  have hu : u.sys = s.sys := by unfold u; split <;> rfl
  have hkeep {f : Field} (hf : f.key ≠ BOOT.CHN_RXH.VALID.key) (hs : f.key ≠ (seqOf BOOT.CHN_RXH.VALID).key)
      (hf' : f.key ≠ BOOT.EVENT.RX_MSG.key) (hs' : f.key ≠ (seqOf BOOT.EVENT.RX_MSG).key)
      (hr : f.key ∉ recorderFields.map Field.key) :
      ((v.setFlag BOOT.CHN_RXH.VALID).raise BOOT.EVENT.RX_MSG).rd f = v.rd f := by
    rw [State.raise_rd_ne _ _ _ hf' hs' hr, State.rd_setFlag_ne _ hf hs]
  refine ⟨?sys, ?data, ?src, ?len, ?valid, ?event⟩
  case sys => exact (State.raise_sys _ _ _ _ (by decide)).trans hu
  case data =>
    rw [hkeep (by decide) (by decide) (by decide) (by decide) (by decide), State.rd_wr_ne _ _ (by decide),
      State.rd_wr_ne _ _ (by decide), State.rd_wr_self]
    exact Nat.mod_eq_of_lt (ofLeBytes_lt_of_length hlen)
  case src =>
    rw [hkeep (by decide) (by decide) (by decide) (by decide) (by decide), State.rd_wr_ne _ _ (by decide), State.rd_wr_self]
    exact Nat.mod_eq_of_lt hsrc
  case len =>
    rw [hkeep (by decide) (by decide) (by decide) (by decide) (by decide), State.rd_wr_self]
    exact Nat.mod_eq_of_lt (Nat.lt_of_le_of_lt hlen (by decide))
  case valid =>
    rw [State.on, State.raise_rd_ne _ _ _ (by decide) (by decide) (by decide),
      State.rd_setFlag_self _ (by decide) (by decide)]
    rfl
  case event => rw [State.on, State.raise_rd_self _ _ _ (by decide) (by decide) (by decide)]; rfl

/-- The package's own message, come round: it is out no more. -/
theorem State.chainHome_of_mine {a : Nat} (htype : bytesAt b 0 1 ≠ 3) (h : s.sys.chain.mine = some (frSeq b, a)) :
    s.chainHome b = (s.setChain { s.sys.chain with mine := none }).wr BOOT.CHN_CMD.BUSY 0 := by
  unfold State.chainHome
  dsimp only
  rw [if_neg fun hrst => htype hrst.1, h]
  exact if_pos (beq_self_eq_true _)

theorem State.chainHome_shows (s : State) (c : Chain) :
    ((s.setChain c).wr BOOT.CHN_CMD.BUSY 0).on BOOT.CHN_CMD.BUSY = false := by
  rw [State.on, State.rd_wr_self]
  rfl

end

/-! ### A beacon (R434, R435) -/

theorem State.lenCheck_of_unlisted {s : State} (h : s.sys.boot.list = []) : s.lenCheck = s := if_pos (.inl h)

/-- The bench and the count that a beacon says. -/
def State.beaconShown (s : State) (n bench : Nat) : State := (s.wr BOOT.CHAIN.UP_BENCH bench).wr BOOT.CHAIN.COUNT n

/-- A beacon of the package's own bench gives a package without position the next one. -/
theorem State.beacon_of_unplaced {s : State} {pos n : Nat} (hhead : s.on BOOT.STRAPS.CHAIN_HEAD = false) (hpos : pos < 67)
    (hnone : s.position = none) (hlist : s.sys.boot.list = []) :
    s.beacon pos n (s.rd BOOT.STRAPS.BENCH_ID) =
      (s.beaconShown n (s.rd BOOT.STRAPS.BENCH_ID)).takePosition (pos + 1) := by
  have hbench : (s.wr BOOT.CHAIN.UP_BENCH (s.rd BOOT.STRAPS.BENCH_ID)).rd BOOT.STRAPS.BENCH_ID =
      s.rd BOOT.STRAPS.BENCH_ID := State.rd_wr_ne _ _ (by decide)
  have hstraps : (s.wr BOOT.CHAIN.UP_BENCH (s.rd BOOT.STRAPS.BENCH_ID)).on BOOT.STRAPS.CHAIN_HEAD = false := by
    rw [State.on, State.rd_wr_ne _ _ (by decide)]; exact hhead
  have hplace : (s.beaconShown n (s.rd BOOT.STRAPS.BENCH_ID)).position = none := by
    rw [State.position, State.beaconShown, State.rd_wr_ne _ _ (by decide), State.rd_wr_ne _ _ (by decide)]
    exact hnone
  have hfar : ¬ 67 < pos + 1 := by omega
  unfold State.beacon
  dsimp only
  rw [if_pos hbench.symm, hstraps]
  simp only [Bool.false_eq_true, if_false, false_or, if_neg hfar]
  have hcheck : ∀ p : Prop, ∀ [Decidable p],
      (if p then s.beaconShown n (s.rd BOOT.STRAPS.BENCH_ID) else
        (s.beaconShown n (s.rd BOOT.STRAPS.BENCH_ID)).lenCheck) = s.beaconShown n (s.rd BOOT.STRAPS.BENCH_ID) := by
    intro p _
    rw [State.lenCheck_of_unlisted (by exact hlist), ite_self]
  rw [State.beaconShown] at hcheck hplace ⊢
  rw [hcheck, hplace]

theorem State.beaconShown_rd (s : State) (n bench : Nat) {f : Field} (hb : f.key ≠ BOOT.CHAIN.UP_BENCH.key)
    (hc : f.key ≠ BOOT.CHAIN.COUNT.key) : (s.beaconShown n bench).rd f = s.rd f := by
  rw [State.beaconShown, State.rd_wr_ne _ _ hc, State.rd_wr_ne _ _ hb]

/-- A package that waited for its position takes it, and boot goes on. -/
theorem State.takePosition_of_waiting {s : State} {p : Nat} (hboot : s.booting = true) (hphase : s.phase = phChain) :
    s.takePosition p = (s.wr BOOT.CHAIN.POSITION p).bootPhase := by
  have hphase' : (s.wr BOOT.CHAIN.POSITION p).phase = phChain := by
    rw [State.phase, State.rd_wr_ne _ _ (by decide)]; exact hphase
  have hboot' : (s.wr BOOT.CHAIN.POSITION p).booting = true := by
    rw [State.booting, State.rd_wr_ne _ _ (by decide)]; exact hboot
  unfold State.takePosition
  dsimp only
  rw [if_neg (by rw [hphase']; exact fun h => absurd h.2.1 (by decide)), if_pos ⟨hboot', hphase'⟩]

theorem State.bootPhase_of_placed {s : State} {p : Nat} (h : s.position = some p) :
    s.bootPhase = s.setPhase (if s.sys.boot.nvmOk then phCutlist else phNvm) := by
  unfold State.bootPhase
  rw [h]
  split
  next hnone => cases hnone
  next => split <;> rfl

theorem State.setPhase_phase (s : State) {p : Nat} (h : p < 16) : (s.setPhase p).phase = p := by
  rw [State.phase, State.setPhase, State.rd_wr_self]
  exact Nat.mod_eq_of_lt h

theorem State.setPhase_rd (s : State) (p : Nat) {f : Field} (h : f.key ≠ BOOT.STATUS.PHASE.key) :
    (s.setPhase p).rd f = s.rd f := State.rd_wr_ne _ _ h

/-- A position that is written is the package's. -/
theorem State.position_wr (s : State) {p : Nat} (h : p < 255) : (s.wr BOOT.CHAIN.POSITION p).position = some p := by
  have hp : p % 256 = p := by omega
  have hne : ¬ p = 0xFF := by omega
  rw [State.position, State.rd_wr_self]
  exact (if_neg (by rw [show p % 2 ^ BOOT.CHAIN.POSITION.width = p from hp]; exact hne)).trans (congrArg some hp)

theorem State.beacon_shows {s : State} {pos n : Nat} (hhead : s.on BOOT.STRAPS.CHAIN_HEAD = false) (hpos : pos < 67)
    (hnone : s.position = none) (hlist : s.sys.boot.list = []) (hboot : s.booting = true) (hphase : s.phase = phChain)
    (hn : n < 256) :
    let t := s.beacon pos n (s.rd BOOT.STRAPS.BENCH_ID)
    t.position = some (pos + 1) ∧ t.rd BOOT.CHAIN.COUNT = n ∧
      t.phase = if s.sys.boot.nvmOk then phCutlist else phNvm := by
  have hboot' : (s.beaconShown n (s.rd BOOT.STRAPS.BENCH_ID)).booting = true := by
    rw [State.booting, s.beaconShown_rd _ _ (by decide) (by decide)]; exact hboot
  have hphase' : (s.beaconShown n (s.rd BOOT.STRAPS.BENCH_ID)).phase = phChain := by
    rw [State.phase, s.beaconShown_rd _ _ (by decide) (by decide)]; exact hphase
  dsimp only
  rw [State.beacon_of_unplaced hhead hpos hnone hlist, State.takePosition_of_waiting hboot' hphase']
  have hplaced := State.position_wr (s.beaconShown n (s.rd BOOT.STRAPS.BENCH_ID)) (by omega : pos + 1 < 255)
  rw [State.bootPhase_of_placed hplaced]
  refine ⟨?position, ?count, ?phase⟩
  case position => rw [State.position, State.setPhase_rd _ _ (by decide)]; exact hplaced
  case count =>
    rw [State.setPhase_rd _ _ (by decide), State.rd_wr_ne _ _ (by decide), State.beaconShown, State.rd_wr_self]
    exact Nat.mod_eq_of_lt hn
  case phase => exact State.setPhase_phase _ (by split <;> decide)

/-! ### Frames of the package's own (R434, R436) -/

theorem State.rd_of_position {s : State} {p : Nat} (h : s.position = some p) : s.rd BOOT.CHAIN.POSITION = p := by
  unfold State.position at h
  dsimp only at h
  split at h
  · cases h
  · exact Option.some.inj h

/-- What a frame of the package's own puts on CHAIN_OUT. -/
theorem State.originate_shows {s : State} {p : Nat} (type : Nat) (hop1 : Bool) (l : List Byte) (h : s.position = some p)
    (hclear : s.sys.chain.sent = []) :
    (s.originate type hop1 l).sys.chain =
      { s.sys.chain with
        sent := [chainFrame type hop1 p 0 s.sys.chain.seq l], seq := (s.sys.chain.seq + 1) % 65536 } := by
  have hrd := State.rd_of_position h
  simp [State.originate, State.chainOut, hrd, hclear]

theorem execBeaconSend_of_placed {s : State} {p t : Nat} (h : s.position = some p) (hv : s.sys.vaux = true) :
    execBeaconSend t s = .next ((s.advance t).chainClear.originate 1 true
      (leBytes 1 p ++ leBytes 1 (s.rd BOOT.CHAIN.COUNT) ++ leBytes 1 (s.rd BOOT.STRAPS.BENCH_ID) ++ leBytes 1 0)) := by
  have hp : (s.advance t).position = some p := h
  unfold execBeaconSend
  dsimp only
  rw [hp]
  exact if_neg (not_not_intro hv)

/-- A send command's TYPE and LEN. -/
def State.chainTyped (s : State) (ty n : Nat) : State := (s.wr BOOT.CHN_CMD.TYPE ty).wr BOOT.CHN_CMD.LEN n

theorem State.chainTyped_rd (s : State) (ty n : Nat) {f : Field} (ht : f.key ≠ BOOT.CHN_CMD.TYPE.key)
    (hl : f.key ≠ BOOT.CHN_CMD.LEN.key) : (s.chainTyped ty n).rd f = s.rd f := by
  rw [State.chainTyped, State.rd_wr_ne _ _ hl, State.rd_wr_ne _ _ ht]

theorem State.chainTyped_busy (s : State) (ty n : Nat) :
    (s.chainTyped ty n).on BOOT.CHN_CMD.BUSY = s.on BOOT.CHN_CMD.BUSY := by
  rw [State.on, State.on, s.chainTyped_rd _ _ (by decide) (by decide)]

theorem State.chainTyped_position (s : State) (ty n : Nat) : (s.chainTyped ty n).position = s.position := by
  rw [State.position, State.position, s.chainTyped_rd _ _ (by decide) (by decide)]

theorem State.chainCmd_eq (s : State) (ty n : Nat) : s.chainCmd ty n = (s.chainTyped ty n).chainSend ty n := rfl

theorem State.chainCmd_of_refused {s : State} {ty n : Nat}
    (h : s.on BOOT.CHN_CMD.BUSY = true ∨ s.position = none ∨ sendOk ty n = false) :
    s.chainCmd ty n = (s.chainTyped ty n).raise BOOT.EVENT.CFG_ERR := by
  rw [State.chainCmd_eq]
  refine if_pos ?_
  rw [State.chainTyped_busy s ty n, State.chainTyped_position s ty n]
  simpa using h

/-- A message on its way out. -/
def State.chainStarted (s : State) : State :=
  let u := s.wr BOOT.CHN_CMD.BUSY 1
  u.setChain { u.sys.chain with mine := some (u.sys.chain.seq, u.now), sent := [] }

/-- The bytes of a message to send. -/
def State.chainText (s : State) (n : Nat) : List Byte :=
  ((List.range 4).flatMap fun i => leBytes 4 (s.rd (BOOT.CHN_TXD.DATA i))).take n

theorem State.chainCmd_of_msg {s : State} {n p : Nat} (hidle : s.on BOOT.CHN_CMD.BUSY = false)
    (hpos : s.position = some p) (hlo : 1 ≤ n) (hhi : n ≤ 16) :
    s.chainCmd 4 n = (s.chainTyped 4 n).chainStarted.originate 4 false ((s.chainTyped 4 n).chainText n) := by
  have hok : sendOk 4 n = true := by simp [sendOk, hlo, hhi]
  rw [State.chainCmd_eq]
  refine (if_neg ?_).trans (if_neg (by decide))
  rw [State.chainTyped_busy s 4 n, State.chainTyped_position s 4 n, hidle, hpos, hok]
  simp

theorem State.chainText_typed (s : State) (ty n k : Nat) : (s.chainTyped ty n).chainText k = s.chainText k := by
  have hdata (i : Nat) : (s.chainTyped ty n).rd (BOOT.CHN_TXD.DATA i) = s.rd (BOOT.CHN_TXD.DATA i) := by
    refine s.chainTyped_rd ty n (Field.key_ne_of_lo rfl) ?_
    simp only [ne_eq, Field.key, BOOT.CHN_TXD.DATA, BOOT.CHN_CMD.LEN]
    omega
  simp only [State.chainText, hdata]

theorem State.chainStarted_shows (s : State) :
    s.chainStarted.sys.chain = { s.sys.chain with mine := some (s.sys.chain.seq, s.now), sent := [] } ∧
      s.chainStarted.on BOOT.CHN_CMD.BUSY = true ∧ s.chainStarted.position = s.position := by
  refine ⟨rfl, ?busy, ?position⟩
  case busy => exact congrArg (· != 0) (State.rd_wr_self s BOOT.CHN_CMD.BUSY 1)
  case position =>
    exact congrArg (fun p => if p = 0xFF then none else some p)
      (State.rd_wr_ne s (f := BOOT.CHN_CMD.BUSY) (g := BOOT.CHAIN.POSITION) 1 (by decide))

theorem State.chainMsgSent_shows {s : State} {n p : Nat} (hidle : s.on BOOT.CHN_CMD.BUSY = false)
    (hpos : s.position = some p) (hlo : 1 ≤ n) (hhi : n ≤ 16) :
    (s.chainCmd 4 n).on BOOT.CHN_CMD.BUSY = true ∧ (s.chainCmd 4 n).sys.chain.mine = some (s.sys.chain.seq, s.now) ∧
      (s.chainCmd 4 n).sys.chain.sent = [chainFrame 4 false p 0 s.sys.chain.seq (s.chainText n)] := by
  rw [State.chainCmd_of_msg hidle hpos hlo hhi, State.chainText_typed]
  obtain ⟨hchain, hbusy, hplace⟩ := (s.chainTyped 4 n).chainStarted_shows
  have hp : (s.chainTyped 4 n).chainStarted.position = some p := by rw [hplace, State.chainTyped_position]; exact hpos
  have hsent := State.originate_shows 4 false (s.chainText n) hp (by rw [hchain])
  rw [hsent, hchain]
  exact ⟨hbusy, rfl, rfl⟩

theorem State.chainCmd_bad {s : State} {ty n : Nat}
    (h : s.chainCmd ty n = (s.chainTyped ty n).raise BOOT.EVENT.CFG_ERR ∨
      s.chainCmd ty n = (s.chainTyped ty n).chainStarted.originate 4 false ((s.chainTyped ty n).chainText n)) :
    (s.chainCmd ty n).sys.bad = s.sys.bad := by
  obtain h | h := h
  · rw [h, State.raise_sys _ _ _ _ (by decide)]; rfl
  · rw [h]; rfl

theorem State.chainRefused_shows (s : State) (ty n : Nat) :
    let t := (s.chainTyped ty n).raise BOOT.EVENT.CFG_ERR
    s.flagged t BOOT.EVENT.CFG_ERR ∧
      s.onlyEvent t [BOOT.CHN_CMD.TYPE, BOOT.CHN_CMD.LEN, BOOT.EVENT.CFG_ERR, seqOf BOOT.EVENT.CFG_ERR] := by
  obtain ⟨⟨hflag, hseq⟩, hframe, hregs⟩ := (s.chainTyped ty n).raise_event (f := BOOT.EVENT.CFG_ERR) (v := 0) []
    (by decide) (by decide) (by decide) (by decide) (by decide)
  have htyped : s.regsBut (s.chainTyped ty n) [BOOT.CHN_CMD.TYPE, BOOT.CHN_CMD.LEN] :=
    State.regsBut_thenWr (by simp) (State.regsBut_thenWr (by simp) (State.regsBut_refl s _))
  refine ⟨⟨hflag, ?seq⟩, hframe, ?regs⟩
  case seq => rw [hseq, s.chainTyped_rd _ _ (by decide) (by decide)]
  case regs =>
    exact State.regsBut_trans (State.regsBut_mono htyped (by simp)) (State.regsButEvent_mono hregs (by simp))

/-! ### A message that is lost (R436) -/

/-- A message given up. -/
def State.chainGivenUp (s : State) : State :=
  ((s.setChain { s.sys.chain with mine := none }).wr BOOT.CHN_CMD.BUSY 0).bump BOOT.CHN_COUNTS.LOST

theorem execChainTxTimeout_of_early {s : State} {q a t : Nat} (h : s.sys.chain.mine = some (q, a))
    (ht : max s.now t < a + Config.ns 10000000) : execChainTxTimeout t s = .next (s.advance t) := by
  have hm : (s.advance t).sys.chain.mine = some (q, a) := h
  unfold execChainTxTimeout
  dsimp only
  rw [hm]
  exact if_pos ht

theorem execChainTxTimeout_of_late {s : State} {q a t : Nat} (h : s.sys.chain.mine = some (q, a))
    (ht : a + Config.ns 10000000 ≤ max s.now t) :
    execChainTxTimeout t s = .next ((s.advance t).chainGivenUp.raise BOOT.EVENT.TX_LOST) := by
  have hm : (s.advance t).sys.chain.mine = some (q, a) := h
  unfold execChainTxTimeout
  dsimp only
  rw [hm]
  exact if_neg (Nat.not_lt.2 ht)

theorem State.chainGivenUp_shows (s : State) :
    let t := s.chainGivenUp.raise BOOT.EVENT.TX_LOST
    t.sys.chain.mine = none ∧ t.on BOOT.CHN_CMD.BUSY = false ∧ t.on BOOT.EVENT.TX_LOST = true ∧
      t.rd BOOT.CHN_COUNTS.LOST = (s.rd BOOT.CHN_COUNTS.LOST + 1) % 2 ^ BOOT.CHN_COUNTS.LOST.width := by
  refine ⟨?mine, ?busy, ?flag, ?count⟩
  case mine => rw [State.raise_sys _ _ _ _ (by decide)]; rfl
  case busy =>
    rw [State.on, State.raise_rd_ne _ _ _ (by decide) (by decide) (by decide), State.chainGivenUp,
      State.rd_bump_ne _ (by decide), State.rd_wr_self]
    rfl
  case flag => rw [State.on, State.raise_rd_self _ _ _ (by decide) (by decide) (by decide)]; rfl
  case count =>
    rw [State.raise_rd_ne _ _ _ (by decide) (by decide) (by decide), State.chainGivenUp, State.rd_bump_self,
      State.rd_wr_ne _ _ (by decide)]
    rfl

/-! ### Recovery (R519-R521) -/

theorem execImageReqRetry_of_on {s : State} {t : Nat} (hon : s.chainPathOn = true) (hpos : s.position ≠ none) :
    execImageReqRetry t s = .next
      ((s.sys.recov.asked.filter fun r => decide (r.2 + Config.ns 10000000 ≤ max s.now t)).foldl (fun s r => s.imageReq r.1)
        (s.advance t).chainClear) := by
  have hon' : (s.advance t).chainPathOn = true := hon
  have hpos' : (s.advance t).position.isNone = false := Option.isNone_eq_false_iff.2 (Option.isSome_iff_ne_none.2 hpos)
  unfold execImageReqRetry
  dsimp only
  rw [hon', hpos']
  exact if_neg (by decide)

/-- The header's STATUS byte is all that it changes of memory. -/
theorem State.recStatus_get (s : State) (v a : Nat) :
    (s.recStatus v).comp.lpddr.get a = if a = 12 then BitVec.ofNat 8 v else s.comp.lpddr.get a := by
  split
  next h => rw [h]; exact Mem.get_put_self _ _ _
  next h => exact Mem.get_put_ne _ _ h

/-- Recovery once the companion's header has been read. -/
def State.recHeard (s : State) (q : Nat) : State :=
  s.setRecov { s.sys.recov with seq := some q, urdal := true, asked := [] }

theorem execRecoveryHeader_of_new {s : State} {t : Nat} (hrec : s.recovering = true) (hul : s.sys.recUl = true)
    (hmagic : bytesAt (s.comp.lpddr.read 0 64) 0 4 = 0x43524A46)
    (hseq : s.sys.recov.seq ≠ some (bytesAt (s.comp.lpddr.read 0 64) 8 4)) {l : List Byte}
    (hl : s.comp.lpddr.read 0x1000 (min (bytesAt (s.comp.lpddr.read 0 64) 4 4) 0x1000000) = l) :
    let u := (s.advance t).recHeard (bytesAt (s.comp.lpddr.read 0 64) 8 4)
    execRecoveryHeader t s = if fwCheck l = 0 then
      .next ((u.setRecov { u.sys.recov with image := some l }).recStatus 2) else .next (u.recStatus 4) := by
  subst hl
  refine if_neg ?_
  rintro (h | h | h | h)
  · exact h hrec
  · exact h hul
  · exact h hmagic
  · exact hseq h

theorem execRecoveryInstall_of_image {s : State} {l : List Byte} {t : Nat} (hrec : s.recovering = true)
    (himage : s.sys.recov.image = some l) :
    let v := s.advance t
    let u := v.setNvm { v.sys.nvm with fw0 := l, fw1 := l }
    let w := if u.sys.recov.urdal then u.recStatus 3 else u
    execRecoveryInstall t s = if fwCheck l = 0 then
      .next ((w.setRecov { w.sys.recov with image := none }).requestReset 0 2)
      else .next ((v.setRecov { s.sys.recov with image := none }).chainClear.chainPath) := by
  intro v u w
  have hi : (s.advance t).sys.recov.image = some l := himage
  unfold execRecoveryInstall
  dsimp only
  rw [hi]
  exact if_neg (not_not_intro hrec)

/-- A COLD that nothing refuses or absorbs begins. -/
theorem State.requestReset_cold {s : State} (cause : Nat) (h : s.sys.reset = none) :
    s.requestReset 0 cause = s.startReset 0 cause := by
  have hr : s.rstRefused 0 = false := by simp [State.rstRefused]
  exact State.requestReset_of_begun cause hr (.inl h)

/-- Settles O49: the branches of a frame that comes in, of what is sent, and of an image that arrives. -/
theorem benchChain : Obligations.BenchChain := by
  unfold Obligations.BenchChain
  refine ⟨fun s b t i hi => ?command, fun s b hv => ⟨fun h => ?dropped, fun h hhop hpos hfar => ?far,
      fun h hhop hpos hnear htype hdup => ?dup, fun h hhop hpos hnear htype hnew hne hlen => ?message,
      fun a h hhop hpos htype hmine => ?home, fun h hhop htype => ?beacon⟩,
    fun s pos n hhead hpos hnone hlist hboot hphase hn => State.beacon_shows hhead hpos hnone hlist hboot hphase hn,
    fun s src l => ⟨fun h => h, fun hup hbit => ?switch, fun k hlo hhi hk => ?reset, rfl⟩,
    fun s p t0 hpos hv => ?send, fun s ty n hs => ⟨fun h => ?refused, fun p hidle hpos hty hlo hhi => ?sent⟩,
    fun s q a t0 hmine => ⟨fun ht => execChainTxTimeout_of_early hmine ht, fun ht => ?lost⟩,
    fun s t0 hon hpos => execImageReqRetry_of_on hon hpos, fun s t0 hrec hul hmagic hseq => ?header,
    fun s l t0 hrec himage hdark hreset => ?install⟩
  case command =>
    simp only [List.mem_cons, List.not_mem_nil, or_false] at hi
    obtain rfl | rfl | rfl | rfl | rfl := hi
    · exact exec_beaconRx s b t
    · exact exec_chainSwitch s b t
    · exact exec_chainReset s b t
    · exact exec_chainMsg s b t
    · exact exec_chainImage s b t
  case dropped =>
    rw [State.chainIn_of_bad hv h]
    refine ⟨?_, rfl, State.regsBut_thenBump (by simp) (State.regsBut_mono s.chainHeard_regsBut (by simp))⟩
    rw [State.rd_bump_self, s.chainHeard_rd (by decide)]
  case far =>
    rw [State.chainIn_of_far hv h hhop hpos hfar]
    exact ⟨by rw [State.rd_bump_self, s.chainHeard_rd (by decide)], rfl⟩
  case dup =>
    rw [State.chainIn_of_msg hv h hhop hpos hnear htype, State.chainPass_of_dup (s := s.chainHeard) htype hdup]
    refine ⟨rfl, ?_⟩
    rw [State.rd_bump_self]
    exact congrArg (fun n => (n + 1) % _) (s.chainHeard_rd (by decide))
  case message =>
    rw [State.chainIn_of_msg hv h hhop hpos hnear htype, State.chainPass_of_new (s := s.chainHeard) htype hnew]
    obtain ⟨hsys, hshown⟩ := State.chainMsg_shows ((s.chainHeard.chainOut [frForward b]).chainNoted b) hne hlen (frSrc_lt b)
    rw [hsys]
    exact ⟨rfl, Tbl.look_set_self _ _ _, hshown⟩
  case home =>
    rw [State.chainIn_of_home hv h hhop hpos, State.chainHome_of_mine (s := s.chainHeard) htype hmine]
    exact ⟨rfl, State.chainHome_shows _ _, rfl⟩
  case beacon => exact State.chainIn_of_beacon hv h hhop htype
  case switch =>
    refine (if_neg (not_not_intro hup)).trans (if_neg ?_)
    rw [hbit]
    exact Bool.false_ne_true
  case reset =>
    obtain rfl | rfl | rfl : k = 1 ∨ k = 2 ∨ k = 3 := by omega
    all_goals
      change State.chainReset s l = _
      unfold State.chainReset
      rw [hk]
      rfl
  case send =>
    have hchain := State.originate_shows (s := (s.advance t0).chainClear) 1 true (leBytes 1 p ++
      leBytes 1 (s.rd BOOT.CHAIN.COUNT) ++ leBytes 1 (s.rd BOOT.STRAPS.BENCH_ID) ++ leBytes 1 0) hpos rfl
    exact ⟨_, execBeaconSend_of_placed hpos hv, by rw [hchain]; rfl, by rw [hchain]; rfl, rfl⟩
  case refused =>
    have hcmd := State.chainCmd_of_refused h
    refine ⟨_, congrArg Host.Outcome.next (State.bySoft_of_bad _ _ _ hs (State.chainCmd_bad (.inl hcmd))), ?_⟩
    rw [hcmd]
    exact s.chainRefused_shows _ _
  case sent =>
    have hcmd := State.chainCmd_of_msg hidle hpos hlo hhi
    refine ⟨_, congrArg Host.Outcome.next (State.bySoft_of_bad _ _ _ hs ?_), ?_⟩
    · rw [hty]; exact State.chainCmd_bad (.inr hcmd)
    · rw [hty]; exact State.chainMsgSent_shows hidle hpos hlo hhi
  case lost => exact ⟨_, execChainTxTimeout_of_late hmine ht, (s.advance t0).chainGivenUp_shows⟩
  case header =>
    generalize himage : s.comp.lpddr.read 0x1000 (min (bytesAt (s.comp.lpddr.read 0 64) 4 4) 0x1000000) = l
    rw [exec_recoveryHeader, execRecoveryHeader_of_new (t := t0) hrec hul hmagic hseq himage]
    by_cases hl : fwCheck l = 0
    · simp only [if_pos hl]
      refine ⟨_, rfl, rfl, rfl, ⟨rfl, by rw [State.recStatus_get, if_pos rfl]; rfl⟩, fun a ha => ?_⟩
      rw [State.recStatus_get, if_neg ha]; rfl
    · simp only [if_neg hl]
      refine ⟨_, rfl, rfl, rfl, ⟨rfl, by rw [State.recStatus_get, if_pos rfl]; rfl⟩, fun a ha => ?_⟩
      rw [State.recStatus_get, if_neg ha]; rfl
  case install =>
    have hexec := execRecoveryInstall_of_image (t := t0) hrec himage
    rw [exec_recoveryInstall, hexec]
    by_cases hl : fwCheck l = 0
    · refine ⟨_, if_pos hl, ?_⟩
      rw [if_pos hl, State.requestReset_cold]
      · split <;> exact ⟨rfl, rfl, rfl, rfl⟩
      · split <;> exact hreset
    · exact ⟨_, if_neg hl, by rw [if_neg hl]⟩

end Sys2Proof.Machine
end

section
/-! SUPPORT. The service line (18_firmware_identity.md, R512-R518, R522, R523): its polls and requests, the slots of NVM
that an alteration writes, and the statement about it. -/
namespace Sys2Proof.Machine
open Sys2Proof

/-! ### Replies and slots -/

theorem State.request_sys (s : State) (r : PReq) : (s.request r).sys = s.sys :=
  (congrArg State.sys (s.request_frame r).1 :)

/-- A reply changes nothing of the package's own state. -/
theorem State.reply_sys (s : State) (q c r n : Nat) : (s.reply q c r n).sys = s.sys := by
  unfold State.reply
  dsimp only
  rw [State.request_sys]

/-- Of the two slots of a target only the one that is written changes. -/
theorem State.putSlot_slotBytes (s : State) (list : Bool) {i : Nat} (hi : i < 2) (l : List Byte) :
    (s.putSlot list i l).slotBytes list i = l ∧
      (s.putSlot list i l).slotBytes list (1 - i) = s.slotBytes list (1 - i) := by
  obtain rfl | rfl : i = 0 ∨ i = 1 := by omega
  · cases list <;> exact ⟨rfl, rfl⟩
  · cases list <;> exact ⟨rfl, rfl⟩

theorem State.slotBytes_congr {s t : State} (h : t.sys.nvm = s.sys.nvm) (list : Bool) (i : Nat) :
    t.slotBytes list i = s.slotBytes list i := by
  rw [State.slotBytes, State.slotBytes, h]

theorem State.reply_slotBytes (s : State) (q c r n : Nat) (list : Bool) (i : Nat) :
    (s.reply q c r n).slotBytes list i = s.slotBytes list i :=
  State.slotBytes_congr (congrArg Sys.nvm (s.reply_sys q c r n)) list i

theorem State.altSlot_lt (s : State) (list : Bool) : s.altSlot list < 2 := Nat.lt_succ_of_le (Nat.sub_le _ _)

/-! ### Polls and requests (R513) -/

section
variable {s : State} {t : Nat} {rq : List Byte}

/-- With a request to serve, or no poll out, there is nothing to look at. -/
theorem State.takePoll_of_due (h : s.sys.svc.due = some rq) : s.takePoll = s := if_pos (.inl (by rw [h]; rfl))

theorem State.takePoll_of_none (h : s.move mvPoll = none) : s.takePoll = s := if_pos (.inr (by rw [h]; rfl))

theorem execServicePoll_of_shed (hon : s.noticesOn = true) (h : s.on HLT.MC_LOAD.SHED_E = true) :
    execServicePoll t s = .next (s.advance t).deferE := (if_neg (not_not_intro hon)).trans (if_pos h)

theorem execServicePoll_of_free (hon : s.noticesOn = true) (h : s.on HLT.MC_LOAD.SHED_E = false)
    (hdue : s.sys.svc.due = none) (hmove : s.move mvPoll = none) : execServicePoll t s = .next
      ((s.advance t).moveBegin mvPoll { write := false, addr := 0x800000000000 + s.noticeBase + 0x1000, len := 64 }) := by
  have hon' : (s.advance t).noticesOn = true := hon
  have hshed : (s.advance t).on HLT.MC_LOAD.SHED_E = false := h
  have hdue' : (s.advance t).sys.svc.due = none := hdue
  have hmove' : (s.advance t).move mvPoll = none := hmove
  unfold execServicePoll
  dsimp only
  rw [if_neg (not_not_intro hon'), hshed, if_neg Bool.false_ne_true, State.takePoll_of_none hmove', hdue', hmove']
  rfl

theorem State.dueOf_of_cmd {c : Nat} (hdue : s.sys.svc.due = some rq) (hcmd : rqCmd rq = c) : s.dueOf c = some rq := by
  simp [State.dueOf, hdue, hcmd]

theorem State.resultEnd_of_none (h : s.sys.svc.result = none) : s.resultEnd = s := by
  unfold State.resultEnd
  rw [h]

theorem execAlter_of_due {ups : List Upset} (hmc : s.mcRuns = true) (hdue : s.sys.svc.due = some rq)
    (hcmd : rqCmd rq = 1) : execAlter ups t s = .next (((s.advance t).altAccept rq).altFetch ups) := by
  have hdue' : (s.advance t).sys.svc.due = some rq := hdue
  unfold execAlter
  dsimp only
  rw [if_neg (not_not_intro (show (s.advance t).mcRuns = true from hmc)), State.takePoll_of_due hdue',
    State.dueOf_of_cmd hdue' hcmd]

theorem execAttest_of_due (hmc : s.mcRuns = true) (hdue : s.sys.svc.due = some rq) (hcmd : rqCmd rq = 2)
    (hres : s.sys.svc.result = none) : execAttest t s = .next (State.resultEnd (State.resultBegin
      (s.advance t).drawMany.2 rq ((s.advance t).reportBody (slice rq 24 32) ++
        padTo 96 (Config.identitySig (s.advance t).drawMany.1 ((s.advance t).reportBody (slice rq 24 32)))))) := by
  have hdue' : (s.advance t).sys.svc.due = some rq := hdue
  have hres' : (s.advance t).sys.svc.result = none := hres
  unfold execAttest
  dsimp only
  rw [if_neg (not_not_intro (show (s.advance t).mcRuns = true from hmc)), State.takePoll_of_due hdue',
    State.resultEnd_of_none hres', State.dueOf_of_cmd hdue' hcmd, hres']

theorem execCert_of_due (hmc : s.mcRuns = true) (hdue : s.sys.svc.due = some rq) (hcmd : rqCmd rq = 3)
    (hres : s.sys.svc.result = none) :
    execCert t s = .next ((s.advance t).resultBegin rq (Config.certificate.take 4096)).resultEnd := by
  have hdue' : (s.advance t).sys.svc.due = some rq := hdue
  have hres' : (s.advance t).sys.svc.result = none := hres
  unfold execCert
  dsimp only
  rw [if_neg (not_not_intro (show (s.advance t).mcRuns = true from hmc)), State.takePoll_of_due hdue',
    State.resultEnd_of_none hres', State.dueOf_of_cmd hdue' hcmd, hres']

end

/-! ### A request line (R513) -/

section
variable {s : State} {l : List Byte}

theorem State.takeLine_of_first (h : s.sys.svc.last = none) :
    (s.takeLine l).sys.svc = { s.sys.svc with last := some (rqSeq l) } := by
  unfold State.takeLine
  dsimp only
  rw [h]
  rfl

theorem State.takeLine_of_new {p : Nat} (h : s.sys.svc.last = some p) (hne : p ≠ rqSeq l) (hlo : 1 ≤ rqCmd l)
    (hhi : rqCmd l ≤ 3) : (s.takeLine l).sys.svc = { s.sys.svc with last := some (rqSeq l), due := some l } := by
  have hlisted : ¬ (rqCmd l = 0 ∨ 3 < rqCmd l) := by omega
  unfold State.takeLine
  dsimp only
  rw [h]
  dsimp only
  rw [if_neg hne, if_neg hlisted]
  rfl

theorem State.takeLine_of_old (h : s.sys.svc.last = some (rqSeq l)) : (s.takeLine l).sys.svc = s.sys.svc := by
  unfold State.takeLine
  dsimp only
  rw [h]
  dsimp only
  rw [if_pos rfl, ← h]
  rfl

end

/-! ### Alterations (R514-R518) -/

section
variable {s : State} {rq : List Byte}

/-- The package with its request taken, and with its image read. -/
def State.svcTaken (s : State) : State := s.setSvc { s.sys.svc with due := none }
def State.svcFetched (s : State) : State := s.setSvc { s.sys.svc with fetch := none }

theorem State.altAccept_of_busy (h : s.sys.svc.alter ≠ none ∨ s.sys.svc.fetch ≠ none) :
    s.altAccept rq = s.svcTaken.answer rq svRefusedBusy 0 :=
  if_pos (h.imp Option.isSome_iff_ne_none.2 Option.isSome_iff_ne_none.2)

theorem State.altAccept_of_unclean (halter : s.sys.svc.alter = none) (hfetch : s.sys.svc.fetch = none)
    (h : rqClean rq = false) : s.altAccept rq = (s.svcTaken.answer rq svBusy 0).answer rq svBadfmt 0 := by
  refine (if_neg ?_).trans (if_pos (by rw [h]; rfl))
  rw [show (s.setSvc { s.sys.svc with due := none }).sys.svc.alter = none from halter,
    show (s.setSvc { s.sys.svc with due := none }).sys.svc.fetch = none from hfetch]
  exact fun h => h.elim Bool.false_ne_true Bool.false_ne_true

theorem State.altStart_of_refused {l : List Byte} {r : Nat} {list : Bool} {out : List Byte}
    (hcheck : s.svcFetched.altCheck l (rqLen rq) = (r, list, out)) (h : r ≠ svOk) :
    s.altStart rq l = s.svcFetched.answer rq r 0 := by
  unfold State.altStart
  dsimp only
  rw [← State.svcFetched, hcheck]
  exact if_pos h

/-- The slot's first sector goes at once, and the alteration is under way. -/
theorem State.altStart_of_sound {l : List Byte} {r : Nat} {list : Bool} {out : List Byte}
    (hcheck : s.svcFetched.altCheck l (rqLen rq) = (r, list, out)) (h : r = svOk) :
    (s.altStart rq l).sys.svc.alter = some { seq := rqSeq rq, list := list, out := out } ∧
      (s.altStart rq l).sys.nvm =
        (s.putSlot list (s.altSlot list) (eraseFirst (s.slotBytes list (s.altSlot list)))).sys.nvm := by
  unfold State.altStart
  dsimp only
  rw [← State.svcFetched, hcheck]
  dsimp only
  rw [if_neg (not_not_intro h)]
  exact ⟨rfl, by split <;> rfl⟩

/-- What the sectors of a slot hold once an alteration's are written over them. -/
def State.altNew (s : State) (a : Alter) : List Byte := putSectors a.out (s.slotBytes a.list (s.altSlot a.list))

/-- The end of an alteration: the slot's bytes and the reply. -/
theorem execAlterComplete_of_alter {a : Alter} {good : Bool} {t : Nat} (ha : s.sys.svc.alter = some a) :
    let v := (s.advance t).setSvc { s.sys.svc with alter := none }
    let i := s.altSlot a.list
    execAlterComplete good t s =
      if ¬ good then .next ((v.putSlot a.list i (eraseFirst (s.altNew a))).reply a.seq 1 svNvm 0)
      else if clGen (nvTake 24 a.out) ≤ clGen (s.altBase a.list) then
        .next ((v.putSlot a.list i (eraseFirst (s.altNew a))).reply a.seq 1 svStale 0)
      else .next ((v.putSlot a.list i (s.altNew a)).reply a.seq 1 svOk a.out.length) := by
  have ha' : (s.advance t).sys.svc.alter = some a := ha
  unfold execAlterComplete
  dsimp only
  rw [ha']
  rfl

theorem State.alterEnd_shows (s : State) {i : Nat} (hi : i < 2) (a : Alter) (l : List Byte) (r n t : Nat) :
    let u := State.reply (State.putSlot ((s.advance t).setSvc { s.sys.svc with alter := none }) a.list i l) a.seq 1 r n
    u.slotBytes a.list i = l ∧ u.sys.svc.alter = none := by
  refine ⟨?bytes, ?alter⟩
  case bytes => rw [State.reply_slotBytes]; exact (State.putSlot_slotBytes _ _ hi l).1
  case alter => rw [State.reply_sys]; rfl

end

/-! ### A failed firmware slot (R512) -/

theorem execFwSlotErase_of_booted {s : State} {i t : Nat} (h : s.sys.boot.erase = some i)
    (hphase : s.phase = phDone ∨ s.phase = phLockWait) : execFwSlotErase t s = .next
      (((s.advance t).putSlot false i (eraseFirst (s.slotBytes false i))).setBoot { s.sys.boot with erase := none }) := by
  have h' : (s.advance t).sys.boot.erase = some i := h
  unfold execFwSlotErase
  dsimp only
  rw [h']
  exact if_pos hphase

/-- Settles O53, along the branches of a poll, of a request line, and of an alteration's beginning and end. -/
theorem service : Obligations.Service := by
  unfold Obligations.Service
  refine ⟨fun s t0 hon => ⟨fun h => execServicePoll_of_shed hon h, fun h hdue hmove =>
      execServicePoll_of_free hon h hdue hmove⟩,
    fun s l => ⟨fun h => State.takeLine_of_first h, fun p h hne hlo hhi => State.takeLine_of_new h hne hlo hhi,
      fun h => State.takeLine_of_old h⟩,
    fun s rq ups t0 hmc hdue => ⟨fun hcmd => execAlter_of_due hmc hdue hcmd,
      fun hcmd hres => execAttest_of_due hmc hdue hcmd hres, fun hcmd hres => execCert_of_due hmc hdue hcmd hres⟩,
    fun s rq => ⟨fun h => State.altAccept_of_busy h, fun halter hfetch h => State.altAccept_of_unclean halter hfetch h⟩,
    fun s rq l r list out _ hcheck => ⟨fun h => State.altStart_of_refused hcheck h, fun h => ?started⟩,
    fun s a t0 ha hi => ⟨fun hgen => ?written, fun hgen => ?stale, ?bad⟩, fun s i t0 h hi hphase => ?erased⟩
  case started =>
    obtain ⟨halter, hnvm⟩ := State.altStart_of_sound hcheck h
    obtain ⟨hself, hother⟩ := s.putSlot_slotBytes list (s.altSlot_lt list)
      (eraseFirst (s.slotBytes list (s.altSlot list)))
    exact ⟨halter, (State.slotBytes_congr hnvm _ _).trans hself, (State.slotBytes_congr hnvm _ _).trans hother⟩
  case written =>
    exact ⟨_, (execAlterComplete_of_alter ha).trans ((if_neg (not_not_intro rfl)).trans (if_neg (Nat.not_le.2 hgen))),
      s.alterEnd_shows hi a _ _ _ t0⟩
  case stale =>
    exact ⟨_, (execAlterComplete_of_alter ha).trans ((if_neg (not_not_intro rfl)).trans (if_pos hgen)),
      s.alterEnd_shows hi a _ _ _ t0⟩
  case bad =>
    exact ⟨_, (execAlterComplete_of_alter ha).trans (if_pos Bool.false_ne_true), s.alterEnd_shows hi a _ _ _ t0⟩
  case erased =>
    obtain ⟨hself, hother⟩ := (s.advance t0).putSlot_slotBytes false hi (eraseFirst (s.slotBytes false i))
    exact ⟨_, execFwSlotErase_of_booted h hphase, hself, hother, rfl, rfl⟩

end Sys2Proof.Machine
end

section
/-! SUPPORT. Parity of registers, CSR faults and their release, and the CRC of compatibility mode
(16_register_interface.md, R479-R484): what each of their operations shows, and the statement about them. -/
namespace Sys2Proof.Machine
open Sys2Proof

/-! ### Single bits -/

theorem bitOf_eq_testBit (v i : Nat) : bitOf v i = v.testBit i := by
  rw [bitOf, Nat.testBit_eq_decide_div_mod_eq]
  rfl

/-- Bit `i` of a field of `w` bits is not touched by the truncation to the field. -/
theorem bitOf_mod_two_pow {v i w : Nat} (h : i < w) : bitOf (v % 2 ^ w) i = bitOf v i := by
  simp [bitOf_eq_testBit, Nat.testBit_mod_two_pow, h]

theorem bitOf_add_two_pow (v i : Nat) : bitOf (v + 2 ^ i) i = !bitOf v i := by
  rw [bitOf_eq_testBit, bitOf_eq_testBit, Nat.add_comm, Nat.testBit_two_pow_add_eq]

theorem bitOf_sub_two_pow {v i : Nat} (h : bitOf v i = true) : bitOf (v - 2 ^ i) i = false := by
  have hle : 2 ^ i ≤ v := Nat.ge_two_pow_of_testBit ((bitOf_eq_testBit v i).symm.trans h)
  have hflip := bitOf_add_two_pow (v - 2 ^ i) i
  rw [Nat.sub_add_cancel hle, h] at hflip
  exact Bool.not_eq_true' _ ▸ hflip.symm

/-! ### Register upsets (R479) -/

/-- An upset turns the bit that it hits, in the field that holds it. -/
theorem State.upsetReg_bit {s : State} {u : RegUpset} {r : RegRow} {i : List Nat} {f : FieldRow}
    (hr : regAt u.off = some (r, i)) (hf : (r.fields.find? fun f =>
      f.acc != .ws && decide (f.lo ≤ u.bit) && decide (u.bit < f.lo + f.width)) = some f) :
    bitOf ((s.upsetReg u).rd (rowField r u.off u.inst f)) (u.bit - f.lo) =
      !bitOf (s.rd (rowField r u.off u.inst f)) (u.bit - f.lo) := by
  have hin := List.find?_some hf
  simp only [Bool.and_eq_true, decide_eq_true_eq] at hin
  obtain ⟨⟨-, hlo⟩, hhi⟩ := hin
  have hbit : u.bit - f.lo < (rowField r u.off u.inst f).width := by
    show u.bit - f.lo < f.width
    omega
  have hrd : (s.upsetReg u).rd (rowField r u.off u.inst f) =
      (if bitOf (s.rd (rowField r u.off u.inst f)) (u.bit - f.lo)
        then s.rd (rowField r u.off u.inst f) - 2 ^ (u.bit - f.lo)
        else s.rd (rowField r u.off u.inst f) + 2 ^ (u.bit - f.lo)) % 2 ^ (rowField r u.off u.inst f).width := by
    rw [← State.rd_wr_self s (rowField r u.off u.inst f)]
    unfold State.upsetReg
    rw [hr]
    dsimp only
    rw [hf]
    dsimp only
    split <;> rfl
  rw [hrd, bitOf_mod_two_pow hbit]
  split
  next h => rw [bitOf_sub_two_pow h, h]; rfl
  next => exact bitOf_add_two_pow _ _

/-! ### CSR faults and their release (R480, R481) -/

section
variable (s : State)

@[simp] theorem State.setFault_sys (b : Nat) (on : Bool) : (s.setFault b on).sys = s.sys := by
  unfold State.setFault
  dsimp only
  split <;> rfl

/-- A fault bit that is set or cleared reads so. -/
theorem State.setFault_unsafeBlock {b : Nat} (hb : b < 26) (on : Bool) : (s.setFault b on).unsafeBlock b = on := by
  have hlt : b < 32 := by omega
  have hwidth : b < GLB.FAULT_LO.BLOCKS.width := hb
  rw [State.unsafeBlock, if_pos hlt]
  unfold State.setFault
  dsimp only
  rw [if_pos hlt, State.rd_wr_self, bitOf_mod_two_pow hwidth]
  cases h : bitOf (s.rd GLB.FAULT_LO.BLOCKS) b <;> cases on
  · simpa using h
  · simp [bitOf_add_two_pow, h]
  · simpa using bitOf_sub_two_pow h
  · simpa using h

theorem State.setFault_regsBut {b : Nat} (hb : b < 26) (on : Bool) :
    s.regsBut (s.setFault b on) [GLB.FAULT_LO.BLOCKS] := by
  unfold State.setFault
  dsimp only
  rw [if_pos (by omega)]
  exact State.regsBut_wr s _ (by simp)

theorem State.unsafeBlock_congr {s t : State} {b : Nat} (hb : b < 32)
    (h : t.rd GLB.FAULT_LO.BLOCKS = s.rd GLB.FAULT_LO.BLOCKS) : t.unsafeBlock b = s.unsafeBlock b := by
  rw [State.unsafeBlock, State.unsafeBlock, if_pos hb, if_pos hb, h]

/-- A block that is left safe, with none of its registers held. -/
theorem State.release_shows {b : Nat} (hb : b < 26) (h1 : b ≠ 1) (h17 : b ≠ 17) :
    let t := s.release' b fun _ => true
    t.unsafeBlock b = false ∧ (t.sys.held.any fun x => blockOf x.1 == b) = false ∧
      s.regsBut t [GLB.FAULT_LO.BLOCKS] := by
  have hnone : ((s.sys.held.filter fun x => !(blockOf x.1 == b && true)).any fun x => blockOf x.1 == b) = false := by
    rw [List.any_eq_false]
    intro x hx
    simpa using (List.mem_filter.1 hx).2
  have hresume (v : State) : v.resume b = v := (if_neg h1).trans (if_neg h17)
  intro t
  have ht : t = (s.setSys { s.sys with held := s.sys.held.filter fun x => !(blockOf x.1 == b && true) }).setFault b
      false := by
    show State.release' s b _ = _
    unfold State.release'
    dsimp only
    rw [hnone, if_neg Bool.false_ne_true, hresume]
  rw [ht]
  refine ⟨State.setFault_unsafeBlock _ hb false, ?held, ?regs⟩
  case held => rw [State.setFault_sys]; exact hnone
  case regs => exact State.regsBut_trans (State.regsBut_of_regs rfl _) (State.setFault_regsBut _ hb false)

/-- A register is noted as found wrong and as holding its block. -/
def Sys.faulted (y : Sys) (k : Nat × Nat) : Sys :=
  { y with found := y.found ++ [k], held := y.held.filter (· != k) ++ [k] }

/-- What is known of a fault before its event: the register is found and held, and its block is in its safe state. -/
def State.faultKnown (s : State) (off inst : Nat) : State :=
  (((s.setSys (s.sys.faulted (off, inst))).setFault (blockOf off) true).bump GLB.FAULT_LAST.COUNT).wr
    GLB.FAULT_LAST.OFFSET (off / 4)

theorem State.csrFault_eq (off inst : Nat) : s.csrFault off inst =
    ((s.faultKnown off inst).raise GLB.EVENT.CSR_FAULT sevError (leBytes 4 off)).safeEnter off := rfl

theorem State.safeEnter_of_glb {off : Nat} (h : blockOf off = 8) : s.safeEnter off = s := by
  unfold State.safeEnter
  rw [h]
  rfl

theorem State.faultKnown_sys (off inst : Nat) : (s.faultKnown off inst).sys = s.sys.faulted (off, inst) :=
  State.setFault_sys _ _ _

/-- A CSR fault of GLB, whose safe state does nothing at once. -/
theorem State.csrFault_shows {off : Nat} (inst : Nat) (h : blockOf off = 8) :
    let t := s.csrFault off inst
    t.on GLB.EVENT.CSR_FAULT = true ∧ t.unsafeBlock 8 = true ∧ t.rd GLB.FAULT_LAST.OFFSET = off / 4 % 2 ^ 24 ∧
      t.sys.held.contains (off, inst) = true ∧ t.sys.found.contains (off, inst) = true := by
  have hsafe : (s.faultKnown off inst).unsafeBlock 8 = true := by
    refine (State.unsafeBlock_congr (by decide) ?_).trans
      (State.setFault_unsafeBlock (s.setSys (s.sys.faulted (off, inst))) (by decide) true)
    rw [State.faultKnown, State.rd_wr_ne _ _ (Field.key_ne_of_apart rfl), State.rd_bump_ne _ (Field.key_ne_of_apart rfl), h]
  obtain ⟨⟨hflag, -⟩, hframe, hregs⟩ := State.raise_flags (s.faultKnown off inst) (f := GLB.EVENT.CSR_FAULT)
    (v := sevError) (leBytes 4 off) (by decide) rfl (by decide) (by decide)
  intro t
  have ht : t = (s.faultKnown off inst).raise GLB.EVENT.CSR_FAULT sevError (leBytes 4 off) :=
    (s.csrFault_eq off inst).trans (State.safeEnter_of_glb _ h)
  have hsys : t.sys = s.sys.faulted (off, inst) := (congrArg State.sys ht).trans
    ((State.raise_sys _ _ _ _ (by decide)).trans (s.faultKnown_sys off inst))
  rw [hsys, ht]
  refine ⟨by rw [State.on, hflag]; rfl, ?block, ?offset, ?held, ?found⟩
  case block => exact (State.unsafeBlock_congr (by decide) (State.regsBut_rd hregs rfl)).trans hsafe
  case offset => rw [State.regsBut_rd hregs rfl, State.faultKnown, State.rd_wr_self]; rfl
  case held => simp [Sys.faulted]
  case found => simp [Sys.faulted]

end

/-! ### Scrubbing and re-checks (R479, R481) -/

section
variable {s : State}

theorem execCsrParityScrub_of_sound (hvaux : s.sys.vaux = true) (hcompat : s.compat = false) :
    execCsrParityScrub [] s = .next ((s.sys.bad.foldl (fun s x =>
      match regAt (x.1 / 4 * 4) with
      | some (r, _) => s.checkReg r (x.1 / 4 * 4) x.2
      | none => s) s).bump GLB.SCRUB.PASSES) :=
  (if_neg (not_not_intro hvaux)).trans (if_neg (by rw [List.foldl_nil, hcompat]; exact Bool.false_ne_true))

/-- A register with a wrong byte that no pass has found yet is a fault, or its bank's copy is zeroed. -/
theorem State.checkReg_of_new {o inst : Nat} (r : RegRow) (hcompat : s.compat = false)
    (hbad : s.sys.bad = [(o, inst)]) (hfound : s.sys.found.contains (o / 4 * 4, inst) = false) :
    s.checkReg r (o / 4 * 4) inst =
      if r.banked then s.zeroBank r (o / 4 * 4) inst else s.csrFault (o / 4 * 4) inst := by
  have hwrong : s.regBad (o / 4 * 4) inst = true := by
    simp [State.regBad, hbad]
  exact if_neg (by rw [hcompat, hwrong, hfound]; decide)

theorem State.crcFold_of_sound (h : s.compat = false) : s.crcFold = s := if_pos (by rw [h]; rfl)

theorem State.glbRefuse_shows : s.flagged s.glbRefuse GLB.EVENT.CFG_ERR ∧
    s.onlyEvent s.glbRefuse [GLB.EVENT.CFG_ERR, seqOf GLB.EVENT.CFG_ERR] :=
  State.raise_flags s (f := GLB.EVENT.CFG_ERR) (v := 0) [] (by decide) rfl (by decide) (by decide)

theorem State.glbRefuse_sys (s : State) : s.glbRefuse.sys = s.sys := State.raise_sys s _ _ _ (by decide)

theorem State.faultClr_of_named {b : Nat} (hcompat : s.compat = false) (h : blockNamed b = true) :
    s.faultClr b = s.setSys { s.sys with recheck := s.sys.recheck.filter (· != b) ++ [b] } := by
  unfold State.faultClr
  dsimp only
  rw [State.crcFold_of_sound hcompat, hcompat, h]
  rfl

theorem State.faultClr_of_unnamed {b : Nat} (hcompat : s.compat = false) (h : blockNamed b = false) :
    s.faultClr b = s.glbRefuse := by
  unfold State.faultClr
  dsimp only
  rw [State.crcFold_of_sound hcompat, hcompat, h]
  rfl

theorem execFaultRecheckDone_of_block {b : BitVec 6} (h : s.sys.recheck.contains b.toNat = true) (hb : b.toNat ≠ 63) :
    execFaultRecheckDone b s =
      .next ((s.setSys { s.sys with recheck := s.sys.recheck.filter (· != b.toNat) }).recheckDone b.toNat) :=
  (if_neg (not_not_intro h)).trans (congrArg Host.Outcome.next (if_neg hb))

theorem State.recheckDone_of_pass {b : Nat} (h : s.anyBad (fun o => blockOf o == b) = false) (hb : b < 32) :
    s.recheckDone b = s.release' b fun _ => true := by
  unfold State.recheckDone
  dsimp only
  rw [h, if_neg Bool.false_ne_true, if_neg Bool.false_ne_true, if_neg (Nat.not_le.2 hb)]

theorem State.recheckDone_of_fail {b : Nat} (h : s.anyBad (fun o => blockOf o == b) = true) (hb : b < 32) :
    s.recheckDone b = s.glbRefuse := by
  unfold State.recheckDone
  dsimp only
  rw [h, if_pos rfl, if_pos rfl, if_neg (Nat.not_le.2 hb)]

end

/-! ### The CRC of compatibility mode (R482, R483) -/

section
variable {s : State}

/-- The package's own writes fold into CRC_NOW and CRC_REF alone. -/
theorem State.crcFold_onlyRegs : s.onlyRegs s.crcFold [GLB.CRC_NOW.CRC, GLB.CRC_REF.CRC] := by
  unfold State.crcFold
  split
  · exact ⟨rfl, State.regsBut_refl _ _⟩
  · exact ⟨rfl, State.regsBut_thenWr (by simp) (State.regsBut_wr s _ (by simp))⟩

theorem State.crcCommitCmd_of_compat (h : s.compat = true) : s.crcCommitCmd =
    (s.crcFold.wr GLB.CRC_REF.CRC (s.crcFold.rd GLB.CRC_NOW.CRC)).wr GLB.CRC_CTRL.STALE 0 := if_neg (by rw [h]; decide)

theorem State.crcNow_setSys (x : Sys) : (s.setSys x).crcNow = s.crcNow := by
  simp only [State.crcNow, State.crcWord, State.setSys_rd]

/-- The registers recomputed, and a mismatch unless the comparison is suspended. -/
theorem execCrcRecompute_of_compat (hvaux : s.sys.vaux = true) (h : s.compat = true) :
    let v := s.crcFold.setSys { s.crcFold.sys with crcSoft := 0 }
    let w := (v.wr GLB.CRC_NOW.CRC v.crcNow).bump GLB.SCRUB.PASSES
    execCrcRecompute [] s =
      .next (if s.on GLB.CRC_CTRL.STALE = true ∨ w.rd GLB.CRC_NOW.CRC = w.rd GLB.CRC_REF.CRC then w else w.faultAll) := by
  intro v w
  have hstale : w.on GLB.CRC_CTRL.STALE = s.on GLB.CRC_CTRL.STALE := by
    have hw : w.rd GLB.CRC_CTRL.STALE = s.crcFold.rd GLB.CRC_CTRL.STALE :=
      (State.rd_bump_ne _ (Field.key_ne_of_apart rfl)).trans (State.rd_wr_ne _ _ (Field.key_ne_of_apart rfl))
    rw [State.on, State.on, hw, State.regsBut_rd State.crcFold_onlyRegs.2 rfl]
  have hw : w = (v.wr GLB.CRC_NOW.CRC s.crcFold.crcNow).bump GLB.SCRUB.PASSES :=
    congrArg (fun n => (v.wr GLB.CRC_NOW.CRC n).bump GLB.SCRUB.PASSES) (State.crcNow_setSys _)
  rw [← hstale, hw]
  unfold execCrcRecompute
  rw [if_neg (by rw [hvaux, h]; decide), List.foldl_nil]

end

/-- Settles O51, along the branches of a scrub, of a fault and its release, and of the CRC's commands. -/
theorem registerFaults : Obligations.RegisterFaults := by
  unfold Obligations.RegisterFaults
  refine ⟨fun s hvaux hcompat => ⟨fun hbad => ?clean, fun o inst r i hbad hr hfound => ?wrong⟩,
    fun s u r i f hr hf _ => State.upsetReg_bit hr hf, fun s off inst h => s.csrFault_shows inst h,
    fun s b hvaux hcompat => ⟨fun h => ?named, fun h => ?unnamed⟩,
    fun s b hb hne => ⟨fun h hlt => ?pass, fun h hlt => ?fail⟩,
    fun s b hb h1 h17 => s.release_shows hb h1 h17, fun s => ⟨fun h => ?refused, fun h => ?commit⟩,
    fun s hvaux h => ⟨fun hstale => ?stale, fun hstale => ?compared⟩⟩
  case clean =>
    refine ⟨s.bump GLB.SCRUB.PASSES, ?_, State.rd_bump_self s _, rfl, State.regsBut_bump s (by simp)⟩
    rw [exec_csrParityScrub, execCsrParityScrub_of_sound hvaux hcompat, hbad, List.foldl_nil]
  case wrong =>
    rw [exec_csrParityScrub, execCsrParityScrub_of_sound hvaux hcompat, hbad]
    dsimp only [List.foldl_cons, List.foldl_nil]
    rw [hr, ← State.checkReg_of_new r hcompat hbad hfound]
  case named =>
    exact ⟨_, (if_pos hvaux).trans (congrArg Host.Outcome.next (State.faultClr_of_named hcompat h)),
      List.mem_append_right _ (List.mem_singleton_self _), rfl⟩
  case unnamed =>
    exact ⟨_, (if_pos hvaux).trans (congrArg Host.Outcome.next (State.faultClr_of_unnamed hcompat h)),
      State.glbRefuse_shows⟩
  case pass =>
    exact (execFaultRecheckDone_of_block hb hne).trans (congrArg Host.Outcome.next (State.recheckDone_of_pass h hlt))
  case fail =>
    obtain ⟨hflag, -, hregs⟩ :=
      (s.setSys { s.sys with recheck := s.sys.recheck.filter (· != b.toNat) }).glbRefuse_shows
    exact ⟨_, (execFaultRecheckDone_of_block hb hne).trans (congrArg Host.Outcome.next (State.recheckDone_of_fail h hlt)),
      hflag, (congrArg Sys.held (State.glbRefuse_sys _) :), hregs⟩
  case refused =>
    exact ⟨_, congrArg Host.Outcome.next (if_pos (by rw [h]; rfl)), State.glbRefuse_shows⟩
  case commit =>
    obtain ⟨hframe, hregs⟩ := s.crcFold_onlyRegs
    refine ⟨_, congrArg Host.Outcome.next (State.crcCommitCmd_of_compat h), ?ref, State.rd_wr_self _ _ _, ?frame, ?regs⟩
    case ref => rw [State.rd_wr_ne _ _ (Field.key_ne_of_apart rfl), State.rd_wr_self]; rfl
    case frame => rw [hframe]; rfl
    case regs =>
      exact State.regsBut_thenWr (by simp) (State.regsBut_thenWr (by simp) (State.regsBut_mono hregs (by simp)))
  case stale =>
    exact (execCrcRecompute_of_compat hvaux h).trans (congrArg Host.Outcome.next (if_pos (.inl hstale)))
  case compared =>
    rw [exec_crcRecompute, execCrcRecompute_of_compat hvaux h, hstale]
    simp only [Bool.false_eq_true, false_or]

end Sys2Proof.Machine
end

section
/-! SUPPORT. What an access to main memory leaves of the link and of the bytes (R353-R358), and the companion's register
accesses and answers (13_urdal_link.md, R388-R396, R463): the statement about them. -/
namespace Sys2Proof.Machine
open Sys2Proof

/-! ### Main memory's accounts (R353-R358) -/

/-- Counters, reports and marks of main memory: the link, the package and the memory's contents are as they were. -/
def State.accounts (s t : State) : Prop := t.ulk = s.ulk ∧ t.sys = s.sys ∧ t.comp.lpddr = s.comp.lpddr

section
variable (s : State)

theorem State.accounts_refl : s.accounts s := ⟨rfl, rfl, rfl⟩

theorem State.accounts_trans {s t u : State} (h : s.accounts t) (k : t.accounts u) : s.accounts u :=
  ⟨k.1.trans h.1, k.2.1.trans h.2.1, k.2.2.trans h.2.2⟩

theorem State.accounts_foldl {β : Type} {f : State → β → State} (h : ∀ (t : State) (x : β), t.accounts (f t x))
    (l : List β) : s.accounts (l.foldl f s) :=
  List.foldlRecOn (motive := fun t => s.accounts t) l f s.accounts_refl fun t ht x _ => State.accounts_trans ht (h t x)

theorem State.accounts_wr {s t : State} (h : s.accounts t) (f : Field) (v : Nat) : s.accounts (t.wr f v) := h

theorem State.accounts_bump {s t : State} (h : s.accounts t) (f : Field) : s.accounts (t.bump f) := h

theorem State.accounts_raise {s t : State} (h : s.accounts t) (f : Field) {v : Nat} (d : List Byte) (hv : v ≠ 3) :
    s.accounts (t.raise f v d) :=
  State.accounts_trans h ⟨State.raise_ulk t f v d, State.raise_sys t f v d hv, by rw [State.raise_comp]⟩

theorem State.ctrAdd_accounts (n w : Nat) : s.accounts (s.ctrAdd n w) := by
  have hcount : s.accounts (s.wr (HLT.CTR.COUNT n) (s.rd (HLT.CTR.COUNT n) + w)) :=
    State.accounts_wr s.accounts_refl _ _
  unfold State.ctrAdd
  dsimp only
  split
  · exact hcount
  · exact State.accounts_raise (State.accounts_bump (State.accounts_wr hcount _ _) _) _ [] (by decide)

theorem State.count_accounts (dom : Nat × Nat) (src inst w : Nat) : s.accounts (s.count dom src inst w) := by
  unfold State.count
  split
  · exact s.accounts_refl
  · refine s.accounts_foldl (fun t i => ?_) _
    dsimp only
    split
    · exact t.ctrAdd_accounts _ _
    · exact t.accounts_refl

theorem State.rowListed_accounts (row ch : Nat) : s.accounts (s.rowListed row ch) := by
  have hlisted : s.accounts { s with comp := { s.comp with rowMark := s.comp.rowMark ++ [(row, ch)] } } := ⟨rfl, rfl, rfl⟩
  exact State.accounts_raise (State.accounts_bump hlisted _) _ [] (by decide)

theorem State.patchNote_accounts (kind action unit spare : Nat) : s.accounts (s.patchNote kind action unit spare) :=
  ⟨rfl, rfl, rfl⟩

theorem State.markRow_accounts (a : Nat) : s.accounts (s.markRow a) := by
  rw [State.markRow_eq]
  split
  · exact s.accounts_refl
  · exact State.accounts_trans (s.rowListed_accounts _ _) (State.patchNote_accounts _ _ _ _ _)

theorem State.reportUncorr_accounts (req : Req) (blk : Nat) : s.accounts (s.reportUncorr req blk) := by
  have hsev : (if req = .scrubber then sevWarning else sevInfo) ≠ 3 := by split <;> decide
  unfold State.reportUncorr
  dsimp only
  refine State.accounts_trans (State.accounts_raise ?_ _ [] hsev) (State.markRow_accounts _ _)
  exact State.accounts_wr (State.accounts_wr (State.accounts_wr (State.accounts_bump s.accounts_refl _) _ _) _ _) _ _

/-- The corrected errors of a row counted. -/
def State.rowHit (s : State) (row n : Nat) : State :=
  { s with comp := { s.comp with rowHits := Tbl.put s.comp.rowHits 0 row n } }

theorem State.rowHit_accounts (row n : Nat) : s.accounts (s.rowHit row n) := ⟨rfl, rfl, rfl⟩

theorem State.reportCorr_accounts (blk : Nat) : s.accounts (s.reportCorr blk) := by
  unfold State.reportCorr
  dsimp only
  rw [← State.rowHit]
  split
  · exact State.accounts_trans (State.accounts_trans (State.accounts_bump (s.rowHit_accounts _ _) _)
      (State.count_accounts _ _ _ _ _)) (State.markRow_accounts _ _)
  · exact State.accounts_trans (State.accounts_bump (s.rowHit_accounts _ _) _) (State.count_accounts _ _ _ _ _)

theorem State.lpCount_accounts (req : Req) (a n : Nat) : s.accounts (s.lpCount req a n) :=
  s.accounts_foldl (fun t _ => t.count_accounts _ _ _ _) _

theorem State.lpRead_accounts (req : Req) (a n : Nat) : s.accounts (s.lpRead req a n).1 := by
  unfold State.lpRead
  dsimp only
  split
  · exact State.accounts_trans (s.lpCount_accounts _ _ _) (State.reportUncorr_accounts _ _ _)
  · exact s.lpCount_accounts _ _ _

/-- Upsets touch check bits, and no byte. -/
theorem State.strikeLp_keeps_bytes (a n : Nat) (ups : List Upset) : (s.strikeLp a n ups).ulk = s.ulk ∧
    (s.strikeLp a n ups).sys = s.sys ∧
    ∀ k, (s.strikeLp a n ups).comp.lpddr.get k = s.comp.lpddr.get k := by
  refine List.foldlRecOn (motive := fun t : State => t.ulk = s.ulk ∧ t.sys = s.sys ∧
    ∀ k, t.comp.lpddr.get k = s.comp.lpddr.get k) _ _ ⟨rfl, rfl, fun _ => rfl⟩ fun t ⟨hulk, hsys, hget⟩ x _ => ?_
  split
  · exact ⟨hulk, hsys, hget⟩
  split
  · exact ⟨hulk, hsys, hget⟩
  · obtain ⟨hulk', hsys', hlp⟩ := t.reportCorr_accounts (x.addr / 64)
    exact ⟨hulk'.trans hulk, hsys'.trans hsys, fun k => by rw [hlp]; exact hget k⟩

end

/-! ### A line written (R353, R354) -/

theorem padTo_length (n : Nat) (l : List Byte) : (padTo n l).length = n := by
  simp only [padTo, List.length_append, List.length_take, List.length_replicate]
  omega

/-- A whole check-bit block is written with fresh check bits, whatever it held. -/
theorem Mem.store_line (m : Mem) (line : Nat) {l : List Byte} (hl : l.length = 64) :
    m.store 64 (64 * line) l = ((m.clearBad line).write (64 * line) l, []) := by
  have hpieces : pieces 64 (64 * line) l.length (l.length / 64 + 2) = [(64 * line, 64)] := by
    rw [hl]
    simp [pieces]
  have hwhole : 64 * line % 64 = 0 ∧ (l.take 64).length = 64 := by
    rw [List.take_of_length_le hl.le]
    exact ⟨Nat.mul_mod_right _ _, hl⟩
  have hpiece : m.writePiece 64 (64 * line) (l.take 64) = ((m.clearBad line).write (64 * line) l, true) := by
    rw [Mem.writePiece, if_pos hwhole, Nat.mul_div_cancel_left line (by decide), List.take_of_length_le hl.le]
  rw [Mem.store, hpieces, Mem.writePieces, hpiece]
  rfl

/-- A line written: its bytes, and nothing of the link. -/
theorem State.lpWrite_line (s : State) (req : Req) (line : Nat) {l : List Byte} (hl : l.length = 64) :
    (s.lpWrite req (64 * line) l).1.ulk = s.ulk ∧ (s.lpWrite req (64 * line) l).1.sys = s.sys ∧
      (s.lpWrite req (64 * line) l).1.comp.lpddr = (s.comp.lpddr.clearBad line).write (64 * line) l := by
  obtain ⟨hulk, hsys, hlp⟩ := s.lpCount_accounts req (64 * line) l.length
  have hw : (s.lpWrite req (64 * line) l).1 = (s.lpCount req (64 * line) l.length).setLp
      ((s.comp.lpddr.clearBad line).write (64 * line) l) := by
    unfold State.lpWrite
    dsimp only
    rw [hlp, Mem.store_line _ _ hl]
  rw [hw]
  exact ⟨hulk, hsys, rfl⟩

/-! ### Register accesses over the link (R388, R396, R463) -/

section
variable {s u : State} {tag : BitVec 12} {off : BitVec 26} {size : BitVec 2}

theorem AccErr.reason_eq (e : AccErr) : e.reason = if e = .busy then 5 else 4 := by cases e <;> rfl

theorem State.csrServed_of_up {n : Nat} {k : State → State} (hup : s.ulState = ulUp) (hrec : s.recovering = false) :
    s.csrServed n k = k s :=
  (if_neg (not_not_intro hup)).trans (if_neg (by rw [hrec]; exact Bool.false_ne_true))

theorem State.csrServed_of_recovering {n : Nat} {k : State → State} (hup : s.ulState = ulUp)
    (hrec : s.recovering = true) : s.csrServed n k = s.errMsg n 5 :=
  (if_neg (not_not_intro hup)).trans (if_pos hrec)

theorem State.csrAnswer_of_up (m : Msg) (hup : u.ulState = ulUp) : u.csrAnswer m = u.sendMsg m := if_pos hup

theorem execCsrWr_of_taken {v : BitVec 64} (hup : s.ulState = ulUp) (hrec : s.recovering = false)
    (h : s.csrWrite .link off.toNat (2 ^ size.toNat) v.toNat = (u, none)) (hup' : u.ulState = ulUp) :
    execCsrWr tag off size v s = .next (u.sendMsg { op := 0x23, tag := tag.toNat }) := by
  rw [execCsrWr, State.csrServed_of_up hup hrec, h]
  exact congrArg Host.Outcome.next (State.csrAnswer_of_up _ hup')

theorem execCsrWr_of_error {v : BitVec 64} {e : AccErr} (hup : s.ulState = ulUp) (hrec : s.recovering = false)
    (h : s.csrWrite .link off.toNat (2 ^ size.toNat) v.toNat = (u, some e)) :
    execCsrWr tag off size v s = .next (u.errMsg tag.toNat (if e = .busy then 5 else 4)) := by
  rw [execCsrWr, State.csrServed_of_up hup hrec, h, ← AccErr.reason_eq]

theorem execCsrRd_of_value {ups : List RegUpset} {v : Nat} (hup : s.ulState = ulUp) (hrec : s.recovering = false)
    (h : (ups.foldl State.upsetReg s).csrRead .link off.toNat (2 ^ size.toNat) = (u, .ok v)) (hup' : u.ulState = ulUp) :
    execCsrRd tag off size ups s = .next (u.sendMsg { op := 0x25, tag := tag.toNat, data := leBytes 8 v }) := by
  rw [execCsrRd, State.csrServed_of_up hup hrec, h]
  exact congrArg Host.Outcome.next (State.csrAnswer_of_up _ hup')

theorem execCsrRd_of_error {ups : List RegUpset} {e : AccErr} (hup : s.ulState = ulUp) (hrec : s.recovering = false)
    (h : (ups.foldl State.upsetReg s).csrRead .link off.toNat (2 ^ size.toNat) = (u, .error e)) :
    execCsrRd tag off size ups s = .next (u.errMsg tag.toNat (if e = .busy then 5 else 4)) := by
  rw [execCsrRd, State.csrServed_of_up hup hrec, h, ← AccErr.reason_eq]

end

/-! ### Answers to requests (R389) -/

section
variable {s : State} {n : Nat} {r : PReq}

/-- The request of a tag is over. -/
def State.tagOver (s : State) (n : Nat) : State := { s with ulk := { s.ulk with reqs := Tbl.del s.ulk.reqs n } }

/-- An answer of the request's own kind, or an ERR, ends it. -/
theorem State.answerTag_of_kind {w : Option Bool} (d : List Byte) (ok : Bool) (hup : s.ulState = ulUp)
    (h : Tbl.look s.ulk.reqs n = some r) (hw : w.any (· != r.write) = false) :
    s.answerTag n w d ok = (s.tagOver n).tagFreed.answered r d ok := by
  unfold State.answerTag
  rw [if_neg (not_not_intro hup), h]
  dsimp only
  rw [hw, if_neg Bool.false_ne_true]
  rfl

theorem State.answerTag_of_other {w : Option Bool} (d : List Byte) (ok : Bool) (hup : s.ulState = ulUp)
    (h : Tbl.look s.ulk.reqs n = some r) (hw : w.any (· != r.write) = true) : s.answerTag n w d ok = s := by
  unfold State.answerTag
  rw [if_neg (not_not_intro hup), h]
  exact if_pos hw

theorem State.answerTag_of_none (w : Option Bool) (d : List Byte) (ok : Bool)
    (h : s.ulState ≠ ulUp ∨ Tbl.look s.ulk.reqs n = none) : s.answerTag n w d ok = s := by
  unfold State.answerTag
  by_cases hup : s.ulState = ulUp
  · rw [if_neg (not_not_intro hup), h.resolve_left (not_not_intro hup)]
  · exact if_pos hup

end

/-! ### Answers to snoops (R393, R394) -/

section
variable {s : State} {line n : Nat} {x : Snoop} {ups : List Upset}

/-- The directory's entry as an answer leaves it: shared, or gone. -/
def State.afterSnoop (s : State) (line : Nat) (e : DirEntry) (shared : Bool) : State :=
  s.setDir (if shared then Tbl.set s.ulk.dir line { e with owned := false } else Tbl.del s.ulk.dir line)

/-- The state once an answer's dirty data, if any, is in memory. -/
def State.snoopData (s : State) (line : Nat) : Option (List Byte) → State
  | some l => (s.lpWrite .companion (64 * line) (padTo 64 l)).1
  | none => s

theorem State.snoopData_ulk (s : State) (line : Nat) (d : Option (List Byte)) : (s.snoopData line d).ulk = s.ulk := by
  cases d with
  | none => rfl
  | some l => exact (s.lpWrite_line .companion line (padTo_length 64 l)).1

theorem State.snoopAnswer_of_entry {e : DirEntry} (d : Option (List Byte)) (shared : Bool) (hup : s.ulState = ulUp)
    (hx : (s.ulk.snoops.find? fun r => r.2.tag == n) = some (line, x)) (htaken : x.taken = false)
    (he : Tbl.look s.ulk.dir line = some e) :
    s.snoopAnswer n d shared ups = ((s.snoopData line d).afterSnoop line e shared).snoopOver line ups := by
  have hdir : Tbl.look (s.snoopData line d).ulk.dir line = some e := by rw [State.snoopData_ulk]; exact he
  unfold State.snoopAnswer
  rw [if_neg (not_not_intro hup), hx]
  dsimp only
  rw [htaken, if_neg Bool.false_ne_true]
  cases d with
  | none =>
    dsimp only
    rw [he]
    rfl
  | some l =>
    dsimp only
    rw [State.snoopData] at hdir ⊢
    rw [hdir]
    rfl

/-- A snoop that nothing waits for just ends. -/
theorem State.snoopOver_of_idle (hx : Tbl.look s.ulk.snoops line = some x) (hgrants : x.grants = [])
    (hdef : s.ulk.deferred = []) (hmove : s.move mvRestore = none) :
    s.snoopOver line ups = { s with ulk := { s.ulk with snoops := Tbl.del s.ulk.snoops line } } := by
  have hidle := State.runDeferred_of_nil
    (s := { s with ulk := { s.ulk with snoops := Tbl.del s.ulk.snoops line } }) hdef
  unfold State.snoopOver
  rw [hx]
  dsimp only
  rw [hgrants, List.foldl_nil, hidle]
  split
  next m hm => cases hmove.symm.trans hm
  next => rfl

theorem execSnpTimeout_of_snoop {line : BitVec 42} {t : Nat} (hx : Tbl.look s.ulk.snoops line.toNat = some x) :
    let v := s.advance t
    execSnpTimeout line ups t s = if v.now < x.since + Config.ns (1000 * s.rd ULK.SNP_CFG.TIMEOUT) then .next v
      else .next ((((v.setDir (Tbl.del v.ulk.dir line.toNat)).bump ULK.COUNTS.SNP_TIMEOUT).raise ULK.EVENT.SNP_TIMEOUT
        sevError).snoopOver line.toNat ups) := by
  have hx' : Tbl.look (s.advance t).ulk.snoops line.toNat = some x := hx
  unfold execSnpTimeout
  dsimp only
  rw [hx']
  rfl

end

/-! ### The coherence window (R391) -/

section
variable {s : State} {base size : Nat}

theorem State.snoop_sys (s : State) (inv : Bool) (line : Nat) (grants : List Grant) :
    (s.snoop inv line grants).sys = s.sys := by
  unfold State.snoop
  split
  · rfl
  · exact (State.pumped_sys (State.sendMsg_pumped _ _)).trans (State.count_accounts _ _ _ _ _).2.1

/-- The window set, and every line outside it asked back. -/
def State.windowSet (s : State) (base size : Nat) : State :=
  (s.ulk.dir.filter fun r => !((s.wr ULK.COH_WIN.BASE base).wr ULK.COH_WIN.SIZE size).inCohWin r.1).foldl
    (fun s r => s.snoop true r.1) ((s.wr ULK.COH_WIN.BASE base).wr ULK.COH_WIN.SIZE size)

theorem State.windowSet_sys (s : State) (base size : Nat) : (s.windowSet base size).sys = s.sys :=
  State.foldl_sys (fun (t : State) (r : Nat × DirEntry) => t.snoop_sys true r.1 []) _ _

theorem State.setWindow_of_outside (hsize : size ≠ 0) (h : s.lpEnd < (base + size) * 2 ^ 30) :
    s.setWindow base size = s.raise ULK.EVENT.CFG_ERR := if_pos ⟨hsize, h⟩

theorem State.setWindow_of_inside (h : size = 0 ∨ (base + size) * 2 ^ 30 ≤ s.lpEnd) :
    s.setWindow base size = s.windowSet base size :=
  if_neg fun ⟨hsize, hout⟩ => h.elim hsize (Nat.not_le.2 hout)

end

/-- Settles O43, along the answers that a register access, a request, a snoop and the window's write give. -/
theorem companionAnswers : Obligations.CompanionAnswers := by
  unfold Obligations.CompanionAnswers
  refine ⟨fun s u tag off size v hup => ⟨fun hrec => ?recovering, fun hrec h hup' => execCsrWr_of_taken hup hrec h hup',
      fun e hrec h => execCsrWr_of_error hup hrec h⟩,
    fun s u tag off size ups hup hrec => ⟨fun v h hup' => execCsrRd_of_value hup hrec h hup',
      fun e h => execCsrRd_of_error hup hrec h⟩,
    fun s tag r hup h => ⟨fun d hr => ?data, fun d hr => ?dataOfWrite, fun hr => ?ack, fun hr => ?ackOfRead, ?err⟩,
    fun s tag h => ⟨fun d => ?noData, ?noAck, ?noErr⟩,
    fun s tag line x e d ups hup hx htaken he => ⟨?inv, ?shared, ?dirtyInv, ?dirtyShared⟩,
    fun s line ups x hx hgrants hdef hmove => State.snoopOver_of_idle hx hgrants hdef hmove,
    fun s line ups t x hx => ⟨fun h => ?early, fun h => ?late⟩,
    fun s b n hs => ⟨fun hsize hout => ?outside, fun hin => ?inside⟩⟩
  case recovering => exact congrArg Host.Outcome.next (State.csrServed_of_recovering hup hrec)
  case data => exact congrArg Host.Outcome.next (State.answerTag_of_kind _ _ hup h (by rw [hr]; rfl))
  case dataOfWrite => exact congrArg Host.Outcome.next (State.answerTag_of_other _ _ hup h (by rw [hr]; rfl))
  case ack => exact congrArg Host.Outcome.next (State.answerTag_of_kind _ _ hup h (by rw [hr]; rfl))
  case ackOfRead => exact congrArg Host.Outcome.next (State.answerTag_of_other _ _ hup h (by rw [hr]; rfl))
  case err => exact congrArg Host.Outcome.next (State.answerTag_of_kind _ _ hup h rfl)
  case noData => exact congrArg Host.Outcome.next (State.answerTag_of_none _ _ _ h)
  case noAck => exact congrArg Host.Outcome.next (State.answerTag_of_none _ _ _ h)
  case noErr => exact congrArg Host.Outcome.next (State.answerTag_of_none _ _ _ h)
  case inv => exact congrArg Host.Outcome.next (State.snoopAnswer_of_entry none false hup hx htaken he)
  case shared => exact congrArg Host.Outcome.next (State.snoopAnswer_of_entry none true hup hx htaken he)
  case dirtyInv => exact congrArg Host.Outcome.next (State.snoopAnswer_of_entry (some d) false hup hx htaken he)
  case dirtyShared => exact congrArg Host.Outcome.next (State.snoopAnswer_of_entry (some d) true hup hx htaken he)
  case early => exact (execSnpTimeout_of_snoop hx).trans (if_pos h)
  case late => exact (execSnpTimeout_of_snoop hx).trans (if_neg (Nat.not_lt.2 h))
  case outside =>
    exact ⟨_, congrArg Host.Outcome.next (State.bySoft_of_raise _ _ _ hs (State.setWindow_of_outside hsize hout)),
      State.raise_event s [] (by decide) (by decide) (by decide) (by decide) (by decide)⟩
  case inside =>
    have hset := State.setWindow_of_inside hin
    refine congrArg Host.Outcome.next ((State.bySoft_of_bad _ _ _ hs ?_).trans hset)
    rw [hset, State.windowSet_sys]

end Sys2Proof.Machine
end

section
/-! SUPPORT. The companion's requests of a line (13_urdal_link.md, R387-R393, R396, R519): grants, reads, lines given
back and masked writes, and the statement about them. -/
namespace Sys2Proof.Machine
open Sys2Proof

/-! ### Sending leaves the directory and memory alone -/

section
variable (s : State) (m : Msg)

theorem State.sendMsg_dir : (s.sendMsg m).ulk.dir = s.ulk.dir := (congrArg Ulk.dir (s.sendMsg_pumped m).2.2.1 :)

theorem State.sendMsg_snoops : (s.sendMsg m).ulk.snoops = s.ulk.snoops :=
  (congrArg Ulk.snoops (s.sendMsg_pumped m).2.2.1 :)

theorem State.sendMsg_comp : (s.sendMsg m).comp = s.comp := (congrArg State.comp (s.sendMsg_pumped m).1 :)

end

section
variable (s : State) (tag reason : Nat)

/-- An ERR: it is sent and counted, and changes no line. -/
theorem State.errMsg_shows : (s.errMsg tag reason).carries { op := 0x24, tag := tag, reason := reason } ∧
    (s.errMsg tag reason).ulk.dir = s.ulk.dir ∧ (s.errMsg tag reason).comp = s.comp ∧
    (s.errMsg tag reason).rd ULK.COUNTS.ERR_SENT =
      (s.rd ULK.COUNTS.ERR_SENT + 1) % 2 ^ ULK.COUNTS.ERR_SENT.width := by
  have hcount : ULK.COUNTS.ERR_SENT.key ∉ counterFields.map Field.key :=
    notMem_counterFields_of_off rfl (by decide) (.inl (by decide)) (by decide)
  refine ⟨State.sendMsg_carries _ _, State.sendMsg_dir _ _, State.sendMsg_comp _ _, ?_⟩
  exact (State.pumped_rd (State.sendMsg_pumped _ _) hcount).trans (State.rd_bump_self s _)

end

/-! ### Which requests are served (R388, R396, R519) -/

section
variable {s : State} {tag line : Nat} {k : State → State}

theorem State.lineReq_of_serves (h : s.serves line) : s.lineReq tag line k = k s := by
  obtain ⟨hup, hrec, hend⟩ := h
  unfold State.lineReq
  rw [if_neg (not_not_intro hup), hrec, if_neg Bool.false_ne_true, if_neg (Nat.not_lt.2 hend)]

theorem State.lineReq_of_outside (hup : s.ulState = ulUp) (hrec : s.recovering = false)
    (h : s.lpEnd < 64 * line + 64) : s.lineReq tag line k = s.errMsg tag 1 := by
  unfold State.lineReq
  rw [if_neg (not_not_intro hup), hrec, if_neg Bool.false_ne_true, if_pos h]

theorem State.lineReq_of_recovering (hup : s.ulState = ulUp) (hrec : s.recovering = true) :
    s.lineReq tag line k = s.errMsg tag 5 := by
  unfold State.lineReq
  rw [if_neg (not_not_intro hup), if_pos hrec]

theorem State.readCached_of_window {owned : Bool} {ups : List Upset} (h : s.serves line)
    (hwin : s.inCohWin line = true) : s.readCached tag line owned ups = s.serveGrant ⟨line, tag, owned⟩ ups :=
  (State.lineReq_of_serves h).trans (if_pos hwin)

theorem State.readCached_of_outside {owned : Bool} {ups : List Upset} (h : s.serves line)
    (hwin : s.inCohWin line = false) : s.readCached tag line owned ups = s.errMsg tag 2 :=
  (State.lineReq_of_serves h).trans (if_neg (by rw [hwin]; exact Bool.false_ne_true))

/-- A request of a line that is read or written without caching is served also where recovery lets it. -/
def State.servesNc (s : State) (line : Nat) : Prop :=
  s.serves line ∨ (s.ulState = ulUp ∧ s.recovering = true ∧ 64 * line < 0x2000000)

theorem execRdNc_of_serves {tag : BitVec 12} {line : BitVec 42} {ups : List Upset} (h : s.servesNc line.toNat) :
    execRdNc tag line ups s = .next (s.readLine tag.toNat line.toNat ups) := by
  obtain h | h := h
  · refine (if_neg ?_).trans (congrArg Host.Outcome.next (State.lineReq_of_serves h))
    rw [h.2.1]
    exact fun hn => Bool.false_ne_true hn.2.1
  · exact if_pos h

theorem execWrNc_of_serves {tag : BitVec 12} {line : BitVec 42} {mask : BitVec 64} {data : List Byte} {ups : List Upset}
    (h : s.servesNc line.toNat) :
    execWrNc tag line mask data ups s = .next (s.writeLine tag.toNat line.toNat mask.toNat data ups) := by
  obtain h | h := h
  · refine (if_neg ?_).trans (congrArg Host.Outcome.next (State.lineReq_of_serves h))
    rw [h.2.1]
    exact fun hn => Bool.false_ne_true hn.2.1
  · exact if_pos h

/-- Every request of a line goes through the same door, but for the first 32 MiB in recovery. -/
theorem exec_lineReq {tag : BitVec 12} {line : BitVec 42} {ups : List Upset} {mask : BitVec 64} {data : List Byte}
    {i : Instr} (hi : i = .rdS tag line ups ∨ i = .rdO tag line ups ∨ i = .rdNc tag line ups ∨ i = .evict tag line ∨
      i = .wb tag line data ∨ i = .wrNc tag line mask data ups)
    (hnc : s.recovering = true → 0x2000000 ≤ 64 * line.toNat) :
    ∃ k : State → State, exec i s = .next (s.lineReq tag.toNat line.toNat k) := by
  have hdoor : ¬ (s.ulState = ulUp ∧ s.recovering = true ∧ 64 * line.toNat < 0x2000000) :=
    fun ⟨_, hrec, hlt⟩ => Nat.not_le.2 hlt (hnc hrec)
  obtain rfl | rfl | rfl | rfl | rfl | rfl := hi
  · exact ⟨_, rfl⟩
  · exact ⟨_, rfl⟩
  · exact ⟨_, if_neg hdoor⟩
  · exact ⟨_, rfl⟩
  · exact ⟨_, rfl⟩
  · exact ⟨_, if_neg hdoor⟩

end

/-! ### A line read (R388, R391, R392) -/

section
variable {s : State} {ups : List Upset}

/-- A line as the companion's request reads it. -/
def State.lineRead (s : State) (line : Nat) (ups : List Upset) : State × Option (List Byte) :=
  (s.strikeLp (64 * line) 64 ups).lpRead .companion (64 * line) 64

theorem State.lineRead_ulk (line : Nat) : (s.lineRead line ups).1.ulk = s.ulk :=
  (State.lpRead_accounts _ _ _ _).1.trans (s.strikeLp_keeps_bytes _ _ _).1

/-- The directory's entry for a grant: a line that had one keeps its place in the order of allocation. -/
def State.grantEntry (s : State) (g : Grant) : DirEntry :=
  ⟨g.owned, match Tbl.look s.ulk.dir g.line with | some e => e.order | none => s.ulk.grants⟩

/-- A granted line entered in the directory. -/
def State.lineEntered (s : State) (g : Grant) : State :=
  let v := s.setDir (Tbl.set s.ulk.dir g.line (s.grantEntry g))
  { v with ulk := { v.ulk with grants := v.ulk.grants + 1 } }

theorem State.grantLine_eq_of_read {g : Grant} {l : List Byte} (h : (s.lineRead g.line ups).2 = some l) :
    s.grantLine g ups = ((s.lineRead g.line ups).1.lineEntered g).sendMsg
      { op := if g.owned then 0x21 else 0x20, tag := g.tag, addr := 64 * g.line, data := l } := by
  unfold State.grantLine
  dsimp only
  rw [← State.lineRead, h]
  rfl

/-- A line that can be read is granted and entered in the directory. -/
theorem State.grantLine_of_read {g : Grant} {l : List Byte} (h : (s.lineRead g.line ups).2 = some l) :
    (∃ e, Tbl.look (s.grantLine g ups).ulk.dir g.line = some e ∧ e.owned = g.owned) ∧
      (s.grantLine g ups).carries
        { op := if g.owned then 0x21 else 0x20, tag := g.tag, addr := 64 * g.line, data := l } ∧
      (s.grantLine g ups).comp.lpddr = (s.lineRead g.line ups).1.comp.lpddr := by
  rw [State.grantLine_eq_of_read h]
  refine ⟨⟨(s.lineRead g.line ups).1.grantEntry g, ?entry, rfl⟩, State.sendMsg_carries _ _, ?mem⟩
  case entry => rw [State.sendMsg_dir]; exact Tbl.look_set_self _ _ _
  case mem => rw [State.sendMsg_comp]; rfl

theorem State.grantLine_of_unread {g : Grant} (h : (s.lineRead g.line ups).2 = none) :
    (s.grantLine g ups).carries { op := 0x24, tag := g.tag, reason := 3 } ∧
      (s.grantLine g ups).ulk.dir = s.ulk.dir := by
  unfold State.grantLine
  dsimp only
  rw [← State.lineRead, h]
  dsimp only
  obtain ⟨hcarries, hdir, -⟩ := (s.lineRead g.line ups).1.errMsg_shows g.tag 3
  exact ⟨hcarries, hdir.trans (congrArg Ulk.dir (State.lineRead_ulk _) :)⟩

/-- A line that has its entry, or room for one, is granted at once. -/
theorem State.serveGrant_of_room {g : Grant} (hsnoop : Tbl.look s.ulk.snoops g.line = none)
    (hroom : Tbl.look s.ulk.dir g.line ≠ none ∨ (s.dirSet g.line).length < 16) :
    s.serveGrant g ups = s.grantLine g ups := by
  unfold State.serveGrant
  rw [hsnoop, if_neg (by decide), if_pos (hroom.imp_left Option.isSome_iff_ne_none.2)]

theorem State.serveGrant_of_snoop {g : Grant} (hsnoop : (Tbl.look s.ulk.snoops g.line).isSome = true) :
    s.serveGrant g ups = s.snoop true g.line [g] := if_pos hsnoop

/-- A full set recalls the line that was allocated longest ago. -/
theorem State.serveGrant_of_full {g : Grant} {v : Nat × DirEntry} (hsnoop : Tbl.look s.ulk.snoops g.line = none)
    (hdir : Tbl.look s.ulk.dir g.line = none) (hfull : 16 ≤ (s.dirSet g.line).length)
    (hold : oldestWay (s.dirSet g.line) = some v) :
    s.serveGrant g ups = (s.bump ULK.DIR_STAT.RECALLS).snoop true v.1 [g] := by
  have hroom : ¬ ((Tbl.look s.ulk.dir g.line).isSome = true ∨ (s.dirSet g.line).length < 16) := by
    rw [hdir]
    exact fun h => h.elim (by decide) (Nat.not_lt.2 hfull)
  unfold State.serveGrant
  rw [hsnoop, if_neg (by decide), if_neg hroom, hold]

theorem State.readLine_of_read {tag line : Nat} {l : List Byte} (h : (s.lineRead line ups).2 = some l) :
    (s.readLine tag line ups).carries { op := 0x22, tag := tag, addr := 64 * line, data := l } ∧
      (s.readLine tag line ups).ulk.dir = s.ulk.dir := by
  unfold State.readLine
  dsimp only
  rw [← State.lineRead, h]
  dsimp only
  exact ⟨State.sendMsg_carries _ _, (State.sendMsg_dir _ _).trans (congrArg Ulk.dir (State.lineRead_ulk _))⟩

theorem State.readLine_of_unread {tag line : Nat} (h : (s.lineRead line ups).2 = none) :
    (s.readLine tag line ups).carries { op := 0x24, tag := tag, reason := 3 } ∧
      (s.readLine tag line ups).ulk.dir = s.ulk.dir := by
  unfold State.readLine
  dsimp only
  rw [← State.lineRead, h]
  dsimp only
  obtain ⟨hcarries, hdir, -⟩ := (s.lineRead line ups).1.errMsg_shows tag 3
  exact ⟨hcarries, hdir.trans (congrArg Ulk.dir (State.lineRead_ulk _) :)⟩

end

/-! ### A line given back (R393) -/

section
variable (s : State) (line : Nat)

theorem State.crossed_dir : (s.crossed line).ulk.dir = Tbl.del s.ulk.dir line := by
  unfold State.crossed
  dsimp only
  split <;> rfl

theorem State.crossed_comp : (s.crossed line).comp = s.comp := by
  unfold State.crossed
  dsimp only
  split <;> rfl

/-- A snoop that a given-back line crosses is taken. -/
theorem State.crossed_snoop {x : Snoop} (h : Tbl.look s.ulk.snoops line = some x) :
    Tbl.look (s.crossed line).ulk.snoops line = some { x with taken := true } := by
  have h' : Tbl.look (s.setDir (Tbl.del s.ulk.dir line)).ulk.snoops line = some x := h
  unfold State.crossed
  dsimp only
  rw [h']
  exact Tbl.look_set_self _ _ _

/-- The calendar's watch changes nothing but the list of entries to be examined. -/
theorem State.calWatch_shows : (s.calWatch line).ulk.dir = s.ulk.dir ∧ (s.calWatch line).comp = s.comp ∧
    ∀ m, s.carries m → (s.calWatch line).carries m := by
  unfold State.calWatch
  dsimp only
  split
  · exact ⟨rfl, rfl, fun _ h => h⟩
  split
  · exact ⟨rfl, rfl, fun _ h => h⟩
  · exact ⟨rfl, rfl, fun _ h => h⟩

/-- What the answer to a line given back or written shows: it is sent, and the line's bytes stand as they were. -/
theorem State.lineDone_shows (m : Msg) : ((s.sendMsg m).calWatch line).ulk.dir = s.ulk.dir ∧
    ((s.sendMsg m).calWatch line).comp = s.comp ∧ ((s.sendMsg m).calWatch line).carries m := by
  obtain ⟨hdir, hcomp, hcarries⟩ := (s.sendMsg m).calWatch_shows line
  exact ⟨hdir.trans (s.sendMsg_dir m), hcomp.trans (s.sendMsg_comp m), hcarries m (s.sendMsg_carries m)⟩

end

/-! ### A line's bytes (R353, R354) -/

theorem Mem.read_congr {m n : Mem} (h : ∀ k, m.get k = n.get k) (a c : Nat) : m.read a c = n.read a c := by
  induction c generalizing a with
  | zero => rfl
  | succ c ih => rw [Mem.read, Mem.read, h, ih]

/-- A line written reads back, and no other byte changes. -/
theorem State.lpWrite_line_bytes (s : State) (req : Req) (line : Nat) {l : List Byte} (hl : l.length = 64) :
    (s.lpWrite req (64 * line) l).1.comp.lpddr.read (64 * line) 64 = l ∧
      ∀ k, k < 64 * line ∨ 64 * line + 64 ≤ k →
        (s.lpWrite req (64 * line) l).1.comp.lpddr.get k = s.comp.lpddr.get k := by
  obtain ⟨-, -, hlp⟩ := s.lpWrite_line req line hl
  rw [hlp]
  constructor
  · conv_lhs => rw [← hl]
    exact Mem.read_write _ l _
  · intro k hk
    obtain hk | hk := hk
    · exact Mem.get_write_below _ l hk
    · exact Mem.get_write_above _ l (by rw [hl]; exact hk)

theorem maskBytes_length (mask : Nat) (old new : List Byte) : (maskBytes mask old new).length = 64 := by
  simp [maskBytes]

section
variable {s : State} {tag line mask : Nat} {data : List Byte} {ups : List Upset}

/-- A masked write of a line that is sound, or of a whole line. -/
theorem State.writeLine_of_sound
    (h : mask = 2 ^ 64 - 1 ∨ (s.strikeLp (64 * line) 64 ups).comp.lpddr.isBad line = false) :
    (s.writeLine tag line mask data ups).carries { op := 0x23, tag := tag } ∧
      (s.writeLine tag line mask data ups).comp.lpddr.read (64 * line) 64 =
        maskBytes mask (s.comp.lpddr.read (64 * line) 64) (padTo 64 data) ∧
      ∀ k, k < 64 * line ∨ 64 * line + 64 ≤ k →
        (s.writeLine tag line mask data ups).comp.lpddr.get k = s.comp.lpddr.get k := by
  obtain ⟨-, -, hget⟩ := s.strikeLp_keeps_bytes (64 * line) 64 ups
  have hgo : ¬ (mask ≠ 2 ^ 64 - 1 ∧ (s.strikeLp (64 * line) 64 ups).comp.lpddr.isBad line = true) := by
    rintro ⟨hmask, hbad⟩
    exact h.elim hmask fun hb => Bool.false_ne_true (hb.symm.trans hbad)
  obtain ⟨hself, hother⟩ := (s.strikeLp (64 * line) 64 ups).lpWrite_line_bytes .companion line
    (maskBytes_length mask ((s.strikeLp (64 * line) 64 ups).comp.lpddr.read (64 * line) 64) (padTo 64 data))
  unfold State.writeLine
  dsimp only
  rw [if_neg hgo]
  obtain ⟨-, hcomp, hcarries⟩ := State.lineDone_shows ((s.strikeLp (64 * line) 64 ups).lpWrite .companion (64 * line)
    (maskBytes mask ((s.strikeLp (64 * line) 64 ups).comp.lpddr.read (64 * line) 64) (padTo 64 data))).1 line
    { op := 0x23, tag := tag }
  rw [hcomp, ← Mem.read_congr hget]
  exact ⟨hcarries, hself, fun k hk => (hother k hk).trans (hget k)⟩

/-- A part of an uncorrectable line is not written. -/
theorem State.writeLine_of_bad (hmask : mask ≠ 2 ^ 64 - 1)
    (h : (s.strikeLp (64 * line) 64 ups).comp.lpddr.isBad line = true) :
    (s.writeLine tag line mask data ups).carries { op := 0x24, tag := tag, reason := 3 } ∧
      ∀ k, (s.writeLine tag line mask data ups).comp.lpddr.get k = s.comp.lpddr.get k := by
  obtain ⟨-, -, hget⟩ := s.strikeLp_keeps_bytes (64 * line) 64 ups
  obtain ⟨-, -, hlp⟩ := (s.strikeLp (64 * line) 64 ups).reportUncorr_accounts .companion line
  unfold State.writeLine
  dsimp only
  rw [if_pos ⟨hmask, h⟩]
  obtain ⟨hcarries, -, hcomp, -⟩ :=
    ((s.strikeLp (64 * line) 64 ups).reportUncorr .companion line).errMsg_shows tag 3
  exact ⟨hcarries, fun k => by rw [hcomp, hlp, hget]⟩

end

/-- Settles O42, along the door of a request, the directory's room, and what the line's check bits say. -/
theorem companionLines : Obligations.CompanionLines := by
  unfold Obligations.CompanionLines
  refine ⟨fun s tag line ups own hserves => ?cached, fun s tag line ups mask data i hup hi => ⟨fun hrec hend => ?outside,
      fun hrec hlow => ?recovering⟩,
    fun s tag line ups hserves => ⟨fun l h => ⟨_, execRdNc_of_serves hserves, State.readLine_of_read h⟩,
      fun h => ⟨_, execRdNc_of_serves hserves, State.readLine_of_unread h⟩⟩,
    fun s tag line hserves => ?evict, fun s tag line data hserves => ?back,
    fun s tag line mask data ups hserves => ⟨fun h => ⟨_, execWrNc_of_serves hserves, State.writeLine_of_sound h⟩,
      fun hmask h => ⟨_, execWrNc_of_serves hserves, State.writeLine_of_bad hmask h⟩⟩⟩
  case cached =>
    intro i r
    have hi : exec i s = .next (s.readCached tag.toNat line.toNat own ups) := by
      cases own <;> rfl
    refine ⟨fun hwin hsnoop hroom => ?grant, fun hwin hsnoop => ?waits, fun v hwin hsnoop hdir hfull hold => ?recalls,
      fun hwin => ?uncached⟩
    case grant =>
      have hgrant := hi.trans (congrArg Host.Outcome.next ((State.readCached_of_window hserves hwin).trans
        (State.serveGrant_of_room (g := ⟨line.toNat, tag.toNat, own⟩) hsnoop hroom)))
      exact ⟨fun l h => ⟨_, hgrant, State.grantLine_of_read h⟩, fun h => ⟨_, hgrant, State.grantLine_of_unread h⟩⟩
    case waits =>
      exact hi.trans (congrArg Host.Outcome.next ((State.readCached_of_window hserves hwin).trans
        (State.serveGrant_of_snoop hsnoop)))
    case recalls =>
      exact hi.trans (congrArg Host.Outcome.next ((State.readCached_of_window hserves hwin).trans
        (State.serveGrant_of_full hsnoop hdir hfull hold)))
    case uncached =>
      obtain ⟨hcarries, hdir, hcomp, hcount⟩ := s.errMsg_shows tag.toNat 2
      exact ⟨_, hi.trans (congrArg Host.Outcome.next (State.readCached_of_outside hserves hwin)), hcarries, hcount,
        hdir, hcomp⟩
  case outside =>
    obtain ⟨k, hk⟩ := exec_lineReq hi fun h => absurd (hrec.symm.trans h) Bool.false_ne_true
    obtain ⟨hcarries, -, hcomp, -⟩ := s.errMsg_shows tag.toNat 1
    exact ⟨_, hk.trans (congrArg Host.Outcome.next (State.lineReq_of_outside hup hrec hend)), hcarries, hcomp⟩
  case recovering =>
    obtain ⟨k, hk⟩ := exec_lineReq hi fun _ => hlow
    obtain ⟨hcarries, -, hcomp, -⟩ := s.errMsg_shows tag.toNat 5
    exact ⟨_, hk.trans (congrArg Host.Outcome.next (State.lineReq_of_recovering hup hrec)), hcarries, hcomp⟩
  case evict =>
    refine ⟨_, congrArg Host.Outcome.next (State.lineReq_of_serves hserves), ?gone, fun n hn => ?others,
      State.sendMsg_carries _ _, ?mem, fun x hx => ?taken⟩
    case gone => rw [State.sendMsg_dir, State.crossed_dir, Tbl.look_del_self]
    case others => rw [State.sendMsg_dir, State.crossed_dir, Tbl.look_del_ne _ hn]
    case mem => rw [State.sendMsg_comp, State.crossed_comp]
    case taken => rw [State.sendMsg_snoops, State.crossed_snoop s line.toNat hx]
  case back =>
    obtain ⟨hself, hother⟩ := s.lpWrite_line_bytes .companion line.toNat (padTo_length 64 data)
    obtain ⟨hdir, hcomp, hcarries⟩ := State.lineDone_shows
      ((s.lpWrite .companion (64 * line.toNat) (padTo 64 data)).1.crossed line.toNat) line.toNat
      { op := 0x23, tag := tag.toNat }
    refine ⟨_, congrArg Host.Outcome.next (State.lineReq_of_serves hserves), ?gone, hcarries, ?bytes, ?others⟩
    case gone => rw [hdir, State.crossed_dir, Tbl.look_del_self]
    case bytes => rw [hcomp, State.crossed_comp]; exact hself
    case others => rw [hcomp, State.crossed_comp]; exact hother

end Sys2Proof.Machine
end

section
/-! SUPPORT. Boot, phase by phase (15_boot_cutting_list.md, 18_firmware_identity.md, R417, R424, R438, R446-R453, R511):
what each of its steps shows, and the statement about them. -/
namespace Sys2Proof.Machine
open Sys2Proof

/-! ### What an event leaves of the package's own state -/

section
variable (s : State)

/-- An event of any severity changes of the package's own state at most the mark of a FATAL one. -/
theorem State.logEvent_sys_fatal (c v u : Nat) (d : List Byte) (b : Bool) :
    ∃ x, (s.logEvent c v u d b).sys = { s.sys with fatal := x } := by
  by_cases hv : v = 3
  · subst hv
    have hstaged (x : List Byte) : ((s.numbered 3).place (s.newRecord c 3 u x)).stageFill.sys =
        { s.sys with fatal := true } := by
      rw [State.stageFill, State.wr_sys, State.place_sys]
      rfl
    have hnew (x : List Byte) : (s.stageNew c 3 u x b).sys = { s.sys with fatal := true } := by
      unfold State.stageNew
      split <;> exact hstaged x
    unfold State.logEvent
    dsimp only
    rw [if_neg (fun h => absurd h.1 (by decide))]
    split
    · split
      · exact ⟨s.sys.fatal, rfl⟩
      · exact ⟨true, hnew _⟩
    · exact ⟨true, hnew _⟩
  · exact ⟨s.sys.fatal, State.logEvent_sys s c v u d b hv⟩

theorem State.raise_sys_fatal (f : Field) (v : Nat) (d : List Byte) :
    ∃ x, (s.raise f v d).sys = { s.sys with fatal := x } := by
  obtain ⟨x, hx⟩ := (s.setFlag f).logEvent_sys_fatal (blockOf f.off * 1024 + f.lo) v (blockOf f.off * 2 ^ 26 + f.off)
    d false
  exact ⟨x, hx.trans (by rw [State.setFlag_sys])⟩

theorem State.raise_boot (f : Field) (v : Nat) (d : List Byte) : (s.raise f v d).sys.boot = s.sys.boot := by
  obtain ⟨x, hx⟩ := s.raise_sys_fatal f v d
  rw [hx]

theorem State.raise_power (f : Field) (v : Nat) (d : List Byte) : (s.raise f v d).sys.power = s.sys.power := by
  obtain ⟨x, hx⟩ := s.raise_sys_fatal f v d
  rw [hx]

/-- A boot event's flag reads 1, whatever its severity. -/
theorem State.raise_on {f : Field} (v : Nat) (d : List Byte) (hw : f.width = 1) (hl : f.lo ≠ 24)
    (hf : f.key ∉ recorderFields.map Field.key) : (s.raise f v d).on f = true := by
  rw [State.on, State.raise_rd_self s v d hw hl hf]
  rfl

/-! ### Where boot stands (R450, R453) -/

theorem State.stick_shows {reason : Nat} (h : reason < 16) : (s.stick reason).phase = phStuck ∧
    (s.stick reason).rd BOOT.STATUS.STUCK = reason ∧ (s.stick reason).on BOOT.EVENT.STUCK = true := by
  have hregs := State.raise_regsButEvent ((s.setPhase phStuck).wr BOOT.STATUS.STUCK reason) BOOT.EVENT.STUCK sevFatal
    (leBytes 4 reason)
  refine ⟨?phase, ?why, State.raise_on _ _ _ rfl (by decide) (by decide)⟩
  case phase =>
    refine (State.regsBut_rd hregs rfl).trans ((State.rd_wr_ne _ _ (Field.key_ne_of_apart rfl)).trans ?_)
    exact State.setPhase_phase s (by decide)
  case why => exact (State.regsBut_rd hregs rfl).trans ((State.rd_wr_self _ _ _).trans (Nat.mod_eq_of_lt h))

theorem State.position_congr {s t : State} (h : t.rd BOOT.CHAIN.POSITION = s.rd BOOT.CHAIN.POSITION) :
    t.position = s.position := by
  rw [State.position, State.position, h]

theorem State.bootPhase_frame : s.bootPhase = { s with regs := s.bootPhase.regs } := by
  unfold State.bootPhase
  split
  · rfl
  · split <;> rfl

/-- The position and NVM decide where boot goes on. -/
theorem State.bootPhase_phase : s.bootPhase.phase =
    if s.position = none then phChain else if s.sys.boot.nvmOk then phCutlist else phNvm := by
  cases h : s.position with
  | none => exact (congrArg State.phase (if_pos (by rw [h]; rfl))).trans (State.setPhase_phase s (by decide))
  | some p =>
    rw [State.bootPhase_of_placed h, State.setPhase_phase s (by split <;> decide)]
    rfl

/-- The boot's record as boot from PHASE 2 leaves it. -/
def State.bootAgain (s : State) : Boot :=
  { s.sys.boot with nvmOk := false, clBad := none, fwBad := none, list := [], nvmFrom := s.now }

/-- Boot from PHASE 2 counted, before its phase is found. -/
def State.bootBegun (s : State) : State := ((s.bump BOOT.COUNTS.BOOTS).wr BOOT.STATUS.STUCK 0).setBoot s.bootAgain

theorem State.bootFrom2_eq : s.bootFrom2 = s.bootBegun.bootPhase := rfl

theorem State.bootFrom2_shows : s.bootFrom2.position = s.position ∧
    s.bootFrom2.phase = (if s.position = none then phChain else phNvm) ∧
    s.bootFrom2.rd BOOT.COUNTS.BOOTS = (s.rd BOOT.COUNTS.BOOTS + 1) % 2 ^ 8 ∧
    s.bootFrom2 = { s with regs := s.bootFrom2.regs, sys := { s.sys with boot := s.bootAgain } } := by
  have hpos : s.bootBegun.position = s.position := State.position_congr (by
    rw [State.bootBegun, State.setBoot_rd, State.rd_wr_ne _ _ (Field.key_ne_of_apart rfl),
      State.rd_bump_ne _ (Field.key_ne_of_apart rfl)])
  have hcount : s.bootBegun.rd BOOT.COUNTS.BOOTS = (s.rd BOOT.COUNTS.BOOTS + 1) % 2 ^ 8 := by
    rw [State.bootBegun, State.setBoot_rd, State.rd_wr_ne _ _ (Field.key_ne_of_apart rfl)]
    exact State.rd_bump_self s BOOT.COUNTS.BOOTS
  rw [State.bootFrom2_eq]
  refine ⟨?position, ?phase, ?count, s.bootBegun.bootPhase_frame⟩
  case position => exact (State.position_congr (State.regsBut_rd s.bootBegun.bootPhase_regsBut rfl)).trans hpos
  case phase => rw [State.bootPhase_phase, hpos]; rfl
  case count => exact (State.regsBut_rd s.bootBegun.bootPhase_regsBut rfl).trans hcount

/-- Boot from PHASE 2 keeps everything but the registers and the boot's record. -/
theorem State.bootFrom2_keeps : s.bootFrom2.sys.vaux = s.sys.vaux ∧ s.bootFrom2.sys.reset = s.sys.reset ∧
    s.bootFrom2.sys.nvm = s.sys.nvm ∧ s.bootFrom2.log = s.log ∧ s.bootFrom2.patch = s.patch ∧
    s.bootFrom2.pending = s.pending := by
  obtain ⟨-, -, -, hframe⟩ := s.bootFrom2_shows
  exact ⟨(congrArg (fun t : State => t.sys.vaux) hframe :), (congrArg (fun t : State => t.sys.reset) hframe :),
    (congrArg (fun t : State => t.sys.nvm) hframe :), (congrArg State.log hframe :), (congrArg State.patch hframe :),
    (congrArg State.pending hframe :)⟩

/-- The log and the patch map shown are registers written. -/
theorem State.shown_keeps (full : Bool) : (s.showLog.showPatch full).sys = s.sys ∧
    (s.showLog.showPatch full).log = s.log ∧ (s.showLog.showPatch full).patch = s.patch ∧
    (s.showLog.showPatch full).pending = s.pending := by
  simp [State.showLog, State.showPatch, State.stageFill]

end

/-! ### COLD (R430, R454, R457) -/

/-- The fields that a cold start writes before it finds a position. -/
def strapFields : List Field :=
  fusedFields ++ [BOOT.STRAPS.CHAIN_HEAD, BOOT.STRAPS.BENCH_ID, HLT.OPTIME.MINUTES, HLT.PWR_CYC.COUNT,
    BOOT.STATUS.CAUSE, PWR.STATE.RAIL_GOOD]

/-- The head of the chain takes position 0. -/
theorem State.headPlaced_shows (t : State) (head : Bool) :
    let u := if head then t.wr BOOT.CHAIN.POSITION 0 else t
    u = { t with regs := u.regs } ∧ t.regsBut u [BOOT.CHAIN.POSITION] ∧
      u.position = (if head then some 0 else t.position) := by
  cases head with
  | true => exact ⟨rfl, State.regsBut_wr t _ (by simp), State.position_wr t (by decide)⟩
  | false => exact ⟨rfl, State.regsBut_refl t _, rfl⟩

theorem bit_mod_two (b : Bool) : bit b % 2 ^ 1 = bit b := by cases b <;> rfl

/-- A cold start begins boot from a state with the straps read, the fuses and NVM as they were, and nothing else. -/
theorem State.coldStart_begun (s : State) (head : Bool) (bench cause : Nat) (power : Bool) : ∃ v : State,
    s.coldStart head bench cause power = (v.showLog.showPatch false).bootFrom2 ∧ v.pending = s.pending ∧
      v.sys.vaux = true ∧ v.sys.reset = none ∧ v.sys.nvm = s.sys.nvm ∧ v.log.nvm = s.log.nvm ∧ v.log.staging = [] ∧
      v.patch.entries = s.patch.entries ∧ v.rd BOOT.STRAPS.CHAIN_HEAD = bit head ∧
      v.rd BOOT.STRAPS.BENCH_ID = bench % 2 ^ 5 ∧ v.position = (if head then some 0 else none) ∧
      v.rd BOOT.COUNTS.BOOTS = 0 ∧ v.pwState = pwBoot := by
  unfold State.coldStart
  extract_lets old c vaux log boot r0 t0 rails t1 t2 t3 t4
  have hstraps : State.reset.regsBut t3 strapFields :=
    State.regsBut_thenWr (by decide) (State.regsBut_thenWr (by decide) (State.regsBut_thenWr (by decide)
      (State.regsBut_thenWr (by decide) (State.regsBut_thenWr (by decide) (State.regsBut_thenWrB (by decide)
        (State.regsBut_trans (State.regsBut_of_regs rfl _) (State.regsBut_mono t0.fused_regsBut (by decide))))))))
  obtain ⟨hframe, hplaced, hpos⟩ : t4 = { t3 with regs := t4.regs } ∧ t3.regsBut t4 [BOOT.CHAIN.POSITION] ∧
      t4.position = (if head then some 0 else t3.position) := t3.headPlaced_shows head
  have hhead : t3.rd BOOT.STRAPS.CHAIN_HEAD = bit head := by
    unfold t3 t2 t1
    rw [State.rd_wr_ne _ _ (Field.key_ne_of_apart rfl), State.rd_wr_ne _ _ (Field.key_ne_of_apart rfl),
      State.rd_wr_ne _ _ (Field.key_ne_of_apart rfl), State.rd_wr_ne _ _ (Field.key_ne_of_apart rfl),
      State.rd_wr_ne _ _ (Field.key_ne_of_apart rfl), State.rd_wrB_self]
    exact bit_mod_two head
  have hbench : t3.rd BOOT.STRAPS.BENCH_ID = bench % 2 ^ 5 := by
    unfold t3 t2 t1
    rw [State.rd_wr_ne _ _ (Field.key_ne_of_apart rfl), State.rd_wr_ne _ _ (Field.key_ne_of_apart rfl),
      State.rd_wr_ne _ _ (Field.key_ne_of_apart rfl), State.rd_wr_ne _ _ (Field.key_ne_of_apart rfl), State.rd_wr_self]
    rfl
  have hposition : t4.position = if head then some 0 else none :=
    hpos.trans (by rw [State.position_congr (State.regsBut_rd hstraps rfl)]; rfl)
  refine ⟨t4, rfl, ?_, ?_, ?_, ?_, ?_, ?_, ?_, (State.regsBut_rd hplaced rfl).trans hhead,
    (State.regsBut_rd hplaced rfl).trans hbench, hposition, ?boots, ?power⟩
  case boots => exact (State.regsBut_rd hplaced rfl).trans (State.regsBut_rd hstraps rfl)
  case power => exact (State.regsBut_rd hplaced rfl).trans (State.regsBut_rd hstraps rfl)
  all_goals rw [hframe]; rfl

/-- What a cold start shows of the straps, the position and the boot that begins. -/
theorem State.coldStart_shows (s : State) (head : Bool) (bench cause : Nat) (power : Bool) :
    let t := s.coldStart head bench cause power
    (t.sys.vaux = true ∧ t.sys.reset = none ∧ t.pwState = pwBoot ∧ t.phase = (if head then phNvm else phChain) ∧
      t.position = (if head then some 0 else none) ∧ t.on BOOT.STRAPS.CHAIN_HEAD = head ∧
      t.rd BOOT.STRAPS.BENCH_ID = bench % 2 ^ 5 ∧ t.rd BOOT.COUNTS.BOOTS = 1) ∧
    t.sys.nvm = s.sys.nvm ∧ t.log.nvm = s.log.nvm ∧ t.log.staging = [] ∧ t.patch.entries = s.patch.entries ∧
      t.pending = s.pending := by
  obtain ⟨v, hv, hpending, hvaux, hreset, hnvm, hlog, hstaging, hpatch, hhead, hbench, hpos, hboots, hpower⟩ :=
    s.coldStart_begun head bench cause power
  have hshown : v.regsBut (v.showLog.showPatch false) (logFields ++ patchFields) :=
    State.regsBut_trans (State.regsBut_mono v.showLog_regsBut (by decide))
      (State.regsBut_mono (State.showPatch_regsBut _ false) (by decide))
  have hshowpos : (v.showLog.showPatch false).position = if head then some 0 else none :=
    (State.position_congr (State.regsBut_rd hshown rfl)).trans hpos
  obtain ⟨hposition, hphase, hcount, -⟩ := (v.showLog.showPatch false).bootFrom2_shows
  obtain ⟨kvaux, kreset, knvm, klog, kpatch, kpending⟩ := (v.showLog.showPatch false).bootFrom2_keeps
  have hregs : v.regsBut (v.showLog.showPatch false).bootFrom2 (logFields ++ patchFields ++ bootFields) :=
    State.regsBut_trans (State.regsBut_mono hshown (by decide))
      (State.regsBut_mono (State.bootFrom2_regsBut _) (by decide))
  obtain ⟨ssys, slog, spatch, spending⟩ := v.shown_keeps false
  intro t
  have ht : t = (v.showLog.showPatch false).bootFrom2 := hv
  clear_value t
  subst ht
  generalize v.showLog.showPatch false = w at *
  rw [ssys] at kvaux kreset knvm
  rw [slog] at klog
  rw [spatch] at kpatch
  rw [spending] at kpending
  refine ⟨⟨kvaux.trans hvaux, kreset.trans hreset, (State.regsBut_rd hregs rfl).trans hpower, ?phase,
    hposition.trans hshowpos, ?head, (State.regsBut_rd hregs rfl).trans hbench, ?boots⟩, knvm.trans hnvm,
    (congrArg Recorder.nvm klog).trans hlog, (congrArg Recorder.staging klog).trans hstaging,
    (congrArg PatchMap.entries kpatch).trans hpatch, kpending.trans hpending⟩
  case phase => rw [hphase, hshowpos]; cases head <;> rfl
  case head => rw [State.on, State.regsBut_rd hregs rfl, hhead]; cases head <;> rfl
  case boots => rw [hcount, State.regsBut_rd hshown rfl, hboots]; rfl

/-! ### Power (R417, R424) -/

section
variable {s : State}

theorem execVauxPowerOn_of_off {head : Bool} {b : BitVec 5} {x : NvmSlots} (h : s.sys.vaux = false) :
    execVauxPowerOn head b (some x) s = .next
      ((s.setNvm { s.sys.nvm with fw0 := x.fw0, fw1 := x.fw1, cl0 := x.cl0, cl1 := x.cl1 }).coldStart head b.toNat
        (if s.log.cycles = 0 ∨ s.sys.reset ≠ some 4 then 0 else 1) false) :=
  if_neg (by rw [h]; exact Bool.false_ne_true)

theorem execVauxLow_of_on {t : Nat} (h : s.sys.vaux = true) : execVauxLow t s = .next
    { s.advance t with sys := { s.sys with vaux := false, reset := some 4, mc0 := false } } :=
  if_neg (not_not_intro h)

theorem State.recoverLink_boot (s : State) : s.recoverLink.sys.boot = s.sys.boot := by
  unfold State.recoverLink
  split <;> rfl

theorem State.chainPath_boot (s : State) : s.chainPath.sys.boot = s.sys.boot := by
  unfold State.chainPath
  dsimp only
  split
  · rfl
  · exact List.foldlRecOn (motive := fun t : State => t.sys.boot = s.sys.boot) _ _ rfl fun t ht _ _ => ht

theorem State.recoverBegin_boot (s : State) : s.recoverBegin.sys.boot = s.sys.boot :=
  (State.chainPath_boot _).trans (State.recoverLink_boot _)

/-- Leaving DARK does not move PKG_RESET_N. -/
theorem State.leaveDark_rstLow (s : State) (held : Bool) :
    (s.leaveDark held).sys.boot.rstLow = s.sys.boot.rstLow := by
  unfold State.leaveDark
  extract_lets s0 s1 s2 s3 why s4
  have h1 : s1.sys.boot.rstLow = s.sys.boot.rstLow := by
    unfold s1
    split <;> rfl
  split
  · split
    · rw [State.recoverBegin_boot]; exact h1
    · exact h1
  · exact (congrArg (fun t : State => t.sys.boot.rstLow) (State.bootPhase_frame _)).trans h1

/-- A rising PWR_OK, with the DARK state left if the package was in it. -/
def State.powered (s : State) (held : Bool) (t : Nat) : State :=
  let v := (s.advance t).setBoot { s.sys.boot with pwrOk := true }
  if s.pwState = pwDark then v.leaveDark held else v

theorem execPwrOkRise_of_low {rails : BitVec 20} {held : Bool} {t : Nat} (hvaux : s.sys.vaux = true)
    (h : s.sys.boot.pwrOk = false) : execPwrOkRise rails held t s =
      if (s.powered held t).sys.boot.rstLow then
        .next ((s.powered held t).setBoot { (s.powered held t).sys.boot with waits := true })
      else .next ((s.powered held t).checkRails rails.toNat) := by
  refine if_neg ?_
  rintro (hn | hn)
  · exact hn hvaux
  · exact Bool.false_ne_true (h.symm.trans hn)

/-- The rails in range: a boot that waits for them goes on. -/
theorem State.checkRails_of_good {rails : Nat} (h : railsGood rails = true) (hboot : s.booting = true)
    (hphase : s.phase = phWaitPwr) :
    (s.checkRails rails).phase = phBringup ∧ (s.checkRails rails).sys.boot.good = true := by
  let v := (s.wr PWR.STATE.RAIL_GOOD rails).setBoot { s.sys.boot with good := true, waits := false }
  have hpower : (s.wr PWR.STATE.RAIL_GOOD rails).rd PWR.STATE.STATE = s.rd PWR.STATE.STATE :=
    State.rd_wr_ne _ _ (Field.key_ne_of_apart rfl)
  have hboot' : v.booting = true := by
    rw [State.booting, show v.rd PWR.STATE.STATE = s.rd PWR.STATE.STATE from hpower]
    exact hboot
  have hphase' : v.phase = phWaitPwr := (State.rd_wr_ne _ _ (Field.key_ne_of_apart rfl)).trans hphase
  have ht : s.checkRails rails = v.enterBringup := (if_pos h).trans (if_pos ⟨hboot', hphase'⟩)
  rw [ht]
  exact ⟨State.setPhase_phase _ (by decide), rfl⟩

theorem State.checkRails_of_bad {rails : Nat} (h : railsGood rails = false) :
    (s.checkRails rails).sys.power.seqErr = true ∧ (s.checkRails rails).on PWR.EVENT.SEQ_ERR = true ∧
      (s.checkRails rails).phase = s.phase := by
  let v := State.setPower ((s.wr PWR.STATE.RAIL_GOOD rails).setBoot { s.sys.boot with good := false, waits := false })
    { s.sys.power with seqErr := true }
  have ht : s.checkRails rails = v.raise PWR.EVENT.SEQ_ERR sevFatal :=
    if_neg (by rw [h]; exact Bool.false_ne_true)
  rw [ht]
  refine ⟨by rw [State.raise_power]; rfl, State.raise_on _ _ _ rfl (by decide) (by decide), ?phase⟩
  case phase =>
    refine (State.regsBut_rd (State.raise_regsButEvent v _ _ _) rfl).trans ?_
    exact State.rd_wr_ne _ _ (Field.key_ne_of_apart rfl)

/-- PKG_RESET_N released, which ends a WARM that it held. -/
def State.released (s : State) (t : Nat) : State :=
  let v := (s.advance t).setBoot { s.sys.boot with rstLow := false }
  if v.sys.reset = some 1 then { v with sys := { v.sys with reset := none } } else v

theorem State.released_shows (s : State) (t : Nat) : (s.released t).sys.boot = { s.sys.boot with rstLow := false } ∧
    (s.released t).sys.reset = (if s.sys.reset = some 1 then none else s.sys.reset) ∧ (s.released t).regs = s.regs := by
  by_cases h : s.sys.reset = some 1
  · rw [show s.released t = _ from if_pos h, if_pos h]
    exact ⟨rfl, rfl, rfl⟩
  · rw [show s.released t = _ from if_neg h, if_neg h]
    exact ⟨rfl, rfl, rfl⟩

theorem execPkgResetNRelease_of_low {rails : BitVec 20} {t : Nat} (hvaux : s.sys.vaux = true)
    (hlow : s.sys.boot.rstLow = true) (hwaits : s.sys.boot.waits = false) (hgood : s.sys.boot.good = false) :
    execPkgResetNRelease rails t s = .next (s.released t) := by
  obtain ⟨hboot, -, -⟩ := s.released_shows t
  have hgo : ¬ (¬ s.sys.vaux = true ∨ ¬ s.sys.boot.rstLow = true) := by
    rw [hvaux, hlow]; decide
  have hstay : ¬ (s.released t).sys.boot.waits = true := by
    rw [hboot]; exact fun h => Bool.false_ne_true (hwaits.symm.trans h)
  have hdark : ¬ ((s.released t).sys.boot.good = true ∧ (s.released t).booting = true ∧
      (s.released t).phase = phWaitPwr) := by
    rw [hboot]; exact fun h => Bool.false_ne_true (hgood.symm.trans h.1)
  exact (if_neg hgo).trans ((if_neg hstay).trans (if_neg hdark))

/-- PHASE 5 as it begins. -/
def State.waiting (s : State) : State :=
  (s.wrSat BOOT.TIMES.NVM_MS (spanMs s.sys.boot.nvmFrom s.now)).setPhase phWaitPwr

/-- Boot waits for power, or finds it. -/
theorem State.enterWaitPwr_shows (s : State) :
    (s.sys.boot.good = true → s.sys.boot.rstLow = false → s.enterWaitPwr.phase = phBringup) ∧
      (s.sys.boot.good = false → s.enterWaitPwr.phase = phWaitPwr) := by
  constructor
  · intro hgood hlow
    have ht : s.enterWaitPwr = s.waiting.enterBringup :=
      if_pos ⟨hgood, fun h => Bool.false_ne_true (hlow.symm.trans h)⟩
    rw [ht]
    exact State.setPhase_phase _ (by decide)
  · intro hgood
    have ht : s.enterWaitPwr = s.waiting := if_neg fun h => Bool.false_ne_true (hgood.symm.trans h.1)
    rw [ht]
    exact State.setPhase_phase _ (by decide)

end

/-! ### NVM, the position and the cutting list (R438, R446-R448, R453) -/

section
variable {s : State} {t : Nat}

theorem execNvmDiscovery_of_waiting {r d o : Bool} {mbit : Nat} (hboot : s.booting = true)
    (hnvm : s.sys.boot.nvmOk = false) (hphase : s.phase = phChain ∨ s.phase = phNvm) :
    execNvmDiscovery r d o mbit t s =
      if r = true ∧ d = true ∧ 512 ≤ mbit then .next
        (State.bootPhase (State.wrB ((s.advance t).setBoot { s.sys.boot with nvmOk := true }) BOOT.STATUS.NVM_OCTAL o))
      else .next ((s.advance t).stick 2) := by
  let v := State.wrB ((s.advance t).setBoot { s.sys.boot with nvmOk := true }) BOOT.STATUS.NVM_OCTAL o
  have hv : v.phase ≠ phStuck := by
    have hkeep : v.phase = s.phase := State.rd_wr_ne _ _ (Field.key_ne_of_apart rfl)
    rw [hkeep]
    rcases hphase with h | h <;> rw [h] <;> decide
  have hwait : ¬ (¬ s.booting = true ∨ ¬ (s.phase = phChain ∨ s.phase = phNvm ∨
      (s.phase = phStuck ∧ s.rd BOOT.STATUS.STUCK = 1)) ∨ s.sys.boot.nvmOk = true) := by
    rintro (hn | hn | hn)
    · exact hn hboot
    · exact hn (hphase.imp_right .inl)
    · exact Bool.false_ne_true (hnvm.symm.trans hn)
  refine (if_neg hwait).trans ?_
  by_cases hok : r = true ∧ d = true ∧ 512 ≤ mbit
  · exact (if_pos hok).trans ((congrArg Host.Outcome.next (if_neg hv)).trans (if_pos hok).symm)
  · exact (if_neg hok).trans (if_neg hok).symm

/-- A sound device found: its way of access is shown, and boot goes on where the position lets it. -/
theorem State.nvmFound_shows (s : State) (o : Bool) :
    let u := State.bootPhase (State.wrB (s.setBoot { s.sys.boot with nvmOk := true }) BOOT.STATUS.NVM_OCTAL o)
    u.sys.boot.nvmOk = true ∧ u.on BOOT.STATUS.NVM_OCTAL = o ∧
      u.phase = (if s.position = none then phChain else phCutlist) := by
  have hpos : (State.wrB (s.setBoot { s.sys.boot with nvmOk := true }) BOOT.STATUS.NVM_OCTAL o).position = s.position :=
    State.position_congr (State.rd_wr_ne _ _ (Field.key_ne_of_apart rfl))
  have hoctal : (State.wrB (s.setBoot { s.sys.boot with nvmOk := true }) BOOT.STATUS.NVM_OCTAL o).rd
      BOOT.STATUS.NVM_OCTAL = bit o := (State.rd_wrB_self _ _ _).trans (bit_mod_two o)
  refine ⟨?ok, ?octal, ?phase⟩
  case ok => rw [State.bootPhase_frame]; rfl
  case octal =>
    rw [State.on, State.regsBut_rd (State.bootPhase_regsBut _) rfl, hoctal]
    cases o <;> rfl
  case phase => rw [State.bootPhase_phase, hpos]; rfl

theorem execPositionTimeout_of_unplaced (hboot : s.booting = true) (hphase : s.phase = phChain)
    (hpos : s.position = none) (h : s.sys.boot.strapAt + Config.ns 2000000000 ≤ t) :
    execPositionTimeout t s = .next ((s.advance t).stick 1) :=
  if_pos ⟨hboot, hphase, by rw [show (s.advance t).position = none from hpos]; rfl, h.trans (Nat.le_max_right _ _)⟩

theorem execCutlistRead_of_phase (hboot : s.booting = true) (hphase : s.phase = phCutlist) :
    execCutlistRead t s =
      if (s.advance t).clValid (s.sys.nvm.cl s.clNext) = true then .next ((s.advance t).clAccept s.clNext)
      else if s.sys.boot.clBad.isSome = true then .next ((s.advance t).stick 3)
      else .next (State.raise (State.bump ((s.advance t).setBoot { s.sys.boot with clBad := some s.clNext })
        BOOT.COUNTS.CL_FALLBACK) BOOT.EVENT.CL_FALLBACK sevWarning) := by
  refine if_neg ?_
  rintro (hn | hn)
  · exact hn hboot
  · exact hn hphase

/-- A first list that is not valid: the other slot is read next. -/
theorem State.clFallback_shows (s : State) (i : Nat) :
    let u := State.raise (State.bump (s.setBoot { s.sys.boot with clBad := some i }) BOOT.COUNTS.CL_FALLBACK)
      BOOT.EVENT.CL_FALLBACK sevWarning
    u.sys.boot.clBad = some i ∧ u.on BOOT.EVENT.CL_FALLBACK = true ∧ u.phase = s.phase ∧ u.clNext = 1 - i := by
  have hbad : (State.raise (State.bump (s.setBoot { s.sys.boot with clBad := some i }) BOOT.COUNTS.CL_FALLBACK)
      BOOT.EVENT.CL_FALLBACK sevWarning).sys.boot.clBad = some i := by
    rw [State.raise_boot]; rfl
  refine ⟨hbad, State.raise_on _ _ _ rfl (by decide) (by decide), ?phase, by unfold State.clNext; rw [hbad]⟩
  case phase =>
    refine (State.regsBut_rd (State.raise_regsButEvent _ _ _ _) rfl).trans ?_
    exact State.rd_bump_ne _ (Field.key_ne_of_apart rfl)

/-! ### Firmware (R511) -/

/-- The log's record of a firmware slot that fails check `c`. -/
def State.fwLogged (s : State) (i c : Nat) : State :=
  s.logOpen 24 6 sevWarning BOOT.STATUS.base (leBytes 1 i ++ leBytes 1 c)

theorem State.fwLogged_sys (s : State) (i c : Nat) : (s.fwLogged i c).sys = s.sys :=
  State.logEvent_sys s _ _ _ _ _ (by decide)

theorem State.fwLogged_phase (s : State) (i c : Nat) : (s.fwLogged i c).phase = s.phase :=
  State.logEvent_rd s _ _ _ _ _ (by decide)

theorem execFirmwareVerify_of_sound (hboot : s.booting = true) (hphase : s.phase = phFirmware)
    (h : fwCheck (s.sys.nvm.fw s.fwNext) = 0) : execFirmwareVerify t s = .next (State.enterWaitPwr
      (match s.sys.boot.fwBad with
        | some (b, _) => ((s.advance t).wr BOOT.STATUS.FW_SLOT s.fwNext).patchNote 12 1 b s.fwNext
        | none => (s.advance t).wr BOOT.STATUS.FW_SLOT s.fwNext)) := by
  have hgo : ¬ (¬ s.booting = true ∨ s.phase ≠ phFirmware) := not_or.2 ⟨not_not_intro hboot, not_not_intro hphase⟩
  exact (if_neg hgo).trans (if_pos h)

theorem execFirmwareVerify_of_failed (hboot : s.booting = true) (hphase : s.phase = phFirmware)
    (h : fwCheck (s.sys.nvm.fw s.fwNext) ≠ 0) :
    let v := (s.advance t).fwLogged s.fwNext (fwCheck (s.sys.nvm.fw s.fwNext))
    execFirmwareVerify t s = if v.sys.boot.fwBad.isSome = true then .next v.recover
      else .next (v.setBoot { v.sys.boot with
        fwBad := some (s.fwNext, fwCheck (s.sys.nvm.fw s.fwNext)), erase := some s.fwNext }) := by
  have hgo : ¬ (¬ s.booting = true ∨ s.phase ≠ phFirmware) := not_or.2 ⟨not_not_intro hboot, not_not_intro hphase⟩
  exact (if_neg hgo).trans (if_neg h)

/-- A first slot that fails: it is to be erased, and the other is read next. -/
theorem State.fwFallback_shows (s : State) (i c : Nat) :
    let v := s.fwLogged i c
    let u := v.setBoot { v.sys.boot with fwBad := some (i, c), erase := some i }
    u.sys.boot.fwBad = some (i, c) ∧ u.sys.boot.erase = some i ∧ u.phase = s.phase ∧ u.fwNext = 1 - i :=
  ⟨rfl, rfl, s.fwLogged_phase i c, rfl⟩

/-! ### BRINGUP and DONE (R450-R452) -/

theorem execBringup_of_phase {fails : List (Fin 2048)} {rows : List (Nat × Nat)} (hboot : s.booting = true)
    (hphase : s.phase = phBringup) :
    let u := ((s.advance t).applyList.wr GAUGE.CTRL.ENABLE 1)
    let w := State.calendarSeen ((u.applyPatches.initMemory rows).initClusters fails
      (decide (s.rd BOOT.STATUS.CAUSE = 10))).loadCal.crcCommit
    let x := w.wrSat BOOT.TIMES.BRINGUP_MS (spanMs w.sys.boot.upFrom w.now)
    let y := x.setBoot { x.sys.boot with cold := false, lockAt := x.now }
    execBringup fails rows t s = .next (State.startFabric
      (if bitOf (clFlags y.sys.boot.list) 1 then y.setPhase phLockWait else y.bootDone) s.sys.boot.cold) := by
  have hgo : ¬ (¬ (s.advance t).booting = true ∨ (s.advance t).phase ≠ phBringup) :=
    not_or.2 ⟨not_not_intro hboot, not_not_intro hphase⟩
  unfold execBringup
  rw [if_neg hgo, State.advance_rd]
  rfl

/-- With no job armed a reset's end loads nothing again. -/
theorem State.reloadJobs_of_unarmed (h : ∀ j, j < 8 → (s.job j).stage ≠ .armed) : s.reloadJobs = s := by
  refine List.foldlRecOn (motive := fun t : State => t = s) _ _ rfl fun t ht j hj => ?_
  subst ht
  exact if_pos (h j (List.mem_range.1 hj))

/-- Boot's end where no reset has ended a job: the lock, the phase and the power state are set. -/
theorem State.bootDone_of_idle (hmissed : s.sys.boot.missed = []) (hjobs : ∀ j, j < 8 → (s.job j).stage ≠ .armed) :
    s.bootDone = (((s.wr BOOT.STATUS.LOCKED 1).setPhase phDone).wr PWR.STATE.STATE pwActive).setSys
      { s.sys with mc0 := true, checked := s.now, boot := { s.sys.boot with missed := [] } } := by
  have hmissed' : (((s.wr BOOT.STATUS.LOCKED 1).setPhase phDone).wr PWR.STATE.STATE pwActive).sys.boot.missed = [] :=
    hmissed
  unfold State.bootDone
  dsimp only
  rw [hmissed', List.foldl_nil]
  exact State.reloadJobs_of_unarmed hjobs

theorem State.bootDone_shows (hmissed : s.sys.boot.missed = []) (hjobs : ∀ j, j < 8 → (s.job j).stage ≠ .armed) :
    s.bootDone.phase = phDone ∧ s.bootDone.on BOOT.STATUS.LOCKED = true ∧ s.bootDone.pwState = pwActive ∧
      s.bootDone.sys.mc0 = true ∧ s.regsBut s.bootDone [BOOT.STATUS.LOCKED, BOOT.STATUS.PHASE, PWR.STATE.STATE] := by
  rw [State.bootDone_of_idle hmissed hjobs]
  refine ⟨?phase, ?locked, ?power, rfl, ?regs⟩
  case phase =>
    rw [State.phase, State.setSys_rd, State.rd_wr_ne _ _ (Field.key_ne_of_apart rfl)]
    exact State.setPhase_phase _ (by decide)
  case locked =>
    rw [State.on, State.setSys_rd, State.rd_wr_ne _ _ (Field.key_ne_of_apart rfl), State.setPhase_rd _ _ (by decide),
      State.rd_wr_self]
    rfl
  case power => rw [State.pwState, State.setSys_rd, State.rd_wr_self]; rfl
  case regs =>
    have hwritten : s.regsBut (((s.wr BOOT.STATUS.LOCKED 1).setPhase phDone).wr PWR.STATE.STATE pwActive)
        [BOOT.STATUS.LOCKED, BOOT.STATUS.PHASE, PWR.STATE.STATE] :=
      State.regsBut_thenWr (by simp) (State.regsBut_thenWr (by simp) (State.regsBut_wr s _ (by simp)))
    exact State.regsBut_trans hwritten (State.regsBut_of_regs rfl _)

/-- A BOOT command refused. -/
theorem State.bootRefused_shows (s : State) : s.flagged (s.raise BOOT.EVENT.CFG_ERR) BOOT.EVENT.CFG_ERR ∧
    s.onlyEvent (s.raise BOOT.EVENT.CFG_ERR) [BOOT.EVENT.CFG_ERR, seqOf BOOT.EVENT.CFG_ERR] :=
  State.raise_event s [] (by decide) (by decide) (by decide) (by decide) (by decide)

/-! ### The operator key (R449) -/

theorem State.fuseKey_of_refused (h : s.on BOOT.OPKEY.FUSED = true ∨ s.rd BOOT.OPKEY.CONFIRM ≠ 0x5A3C ∨
    clSigned s.sys.boot.list = false ∨ s.phase ≠ phDone) : s.fuseKey = s.raise BOOT.EVENT.CFG_ERR := by
  refine if_pos (h.imp_right (Or.imp_right (Or.imp_left fun hn => ?_)))
  rw [hn]
  exact Bool.false_ne_true

/-- The operator key fused: its hash in NVM, and FUSED set. -/
def State.keyFused (s : State) : State :=
  (s.setNvm { s.sys.nvm with opKey := some (sha384 (trailKey s.sys.boot.list (clLength s.sys.boot.list))) }).wr
    BOOT.OPKEY.FUSED 1

theorem State.fuseKey_of_confirmed (hfused : s.on BOOT.OPKEY.FUSED = false) (hkey : s.rd BOOT.OPKEY.CONFIRM = 0x5A3C)
    (hsigned : clSigned s.sys.boot.list = true) (hphase : s.phase = phDone) : s.fuseKey = s.keyFused := by
  refine if_neg ?_
  rintro (h | h | h | h)
  · exact Bool.false_ne_true (hfused.symm.trans h)
  · exact h hkey
  · exact h hsigned
  · exact h hphase

theorem State.keyFused_shows (s : State) : s.keyFused.on BOOT.OPKEY.FUSED = true ∧
    s.keyFused.sys.nvm.opKey = some (sha384 (trailKey s.sys.boot.list (clLength s.sys.boot.list))) ∧
    s.regsBut s.keyFused [BOOT.OPKEY.FUSED] := by
  refine ⟨?fused, rfl, State.regsBut_trans (State.regsBut_of_regs rfl _) (State.regsBut_wr _ _ (by simp))⟩
  case fused => rw [State.on, State.keyFused, State.rd_wr_self]; rfl

/-! ### What each check of boot shows, as its clause states it -/

theorem execVauxPowerOn_shows {head : Bool} {b : BitVec 5} {x : NvmSlots} (h : s.sys.vaux = false) :
    ∃ u, execVauxPowerOn head b (some x) s = .next u ∧ u.sys.vaux = true ∧ u.sys.reset = none ∧ u.pwState = pwBoot ∧
      u.phase = (if head then phNvm else phChain) ∧ u.position = (if head then some 0 else none) ∧
      u.on BOOT.STRAPS.CHAIN_HEAD = head ∧ u.rd BOOT.STRAPS.BENCH_ID = b.toNat ∧ u.rd BOOT.COUNTS.BOOTS = 1 ∧
      u.sys.nvm = { s.sys.nvm with fw0 := x.fw0, fw1 := x.fw1, cl0 := x.cl0, cl1 := x.cl1 } ∧
      u.log.nvm = s.log.nvm ∧ u.log.staging = [] ∧ u.patch.entries = s.patch.entries ∧ u.pending = s.pending := by
  have hexec : execVauxPowerOn head b (some x) s = _ := execVauxPowerOn_of_off h
  have hshows := State.coldStart_shows (s.setNvm
    { s.sys.nvm with fw0 := x.fw0, fw1 := x.fw1, cl0 := x.cl0, cl1 := x.cl1 }) head b.toNat
    (if s.log.cycles = 0 ∨ s.sys.reset ≠ some 4 then 0 else 1) false
  dsimp only at hshows
  generalize State.coldStart _ head b.toNat _ false = u at hexec hshows
  obtain ⟨⟨hvaux, hreset, hpower, hphase, hpos, hhead, hbench, hboots⟩, hkept⟩ := hshows
  exact ⟨u, hexec, hvaux, hreset, hpower, hphase, hpos, hhead, hbench.trans (Nat.mod_eq_of_lt b.isLt), hboots, hkept⟩

section
variable {rails : BitVec 20} {held : Bool}

theorem execPwrOkRise_of_lit (hvaux : s.sys.vaux = true) (hlow : s.sys.boot.pwrOk = false) (hdark : s.pwState ≠ pwDark)
    (hrst : s.sys.boot.rstLow = false) : execPwrOkRise rails held t s =
      .next (((s.advance t).setBoot { s.sys.boot with pwrOk := true }).checkRails rails.toNat) := by
  have hp : s.powered held t = (s.advance t).setBoot { s.sys.boot with pwrOk := true } := if_neg hdark
  refine (execPwrOkRise_of_low hvaux hlow).trans ?_
  rw [hp]
  exact if_neg fun h => Bool.false_ne_true (hrst.symm.trans h)

theorem execPwrOkRise_of_held (hvaux : s.sys.vaux = true) (hlow : s.sys.boot.pwrOk = false) (hdark : s.pwState ≠ pwDark)
    (hrst : s.sys.boot.rstLow = true) :
    let v := State.setBoot (s.advance t) { s.sys.boot with pwrOk := true }
    execPwrOkRise rails held t s = .next (v.setBoot { v.sys.boot with waits := true }) := by
  have hp : s.powered held t = (s.advance t).setBoot { s.sys.boot with pwrOk := true } := if_neg hdark
  refine (execPwrOkRise_of_low hvaux hlow).trans ?_
  rw [hp]
  exact if_pos hrst

theorem execPwrOkRise_of_dark (hvaux : s.sys.vaux = true) (hlow : s.sys.boot.pwrOk = false) (hdark : s.pwState = pwDark)
    (hrst : s.sys.boot.rstLow = false) : execPwrOkRise rails held t s =
      .next ((((s.advance t).setBoot { s.sys.boot with pwrOk := true }).leaveDark held).checkRails rails.toNat) := by
  have hp : s.powered held t = ((s.advance t).setBoot { s.sys.boot with pwrOk := true }).leaveDark held := if_pos hdark
  refine (execPwrOkRise_of_low hvaux hlow).trans ?_
  rw [hp, State.leaveDark_rstLow]
  exact if_neg fun h => Bool.false_ne_true (hrst.symm.trans h)

end

theorem execPkgResetNRelease_shows {rails : BitVec 20} (hvaux : s.sys.vaux = true)
    (hlow : s.sys.boot.rstLow = true) (hwaits : s.sys.boot.waits = false) (hgood : s.sys.boot.good = false) :
    ∃ u, execPkgResetNRelease rails t s = .next u ∧ u.sys.boot.rstLow = false ∧
      u.sys.reset = (if s.sys.reset = some 1 then none else s.sys.reset) ∧ u.regs = s.regs := by
  obtain ⟨hboot, hreset, hregs⟩ := s.released_shows t
  exact ⟨_, execPkgResetNRelease_of_low hvaux hlow hwaits hgood, by rw [hboot], hreset, hregs⟩

theorem execNvmDiscovery_of_bad {r d o : Bool} {mbit : Nat} (hboot : s.booting = true) (hnvm : s.sys.boot.nvmOk = false)
    (hphase : s.phase = phChain ∨ s.phase = phNvm) (hbad : r = false ∨ d = false ∨ mbit < 512) :
    execNvmDiscovery r d o mbit t s = .next ((s.advance t).stick 2) := by
  refine (execNvmDiscovery_of_waiting hboot hnvm hphase).trans (if_neg ?_)
  rintro ⟨rfl, rfl, hbig⟩
  obtain h | h | h := hbad
  · cases h
  · cases h
  · exact Nat.not_lt.2 hbig h

theorem execCutlistRead_of_first (hboot : s.booting = true) (hphase : s.phase = phCutlist)
    (hbad : s.sys.boot.clBad = none) : ∃ u, execCutlistRead t s = .next u ∧
      if (s.advance t).clValid (s.sys.nvm.cl s.clNext) = true then u = (s.advance t).clAccept s.clNext
      else u.sys.boot.clBad = some s.clNext ∧ u.on BOOT.EVENT.CL_FALLBACK = true ∧ u.phase = phCutlist ∧
        u.clNext = 1 - s.clNext := by
  by_cases hvalid : (s.advance t).clValid (s.sys.nvm.cl s.clNext) = true
  · exact ⟨_, (execCutlistRead_of_phase hboot hphase).trans (if_pos hvalid), by rw [if_pos hvalid]⟩
  · obtain ⟨hclbad, hevent, hkeep, hnext⟩ := (s.advance t).clFallback_shows s.clNext
    refine ⟨_, (execCutlistRead_of_phase hboot hphase).trans ((if_neg hvalid).trans (if_neg ?_)), ?_⟩
    · rw [hbad]; decide
    · rw [if_neg hvalid]
      exact ⟨hclbad, hevent, hkeep.trans hphase, hnext⟩

theorem execCutlistRead_of_second (hboot : s.booting = true) (hphase : s.phase = phCutlist)
    (hbad : s.sys.boot.clBad ≠ none) : ∃ u, execCutlistRead t s = .next u ∧
      if (s.advance t).clValid (s.sys.nvm.cl s.clNext) = true then u = (s.advance t).clAccept s.clNext
      else u.phase = phStuck ∧ u.rd BOOT.STATUS.STUCK = 3 := by
  by_cases hvalid : (s.advance t).clValid (s.sys.nvm.cl s.clNext) = true
  · exact ⟨_, (execCutlistRead_of_phase hboot hphase).trans (if_pos hvalid), by rw [if_pos hvalid]⟩
  · obtain ⟨hstuck, hwhy, -⟩ := State.stick_shows (s.advance t) (reason := 3) (by decide)
    refine ⟨_, (execCutlistRead_of_phase hboot hphase).trans ((if_neg hvalid).trans
      (if_pos (Option.isSome_iff_ne_none.2 hbad))), ?_⟩
    rw [if_neg hvalid]
    exact ⟨hstuck, hwhy⟩

theorem execFirmwareVerify_of_first (hboot : s.booting = true) (hphase : s.phase = phFirmware)
    (hbad : s.sys.boot.fwBad = none) : ∃ u, execFirmwareVerify t s = .next u ∧
      if fwCheck (s.sys.nvm.fw s.fwNext) = 0 then u = ((s.advance t).wr BOOT.STATUS.FW_SLOT s.fwNext).enterWaitPwr
      else u.sys.boot.fwBad = some (s.fwNext, fwCheck (s.sys.nvm.fw s.fwNext)) ∧ u.sys.boot.erase = some s.fwNext ∧
        u.phase = phFirmware ∧ u.fwNext = 1 - s.fwNext := by
  by_cases hc : fwCheck (s.sys.nvm.fw s.fwNext) = 0
  · refine ⟨_, execFirmwareVerify_of_sound hboot hphase hc, ?_⟩
    rw [if_pos hc, hbad]
  · obtain ⟨hfwbad, herase, hkeep, hnext⟩ := (s.advance t).fwFallback_shows s.fwNext
      (fwCheck (s.sys.nvm.fw s.fwNext))
    refine ⟨_, (execFirmwareVerify_of_failed hboot hphase hc).trans (if_neg ?_), ?_⟩
    · rw [State.fwLogged_sys, show (s.advance t).sys.boot.fwBad = none from hbad]; decide
    · rw [if_neg hc]
      exact ⟨hfwbad, herase, hkeep.trans hphase, hnext⟩

theorem execFirmwareVerify_of_second {b k : Nat} (hboot : s.booting = true) (hphase : s.phase = phFirmware)
    (hbad : s.sys.boot.fwBad = some (b, k)) : execFirmwareVerify t s = .next (
      if fwCheck (s.sys.nvm.fw s.fwNext) = 0 then
        (((s.advance t).wr BOOT.STATUS.FW_SLOT s.fwNext).patchNote 12 1 b s.fwNext).enterWaitPwr
      else ((s.advance t).fwLogged s.fwNext (fwCheck (s.sys.nvm.fw s.fwNext))).recover) := by
  by_cases hc : fwCheck (s.sys.nvm.fw s.fwNext) = 0
  · rw [execFirmwareVerify_of_sound hboot hphase hc, if_pos hc, hbad]
  · refine (execFirmwareVerify_of_failed hboot hphase hc).trans ((if_pos ?_).trans ?_)
    · rw [State.fwLogged_sys, show (s.advance t).sys.boot.fwBad = some (b, k) from hbad]; rfl
    · rw [if_neg hc]

theorem execOpkeyFuse_of_confirmed (hs : s.csrSound) (hfused : s.on BOOT.OPKEY.FUSED = false)
    (hkey : s.rd BOOT.OPKEY.CONFIRM = 0x5A3C) (hsigned : clSigned s.sys.boot.list = true) (hphase : s.phase = phDone) :
    execOpkeyFuse s = .next s.keyFused := by
  have hfuse := State.fuseKey_of_confirmed hfused hkey hsigned hphase
  refine congrArg Host.Outcome.next ((State.bySoft_of_bad _ _ _ hs ?_).trans hfuse)
  rw [hfuse]
  rfl

theorem execOpkeyFuse_of_refused (hs : s.csrSound) (h : s.on BOOT.OPKEY.FUSED = true ∨
    s.rd BOOT.OPKEY.CONFIRM ≠ 0x5A3C ∨ clSigned s.sys.boot.list = false ∨ s.phase ≠ phDone) :
    execOpkeyFuse s = .next (s.raise BOOT.EVENT.CFG_ERR) :=
  congrArg Host.Outcome.next (State.bySoft_of_raise _ _ _ hs (State.fuseKey_of_refused h))

theorem execLockWaitTimeout_of_late (h : s.phase = phLockWait) (ht : s.sys.boot.lockAt + Config.ns 60000000000 ≤ t) :
    execLockWaitTimeout t s = .next (s.advance t).bootDone := if_pos ⟨h, ht.trans (Nat.le_max_right _ _)⟩

end

/-- Settles O47, along the phases of boot and the checks that end each. -/
theorem bootPhases : Obligations.BootPhases := by
  unfold Obligations.BootPhases
  exact ⟨fun s head b x h => execVauxPowerOn_shows h, fun s t0 h => ⟨_, execVauxLow_of_on h, rfl, rfl, rfl, rfl, rfl⟩,
    fun s rails held t0 hvaux hlow => ⟨fun hdark hrst => execPwrOkRise_of_lit hvaux hlow hdark hrst,
      fun hdark hrst => execPwrOkRise_of_held hvaux hlow hdark hrst,
      fun hdark hrst => execPwrOkRise_of_dark hvaux hlow hdark hrst⟩,
    fun s rails => ⟨fun h hboot hphase => State.checkRails_of_good h hboot hphase, fun h => State.checkRails_of_bad h⟩,
    fun s rails t0 hvaux hlow hwaits hgood => execPkgResetNRelease_shows hvaux hlow hwaits hgood,
    fun s o mbit t0 hboot hnvm hphase => ⟨fun hbig => ⟨_,
        (execNvmDiscovery_of_waiting hboot hnvm hphase).trans (if_pos ⟨rfl, rfl, hbig⟩),
        (s.advance t0).nvmFound_shows o⟩,
      fun r d hbad => ⟨_, execNvmDiscovery_of_bad hboot hnvm hphase hbad, State.stick_shows _ (by decide)⟩⟩,
    fun s t0 hboot hphase hpos h => ⟨_, execPositionTimeout_of_unplaced hboot hphase hpos h,
      State.stick_shows _ (by decide)⟩,
    fun s t0 hboot hphase => ⟨fun hbad => execCutlistRead_of_first hboot hphase hbad,
      fun hbad => execCutlistRead_of_second hboot hphase hbad⟩,
    fun s t0 hboot hphase => ⟨fun hbad => execFirmwareVerify_of_first hboot hphase hbad,
      fun b k hbad => execFirmwareVerify_of_second hboot hphase hbad⟩,
    fun s => s.enterWaitPwr_shows, fun s fails rows t0 hboot hphase => execBringup_of_phase hboot hphase,
    fun s hmissed hjobs => State.bootDone_shows hmissed hjobs,
    fun s => ⟨fun h => congrArg Host.Outcome.next (if_pos h),
      fun h => ⟨_, congrArg Host.Outcome.next (if_neg h), s.bootRefused_shows⟩,
      fun t0 h ht => execLockWaitTimeout_of_late h ht⟩,
    fun s hs => ⟨fun hfused hkey hsigned hphase => ⟨_, execOpkeyFuse_of_confirmed hs hfused hkey hsigned hphase,
        s.keyFused_shows⟩,
      fun h => ⟨_, execOpkeyFuse_of_refused hs h, s.bootRefused_shows⟩⟩⟩

end Sys2Proof.Machine
end

section
/-! SUPPORT. Power states, rails, temperature and the thermal port (14_package_power.md, R417-R427, R499): what each of
their operations shows, and the statement about them. -/
namespace Sys2Proof.Machine
open Sys2Proof

/-! ### Rails (R417, R423) -/

/-- A set bit taken away leaves the other bits of a number alone. -/
theorem bitOf_sub_two_pow_ne {v r k : Nat} (h : bitOf v r = true) (hk : k ≠ r) : bitOf (v - 2 ^ r) k = bitOf v k := by
  have hclear := bitOf_sub_two_pow h
  have hle : 2 ^ r ≤ v := Nat.ge_two_pow_of_testBit ((bitOf_eq_testBit v r).symm.trans h)
  obtain ⟨x, rfl⟩ := Nat.exists_eq_add_of_le hle
  rw [Nat.add_sub_cancel_left] at hclear ⊢
  obtain hlt | hgt := Nat.lt_or_gt_of_ne hk
  · rw [bitOf_eq_testBit, bitOf_eq_testBit, Nat.testBit_two_pow_add_gt hlt]
  · obtain ⟨j, rfl⟩ := Nat.exists_eq_add_of_lt hgt
    have heven : x / 2 ^ r % 2 = 0 := by
      rw [bitOf] at hclear
      have : x / 2 ^ r % 2 ≠ 1 := by simpa using hclear
      omega
    have hsplit : 2 ^ (r + j + 1) = 2 ^ r * 2 * 2 ^ j := by ring
    have hhalf : (2 ^ r + x) / 2 ^ r / 2 = x / 2 ^ r / 2 := by
      rw [Nat.add_div_left x (Nat.two_pow_pos r)]
      omega
    rw [bitOf, bitOf, hsplit, ← Nat.div_div_eq_div_mul, ← Nat.div_div_eq_div_mul, ← Nat.div_div_eq_div_mul,
      ← Nat.div_div_eq_div_mul, hhalf]

section
variable (s : State)

theorem State.railBad_bits {r : Nat} (hr : r < 20) : bitOf ((s.railBad r).rd PWR.STATE.RAIL_GOOD) r = false ∧
    ∀ k, k < 20 → k ≠ r →
      bitOf ((s.railBad r).rd PWR.STATE.RAIL_GOOD) k = bitOf (s.rd PWR.STATE.RAIL_GOOD % 2 ^ 20) k := by
  have hrd : (s.railBad r).rd PWR.STATE.RAIL_GOOD =
      (if bitOf (s.rd PWR.STATE.RAIL_GOOD) r then s.rd PWR.STATE.RAIL_GOOD - 2 ^ r else s.rd PWR.STATE.RAIL_GOOD) %
        2 ^ 20 := State.rd_wr_self _ _ _
  rw [hrd]
  refine ⟨?self, fun k hk hne => ?other⟩
  case self =>
    rw [bitOf_mod_two_pow hr]
    split
    next h => exact bitOf_sub_two_pow h
    next h => exact Bool.not_eq_true _ ▸ h
  case other =>
    rw [bitOf_mod_two_pow hk, bitOf_mod_two_pow hk]
    split
    next h => exact bitOf_sub_two_pow_ne h hne
    next => rfl

theorem State.railBad_regsBut (r : Nat) : s.regsBut (s.railBad r) [PWR.STATE.RAIL_GOOD] :=
  State.regsBut_wr s _ (by simp)

/-- A rail out of range recorded: its bit, the mark of the thermal port, and the count. -/
def State.railLost (s : State) (r : Nat) : State :=
  ((s.railBad r).setPower { s.sys.power with railErr := true }).bump PWR.COUNTS.RAIL_FAULTS

/-- VHTR's fault is an error: the power state and the entry of DARK stay as they are. -/
theorem State.vhtrFault_shows :
    let u := (s.railLost 14).raise PWR.EVENT.RAIL_FAULT sevError (leBytes 4 14)
    bitOf (u.rd PWR.STATE.RAIL_GOOD) 14 = false ∧ u.sys.power.railErr = true ∧
      u.rd PWR.COUNTS.RAIL_FAULTS = (s.rd PWR.COUNTS.RAIL_FAULTS + 1) % 2 ^ PWR.COUNTS.RAIL_FAULTS.width ∧
      u.on PWR.EVENT.RAIL_FAULT = true ∧ u.pwState = s.pwState ∧ u.sys.power.toDark = s.sys.power.toDark := by
  have hregs := State.raise_regsButEvent (s.railLost 14) PWR.EVENT.RAIL_FAULT sevError (leBytes 4 14)
  have hpower := State.raise_power (s.railLost 14) PWR.EVENT.RAIL_FAULT sevError (leBytes 4 14)
  have hrail : (s.railLost 14).rd PWR.STATE.RAIL_GOOD = (s.railBad 14).rd PWR.STATE.RAIL_GOOD :=
    State.rd_bump_ne _ (Field.key_ne_of_apart rfl)
  have hstate : (s.railLost 14).rd PWR.STATE.STATE = s.rd PWR.STATE.STATE :=
    (State.rd_bump_ne _ (Field.key_ne_of_apart rfl)).trans (State.regsBut_rd (s.railBad_regsBut 14) rfl)
  have hcount : (s.railLost 14).rd PWR.COUNTS.RAIL_FAULTS =
      (s.rd PWR.COUNTS.RAIL_FAULTS + 1) % 2 ^ PWR.COUNTS.RAIL_FAULTS.width := by
    rw [State.railLost, State.rd_bump_self]
    exact congrArg (fun n => (n + 1) % _) (State.regsBut_rd (s.railBad_regsBut 14) rfl)
  refine ⟨?rail, by rw [hpower]; rfl, (State.regsBut_rd hregs rfl).trans hcount,
    State.raise_on _ _ _ rfl (by decide) (by decide), (State.regsBut_rd hregs rfl).trans hstate, by rw [hpower]; rfl⟩
  case rail =>
    rw [State.regsBut_rd hregs rfl, hrail]
    exact (s.railBad_bits (by decide)).1

end

section
variable {s : State} {t : Nat}

theorem execPwrOkLow_of_high (hvaux : s.sys.vaux = true) (hok : s.sys.boot.pwrOk = true) :
    let v := State.setBoot (s.advance t) { s.sys.boot with pwrOk := false, good := false, waits := false }
    execPwrOkLow t s = if s.pwState = pwDark ∨ s.sys.power.toDark = some true then .next v
      else .next (v.logFatal 25 32 PWR.STATE.base).unplanned :=
  if_neg (not_or.2 ⟨not_not_intro hvaux, not_not_intro hok⟩)

theorem execRailFault_of_main {r : Fin 20} (hvaux : s.sys.vaux = true) (hok : s.sys.boot.pwrOk = true)
    (hdark : s.pwState ≠ pwDark) (hvhtr : r.val ≠ 14) (hvaux' : r.val ≠ 19) : execRailFault r t s =
      .next (((s.advance t).railLost r).raise PWR.EVENT.RAIL_FAULT sevFatal (leBytes 4 r)).unplanned :=
  if_neg (not_or.2 ⟨not_not_intro hvaux, not_or.2 ⟨not_not_intro hok, not_or.2 ⟨hdark, not_or.2 ⟨hvhtr, hvaux'⟩⟩⟩⟩)

theorem execVhtrOutOfRange_of_up (hvaux : s.sys.vaux = true) (hok : s.sys.boot.pwrOk = true)
    (hdark : s.pwState ≠ pwDark) : execVhtrOutOfRange t s =
      .next (((s.advance t).railLost 14).raise PWR.EVENT.RAIL_FAULT sevError (leBytes 4 14)) :=
  if_neg (not_or.2 ⟨not_not_intro hvaux, not_or.2 ⟨not_not_intro hok, hdark⟩⟩)

end

/-! ### Towards DARK (R228, R421, R425) -/

section
variable (s : State)

theorem State.cuBack_keeps (k lane : Nat) : (s.cuBack k lane).sys = s.sys ∧
    (s.cuBack k lane).fab.cal = s.fab.cal := by
  unfold State.cuBack
  split
  · exact ⟨rfl, rfl⟩
  · exact ⟨State.raise_sys s _ _ _ (by decide), by rw [State.raise_fab]⟩

/-- A calibration abandoned: none is under way and none waits. -/
theorem State.calAbandon_shows : s.calAbandon.sys = s.sys ∧ s.calAbandon.fab.cal.opt = none ∧
    s.calAbandon.fab.cal.queue = [] := by
  unfold State.calAbandon
  extract_lets s0 back c s1 s2
  have h0 : s0.sys = s.sys := by
    unfold s0
    split
    · split <;> rfl
    · rfl
  have h2 : s2.sys = s1.sys ∧ s2.fab.cal = s1.fab.cal := by
    unfold s2
    clear_value back
    cases back with
    | none => exact ⟨rfl, rfl⟩
    | some u =>
      dsimp only
      split
      · exact s1.cuBack_keeps _ _
      · exact ⟨rfl, rfl⟩
  obtain ⟨hsys, hcal⟩ := h2
  exact ⟨hsys.trans h0, (congrArg Calib.opt hcal :), (congrArg Calib.queue hcal :)⟩

/-- A notice written: the fabric, the package and PWR.STATE are as they were. -/
theorem State.writeNotice_keeps (c : Nat) : (s.writeNotice c).sys = s.sys ∧ (s.writeNotice c).fab = s.fab ∧
    (s.writeNotice c).rd PWR.STATE.CHANGING = s.rd PWR.STATE.CHANGING := by
  have hcount : PWR.STATE.CHANGING.key ∉ counterFields.map Field.key :=
    notMem_counterFields_of_off rfl (by decide) (.inr ⟨by decide, by decide⟩) (by decide)
  have htaken : (s.noticeTaken c).rd PWR.STATE.CHANGING = s.rd PWR.STATE.CHANGING :=
    (State.rd_bump_ne _ (Field.key_ne_of_apart rfl)).trans (State.rd_wr_ne _ _ (Field.key_ne_of_apart rfl))
  rw [State.writeNotice_eq]
  obtain ⟨hframe, hregs⟩ := (s.noticeTaken c).request_frame
    { write := true, addr := s.noticeBase + 64 * c, len := 64, who := .notice c, data := s.noticeLine c }
  exact ⟨(congrArg State.sys hframe :), (congrArg State.fab hframe :), (hregs _ hcount).trans htaken⟩

theorem State.tellDown_keeps : s.tellDown.sys = s.sys ∧ s.tellDown.fab = s.fab ∧
    s.tellDown.rd PWR.STATE.CHANGING = s.rd PWR.STATE.CHANGING := by
  unfold State.tellDown
  split
  · obtain ⟨hsys, hfab, hrd⟩ := (s.compose 2 (Config.linkBody ulDown (s.rd ULK.STAT.WIDTH)
      (s.rd ULK.LOST.COUNT))).writeNotice_keeps 2
    exact ⟨hsys, hfab, hrd.trans (State.rd_wr_ne _ _ (Field.key_ne_of_apart rfl))⟩
  · exact ⟨rfl, rfl, rfl⟩

/-- A switch or a re-cable that is only armed is cancelled by register writes alone. -/
theorem State.pbCancel_of_armed (h : s.swState = swArmed) :
    s.onlyRegs s.pbCancel [PB.STATUS.SW_STATE, CAL.RCB_STAT.STATE] := by
  have hne : s.swState ≠ swCommitted := by rw [h]; decide
  unfold State.pbCancel
  rw [if_neg hne, if_pos h]
  dsimp only
  split
  · exact ⟨rfl, State.regsBut_thenWr (by simp) (State.regsBut_wr s _ (by simp))⟩
  · exact ⟨rfl, State.regsBut_wr s _ (by simp)⟩

/-- DARK on its way: marked so, and what is not yet committed is cancelled. -/
theorem State.towardsDark_shows (planned : Bool) :
    (s.towardsDark planned).sys.power = { s.sys.power with toDark := some planned } ∧
      (s.towardsDark planned).fab = s.fab ∧ (s.towardsDark planned).on PWR.STATE.CHANGING = true := by
  unfold State.towardsDark
  extract_lets p s0 s1 s2
  have h0 : s0.rd PWR.STATE.CHANGING = 1 := State.rd_wr_self _ _ _
  have h1 : s0.onlyRegs s1 [PB.STATUS.SW_STATE, CAL.RCB_STAT.STATE] := by
    unfold s1
    split
    next h => exact s0.pbCancel_of_armed h
    next => exact ⟨rfl, State.regsBut_refl _ _⟩
  have h2 : s1.onlyRegs s2 [CAL.RCB_STAT.STATE] := by
    unfold s2
    split
    next h => rw [State.rcbCancel, if_pos h]; exact ⟨rfl, State.regsBut_wr _ _ (by simp)⟩
    next => exact ⟨rfl, State.regsBut_refl _ _⟩
  obtain ⟨hframe1, hregs1⟩ := h1
  obtain ⟨hframe2, hregs2⟩ := h2
  obtain ⟨hsys, hfab, hrd⟩ := s2.tellDown_keeps
  have hsys2 : s2.sys = s0.sys := by rw [hframe2, hframe1]
  have hfab2 : s2.fab = s0.fab := by rw [hframe2, hframe1]
  refine ⟨?power, hfab.trans hfab2, ?changing⟩
  case power => rw [hsys, hsys2]; rfl
  case changing => rw [State.on, hrd, State.regsBut_rd hregs2 rfl, State.regsBut_rd hregs1 rfl, h0]; rfl

theorem State.stopFabric_sys : s.stopFabric.sys = s.sys := rfl

theorem State.stopFabric_stopAt : s.stopFabric.fab.stopAt ≠ none := Option.some_ne_none _

theorem State.stopFabric_on (f : Field) : s.stopFabric.on f = s.on f := rfl

theorem State.stopFabric_cal : s.stopFabric.fab.cal = s.fab.cal := rfl

theorem State.unplanned_of_dark (h : s.pwState = pwDark ∨ s.sys.power.toDark = some false) : s.unplanned = s := if_pos h

/-- An unplanned entry counted and reported. -/
def State.unplannedNoted (s : State) : State := (s.bump PWR.COUNTS.UNPLANNED).raise PWR.EVENT.UNPLANNED

theorem State.unplannedNoted_sys : s.unplannedNoted.sys = s.sys := State.raise_sys _ _ _ _ (by decide)

/-- An unplanned entry begun: nothing is calibrated any more, and a re-cable ends. -/
def State.brokenOff (s : State) : State :=
  let v := s.unplannedNoted.calAbandon
  if v.rcState = rcCommitted ∨ v.rcState = rcRunning then v.wr CAL.RCB_STAT.STATE rcIdle else v

theorem State.brokenOff_shows : s.brokenOff.sys = s.sys ∧ s.brokenOff.fab.cal.opt = none ∧
    s.brokenOff.fab.cal.queue = [] := by
  obtain ⟨hsys, hopt, hqueue⟩ := s.unplannedNoted.calAbandon_shows
  rw [State.unplannedNoted_sys] at hsys
  unfold State.brokenOff
  generalize s.unplannedNoted.calAbandon = v at hsys hopt hqueue ⊢
  dsimp only
  split
  · exact ⟨hsys, hopt, hqueue⟩
  · exact ⟨hsys, hopt, hqueue⟩

theorem State.unplanned_of_up (hdark : s.pwState ≠ pwDark) (h : s.sys.power.toDark ≠ some false) :
    s.unplanned = (s.brokenOff.towardsDark false).stopFabric := if_neg (not_or.2 ⟨hdark, h⟩)

theorem State.unplanned_shows (hdark : s.pwState ≠ pwDark) (h : s.sys.power.toDark ≠ some false) :
    s.unplanned.sys.power.toDark = some false ∧ s.unplanned.on PWR.STATE.CHANGING = true ∧
      s.unplanned.fab.stopAt ≠ none ∧ s.unplanned.fab.cal.opt = none ∧ s.unplanned.fab.cal.queue = [] := by
  obtain ⟨-, hopt, hqueue⟩ := s.brokenOff_shows
  obtain ⟨hpower, hfab, hchanging⟩ := s.brokenOff.towardsDark_shows false
  rw [State.unplanned_of_up s hdark h]
  refine ⟨?toDark, (State.stopFabric_on _ _).trans hchanging, State.stopFabric_stopAt _, ?opt, ?queue⟩
  case toDark => rw [State.stopFabric_sys, hpower]
  case opt => rw [State.stopFabric_cal, hfab, hopt]
  case queue => rw [State.stopFabric_cal, hfab, hqueue]

/-- An unplanned entry leaves a trip as it was. -/
theorem State.unplanned_trip : s.unplanned.sys.power.trip = s.sys.power.trip := by
  by_cases h : s.pwState = pwDark ∨ s.sys.power.toDark = some false
  · rw [State.unplanned_of_dark s h]
  · obtain ⟨hdark, hto⟩ := not_or.1 h
    obtain ⟨hsys, -, -⟩ := s.brokenOff_shows
    obtain ⟨hpower, -, -⟩ := s.brokenOff.towardsDark_shows false
    rw [State.unplanned_of_up s hdark hto]
    rw [State.stopFabric_sys, hpower, hsys]

end

/-! ### Temperature (R425, R427) -/

/-- A signed field of 16 bits shows what is written in its range. -/
theorem State.rdI_wrI (s : State) {f : Field} {x : Int} (hf : f.width = 16) (hlo : -32768 ≤ x) (hhi : x ≤ 32767) :
    (s.wrI f x).rdI f = x := by
  have hrd : (s.wrI f x).rd f = toBits 16 x % 2 ^ 16 := by
    rw [← hf]
    exact State.rd_wr_self s f _
  rw [State.rdI, hrd, hf, signedOf, toBits]
  norm_num
  omega

theorem State.rdI_wrI_ne (s : State) {f g : Field} (x : Int) (h : g.key ≠ f.key) : (s.wrI f x).rdI g = s.rdI g := by
  rw [State.rdI, State.rdI]
  exact congrArg _ (State.rd_wr_ne s _ h)

theorem tempNow_key_inj {i j : Nat} (h : (PWR.TEMP.NOW i).key = (PWR.TEMP.NOW j).key) : i = j := by
  simp only [Field.key, PWR.TEMP.NOW] at h
  omega

theorem tempPeak_key_inj {i j : Nat} (h : (PWR.TEMP.PEAK i).key = (PWR.TEMP.PEAK j).key) : i = j := by
  simp only [Field.key, PWR.TEMP.PEAK] at h
  omega

theorem tempPeak_ne_tempNow (i j : Nat) : (PWR.TEMP.PEAK i).key ≠ (PWR.TEMP.NOW j).key := Field.key_ne_of_apart rfl

/-- The readings of the first `n` sensors, held to 16 bits. -/
def sampleOf (v : Nat → Int) (n : Nat) : List (Nat × Int) := (List.range n).map fun i => (i, v i)

theorem mem_sampleOf {v : Nat → Int} {n : Nat} {r : Nat × Int} : r ∈ sampleOf v n ↔ r.1 < n ∧ r.2 = v r.1 := by
  constructor
  · intro h
    obtain ⟨i, hi, rfl⟩ := List.mem_map.1 h
    exact ⟨List.mem_range.1 hi, rfl⟩
  · rintro ⟨hr, hv⟩
    exact List.mem_map.2 ⟨r.1, List.mem_range.2 hr, by rw [← hv]⟩

/-- What taking one reading shows: the sensor's own NOW and PEAK, and no other register. -/
theorem State.tempTake_shows (s : State) (first : Bool) {i : Nat} {x : Int} (hlo : -32768 ≤ x) (hhi : x ≤ 32767) :
    s.onlyRegs (s.tempTake first (i, x)) [PWR.TEMP.NOW i, PWR.TEMP.PEAK i] ∧
      (s.tempTake first (i, x)).rdI (PWR.TEMP.NOW i) = x ∧
      (first = false → (s.tempTake first (i, x)).rdI (PWR.TEMP.PEAK i) = max (s.rdI (PWR.TEMP.PEAK i)) x) := by
  have hpeak : (s.wrI (PWR.TEMP.NOW i) x).rdI (PWR.TEMP.PEAK i) = s.rdI (PWR.TEMP.PEAK i) :=
    State.rdI_wrI_ne s x (tempPeak_ne_tempNow i i)
  have hnow : s.regsBut (s.wrI (PWR.TEMP.NOW i) x) [PWR.TEMP.NOW i, PWR.TEMP.PEAK i] := State.regsBut_wr s _ (by simp)
  unfold State.tempTake
  dsimp only
  rw [hpeak]
  split
  next h =>
    refine ⟨⟨rfl, State.regsBut_thenWr (by simp) hnow⟩, ?_, fun hfirst => ?_⟩
    · rw [State.rdI_wrI_ne _ _ (tempPeak_ne_tempNow i i).symm, State.rdI_wrI s rfl hlo hhi]
    · have hlt := h.resolve_left (by rw [hfirst]; exact Bool.false_ne_true)
      rw [State.rdI_wrI _ rfl hlo hhi, max_eq_right hlt.le]
  next h =>
    obtain ⟨-, hge⟩ := not_or.1 h
    exact ⟨⟨rfl, hnow⟩, State.rdI_wrI s rfl hlo hhi, fun _ => by rw [hpeak, max_eq_left (not_lt.1 hge)]⟩

/-- The fields that readings write, beside each sensor's own. -/
theorem State.tempTakes_shows (s : State) (first : Bool) {v : Nat → Int} (hv : ∀ i, -32768 ≤ v i ∧ v i ≤ 32767)
    (n : Nat) :
    let t := (sampleOf v n).foldl (fun s r => s.tempTake first r) s
    (t.sys = s.sys ∧ t.now = s.now) ∧
      (∀ f : Field, (∀ i, i < n → f.key ≠ (PWR.TEMP.NOW i).key ∧ f.key ≠ (PWR.TEMP.PEAK i).key) → t.rd f = s.rd f) ∧
      ∀ i, i < n → t.rdI (PWR.TEMP.NOW i) = v i ∧
        (first = false → t.rdI (PWR.TEMP.PEAK i) = max (s.rdI (PWR.TEMP.PEAK i)) (v i)) := by
  induction n with
  | zero => exact ⟨⟨rfl, rfl⟩, fun _ _ => rfl, fun i hi => absurd hi (Nat.not_lt_zero i)⟩
  | succ n ih =>
    have hlist : sampleOf v (n + 1) = sampleOf v n ++ [(n, v n)] := by
      simp [sampleOf, List.range_succ]
    rw [hlist, List.foldl_append, List.foldl_cons, List.foldl_nil]
    generalize (sampleOf v n).foldl (fun s r => s.tempTake first r) s = u at ih ⊢
    obtain ⟨⟨hsys, hnow'⟩, hrd, htaken⟩ := ih
    obtain ⟨⟨hframe', hregs⟩, hnow, hpeak⟩ := u.tempTake_shows first (i := n) (hv n).1 (hv n).2
    have hother (f : Field) (h1 : f.key ≠ (PWR.TEMP.NOW n).key) (h2 : f.key ≠ (PWR.TEMP.PEAK n).key) :
        (u.tempTake first (n, v n)).rd f = u.rd f := hregs f (by simp [h1, h2])
    refine ⟨⟨?_, ?_⟩, fun f hf => ?_, fun i hi => ?_⟩
    · exact (congrArg State.sys hframe' : _).trans hsys
    · exact (congrArg State.now hframe' : _).trans hnow'
    · obtain ⟨h1, h2⟩ := hf n (Nat.lt_succ_self n)
      exact (hother f h1 h2).trans (hrd f fun i hi => hf i (Nat.lt_succ_of_lt hi))
    · obtain hlt | rfl := Nat.lt_succ_iff_lt_or_eq.1 hi
      · obtain ⟨hold, hmax⟩ := htaken i hlt
        have hsame1 : (u.tempTake first (n, v n)).rdI (PWR.TEMP.NOW i) = u.rdI (PWR.TEMP.NOW i) :=
          congrArg (signedOf 16) (hother _ (fun h => hlt.ne (tempNow_key_inj h)) (tempPeak_ne_tempNow n i).symm)
        have hsame2 : (u.tempTake first (n, v n)).rdI (PWR.TEMP.PEAK i) = u.rdI (PWR.TEMP.PEAK i) :=
          congrArg (signedOf 16) (hother _ (tempPeak_ne_tempNow i n) fun h => hlt.ne (tempPeak_key_inj h))
        exact ⟨hsame1.trans hold, fun hfirst => hsame2.trans (hmax hfirst)⟩
      · have hbefore : u.rdI (PWR.TEMP.PEAK i) = s.rdI (PWR.TEMP.PEAK i) :=
          congrArg (signedOf 16) (hrd _ fun j hj =>
            ⟨tempPeak_ne_tempNow i j, fun h => hj.ne' (tempPeak_key_inj h)⟩)
        exact ⟨hnow, fun hfirst => by rw [hpeak hfirst, hbefore]⟩

/-- The hottest of some readings is one of them, and none is hotter. -/
theorem hottest_shows {l : List (Nat × Int)} (h : l ≠ []) : hottest l ∈ l ∧ ∀ r ∈ l, r.2 ≤ (hottest l).2 := by
  induction l with
  | nil => exact absurd rfl h
  | cons r l ih =>
    cases l with
    | nil => exact ⟨by simp [hottest], by simp [hottest]⟩
    | cons q l =>
      obtain ⟨hmem, hmax⟩ := ih (List.cons_ne_nil q l)
      rw [hottest]
      · split
        next hlt =>
          refine ⟨List.mem_cons_of_mem _ hmem, fun x hx => ?_⟩
          obtain rfl | hx := List.mem_cons.1 hx
          · exact hlt.le
          · exact hmax x hx
        next hge =>
          refine ⟨List.mem_cons_self, fun x hx => ?_⟩
          obtain rfl | hx := List.mem_cons.1 hx
          · exact le_rfl
          · exact (hmax x hx).trans (not_lt.1 hge)
      · exact fun h => List.cons_ne_nil q l h

/-- A sensor's reading in the 16 bits that show it. -/
def clampT (l : List Int) (i : Nat) : Int := clampInt (-32768) 32767 (l.getD i 0)

theorem clampT_range (l : List Int) (i : Nat) : -32768 ≤ clampT l i ∧ clampT l i ≤ 32767 := by
  unfold clampT clampInt
  split
  · omega
  split
  · omega
  · omega

theorem clampT_lt (l : List Int) (i : Nat) : clampT l i < 1150 ↔ l.getD i 0 < 1150 := by
  unfold clampT clampInt
  split
  · omega
  split
  · omega
  · omega

/-- The sensors at 115 degrees or above. -/
def hotOf (l : List (Nat × Int)) : List Nat := (l.filter fun r => decide (1150 ≤ r.2)).map (·.1)

theorem hotOf_sampleOf_eq_nil {v : Nat → Int} {n : Nat} (h : ∀ i, i < n → v i < 1150) : hotOf (sampleOf v n) = [] := by
  refine List.map_eq_nil_iff.2 (List.filter_eq_nil_iff.2 fun r hr => ?_)
  obtain ⟨hlt, hv⟩ := mem_sampleOf.1 hr
  have := h r.1 hlt
  rw [hv]
  simpa using this

theorem mem_hotOf_sampleOf {v : Nat → Int} {n i : Nat} (hi : i < n) (h : 1150 ≤ v i) : i ∈ hotOf (sampleOf v n) :=
  List.mem_map.2 ⟨(i, v i), List.mem_filter.2 ⟨mem_sampleOf.2 ⟨hi, rfl⟩, decide_eq_true h⟩, rfl⟩

/-- A sample taken: every reading shown, the hottest of them, and the sensors that are hot. -/
def State.tempsTaken (s : State) (l : List (Nat × Int)) : State :=
  (((l.foldl (fun t r => t.tempTake (!s.sys.power.sampled) r) s).wr PWR.TEMP_MAX.SENSOR (hottest l).1).wrI
    PWR.TEMP_MAX.TEMP (hottest l).2).setPower { s.sys.power with hot := hotOf l, sampled := true }

theorem execThermalSample_of_vaux {s : State} {l : List Int} {t : Nat} (hvaux : s.sys.vaux = true) :
    let u := (s.advance t).tempsTaken (sampleOf (clampT l) 140)
    execThermalSample l t s = .next (State.judgeAlert
      (if (!s.sys.power.trip && (hotOf (sampleOf (clampT l) 140)).any fun i => s.sys.power.hot.contains i) = true
        then u.tripNow else u) (sampleOf (clampT l) 140)) := if_neg (not_not_intro hvaux)

theorem State.alertAt_congr {s t : State} (h : t.rd GLB.FAULT_LO.BLOCKS = s.rd GLB.FAULT_LO.BLOCKS)
    (k : t.rd PWR.THERM_CFG.ALERT_T = s.rd PWR.THERM_CFG.ALERT_T) : t.alertAt = s.alertAt := by
  rw [State.alertAt, State.alertAt, State.unsafeBlock_congr (by decide) h, k]

/-- Every reading of a sample is shown, and the hottest is not below any. -/
theorem State.tempsTaken_shows (s : State) {v : Nat → Int} (hv : ∀ i, -32768 ≤ v i ∧ v i ≤ 32767)
    (hsampled : s.sys.power.sampled = true) :
    let u := s.tempsTaken (sampleOf v 140)
    u.now = s.now ∧ u.alertAt = s.alertAt ∧ (∀ i, i < 140 → u.rdI (PWR.TEMP.NOW i) = v i ∧
      u.rdI (PWR.TEMP.PEAK i) = max (s.rdI (PWR.TEMP.PEAK i)) (v i)) ∧
    ∀ i, i < 140 → v i ≤ u.rdI PWR.TEMP_MAX.TEMP := by
  have htakes := s.tempTakes_shows (!s.sys.power.sampled) hv 140
  have hhot := hottest_shows (l := sampleOf v 140) (by simp [sampleOf])
  unfold State.tempsTaken
  generalize (sampleOf v 140).foldl (fun t r => t.tempTake (!s.sys.power.sampled) r) s = w at htakes ⊢
  obtain ⟨⟨-, hnow⟩, hrd, htaken⟩ := htakes
  obtain ⟨hmem, hmax⟩ := hhot
  generalize hottest (sampleOf v 140) = h at hmem hmax ⊢
  obtain ⟨-, hval⟩ := mem_sampleOf.1 hmem
  have hkeep (f : Field) (h1 : Field.apart f PWR.TEMP_MAX.SENSOR = true) (h2 : Field.apart f PWR.TEMP_MAX.TEMP = true) :
      ((w.wr PWR.TEMP_MAX.SENSOR h.1).wrI PWR.TEMP_MAX.TEMP h.2).rd f = w.rd f :=
    (State.rd_wr_ne _ _ (Field.key_ne_of_apart h2)).trans (State.rd_wr_ne _ _ (Field.key_ne_of_apart h1))
  have hfar (f : Field) (h1 : ∀ i, Field.apart f (PWR.TEMP.NOW i) = true)
      (h2 : ∀ i, Field.apart f (PWR.TEMP.PEAK i) = true) :
      w.rd f = s.rd f := hrd f fun i _ => ⟨Field.key_ne_of_apart (h1 i), Field.key_ne_of_apart (h2 i)⟩
  refine ⟨hnow, ?alert, fun i hi => ⟨?now, ?peak⟩, fun i hi => ?max⟩
  case alert =>
    have hfault : ((w.wr PWR.TEMP_MAX.SENSOR h.1).wrI PWR.TEMP_MAX.TEMP h.2).rd GLB.FAULT_LO.BLOCKS =
        s.rd GLB.FAULT_LO.BLOCKS := (hkeep _ rfl rfl).trans (hfar _ (fun _ => rfl) fun _ => rfl)
    have hlimit : ((w.wr PWR.TEMP_MAX.SENSOR h.1).wrI PWR.TEMP_MAX.TEMP h.2).rd PWR.THERM_CFG.ALERT_T =
        s.rd PWR.THERM_CFG.ALERT_T := (hkeep _ rfl rfl).trans (hfar _ (fun _ => rfl) fun _ => rfl)
    exact State.alertAt_congr hfault hlimit
  case now => exact (congrArg (signedOf 16) (hkeep _ rfl rfl)).trans (htaken i hi).1
  case peak =>
    exact (congrArg (signedOf 16) (hkeep _ rfl rfl)).trans ((htaken i hi).2 (by rw [hsampled]; rfl))
  case max =>
    have hshown : ((w.wr PWR.TEMP_MAX.SENSOR h.1).wrI PWR.TEMP_MAX.TEMP h.2).rdI PWR.TEMP_MAX.TEMP = h.2 :=
      State.rdI_wrI _ rfl (by rw [hval]; exact (hv _).1) (by rw [hval]; exact (hv _).2)
    exact (hmax (i, v i) (mem_sampleOf.2 ⟨hi, rfl⟩)).trans_eq hshown.symm

section
variable (s : State) (l : List (Nat × Int))

/-- The alert marked and counted. -/
def State.alertMarked (s : State) : State := (s.setPower { s.sys.power with alert := true }).bump PWR.COUNTS.ALERTS

/-- The alert raised. -/
def State.alerted (s : State) : State := s.alertMarked.raise PWR.EVENT.ALERT

theorem State.alertMarked_regsBut : s.regsBut s.alertMarked [PWR.COUNTS.ALERTS] :=
  State.regsBut_trans (State.regsBut_of_regs rfl _) (State.regsBut_bump _ (by simp))

theorem State.alerted_shows : s.alerted.sys.power = { s.sys.power with alert := true } ∧ s.alerted.now = s.now ∧
    s.regsButEvent s.alerted [PWR.COUNTS.ALERTS, PWR.EVENT.ALERT, seqOf PWR.EVENT.ALERT] ∧
    s.alerted.on PWR.EVENT.ALERT = true := by
  have hregs := State.raise_regsButEvent s.alertMarked PWR.EVENT.ALERT 0 []
  refine ⟨s.alertMarked.raise_power _ _ _, s.alertMarked.raise_now _ _ _, ?regs,
    s.alertMarked.raise_on _ _ rfl (by decide) (by decide)⟩
  case regs =>
    exact State.regsBut_trans (State.regsBut_mono s.alertMarked_regsBut (by simp))
      (State.regsButEvent_mono hregs (by simp))

/-- The alert judged moves nothing but the alert, its count and its event. -/
theorem State.judgeAlert_keeps : (∃ x, (s.judgeAlert l).sys.power = { s.sys.power with alert := x }) ∧
    (s.judgeAlert l).now = s.now ∧
    s.regsButEvent (s.judgeAlert l) [PWR.COUNTS.ALERTS, PWR.EVENT.ALERT, seqOf PWR.EVENT.ALERT] := by
  unfold State.judgeAlert
  dsimp only
  split
  · split
    · exact ⟨⟨false, rfl⟩, rfl, State.regsBut_of_regs rfl _⟩
    · exact ⟨⟨s.sys.power.alert, rfl⟩, rfl, State.regsBut_refl s _⟩
  split
  · obtain ⟨hpower, hnow, hregs, -⟩ := s.alerted_shows
    exact ⟨⟨true, hpower⟩, hnow, hregs⟩
  · exact ⟨⟨s.sys.power.alert, rfl⟩, rfl, State.regsBut_refl s _⟩

theorem State.judgeAlert_of_hot (h : s.sys.power.alert = false) (hhot : ∃ r ∈ l, s.alertAt ≤ r.2) :
    (s.judgeAlert l).sys.power.alert = true ∧ (s.judgeAlert l).on PWR.EVENT.ALERT = true := by
  have hany : (l.any fun r => decide (s.alertAt ≤ r.2)) = true := by simpa using hhot
  have ht : s.judgeAlert l = s.alerted := by
    unfold State.judgeAlert
    dsimp only
    rw [h, if_neg Bool.false_ne_true, if_pos hany]
    rfl
  obtain ⟨hpower, -, -, hon⟩ := s.alerted_shows
  rw [ht]
  exact ⟨(congrArg Power.alert hpower :), hon⟩

theorem State.judgeAlert_of_cool (h : s.sys.power.alert = true) (hcool : ∀ r ∈ l, r.2 < s.alertAt - 30) :
    (s.judgeAlert l).sys.power.alert = false := by
  have hall : (l.all fun r => decide (r.2 < s.alertAt - 30)) = true := by simpa using hcool
  unfold State.judgeAlert
  dsimp only
  rw [h, if_pos rfl, if_pos hall]
  rfl

/-- A trip is kept from the moment that it is found. -/
theorem State.tripNow_trip : s.tripNow.sys.power.trip = true := by
  rw [State.tripNow, State.unplanned_trip, State.raise_power]
  rfl

end

section
variable {s : State} {l : List Int} {t : Nat}

/-- A sample with every sensor below 115 degrees. -/
theorem execThermalSample_of_cool (hvaux : s.sys.vaux = true) (hcool : ∀ i, i < 140 → l.getD i 0 < 1150)
    (hsampled : s.sys.power.sampled = true) : ∃ u, execThermalSample l t s = .next u ∧
      u.now = max s.now t ∧ u.sys.power.hot = [] ∧ u.sys.power.trip = s.sys.power.trip ∧
      (∀ i, i < 140 → u.rdI (PWR.TEMP.NOW i) = clampT l i ∧
        u.rdI (PWR.TEMP.PEAK i) = max (s.rdI (PWR.TEMP.PEAK i)) (clampT l i)) ∧
      (∀ i, i < 140 → clampT l i ≤ u.rdI PWR.TEMP_MAX.TEMP) ∧
      (s.sys.power.alert = false → (∃ i, i < 140 ∧ s.alertAt ≤ clampT l i) →
        u.sys.power.alert = true ∧ u.on PWR.EVENT.ALERT = true) ∧
      (s.sys.power.alert = true → (∀ i, i < 140 → clampT l i < s.alertAt - 30) → u.sys.power.alert = false) := by
  have hhot : hotOf (sampleOf (clampT l) 140) = [] := hotOf_sampleOf_eq_nil fun i hi => (clampT_lt l i).2 (hcool i hi)
  have hexec : execThermalSample l t s = _ := execThermalSample_of_vaux hvaux
  have hpower : ((s.advance t).tempsTaken (sampleOf (clampT l) 140)).sys.power =
      { s.sys.power with hot := [], sampled := true } := by rw [← hhot]; rfl
  obtain ⟨hnow, halert, htaken, hmax⟩ := (s.advance t).tempsTaken_shows (clampT_range l) hsampled
  rw [hhot] at hexec
  simp only [List.any_nil, Bool.and_false, Bool.false_eq_true, if_false] at hexec
  generalize (s.advance t).tempsTaken (sampleOf (clampT l) 140) = u at *
  obtain ⟨⟨x, hjudged⟩, hnow', hregs⟩ := u.judgeAlert_keeps (sampleOf (clampT l) 140)
  have hrdI (f : Field) (hf : f.width = 16)
      (h : ([PWR.COUNTS.ALERTS, PWR.EVENT.ALERT, seqOf PWR.EVENT.ALERT] ++ recorderFields).all (Field.apart f) = true) :
      (u.judgeAlert (sampleOf (clampT l) 140)).rdI f = u.rdI f := by
    rw [State.rdI, State.rdI, State.regsBut_rd hregs h]
  refine ⟨_, hexec, hnow'.trans hnow, by rw [hjudged, hpower], by rw [hjudged, hpower], fun i hi => ⟨?now, ?peak⟩,
    fun i hi => ?max, fun h hexists => ?hot, fun h hall => ?cool⟩
  case now => exact (hrdI _ rfl rfl).trans (htaken i hi).1
  case peak => exact (hrdI _ rfl rfl).trans (htaken i hi).2
  case max => exact (hmax i hi).trans_eq (hrdI _ rfl rfl).symm
  case hot =>
    obtain ⟨i, hi, hge⟩ := hexists
    refine u.judgeAlert_of_hot _ (by rw [hpower]; exact h) ⟨(i, clampT l i), mem_sampleOf.2 ⟨hi, rfl⟩, ?_⟩
    rw [halert]
    exact hge
  case cool =>
    refine u.judgeAlert_of_cool _ (by rw [hpower]; exact h) fun r hr => ?_
    obtain ⟨hlt, hv⟩ := mem_sampleOf.1 hr
    rw [halert, hv]
    exact hall r.1 hlt

/-- A sensor hot in two samples one after the other is a trip. -/
theorem execThermalSample_of_hot (hvaux : s.sys.vaux = true) (htrip : s.sys.power.trip = false)
    (hhot : ∃ i, i < 140 ∧ 1150 ≤ l.getD i 0 ∧ s.sys.power.hot.contains i = true) :
    ∃ u, execThermalSample l t s = .next u ∧ u.sys.power.trip = true := by
  obtain ⟨i, hi, hge, hwas⟩ := hhot
  have hmem : i ∈ hotOf (sampleOf (clampT l) 140) :=
    mem_hotOf_sampleOf hi (not_lt.1 fun h => absurd ((clampT_lt l i).1 h) (not_lt.2 hge))
  have hany : (!s.sys.power.trip &&
      (hotOf (sampleOf (clampT l) 140)).any fun i => s.sys.power.hot.contains i) = true := by
    rw [htrip]
    exact List.any_eq_true.2 ⟨i, hmem, hwas⟩
  have hexec : execThermalSample l t s = _ := execThermalSample_of_vaux hvaux
  rw [hany, if_pos rfl] at hexec
  refine ⟨_, hexec, ?_⟩
  obtain ⟨⟨x, hjudged⟩, -, -⟩ := State.judgeAlert_keeps ((s.advance t).tempsTaken (sampleOf (clampT l) 140)).tripNow
    (sampleOf (clampT l) 140)
  rw [hjudged]
  exact State.tripNow_trip _

end

/-! ### The thermal port and the commands (R421, R422) -/

section
variable (s : State)

/-- The port returns four bytes, of which the second is the power state. -/
theorem State.thermPort_shows : s.thermPort.length = 4 ∧ s.thermPort[1]? = some (BitVec.ofNat 8 s.pwState) := ⟨rfl, rfl⟩

theorem State.pwRefuse_shows : s.flagged s.pwRefuse PWR.EVENT.CFG_ERR ∧
    s.onlyEvent s.pwRefuse [PWR.COUNTS.REFUSED, PWR.EVENT.CFG_ERR, seqOf PWR.EVENT.CFG_ERR] := by
  obtain ⟨⟨hflag, hseq⟩, -⟩ := State.raise_event (s.bump PWR.COUNTS.REFUSED) (f := PWR.EVENT.CFG_ERR) (v := 0) []
    (by decide) (by decide) (by decide) (by decide) (by decide)
  refine ⟨⟨hflag, hseq.trans ?_⟩, State.bump_raise_onlyEvent s PWR.COUNTS.REFUSED [] (by decide)⟩
  rw [State.rd_bump_ne _ (Field.key_ne_of_apart rfl)]

/-- A cluster runs, or a job-start trigger is taken. -/
def State.busy (s : State) : Prop := (∃ p, p < 2048 ∧ s.clState p = clRun) ∨ ∃ j, j < 8 ∧ (s.job j).stage ≠ .free

theorem State.busy_iff : ((List.range 2048).any (fun p => s.clState p == clRun) ||
    (List.range 8).any fun j => (s.job j).stage != .free) = true ↔ s.busy := by
  simp only [State.busy, Bool.or_eq_true, List.any_eq_true, List.mem_range, beq_iff_eq, bne_iff_ne]

end

section
variable {s : State} {t : Nat}

theorem State.pwHushCmd_of_idle (hstate : s.pwState = pwActive) (hchange : s.on PWR.STATE.CHANGING = false)
    (hidle : ¬ s.busy) : s.pwHushCmd = (s.clustersEnd true).wr PWR.STATE.STATE pwHush := by
  have hne : s.pwState ≠ pwHush := by rw [hstate]; decide
  refine (if_neg hne).trans (if_neg ?_)
  rintro (h | h | h)
  · exact h hstate
  · exact Bool.false_ne_true (hchange.symm.trans h)
  · exact hidle (s.busy_iff.1 h)

theorem State.pwHushCmd_of_refused (hne : s.pwState ≠ pwHush)
    (h : s.pwState ≠ pwActive ∨ s.on PWR.STATE.CHANGING = true ∨ s.busy) : s.pwHushCmd = s.pwRefuse :=
  (if_neg hne).trans (if_pos (h.imp_right (Or.imp_right s.busy_iff.2)))

theorem State.pwActiveCmd_of_hush (hstate : s.pwState = pwHush) (hchange : s.on PWR.STATE.CHANGING = false) :
    s.pwActiveCmd = s.clustersBack.wr PWR.STATE.STATE pwActive := by
  have hne : s.pwState ≠ pwActive := by rw [hstate]; decide
  refine (if_neg hne).trans (if_neg ?_)
  rintro (h | h)
  · exact h hstate
  · exact Bool.false_ne_true (hchange.symm.trans h)

theorem State.pwActiveCmd_of_refused (h : s.pwState = pwBoot ∨ s.pwState = pwDark) : s.pwActiveCmd = s.pwRefuse := by
  have hne : s.pwState ≠ pwActive ∧ s.pwState ≠ pwHush := by
    rcases h with h | h <;> rw [h] <;> decide
  exact (if_neg hne.1).trans (if_pos (.inl hne.2))

theorem State.pwDarkCmd_of_up (hstate : s.pwState = pwActive ∨ s.pwState = pwHush)
    (hchange : s.on PWR.STATE.CHANGING = false) :
    s.pwDarkCmd = (((s.towardsDark true).advance (slotStart (slotOf (s.towardsDark true).now + 1))).goDark.clustersEnd
      true) := by
  have hne : s.pwState ≠ pwDark ∧ s.pwState ≠ pwBoot := by
    rcases hstate with h | h <;> rw [h] <;> decide
  refine (if_neg hne.1).trans (if_neg ?_)
  rintro (h | h)
  · exact hne.2 h
  · exact Bool.false_ne_true (hchange.symm.trans h)

theorem State.pwDarkCmd_of_boot (h : s.pwState = pwBoot) : s.pwDarkCmd = s.pwRefuse := by
  have hne : s.pwState ≠ pwDark := by rw [h]; decide
  exact (if_neg hne).trans (if_pos (.inl h))

/-- The entry of DARK complete, from the state that its losses leave. -/
def State.darkEntered (s : State) : State :=
  (((s.setPower { s.sys.power with toDark := none }).setBoot { s.sys.boot with good := false }).wr
    PWR.STATE.CHANGING 0).wr PWR.STATE.STATE pwDark

theorem State.darkEntered_shows (s : State) : s.darkEntered.pwState = pwDark ∧
    s.darkEntered.on PWR.STATE.CHANGING = false ∧ s.darkEntered.sys.power.toDark = none ∧
    s.darkEntered.sys.boot.good = false ∧ s.darkEntered.mainUp = false := by
  have hstate : s.darkEntered.rd PWR.STATE.STATE = pwDark := State.rd_wr_self _ _ _
  have hchange : s.darkEntered.rd PWR.STATE.CHANGING = 0 :=
    (State.rd_wr_ne _ _ (Field.key_ne_of_apart rfl)).trans (State.rd_wr_self _ _ _)
  refine ⟨hstate, by rw [State.on, hchange]; rfl, rfl, rfl, ?main⟩
  case main =>
    rw [State.mainUp, hstate]
    simp

theorem execDarkReached_of_going {b : Bool} (h : s.sys.power.toDark = some b) :
    ∃ v : State, execDarkReached t s = .next v.darkEntered := by
  have h' : (s.advance t).sys.power.toDark = some b := h
  unfold execDarkReached
  extract_lets w keep told lost noticed kept refreshed gated fabric dark power boot entered
  rw [show w.sys.power.toDark = some b from h']
  exact ⟨dark, rfl⟩

end

/-- Settles O46, along what moves the package towards DARK and HUSH, and what a sample and a read of the port show. -/
theorem powerStates : Obligations.PowerStates := by
  unfold Obligations.PowerStates
  refine ⟨fun s t hvaux hok => ⟨fun h => (execPwrOkLow_of_high hvaux hok).trans (if_pos h),
      fun hdark hto => (execPwrOkLow_of_high hvaux hok).trans (if_neg (not_or.2 ⟨hdark, hto⟩))⟩,
    fun s t hvaux hok hdark => ⟨fun r hvhtr hself => execRailFault_of_main hvaux hok hdark hvhtr hself,
      ⟨_, execVhtrOutOfRange_of_up hvaux hok hdark, (s.advance t).vhtrFault_shows⟩⟩,
    fun s r hr => s.railBad_bits hr,
    fun s => ⟨fun h => s.unplanned_of_dark h, fun hdark hto => s.unplanned_shows hdark hto⟩,
    fun s l t hvaux => ⟨fun hcool hsampled => execThermalSample_of_cool hvaux hcool hsampled,
      fun htrip hhot => execThermalSample_of_hot hvaux htrip hhot⟩,
    fun s hvaux => ⟨_, if_pos hvaux, rfl, s.thermPort_shows.1, s.thermPort_shows.2, rfl, rfl⟩,
    fun s => ⟨fun hstate hchange hidle => congrArg Host.Outcome.next (State.pwHushCmd_of_idle hstate hchange hidle),
      fun h => congrArg Host.Outcome.next (if_pos h),
      fun hne h => ⟨_, congrArg Host.Outcome.next (State.pwHushCmd_of_refused hne h), s.pwRefuse_shows⟩,
      fun hstate hchange => congrArg Host.Outcome.next (State.pwActiveCmd_of_hush hstate hchange),
      fun h => ⟨_, congrArg Host.Outcome.next (State.pwActiveCmd_of_refused h), s.pwRefuse_shows⟩⟩,
    fun s t => ⟨fun hstate hchange =>
        congrArg Host.Outcome.next (State.pwDarkCmd_of_up (s := s.advance t) hstate hchange),
      fun h => ?boot, fun b h => ?reached⟩⟩
  case boot =>
    obtain ⟨hflag, hframe, hregs⟩ := (s.advance t).pwRefuse_shows
    exact ⟨_, congrArg Host.Outcome.next (State.pwDarkCmd_of_boot (s := s.advance t) h), hflag,
      (congrArg State.now hframe :), hregs⟩
  case reached =>
    obtain ⟨v, hv⟩ := execDarkReached_of_going (t := t) h
    exact ⟨_, hv, v.darkEntered_shows⟩

end Sys2Proof.Machine
end
